-- ==== Sys2Proof/Word.lean ====
section
/-!
DEFINITION. The word types of the VS-1024 block model: bytes as they travel on wires and lie in memory,
and the 32-bit and 64-bit words of registers and of the binary32 format.
-/

namespace Sys2Proof

/-- One byte of a frame, of a flash device or of memory. -/
abbrev Byte := BitVec 8

/-- A 32-bit word: FIELDS32, FLAGS32 and COMMAND32 objects, binary32 patterns. -/
abbrev Word32 := BitVec 32

/-- A 64-bit word: FIELDS64 and COUNTER64 objects. -/
abbrev Word64 := BitVec 64

end Sys2Proof
end

