-- ==== Sys2Proof/Machine/Tab.lean ====
section
/-!
DEFINITION. `Tab α`: sparse tables keyed by a number, with a default entry. Every array of like units in the
state (fibres, links, rings, pages of a table, bytes of memory) is a `Tab`, so that a reset state is an
empty list and equal contents are equal data. Canonical form: keys strictly rising, no entry equal to
the default.
-/

namespace Sys2Proof.Machine

/-- A sparse table: the entries that differ from the default, by rising key. -/
abbrev Tab (α : Type) := List (Nat × α)

/-- Insert an entry before the first larger key. -/
def Tab.ins {α : Type} (k : Nat) (v : α) : Tab α → Tab α
  | [] => [(k, v)]
  | (k', v') :: r => if k < k' then (k, v) :: (k', v') :: r else (k', v') :: Tab.ins k v r

/-- The entry at `k`, or the default `d`. -/
def Tab.get {α : Type} (d : α) : Tab α → Nat → α
  | [], _ => d
  | (k', v) :: r, k => if k' = k then v else Tab.get d r k

/-- Drop the entry at `k`. -/
def Tab.drop {α : Type} (t : Tab α) (k : Nat) : Tab α := t.filter (fun e => e.1 ≠ k)

/-- Write the entry at `k`; writing the default removes it. -/
def Tab.put {α : Type} [DecidableEq α] (d : α) (t : Tab α) (k : Nat) (v : α) : Tab α :=
  if v = d then t.drop k else Tab.ins k v (t.drop k)

/-- Change the entry at `k`. -/
def Tab.upd {α : Type} [DecidableEq α] (d : α) (t : Tab α) (k : Nat) (f : α → α) : Tab α :=
  t.put d k (f (t.get d k))

/-- The canonical form. -/
def Tab.wf {α : Type} [DecidableEq α] (d : α) : Tab α → Bool
  | [] => true
  | (k, v) :: r => (v ≠ d) && r.all (fun e => k < e.1) && Tab.wf d r

/-- The keys that hold something other than the default. -/
def Tab.keys {α : Type} (t : Tab α) : List Nat := t.map (·.1)

end Sys2Proof.Machine
end

