-- ==== Sys2Proof/Machine/Types.lean ====
section
/-!
DEFINITION. Names shared by the commands and the state: the sources of DOP requests (R395), the domains that
own rings and job slots (R346), units (R15), network-time instants, and what leaves the module.
-/

namespace Sys2Proof

/-- A source of DOP requests (R395). A station on the management Ethernet is its address and UDP port. -/
inductive DopSrc where
  | mgmt (addr port : Nat)
  | pf (hostB : Bool)
  | vf (hostB : Bool) (n : Nat)
  | quill (p1 : Bool)
  | margin (fibre : Nat)
deriving DecidableEq, Repr

/-- The four owning domains of R346: Host A, Host B, Quill P0 and Quill P1. -/
inductive Domain where
  | hostA | hostB | p0 | p1
deriving DecidableEq, Repr

/-- The on-die sensors of R43. -/
inductive Sensor where
  | core
  | photonic (e : Fin 16)
  | hatch
  | inkwell (s : Fin 4)
  | lpddr (i : Fin 16)
  | powerStage
deriving DecidableEq, Repr

/-- What demands throttle steps (R35): the input power reported at the tick, or a sensor of one of the three kinds that throttle. -/
inductive ThrottleCause where
  /-- the input power in W that the power stage reports -/
  | power (watts : Nat)
  | core | inkwell | lpddr
deriving DecidableEq, Repr

/-- The kinds of ring on a wavelength of a fibre (R89). -/
inductive Ring where
  | modulator | drop | addDrop
deriving DecidableEq, Repr

/-- The rows of R78's table as causes of a lane fault, whose codes 1 to 6 travel in LANE_DROP (R150). -/
inductive LaneFault where
  | power | align
  /-- uncorrectable codewords within 10 µs, to be judged by UCW_LIMIT -/
  | ucw (n : Nat)
  | ber | ring | farDrop
deriving DecidableEq, Repr

/-- Header fields that the typed DOP commands share: where the request came from, SESSION and TRANSACTION of
R397, and whether it found the shared queue of 64 requests full (R404). -/
structure Req where
  src : DopSrc
  session : Nat := 0
  transaction : Nat := 0
  queueFull : Bool := false
deriving DecidableEq, Repr

/-- What Chop's sensing front end gave over a record (R433): samples, their sums of v in µV, i in mA and v × i in nW, the
lowest and highest 1 ms mean of v in µV, and whether the input left 30.0 V to 40.0 V. -/
structure Metered where
  samples : Nat := 0
  sumV : Int := 0
  sumI : Int := 0
  sumVI : Int := 0
  vMin : Int := 0
  vMax : Int := 0
  outOfRange : Bool := false
deriving DecidableEq, Repr

/-- A write of a register or object: a DOP WRITE, or a host's 32-bit or 64-bit write into BAR0 of a function (R345). -/
inductive RegWrite where
  | object (r : Req) (idx : BitVec 16) (sub : BitVec 8) (data : List Byte)
  | bar (fn : Fin 130) (offset : BitVec 20) (value : BitVec 64) (wide : Bool)
  /-- the limit of R19 in W; no chapter names an object for it (log entry 147) -/
  | powerLimit (watts : Nat)
deriving DecidableEq, Repr

/-- A write of flags to be cleared: of a FLAGS32 object, or of a function's HOST_EVENTS (R406). -/
inductive FlagWrite where
  | object (r : Req) (idx : BitVec 16) (value : BitVec 32)
  | events (fn : Fin 130) (value : BitVec 32)
deriving DecidableEq, Repr

/-- What an SPDM response holds (R421, R423). The bytes of SPDM messages are DMTF's (log entry 31). -/
inductive SpdmAnswer where
  | version (v : List Nat)
  | capabilities
  | algorithms
  | digests (l : List (List Byte))
  | certificate (portion : List Byte) (remainder : Nat)
  | challengeAuth (signature : List Byte)
  | measurements (count : Nat) (blocks : List (Nat × List Byte)) (signature : Option (List Byte))
  /-- ERROR with UnsupportedRequest, Unspecified, UnexpectedRequest, VersionMismatch; and with a code that the spec does not give -/
  | unsupported
  | unspecified
  | unexpected
  | versionMismatch
  | error
deriving DecidableEq, Repr

/-- An SPDM request that the module answers (R421). `nonce` is the requester's. -/
inductive SpdmReq where
  | getVersion
  | getCapabilities (version : Nat)
  | negotiate (ed25519 sha512 : Bool)
  | getDigests
  | getCertificate (slot offset length : Nat)
  | challenge (slot : Nat) (nonce : List Byte)
  | getMeasurements (operation : Nat) (signed : Option (Nat × List Byte))
deriving DecidableEq, Repr

/-- What the environment does while the orderly shutdown table of R33 runs, and the three conditions that
step 6 of it looks at. `cutBefore` names the first step not run, when a trip (R44) or a fall below 27.5 V
(R34) cuts the table short. -/
structure ShutdownEnv where
  cutBefore : Option (Nat × Bool) := none
  warnHigh : Bool := false
  vinInRange : Bool := false
  enHigh : Bool := false
  /-- what Chop measured over the record that step 5 closes -/
  metered : Metered := {}
deriving DecidableEq, Repr

/-- Straps and other levels present on the lands when the ROM samples them (R48). -/
structure Straps where
  hostcfg : BitVec 2 := 3
  srisA : Bool := true
  srisB : Bool := true
  slotId : BitVec 4 := 15
  /-- SEAL_N reads 1: the jumper is not fitted -/
  sealOpen : Bool := true
  testMode : Bool := false
deriving DecidableEq, Repr

/-- What an optical engine's fibre shows of one wavelength's power: its average over 1 s, in 0.01 dBm (R98). -/
structure LineSample where
  power : Int
deriving DecidableEq, Repr

/-- What the Hatch controller does and sees at a trim (R122): the heater power it sets, in µW, and the outputs that have fallen below
−18.0 dBm. -/
structure HatchTrim where
  power : Nat
  dark : List (Fin 256) := []
deriving DecidableEq, Repr

/-- The kinds of window Ductus grants (R217): a changeover of a fibre, a Hatch commit, and the Proof tests. -/
inductive WindowFor where
  | changeover (fibre : Nat)
  | hatch
  | proofNib (nib : Nat)
  | proofPlane (plane : Nat)
deriving DecidableEq, Repr

/-- How a protected read or cell ends: good, with an error that the code corrects, or with one it only detects. -/
inductive Ecc where
  | good | corrected | uncorrected
deriving DecidableEq, Repr

/-- What an Inkwell line holds, by the regions of R329. -/
inductive InkItem where
  | activeBank | shadowBank
  /-- a prefix, by position in the list -/
  | prefixEntry (i : Nat)
  | program (n : Nat)
  /-- a chunk-thread, by range number and ordinal -/
  | thread (range ordinal : Nat)
  /-- a Ligature request's record, or its data, by request number -/
  | ligRecord (no : Nat)
  | ligData (no : Nat)
  /-- long-reach replay of a link -/
  | replay (p : Nat)
  /-- a frame held in the credit extension, by its place among the frames that wait for admission -/
  | creditFrame (i : Nat)
  /-- a spilled row of a Nib, by range number and ordinal of its chunk -/
  | spill (range ordinal : Nat)
  /-- a line that holds nothing now -/
  | empty
deriving DecidableEq, Repr

/-- A line that a patrol reads (R336): of LPDDR6 by line number, of Inkwell by an address and what its line holds. -/
inductive PatrolLine where
  | lpddr (line : Nat)
  | inkwell (addr : Fin 34359738368) (item : InkItem)
deriving DecidableEq, Repr

/-- What reaches WAIT_LIMIT_US on a Nib (R269): an invocation that waits, by chunk-thread, or a context in RECV or SWAIT. -/
inductive NibWait where
  | invocation (range : Nat) (ordinal : Fin 4194304)
  | context (c : Fin 64)
deriving DecidableEq, Repr

/-- Everything the module sends or raises outside itself, in the order it does so. -/
inductive Output where
  /-- a margin frame, header to CHECK (R145) -/
  | marginFrame (fibre : Nat) (bytes : List Byte)
  /-- ABORT: the frame in transmission cut by an error block, then four copies (R152) -/
  | marginAbort (fibre : Nat) (bytes : List Byte)
  /-- a data frame on a lane of a link, behind its 48-bit link word (R132) -/
  | dataFrame (link lane linkWord : Nat) (bytes : List Byte)
  /-- a link control block behind its link word (R132, R133) -/
  | controlBlock (link linkWord : Nat) (bytes : List Byte)
  /-- a DOP response or NOTIFY (R397) towards its source -/
  | dop (dst : DopSrc) (bytes : List Byte)
  /-- a frame on the management lane (R401) -/
  | mgmt (bytes : List Byte)
  /-- an interrupt message of a function's vector (R359) -/
  | msix (function vector : Nat)
  /-- a configuration completion of a host port's function: `true` Successful Completion (R59) -/
  | pcieConfig (hostB : Bool) (success : Bool)
  /-- the value returned to a 32-bit or 64-bit register read (R4) -/
  | readData (requester : DopSrc) (value : Nat)
  /-- a time-of-day message (R371) -/
  | tod (bytes : List Byte)
  /-- a hardware error interrupt or bus error to a Quill partition (R324, R334) -/
  | quillError (p1 : Bool) (busError : Bool)
  /-- the memory description given to a partition's boot firmware: its region and the packages whose pages are present (R332) -/
  | quillMemory (p1 : Bool) (start size : Nat) (present : BitVec 16)
  /-- a frame handed to Quill at attachment 162 (R10) -/
  | quillFrame (bytes : List Byte)
  /-- an SPDM response on a connection: DOE of Host A 0, of Host B 1, MCTP 2 -/
  | spdm (conn : Nat) (a : SpdmAnswer)
  /-- reset of a Quill partition or core, `true` released -/
  | quillReset (core : Nat) (released : Bool)
deriving DecidableEq, Repr

end Sys2Proof
end

