-- ==== Sys2Proof/Syntax.lean ====
section
/-!
DEFINITION. The commands of the block: one constructor per row of spec/opcode_table.json, in the table's order, with the
operands that the rule a row names gives it. A unit number is a `Fin`, so that every command of the type names a
unit that exists.
-/

namespace Sys2Proof

/-- The commands. -/
inductive Instr where
  /-- R32 -/
  | enRise
  /-- R32 -/
  | enFall (env : ShutdownEnv)
  /-- R33 -/
  | holdupWarnAssert (env : ShutdownEnv)
  /-- R34 -/
  | vinUndervoltage
  /-- R29 -/
  | vinOvervoltage (env : ShutdownEnv)
  /-- R29 -/
  | vinBelow30v
  /-- R29 -/
  | vinAbove40v
  /-- R29 -/
  | inputCurrentLimit
  /-- R29 -/
  | ilimitTimeout
  /-- R29 -/
  | autoRestart
  /-- R29 -/
  | holdupRestart
  /-- R27 -/
  | vio1v8Overload
  /-- R37 -/
  | sysclkLoss
  /-- R37 -/
  | sysclkAbsent
  /-- R37 -/
  | sysclkReturn
  /-- R45 -/
  | railGroupRegulated
  /-- R46 -/
  | railFault
  /-- R46 -/
  | railRetry
  /-- R35 -/
  | throttleDemandRise (c : ThrottleCause)
  /-- R35 -/
  | throttleDemandFall (c : ThrottleCause)
  /-- R43 -/
  | sensorWarning (x : Sensor) (up : Bool)
  /-- R35 -/
  | sensorThrottle (x : Sensor) (up : Bool)
  /-- R44 -/
  | sensorTrip (x : Sensor)
  /-- R47 -/
  | scribeResetRelease (straps : Straps)
  /-- R54 -/
  | bankSelect
  /-- R61 -/
  | scribeFirmwareStart
  /-- R479 -/
  | configLoad
  /-- R61 -/
  | sramInitDone
  /-- R62 -/
  | lpddr6Trained (failed : BitVec 16)
  /-- R62 -/
  | inkwellTrained (failed : BitVec 4)
  /-- R61 -/
  | quillRelease
  /-- R61 -/
  | photonicLoad
  /-- R61 -/
  | combStable
  /-- R61 -/
  | ringsLocked
  /-- R62 -/
  | linksStageEnd
  /-- R64 -/
  | serviceSet
  /-- R59 -/
  | pcieConfigRequest (hostB : Bool) (speed : Fin 7) (width : Fin 17) (sriov : Option (Bool × Fin 64))
  /-- R58 -/
  | perstDeassert (hostB : Bool)
  /-- R59 -/
  | perstAssert (hostB : Bool)
  /-- R66 -/
  | warmRstAssert
  /-- R66 -/
  | warmRstRelease
  /-- R66 -/
  | warmPufRelease
  /-- R67 -/
  | warmMemoryReady (failedLpd : BitVec 16) (failedInk : BitVec 4)
  /-- R67 -/
  | warmQuillRestart
  /-- R412 -/
  | recoveryBeginLoad (r : Req) (arg : BitVec 24)
  /-- R57 -/
  | recoveryInstall (r : Req) (arg : BitVec 24)
  /-- R55 -/
  | dataRecordWrite (typ : BitVec 16) (payload : List Byte)
  /-- R72 -/
  | fibreCfgWrite (r : Req) (f : Fin 64) (value : BitVec 64)
  /-- R81 -/
  | marginLightDetect (f : Fin 64)
  /-- R150 -/
  | helloSend (f : Fin 64)
  /-- R74 -/
  | helloReceive (f : Fin 64) (bytes : List Byte)
  /-- R75 -/
  | laneAligned (f : Fin 64) (w : Fin 16)
  /-- R75 -/
  | alignTimeout (f : Fin 64) (w : Fin 16)
  /-- R80 -/
  | soakEnd (f : Fin 64) (w : Fin 16) (pass : Bool) (second : Bool)
  /-- R80 -/
  | laneAddReceive (f : Fin 64) (bytes : List Byte)
  /-- R80 -/
  | laneAddConfirmReceive (f : Fin 64) (bytes : List Byte)
  /-- R79 -/
  | laneFault (f : Fin 64) (w : Fin 16) (cause : LaneFault)
  /-- R80 -/
  | holddownExpiry (f : Fin 64) (w : Fin 16)
  /-- R79 -/
  | laneDropReceive (f : Fin 64) (bytes : List Byte)
  /-- R77 -/
  | trainingAttemptTimeout (p : Fin 1024)
  /-- R81 -/
  | rxLos (f : Fin 64)
  /-- R81 -/
  | marginLossTimeout (f : Fin 64)
  /-- R78, R374; `errors`, `corrected` and `lost` are the window's bit errors, corrected and uncorrectable codewords -/
  | berWindowEnd (f : Fin 64) (w : Fin 16) (ber errors corrected lost : Nat)
  /-- R90 -/
  | heaterUpdate (f : Fin 64) (w : Fin 17) (ring : Ring) (demand : Int)
  /-- R90 -/
  | ringCapture (f : Fin 64) (w : Fin 17) (ring : Ring)
  /-- R90 -/
  | ringUnlock (f : Fin 64) (w : Fin 17) (ring : Ring)
  /-- R91 -/
  | trialStart (f : Fin 64) (w : Fin 16) (ring : Ring)
  /-- R91 -/
  | trialSubwindowRead (f : Fin 64) (errors : Nat) (worse : Bool)
  /-- R91 -/
  | trialWindowEnd (f : Fin 64)
  /-- R93 -/
  | pilotWordReceive (f : Fin 64) (w : Fin 17) (word : BitVec 16)
  /-- R93 -/
  | pilotTimeout (f : Fin 64) (w : Fin 17)
  /-- R93 -/
  | pilotRetryExpiry (f : Fin 64) (w : Fin 17)
  /-- R94 -/
  | pilotWordsLost (f : Fin 64) (w : Fin 17)
  /-- R98 -/
  | linePowerSample (f : Fin 64) (w : Fin 17) (x : LineSample)
  /-- R103 -/
  | fadeDropRelease (f : Fin 64) (w : Fin 16)
  /-- R99 -/
  | spareReady (e : Fin 16)
  /-- R99 -/
  | spareOff (e : Fin 16)
  /-- R100 -/
  | changeoverNoticeSend (e : Fin 16)
  /-- R100 -/
  | changeoverAckReceive (f : Fin 64) (bytes : List Byte)
  /-- R101 -/
  | changeoverAckTimeout (e : Fin 16)
  /-- R100 -/
  | changeoverWindowOpen (e : Fin 16)
  /-- R100 -/
  | changeoverWindowEnd (e : Fin 16)
  /-- R101 -/
  | changeoverNoticeReceive (f : Fin 64) (bytes : List Byte)
  /-- R104 -/
  | sourceFailure (e : Fin 16) (src : Fin 5)
  /-- R104 -/
  | spareRouted (e : Fin 16)
  /-- R109 -/
  | sourceReinstate (r : Req) (e : Fin 16) (src : Fin 16)
  /-- R109 -/
  | changeoverNow (r : Req) (e : Fin 16) (src : Fin 16)
  /-- R217 -/
  | windowRequest (w : WindowFor)
  /-- R117 -/
  | hatchCommit (r : Req) (count : Nat) (tag : Nat)
  /-- R115 -/
  | hatchClearStaging (r : Req) (tag : Nat)
  /-- R115 -/
  | hatchCancel (r : Req) (tag : Nat)
  /-- R113 -/
  | hatchRouteDone (found : List (List (Nat × Nat × Nat)))
  /-- R117 -/
  | hatchDrainEnd
  /-- R117 -/
  | circuitNoticeSend
  /-- R117 -/
  | circuitAckReceive (f : Fin 64) (bytes : List Byte)
  /-- R120 -/
  | circuitAckTimeout
  /-- R117 -/
  | hatchApply
  /-- R117 -/
  | hatchSettled
  /-- R117 -/
  | hatchCommitDone (failed : List (Fin 256))
  /-- R122 -/
  | hatchTrimTick (k : Fin 1920) (heater : HatchTrim)
  /-- R122 -/
  | elementFailure (k : Fin 1920) (ratio : Nat)
  /-- R121 -/
  | darkInput (inp : Fin 256) (light : Bool)
  /-- R151 -/
  | relayFrameReceive (f : Fin 64) (bytes : List Byte)
  /-- R130 -/
  | dataFrameReceive (p : Fin 1024) (linkWord : BitVec 48) (bytes : List Byte)
  /-- R133 -/
  | controlBlockReceive (p : Fin 1024) (bytes : List Byte) (ecc : Ecc)
  /-- R133 -/
  | controlBlockSend (p : Fin 1024)
  /-- R134 -/
  | reorderHoldExpiry (p : Fin 1024)
  /-- R135 -/
  | replayTimeout (p : Fin 1024) (ecc : Ecc)
  /-- R207 -/
  | egressSelect (p : Fin 1024)
  /-- R147 -/
  | keepaliveReceive (f : Fin 64) (bytes : List Byte)
  /-- R148 -/
  | keepaliveSend (f : Fin 64)
  /-- R148 -/
  | marginResendTimeout (f : Fin 64)
  /-- R148 -/
  | marginLossDetect (f : Fin 64)
  /-- R150 -/
  | errorReportSend (f : Fin 64) (counts : List Nat)
  /-- R150 -/
  | errorReportReceive (f : Fin 64) (bytes : List Byte)
  /-- R150 -/
  | pilotFaultReceive (f : Fin 64) (bytes : List Byte)
  /-- R152 -/
  | abortReceive (f : Fin 64) (bytes : List Byte)
  /-- R131 -/
  | carryReceive (f : Fin 64) (bytes : List Byte)
  /-- R164 -/
  | frameLookup (k : Fin 8) (upsets : List (Nat × Nat))
  /-- R168 -/
  | learnApply (overrun : Bool)
  /-- R168 -/
  | ageScan
  /-- R172 -/
  | checkBitRepair (others : BitVec 8)
  /-- R174 -/
  | tableApply (r : Req) (arg : BitVec 24)
  /-- R174 -/
  | tableClearStaging (r : Req) (arg : BitVec 24)
  /-- R166 -/
  | tableInsertExact
  /-- R173 -/
  | tableDeleteExact
  /-- R173 -/
  | tableModifyResult
  /-- R170 -/
  | tableAddPrefix
  /-- R170 -/
  | tableDeletePrefix
  /-- R171 -/
  | tableWriteNextHop
  /-- R173 -/
  | tableWriteVlanQuarter
  /-- R182 -/
  | frameAdmit (src : Fin 164) (link : Nat) (tc : Fin 8)
  /-- R184 -/
  | cellTimeMatch
  /-- R186 -/
  | cellArrive (plane : Fin 10) (dst : Fin 164) (flip : BitVec 128) (ecc : Ecc)
  /-- R186 -/
  | reseqGapTimeout (dst : Fin 164) (src : Fin 164)
  /-- R192 -/
  | planeWithdraw (r : Req) (arg : BitVec 24)
  /-- R192 -/
  | planeRestore (r : Req) (arg : BitVec 24)
  /-- R192 -/
  | planeDrained (p : Fin 10)
  /-- R14 -/
  | coordTableCommit (coords : List (Fin 1024 × Fin 1024))
  /-- R197 -/
  | coordCommitApply
  /-- R210 -/
  | schedBeginLoad (r : Req) (arg : BitVec 24)
  /-- R209 -/
  | schedValidate (r : Req) (arg : BitVec 24)
  /-- R209 -/
  | schedValidateDone
  /-- R211 -/
  | schedArm (r : Req) (arg : BitVec 24)
  /-- R210 -/
  | schedDisarm (r : Req) (arg : BitVec 24)
  /-- R210 -/
  | schedDeactivate (r : Req) (arg : BitVec 24)
  /-- R210 -/
  | schedLoadBoot (r : Req) (arg : BitVec 24)
  /-- R210 -/
  | schedStoreBoot (r : Req) (arg : BitVec 24)
  /-- R212 -/
  | swapReadinessCheck
  /-- R212 -/
  | schedSwap
  /-- R214 -/
  | schedJoin
  /-- R215 -/
  | syncLoss
  /-- R216 -/
  | schedActiveRepeat
  /-- R216 -/
  | schedFrameReceive (f : Fin 64) (bytes : List Byte)
  /-- R219 -/
  | bucketRefresh
  /-- R220 -/
  | shaperCfgWrite (r : Req) (b : Fin 4096) (value : BitVec 64)
  /-- R220 -/
  | policerCfgWrite (r : Req) (b : Fin 4096) (value : BitVec 64)
  /-- R285 -/
  | nibFrameIntake (n : Fin 32) (ecc : Ecc)
  /-- R287 -/
  | chunkDoneAdmit (range : Nat) (ordinal : Fin 4194304)
  /-- R289 -/
  | chunkTimeout (range : Nat) (ordinal : Fin 4194304)
  /-- R244 -/
  | passStart (n : Fin 32)
  /-- R241 -/
  | passComplete (n : Fin 32) (ecc : Ecc)
  /-- R243 -/
  | batchTimeout (n : Fin 32)
  /-- R254 -/
  | programInvoke (range : Nat) (ordinal : Fin 4194304)
  /-- R256 -/
  | contextStart (n : Fin 32)
  /-- R261 -/
  | programFetch (n : Fin 32) (ecc : Ecc)
  /-- R269 -/
  | waitLimitExpiry (n : Fin 32) (what : NibWait)
  /-- R263 -/
  | halt (n : Fin 32) (c : Fin 64)
  /-- R263 -/
  | jump (n : Fin 32) (c : Fin 64)
  /-- R263 -/
  | bz (n : Fin 32) (c : Fin 64)
  /-- R263 -/
  | bnz (n : Fin 32) (c : Fin 64)
  /-- R263 -/
  | loop (n : Fin 32) (c : Fin 64)
  /-- R263 -/
  | movi (n : Fin 32) (c : Fin 64)
  /-- R263 -/
  | add (n : Fin 32) (c : Fin 64)
  /-- R263 -/
  | sub (n : Fin 32) (c : Fin 64)
  /-- R263 -/
  | mul (n : Fin 32) (c : Fin 64)
  /-- R263 -/
  | shift (n : Fin 32) (c : Fin 64)
  /-- R263 -/
  | ldx (n : Fin 32) (c : Fin 64) (ecc : Ecc)
  /-- R263 -/
  | stx (n : Fin 32) (c : Fin 64)
  /-- R264 -/
  | recv (n : Fin 32) (c : Fin 64)
  /-- R264 -/
  | recvComplete (n : Fin 32) (c : Fin 64)
  /-- R264 -/
  | emit (n : Fin 32) (c : Fin 64) (ecc : Ecc)
  /-- R263 -/
  | nibCopy (n : Fin 32) (c : Fin 64) (ecc : Ecc)
  /-- R263 -/
  | acc (n : Fin 32) (c : Fin 64) (ecc : Ecc)
  /-- R263 -/
  | round (n : Fin 32) (c : Fin 64) (ecc : Ecc)
  /-- R265 -/
  | pass (n : Fin 32) (c : Fin 64)
  /-- R266 -/
  | asyncInstrComplete (n : Fin 32) (c : Fin 64) (seq : Nat)
  /-- R268 -/
  | swait (n : Fin 32) (c : Fin 64)
  /-- R268 -/
  | swaitMet (n : Fin 32) (c : Fin 64)
  /-- R268 -/
  | sadd (n : Fin 32) (c : Fin 64)
  /-- R268 -/
  | ssub (n : Fin 32) (c : Fin 64)
  /-- R274 -/
  | skiddingSample (n : Fin 32) (skid : Fin 17)
  /-- R260 -/
  | progBeginLoad (r : Req) (arg : BitVec 24)
  /-- R259 -/
  | progInstall (r : Req) (arg : BitVec 24)
  /-- R260 -/
  | progUninstall (r : Req) (arg : BitVec 24)
  /-- R260 -/
  | progPin (r : Req) (arg : BitVec 24)
  /-- R260 -/
  | progUnpin (r : Req) (arg : BitVec 24)
  /-- R260 -/
  | progLoadAbandon
  /-- R287 -/
  | reduce (g : Fin 4096)
  /-- R281 -/
  | program (g : Fin 4096)
  /-- R294 -/
  | counts (g : Fin 4096)
  /-- R290 -/
  | rangeRegister (g : Fin 4096)
  /-- R290 -/
  | registerTimeout (g : Fin 4096)
  /-- R296 -/
  | semOpWait (g : Fin 4096)
  /-- R296 -/
  | semWaitMet (g : Fin 4096)
  /-- R296 -/
  | semWaitTimeout (g : Fin 4096)
  /-- R296 -/
  | semOpAdd (g : Fin 4096)
  /-- R296 -/
  | semOpSub (g : Fin 4096)
  /-- R297 -/
  | semSave (g : Fin 4096)
  /-- R297 -/
  | semRestore (g : Fin 4096)
  /-- R312 -/
  | memRead
  /-- R314 -/
  | memWrite
  /-- R313 -/
  | memAtomic
  /-- R319 -/
  | memResponse
  /-- R320 -/
  | memRetryAfter
  /-- R320 -/
  | homeRetryResend (id : Fin 65536)
  /-- R320 -/
  | homeTimeout (id : Fin 65536)
  /-- R316 -/
  | poolAccessDone (no : Nat) (inks : List (Nat × Bool × Ecc)) (ecc : Ecc)
  /-- R335 -/
  | zeroFillDone
  /-- R336 -/
  | patrolRead (x : PatrolLine) (ecc : Ecc)
  /-- R339 -/
  | poolSizeWrite (r : Req) (value : BitVec 32)
  /-- R350 -/
  | sqTailDoorbell (fn : Fin 130) (ring : Nat) (value : BitVec 32) (writes : List (Nat × List Byte)) (faults : List Nat)
  /-- R350 -/
  | cqHeadDoorbell (fn : Fin 130) (ring : Nat) (value : BitVec 32)
  /-- R350 -/
  | ringEnable (fn : Fin 130) (ring : Nat) (value : BitVec 32)
  /-- R350 -/
  | ringDisable (fn : Fin 130) (ring : Nat) (value : BitVec 32)
  /-- R348 -/
  | vfAssignWrite (hostB : Bool) (v : Fin 64) (value : BitVec 64)
  /-- R351 -/
  | descriptorIssue (g : Fin 4096)
  /-- R353 -/
  | nop (g : Fin 4096)
  /-- R357 -/
  | installProgram (g : Fin 4096)
  /-- R358 -/
  | copy (g : Fin 4096)
  /-- R359 -/
  | intAck (fn : Fin 130) (value : BitVec 32)
  /-- R359 -/
  | msixUnmask (fn : Fin 130) (vector : Fin 513)
  /-- R361 -/
  | mboxGo (fn : Fin 130) (value : BitVec 32) (frame : List Byte) (queueFull : Bool)
  /-- R362 -/
  | functionLevelReset (fn : Fin 128)
  /-- R362 -/
  | pcieLinkDown (hostB : Bool)
  /-- R460 -/
  | heartbeatTick
  /-- R461 -/
  | recoverWrite (fn : Fin 130) (value : BitVec 32)
  /-- R461 -/
  | claimWindowExpiry
  /-- R366 -/
  | offsetSample
  /-- R366 -/
  | estimateLoss
  /-- R366 -/
  | sourceUnusable
  /-- R366 -/
  | holdoverExpiry
  /-- R368 -/
  | ptpSyncReceive (f : Fin 64) (bytes : List Byte)
  /-- R368 -/
  | ptpDelayReqReceive (f : Fin 64) (bytes : List Byte)
  /-- R368 -/
  | ptpDelayRespReceive (f : Fin 64) (bytes : List Byte)
  /-- R368 -/
  | ptpAnnounceReceive (f : Fin 64) (bytes : List Byte)
  /-- R368 -/
  | announceReceiptTimeout (f : Fin 64)
  /-- R368 -/
  | ptpSyncSend (f : Fin 64)
  /-- R368 -/
  | ptpAnnounceSend (f : Fin 64)
  /-- R368 -/
  | ptpDelayReqSend (f : Fin 64)
  /-- R370 -/
  | ppsInEdge (width : Nat)
  /-- R370 -/
  | todInMessage (bytes : List Byte)
  /-- R370 -/
  | ppsMissing
  /-- R371 -/
  | ppsOutEdge
  /-- R371 -/
  | todOutSend
  /-- R372 -/
  | triggerFire (t : Fin 16)
  /-- R385 -/
  | trigArm (r : Req) (t : Fin 16) (value : BitVec 32)
  /-- R385 -/
  | trigDisarm (r : Req) (t : Fin 16) (arg : BitVec 24)
  /-- R376 -/
  | snapArm (r : Req) (arg : BitVec 24)
  /-- R376 -/
  | snapDisarm (r : Req) (arg : BitVec 24)
  /-- R377 -/
  | snapHold (r : Req) (arg : BitVec 24)
  /-- R377 -/
  | snapRelease (r : Req) (arg : BitVec 24)
  /-- R376 -/
  | snapStrobe
  /-- R379 -/
  | histCfgWrite (r : Req) (h : Fin 16) (value : BitVec 64)
  /-- R381 -/
  | sampleDataRead (r : Req)
  /-- R381 -/
  | sampleDrain (n : Fin 32)
  /-- R404 -/
  | dopRead (r : Req) (idx : BitVec 16) (sub : BitVec 8)
  /-- R404 -/
  | registerWrite (w : RegWrite)
  /-- R406 -/
  | flagClear (w : FlagWrite)
  /-- R4 -/
  | lowWordRead (fn : Fin 130) (offset : BitVec 20) (wide : Bool)
  /-- R405 -/
  | dopSegRead (r : Req) (idx : BitVec 16) (sub : BitVec 8) (offset : BitVec 32)
  /-- R405 -/
  | dopSegWrite (r : Req) (idx : BitVec 16) (sub : BitVec 8) (offset : BitVec 32) (last : Bool) (data : List Byte)
  /-- R407 -/
  | dopOccurrence (r : Req) (idx : BitVec 16) (sub : BitVec 8) (clear : Bool)
  /-- R398 -/
  | dopDescribe (r : Req) (idx : BitVec 16) (sub : BitVec 8)
  /-- R408 -/
  | dopSubscribe (r : Req) (notifyMs : BitVec 16)
  /-- R408 -/
  | notifySend (src : DopSrc)
  /-- R408 -/
  | subscriptionExpiry (src : DopSrc)
  /-- R401 -/
  | mgmtFrameReceive (bytes : List Byte) (queueFull : Bool)
  /-- R411 -/
  | warmResetCommand (r : Req) (arg : BitVec 24)
  /-- R424 -/
  | sessionOpen (r : Req) (cred : BitVec 8) (nonce : BitVec 256)
  /-- R425 -/
  | sessionAuth (r : Req) (signature : BitVec 512)
  /-- R424 -/
  | sessionClose (r : Req)
  /-- R425 -/
  | sessionTimeout (src : DopSrc) (id : BitVec 16)
  /-- R422 -/
  | mctpPacket (r : Req) (packet : List Byte)
  /-- R421 -/
  | getVersion (conn : Fin 3)
  /-- R421 -/
  | getCapabilities (conn : Fin 3) (version : BitVec 8)
  /-- R421 -/
  | negotiateAlgorithms (conn : Fin 3) (ed25519 sha512 : Bool)
  /-- R421 -/
  | getDigests (conn : Fin 3)
  /-- R421 -/
  | getCertificate (conn : Fin 3) (slot : BitVec 8) (offset length : BitVec 16)
  /-- R421 -/
  | challenge (conn : Fin 3) (slot : BitVec 8) (nonce : List Byte)
  /-- R423 -/
  | getMeasurements (conn : Fin 3) (operation : BitVec 8) (signed : Option (BitVec 8 × List Byte))
  /-- R428 -/
  | debugUnlock (r : Req) (signature : BitVec 512)
  /-- R426 -/
  | credWrite (r : Req) (k : Fin 8) (value : BitVec 320)
  /-- R427 -/
  | tapExtest
  /-- R427 -/
  | tapReset
  /-- R430 -/
  | tamperSensorFire (k : Fin 7)
  /-- R439 -/
  | sealChange (unsealed : Bool) (metered : Metered)
  /-- R432 -/
  | chopStartupData
  /-- R434 -/
  | accountFeed (lost : Bool)
  /-- R435 -/
  | recordBoundary (metered : Metered)
  /-- R437 -/
  | recordStoreConfirm (no : BitVec 32)
  /-- R440 -/
  | intervalMinWrite (r : Req) (value : BitVec 8)
  /-- R440 -/
  | calWrite (r : Req) (value : BitVec 128)
  /-- R434 -/
  | accountMapWrite (r : Req) (p : Fin 1024) (value : BitVec 16)
  /-- R446 -/
  | jobPrepare (g : Fin 4096)
  /-- R452 -/
  | jobTeardown (g : Fin 4096)
  /-- R455 -/
  | jobAbort (g : Fin 4096)
  /-- R448 -/
  | jobAckReceive (f : Fin 64) (bytes : List Byte)
  /-- R448 -/
  | jobShareReceive (f : Fin 64) (bytes : List Byte)
  /-- R449 -/
  | jobCommitReceive (f : Fin 64) (bytes : List Byte)
  /-- R449 -/
  | jobCancelReceive (f : Fin 64) (bytes : List Byte)
  /-- R447 -/
  | jobTeardownReceive (f : Fin 64) (bytes : List Byte)
  /-- R455 -/
  | jobAbortReceive (f : Fin 64) (bytes : List Byte)
  /-- R449 -/
  | commitDecision (j : Fin 4096)
  /-- R449 -/
  | jobGoLive (j : Fin 4096)
  /-- R450 -/
  | prepareTimeout (j : Fin 4096)
  /-- R452 -/
  | drainEnd (j : Fin 4096)
  /-- R453 -/
  | quarantineEnd (j : Fin 4096)
  /-- R454 -/
  | scrubRangeDone
  /-- R458 -/
  | unitFault (unit : BitVec 16) (cause : Fin 12) (detail : BitVec 64)
  /-- R476 -/
  | blotterDumpNow (r : Req) (arg : BitVec 24)
  /-- R465 -/
  | blotterDumpEnd (silent cut absent : List Nat)
  /-- R476 -/
  | blotterSelect (r : Req) (arg : BitVec 24)
  /-- R466 -/
  | proofPeriodStart
  /-- R473 -/
  | proofTestNow (r : Req) (arg : BitVec 24)
  /-- R467 -/
  | proofResult (pass : Bool)
  /-- R468 -/
  | faultHistoryWrite
  /-- R469 -/
  | healthDecay
  /-- R472 -/
  | digestReceive (f : Fin 64) (bytes : List Byte)
  /-- R472 -/
  | digestTimeout (own : Bool) (handle : BitVec 24) (chunk : BitVec 32)
  /-- R29 -/
  | vinStartThreshold
  /-- R145 -/
  | marginFrameDiscard (f : Fin 64) (bytes : List Byte)
  /-- R448 -/
  | jobShareSend (j : Fin 4096)
  /-- R466 -/
  | proofWindowOpen
  /-- R277 -/
  | proofWindowEnd
  /-- R324 -/
  | quillMemoryAccess (p1 : Bool) (addr : Nat) (store : List Byte) (l3 : Ecc) (dirty : Bool) (ecc : Ecc)
deriving DecidableEq, Repr

end Sys2Proof
end

