-- ==== Sys2Proof/Config.lean ====
section
/-!
DEFINITION. What the spec leaves open or gives to standards outside it: free values (constants with no body) and
uninterpreted functions for cryptography and for layouts the spec does not state. No proof can see a
value of theirs. The counter that a free value is applied to is the state's `freeCount`.
-/

namespace Sys2Proof.Config

/-- The free values (log entry 2): value number n of a run. -/
opaque freeWord : Nat → Word64

/-- What a counter of R375 reads whose events the spec gives no command, by instant, index and subindex (log entry 146). -/
opaque freeCounter : Nat → Nat → Nat → Word64

/-- The byte at an LPDDR6 address where R68 leaves the contents undefined, or at a place of a failing table location (R478); the first argument
numbers the occasion (log entries 145 and 164). -/
opaque freeMem : Nat → Nat → Byte

/-- SHA-512 (FIPS 180-4), 64 bytes, uninterpreted (log entry 3). -/
opaque sha512 : List Byte → Vector Byte 64

/-- Ed25519 verification (RFC 8032): public key, message, signature. -/
opaque ed25519Verify : List Byte → List Byte → List Byte → Bool

/-- Ed25519 signature of a message under one of the module's private keys: a key is named by its number. -/
opaque ed25519Sign : Nat → List Byte → Vector Byte 64

/-- The public keys of the module: device key 0, alias key 1, Chop's key 2; each depends on the helper data. -/
opaque publicKey : Nat → List Byte → Vector Byte 32

/-- Whether reconstruction of the PUF secret from helper data and the captured array succeeds (R419). -/
opaque pufReconstructs : List Byte → Vector Byte 65536 → Bool

/-- The power-up state of the 64 KiB PUF array at one capture (R49), by number of the capture. -/
opaque pufArray : Nat → Vector Byte 65536

/-- Whether Chop derives its key from the helper data and its own 4 KiB PUF region (R432). -/
opaque chopReconstructs : List Byte → Bool

/-- The release keys of R416, by key index. -/
opaque releaseKey : Nat → Vector Byte 32

/-- The values a module configuration record holds, parameters and identity objects: object index, subindex
and value. The spec
gives the record's payload no layout (log entry 4). -/
opaque configValues : List Byte → List (Nat × Nat × Nat)

/-- The module configuration record's payload after one value is stored in it (R339, R346, R384, R426). -/
opaque configStore : List Byte → Nat → Nat → Nat → List Byte

/-- The Quill core counts of P0 and P1 that a module configuration record holds (R9). -/
opaque configCores : List Byte → Nat × Nat

/-- What a photonic calibration record holds (R53, R97): the commissioning reference of a line in 0.01 dBm, by fibre and
line; the spec gives the payload no layout (log entry 4). -/
opaque calibrationRef : List Byte → Nat → Nat → Int

/-- Frames that the command processor, Quill or the host interface takes from its receive buffer in a cell time, by attachment and
cell time: the spec gives those units no rate (log entry 48). -/
opaque unitTakes : Nat → Nat → Nat

/-- Heater starting points in µW, by ring kind, fibre and line (R93). -/
opaque calibrationHeater : List Byte → Nat → Nat → Nat → Nat

/-- The heater power in µW at which the bus sweep finds modulator ring k on line k of a fibre (R93), by occasion. -/
opaque sweptHeater : Nat → Nat → Nat → Fin 30001

/-- A photonic calibration record made from the values measured in a full sweep (R65). -/
opaque calibrationRecord : List Nat → List Byte

/-- The processing part, in ns, of the round trip of a fibre pair: at most 0.9 µs, the value is not given (R83). -/
opaque linkProcessing : Fin 901

/-- The objects of a unit's section in a Blotter dump (R465), as index, subindex and value: which belong to which unit is not stated,
nor their values at the instant of the read; by free-value number and unit identifier (log entry 32). -/
opaque blotterData : Nat → Nat → List (Nat × Nat × List Byte)

/-- clockAccuracy and offsetScaledLogVariance that the module advertises as its own; the spec gives neither (log entry 36). -/
opaque ptpAccuracy : Fin 256
opaque ptpVariance : Fin 65536

/-- The Chop ROM's SHA-512 digest after its first 8 bytes (R423, R440). -/
opaque chopRomDigest : Vector Byte 56

/-- The alias certificate: X.509 bytes by the helper data and the digest of measurements 1 to 4 (R420). -/
opaque aliasCertificate : List Byte → List Byte → List Byte

/-- The transcript that a signed SPDM answer covers, which DMTF DSP0274 defines: by number of the answer and the
requester's nonce (log entry 31). -/
opaque spdmTranscript : Nat → List Byte → List Byte

/-- The bytes DMTF DSP0274 gives an answer under a negotiated version (log entry 31). -/
opaque spdmBytes : Nat → SpdmAnswer → List Byte

/-- Whether an ASYM_PS value that is not a whole number of 2^−32 ns is carried up (log entry 2). -/
opaque asymmetryBit : Nat → Fin 2

/-- controlField of a PTP message type, which IEEE 1588-2019 leaves obsolete (log entry 36). -/
opaque ptpControl : Nat → Fin 256

end Sys2Proof.Config
end

