-- ==== Sys2Proof/Machine/Bytes.lean ====
section
/-!
DEFINITION. Bytes and bit fields: numbers as byte strings in both orders (R1), bit-field extraction, and the
checks the spec computes over byte strings: CRC-8 of link words (R132), CRC-16 of cell headers (R180),
CRC-32 of IEEE 802.3, and CRC-32C of records and margin frames (R51).
-/

namespace Sys2Proof.Machine

/-- Bits `hi` down to `lo` of a number (the manual's `x[hi:lo]`). -/
def bits (x hi lo : Nat) : Nat := x / 2 ^ lo % 2 ^ (hi - lo + 1)

/-- Bit `k` of a number. -/
def bit (x k : Nat) : Bool := x / 2 ^ k % 2 = 1

/-- 1 or 0. -/
def ofBool (b : Bool) : Nat := if b then 1 else 0

/-- Division rounded up. -/
def ceilDiv (a b : Nat) : Nat := (a + b - 1) / b

/-- The number a byte string spells, first byte most significant (wire order, R1). -/
def beNat (l : List Byte) : Nat := l.foldl (fun a b => a * 256 + b.toNat) 0

/-- The number a byte string spells, first byte least significant (storage order, R1). -/
def leNat : List Byte → Nat
  | [] => 0
  | b :: r => b.toNat + 256 * leNat r

/-- `n` bytes of `v`, least significant first. -/
def leBytes : Nat → Nat → List Byte
  | 0, _ => []
  | n + 1, v => BitVec.ofNat 8 v :: leBytes n (v / 256)

/-- `n` bytes of `v`, most significant first. -/
def beBytes (n v : Nat) : List Byte := (leBytes n v).reverse

/-- `n` bytes from offset `off`. -/
def slice (l : List Byte) (off n : Nat) : List Byte := (l.drop off).take n

/-- The byte at an offset, 0 beyond the end. -/
def byteAt (l : List Byte) (off : Nat) : Nat := ((l[off]?).getD 0).toNat

/-- A wire-order field of `n` bytes at an offset. -/
def beAt (l : List Byte) (off n : Nat) : Nat := beNat (slice l off n)

/-- A storage-order field of `n` bytes at an offset. -/
def leAt (l : List Byte) (off n : Nat) : Nat := leNat (slice l off n)

/-- A byte string of zeros. -/
def zeros (n : Nat) : List Byte := List.replicate n 0

/-- The string padded with zeros, or cut, to `n` bytes. -/
def padTo (n : Nat) (l : List Byte) : List Byte := (l ++ zeros (n - l.length)).take n

/-- One reflected CRC step of eight bits on a 32-bit register. -/
def crcBits32 (poly : BitVec 32) : Nat → BitVec 32 → BitVec 32
  | 0, c => c
  | n + 1, c => crcBits32 poly n (if c.getLsbD 0 then (c >>> 1) ^^^ poly else c >>> 1)

/-- A reflected CRC-32 over bytes: initial value all ones, final exclusive-or all ones. -/
def crc32With (poly : BitVec 32) (l : List Byte) : Nat :=
  ((l.foldl (fun c b => crcBits32 poly 8 (c ^^^ b.setWidth 32)) 0xFFFFFFFF#32) ^^^ 0xFFFFFFFF#32).toNat

/-- CRC-32C as R51 defines it (polynomial 0x1EDC6F41, reflected form 0x82F63B78). -/
def crc32c (l : List Byte) : Nat := crc32With 0x82F63B78#32 l

/-- CRC-32 of IEEE 802.3 (reflected form 0xEDB88320). -/
def crc32 (l : List Byte) : Nat := crc32With 0xEDB88320#32 l

/-- A reflected CRC-32 with a given initial value and no final exclusive-or (the table hash of R165). -/
def crc32Raw (poly init : BitVec 32) (l : List Byte) : BitVec 32 :=
  l.foldl (fun c b => crcBits32 poly 8 (c ^^^ b.setWidth 32)) init

/-- One unreflected step of a CRC of `w` bits. -/
def crcBitsMsb (w : Nat) (poly : BitVec w) : Nat → BitVec w → BitVec w
  | 0, c => c
  | n + 1, c => crcBitsMsb w poly n (if c.getMsbD 0 then (c <<< 1) ^^^ poly else c <<< 1)

/-- An unreflected CRC over bytes. -/
def crcMsb (w : Nat) (poly init : BitVec w) (l : List Byte) : Nat :=
  (l.foldl (fun c b => crcBitsMsb w poly 8 (c ^^^ BitVec.shiftLeft (b.setWidth w) (w - 8))) init).toNat

/-- LW_CHECK of R132: CRC-8, polynomial 0x07, initial value 0. -/
def crc8 (l : List Byte) : Nat := crcMsb 8 0x07#8 0#8 l

end Sys2Proof.Machine
end

