-- ==== Sys2Proof/Machine/Objects.lean ====
section
/-!
DEFINITION. The object dictionary as data: index, subindex, type, access, reset value and written range of every Codex
object but the live counters (R392, R414). Where a parameter table names no type, the model takes U32
(log entry 6).
-/

namespace Sys2Proof.Machine

/-- Object types of R392. -/
inductive ObjType where
  | u8 | u16 | u32 | u64 | i32 | mac48 | addr128 | fields32 | fields64 | flags32 | command32 | counter64
  | bytes (n : Nat)
  | domain (n : Nat)
deriving DecidableEq, Repr

/-- Type codes of R392. -/
def ObjType.code : ObjType → Nat
  | .u8 => 1 | .u16 => 2 | .u32 => 3 | .u64 => 4 | .i32 => 5 | .mac48 => 6 | .addr128 => 7 | .fields32 => 8
  | .fields64 => 9 | .flags32 => 10 | .command32 => 11 | .counter64 => 12 | .bytes _ => 13 | .domain _ => 14

/-- Sizes in bytes of R392; a DOMAIN's is the largest. -/
def ObjType.size : ObjType → Nat
  | .u8 => 1 | .u16 => 2 | .u32 => 4 | .u64 => 8 | .i32 => 4 | .mac48 => 6 | .addr128 => 16 | .fields32 => 4
  | .fields64 => 8 | .flags32 => 4 | .command32 => 4 | .counter64 => 8 | .bytes n => n | .domain n => n

/-- Access codes of R2 that objects use. -/
inductive Access where
  | ro | rw | wo | w1c | const
deriving DecidableEq, Repr

/-- Objects of one layout: `n` indices from `idx`, `subs` subindices from `sub`. `lo` and `hi` bound a written value
where the object's table gives a plain range. -/
structure ObjRow where
  idx : Nat
  n : Nat := 1
  sub : Nat := 1
  subs : Nat := 1
  typ : ObjType
  acc : Access
  reset : Nat := 0
  lo : Nat := 0
  hi : Nat := 0
deriving DecidableEq, Repr

/-- A plain parameter with a range and a reset value. -/
def prm (idx sub : Nat) (typ : ObjType) (lo hi reset : Nat) : ObjRow :=
  { idx := idx, sub := sub, typ := typ, acc := .rw, reset := reset, lo := lo, hi := hi }

/-- Chapters 18, 19 (identity and communication). -/
def objRowsComm : List ObjRow := [
  { idx := 0x1000, sub := 1, typ := .u16, acc := .const, reset := 0x1024 },
  { idx := 0x1000, sub := 2, typ := .u8, acc := .const, reset := 0xB0 },
  { idx := 0x1000, sub := 3, typ := .bytes 16, acc := .ro },
  { idx := 0x1000, sub := 4, subs := 2, typ := .mac48, acc := .ro },
  { idx := 0x1000, sub := 6, typ := .u8, acc := .ro },
  { idx := 0x1000, sub := 7, subs := 3, typ := .u32, acc := .ro },
  prm 0x1008 1 .u32 0 0xFFFFFFFF 0,
  prm 0x1008 2 .addr128 0 (2 ^ 128 - 1) 0,
  prm 0x1008 3 .u16 1024 65535 7472,
  prm 0x1010 1 .u8 0 1 0, prm 0x1010 2 .u8 0 3 2, prm 0x1010 3 .u8 0 3 2,
  prm 0x1010 4 .u8 0 3 3, prm 0x1010 5 .u8 0 3 2, prm 0x1010 6 .u8 0 2 0,
  { idx := 0x1E00, typ := .command32, acc := .wo },
  { idx := 0x1F00, typ := .command32, acc := .wo },
  { idx := 0x1F01, typ := .domain 33554432, acc := .rw },
  { idx := 0x1F02, typ := .u8, acc := .ro },
  { idx := 0x6001, typ := .flags32, acc := .w1c },
  { idx := 0xA000, sub := 1, typ := .u16, acc := .rw, reset := 0x1200, hi := 65535 },
  { idx := 0xA000, sub := 2, typ := .fields32, acc := .ro }]

/-- Chapters 02 to 07: start, power, optics, Hatch and transport. -/
def objRowsOptics : List ObjRow := [
  { idx := 0x6100, typ := .fields32, acc := .ro },
  { idx := 0x6200, typ := .flags32, acc := .w1c },
  { idx := 0x2140, n := 64, typ := .fields64, acc := .rw, reset := 0x0010FFFF0000FFFF, hi := 2 ^ 64 - 1 },
  prm 0x2180 1 .u32 100 1500 370, prm 0x2180 2 .u32 101 1500 500, prm 0x2180 3 .u32 1 255 4,
  prm 0x2180 4 .u32 10 10000 100, prm 0x2180 5 .u32 100 100000 1000, prm 0x2180 6 .u32 1 15 3,
  prm 0x2180 7 .u32 1 3600 60,
  { idx := 0x6300, n := 16, typ := .fields32, acc := .ro },
  { idx := 0x6340, n := 64, sub := 1, typ := .flags32, acc := .w1c },
  { idx := 0x6340, n := 64, sub := 2, subs := 16, typ := .fields32, acc := .ro, reset := 0xFFFF },
  prm 0x2190 1 .u32 0 3600 10, prm 0x2190 2 .u32 1 20 5, prm 0x2190 3 .u32 10 500 40,
  prm 0x2190 4 .u32 1 16 4, prm 0x2190 5 .u32 200 10000 500, prm 0x2190 6 .u32 0 2 0,
  prm 0x2190 7 .u32 1 600 10,
  { idx := 0x2191, typ := .command32, acc := .wo },
  { idx := 0x6380, n := 16, sub := 1, subs := 5, typ := .fields32, acc := .ro, reset := 0x10008000 },
  { idx := 0x6390, n := 16, typ := .flags32, acc := .w1c },
  prm 0x21A0 1 .u32 10 10000 100, prm 0x21A0 2 .u32 200 10000 500,
  { idx := 0x21A1, typ := .command32, acc := .wo },
  { idx := 0x21A2, sub := 1, subs := 32, typ := .fields64, acc := .rw, hi := 2 ^ 64 - 1 },
  { idx := 0x63A0, sub := 1, subs := 2, typ := .fields32, acc := .ro },
  { idx := 0x63A1, typ := .flags32, acc := .w1c },
  { idx := 0x63B0, n := 4, sub := 1, subs := 64, typ := .fields64, acc := .ro },
  { idx := 0xA300, n := 15, sub := 1, subs := 128, typ := .fields32, acc := .ro },
  prm 0x21C0 1 .u32 1024 65535 7471, prm 0x21C0 2 .u32 1518 9216 9216,
  { idx := 0x21C1, sub := 1, typ := .fields32, acc := .rw, reset := 0x00400010, hi := 0xFFFFFFFF },
  { idx := 0x21C1, sub := 2, typ := .fields32, acc := .rw, reset := 0x06000180, hi := 0xFFFFFFFF },
  { idx := 0x21C1, sub := 3, typ := .fields32, acc := .rw, reset := 0x01000040, hi := 0xFFFFFFFF },
  { idx := 0x21C1, sub := 4, subs := 4, typ := .fields32, acc := .rw, reset := 0x0030000C, hi := 0xFFFFFFFF },
  { idx := 0x21C1, sub := 8, typ := .fields32, acc := .rw, hi := 0xFFFFFFFF },
  { idx := 0x6440, n := 64, typ := .flags32, acc := .w1c }]

/-- Chapters 17 and 20, and the memory and job objects. -/
def objRowsTime : List ObjRow := [
  prm 0x2440 1 .u32 0 2 0, prm 0x2440 2 .u32 0 127 0, prm 0x2440 3 .u32 0 255 128, prm 0x2440 4 .u32 0 255 128,
  prm 0x2440 5 .u32 2 1000 20, prm 0x2440 6 .u32 50 100000 1000, prm 0x2440 7 .u32 0 3600 10,
  prm 0x2440 8 .u32 1 200000 100000, prm 0x2440 9 .u32 0 1000000 0, prm 0x2440 10 .u32 0 1000000 0,
  prm 0x2440 11 .u32 1 500000 100000,
  { idx := 0x2441, sub := 1, subs := 64, typ := .i32, acc := .rw, hi := 0xFFFFFFFF },
  prm 0x2450 1 .u32 0 15 0, prm 0x2450 2 .u32 0 3 0,
  { idx := 0x2451, typ := .command32, acc := .wo },
  prm 0x2452 1 .u64 0 (2 ^ 64 - 1) 0, prm 0x2452 2 .u32 0 0xFFFFFFFF 0, prm 0x2452 3 .u32 0 3600000 0,
  { idx := 0x2453, sub := 1, subs := 16, typ := .fields64, acc := .rw, reset := 0x0028000008C00000, hi := 2 ^ 64 - 1 },
  { idx := 0x2454, sub := 1, subs := 32, typ := .fields64, acc := .rw, hi := 2 ^ 64 - 1 },
  { idx := 0x2460, n := 16, sub := 1, typ := .u64, acc := .rw, hi := 2 ^ 64 - 1 },
  { idx := 0x2460, n := 16, sub := 2, typ := .fields32, acc := .rw, hi := 0xFFFFFFFF },
  { idx := 0x6640, sub := 1, typ := .fields32, acc := .ro, reset := 0x0FFFFFFF },
  { idx := 0x6640, sub := 2, typ := .u64, acc := .ro, reset := 0x0000000140000000 },
  { idx := 0x6640, sub := 3, typ := .fields32, acc := .ro, reset := 0xF8000000 },
  { idx := 0x6641, typ := .flags32, acc := .w1c },
  { idx := 0x6642, sub := 1, subs := 2, typ := .fields64, acc := .ro },
  { idx := 0x6642, sub := 3, subs := 2, typ := .u64, acc := .ro },
  { idx := 0x6642, sub := 5, typ := .fields32, acc := .ro },
  { idx := 0x6643, typ := .flags32, acc := .w1c },
  { idx := 0x6644, sub := 1, subs := 2, typ := .u64, acc := .ro },
  { idx := 0xA110, typ := .domain 67108864, acc := .ro },
  prm 0x2480 1 .u32 50 10000 100, prm 0x2480 2 .u32 1 200 20, prm 0x2480 3 .u32 0 3 0, prm 0x2480 4 .u32 10 10000 100,
  prm 0x2480 5 .u32 0 1 1,
  prm 0x2481 1 .u32 0 86400 3600, prm 0x2481 2 .u32 0 100 60,
  { idx := 0x2482, sub := 1, typ := .u32, acc := .rw, hi := 0xFFFFFFFF },
  { idx := 0x2482, sub := 2, typ := .mac48, acc := .rw, hi := 2 ^ 48 - 1 },
  prm 0x2482 3 .u32 1 0xFFFFFFFF 1000000,
  { idx := 0x2483, typ := .command32, acc := .wo },
  { idx := 0x6400, n := 64, sub := 1, subs := 64, typ := .fields32, acc := .ro },
  { idx := 0x6121, typ := .flags32, acc := .w1c },
  { idx := 0x6122, sub := 1, subs := 3, typ := .u32, acc := .ro },
  { idx := 0xA500, typ := .domain 268435456, acc := .ro },
  { idx := 0xA501, typ := .domain 17088, acc := .ro },
  { idx := 0xA502, typ := .command32, acc := .wo },
  prm 0x2380 1 .u32 0 384 128, prm 0x2380 2 .u32 1 168 24,
  { idx := 0x6600, sub := 1, subs := 3, typ := .fields32, acc := .ro },
  { idx := 0x6601, typ := .flags32, acc := .w1c }]

/-- A field map of 32 bits written whole. -/
def fields (idx n sub subs reset : Nat) : ObjRow :=
  { idx := idx, n := n, sub := sub, subs := subs, typ := .fields32, acc := .rw, reset := reset, hi := 0xFFFFFFFF }

/-- A field map of 64 bits written whole. -/
def fields64 (idx n sub subs reset : Nat) : ObjRow :=
  { idx := idx, n := n, sub := sub, subs := subs, typ := .fields64, acc := .rw, reset := reset, hi := 2 ^ 64 - 1 }

/-- A status object. -/
def status (idx n sub subs : Nat) (typ : ObjType) : ObjRow :=
  { idx := idx, n := n, sub := sub, subs := subs, typ := typ, acc := .ro }

/-- A status flag object. -/
def flagRow (idx n : Nat) : ObjRow := { idx := idx, n := n, typ := .flags32, acc := .w1c }

/-- A command object. -/
def commandRow (idx : Nat) : ObjRow := { idx := idx, typ := .command32, acc := .wo }

/-- Chapters 08 and 09: pipelines, tables and the core. -/
def objRowsCore : List ObjRow := [
  prm 0x21D0 1 .u32 0 0xFFFFFFFF 0xFFFFFFFF, prm 0x21D0 2 .u32 0 2 2, prm 0x21D0 3 .u32 0 3600 300, prm 0x21D0 4 .u32 3 6 3,
  prm 0x21D0 5 .u32 0 1 0, prm 0x21D0 6 .mac48 0 (2 ^ 48 - 1) 0, prm 0x21D0 7 .addr128 0 (2 ^ 128 - 1) 0,
  commandRow 0x21D1,
  { idx := 0x21D2, sub := 1, subs := 32, typ := .bytes 64, acc := .rw, hi := 2 ^ 512 - 1 },
  prm 0x21D3 1 .u32 3 7 3, prm 0x21D3 2 .u32 3 7 3, prm 0x21D3 3 .u32 3 7 4, prm 0x21D3 4 .u32 3 7 4,
  prm 0x21D3 5 .u32 3 7 5, prm 0x21D3 6 .u32 3 7 5, prm 0x21D3 7 .u32 3 7 6, prm 0x21D3 8 .u32 3 7 6,
  { idx := 0x21D4, sub := 1, subs := 64, typ := .u32, acc := .rw, reset := 3, lo := 3, hi := 7 },
  fields 0x2200 16 1 64 0x41000001,
  { idx := 0x21E0, sub := 1, subs := 7, typ := .u32, acc := .rw, reset := 1000, lo := 10, hi := 1000000 },
  prm 0x21E0 8 .u32 1 255 8, prm 0x21E0 9 .u32 1 255 4, prm 0x21E0 10 .u32 1 255 1, prm 0x21E0 11 .u32 1 255 1,
  prm 0x21E0 12 .u32 1 255 1, prm 0x21E0 13 .u32 1 255 1, prm 0x21E0 14 .u32 1 1000 16,
  fields64 0x21E1 1 1 1 (65536 * 2 ^ 44 + 65536 * 2 ^ 20 + 32768),
  fields64 0x21E1 1 2 1 (65536 * 2 ^ 44 + 327680 * 2 ^ 20 + 131072),
  fields64 0x21E1 1 3 1 (65536 * 2 ^ 44 + 196608 * 2 ^ 20 + 65536),
  fields64 0x21E1 1 4 4 (65536 * 2 ^ 44 + 131072 * 2 ^ 20 + 16384),
  { idx := 0x21E1, sub := 8, typ := .fields64, acc := .const, reset := 8192 * 2 ^ 44 + 8192 * 2 ^ 20 + 8192 },
  commandRow 0x21E2,
  status 0x6480 1 1 1 .fields32, flagRow 0x6481 1, status 0x6482 1 1 64 (.bytes 32),
  status 0x64C0 1 1 2 .fields32, flagRow 0x64C1 1,
  { idx := 0xA200, typ := .fields64, acc := .rw, hi := 2 ^ 64 - 1 }, status 0xA201 1 1 1 (.bytes 128)]

/-- Chapters 10 to 12: Ductus and the Nibs. -/
def objRowsNib : List ObjRow := [
  prm 0x21F0 1 .u32 5 1000 50, prm 0x21F0 2 .u32 0 1 1, prm 0x21F0 3 .u32 100 100000 1000, prm 0x21F0 4 .u32 0 65535 0,
  prm 0x21F0 5 .u32 100 100000 1000,
  commandRow 0x21F1, { idx := 0x21F2, typ := .domain 2383940, acc := .rw }, prm 0x21F3 1 .u64 0 (2 ^ 64 - 1) 0,
  fields64 0x2240 64 1 64 (64 * 2 ^ 46), fields64 0x2280 64 1 64 (64 * 2 ^ 46),
  status 0x6500 1 1 3 .fields32, status 0x6500 1 4 1 .u64, flagRow 0x6501 1,
  prm 0x2300 1 .u32 0 100000 2000, prm 0x2300 2 .u32 0 1000 0, prm 0x2300 3 .u32 0 1 1,
  prm 0x2301 1 .u32 64 2048 1024, prm 0x2301 2 .u32 10 10000000 100000, prm 0x2301 3 .u32 1024 4294967295 16777216,
  commandRow 0x2302, { idx := 0x2303, typ := .domain 65604, acc := .rw },
  status 0x6540 32 1 2 .fields32, flagRow 0x6560 32, status 0x6580 1 1 2 .fields32, status 0x65A0 32 1 2 .fields32]

/-- Chapters 13, 14 and 16: collectives, Ligature, and the host interface. -/
def objRowsHost : List ObjRow := [
  status 0x65C0 1 1 5 .fields32, flagRow 0x65C1 1,
  prm 0x2340 1 .u32 64 65536 2048, prm 0x2340 2 .u32 100 100000 500, prm 0x2340 3 .u32 10 1000000 1000, prm 0x2340 4 .u32 0 1 1,
  status 0x65E0 1 1 4 .fields32, flagRow 0x65E1 1,
  prm 0x2400 1 .u32 0 4096 1536, prm 0x2400 2 .u32 0 4096 1536, prm 0x2400 3 .u32 0 4096 512, prm 0x2400 4 .u32 0 4096 512,
  prm 0x2400 5 .u32 0 4096 1536, prm 0x2400 6 .u32 0 4096 1536, prm 0x2400 7 .u32 0 4096 512, prm 0x2400 8 .u32 0 4096 512,
  prm 0x2400 9 .u32 0 15 15,
  status 0x6620 2 1 1 .fields32]

/-- Chapter 19: security and Chop. -/
def objRowsSec : List ObjRow := [
  { idx := 0x1020, sub := 1, subs := 8, typ := .bytes 40, acc := .rw, hi := 2 ^ 320 - 1 },
  prm 0x1030 1 .u8 0 2 1, prm 0x1030 2 .u8 0 2 1, prm 0x1030 3 .u8 0 2 0, prm 0x1030 4 .u8 0 2 0, prm 0x1030 5 .u8 0 2 0,
  prm 0x1030 6 .u8 0 2 0, prm 0x1030 7 .u8 0 2 0,
  status 0x1040 1 1 1 .u64, { idx := 0x1040, sub := 2, typ := .bytes 64, acc := .wo },
  { idx := 0x1100, sub := 1, typ := .u32, acc := .const, reset := 0x00010000 },
  { idx := 0x1100, sub := 2, typ := .u64, acc := .const, reset := 0x3A91C04E57D21B68 },
  status 0x1100 1 3 1 (.bytes 32),
  status 0x1101 1 1 1 .fields32, status 0x1101 1 2 2 .u32,
  { idx := 0x1102, sub := 1, typ := .u8, acc := .rw, reset := 15, lo := 1, hi := 60 },
  { idx := 0x1102, sub := 2, typ := .bytes 16, acc := .wo },
  flagRow 0x1103 1,
  { idx := 0x1110, n := 16, sub := 1, subs := 64, typ := .u16, acc := .rw, hi := 65535 },
  status 0x6180 1 1 1 .fields32, flagRow 0x6181 1,
  { idx := 0xA400, typ := .domain 23063040, acc := .ro }]

/-- All rows. -/
def objRows : List ObjRow := objRowsComm ++ objRowsOptics ++ objRowsTime ++ objRowsCore ++ objRowsNib ++ objRowsHost ++ objRowsSec

/-- Counters of a unit type (R375). -/
def unitCounters : Nat → Nat
  | 0x01 => 8 | 0x03 => 14 | 0x05 => 16 | 0x06 => 3 | 0x07 => 8 | 0x08 => 24 | 0x09 => 4 | 0x0A => 19 | 0x0B => 20 | 0x0C => 16
  | 0x0F => 5 | 0x10 => 6 | 0x11 => 9 | _ => 0

/-- How many instances a unit type has (R15). -/
def unitCount : Nat → Nat
  | 0x01 => 16 | 0x02 => 1 | 0x03 => 1 | 0x04 => 16 | 0x05 => 8 | 0x06 => 10 | 0x07 => 1 | 0x08 => 1 | 0x09 => 4
  | 0x0A => 32 | 0x0B => 1 | 0x0C => 1 | 0x0D => 24 | 0x0E => 1 | 0x0F => 16 | 0x10 => 2 | 0x11 => 1 | 0x12 => 1
  | 0x13 => 1 | _ => 0

/-- The highest subindex of a live counter index, given less 0x7000; none where no table assigns it (R373 to R375, R379). -/
def liveHighest (k : Nat) : Option Nat :=
  if 0xC00 ≤ k then some 0x1E
  else if 0x800 ≤ k then (if k < 0x840 then some 0x2E else none)
  else if 0x600 ≤ k then (if k < 0x610 then some 0x23 else none)
  else if k % 0x40 < unitCount (k / 0x40) && unitCounters (k / 0x40) ≠ 0 then some (unitCounters (k / 0x40))
  else none

/-- The highest subindex of a counter index, live or in a snapshot bank (R377). -/
def counterHighest (idx : Nat) : Option Nat :=
  if 0x7000 ≤ idx && idx < 0xA000 then liveHighest ((idx - 0x7000) % 0x1000) else none

/-- Whether a row covers an object. -/
def ObjRow.covers (r : ObjRow) (idx sub : Nat) : Bool :=
  r.idx ≤ idx && idx < r.idx + r.n && r.sub ≤ sub && sub < r.sub + r.subs

/-- The row of an object. -/
def objRow (idx sub : Nat) : Option ObjRow :=
  match counterHighest idx with
  | some h => if 1 ≤ sub && sub ≤ h then some { idx := idx, sub := sub, typ := .counter64, acc := .ro } else none
  | none => objRows.find? (fun r => r.covers idx sub)

/-- The highest subindex of an index, none where the index does not exist (R392, R414). -/
def objHighest (idx : Nat) : Option Nat :=
  match counterHighest idx with
  | some h => some h
  | none =>
    let rs := objRows.filter (fun r => r.idx ≤ idx && idx < r.idx + r.n)
    if rs = [] then none else some (rs.foldl (fun m r => max m (r.sub + r.subs - 1)) 0)

/-- The reset value of an object. -/
def objReset (idx sub : Nat) : Nat := ((objRow idx sub).map (·.reset)).getD 0

end Sys2Proof.Machine
end

