-- ==== Sys2Proof/Machine/StateJobs.lean ====
section
/-!
DEFINITION. The state of job slots, of unit faults, Proof, the Blotter, the fault history and Exemplar
(chapter 20 of the spec), and of the Codex server (chapter 18).
-/

namespace Sys2Proof.Machine

/-- Job slot states of R443 and R474, in code order. -/
inductive SlotState where
  | free | prepared | live | draining | quarantine
deriving DecidableEq, Repr

/-- A set of a collective record (R278): its KIND byte and body, kept as read. -/
abbrev SetBytes := List Byte

/-- What a job's records say (R278, R306): the record bytes themselves. -/
structure JobRecord where
  /-- the 256-byte collective record -/
  coll : List Byte := []
  /-- the memory record, when MEM is 1 -/
  mem : List Byte := []
deriving DecidableEq, Repr

/-- A job slot (R443 to R456). -/
structure Slot where
  state : SlotState := .free
  generation : Nat := 0
  shadow : Bool := false
  endReason : Nat := 0
  record : JobRecord := {}
  /-- FLAGS and PREP_SET of JOB_PREPARE -/
  coordinator : Bool := false
  prepSet : Nat := 15
  coordMac : Nat := 0
  total : Nat := 0
  ackDeadline : Nat := 0
  startCell : Nat := 0
  localSum : Nat := 0
  /-- when SHARE was last sent, and whether one is owed (R448) -/
  shareAt : Option Nat := none
  shareOwed : Bool := false
  /-- largest SHARE COUNT by sender, at most 256 senders -/
  shares : Tab Nat := []
  commitHeld : Bool := false
  aborted : Bool := false
  /-- SCRUB of the teardown (R452) -/
  scrub : Bool := false
  /-- cell time at which QUARANTINE was entered (R453) -/
  quarantineAt : Nat := 0
  /-- rings and completions that wait for the slot: the JOB_PREPARE, and teardowns (ring, slot index) -/
  prepareTag : Option Nat := none
  endTags : List Nat := []
deriving DecidableEq, Repr

/-- A unit's entry of the fault history (R468). -/
structure UnitEntry where
  /-- STATE of R476: 0 in service, 1 fenced, 2 in Proof, 3 failed -/
  state : Nat := 0
  health : Nat := 100
  transient : Nat := 0
  permanent : Nat := 0
  corrected : Nat := 0
  proofPass : Nat := 0
  proofFail : Nat := 0
  wT : Nat := 0
  wP : Nat := 0
  wF : Nat := 0
  wC : Nat := 0
  lastFaultS : Nat := 0
  lastCause : Nat := 0
  /-- instants in s and causes of the faults of the last 24 h (R469) -/
  recent : List (Nat × Nat) := []
  /-- consecutive Proof failures and passes, and unit faults since a pass (R458, R467) -/
  failRun : Nat := 0
  /-- transient faults logged since the unit's last Proof (R469) -/
  fresh : Nat := 0
  passRun : Nat := 0
  faultsSincePass : Nat := 0
deriving DecidableEq, Repr

/-- An event of the fault history's ring (R468). -/
structure Event where
  timeS : Nat
  timeNs : Nat
  unit : Nat
  cause : Nat
  cls : Nat
  detail : Nat
deriving DecidableEq, Repr

/-- A Blotter dump slot (R465): the dump's bytes lie in LPDDR6; its number and whether it has ended. -/
structure Dump where
  number : Nat
  ended : Bool
  /-- bytes of the dump, CHECK included -/
  size : Nat
deriving DecidableEq, Repr

/-- A dump being taken: its slot, TRIGGER, and what its header copies at the start (R465). -/
structure DumpRun where
  slot : Nat
  trigger : Nat
  cell : Nat
  boot : Nat
  pwr : Nat
deriving DecidableEq, Repr

/-- Faults, Proof, Blotter, Exemplar and hang detection (R458 to R477). -/
structure FaultSt where
  units : Tab UnitEntry := []
  /-- the last 256 events, oldest first, and how many were ever written -/
  events : List Event := []
  eventCount : Nat := 0
  starts : Nat := 0
  writtenS : Nat := 0
  /-- FAULT_HISTORY differs from the flash copy -/
  historyDirty : Bool := false
  /-- when it was last rewritten, and the day of the last decay of the weights (R468, R469) -/
  historyAt : Option Nat := none
  decayedDay : Nat := 0
  heartbeat : Nat := 0
  recoverIgnored : Nat := 0
  claimMerged : Nat := 0
  /-- claims of other domains than the owner: SKIP_DUMP, and the instant at which each acts (R461) -/
  claims : List (Domain × Bool × Nat) := []
  /-- a module fault holds the module until a recovery (R459) -/
  moduleFault : Bool := false
  dumpNo : Nat := 0
  dumps : Tab (Option Dump) := []
  selected : Nat := 0
  /-- the slot of the dump in progress, and whether a warm start follows it -/
  dumping : Option DumpRun := none
  warmAfterDump : Bool := false
  /-- Proof: the unit under test, its window's T, next unit in turn, units to be retested -/
  proofUnit : Option Nat := none
  proofT : Option (Nat × Nat) := none
  proofOpen : Bool := false
  proofNext : Nat := 0
  retest : List Nat := []
  /-- Exemplar: digests without their pair, keyed by (handle, chunk): own and received -/
  cleanRun : Nat := 0
  mismatches : Nat := 0
  missed : Nat := 0
  ownDigests : List (Nat × Nat × Nat) := []
  farDigests : List (Nat × Nat × Nat) := []
  /-- KIND 1 ranges waiting to be scrubbed, in list order: job slot, pool offset, bytes (R454) -/
  scrubList : List (Nat × Nat × Nat) := []
  /-- bytes, in thousandths, that SCRUB_GBPS has let the scrub write of the list's first range -/
  scrubbed : Nat := 0
deriving DecidableEq, Repr

/-- A segmented load (R405). -/
structure Load where
  /-- a begin-load command was given and LAST has not come -/
  active : Bool := false
  owner : Option DopSrc := none
  bytes : List Byte := []
deriving DecidableEq, Repr

/-- A status flag object (R406, R407): its flags and its occurrence counters, keyed by bit. -/
structure FlagObj where
  val : Word32 := 0
  counts : Tab Nat := []
deriving DecidableEq, Repr

/-- A stored response (R402): the request's key and the response. -/
structure StoredResp where
  src : DopSrc
  key : List Nat
  bytes : List Byte
deriving DecidableEq, Repr

/-- A subscription (R408): the source, NOTIFY_MS. -/
structure Subscription where
  src : DopSrc
  notifyMs : Nat
deriving DecidableEq, Repr

/-- A session of the management Ethernet (R424, R425). -/
structure Session where
  id : Nat
  src : DopSrc
  cred : Nat
  reqNonce : List Byte
  modNonce : List Byte
  isOpen : Bool := false
  role : Nat := 0
deriving DecidableEq, Repr

/-- The Codex server (R392 to R415) and its sessions. -/
structure CodexSt where
  responses : List StoredResp := []
  subs : List Subscription := []
  /-- loads, keyed by object index -/
  loads : Tab Load := []
  /-- UNIT_SELECT and TABLE_SELECT, per source -/
  unitSelect : List (DopSrc × Nat) := []
  tableSelect : List (DopSrc × Nat) := []
  /-- an accepted RESET_CMD waits for its response (R411) -/
  resetDue : Bool := false
  /-- an accepted RECOVERY_CMD 2 waits for its response (R57, R412) -/
  installDue : Bool := false
  /-- latched high words, per requester and register (R4) -/
  latches : List (DopSrc × Nat × Nat) := []
  recoveryStatus : Nat := 0
  sessions : List Session := []
  /-- management frames discarded and counted (R401) -/
  mgmtDiscards : Nat := 0
deriving DecidableEq, Repr

end Sys2Proof.Machine
end

