-- ==== Sys2Proof/Machine/StateHost.lean ====
section
/-!
DEFINITION. The state of the host interface (chapter 16 of the spec) and of Ligature (chapter 14).
-/

namespace Sys2Proof.Machine

/-- A descriptor issued and not completed: its number, ring index, USER_TAG, IRQ, and whether its entry is discarded (R362). -/
structure Desc where
  no : Nat
  index : Nat
  tag : Nat
  irq : Bool
  discard : Bool := false
deriving DecidableEq, Repr

/-- What a ring waits for at its head (R283, R357): nothing, a semaphore wait, a registration, or the install of another image. -/
inductive RingHold where
  | none | wait | register | install
deriving DecidableEq, Repr

/-- A command ring (R349, R350). -/
structure CmdRing where
  descBase : Nat := 0
  cqBase : Nat := 0
  enable : Bool := false
  sizeLog2 : Nat := 0
  vector : Nat := 0
  halted : Bool := false
  haltCause : Nat := 0
  phase : Bool := false
  cqTail : Nat := 0
  cqHead : Nat := 0
  sqHead : Nat := 0
  sqTail : Nat := 0
  out_ : List Desc := []
  /-- completion entries written and not consumed: index and IRQ, oldest first -/
  entries : List (Nat × Bool) := []
  hold : RingHold := .none
  /-- the INSTALL_PROGRAM descriptor that waits: number, image address and bytes -/
  install : Option (Nat × Nat × Nat) := none
deriving DecidableEq, Repr

/-- A function or partition (R345, R359, R361): keyed 0 to 63 for Host A, 64 to 127 for Host B, 128 for P0 and 129
for P1. -/
structure Function where
  events : FlagObj := {}
  eventEn : Nat := 0
  reqLen : Nat := 0
  respLen : Nat := 0
  busy : Bool := false
  goIgnored : Nat := 0
  req : Tab Byte := []
  resp : List Byte := []
  /-- vectors unmasked, and vectors in service -/
  unmasked : List Nat := []
  inService : List Nat := []
deriving DecidableEq, Repr

/-- A PCIe host port. -/
structure Port where
  /-- PERST_N is asserted -/
  perst : Bool := true
  /-- the configuration spaces are filled (R58) -/
  filled : Bool := false
  training : Bool := false
  up : Bool := false
  speed : Nat := 0
  width : Nat := 0
  /-- VF Enable, and the number of VFs enabled -/
  vfEnable : Bool := false
  vfs : Nat := 0
  /-- VF_ASSIGN, by VF number -/
  assign : Tab Nat := []
  /-- a unit fault holds the port until PERST_N next rises or a start (R458) -/
  held : Bool := false
deriving DecidableEq, Repr

/-- A COPY in progress (R358). `next` is the next line to be performed, by line index. -/
structure CopyJob where
  ring : Nat
  desc : Nat
  job : Nat
  hostAddr : Nat
  fabric : Nat
  length : Nat
  dir : Bool
  left : Nat
  status : Nat := 0
deriving DecidableEq, Repr

/-- Rings, functions, ports and copies. HOST_PART in force: the eight counts, and INSTALL_EN. -/
structure HostSt where
  installEn : Nat := 15
  part : List Nat := [1536, 1536, 512, 512, 1536, 1536, 512, 512]
  rings : Tab CmdRing := []
  functions : Tab Function := []
  portA : Port := {}
  portB : Port := {}
  copies : List CopyJob := []
  nextDesc : Nat := 0
deriving DecidableEq, Repr

/-- The requester of a memory frame (R309): ingress link, the frame's bytes up to its VFT header, and whether it is routed. A
COPY's line is a requester of its own: `copy` holds its descriptor number and line. -/
structure LigReq where
  no : Nat
  link : Nat
  head : List Byte
  routed : Bool
  copy : Option (Nat × Nat) := none
  job : Nat
  typ : Nat
  addr : Nat
  size : Nat
  op : Nat
  reqId : Nat
  fence : Bool
  noComb : Bool
  data : List Byte
  window : Nat
  /-- translated address -/
  target : Nat
  /-- home of a KIND 2 window: MAC and VLAN -/
  home : Option (Nat × Nat)
  /-- the window has COMBINE and LIG_CFG's COMBINE is 1 -/
  combine : Bool
  /-- instant of acceptance, in ps -/
  accepted : Nat := 0
  /-- HOME_TIMEOUT_US at acceptance -/
  limit : Nat := 0
deriving DecidableEq, Repr

/-- Kinds of access on a line (R311). -/
inductive LigKind where
  | read | batch | cas | image | store
deriving DecidableEq, Repr

/-- A piece of an access sent to a remote home: REQ_ID, address, SIZE, first sending, the instant a retry is due, and
whether it has been answered. -/
structure HomePart where
  id : Nat
  addr : Nat
  size : Nat
  sent : Nat
  retryAt : Option Nat := none
  answered : Bool := false
deriving DecidableEq, Repr

/-- An access (R310 to R314): a read with the reads joined, a batch, a CAS, a store image, or a store of several lines
or performed alone. -/
structure LigAccess where
  no : Nat
  kind : LigKind
  home : Option (Nat × Nat)
  addr : Nat
  bytes : Nat
  job : Nat
  op : Nat := 0
  size : Nat := 0
  members : List LigReq
  /-- bytes of a store image, by offset from `addr` -/
  image : Tab (Option Byte) := []
  /-- accepts further members -/
  open_ : Bool
  issued : Bool := false
  parts : List HomePart := []
  /-- a read that a later write, atomic or CAS has closed to joins -/
  closed : Bool := false
  /-- an access to the pool that has waited for the fill of R335 -/
  waited : Bool := false
  /-- data a home returned -/
  data : List Byte := []
  /-- 6 once a home has answered a part with a non-zero status -/
  status : Nat := 0
deriving DecidableEq, Repr

/-- Ligature. -/
structure LigSt where
  accs : List LigAccess := []
  nextReq : Nat := 0
  nextAcc : Nat := 0
  lastErrorJob : Nat := 0
  lastError : Nat := 0
  /-- ready is withdrawn for lack of data granules -/
  dataFull : Bool := false
deriving DecidableEq, Repr

end Sys2Proof.Machine
end

