-- ==== Sys2Proof/Machine/StateColl.lean ====
section
/-!
DEFINITION. The state of collective operations, Tally and the command rings (chapters 13 and 16 of the spec).
-/

namespace Sys2Proof.Machine

/-- A live range (R281, R290). `ring` and `desc` name the descriptor for its completion. -/
structure Range where
  job : Nat
  op : Nat
  base : Nat
  count : Nat
  elems : Nat
  lastElems : Nat
  members : Nat
  step : Nat
  fmtIn : Nat
  fmtOut : Nat
  control : Nat
  program : Nat
  sets : Nat
  mask : Nat
  chunkSem : Nat
  rangeSem : Nat
  params : List Nat := []
  lastRounds : Nat := 0
  ring : Nat
  desc : Nat
  ended : Nat := 0
  failed : Bool := false
deriving DecidableEq, Repr

/-- Chunk-thread states of R286. -/
inductive ThreadState where
  | reserved | opened | emitting | done | failed
deriving DecidableEq, Repr

/-- A frame in a chunk's input queue: TYPE, FORMAT, LAST, SEQ, ELEMENT_COUNT and payload. -/
structure InFrame where
  typ : Nat
  fmt : Nat
  last : Bool
  seq : Nat
  count : Nat
  payload : List Byte
deriving DecidableEq, Repr

/-- What a chunk has sent to an invocation set: RESULT_DATA frames, elements, payload bytes in SEQ order. -/
structure Sent where
  frames : Nat := 0
  elems : Nat := 0
  payload : List Byte := []
deriving DecidableEq, Repr

/-- A chunk-thread that has left its reset form; an unlisted ordinal of a live range is RESERVED. -/
structure Thread where
  state : ThreadState := .reserved
  opened : Nat := 0
  /-- the time in KIND 2 windows that its Nib had counted then (R289) -/
  base : Nat := 0
  /-- terms received, by row -/
  terms : Tab Nat := []
  /-- counts by member, plus 1 (COUNTS) -/
  counts : Tab Nat := []
  queue : List InFrame := []
  /-- frames with LAST received by the input queue -/
  lasts : Nat := 0
  invoked : Bool := false
  /-- frames offered and not yet admitted; CHUNK_DONE frames have been offered -/
  waiting : Nat := 0
  doneSent : Bool := false
  sent : Tab Sent := []
deriving DecidableEq, Repr

/-- A registration that waits (R290): the range, its descriptor, the ring entries it takes, and the instant it was reached. -/
structure Register where
  range : Range
  d : Desc
  entries : Nat
  since : Nat
deriving DecidableEq, Repr

/-- A SEM_OP WAIT in progress, by ring: absolute Tally index, value, limit in µs, instant. -/
structure SemWait where
  ring : Nat
  desc : Nat
  job : Nat
  index : Nat
  value : Nat
  limit : Nat
  since : Nat
  /-- some value in the serial order has reached `value` -/
  met : Bool := false
deriving DecidableEq, Repr

/-- Collectives and Tally. Ranges are keyed by a number that never repeats; threads by range × 2^22 + ordinal. -/
structure CollSt where
  ranges : Tab (Option Range) := []
  nextRange : Nat := 0
  threads : Tab Thread := []
  registers : List Register := []
  tally : Tab Nat := []
  waits : List SemWait := []
  failChunk : Nat := 0
  failJob : Nat := 0
  failCause : Nat := 0
  failDetail : Nat := 0
deriving DecidableEq, Repr

end Sys2Proof.Machine
end

