-- ==== Sys2Proof/Machine/StateCore.lean ====
section
/-!
DEFINITION. The state of the switch core and of Ductus (chapters 09 and 10 of the spec).
-/

namespace Sys2Proof.Machine

/-- Where a frame offered to the core goes: a unit's attachment 128 to 163, a link's port, or a multicast set named by
MC_KIND (1 row, 2 column, 3 VLAN flood), MC_VALUE and the link left out. -/
inductive Dest where
  | unit (a : Nat)
  | port (p : Nat)
  | multi (kind value : Nat) (excl : Option Nat)
deriving DecidableEq, Repr

/-- What waits for a frame's admission: nothing, a chunk's result or CHUNK_DONE frame, or an EMIT of a program. -/
inductive Origin where
  | none
  /-- Nib, thread number, invocation set and result elements of the frame, none in CHUNK_DONE -/
  | chunk (nib thread set elems : Nat)
  /-- Nib, context, number of the instruction, invocation set and result elements of the frame, none in TRANSFORM_DATA -/
  | emit (nib ctx seq set elems : Nat)
  /-- a memory response: job slot, and the instant its request was accepted, in ps -/
  | memory (slot accepted : Nat)
deriving DecidableEq, Repr

/-- A frame that waits for admission (R182): source attachment, ingress link (1,024 for frames of the module's own),
class, and the credit its link gets back: class and length. -/
structure Offer where
  src : Nat
  link : Nat := 1024
  tc : Nat
  dst : Dest
  bytes : List Byte
  credit : Option (Nat × Nat) := none
  origin : Origin := .none
  /-- ADMIT_WAIT has been counted for this wait -/
  waited : Bool := false
  /-- instant of its ingress start, in ps (R378) -/
  start : Nat := 0
deriving DecidableEq, Repr

/-- A frame in the cell buffer: its cells stay until the last copy has ended. -/
structure Stored where
  bytes : List Byte
  tc : Nat
  src : Nat
  link : Nat
  dst : Dest
  arrival : Nat
  ctVer : Bool
  /-- copies not yet ended: destination attachments, and 1,000 + port for copies in egress queues -/
  live : List Nat
  /-- instants of ingress start and of admission, in ps (R378) -/
  start : Nat
  admittedAt : Nat
  /-- the FIRST cell of a copy has left the source: Pounce does not check it there again (R188) -/
  left : Bool := false
deriving DecidableEq, Repr

/-- A copy of a stored frame in a virtual output queue (R182): destination attachment, egress port or the link left out, cells
sent, and what the headers of its cells say beside (R180): EXCL, MC_KIND, MC_VALUE, ARRIVAL and CT_VER. -/
structure Voq where
  frame : Nat
  src : Nat
  dst : Nat
  tc : Nat
  egress : Nat
  multi : Bool
  len : Nat
  sent : Nat := 0
  excl : Bool := false
  mcKind : Nat := 0
  mcValue : Nat := 0
  arrival : Nat := 0
  ctVer : Bool := false
deriving DecidableEq, Repr

/-- A cell (R180): the header's fields and, in place of its payload, the stored frame and the cell's index. -/
structure Cell where
  frame : Nat
  idx : Nat
  multi : Bool
  tc : Nat
  first : Bool
  last : Bool
  excl : Bool
  src : Nat
  dst : Nat
  rseq : Nat
  egress : Nat
  mcKind : Nat
  mcValue : Nat
  fill : Nat
  arrival : Nat
  ctVer : Bool
deriving DecidableEq, Repr

/-- A cell in transit on a plane, and the cell time it arrives. -/
structure Transit where
  plane : Nat
  due : Nat
  cell : Cell
deriving DecidableEq, Repr

/-- A resequencer context (R185, R186). `held` keeps cells with the time they arrived, in ps; `open_` the frames in
reassembly with the cells and bytes delivered. -/
structure Reseq where
  next : Nat := 0
  held : List (Cell × Nat) := []
  timer : Nat := 0
  open_ : List (Nat × Nat × Nat) := []
deriving DecidableEq, Repr

/-- A frame in a link's egress queue. -/
structure Egress where
  port : Nat
  tc : Nat
  frame : Nat
deriving DecidableEq, Repr

/-- Coordinates (R14, R197): port number × 1,024 to row × 32 + column; an unlisted port has its default coordinate. -/
abbrev Coords := Tab (Option Nat)

/-- The core. -/
structure CoreSt where
  offers : List Offer := []
  frames : Tab (Option Stored) := []
  nextFrame : Nat := 0
  queues : List Voq := []
  /-- RSEQ of the next cell, by source × 164 + destination -/
  rseq : Tab Nat := []
  transit : List Transit := []
  /-- cells lost on their way, until their context passes their numbers (R182, R186) -/
  gone : List Cell := []
  /-- contexts, by destination × 164 + source -/
  reseq : Tab Reseq := []
  /-- egress queues in order of arrival -/
  egress : List Egress := []
  /-- queues that signal not ready: link × 8 + class; 8,192 + attachment for TC0 to TC6 of attachments 161 to 163 -/
  stopped : Tab Bool := []
  /-- planes out of matching, and planes out of PLANES_IN -/
  noMatch : BitVec 10 := 0
  out_ : BitVec 10 := 0
  /-- planes to return at the next multiple of 64, failed planes, and those that failed again within 1 s of a restore -/
  restoring : BitVec 10 := 0
  failed : BitVec 10 := 0
  needProof : BitVec 10 := 0
  /-- instant of the last restore, by plane, in ps -/
  restoredAt : Tab (Option Nat) := []
  /-- instants of header check failures of the last 1 ms, by plane -/
  errs : Tab (List Nat) := []
  /-- gptr by destination × 8 + class, aptr by source, deficit by destination × 8 + class, and the class in turn -/
  gptr : Tab Nat := []
  aptr : Tab Nat := []
  deficit : Tab Nat := []
  turn : Tab Nat := []
  /-- the last cell time matched -/
  lastMatch : Option Nat := none
  coords : Coords := []
  coordsOld : Coords := []
  ctVer : Bool := false
  pendingCoords : Option Coords := none
  /-- frames given to a unit that has not taken them: intake of each attachment 128 to 163, oldest first -/
  intake : Tab (List Stored) := []
deriving DecidableEq, Repr

/-- A window granted and not yet ended (R217), with the offset, length and targets of the record it is an instance of. -/
structure Granted where
  kind : Nat
  record : Nat × Nat × Nat
  targets : Nat
  start : Nat
  length : Nat
  t : Nat × Nat
deriving DecidableEq, Repr

/-- Ductus (R200 to R225). -/
structure DuctusSt where
  active : List Byte := []
  shadow : List Byte := []
  /-- STATE: 0 NONE, 1 ACTIVE, 2 SUSPENDED -/
  state : Nat := 0
  armed : Bool := false
  shadowValid : Bool := false
  imageStatus : Nat := 0
  lastTag : Nat := 0
  lastSwap : Nat := 0
  /-- SWAP_AT as armed -/
  armedAt : Nat := 0
  validating : Bool := false
  /-- cause of a failed readiness check, 0 passed -/
  check : Option Nat := none
  /-- instant since which TIME has been set and the error in tolerance -/
  settled : Option Nat := none
  /-- SUSPENDED by loss of synchronisation, not by a missed swap (R214, R215) -/
  lostSync : Bool := false
  /-- command 5 was accepted in this cell time and takes effect at the next (R210) -/
  deactivating : Option Nat := none
  /-- the last cell time whose refresh has been made (R219) -/
  refreshedAt : Option Nat := none
  /-- a boot image may be joined without arming -/
  bootJoin : Bool := false
  windows : List Granted := []
  /-- SCHED frames received from leaves, by fibre (R216) -/
  leafFrames : Tab Nat := []
  /-- tokens of shapers and policers in 2^−24 packet -/
  shapers : Tab Nat := []
  policers : Tab Nat := []
deriving DecidableEq, Repr

end Sys2Proof.Machine
end

