-- ==== Sys2Proof/Machine/StateMem.lean ====
section
/-!
DEFINITION. The state of the attached memories (chapter 15 of the spec): LPDDR6 as a sparse byte memory, the owner memory of
the two hosts as the module's DMA sees it, and what is in service.
-/

namespace Sys2Proof.Machine

/-- An access of a core of a partition: the bytes it stores, none for a read, what L3 meets on the line, whether the partition's ways
hold it modified, and what LPDDR6 meets (R324, R334). -/
structure QuillAccess where
  p1 : Bool
  addr : Nat
  store : List Byte
  l3 : Ecc
  dirty : Bool
  ecc : Ecc
deriving DecidableEq, Repr

/-- LPDDR6, Inkwell and owner memory (R323 to R341, R347). -/
structure MemSt where
  /-- LPDDR6 packages and Inkwell stacks in service -/
  lpd : BitVec 16 := 0
  ink : BitVec 4 := 0
  /-- POOL_SIZE_GIB in force (R339) -/
  poolGib : Nat := 0
  zeroDone : Bool := false
  /-- in-service bytes that the fill of R335 has written, in its order -/
  filled : Nat := 0
  /-- Quill's accesses that wait for the fill, in order -/
  quillWait : List QuillAccess := []
  /-- LPDDR6 by module address, as each byte's difference (exclusive or) from the byte at rest there: 0, the fill of R335, or in
  a range of `lost` a free value; an unlisted byte reads as the byte at rest -/
  bytes : Tab Byte := []
  /-- ranges of addresses, first and past the last, whose contents a warm start left undefined (R68), and that start's number -/
  lost : List (Nat × Nat) := []
  lostNo : Nat := 0
  /-- 64-byte lines that hold the poison code, by line number -/
  poisoned : Tab Bool := []
  /-- owner memory of Host A and Host B by owner address; an unlisted byte reads 0 (log entry 8) -/
  hostA : Tab Byte := []
  hostB : Tab Byte := []
  /-- owner pages that DMA cannot reach, by 4 KiB page number and domain -/
  faultPages : List (Domain × Nat) := []
deriving DecidableEq, Repr

/-- The well-formedness of a byte memory: addresses strictly rising, no zero byte listed. -/
def MemSt.wf (m : MemSt) : Bool :=
  Tab.wf (0 : Byte) m.bytes && Tab.wf (0 : Byte) m.hostA && Tab.wf (0 : Byte) m.hostB

end Sys2Proof.Machine
end

