-- ==== Sys2Proof/Machine/StateNib.lean ====
section
/-!
DEFINITION. The state of the Nibs and of Nib programs (chapters 11 and 12 of the spec).
-/

namespace Sys2Proof.Machine

/-- An element's sum: the exact value W × 2^A in units of 2^−149, the four flags of R233, and the binary32 accumulator
of a FAST row (R239), none until the first contribution. -/
structure Acc where
  v : Int := 0
  posInf : Bool := false
  negInf : Bool := false
  nan : Bool := false
  nonneg : Bool := false
  /-- a term has been added -/
  seen : Bool := false
  fast : Option Nat := none
deriving DecidableEq, Repr

/-- A reduction row (R233, R237). -/
structure Row where
  thread : Nat
  row : Nat
  fast : Bool
  /-- A of R233, none before a non-zero term -/
  anchor : Option Int := none
  wide : Bool := false
  spilled : Bool := false
  /-- blocks held; a FAST row holds a quarter of its one block -/
  blocks : List Nat := []
  quarter : Nat := 0
  /-- the Nib's frame count at the last contribution -/
  last : Nat := 0
  /-- every term so far came under the integer rule of R228 -/
  byRule : Bool := false
  /-- elements already rounded by ROUND with FREE (bit per lane) -/
  rounded : Nat := 0
  acc : Tab Acc := []
deriving DecidableEq, Repr

/-- Kinds of unfinished asynchronous instruction. -/
inductive AsyncOp where
  | recv | emit | copy | acc | round | pass
deriving DecidableEq, Repr

/-- An unfinished asynchronous instruction of a context (R266): its number and PC, the scratch bytes it reads and writes as (address,
length) ranges, its word, the register values it read at issue, and the registers a RECV is still to write. -/
structure Async where
  seq : Nat
  pc : Nat
  op : AsyncOp
  word : Nat
  reads : List (Nat × Nat) := []
  writes : List (Nat × Nat) := []
  args : List Nat := []
  dests : List (Nat × Nat) := []
  issued : Nat := 0
  /-- the time in KIND 2 windows that its Nib had counted then (R269) -/
  base : Nat := 0
  /-- EMIT: frames not yet admitted -/
  frames : Nat := 0
deriving DecidableEq, Repr

/-- A semaphore wait of a context: absolute Tally index, operand, instant of issue, and its Nib's time in KIND 2 windows then. -/
structure SwaitSt where
  index : Nat
  value : Nat
  issued : Nat
  base : Nat := 0
  /-- some value in the serial order has reached `value` -/
  met : Bool := false
deriving DecidableEq, Repr

/-- A program context (R254 to R256). -/
structure Ctx where
  thread : Nat
  program : Nat
  pc : Nat := 0
  regs : Tab Nat := []
  blocks : List Nat := []
  /-- scratch bytes: BLOCKS × 2,048 -/
  size : Nat := 0
  scratch : Tab Byte := []
  /-- the Nib's count of instructions at this context's last issue, or at its start -/
  issuedNo : Nat := 0
  /-- X2 as preset -/
  elems : Nat := 0
  steps : Nat := 0
  /-- STEP_LIMIT when the invocation was made (R271) -/
  stepLimit : Nat := 16777216
  seq : Nat := 0
  /-- frames emitted -/
  emitted : Nat := 0
  async : List Async := []
  swait : Option SwaitSt := none
  /-- HALT has been issued -/
  halting : Bool := false
  /-- code of a run-time fault whose earlier asynchronous instructions have not completed, with its PC -/
  faulted : Option (Nat × Nat) := none
deriving DecidableEq, Repr

/-- An invocation that waits (R254, R269), with its Nib's time in KIND 2 windows when it arrived, and SCRATCH_MAX_BLOCKS and STEP_LIMIT as it was made (R271). -/
structure Invocation where
  thread : Nat
  program : Nat
  arrived : Nat
  base : Nat := 0
  scratchMax : Nat := 1024
  stepLimit : Nat := 16777216
deriving DecidableEq, Repr

/-- A program resident in an instruction store (R261). -/
structure Resident where
  program : Nat
  pages : Nat
  image : List Byte
  used : Nat := 0
deriving DecidableEq, Repr

/-- Weights in the array's registers (R240, R267): the context and the scratch address they come from, and their bytes. -/
structure Weights where
  ctx : Nat
  addr : Nat
  bytes : List Byte
deriving DecidableEq, Repr

/-- A pass queued on the array (R243, R265, R267): context and instruction number, rows and columns it takes of a batch, its
format and mode, where its weights lie, and the batch wait in force when it was queued (R250). -/
structure PassReq where
  ctx : Nat
  seq : Nat
  thin : Bool
  shape : Nat
  size : Nat
  fmt : Nat
  mode : Nat
  indep : Bool
  input : Nat := 0
  wAddr : Nat := 0
  wLen : Nat := 0
  wait : Nat := 0
  /-- cycles in which its vectors enter, and cycles to its last output (R241) -/
  entry : Nat := 0
  total : Nat := 0
  /-- it has waited the batch wait -/
  expired : Bool := false
  started : Bool := false
  batch : Nat := 0
  /-- the weights it computes with, and the tenths of an array cycle it has run, since it started -/
  weights : List Byte := []
  ran : Nat := 0
deriving DecidableEq, Repr

/-- A Nib. -/
structure Nib where
  rows : List Row := []
  frames : Nat := 0
  ctxs : Tab (Option Ctx) := []
  waiting : List Invocation := []
  store : List Resident := []
  useCount : Nat := 0
  passes : List PassReq := []
  batchNo : Nat := 0
  batchFill : Nat := 0
  /-- the active weight registers, while no write to the scratch they came from has intervened; the shadow registers; and a load
  into these, with the tenths of an array cycle it still takes (R240, R267) -/
  active : List Weights := []
  shadow : List Weights := []
  loading : List Weights := []
  loadLeft : Nat := 0
  /-- tenths of an array cycle since the last pass began, 2,540 at most: the exchange wave has then passed (R240) -/
  since : Nat := 2540
  /-- tenths of a cycle not yet counted as array cycles, and as cycles below 1.6 GHz (R247) -/
  part : Nat := 0
  partSlow : Nat := 0
  /-- the context that issued last (R254) -/
  turn : Nat := 63
  /-- a KIND 2 window is open (R253) -/
  window : Bool := false
  /-- when it opened, and the time in ps spent in earlier ones, which counts towards no limit (R269, R289) -/
  windowAt : Nat := 0
  windowed : Nat := 0
  /-- LAST_FAULT, FAULT_PC, FAULT_PROGRAM, FAULT_CHUNK of R273 -/
  lastFault : Nat := 0
  faultPc : Nat := 0
  faultProgram : Nat := 0
  faultChunk : Nat := 0
  /-- precise records waiting to be drained, oldest first (R275) -/
  precise : List (List Byte) := []
  /-- instructions issued, and the skidding record of the first one issued since the trigger that waits (R274) -/
  issues : Nat := 0
  lastIssue : Option (List Byte) := none
deriving DecidableEq, Repr

/-- The program library and NIB_PROG_CMD (R259 to R261). Images are byte strings, by position. -/
structure ProgsSt where
  library : Tab (List Byte) := []
  pinned : List Nat := []
  state : Nat := 0
  buffer : List Byte := []
  lastTouch : Nat := 0
  lastStatus : Nat := 0
  lastProgram : Nat := 0
  lastTag : Nat := 0
  failedInstr : Nat := 0
deriving DecidableEq, Repr

end Sys2Proof.Machine
end

