-- ==== Sys2Proof/Machine/StateOptics.lean ====
section
/-!
DEFINITION. The state of lanes, links, fibres and their margin channels, of the rings and comb sources, and of
Hatch (chapters 04 to 07 of the spec).
-/

namespace Sys2Proof.Machine

/-- Lane states of R75, in code order. -/
inductive LaneState where
  | out | lock | align | soak | inn | held
deriving DecidableEq, Repr

/-- HOLD_CAUSE of R88, in code order. -/
inductive Hold where
  | none | loopback | mismatch | pilot | flap | reach | circuit | dark | launch | fade | source
  /-- held until the next start after a unit fault (R458); HOLD_CAUSE gives this cause no code -/
  | unit
deriving DecidableEq, Repr

/-- Link states of R76, in code order. -/
inductive LinkState where
  | disabled | waitMargin | training | up | reduced | held
deriving DecidableEq, Repr

/-- MARGIN_STATE of R87, in code order. -/
inductive MarginState where
  | dark | acquire | up
deriving DecidableEq, Repr

/-- A microring: capture under R90 and its settings. -/
structure RingSt where
  locked : Bool := false
  /-- heater power in µW, 0 to 30,000 (R89) -/
  heater : Nat := 0
  /-- set-point in units of 0.05 GHz off the line (R91: half a TRIAL_STEP) -/
  setPoint : Int := 0
  /-- comb line the ring sits on, 0 to 16 -/
  line : Nat := 0
  /-- parked off its line for circuit use (R117) -/
  parked : Bool := false
deriving DecidableEq, Repr

/-- One wavelength of a fibre: a data lane, or the margin channel as lane 16. -/
structure Lane where
  state : LaneState := .out
  /-- HOLD_CAUSE as shown -/
  hold : Hold := .none
  /-- the lane's own causes that stand: flap, pilot, launch, fade, source (R80, R93, R97, R103, R104) -/
  own : List Hold := []
  /-- the source whose DROPPED_COUNT counts this lane (R103) -/
  droppedBy : Nat := 0
  /-- the receive drop selector is set to Hatch, not to the photodetector (R117) -/
  toHatch : Bool := false
  /-- BER_EST (R88) -/
  ber : Nat := 0xFFFF
  /-- instants, in ps, of the exits from IN of the last 60 s (R80) -/
  exits : List Nat := []
  /-- this end has finished SOAK and waits for the far end (R80) -/
  soaked : Bool := false
  /-- a LANE_ADD was sent naming this SEQ and its confirmation is awaited -/
  addSeq : Option Nat := none
  /-- the ring in LOCK was captured (R93) -/
  modulator : RingSt := {}
  drop : RingSt := {}
  addDrop : RingSt := {}
  /-- consecutive words with the lane's own INDEX, and with a wrong one (R93, R94) -/
  pilotGood : Nat := 0
  pilotBad : Nat := 0
  /-- comb lines tried in this LOCK (R93) -/
  pilotLines : Nat := 0
  /-- valid words lost while FEC stays locked, counted (R94) -/
  pilotLost : Nat := 0
  /-- commissioning reference of the line's launch power in 0.01 dBm (R97) -/
  lineRef : Int := 0
  /-- last averaged fade in 0.01 dB (R98) -/
  fade : Int := 0
deriving DecidableEq, Repr

/-- What a hello carries of the far end's configuration (R74, R150). -/
structure FarCfg where
  linkStart : Nat
  laneEnable : Nat
  mode : Nat
  longReach : Nat
  slotId : Nat
  fibre : Nat
deriving DecidableEq, Repr

/-- A trial of R91: the lane and ring, the window (0: +TRIAL_STEP, 1: −TRIAL_STEP), the saved set-point and
the error counts of the two windows. -/
structure Trial where
  lane : Nat
  ring : Ring
  second : Bool := false
  saved : Int
  plus : Nat := 0
  minus : Nat := 0
deriving DecidableEq, Repr

/-- A margin frame waiting in its priority queue (R149): priority 1 to 9, SEQD and RELAY bits, slot, TYPE and
payload. A relayed frame is kept whole in `payload`. -/
structure MarginFrame where
  prio : Nat
  seqd : Bool
  relay : Bool := false
  typ : Nat
  payload : List Byte
  /-- the fibre whose TC7 credit a relayed frame still holds (R151, R154) -/
  owes : Option Nat := none
deriving DecidableEq, Repr

/-- A fibre's margin channel (R145 to R149). -/
structure Margin where
  txSeq : Nat := 0
  rxSeq : Nat := 0
  /-- sequenced frames sent and not yet acknowledged, oldest first, at most 128 -/
  heldFrames : List (Nat × MarginFrame) := []
  /-- frames not yet sent: the 128 are outstanding, the TC7 credit is used up, or a window stops the channel -/
  waiting : List MarginFrame := []
  /-- TC7 units sent, the far end's limit, and the units this receiver has freed (R149) -/
  tc7Sent : Nat := 0
  tc7Limit : Nat := 0
  tc7Freed : Nat := 0
  /-- an idle window stops data and margin frames (R100, R117) -/
  stopped : Bool := false
  /-- instant of the last ABORT acted on (R152) -/
  abortAt : Option Nat := none
  /-- 100 µs windows reported (R150) -/
  window : Nat := 0
deriving DecidableEq, Repr

/-- A fibre pair (R72 to R88). Lanes are keyed 0 to 16. -/
structure Fibre where
  lanes : Tab Lane := []
  marginState : MarginState := .dark
  rxLos : Bool := false
  /-- MEASURED_LENGTH in units of 10 m -/
  length : Nat := 0
  /-- the length last measured, in m (R83) -/
  metres : Option Nat := none
  /-- START_VALUE drawn at the last start of training (R76) -/
  startValue : Nat := 0
  /-- consecutive valid hellos, and the last one's receive time and TX_TIME in ns -/
  goodHellos : Nat := 0
  lastHello : Option (Nat × Nat) := none
  far : Option FarCfg := none
  /-- every link of the fibre is held for this cause (R74, R81, R83) -/
  holdAll : Hold := .none
  margin : Margin := {}
  trial : Option Trial := none
  /-- the rings of the fibre hold through a far end's changeover window (R101): T in cell-independent seconds
  and nanoseconds -/
  farWindow : Option (Nat × Nat) := none
  /-- lanes the far end reports worse than WARN_BER, with the instant of the report (R98) -/
  reports : List (Nat × Nat) := []
  /-- MAC-level replay and margin timers and fault detection are suspended (R157) -/
  suspended : Bool := false
deriving DecidableEq, Repr

/-- A data frame held by a link: SEQ, class, the lane it was sent on, and bytes (R135). -/
structure HeldFrame where
  seq : Nat
  tc : Nat
  lane : Nat := 0
  bytes : List Byte
  /-- MAX_FRAME and VFT_UDP_PORT when the frame arrived (R155) -/
  maxFrame : Nat := 0
  udp : Nat := 0
deriving DecidableEq, Repr

/-- A link, keyed by its port number (R76, R134 to R138). -/
structure LinkSt where
  state : LinkState := .disabled
  attempts : Nat := 0
  txSeq : Nat := 0
  rxSeq : Nat := 0
  /-- frames ahead of the next expected SEQ, held up to 100 ns (R134) -/
  rxHeld : List HeldFrame := []
  /-- a gap was declared and the expected SEQ has not arrived -/
  gap : Bool := false
  replay : List HeldFrame := []
  /-- the point from which the last replay started and the instant, in ps, at which it has run (R135) -/
  replayAt : Option (Nat × Nat) := none
  /-- that replay came of the timeout (R157) -/
  replayTimed : Bool := false
  /-- per class: units sent, the far end's limit, units freed here, the limit last advertised (R138) -/
  sent : Tab Nat := []
  limit : Tab Nat := []
  freed : Tab Nat := []
  advertised : Tab Nat := []
  /-- lanes draining for a Hatch commit grant zero credit (R117) -/
  draining : Bool := false
  /-- egress deficit round robin of TC1 to TC6 in bytes, and the class in turn (R207) -/
  deficit : Tab Nat := []
  turn : Nat := 1
  /-- deficit round robin over the lanes: bytes left to the lane in turn -/
  laneTurn : Nat := 0
  laneLeft : Nat := 0
deriving DecidableEq, Repr

/-- STATE of a comb source (R107), in code order. -/
inductive SourceState where
  | off | starting | ready | active | retired | failed
deriving DecidableEq, Repr

/-- A comb source (R96, R107). -/
structure Source where
  state : SourceState := .off
  /-- fibre 0 to 3 of the engine that the source feeds, 4 none -/
  feeds : Nat := 4
  worstLine : Nat := 0
  dropped : Nat := 0
  /-- FADE in 0.01 dB; none while the source is off -/
  fade : Option Int := none
  /-- fade of the worst line when last measured, kept while the source is off (R109) -/
  lastFade : Int := 0
deriving DecidableEq, Repr

/-- A changeover of an engine's fibre (R100, R101, R109). `t` is the granted instant. -/
structure Changeover where
  /-- fibre 0 to 3 of the engine -/
  fibre : Nat
  /-- the source that takes over: 4 the spare, else the reinstated source -/
  target : Nat
  /-- instant of the request, in ps (R105) -/
  at_ : Nat := 0
  requested : Bool := false
  t : Option (Nat × Nat) := none
  noticed : Bool := false
  acked : Bool := false
  open_ : Bool := false
  abandoned : Nat := 0
deriving DecidableEq, Repr

/-- Wavelength control of an engine. -/
structure Engine where
  /-- CS0 to CS4, keyed 0 to 4 -/
  sources : Tab Source := []
  change : Option Changeover := none
  /-- above the photonic die's warning temperature (R95) -/
  hot : Bool := false
  /-- the fibre whose source FAILED and waits for the spare (R104) -/
  failedFibre : Option Nat := none
deriving DecidableEq, Repr

/-- An interferometer (R110, R127): MODE and RATIO, heater, and whether it is FAILED. -/
structure Elem where
  mode : Nat := 0
  ratio : Nat := 0
  heater : Nat := 0
  failed : Bool := false
deriving DecidableEq, Repr

/-- A standing connection: its input and outputs, the gain of each output in 0.01 dB, and whether its gain stages are
muted (R121). -/
structure Conn where
  input : Nat
  outs : List Nat
  gains : List Nat := []
  muted : Bool := false
deriving DecidableEq, Repr

/-- A commit in progress (R117). -/
structure Commit where
  entries : List Nat
  tag : Nat
  /-- HATCH_LEAD_US when the commit was accepted (R124) -/
  lead : Nat := 0
  /-- COMMIT_STATE 1 to 3 -/
  stage : Nat := 1
  /-- new connections and released inputs -/
  connects : List Conn := []
  releases : List Nat := []
  /-- element settings to write, and inputs whose connection they disturb -/
  route : Option (List (Nat × Elem)) := none
  disturbed : List Nat := []
  /-- DRAIN_US has passed; the drain has ended -/
  drainDue : Bool := false
  drained : Bool := false
  t : Option (Nat × Nat) := none
  requested : Bool := false
  noticed : Bool := false
  /-- a CIRCUIT notice has been sent, in this window or an abandoned one (R115) -/
  sent : Bool := false
  /-- elements that became FAILED during the commit (R128) -/
  failedNow : List Nat := []
  /-- notices whose acknowledgement is awaited, 16 × fibre + slot -/
  awaiting : List Nat := []
  abandoned : Nat := 0
  settled : Bool := false
deriving DecidableEq, Repr

/-- Hatch (R110 to R127). Elements are keyed 128 × stage + element. -/
structure HatchSt where
  elems : Tab Elem := []
  conns : List Conn := []
  commit : Option Commit := none
  lastStatus : Nat := 0
  lastTag : Nat := 0
deriving DecidableEq, Repr

end Sys2Proof.Machine
end

