-- ==== Sys2Proof/Machine/StatePower.lean ====
section
/-!
DEFINITION. The state of the power stage, of the start sequences and of the two flash devices (chapters 02
and 03 of the spec).
-/

namespace Sys2Proof.Machine

/-- The power stage controller and its lands (R23 to R46). -/
structure Power where
  /-- the EN land, as sensed -/
  en : Bool := false
  /-- running time in ps since which EN has been low -/
  enLowAt : Option Nat := none
  /-- HOLDUP_WARN_N is low -/
  holdupWarn : Bool := false
  /-- VIN36 has reached 29.0 V and not fallen below 27.5 V or risen above 42.0 V since (R29) -/
  vinOk : Bool := false
  /-- the input current limit holds (R29) -/
  limiting : Bool := false
  /-- THERM_TRIP: the trip is latched (R44) -/
  tripped : Bool := false
  /-- FAULT_N low and core held under policy 2 (R430), until EN has been low for 50 ms -/
  secHold : Bool := false
  /-- rail groups in regulation, 0 to 4 (R45) -/
  groups : Nat := 0
  /-- the power-up sequence runs: a next group is ramping -/
  ramping : Bool := false
  pwrOk : Bool := false
  vio18 : Bool := false
  /-- a module fault drives FAULT_N low until SERVICE is next set (R459) -/
  faultLow : Bool := false
  /-- THERM_TRIP_N driven low; latched (R44) -/
  tripLow : Bool := false
  sysclk : Bool := true
  /-- the core is held in reset (R27, R28, R37) -/
  coreHeld : Bool := false
  /-- LAST_OFF_CAUSE (R36) -/
  lastOff : Nat := 0
  /-- instants of the input current limit shutdowns of the last 60 s (R29) -/
  ilimitOffs : List Nat := []
  /-- a third shutdown of that kind blocks restart until EN has been low (R29) -/
  ilimitLock : Bool := false
  /-- a second rail failure keeps the module off (R46) -/
  railLock : Bool := false
  /-- the retry of R46 is pending or has been used -/
  railRetry : Bool := false
  railFaults : Nat := 0
  /-- VIO_1V8 overload holds the core until EN is next cycled (R27) -/
  vioLock : Bool := false
  /-- EN is high again: a cold start follows once the rails have been off for 50 ms (R32, R33) -/
  enAgain : Bool := false
  /-- running time in ps at which the rails last went off -/
  offAt : Option Nat := none
  /-- SYSCLK is absent or was lost, and the core is held for it (R37) -/
  clockHold : Bool := false
  /-- the configured limit of input power in W (R19) -/
  limit : Nat := 2100
  /-- the input power in W that the power stage last reported (R19) -/
  watts : Nat := 0
  /-- power demand in steps (R35) -/
  powerNib : Nat := 0
  powerQuill : Nat := 0
  /-- thermal demands in steps (R35): core die, Inkwell stacks, LPDDR6 packages -/
  coreNib : Nat := 0
  coreQuill : Nat := 0
  inkNib : Nat := 0
  lpdQuill : Nat := 0
  /-- the floors of step 4 of R33 are forced -/
  floors : Bool := false
  /-- sensor levels against R43, keyed by `Sensor.key`: 0 normal, 1 warning, 2 throttle, 3 trip -/
  heat : Tab Nat := []
deriving DecidableEq, Repr

/-- The phases of a start: the module off, rails ramping, the last cold step or warm step reached (R61, R67). -/
inductive Phase where
  | off
  | rails
  | cold (step : Nat)
  | warm (step : Nat)
deriving DecidableEq, Repr

/-- The start sequence, the sampled straps and BOOT_STATUS (R48 to R68). -/
structure Boot where
  phase : Phase := .off
  straps : Straps := {}
  /-- no good bank: the ROM is in recovery (R57) -/
  recovery : Bool := false
  activeBank : Nat := 0
  warm : Bool := false
  failCode : Nat := 0
  /-- bits 11:0 of BOOT_STATUS -/
  done : BitVec 12 := 0
  /-- cold step 10 or the SRAM part of warm step 7 has ended -/
  sram : Bool := false
  photonic : Bool := false
  comb : Bool := false
  /-- the PUF array's raw value as captured at this start, in Scribe's private memory (R49) -/
  puf : Option (Vector Byte 65536) := none
  /-- identity reconstructed (R65, R418) -/
  identity : Bool := false
  /-- WARM_RST_N is held low -/
  warmLow : Bool := false
  /-- a warm reset request waits for a Hatch commit to end (R66, R128) -/
  warmPending : Bool := false
  warmIgnored : Nat := 0
  warmMerged : Nat := 0
  /-- HOLDUP is set once the warm reset of a hold-up sequence has run (R33) -/
  holdupMark : Bool := false
  /-- cores of P0 (R9) -/
  coresP0 : Nat := 12
  /-- a flash device is read in 1S-1S-1S mode (R50) -/
  degraded : Bool := false
deriving DecidableEq, Repr

/-- One xSPI NOR device (R50): what its SFDP table advertises, and its bytes; erased bytes read 0xFF. -/
structure FlashDev where
  answers : Bool := true
  sfdp : Bool := true
  octal : Bool := true
  erase4k : Bool := true
  /-- a write or its read-back fails (R57) -/
  writable : Bool := true
  bytes : Tab Byte := []
deriving DecidableEq, Repr

/-- The two flash banks. -/
structure Flash where
  a : FlashDev := {}
  b : FlashDev := {}
deriving DecidableEq, Repr

end Sys2Proof.Machine
end

