-- ==== Sys2Proof/Machine/StateSec.lean ====
section
/-!
DEFINITION. The state of attestation, sessions' surroundings, sensors, the test access port and Chop (chapter 19 of the spec).
-/

namespace Sys2Proof.Machine

/-- An SPDM connection (R421): what has been negotiated so far, and the MCTP message being reassembled. -/
structure Spdm where
  /-- 0 nothing; 1 version; 2 capabilities; 3 algorithms -/
  stage : Nat := 0
  version : Nat := 0
deriving DecidableEq, Repr

/-- Attestation, debug and sensors (R416 to R431). -/
structure SecSt where
  /-- SECURITY_VERSION and KEY_INDEX of the active boot set -/
  version : Nat := 0
  keyIndex : Nat := 0
  /-- the four trailers, and the digests of measurements 1 to 4, of the active boot set -/
  trailers : List (List Byte) := []
  digests : List (List Byte) := []
  erased : Bool := false
  unlocked : Bool := false
  nonce : Nat := 0
  /-- instants, in ps, of failed SESSION_AUTH and debug unlocks of the last 60 s (R429 sensor 5) -/
  failures : List Nat := []
  /-- sensors that fired before cold step 9 (R430) -/
  deferred : List Nat := []
  /-- events of each sensor, counted (R430) -/
  sensorCount : Tab Nat := []
  /-- SPDM connections: DOE of Host A 0 and Host B 1, MCTP 2 -/
  spdm : Tab Spdm := []
  /-- the MCTP message being reassembled, and the packets of the module's answer not yet returned (R422) -/
  mctp : List Byte := []
  mctpOut : List (List Byte) := []
  /-- EXTEST, CLAMP or HIGHZ holds the lands (R427) -/
  boundary : Bool := false
deriving DecidableEq, Repr

/-- A closed record that Scribe has not confirmed (R437). -/
structure ChopRecord where
  no : Nat
  bytes : List Byte
deriving DecidableEq, Repr

/-- Chop (R432 to R441). -/
structure ChopSt where
  running : Bool := false
  /-- running time at which Chop left reset, in ps -/
  born : Nat := 0
  /-- UNSEALED (R439) -/
  unsealed : Bool := true
  keyReady : Bool := false
  /-- Chop's helper data, which names its key -/
  helper : List Byte := []
  /-- network time adopted -/
  synced : Bool := false
  /-- the newest stored record has been delivered and judged (R435, R438) -/
  ready : Bool := false
  /-- V_GAIN, I_GAIN, V_OFFSET_UV, I_OFFSET_MA of a verified calibration -/
  cal : Option (Nat × Nat × Int × Int) := none
  audit : Nat := 0
  lastRecord : Nat := 0
  /-- RECORD_NO of the next record, and the digest of the last -/
  nextNo : Nat := 0
  prevDigest : List Byte := []
  energyTotal : Nat := 0
  accounts : Tab Nat := []
  interval : Nat := 15
  newInterval : Option Nat := none
  /-- ACCOUNT_MAP in force, by port -/
  map : Tab Nat := []
  /-- the running record: running time of its start in ps, and the instant it starts at once dated -/
  startAt : Nat := 0
  startTime : Option (Nat × Nat) := none
  /-- end of the previous record, none where unknown -/
  prevEnd : Option (Nat × Nat) := none
  /-- flags the running record will carry: FLAGS of R436 -/
  flags : Nat := 0
  /-- part of the running record ran UNSEALED -/
  openPart : Bool := false
  held : List ChopRecord := []
  dropped : Nat := 0
  /-- the account feed: next number sent, next number expected -/
  feedSent : Nat := 0
  feedWant : Nat := 0
  /-- bytes tallied by port logic and not yet fed, by account (R434) -/
  tally : Tab Nat := []
deriving DecidableEq, Repr

end Sys2Proof.Machine
end

