-- ==== Sys2Proof/Machine/StateTables.lean ====
section
/-!
DEFINITION. The state of the ingress pipelines and the table engine (chapter 08 of the spec). The engine keeps the eight
copies equal but for locations whose check bits fail, so the contents are held once and `bad` lists the
failing locations (log entry 13). The trie's entries follow from the prefix list and the node map (R170).
-/

namespace Sys2Proof.Machine

/-- An exact-match entry that is VALID (R162). -/
structure Exact where
  learnt : Bool
  stamp : Nat
  /-- RESULT of R163 -/
  result : Nat
  /-- bits 159:0 of R162: KEY_TYPE, VID, VALUE -/
  key : Nat
deriving DecidableEq, Repr

/-- A prefix of the list of R170. `addr` holds the first `len` address bits. -/
structure Prefix where
  v6 : Bool
  len : Nat
  addr : Nat
  hop : Nat
deriving DecidableEq, Repr

/-- The path a trie node stands at: family, length in bits (16, 24, …) and the bits. -/
structure NodePath where
  v6 : Bool
  len : Nat
  addr : Nat
deriving DecidableEq, Repr

/-- A next hop (R171). -/
structure NextHop where
  mac : Nat := 0
  port : Nat := 0
  vid : Nat := 0
  valid : Bool := false
  tagged : Bool := false
deriving DecidableEq, Repr

/-- A batch being applied (R174): the operations as copied, 512-bit numbers in storage order, and the next one. -/
structure Batch where
  ops : List Nat
  at_ : Nat := 0
  tag : Nat
deriving DecidableEq, Repr

/-- A learn or refresh request of a pipeline (R168): the source key and the link; `refresh` for a hit on the same
link, `move` for a hit on another. -/
inductive LearnKind where
  | learn | refresh | move
deriving DecidableEq, Repr

/-- A request to the table engine. -/
structure LearnReq where
  kind : LearnKind
  key : Nat
  link : Nat
deriving DecidableEq, Repr

/-- A frame that port logic has passed up (R130): ingress link, or the fibre of a CARRY frame, and the class and length
its credit is counted under. -/
structure RxFrame where
  link : Nat
  carry : Bool := false
  tc : Nat
  bytes : List Byte
  start : Nat := 0
  /-- VFT_UDP_PORT when the frame arrived (R155) -/
  udp : Nat := 0
deriving DecidableEq, Repr

/-- Pipelines and tables. Exact-match locations are bank × 65,536 + bucket × 4 + entry. -/
structure TablesSt where
  exact : Tab (Option Exact) := []
  prefixes : List Prefix := []
  /-- the path of each node in use, by node number -/
  nodes : Tab (Option NodePath) := []
  hops : Tab NextHop := []
  /-- member bits by VID -/
  vlan : Tab Nat := []
  /-- TABLE_STAGE, subindex k + 1 as a 512-bit number in storage order -/
  stage : Tab Nat := []
  batch : Option Batch := none
  lastStatus : Nat := 0
  failedOp : Nat := 0
  lastTag : Nat := 0
  /-- the engine's 16-bit register of R166; the spec gives its step no rule, so each step is a free value -/
  lfsr : Nat := 0
  /-- EVICT_LOG, newest first, 256-bit entries -/
  evictLog : List Nat := []
  /-- locations whose check bits fail: copy, TABLE code of R478, location -/
  bad : List (Nat × Nat × Nat) := []
  /-- locations passed to the engine for repair -/
  repairs : List (Nat × Nat × Nat) := []
  learn : List LearnReq := []
  /-- frames waiting for a lookup, by pipeline -/
  waiting : Tab (List RxFrame) := []
  /-- LAST_VFT_REJECT, by fibre -/
  lastReject : Tab Nat := []
  /-- CHECK_FAIL of TABLE_SELECT, per source -/
  checkFail : List DopSrc := []
deriving DecidableEq, Repr

end Sys2Proof.Machine
end

