-- ==== Sys2Proof/Machine/StateTime.lean ====
section
/-!
DEFINITION. The state of the Timekeeper and of Folio (chapter 17 of the spec).
-/

namespace Sys2Proof.Machine

/-- STATE of R386, in code order. -/
inductive Servo where
  | free | acquire | track | holdover
deriving DecidableEq, Repr

/-- A received Announce dataset (R368), with the port identity it was sent from. -/
structure Announce where
  priority1 : Nat
  clockClass : Nat
  accuracy : Nat
  variance : Nat
  priority2 : Nat
  identity : Nat
  steps : Nat
  sender : Nat
  senderPort : Nat
  utc : Nat
  flags : Nat
  timeSource : Nat
deriving DecidableEq, Repr

/-- A PTP port, one per fibre: the foreign master's dataset and how many Announce messages it has sent since the last receipt
timeout, the last Sync as local less master time, the Delay_Req in flight, and twice the mean path delay; times in
2^−32 ns. -/
structure PtpPort where
  master : Option Announce := none
  announces : Nat := 0
  syncDiff : Option Int := none
  delaySeq : Nat := 0
  delayT3 : Option Int := none
  pathSum : Int := 0
  txSync : Nat := 0
  txAnnounce : Nat := 0
deriving DecidableEq, Repr

/-- An exact dyadic number: m / 2^k. The servo's equations are evaluated exactly (R366). -/
structure Dyadic where
  m : Int := 0
  k : Nat := 0
deriving DecidableEq, Repr

/-- A software trigger (R385). -/
structure Trigger where
  cell : Nat := 0
  action : Nat := 0
  armed : Bool := false
deriving DecidableEq, Repr

/-- The Timekeeper (R365 to R372, R386). -/
structure TimeSt where
  sec : Nat := 0
  ns : Nat := 0
  frac : Nat := 0
  inc : Nat := 0x0000000140000000
  servo : Servo := .free
  /-- the start is warm: ACQUIRE keeps INC (R366) -/
  keepInc : Bool := false
  /-- filtered offset and its sum, in ns -/
  e : Dyadic := {}
  acc : Dyadic := {}
  /-- offsets measured on the selected source and not yet taken by the servo, in 2^−33 ns -/
  offsets : List Int := []
  /-- samples of ACQUIRE: local instant in 2^−32 ns and offset in 2^−33 ns -/
  samples : List (Int × Int) := []
  lockCount : Nat := 0
  /-- the estimate of R367 rounded up to a whole ns, 2^20 − 1 at most, and as the field of R386 shows it -/
  err : Nat := 0xFFFFF
  errShown : Nat := 0xFFFFF
  /-- running time of the last sample, in ps -/
  lastSample : Nat := 0
  source : Nat := 255
  /-- TIME_SRC in force: what a start loaded (R384) -/
  src : Nat := 0
  ports : Tab PtpPort := []
  /-- the 1PPS input: consecutive accepted edges, SECONDS and running time of the last accepted one, the message that names the
  next edge (SECONDS, STATUS, UTC_OFFSET, running time of its end), STATUS in force, usable -/
  ppsEdges : Nat := 0
  ppsLast : Option (Nat × Nat) := none
  ppsTod : Option (Nat × Nat × Nat × Nat) := none
  ppsStatus : Nat := 2
  ppsUsable : Bool := false
  utcOffset : Nat := 0
  /-- running time at which PPS_OUT last rose -/
  ppsOutAt : Option Nat := none
  triggers : Tab Trigger := []
deriving DecidableEq, Repr

/-- A snapshot bank (R377, R389): every counter as latched. -/
structure Bank where
  epoch : Nat := 0
  valid : Bool := false
  held : Bool := false
  unsynced : Bool := false
  cell : Nat := 0
  counters : Tab Nat := []
deriving DecidableEq, Repr

/-- Folio (R373 to R390). -/
structure FolioSt where
  bank0 : Bank := {}
  bank1 : Bank := {}
  armed : Bool := false
  /-- the SNAP_AT armed and the number of strobes since -/
  snapAt0 : Nat := 0
  strobe : Nat := 0
  /-- the sample store of R381, oldest first -/
  store : List (List Byte) := []
  /-- sampling runs on a Nib: instructions since the last period trigger, and occurrences per event -/
  periodCount : Tab Nat := []
  eventCount : Tab Nat := []
  /-- sampling stopped by a trigger's action 3 -/
  stopped : Bool := false
  /-- a skidding trigger waits for the Nib's next instruction: Nib and event -/
  skidding : Tab Nat := []
deriving DecidableEq, Repr

end Sys2Proof.Machine
end

