-- ==== Sys2Proof/Machine/State.lean ====
section
/-!
DEFINITION. The state of the module: every register, table, queue, buffer, mode and land the spec gives it, the model's
own fields (`out`, `freeCount`, `now`), and the queue of commands that wait. `State.reset` is the module
before 36 V is first applied: every field at its reset value.
-/

namespace Sys2Proof.Machine

/-- The reasons a step can stop with a fault. -/
inductive Fault where
  /-- raised by no command today: the spec gives every command an effect; kept so that a repair can name a
  stuck state; safe -/
  | stuck
deriving DecidableEq, Repr

/-- The reasons a command can be refused. -/
inductive Refusal where
  /-- raised by `exec` for a command that has no meaning yet; safe -/
  | notModelled (mnemonic : String)
deriving DecidableEq, Repr

structure State where
  power : Power := {}
  boot : Boot := {}
  flash : Flash := {}
  fibres : Tab Fibre := []
  links : Tab LinkSt := []
  engines : Tab Engine := []
  hatch : HatchSt := {}
  time : TimeSt := {}
  folio : FolioSt := {}
  codex : CodexSt := {}
  slots : Tab Slot := []
  faults : FaultSt := {}
  mem : MemSt := {}
  tables : TablesSt := {}
  core : CoreSt := {}
  ductus : DuctusSt := {}
  nibs : Tab Nib := []
  progs : ProgsSt := {}
  coll : CollSt := {}
  host : HostSt := {}
  lig : LigSt := {}
  sec : SecSt := {}
  chop : ChopSt := {}
  /-- parameter objects, keyed 256 × index + subindex; an unlisted one reads its reset value -/
  params : Tab Nat := []
  /-- status flag objects (R406), keyed 256 × index + subindex -/
  flags : Tab FlagObj := []
  /-- Folio's live counters and histograms (R373 to R379), keyed 256 × index + subindex -/
  counters : Tab Nat := []
  /-- counts the spec keeps outside Folio, keyed by `Misc` -/
  misc : Tab Nat := []
  /-- running time in ps since the first command, never reset (the model's own) -/
  now : Nat := 0
  /-- free values taken so far (the model's own) -/
  freeCount : Nat := 0
  /-- what has left the module, newest first (the model's own) -/
  out : List Output := []
  pending : List Instr := []
deriving DecidableEq, Repr

/-- The module right after reset. -/
def State.reset : State := {}

end Sys2Proof.Machine
end

