-- ==== Sys2Proof/Machine/Ops.lean ====
section
/-!
DEFINITION. The named operations over the state's stores: unit tables, parameters, status flags with their
occurrence counters, counters, the fault history's events, free values, and what the module sends.
-/

namespace Sys2Proof.Machine

/-- The outcome of a command. -/
abbrev Out := Host.Outcome State Fault Refusal

/-- A change of the power stage. -/
def State.modPower (s : State) (g : Power → Power) : State := { s with power := g s.power }

/-- A change of the start sequence. -/
def State.modBoot (s : State) (g : Boot → Boot) : State := { s with boot := g s.boot }

/-- A change of the Timekeeper. -/
def State.modTime (s : State) (g : TimeSt → TimeSt) : State := { s with time := g s.time }

/-- A change of Folio. -/
def State.modFolio (s : State) (g : FolioSt → FolioSt) : State := { s with folio := g s.folio }

/-- A change of the Codex server. -/
def State.modCodex (s : State) (g : CodexSt → CodexSt) : State := { s with codex := g s.codex }

/-- A change of the fault machinery. -/
def State.modFaults (s : State) (g : FaultSt → FaultSt) : State := { s with faults := g s.faults }

/-- A change of Hatch. -/
def State.modHatch (s : State) (g : HatchSt → HatchSt) : State := { s with hatch := g s.hatch }

/-- A change of the memories. -/
def State.modMem (s : State) (g : MemSt → MemSt) : State := { s with mem := g s.mem }

/-- Fibre `f`. -/
def State.fibre (s : State) (f : Nat) : Fibre := s.fibres.get {} f

/-- Change fibre `f`. -/
def State.updFibre (s : State) (f : Nat) (g : Fibre → Fibre) : State :=
  { s with fibres := s.fibres.upd {} f g }

/-- Lane `w` of fibre `f`; 16 is the margin channel. -/
def State.lane (s : State) (f w : Nat) : Lane := (s.fibre f).lanes.get {} w

/-- Change lane `w` of fibre `f`. -/
def State.updLane (s : State) (f w : Nat) (g : Lane → Lane) : State :=
  s.updFibre f (fun x => { x with lanes := x.lanes.upd {} w g })

/-- The link whose port number is `p`. -/
def State.link (s : State) (p : Nat) : LinkSt := s.links.get {} p

/-- Change link `p`. -/
def State.updLink (s : State) (p : Nat) (g : LinkSt → LinkSt) : State :=
  { s with links := s.links.upd {} p g }

/-- Engine `e`. -/
def State.engine (s : State) (e : Nat) : Engine := s.engines.get {} e

/-- Change engine `e`. -/
def State.updEngine (s : State) (e : Nat) (g : Engine → Engine) : State :=
  { s with engines := s.engines.upd {} e g }

/-- Comb source `i` of engine `e`. -/
def State.source (s : State) (e i : Nat) : Source := (s.engine e).sources.get {} i

/-- Change comb source `i` of engine `e`. -/
def State.updSource (s : State) (e i : Nat) (g : Source → Source) : State :=
  s.updEngine e (fun x => { x with sources := x.sources.upd {} i g })

/-- Job slot `j`. -/
def State.slot (s : State) (j : Nat) : Slot := s.slots.get {} j

/-- Change job slot `j`. -/
def State.updSlot (s : State) (j : Nat) (g : Slot → Slot) : State :=
  { s with slots := s.slots.upd {} j g }

/-- The key of an object in the stores. -/
def objKey (idx sub : Nat) : Nat := idx * 256 + sub

/-- The value of a parameter object. -/
def State.param (s : State) (idx sub : Nat) : Nat := s.params.get (objReset idx sub) (objKey idx sub)

/-- Store a parameter object's value. -/
def State.setParam (s : State) (idx sub v : Nat) : State :=
  { s with params := s.params.put (objReset idx sub) (objKey idx sub) v }

/-- Return a parameter object to its reset value. -/
def State.resetParam (s : State) (idx sub : Nat) : State := s.setParam idx sub (objReset idx sub)

/-- A status flag object (subindex 01). -/
def State.flagObj (s : State) (idx : Nat) : FlagObj := s.flags.get {} (objKey idx 1)

/-- A flag reads 1. -/
def State.flag (s : State) (idx b : Nat) : Bool := (s.flagObj idx).val.getLsbD b

/-- A hardware set of a flag: the flag reads 1 and its occurrence counter gains 1, up to 65,535 (R406, R407). -/
def FlagObj.set (x : FlagObj) (b : Nat) : FlagObj :=
  { val := x.val ||| BitVec.ofNat 32 (2 ^ b)
    counts := x.counts.upd 0 b (fun n => if n < 65535 then n + 1 else n) }

/-- A hardware set of flag `b` of object `idx`. -/
def State.setFlag (s : State) (idx b : Nat) : State :=
  { s with flags := s.flags.upd {} (objKey idx 1) (fun x => x.set b) }

/-- A hardware set when a condition holds. -/
def State.setFlagIf (s : State) (c : Bool) (idx b : Nat) : State := if c then s.setFlag idx b else s

/-- A software clear: flags written 1 read 0 (R2, R406). -/
def State.clearFlags (s : State) (idx : Nat) (mask : Word32) : State :=
  { s with flags := s.flags.upd {} (objKey idx 1) (fun x => { x with val := x.val &&& ~~~mask }) }

/-- A counter of Folio. -/
def State.counter (s : State) (idx sub : Nat) : Nat := s.counters.get 0 (objKey idx sub)

/-- Count `n` more, modulo 2^64 (R373). -/
def State.count (s : State) (idx sub n : Nat) : State :=
  { s with counters := s.counters.upd 0 (objKey idx sub) (fun v => (v + n) % 2 ^ 64) }

/-- Count one at a port's counter of R374. -/
def State.countPort (s : State) (p sub : Nat) : State := s.count (0x7C00 + p) sub 1

/-- Count one at a fibre's counter of R374. -/
def State.countFibre (s : State) (f sub : Nat) : State := s.count (0x7800 + f) sub 1

/-- Count one at a unit's counter of R375. -/
def State.countUnit (s : State) (typ inst sub : Nat) : State := s.count (0x7000 + 0x40 * typ + inst) sub 1

/-- Counters of the memory manager (R375, type 0x08). -/
def State.countMem (s : State) (sub n : Nat) : State := s.count (0x7000 + 0x40 * 8) sub n

/-- Counts the spec asks for outside Folio ("discarded and counted" with no counter of R374 or R375). -/
inductive Misc where
  | dataBadLink | dataDuplicate | dataNewerInGap | preService | linkDownDropped | controlBad | noTc0Schedule
  | tc6FromTc7 | marginUnaccepted | marginReset | alignTimeouts | trainingAttempts | portDiscard
  | ppsWidth | jobFrameBad | ackLate | shareExtra | memBadFrame | warmLost | carryBad | fillWait | other
deriving DecidableEq, Repr

/-- The key of a count outside Folio. -/
def Misc.key : Misc → Nat
  | .dataBadLink => 0 | .dataDuplicate => 1 | .dataNewerInGap => 2 | .preService => 3 | .linkDownDropped => 4
  | .controlBad => 5 | .noTc0Schedule => 6 | .tc6FromTc7 => 7 | .marginUnaccepted => 8 | .marginReset => 9
  | .alignTimeouts => 10 | .trainingAttempts => 11 | .portDiscard => 12 | .ppsWidth => 13 | .jobFrameBad => 14
  | .ackLate => 15 | .shareExtra => 16 | .memBadFrame => 17 | .warmLost => 18 | .carryBad => 19 | .fillWait => 20
  | .other => 21

/-- Count `n` more outside Folio. -/
def State.countMisc (s : State) (m : Misc) (n : Nat) : State :=
  { s with misc := s.misc.upd 0 m.key (· + n) }

/-- Something leaves the module. -/
def State.emit (s : State) (o : Output) : State := { s with out := o :: s.out }

/-- Take a free value below `bound` (log entry 2). -/
def State.freeBelow (s : State) (bound : Nat) : Nat × State :=
  ((Config.freeWord s.freeCount).toNat % bound, { s with freeCount := s.freeCount + 1 })

/-- Take a free value of up to 64 bits. -/
def State.free64 (s : State) : Nat × State := s.freeBelow (2 ^ 64)

/-- Scribe serves: its firmware runs, or the ROM is in recovery. -/
def State.scribeUp (s : State) : Bool := s.boot.done.getLsbD 2 || s.boot.recovery

/-- Core-die SRAM is initialised: the data path runs. -/
def State.coreUp (s : State) : Bool := s.boot.sram

/-- SERVICE of BOOT_STATUS. -/
def State.service (s : State) : Bool := s.boot.done.getLsbD 11

/-- TIME of BOOT_STATUS: network time is locked. -/
def State.timeSet (s : State) : Bool := s.boot.done.getLsbD 10

/-- Set or clear a DONE bit of BOOT_STATUS (R64). -/
def State.setDone (s : State) (b : Nat) (v : Bool) : State :=
  s.modBoot (fun x => { x with done := if v then x.done ||| BitVec.ofNat 12 (2 ^ b) else x.done &&& ~~~(BitVec.ofNat 12 (2 ^ b)) })

/-- The first failure of a start is kept (R65). -/
def State.failCode (s : State) (c : Nat) : State :=
  s.modBoot (fun x => { x with failCode := if x.failCode = 0 then c else x.failCode })

/-- Cell time number of an instant in whole ns of network time (R200): floor of the time divided by 10.24 ns. -/
def cellOf (sec ns : Nat) : Nat := sec * 97656250 + ns * 100 / 1024

/-- The present cell time number: floor((ns + fraction/2^32)/10.24) within the second (R200). -/
def State.cellNow (s : State) : Nat :=
  s.time.sec * 97656250 + (s.time.ns * 2 ^ 32 + s.time.frac) * 100 / (1024 * 2 ^ 32)

/-- The present network time in hundredths of a nanosecond, of which a cell time is 1,024 (R200), rounded down and up. -/
def State.instant100 (s : State) : Nat := s.time.sec * 10 ^ 11 + (s.time.ns * 2 ^ 32 + s.time.frac) * 100 / 2 ^ 32
def State.instantUp (s : State) : Nat := s.time.sec * 10 ^ 11 + ((s.time.ns * 2 ^ 32 + s.time.frac) * 100 + 2 ^ 32 - 1) / 2 ^ 32

/-- A time later by some ns. -/
def addNs (t : Nat × Nat) (d : Nat) : Nat × Nat :=
  (t.1 + (t.2 + d) / 1000000000, (t.2 + d) % 1000000000)

/-- An instant as ns. -/
def toNs (t : Nat × Nat) : Nat := t.1 * 1000000000 + t.2

/-- Unit identifiers of R15. -/
def unitId (typ inst : Nat) : Nat := typ * 256 + inst

/-- A 16-bit value names a unit (R15). -/
def isUnit (u : Nat) : Bool := u % 256 < unitCount (u / 256)

/-- All unit identifiers, ascending: 138 of them. -/
def allUnits : List Nat :=
  (List.range 20).flatMap (fun t => (List.range (unitCount t)).map (fun i => unitId t i))

/-- Change a unit's entry of the fault history. -/
def State.updUnit (s : State) (u : Nat) (g : UnitEntry → UnitEntry) : State :=
  s.modFaults (fun x => { x with units := x.units.upd {} u g, historyDirty := true })

/-- A unit's entry of the fault history. -/
def State.unit (s : State) (u : Nat) : UnitEntry := s.faults.units.get {} u

/-- Write an event into the fault history's ring of 256 (R468). -/
def State.logEvent (s : State) (unit cause cls detail : Nat) : State :=
  let ev : Event :=
    { timeS := s.time.sec, timeNs := s.time.ns, unit := unit, cause := cause, cls := cls, detail := detail }
  s.modFaults (fun x =>
    { x with events := (x.events ++ [ev]).drop (x.events.length + 1 - 256)
             eventCount := x.eventCount + 1, historyDirty := true })

/-- An event whose CAUSE the spec does not state: CAUSE is a free value among those of R468 (log entry 34). -/
def State.logOpenEvent (s : State) (unit cls detail : Nat) : State :=
  let (c, s) := s.freeBelow 11
  s.logEvent unit (1 + c) cls detail

/-- Errors of an SRAM part (R324): counted and flagged; an uncorrected one is recorded in the fault history, with a free DETAIL (log entry
174). -/
def State.sramEcc (s : State) (e : Ecc) (unit : Nat) : State :=
  match e with
  | .good => s
  | .corrected => ((s.countMem 21 1).setFlag 0x6601 0).updUnit unit (fun x =>
      { x with corrected := min (x.corrected + 1) 0xFFFFFFFF, wC := x.wC + 256 })
  | .uncorrected =>
    let (d, s) := s.free64
    ((s.countMem 22 1).setFlag 0x6601 1).logEvent unit 2 1 d

/-- Apply a change to each of a list. -/
def State.forEach {α : Type} (s : State) (l : List α) (g : State → α → State) : State := l.foldl g s

/-- Steps of NIB_STEP in force (R35). -/
def State.nibStep (s : State) : Nat :=
  if s.power.floors then 16 else min 16 (max s.power.powerNib (max s.power.coreNib s.power.inkNib))

end Sys2Proof.Machine
end

