-- ==== Sys2Proof/Machine/MarginTx.lean ====
section
/-!
DEFINITION. Sending on a fibre's margin channel: the frame layout of R145 and R146, the priorities and the TC7 credit of
R149, the sequence numbers and the 128 held frames of R148, and ABORT (R152).
-/

namespace Sys2Proof.Machine

/-- A margin frame: header, payload and CHECK (R145, R146). -/
def marginBytes (seqd : Bool) (typ seq ack credit : Nat) (payload : List Byte) : List Byte :=
  let hdr := beBytes 1 (0x10 + 8 * ofBool seqd) ++ beBytes 1 typ ++ beBytes 2 seq ++ beBytes 2 ack ++
    beBytes 2 credit ++ beBytes 2 payload.length ++ beBytes 2 0
  let body := hdr ++ payload
  body ++ beBytes 4 (crc32c body)

/-- TC7 units a frame of a given LENGTH costs (R149). -/
def tc7Cost (length : Nat) : Nat := ceilDiv (length + 16) 256

/-- CREDIT_LIMIT that a receiver advertises: units freed plus its grant of 128 (R149). -/
def Margin.creditLimit (m : Margin) : Nat := (m.tc7Freed + 128) % 65536

/-- LENGTH of a waiting frame; a relayed frame is whole, header and CHECK included. -/
def MarginFrame.len (x : MarginFrame) : Nat := if x.relay then x.payload.length - 16 else x.payload.length

/-- Whether the hop can send a frame now: room among the 128 held frames (R148), and TC7 credit under the rule of
R138 modulo 2^16 (R149). -/
def Margin.canSend (m : Margin) (x : MarginFrame) : Bool :=
  (!x.seqd || x.relay || m.heldFrames.length < 128) &&
  (x.prio ≠ 9 ||
    (let room := (m.tc7Limit + 65536 - m.tc7Sent) % 65536
     tc7Cost x.len ≤ room && room < 0x8000))

/-- The margin side after a frame is sent: a sequenced frame takes the next SEQ and is held. -/
def Margin.sent (m : Margin) (x : MarginFrame) : Margin :=
  let m := if x.prio = 9 then { m with tc7Sent := (m.tc7Sent + tc7Cost x.len) % 65536 } else m
  if x.seqd && !x.relay then
    { m with txSeq := (m.txSeq + 1) % 65536, heldFrames := m.heldFrames ++ [(m.txSeq, x)] }
  else m

/-- The bytes a frame travels as. -/
def Margin.wire (m : Margin) (x : MarginFrame) (seq : Nat) : List Byte :=
  if x.relay then x.payload
  else marginBytes x.seqd x.typ (if x.seqd then seq else 0) m.rxSeq m.creditLimit x.payload

/-- Return the TC7 credit that a relayed frame still holds on the fibre it came from (R149, R154). -/
def payBack (s : State) (x : MarginFrame) : State :=
  match x.owes with
  | none => s
  | some g => s.updFibre g (fun y => { y with margin := { y.margin with
      tc7Freed := (y.margin.tc7Freed + tc7Cost x.len) % 65536 } })

/-- A relayed frame that a fibre's transmitter discards sets RELAY_DROP there and is counted (R151, R156). -/
def relayLost (s : State) (f : Nat) (x : MarginFrame) : State :=
  if x.relay then (s.setFlag (0x6440 + f) 2).countFibre f 7 else s

/-- Put a frame on the wire. -/
def transmitMargin (s : State) (f : Nat) (x : MarginFrame) : State :=
  let s := payBack s x
  let m := (s.fibre f).margin
  let s := s.updFibre f (fun y => { y with margin := y.margin.sent x })
  (s.emit (.marginFrame f (m.wire x m.txSeq))).countFibre f 2

/-- Insert a frame behind the waiting frames of its priority and above (R149). -/
def insertPrio (x : MarginFrame) : List MarginFrame → List MarginFrame
  | [] => [x]
  | y :: r => if x.prio < y.prio then x :: y :: r else y :: insertPrio x r

/-- Send what can be sent of a priority list, keeping order within each queue; answers what must wait. -/
def pumpList (f : Nat) : List MarginFrame → State → List MarginFrame → State × List MarginFrame
  | [], s, kept => (s, kept)
  | x :: r, s, kept =>
    if (s.fibre f).margin.canSend x && !(kept.any (fun y => y.prio = x.prio)) then
      pumpList f r (transmitMargin s f x) kept
    else pumpList f r s (kept ++ [x])

/-- Send every waiting frame that credit, the 128 held frames and an idle window allow. -/
def pumpMargin (s : State) (f : Nat) : State :=
  let fb := s.fibre f
  if fb.margin.stopped || fb.marginState ≠ .up then s
  else
    let (s, kept) := pumpList f fb.margin.waiting s []
    s.updFibre f (fun y => { y with margin := { y.margin with waiting := kept } })

/-- Hand a frame to a fibre's margin transmitter. A channel that is not UP carries only hellos; anything else is
dropped and counted (log entry 7). -/
def sendMarginFrame (s : State) (f : Nat) (x : MarginFrame) : State :=
  let fb := s.fibre f
  if fb.marginState = .up then
    pumpMargin (s.updFibre f (fun y => { y with margin := { y.margin with waiting := insertPrio x y.margin.waiting } })) f
  else if fb.marginState = .acquire && x.typ = 0x02 then transmitMargin s f x
  else relayLost (payBack (s.countMisc .marginReset 1) x) f x

/-- Priority of a TYPE (R149). -/
def marginPrio (typ : Nat) : Nat :=
  if typ = 0x10 then 1
  else if typ = 0x01 || typ = 0x02 || (3 ≤ typ && typ ≤ 7) then 2
  else if 8 ≤ typ && typ ≤ 0x0B then 3
  else if typ = 0x11 then 4
  else if typ = 0x12 then 5
  else if typ = 0x16 then 6
  else if typ = 0x15 then 7
  else if typ = 0x13 then 8
  else 9

/-- Send an unsequenced frame of a TYPE. -/
def sendPlain (s : State) (f typ : Nat) (payload : List Byte) : State :=
  sendMarginFrame s f { prio := marginPrio typ, seqd := false, typ := typ, payload := payload }

/-- Send a sequenced frame of a TYPE. -/
def sendSeq (s : State) (f typ : Nat) (payload : List Byte) : State :=
  sendMarginFrame s f { prio := marginPrio typ, seqd := true, typ := typ, payload := payload }

/-- SLOT_ID as sampled. -/
def State.slotId (s : State) : Nat := s.boot.straps.slotId.toNat

/-- Send ABORT with a cause on one fibre: four copies, ahead of every queued frame (R152). -/
def sendAbort (s : State) (cause f : Nat) : State :=
  let m := (s.fibre f).margin
  let payload := beBytes 1 cause ++ beBytes 1 f ++ beBytes 1 s.slotId ++ zeros 5
  (s.emit (.marginAbort f (marginBytes false 0x10 0 m.rxSeq m.creditLimit payload))).count (0x7800 + f) 2 4

/-- ABORT on every margin channel. -/
def abortAll (s : State) (cause : Nat) : State := s.forEach (List.range 64) (fun s f => sendAbort s cause f)

/-- Forget a channel's hop state: unacknowledged frames are discarded and counted, SEQ restarts at 0 (R148). -/
def resetMargin (s : State) (f : Nat) : State :=
  let m := (s.fibre f).margin
  (s.forEach m.waiting (fun s x => relayLost (payBack s x) f x) |>.countMisc .marginReset (m.heldFrames.length + m.waiting.length)).updFibre f (fun y =>
    { y with margin := { stopped := y.margin.stopped, abortAt := y.margin.abortAt, window := y.margin.window } })

end Sys2Proof.Machine
end

