-- ==== Sys2Proof/Machine/MemOps.lean ====
section
/-!
DEFINITION. LPDDR6 and owner memory: regions (R333), packages (R331, R332), poisoned lines (R336), and the DMA of rings to
the memory of their owner (R347).
-/

namespace Sys2Proof.Machine

/-- A GiB. -/
def gib : Nat := 2 ^ 30

/-- Start of the fabric pool (R333). -/
def State.poolBase (s : State) : Nat := 2 ^ 39 - s.mem.poolGib * gib

/-- Size of Quill P0's region (R333). -/
def State.p0Size (s : State) : Nat := (504 - s.mem.poolGib) * s.boot.coresP0 / 24 * gib

/-- A partition's region of LPDDR6: start and size (R333). -/
def State.quillRegion (s : State) (p1 : Bool) : Nat × Nat :=
  let start := 8 * gib
  if p1 then (start + s.p0Size, (504 - s.mem.poolGib) * gib - s.p0Size) else (start, s.p0Size)

/-- The package of an address (R331). -/
def lpdPackage (a : Nat) : Nat := bits a 15 12

/-- Every page of a range is in service (R332). -/
def State.lpdPresent (s : State) (a n : Nat) : Bool :=
  (List.range (ceilDiv (a % 4096 + n) 4096)).all (fun k => s.mem.lpd.getLsbD (lpdPackage (a + 4096 * k)))

/-- 64-byte lines that a range touches. -/
def linesOf (a n : Nat) : List Nat :=
  if n = 0 then [] else (List.range ((a + n - 1) / 64 + 1 - a / 64)).map (· + a / 64)

/-- `n` bytes of a byte memory; an unlisted byte reads 0. -/
def readBytes (t : Tab Byte) (a n : Nat) : List Byte := (List.range n).map (fun i => t.get 0 (a + i))

/-- Write a byte string into a byte memory. -/
def writeBytes : Tab Byte → Nat → List Byte → Tab Byte
  | t, _, [] => t
  | t, a, b :: r => writeBytes (t.put 0 a b) (a + 1) r

/-- The byte at rest at an LPDDR6 address: 0, or a free value where the contents are undefined (R68, R335). -/
def MemSt.rest (m : MemSt) (a : Nat) : Byte :=
  if m.lost.any (fun r => r.1 ≤ a && a < r.2) then Config.freeMem m.lostNo a else 0

/-- One byte of LPDDR6. -/
def MemSt.byte (m : MemSt) (a : Nat) : Byte := m.bytes.get 0 a ^^^ m.rest a

/-- `n` bytes of LPDDR6. -/
def MemSt.readLpd (m : MemSt) (a n : Nat) : List Byte := (List.range n).map (fun i => m.byte (a + i))

/-- LPDDR6 with a byte string stored. -/
def MemSt.writeLpd (m : MemSt) (a : Nat) (b : List Byte) : MemSt :=
  { m with bytes := writeBytes m.bytes a (b.zipIdx.map (fun x => x.1 ^^^ m.rest (a + x.2))) }

/-- LPDDR6 with a range zeroed (R454). -/
def MemSt.zeroLpd (m : MemSt) (a n : Nat) : MemSt :=
  { m with
    bytes := m.bytes.filter (fun e => e.1 < a || a + n ≤ e.1)
    lost := (m.lost.flatMap (fun r => [(r.1, min r.2 a), (max r.1 (a + n), r.2)])).filter (fun r => r.1 < r.2)
    poisoned := m.poisoned.filter (fun e => 64 * e.1 + 64 ≤ a || a + n ≤ 64 * e.1) }

/-- Spill blocks per Nib for the stacks in service (R327). -/
def spillBlocksFor : Nat → Nat
  | 4 => 393216 | 3 => 262144 | 2 => 131072 | 1 => 16384 | _ => 0

/-- Stacks in service. -/
def State.stacks (s : State) : Nat := ((List.range 4).filter (fun i => s.mem.ink.getLsbD i)).length

/-- SPILL_BLOCKS of R340. -/
def State.spillBlocks (s : State) : Nat := spillBlocksFor s.stacks

/-! ### Inkwell (R325 to R329) -/

/-- Regions of Inkwell (R326). -/
inductive InkRegion where
  | ductus | prefixList | library | contexts | ligRecords | ligData | replay | credit
  | spill (nib : Nat)
deriving DecidableEq, Repr

/-- Sizes of the fixed regions in MiB, in ascending address order (R326). -/
def inkSizes : List Nat := [8, 8, 32, 1024, 512, 4096, 512, 384]

/-- A region's first address and size; each spill block has a 64-byte tag (R326, R327). -/
def State.inkRange (s : State) (r : InkRegion) : Nat × Nat :=
  let mib := 2 ^ 20
  let fixed (k : Nat) := ((inkSizes.take k).foldl (· + ·) 0 * mib, (inkSizes[k]?).getD 0 * mib)
  match r with
  | .ductus => fixed 0
  | .prefixList => fixed 1
  | .library => fixed 2
  | .contexts => fixed 3
  | .ligRecords => fixed 4
  | .ligData => fixed 5
  | .replay => fixed 6
  | .credit => fixed 7
  | .spill n => ((fixed 8).1 + n * (s.spillBlocks * 2112), s.spillBlocks * 2112)

/-- The stack of an Inkwell address (R325). -/
def State.inkStack (s : State) (a : Nat) : Nat :=
  let st := (List.range 4).filter (fun i => s.mem.ink.getLsbD i)
  (st[(a / 256) % max 1 st.length]?).getD 0

/-- The address within its stack (R325). -/
def State.inkLocal (s : State) (a : Nat) : Nat := a / (256 * max 1 s.stacks) * 256 + a % 256

/-- Where an item lies: a program at its position of 128 KiB, any other item in its region. -/
def State.itemRange (s : State) (x : InkItem) (nib : Nat) : Nat × Nat :=
  match x with
  | .activeBank | .shadowBank => s.inkRange .ductus
  | .prefixEntry _ => s.inkRange .prefixList
  | .program n => ((s.inkRange .library).1 + n * 2 ^ 17, 2 ^ 17)
  | .thread _ _ => s.inkRange .contexts
  | .ligRecord _ => s.inkRange .ligRecords
  | .ligData _ => s.inkRange .ligData
  | .replay _ => s.inkRange .replay
  | .creditFrame _ => s.inkRange .credit
  | .spill _ _ => s.inkRange (.spill nib)
  | .empty => (0, s.stacks * 2 ^ 33)

/-- An error of a read at an Inkwell address (R329): counted at its stack and flagged, an uncorrected one recorded with the address in
that stack. -/
def State.inkEccAt (s : State) (a : Nat) (e : Ecc) : State :=
  let u := s.inkStack a
  match e with
  | .good => s
  | .corrected =>
    ((s.countUnit 9 u 3).setFlag 0x6601 2).updUnit (unitId 9 u) (fun x =>
      { x with corrected := min (x.corrected + 1) 0xFFFFFFFF, wC := x.wC + 256 })
  | .uncorrected => ((s.countUnit 9 u 4).setFlag 0x6601 3).logEvent (unitId 9 u) 2 1 (s.inkLocal a)

/-- An error of an Inkwell read. The line that fails is a free value within the item's range (log entry 35). -/
def State.inkEcc (s : State) (e : Ecc) (x : InkItem) (nib : Nat) : State :=
  if e = .good then s
  else
    let r := s.itemRange x nib
    let (k, s) := s.freeBelow (max 1 r.2)
    s.inkEccAt (r.1 + k) e

/-! ### LPDDR6 -/

/-- How a read of LPDDR6 can fail. -/
inductive MemErr where
  | absent | ecc
deriving DecidableEq, Repr

/-- Count bytes at the controller of an address (R375, type 0x0F). -/
def State.countLpd (s : State) (a sub n : Nat) : State := s.count (0x7000 + 0x40 * 0x0F + lpdPackage a) sub n

/-- Count the bytes of a range, each page's at its own controller. -/
def State.countPages (s : State) (a sub n : Nat) : State :=
  (List.range (ceilDiv (a % 4096 + n) 4096)).foldl (fun s k =>
    let lo := max a (a - a % 4096 + 4096 * k)
    s.countLpd lo sub (min (a + n) (a - a % 4096 + 4096 * (k + 1)) - lo)) s

/-- An uncorrected LPDDR6 error: counted, flagged and recorded (R334). -/
def State.lpdUncorrected (s : State) (a : Nat) : State :=
  ((s.countLpd a 4 1).setFlag 0x6601 5).logEvent (unitId 0x0F (lpdPackage a)) 2 1 a

/-- A corrected LPDDR6 error (R334, R469). -/
def State.lpdCorrected (s : State) (a : Nat) : State :=
  ((s.countLpd a 3 1).setFlag 0x6601 4).updUnit (unitId 0x0F (lpdPackage a)) (fun u =>
    { u with corrected := min (u.corrected + 1) 0xFFFFFFFF, wC := u.wC + 256 })

/-- Read LPDDR6 (R332, R334, R336). -/
def State.readMem (s : State) (a n : Nat) : Except MemErr (List Byte) × State :=
  if !s.lpdPresent a n then (.error .absent, s)
  else
    let s := s.countPages a 1 n
    match (linesOf a n).find? (fun l => s.mem.poisoned.get false l) with
    | some l => (.error .ecc, s.lpdUncorrected (max a (64 * l)))
    | none => (.ok (s.mem.readLpd a n), s)

/-- Write LPDDR6: a write of a whole line clears its poison, a partial write leaves it (R336, R342). -/
def State.writeMem (s : State) (a : Nat) (b : List Byte) : State :=
  (s.countPages a 2 b.length).modMem (fun m =>
    { m.writeLpd a b with
      poisoned := m.poisoned.filter (fun x => !(a ≤ 64 * x.1 && 64 * x.1 + 64 ≤ a + b.length)) })

/-! ### The fill (R335) -/

/-- Place of an address in the fill's order: Module, Blotter, Quill P0, Quill P1, pool; counted in bytes of packages in service. -/
def MemSt.fillPlace (m : MemSt) (a : Nat) : Nat :=
  let x := if a < 4 * gib then a + 4 * gib else if a < 8 * gib then a - 4 * gib else a
  let here (k : Nat) : Nat := ((List.range k).filter (fun i => m.lpd.getLsbD i)).length
  x / 65536 * 4096 * here 16 + here (lpdPackage x) * 4096 + x % 4096

/-- The fill has passed every byte of a range, or has ended. -/
def MemSt.fillPassed (m : MemSt) (a n : Nat) : Bool := m.zeroDone || m.fillPlace (a + n - 1) < m.filled

/-- An access waits for the fill: counted, and ZERO_WAIT set. -/
def State.fillWait (s : State) : State := (s.countMem 24 1).setFlag 0x6601 10

/-- A partition's share of the 16 MiB of L3, in bytes: its ways are divided in proportion to the cores (R9). -/
def State.l3Share (s : State) (p1 : Bool) : Nat := 2 ^ 24 * (if p1 then 24 - s.boot.coresP0 else s.boot.coresP0) / 24

/-- A domain's number (R346). -/
def domNo : Domain → Nat
  | .hostA => 0 | .hostB => 1 | .p0 => 2 | .p1 => 3

/-- Every page of an owner range can be reached by DMA: for a partition, it lies in its LPDDR6 region (R347). -/
def State.dmaOk (s : State) (d : Domain) (a n : Nat) : Bool :=
  let inside (p1 : Bool) := let r := s.quillRegion p1; r.1 ≤ a && a + n ≤ r.1 + r.2
  (match d with
   | .p0 => inside false && s.lpdPresent a n
   | .p1 => inside true && s.lpdPresent a n
   | _ => a + n ≤ 2 ^ 64) &&
  !(s.mem.faultPages.any (fun x => x.1 = d && a / 4096 ≤ x.2 && x.2 ≤ (a + n - 1) / 4096))

/-- A DMA read of owner memory: none where it fails or reads poisoned data (R347, R351). An uncorrected error in a partition's region also
interrupts the partition (R334). -/
def State.dmaRead (s : State) (d : Domain) (a n : Nat) : Option (List Byte) × State :=
  let quill (p1 : Bool) : Option (List Byte) × State :=
    match s.readMem a n with
    | (.ok b, s) => (some b, s)
    | (.error _, s) => (none, s.emit (.quillError p1 false))
  if !s.dmaOk d a n then (none, s)
  else match d with
    | .hostA => (some (readBytes s.mem.hostA a n), s)
    | .hostB => (some (readBytes s.mem.hostB a n), s)
    | .p0 => quill false
    | .p1 => quill true

/-- A DMA write to owner memory: none where it fails. -/
def State.dmaWrite (s : State) (d : Domain) (a : Nat) (b : List Byte) : Option State :=
  if !s.dmaOk d a b.length then none
  else match d with
    | .hostA => some (s.modMem (fun m => { m with hostA := writeBytes m.hostA a b }))
    | .hostB => some (s.modMem (fun m => { m with hostB := writeBytes m.hostB a b }))
    | _ => some (s.writeMem a b)

/-! ### Quill's accesses (R324, R332 to R335) -/

/-- Bytes that an access touches. -/
def QuillAccess.bytes (x : QuillAccess) : Nat := max 1 x.store.length

/-- An access of a core is performed: a modified line lost in L3, or an uncorrected error of LPDDR6 on a read, returns a bus error and
interrupts the partition. -/
def State.quillAccess (s : State) (x : QuillAccess) : State :=
  let s := s.sramEcc x.l3 (unitId 8 0)
  if x.l3 = .uncorrected && x.dirty && 0 < s.l3Share x.p1 then s.emit (.quillError x.p1 true)
  else if x.store ≠ [] then s.writeMem x.addr x.store
  else if x.ecc = .uncorrected then (s.lpdUncorrected x.addr).emit (.quillError x.p1 true)
  else
    let s := if x.ecc = .corrected then s.lpdCorrected x.addr else s
    match s.readMem (x.addr - x.addr % 64) 64 with
    | (.ok _, s) => s
    | (.error _, s) => s.emit (.quillError x.p1 true)

/-- Quill's accesses that the fill has passed are performed, in order. -/
def State.quillWaited (s : State) : State :=
  let ready (x : QuillAccess) : Bool := s.mem.fillPassed x.addr x.bytes
  let l := s.mem.quillWait
  (s.modMem (fun m => { m with quillWait := l.filter (fun x => !(ready x)) })).forEach (l.filter ready) State.quillAccess

/-- The scrub goes on for one period of TIME_CLK, at SCRUB_GBPS at most (R454). -/
def State.scrubTick (s : State) : State :=
  if s.faults.scrubList ≠ [] && s.boot.done.getLsbD 5 then
    s.modFaults (fun x => { x with scrubbed := x.scrubbed + s.param 0x2480 2 * 1250 }) else s

/-- The fill goes on for one period of TIME_CLK, at 1,820 GB/s (R335). -/
def State.fillTick (s : State) : State :=
  if s.boot.done.getLsbD 5 && !s.mem.zeroDone then (s.modMem (fun m => { m with filled := m.filled + 2275 })).quillWaited else s

end Sys2Proof.Machine
end

