-- ==== Sys2Proof/Machine/RingOps.lean ====
section
/-!
DEFINITION. Command rings: which function owns a ring or a job slot (R346 to R348), completion entries (R354), HOST_EVENTS
(R360) and MSI-X vectors (R359).
-/

namespace Sys2Proof.Machine

/-- A change of the host interface. -/
def State.modHost (s : State) (g : HostSt → HostSt) : State := { s with host := g s.host }

/-- A command ring. -/
def State.ring (s : State) (g : Nat) : CmdRing := s.host.rings.get {} g

/-- Change a command ring. -/
def State.updRing (s : State) (g : Nat) (f : CmdRing → CmdRing) : State :=
  s.modHost (fun h => { h with rings := h.rings.upd {} g f })

/-- A function or partition: 0 to 63 Host A, 64 to 127 Host B, 128 P0, 129 P1. -/
def State.func (s : State) (fn : Nat) : Function := s.host.functions.get {} fn

/-- Change a function. -/
def State.updFunc (s : State) (fn : Nat) (f : Function → Function) : State :=
  s.modHost (fun h => { h with functions := h.functions.upd {} fn f })

/-- The domain of a function. -/
def fnDomain (fn : Nat) : Domain := if fn < 64 then .hostA else if fn < 128 then .hostB else if fn = 128 then .p0 else .p1

/-- The VF number of a function, 0 for a PF or a partition. -/
def fnVf (fn : Nat) : Nat := if fn < 128 then fn % 64 else 0

/-- The PF, or partition, of a domain. -/
def domPf : Domain → Nat
  | .hostA => 0 | .hostB => 64 | .p0 => 128 | .p1 => 129

/-- The port of a host. -/
def State.port (s : State) (hostB : Bool) : Port := if hostB then s.host.portB else s.host.portA

/-- Change the port of a host. -/
def State.updPort (s : State) (hostB : Bool) (f : Port → Port) : State :=
  s.modHost (fun h => if hostB then { h with portB := f h.portB } else { h with portA := f h.portA })

/-- Counters of a host port (R375, type 0x10). -/
def State.countHost (s : State) (d : Domain) (sub : Nat) : State :=
  match d with
  | .hostA => s.countUnit 0x10 0 sub
  | .hostB => s.countUnit 0x10 1 sub
  | _ => s

/-- First ring, and number of rings, of a domain (R346). -/
def State.ringBase (s : State) (d : Domain) : Nat := ((s.host.part.take (domNo d))).foldl (· + ·) 0
def State.ringCount (s : State) (d : Domain) : Nat := (s.host.part[domNo d]?).getD 0

/-- First job slot, and number of slots, of a domain (R346). -/
def State.slotBase (s : State) (d : Domain) : Nat := ((s.host.part.drop 4).take (domNo d)).foldl (· + ·) 0
def State.slotCount (s : State) (d : Domain) : Nat := (s.host.part[4 + domNo d]?).getD 0

/-- Fields of VF_ASSIGN (R348). -/
def vfRingFirst (v : Nat) : Nat := bits v 63 52
def vfRingCount (v : Nat) : Nat := bits v 51 45
def vfJobFirst (v : Nat) : Nat := bits v 44 33
def vfJobCount (v : Nat) : Nat := bits v 32 20

/-- The VFs enabled on a host's port. -/
def Port.enabled (p : Port) : List Nat := if p.vfEnable then (List.range p.vfs).map (· + 1) else []

/-- Whether a function can reach its BARs: its port is up and the spaces are filled, and a VF is enabled; a partition has been
released. In RECOVERY only a PF reaches FUNC_INFO, BOOT_STATUS and its mailbox (R345). -/
def State.fnPresent (s : State) (fn : Nat) : Bool :=
  if fn < 128 then
    let p := s.port (64 ≤ fn)
    p.up && p.filled && !p.held && (fnVf fn = 0 || p.enabled.contains (fnVf fn))
  else s.boot.done.getLsbD 7

/-- The port a domain lies behind. -/
def State.domPort (s : State) (d : Domain) : Port :=
  match d with
  | .hostA => s.host.portA
  | .hostB => s.host.portB
  | _ => {}

/-- The enabled VF that a domain-relative ring is assigned to. -/
def Port.vfOfRing (p : Port) (r : Nat) : Option Nat :=
  p.enabled.find? (fun v => let a := p.assign.get 0 v; vfRingFirst a ≤ r && r < vfRingFirst a + vfRingCount a)

/-- The enabled VF that a job slot is assigned to. -/
def Port.vfOfSlot (p : Port) (j : Nat) : Option Nat :=
  p.enabled.find? (fun v => let a := p.assign.get 0 v; vfJobFirst a ≤ j && j < vfJobFirst a + vfJobCount a)

/-- The global ring that a function's local ring names (R348). -/
def State.globalRing (s : State) (fn r : Nat) : Option Nat :=
  let d := fnDomain fn
  let p := s.domPort d
  let v := fnVf fn
  if v = 0 then
    if r < s.ringCount d && (p.vfOfRing r).isNone then some (s.ringBase d + r) else none
  else
    let a := p.assign.get 0 v
    if p.enabled.contains v && r < vfRingCount a then some (s.ringBase d + vfRingFirst a + r) else none

/-- The domain of a global ring. -/
def State.ringDomain (s : State) (g : Nat) : Domain :=
  (([.hostA, .hostB, .p0, .p1] : List Domain).find? (fun d => s.ringBase d ≤ g && g < s.ringBase d + s.ringCount d)).getD .p1

/-- The function or partition that owns a ring (R347). -/
def State.ringOwner (s : State) (g : Nat) : Nat :=
  let d := s.ringDomain g
  match (s.domPort d).vfOfRing (g - s.ringBase d) with
  | some v => domPf d + v
  | none => domPf d

/-- The domain a slot belongs to. -/
def State.slotDomain (s : State) (j : Nat) : Option Domain :=
  ([.hostA, .hostB, .p0, .p1] : List Domain).find? (fun d => s.slotBase d ≤ j && j < s.slotBase d + s.slotCount d)

/-- A job slot lies in a function's range (R345, R355). -/
def State.slotOwned (s : State) (fn j : Nat) : Bool :=
  let d := fnDomain fn
  s.slotDomain j = some d &&
  (match (s.domPort d).vfOfSlot j with
   | some v => fnVf fn = v
   | none => fnVf fn = 0)

/-- Vectors of a function's table: 513 in a PF or partition, 65 in a VF (R344). -/
def fnVectors (fn : Nat) : Nat := if fnVf fn = 0 then 513 else 65

/-- Global rings of a function that name a vector. -/
def State.ringsOfVector (s : State) (fn v : Nat) : List CmdRing :=
  ((s.host.rings.filter (fun e => s.ringOwner e.1 = fn)).map (·.2)).filter (fun r => r.vector = v)

/-- A cause is pending at a vector (R359). -/
def State.causePending (s : State) (fn v : Nat) : Bool :=
  let f := s.func fn
  if v = 0 then f.events.val.toNat &&& f.eventEn ≠ 0
  else (s.ringsOfVector fn v).any (fun r => r.halted || r.entries.any (·.2))

/-- Send a vector's message when its cause is pending, it is unmasked and not in service (R359). -/
def State.reviewVector (s : State) (fn v : Nat) : State :=
  let f := s.func fn
  if f.unmasked.contains v && !(f.inService.contains v) && s.causePending fn v then
    ((s.emit (.msix fn v)).updFunc fn (fun f => { f with inService := f.inService ++ [v] })).countHost (fnDomain fn) 3
  else s

/-- A hardware set of a HOST_EVENTS flag of a function (R360). -/
def State.hostEvent (s : State) (fn b : Nat) : State :=
  (s.updFunc fn (fun f => { f with events := f.events.set b })).reviewVector fn 0

/-- Follow a change of a ring at its vector. -/
def State.reviewRing (s : State) (g : Nat) : State :=
  let v := (s.ring g).vector
  if v = 0 then s else s.reviewVector (s.ringOwner g) v

/-- Size of a ring and of its completion queue. -/
def CmdRing.size (r : CmdRing) : Nat := 2 ^ r.sizeLog2

/-- Halt a ring (R351), which keeps the cause it halted with first; causes 2 and 3 set DOORBELL_ERR, cause 1 DMA_ERROR (R360). -/
def State.haltRing (s : State) (g cause : Nat) : State :=
  if (s.ring g).halted then s else
  let s := s.updRing g (fun r => { r with halted := true, haltCause := cause })
  let fn := s.ringOwner g
  (if cause = 1 then (s.hostEvent fn 0).countHost (fnDomain fn) 4 else s.hostEvent fn 3).reviewRing g

/-- A DMA failure of a descriptor: flag and count (R360). -/
def State.dmaError (s : State) (g : Nat) : State :=
  let fn := s.ringOwner g
  (s.hostEvent fn 0).countHost (fnDomain fn) 4

/-- Counters of the command processor (R375, type 0x0C). -/
def State.countCp (s : State) (sub : Nat) : State := s.countUnit 0x0C 0 sub

/-- The completion entry of R354. -/
def completionEntry (tag index sqHead status hdr detail : Nat) (phase : Bool) : List Byte :=
  leBytes 8 tag ++ leBytes 2 index ++ leBytes 2 sqHead ++ leBytes 1 status ++ leBytes 1 hdr ++ leBytes 1 detail ++
  leBytes 1 (ofBool phase)

/-- Complete an issued descriptor: its entry is written at CQ_TAIL and the phase advances (R354); an entry that FLR
discards is not written (R362). -/
def State.completeDesc (s : State) (g no status hdr detail : Nat) : State :=
  match (s.ring g).out_.find? (fun d => d.no = no) with
  | none => s
  | some d =>
    let s := s.updRing g (fun r => { r with out_ := r.out_.filter (fun x => x.no ≠ no) })
    if d.discard then s
    else
      let r := s.ring g
      let entry := completionEntry d.tag d.index r.sqHead status hdr detail r.phase
      let s := match s.dmaWrite (s.ringDomain g) (r.cqBase + 16 * r.cqTail) entry with
        | some s' => s'
        | none => s.dmaError g
      let s := s.updRing g (fun r =>
        { r with
          cqTail := (r.cqTail + 1) % r.size
          phase := if (r.cqTail + 1) % r.size = 0 then !r.phase else r.phase
          entries := r.entries ++ [(r.cqTail, d.irq)] })
      ((s.countCp 2).countHost (s.ringDomain g) 2).reviewRing g

/-- Complete the first outstanding descriptor of a number on whatever ring holds it. -/
def State.completeAny (s : State) (no status detail : Nat) : State :=
  match s.host.rings.find? (fun e => e.2.out_.any (fun d => d.no = no)) with
  | some e => s.completeDesc e.1 no status 0 detail
  | none => s

/-- An issued descriptor of a ring is still owned by a function that has not been reset. -/
def State.descLive (s : State) (g no : Nat) : Bool := (s.ring g).out_.any (fun d => d.no = no && !d.discard)

end Sys2Proof.Machine
end

