-- ==== Sys2Proof/Machine/Dop.lean ====
section
/-!
DEFINITION. The Deura Object Protocol: roles (R394, R395), the status codes (R399), the frame (R397), the order of
checks (R400), stored responses (R402) and the service of one request. What an operation does once its
frame, session, object, role and size have passed is the argument `act`.
-/

namespace Sys2Proof.Machine

/-- Status codes of R399. -/
inductive DopStatus where
  | ok | noObject | accessDenied | size | range | state | segment | badFrame | unit | busy | session | recovery
deriving DecidableEq, Repr

/-- The number of a status code. -/
def DopStatus.code : DopStatus → Nat
  | .ok => 0 | .noObject => 1 | .accessDenied => 2 | .size => 3 | .range => 4 | .state => 5 | .segment => 6
  | .badFrame => 7 | .unit => 8 | .busy => 9 | .session => 10 | .recovery => 11

/-- A request: source and header fields of R397, and its data. -/
structure DopReq where
  src : DopSrc
  op : Nat
  flags : Nat := 0
  transaction : Nat := 0
  session : Nat := 0
  idx : Nat := 0
  sub : Nat := 0
  offset : Nat := 0
  data : List Byte := []
  queueFull : Bool := false
  /-- VERSION, the reserved fields, STATUS and DATA_LEN are as R397 requires -/
  sound : Bool := true
deriving DecidableEq, Repr

/-- What a served request answers: data, LAST, and the state it leaves; a status other than OK where a chapter gives a failed
request an effect (R425, R428). -/
structure DopAnswer where
  status : DopStatus := .ok
  data : List Byte := []
  last : Bool := false
  st : State

/-- The role of a source that uses no session (R395). -/
def baseRole (s : State) : DopSrc → Nat
  | .mgmt _ _ => s.param 0x1010 1
  | .pf false => s.param 0x1010 2
  | .pf true => s.param 0x1010 3
  | .vf _ _ => 0
  | .quill false => s.param 0x1010 4
  | .quill true => s.param 0x1010 5
  | .margin _ => s.param 0x1010 6

/-- Whether a source is a station on the management Ethernet. -/
def srcMgmt : DopSrc → Bool
  | .mgmt _ _ => true
  | _ => false

/-- Whether a source is a PF mailbox. -/
def srcPf : DopSrc → Bool
  | .pf _ => true
  | _ => false

/-- The open session a request names, when it belongs to the request's source pair (R425). -/
def sessionOf (s : State) (q : DopReq) : Option Session :=
  s.codex.sessions.find? (fun x => x.id = q.session && x.src = q.src && x.isOpen)

/-- The role under which a request is judged; none where SESSION names no open session of the source. A
SESSION_AUTH (0x11) names a pending one. -/
def roleOf (s : State) (q : DopReq) : Option Nat :=
  if q.session = 0 then some (baseRole s q.src)
  else if !(srcMgmt q.src) then none
  else if q.op = 0x11 then
    (s.codex.sessions.find? (fun x => x.id = q.session && x.src = q.src && !x.isOpen)).map (fun _ => baseRole s q.src)
  else (sessionOf s q).map (·.role)

/-- The recovery objects of R412. -/
def isRecoveryObj (idx : Nat) : Bool := 0x1F00 ≤ idx && idx ≤ 0x1F02

/-- Least role that may read an object (R394). -/
def readRole (idx : Nat) : Nat :=
  if isRecoveryObj idx then 3 else if 0x1000 ≤ idx && idx ≤ 0x1FFF then 0 else 1

/-- Least role that may write an object, given that its access permits a write (R394). -/
def writeRole (idx : Nat) : Nat :=
  if 0x2000 ≤ idx && idx ≤ 0x9FFF then 2 else 3

/-- Operations of R398 and R424 that a frame may carry. -/
def dopOpValid (op : Nat) : Bool := (1 ≤ op && op ≤ 7) || (0x10 ≤ op && op ≤ 0x12) || op = 0x18

/-- The frame check of R400 step 1. -/
def dopFrameOk (q : DopReq) : Bool :=
  q.sound && dopOpValid q.op && (q.op < 0x10 || srcMgmt q.src) && q.data.length ≤ 2028 &&
  (if q.op = 3 || q.op = 4 then q.offset ≤ 268435455 else q.offset = 0) &&
  (q.flags % 2 = 0 && q.flags < 8) &&
  (q.op = 5 || !(bit q.flags 2)) &&
  (q.op ≠ 4 || 1 ≤ q.data.length)

/-- What RECOVERY leaves served (R396). -/
def recoveryServes (q : DopReq) : Bool :=
  (q.op = 1 && (q.idx = 0x1000 || q.idx = 0x6100)) ||
  ((srcMgmt q.src || srcPf q.src) && q.op ≤ 6 && isRecoveryObj q.idx)

/-- The object exists: subindex 00 of any index, or a subindex that a row or a counter table assigns. -/
def objExists (idx sub : Nat) : Bool :=
  if sub = 0 then (objHighest idx).isSome else (objRow idx sub).isSome

/-- Checks 1 to 3 of R400: frame, session, recovery. Answers the role. -/
def dopAdmit (s : State) (q : DopReq) : Except DopStatus Nat :=
  if q.queueFull then .error .busy
  else if !dopFrameOk q then .error .badFrame
  else match roleOf s q with
    | none => .error .session
    | some role =>
      if s.boot.recovery then (if recoveryServes q then .ok 3 else .error .recovery)
      else .ok role

/-- Checks 4 to 6 of R400 for a WRITE of an object. -/
def dopWriteAllowed (q : DopReq) (role : Nat) : Except DopStatus ObjRow :=
  if q.sub = 0 && (objHighest q.idx).isSome then .error .accessDenied
  else match objRow q.idx q.sub with
    | none => .error .noObject
    | some row =>
      let byAcc := match row.acc with | .ro => false | .const => false | _ => true
      if !byAcc || role < writeRole q.idx then .error .accessDenied
      else match row.typ with
        | .domain _ => .error .size
        | t => if q.data.length = t.size then .ok row else .error .size

/-- The response to a request (R397). -/
def dopFrame (q : DopReq) (status : Nat) (last : Bool) (data : List Byte) : List Byte :=
  [BitVec.ofNat 8 0x10] ++ beBytes 1 q.op ++ beBytes 1 status ++ beBytes 1 (1 + 2 * ofBool last) ++ beBytes 2 q.transaction ++
  beBytes 2 q.session ++ beBytes 2 q.idx ++ beBytes 1 q.sub ++ zeros 1 ++ beBytes 4 q.offset ++
  beBytes 2 data.length ++ zeros 2 ++ data

/-- The fields that a resent request must match (R402). -/
def DopReq.key (q : DopReq) : List Nat := [q.session, q.transaction, q.op, q.idx, q.sub, q.offset]

/-- Keep a response: the 16 most recent of its source pair (R402); only UDP responses are kept (R403). -/
def keepResponse (l : List StoredResp) (r : StoredResp) : List StoredResp :=
  let mine := l.filter (fun x => x.src = r.src)
  let others := l.filter (fun x => x.src ≠ r.src)
  others ++ (mine ++ [r]).drop (mine.length + 1 - 16)

/-- The CODEX_FLAGS bit that a status raises (R413). -/
def dopFlags (s : State) (st : DopStatus) : State :=
  match st with
  | .badFrame => s.setFlag 0x6001 1
  | .accessDenied => s.setFlag 0x6001 2
  | .session => s.setFlag 0x6001 2
  | .busy => s.setFlag 0x6001 3
  | _ => s

/-- The function or partition whose mailbox a source is. -/
def srcFunction : DopSrc → Option Nat
  | .pf b => some (if b then 64 else 0)
  | .vf b n => some ((if b then 64 else 0) + n)
  | .quill p1 => some (if p1 then 129 else 128)
  | _ => none

/-- A frame goes to its requester: a datagram, the response buffer of a mailbox with MBOX_DONE (R361), or a margin frame on the
fibre the request came from (R403). -/
def dopSend (s : State) (dst : DopSrc) (f : List Byte) : State :=
  match dst with
  | .margin k => sendSeq s k 0x13 f
  | _ => match srcFunction dst with
    | some fn =>
      let s := s.updFunc fn (fun x => { x with busy := false, resp := f, respLen := f.length })
      (s.emit (.dop dst f)).hostEvent fn 2
    | none => s.emit (.dop dst f)

/-- Send a response and keep its copy; BUSY of a full queue is not kept, since the request was not executed. -/
def dopRespond (s : State) (q : DopReq) (status : DopStatus) (last : Bool) (data : List Byte) : State :=
  let f := dopFrame q status.code last data
  let s := dopFlags s status
  let s := dopSend s q.src f
  if srcMgmt q.src && !q.queueFull then
    s.modCodex (fun c => { c with responses := keepResponse c.responses { src := q.src, key := q.key, bytes := f } })
  else s

/-- A source reaches Scribe: a margin channel that is not dark, a mailbox of a function that is present. -/
def State.srcReaches (s : State) (src : DopSrc) : Bool :=
  match src with
  | .margin f => (s.fibre f).marginState ≠ .dark
  | _ => match srcFunction src with
    | some fn => s.fnPresent fn
    | none => true

/-- A request that a margin channel carries is a sequenced frame received there (R148, R403). -/
def State.dopArrives (s : State) (src : DopSrc) : State :=
  match src with
  | .margin f =>
    if (s.fibre f).marginState = .dark then s
    else (s.updFibre f (fun x => { x with margin := { x.margin with rxSeq := (x.margin.rxSeq + 1) % 65536 } })).countFibre f 1
  | _ => s

/-- Serve a request once (R399, R400, R402, R404): a resent one is answered from the stored copy; a frame with
RESPONSE set or OP 0x08 is discarded and counted; a request that fails has no effect but its answer. -/
def dopServe (s : State) (q : DopReq) (act : Nat → Except DopStatus DopAnswer) : State :=
  if !s.scribeUp || !s.srcReaches q.src then s
  else if bit q.flags 0 || q.op = 8 then s.setFlag 0x6001 1
  else match (if srcMgmt q.src && !q.queueFull then s.codex.responses.find? (fun x => x.src = q.src && x.key = q.key) else none) with
    | some x => (s.emit (.dop q.src x.bytes)).setFlag 0x6001 0
    | none =>
      match dopAdmit s q with
      | .error e => dopRespond s q e false []
      | .ok role =>
        match act role with
        | .error e => dopRespond s q e false []
        | .ok a => dopRespond a.st q a.status a.last a.data

/-- The value of a written object: numbers in network byte order, structures in storage order (R393). -/
def writtenValue (t : ObjType) (data : List Byte) : Nat :=
  match t with
  | .bytes _ => leNat data
  | .domain _ => leNat data
  | _ => beNat data

/-- A WRITE whose object's own checks and effect are `act`, given the written value. -/
def dopWriteAct (q : DopReq) (act : Nat → Except DopStatus State) (role : Nat) : Except DopStatus DopAnswer :=
  match dopWriteAllowed q role with
  | .error e => .error e
  | .ok row =>
    match act (writtenValue row.typ q.data) with
    | .error e => .error e
    | .ok s' => .ok { st := s' }

/-- The request of a typed command that writes an object: WRITE with the value in the object's size. -/
def writeReq (r : Req) (idx sub v : Nat) : DopReq :=
  let t : Option ObjType := (objRow idx sub).map (·.typ)
  { src := r.src, op := 2, transaction := r.transaction, session := r.session, idx := idx, sub := sub
    data := match t with
      | some (.bytes n) => leBytes n v
      | some t => beBytes t.size v
      | none => []
    queueFull := r.queueFull }

/-- Serve a typed write command. -/
def serveWrite (s : State) (r : Req) (idx sub v : Nat) (act : State → Nat → Except DopStatus State) : State :=
  let q := writeReq r idx sub v
  let s := s.dopArrives r.src
  dopServe s q (dopWriteAct q (act s))

/-- A COMMAND32 value: COMMAND in bits 31:24 and an argument in bits 23:0. -/
def command32 (cmd arg : Nat) : Nat := cmd * 2 ^ 24 + arg % 2 ^ 24

end Sys2Proof.Machine
end

