-- ==== Sys2Proof/Machine/FlashOps.lean ====
section
/-!
DEFINITION. Flash: records (R51, R52), the boot set and its signature trailers (R53, R416, R417), the classing of
banks (R54), and data records in their slots (R55, R56).
-/

namespace Sys2Proof.Machine

/-- `n` bytes of a device from an offset; an erased byte reads 0xFF. -/
def FlashDev.read (d : FlashDev) (off n : Nat) : List Byte :=
  (List.range n).map (fun i => d.bytes.get 0xFF (off + i))

/-- Erase the 4 KiB sectors of a slot and write bytes from its first one (R56). -/
def FlashDev.write (d : FlashDev) (off size : Nat) (l : List Byte) : FlashDev :=
  let erased := d.bytes.filter (fun c => c.1 < off || off + size ≤ c.1)
  { d with bytes := (l.zipIdx).foldl (fun t (b, i) => t.put 0xFF (off + i) b) erased }

/-- A device that serves as a bank (R50); any other is treated as an empty bank. -/
def FlashDev.usable (d : FlashDev) : Bool := d.answers && d.sfdp && d.erase4k

/-- A record read from flash. -/
structure FlashRec where
  typ : Nat
  len : Nat
  seq : Nat
  payload : List Byte
  check : Nat
deriving DecidableEq, Repr

/-- The record at an offset, when it is valid under R51 and lies within its area. -/
def readRec (d : FlashDev) (off areaEnd : Nat) : Option FlashRec :=
  let h := d.read off 16
  let len := leAt h 8 4
  if leAt h 0 4 = 0x564E5243 && leAt h 6 2 = 0 && 1 ≤ len && len ≤ 33554400 && off + 20 + len ≤ areaEnd then
    let all := d.read off (16 + len)
    let chk := leNat (d.read (off + 16 + len) 4)
    if chk = crc32c all then
      some { typ := leAt h 4 2, len := len, seq := leAt h 12 4, payload := all.drop 16, check := chk }
    else none
  else none

/-- A record's bytes (R51). -/
def recBytes (typ seq : Nat) (payload : List Byte) : List Byte :=
  let b := leBytes 4 0x564E5243 ++ leBytes 2 typ ++ leBytes 2 0 ++ leBytes 4 payload.length ++ leBytes 4 seq ++ payload
  b ++ leBytes 4 (crc32c b)

/-- Sequence number `a` is newer than `b` (R52). -/
def seqNewer (a b : Nat) : Bool :=
  let d := (a + 2 ^ 32 - b) % 2 ^ 32
  1 ≤ d && d ≤ 0x7FFFFFFF

/-- What a boot-set record's trailer says: KEY_INDEX, SECURITY_VERSION, FW_VERSION. -/
structure Trailer where
  key : Nat
  version : Nat
  fw : Nat
  bytes : List Byte
deriving DecidableEq, Repr

/-- The signature check of R416 and R417. -/
def checkTrailer (r : FlashRec) : Option Trailer :=
  if r.len < 97 then none
  else
    let image := r.payload.take (r.len - 96)
    let t := r.payload.drop (r.len - 96)
    let key := byteAt t 6
    if leAt t 0 4 = 0x4E474953 && leAt t 4 2 = r.typ && key ≤ 3 && byteAt t 7 = 0 && leAt t 10 2 = 0 &&
       leAt t 16 4 = r.len - 96 && leNat (slice t 20 12) = 0 &&
       Config.ed25519Verify (Config.releaseKey key).toList (t.take 32 ++ (Config.sha512 image).toList) (slice t 32 64) then
      some { key := key, version := leAt t 8 2, fw := leAt t 12 4, bytes := t }
    else none

/-- A good bank's boot set: its directory SEQ and its four trailers, directory first, and the digests of the four payloads (R423). -/
structure BootSet where
  seq : Nat
  trailers : List Trailer
  digests : List (List Byte)
deriving DecidableEq, Repr

/-- State of a bank under R54. -/
inductive BankState where
  | empty
  | rejected
  | good (b : BootSet)
deriving DecidableEq, Repr

/-- The record that a 16-byte directory entry names, when its LENGTH, CHECK and SEQ agree with the entry (R53). -/
def entryRec (d : FlashDev) (seq : Nat) (e : List Byte) : Option FlashRec :=
  match readRec d (leAt e 4 4) 0x02000000 with
  | some r =>
    if r.typ = leAt e 0 2 && leAt e 2 2 = 0 && r.len = leAt e 8 4 && r.check = leAt e 12 4 && r.seq = seq then some r
    else none
  | none => none

/-- The three boot-set records in load order, when the directory names each exactly once (R53). -/
def bootSetOf (d : FlashDev) : Option BootSet :=
  match readRec d 0 0x02000000 with
  | none => none
  | some dir =>
    if dir.typ ≠ 1 || dir.len % 16 ≠ 0 || dir.len / 16 > 64 then none
    else match checkTrailer dir with
    | none => none
    | some td =>
      let ents := (List.range ((dir.len - 96) / 16)).map (fun i => slice dir.payload (16 * i) 16)
      let named (t : Nat) := ents.filter (fun e => leAt e 0 2 = t)
      if ents.length = 3 && [2, 8, 3].all (fun t => (named t).length = 1) then
        let recs := [2, 8, 3].filterMap (fun t => ((named t)[0]?).bind (entryRec d dir.seq))
        let ts := recs.filterMap checkTrailer
        if recs.length = 3 && ts.length = 3 && ts.all (fun t => t.key = td.key && t.version = td.version) then
          some { seq := dir.seq, trailers := td :: ts
                 digests := (dir :: recs).map (fun r => (Config.sha512 r.payload).toList) }
        else none
      else none

/-- The image of a boot-set record of a bank, its payload without the trailer (R416), when the directory names it. -/
def bootImage (d : FlashDev) (typ : Nat) : Option (List Byte) :=
  match readRec d 0 0x02000000 with
  | none => none
  | some dir =>
    let ents := (List.range ((dir.len - 96) / 16)).map (fun i => slice dir.payload (16 * i) 16)
    ((ents.find? (fun e => leAt e 0 2 = typ)).bind (entryRec d dir.seq)).map (fun r => r.payload.take (r.len - 96))

/-- Class a bank (R54). -/
def bankState (d : FlashDev) : BankState :=
  if !d.usable || leNat (d.read 0 4) = 0xFFFFFFFF then .empty
  else match bootSetOf d with
    | some b => .good b
    | none => .rejected

/-- Slots of data-record types (R56): offset and size. -/
def dataSlot : Nat → Option (Nat × Nat)
  | 0x0004 => some (0x02000000, 0x100000)
  | 0x0005 => some (0x02100000, 0x100000)
  | 0x0006 => some (0x02200000, 0x10000)
  | 0x0013 => some (0x02210000, 0x10000)
  | 0x0014 => some (0x02220000, 0x10000)
  | 0x0010 => some (0x02230000, 0x10000)
  | 0x0012 => some (0x02240000, 0x10000)
  | 0x0007 => some (0x02400000, 0x400000)
  | _ => none

/-- A valid copy of a data record in a bank's slot. -/
def dataCopy (d : FlashDev) (typ : Nat) : Option FlashRec :=
  if !d.usable then none
  else match dataSlot typ with
  | some (off, size) =>
    match readRec d off (off + size) with
    | some r => if r.typ = typ then some r else none
    | none => none
  | none => none

/-- The newest valid copy of a data record, `true` when it lies in bank B (R52, R55). -/
def newestData (x : Flash) (typ : Nat) : Option (Bool × FlashRec) :=
  match dataCopy x.a typ, dataCopy x.b typ with
  | none, none => none
  | some r, none => some (false, r)
  | none, some r => some (true, r)
  | some ra, some rb => if seqNewer rb.seq ra.seq then some (true, rb) else some (false, ra)

/-- Two candidates whose sequence numbers do not order them (R52). -/
def seqTie (x : Flash) (typ : Nat) : Bool :=
  match dataCopy x.a typ, dataCopy x.b typ with
  | some ra, some rb => !(seqNewer ra.seq rb.seq) && !(seqNewer rb.seq ra.seq)
  | _, _ => false

/-- A data record is present: the first word of its slot in some bank is not erased. The spec says of no record what 'present' is;
the model reads it as R54 reads an empty bank (DEDUCED, log entry 153). -/
def dataPresent (x : Flash) (typ : Nat) : Bool :=
  [x.a, x.b].any (fun d => d.usable && (match dataSlot typ with
    | some (off, _) => leNat (d.read off 4) ≠ 0xFFFFFFFF
    | none => false))

/-- The payload of the newest valid copy. -/
def dataPayload (x : Flash) (typ : Nat) : Option (List Byte) := (newestData x typ).map (fun p => p.2.payload)

/-- Write a new copy of a data record (R55, R56): none where its total size exceeds its slot. -/
def writeData (x : Flash) (typ : Nat) (payload : List Byte) : Option Flash :=
  match dataSlot typ with
  | none => none
  | some (off, size) =>
    if payload.length = 0 || payload.length + 20 > size then none
    else match newestData x typ with
      | none => some { x with a := x.a.write off size (recBytes typ 0 payload) }
      | some (inB, r) =>
        let bytes := recBytes typ ((r.seq + 1) % 2 ^ 32) payload
        if inB then some { x with a := x.a.write off size bytes }
        else some { x with b := x.b.write off size bytes }

/-- Store a data record; a record too large for its slot is not written (R56). -/
def State.storeData (s : State) (typ : Nat) (payload : List Byte) : State :=
  match writeData s.flash typ payload with
  | some x => { s with flash := x }
  | none => s

/-- Store one parameter's new value as a new module configuration record (R339, R346, R384, R426): none where the record would
exceed its slot, and the write is then rejected with RANGE (R56). -/
def State.storeConfig (s : State) (idx sub v : Nat) : Option State :=
  (writeData s.flash 0x0004 (Config.configStore ((dataPayload s.flash 0x0004).getD []) idx sub v)).map
    (fun x => { s with flash := x })

end Sys2Proof.Machine
end

