-- ==== Sys2Proof/Machine/ChopOps.lean ====
section
/-!
DEFINITION. Chop (R432 to R441): the account feed, calibration, closing and signing a record, the Chop log in flash, and the
judgement of the newest stored record.
-/

namespace Sys2Proof.Machine

/-- A change of Chop. -/
def State.modChop (s : State) (g : ChopSt → ChopSt) : State := { s with chop := g s.chop }

/-- A CHOP_FLAGS bit (R441). -/
def State.chopFlag (s : State) (b : Nat) : State := s.setFlag 0x1103 b

/-- Set a bit of the FLAGS that the running record will carry. -/
def ChopSt.mark (c : ChopSt) (b : Nat) : ChopSt := { c with flags := c.flags ||| 2 ^ b }

/-- AUDIT_COUNT gains 1, saturating (R439). -/
def ChopSt.auditUp (c : ChopSt) : ChopSt := { c with audit := min (c.audit + 1) 0xFFFFFFFF }

/-! ### The account feed (R434) -/

/-- ACCOUNT_MAP as written, by port. -/
def State.accountMap (s : State) (p : Nat) : Nat := s.param (0x1110 + p / 64) (1 + p % 64)

/-- A frame of TC0 to TC6 has left a link whole: port logic tallies its length for the link's account under the map in force. -/
def State.tallyFrame (s : State) (p tc len : Nat) : State :=
  let m := s.chop.map.get 0 p
  if tc < 7 && bit m 15 then s.modChop (fun c => { c with tally := c.tally.upd 0 (m % 1024) (· + len) }) else s

/-- The feed sends the non-zero increments under its next number; `lost` is a message that the crossing loses. Chop notices a
skipped number at the next message. -/
def State.feedAccounts (s : State) (lost : Bool) : State :=
  let c := s.chop
  if c.tally = [] then s
  else
    let s := s.modChop (fun c => { c with tally := [], feedSent := c.feedSent + 1 })
    if lost || !c.running then s
    else
      let s := if c.feedSent ≠ c.feedWant then (s.modChop (·.mark 3)).chopFlag 2 else s
      s.modChop (fun x => { x with
        feedWant := c.feedSent + 1
        accounts := c.tally.foldl (fun t e => t.upd 0 e.1 (fun v => (v + e.2) % 2 ^ 64)) x.accounts })

/-! ### Calibration (R433, R440) -/

/-- A voltage in µV, and the sum of v × i in nW, under a calibration; exact rationals scaled by 2^60. -/
def calV (k : Nat × Nat × Int × Int) (v : Int) : Int := v * k.1 / 2 ^ 30 + k.2.2.1

/-- Energy in mJ of a record: the calibrated sum of v × i over samples of 1 µs (log entry 33). -/
def calEnergy (k : Nat × Nat × Int × Int) (m : Metered) : Nat :=
  let (vg, ig, vo, io) := k
  let p : Int := m.sumVI * vg * ig + vo * (m.sumI * ig * 2 ^ 30) + io * (m.sumV * vg * 2 ^ 30) + vo * io * m.samples * 2 ^ 60
  (p / (2 ^ 60 * 10 ^ 12)).toNat

/-- The calibration in force: gains of 1.0 and offsets of 0 by default. -/
def ChopSt.calInForce (c : ChopSt) : Nat × Nat × Int × Int := c.cal.getD (2 ^ 30, 2 ^ 30, 0, 0)

/-! ### Records (R435, R436) -/

/-- The first 32 bytes of a digest. -/
def digest32 (b : List Byte) : List Byte := (Config.sha512 b).toList.take 32

/-- An instant some ps earlier. -/
def backPs (t : Nat × Nat) (ps : Nat) : Nat × Nat :=
  let n := t.1 * 1000000000 + t.2 - ps / 1000
  (n / 1000000000, n % 1000000000)

/-- Chop's own count of network time now: the start of its running record and what has run since (R435). -/
def State.chopCount (s : State) : Nat × Nat :=
  addNs (s.chop.startTime.getD (0, 0)) ((s.now - s.chop.startAt) / 1000)

/-- The network time that the Timekeeper shows differs from Chop's own count by more than 1 s (R435). -/
def State.chopDisagrees (s : State) : Bool :=
  let a := toNs s.chopCount
  let b := toNs (s.time.sec, s.time.ns)
  s.chop.synced && (a + 1000000000 < b || b + 1000000000 < a)

/-- The time Chop goes by: the network time, or its own count where the two disagree (R435). -/
def State.chopTime (s : State) : Nat × Nat := if s.chopDisagrees then s.chopCount else (s.time.sec, s.time.ns)

/-- Chop's firmware identity (R440). -/
def chopSwId : Nat := 0x3A91C04E57D21B68

/-- UNMETERED_MS: 0 but for a record that follows a start from power off. -/
def ChopSt.unmetered (c : ChopSt) : Nat :=
  if !(bit c.flags 0) then 0
  else match c.prevEnd, c.startTime with
    | some e, some t => if toNs e ≤ toNs t then min ((toNs t - toNs e) / 1000000) 0xFFFFFFFF else 0xFFFFFFFF
    | _, _ => 0xFFFFFFFF

/-- Bytes 0 to 8,383 of the running record, closed now. -/
def recordBody (c : ChopSt) (flags durationMs energy energyTotal : Nat) (vMin vMax : Int) : List Byte :=
  let t := c.startTime.getD (0, 0)
  leBytes 4 0x43524843 ++ leBytes 2 1 ++ leBytes 2 flags ++ leBytes 4 c.nextNo ++ leBytes 4 c.audit ++ leBytes 8 t.1 ++
  leBytes 4 t.2 ++ leBytes 4 durationMs ++ leBytes 4 c.unmetered ++ leBytes 1 c.interval ++ zeros 1 ++
  leBytes 2 (min c.dropped 65535) ++ leBytes 8 energyTotal ++ leBytes 8 energy ++ leBytes 2 (vMin / 10000).toNat ++
  leBytes 2 (vMax / 10000).toNat ++ zeros 4 ++ padTo 32 c.prevDigest ++
  digest32 ((List.range 1024).flatMap (fun p => leBytes 2 (c.map.get 0 p))) ++ leBytes 8 chopSwId ++ zeros 56 ++
  (List.range 1024).flatMap (fun a => leBytes 8 (c.accounts.get 0 a))

/-- FLAGS of the record closed now: what the running record gathered, SHORT, UNSYNCED, UNSEALED, OUT_OF_RANGE, CAL_DEFAULT,
STORE_LOSS. -/
def ChopSt.closeFlags (c : ChopSt) (short : Bool) (m : Metered) : Nat :=
  c.flags ||| (2 * ofBool short + 4 * ofBool (!c.synced) + 32 * ofBool c.openPart + 64 * ofBool m.outOfRange +
    128 * ofBool c.cal.isNone + 256 * ofBool (0 < c.dropped))

/-- Close the running record and start the next (R435): it closes only with the key and the newest stored record in hand. A
record of less than 1 ms does not close as SHORT (R442). The ninth unconfirmed record drops the oldest (R437). -/
def State.closeRecord (s : State) (short : Bool) (m : Metered) : State :=
  let c := s.chop
  if !c.running || !c.keyReady || !c.ready || (short && s.now < c.startAt + 10 ^ 9) then s
  else
    let flags := c.closeFlags short m
    let ms := (s.now - c.startAt) / 10 ^ 9
    let energy := calEnergy c.calInForce m
    let body := recordBody c flags ms energy ((c.energyTotal + energy) % 2 ^ 64) (calV c.calInForce m.vMin) (calV c.calInForce m.vMax)
    let digest := (Config.sha512 body).toList
    let bytes := body ++ (Config.ed25519Sign 2 digest).toList
    let held := c.held ++ [{ no := c.nextNo, bytes := bytes }]
    let wrap : Bool := c.nextNo = 0xFFFFFFFF
    let s := s.setFlagIf (bit flags 0) 0x1103 0
    let s := s.setFlagIf m.outOfRange 0x1103 6
    let s := s.setFlagIf c.cal.isNone 0x1103 7
    let s := s.setFlagIf (8 < held.length) 0x1103 3
    let s := s.setFlagIf wrap 0x1103 1
    let s := s.setFlagIf s.chopDisagrees 0x1103 4
    let at_ := s.chopTime
    let s := s.modChop (fun c => { c with
      held := held.drop (held.length - 8)
      dropped := if 8 < held.length then 1 else 0
      lastRecord := c.nextNo
      nextNo := (c.nextNo + 1) % 2 ^ 32
      prevDigest := if wrap then [] else digest.take 32
      energyTotal := if wrap then 0 else (c.energyTotal + energy) % 2 ^ 64
      accounts := if wrap then [] else c.accounts
      flags := if wrap then 16 else 0
      audit := if wrap then min (c.audit + 1) 0xFFFFFFFF else c.audit
      startAt := s.now
      startTime := if c.synced then some at_ else none
      prevEnd := none
      openPart := c.unsealed
      interval := c.newInterval.getD c.interval
      newInterval := none
      map := (List.range 1024).foldl (fun t p => t.put 0 p (s.accountMap p)) [] })
    s

/-! ### The Chop log in flash (R437) -/

/-- Offset of a record's slot, and the bank: `true` bank B. -/
def chopSlot (no : Nat) : Bool × Nat := (no % 2 = 1, 0x03000000 + 12288 * (no / 2 % 1365))

/-- Store a record. -/
def State.storeChop (s : State) (r : ChopRecord) : State :=
  let (b, off) := chopSlot r.no
  let put (d : FlashDev) := d.write off 12288 (recBytes 0x11 r.no r.bytes)
  { s with flash := if b then { s.flash with b := put s.flash.b } else { s.flash with a := put s.flash.a } }

/-- Scribe confirms a record: Chop releases it. -/
def State.confirmRecord (s : State) (no : Nat) : State :=
  s.modChop (fun c => { c with held := c.held.filter (fun r => r.no ≠ no) })

/-- The valid records of a device's log area, each in its own slot. -/
def chopRecords (d : FlashDev) (inB : Bool) : List FlashRec :=
  if !d.usable then []
  else
    let ks := ((d.bytes.keys.filter (fun k => 0x03000000 ≤ k && k < 0x03000000 + 1365 * 12288)).map (fun k => (k - 0x03000000) / 12288)).eraseDups
    ks.filterMap (fun k =>
      match readRec d (0x03000000 + 12288 * k) (0x03000000 + 12288 * (k + 1)) with
      | some r => if r.typ = 0x11 && r.len = 8448 && chopSlot r.seq = (inB, 0x03000000 + 12288 * k) then some r else none
      | none => none)

/-- Every valid record of the log, bank A first. -/
def chopLog (x : Flash) : List FlashRec := chopRecords x.a false ++ chopRecords x.b true

/-- The newest record (R52). -/
def newestChop (x : Flash) : Option FlashRec :=
  (chopLog x).foldl (fun b r => match b with
    | some y => if seqNewer r.seq y.seq then some r else b
    | none => some r) none

/-- A record verifies against a key. -/
def chopVerifies (key payload : List Byte) : Bool :=
  payload.length = 8448 && leAt payload 0 4 = 0x43524843 && leAt payload 4 2 = 1 &&
  Config.ed25519Verify key (Config.sha512 (payload.take 8384)).toList (payload.drop 8384)

/-- Chop's public key under its helper data. -/
def ChopSt.pubKey (c : ChopSt) : List Byte := (Config.publicKey 2 c.helper).toList

/-- An interval boundary of the time Chop goes by has just passed: a whole multiple of the interval in network time, or in Chop's own
count from its reset while TIME was never set, at most 1 ms ago (R433, R435), with the running record begun before it (R442). -/
def State.atBoundary (s : State) : Bool :=
  let c := s.chop
  let x := (if c.synced then toNs s.chopTime else (s.now - c.born) / 1000) % (c.interval * 60000000000)
  x ≤ 1000000 && x * 1000 < s.now - c.startAt

/-- Chop continues from the newest stored record, or restarts the log (R438). AUDIT_COUNT goes on from the stored value by what this
start has counted (R439). -/
def State.judgeRecord (s : State) : State :=
  let c := s.chop
  match (newestChop s.flash).filter (fun r => chopVerifies c.pubKey r.payload) with
  | some r =>
    let b := r.payload
    let no := leAt b 8 4
    let wrap : Bool := no = 0xFFFFFFFF
    let s := s.setFlagIf wrap 0x1103 1
    let unsynced : Bool := bit (leAt b 6 2) 2
    let end_ := addNs (leAt b 16 8, leAt b 24 4) (leAt b 28 4 * 1000000)
    s.modChop (fun c => { c with
      ready := true
      nextNo := (no + 1) % 2 ^ 32
      audit := min (leAt b 12 4 + c.audit + ofBool wrap) 0xFFFFFFFF
      energyTotal := if wrap then 0 else (leAt b 40 8 + c.energyTotal) % 2 ^ 64
      accounts := if wrap then c.accounts
        else (List.range 1024).foldl (fun t a => t.upd 0 a (fun v => (v + leAt b (192 + 8 * a) 8) % 2 ^ 64)) c.accounts
      interval := byteAt b 36
      prevDigest := if wrap then [] else (Config.sha512 (b.take 8384)).toList.take 32
      prevEnd := if unsynced then none else some end_
      flags := c.flags ||| (if wrap then 16 else 0) })
  | none =>
    (s.chopFlag 1).modChop (fun c => { (c.mark 4).auditUp with ready := true, nextNo := 0, prevDigest := [], prevEnd := none })

/-- Chop adopts network time when TIME is first set: the running record is dated back; a later value more than 1 s from its own
count is disregarded and flagged (R435). -/
def State.chopAdopt (s : State) : State :=
  if s.chop.running && s.chop.synced then s.setFlagIf s.chopDisagrees 0x1103 4
  else if s.chop.running && !s.chop.synced then
    s.modChop (fun c => { c with synced := true, startTime := some (backPs (s.time.sec, s.time.ns) (s.now - c.startAt)) })
  else s

/-- Chop leaves reset (R47, R432): its first record carries GAP (R438). -/
def State.chopStart (s : State) (sealOpen : Bool) : State :=
  if s.chop.running then s
  else { s with chop := { running := true, born := s.now, unsealed := sealOpen, openPart := sealOpen, startAt := s.now, flags := 1
                          map := (List.range 1024).foldl (fun t p => t.put 0 p (s.accountMap p)) [] } }

end Sys2Proof.Machine
end

