-- ==== Sys2Proof/Machine/DuctusImage.lean ====
section
/-!
DEFINITION. The schedule image (R202 to R206): its header and records as read from bytes, and the validation of R209.
-/

namespace Sys2Proof.Machine

/-- A slot record (R203). -/
structure SlotRec where
  offset : Nat
  run : Nat
  planes : Nat
  src : Nat
  dst : Nat
  reserved : Nat
deriving DecidableEq, Repr

/-- A window record (R205). -/
structure WindowRec where
  offset : Nat
  length : Nat
  targets : Nat
  kind : Nat
  reserved : Nat
deriving DecidableEq, Repr

/-- A gate record (R206). -/
structure GateRec where
  offset : Nat
  length : Nat
  port : Nat
  reserved : Nat
deriving DecidableEq, Repr

/-- IMAGE_LEN. -/
def imgLen (b : List Byte) : Nat := leAt b 8 4
/-- SCHEDULE_ID. -/
def imgId (b : List Byte) : Nat := leAt b 12 4
/-- FABRIC_MODULE. -/
def imgFabric (b : List Byte) : Nat := leAt b 16 2
/-- PLANE_MASK. -/
def imgMask (b : List Byte) : Nat := leAt b 18 2
/-- CYCLE_CELLS. -/
def imgCycle (b : List Byte) : Nat := leAt b 20 4
/-- START_CELL. -/
def imgStart (b : List Byte) : Nat := leAt b 24 8
/-- SLOT_COUNT. -/
def imgSlots (b : List Byte) : Nat := leAt b 32 4
/-- WINDOW_COUNT. -/
def imgWindows (b : List Byte) : Nat := leAt b 36 2
/-- GATE_COUNT. -/
def imgGates (b : List Byte) : Nat := leAt b 38 2

/-- A slot record from its 64-bit value. -/
def slotOf (v : Nat) : SlotRec :=
  { offset := bits v 63 44, run := bits v 43 32, planes := bits v 31 22, src := bits v 21 14, dst := bits v 13 6
    reserved := bits v 5 0 }

/-- The slot records. -/
def imgSlotRecs (b : List Byte) : List SlotRec :=
  (List.range (imgSlots b)).map (fun k => slotOf (leAt b (64 + 8 * k) 8))

/-- The window records. -/
def imgWindowRecs (b : List Byte) : List WindowRec :=
  (List.range (imgWindows b)).map (fun k =>
    let o := 64 + 8 * imgSlots b + 24 * k
    { offset := leAt b o 4, length := leAt b (o + 4) 4, targets := leAt b (o + 8) 8, kind := leAt b (o + 16) 1
      reserved := leAt b (o + 17) 7 })

/-- The gate records. -/
def imgGateRecs (b : List Byte) : List GateRec :=
  (List.range (imgGates b)).map (fun k =>
    let o := 64 + 8 * imgSlots b + 24 * imgWindows b + 16 * k
    { offset := leAt b o 4, length := leAt b (o + 4) 4, port := leAt b (o + 8) 2, reserved := leAt b (o + 10) 6 })

/-- Reserved cell times among offsets below n: offsets with offset mod 64 = 63. -/
def reservedBelow (n : Nat) : Nat := n / 64

/-- The last offset a run covers, counted from `o` and skipping offsets with offset mod 64 = 63 (R203). The `run`-th
non-reserved offset is found from the count of non-reserved offsets below `o`. -/
def runEnd (o run : Nat) : Nat :=
  let k := o - reservedBelow o + run - 1
  k / 63 * 64 + k % 63

/-- Whether a slot record covers an offset. -/
def SlotRec.covers (r : SlotRec) (o : Nat) : Bool :=
  r.offset ≤ o && o ≤ runEnd r.offset r.run && o % 64 ≠ 63

/-- Two slot records hold a common cell time. -/
def SlotRec.meets (a b : SlotRec) : Bool :=
  a.offset ≤ runEnd b.offset b.run && b.offset ≤ runEnd a.offset a.run

/-- Two slot records use a common plane. -/
def SlotRec.samePlane (a b : SlotRec) : Bool :=
  (List.range 10).any (fun p => bit a.planes p && bit b.planes p)

/-- A slot record covers a cell time of a window. -/
def SlotRec.inWindow (r : SlotRec) (w : WindowRec) : Bool :=
  r.offset < w.offset + w.length && w.offset ≤ runEnd r.offset r.run &&
  (List.range w.length).any (fun k => r.covers (w.offset + k))

/-- A slot record touches a target of a window (R205). -/
def SlotRec.onTarget (r : SlotRec) (w : WindowRec) : Bool :=
  if w.kind = 1 then bit w.targets (r.src / 2) || bit w.targets (r.dst / 2)
  else if w.kind = 3 then (List.range 10).any (fun p => bit w.targets p && bit r.planes p)
  else false

/-- Each element of a list against those after it. -/
def pairsAny {α : Type} (f : α → α → Bool) : List α → Bool
  | [] => false
  | a :: r => r.any (f a) || pairsAny f r

/-- Neighbours in order. -/
def sortedBy : List SlotRec → Bool
  | a :: b :: r => a.offset ≤ b.offset && sortedBy (b :: r)
  | _ => true

/-- A window record's field rules (R205). -/
def WindowRec.ok (w : WindowRec) (cycle : Nat) : Bool :=
  w.offset < cycle && 1 ≤ w.length && w.offset + w.length ≤ cycle && w.targets ≠ 0 &&
  ((w.kind = 1 && 1954 ≤ w.length) || (w.kind = 2 && w.targets < 2 ^ 32) || (w.kind = 3 && w.targets < 2 ^ 10))

/-- A gate record's field rules (R206). -/
def GateRec.ok (g : GateRec) (cycle : Nat) : Bool :=
  g.offset < cycle && 1 ≤ g.length && g.offset + g.length ≤ cycle && g.port < 1024

/-- Overlap of two gates of one port. -/
def GateRec.overlaps (a b : GateRec) : Bool :=
  a.port = b.port && a.offset < b.offset + b.length && b.offset < a.offset + a.length

/-- Validation (R209): the first failing code, 0 for none. `fabric` is FABRIC_MODULE of DUCTUS_CFG. -/
def validateImage (fabric : Nat) (b : List Byte) : Nat :=
  let cycle := imgCycle b
  let slots := imgSlotRecs b
  let wins := imgWindowRecs b
  let gates := imgGateRecs b
  if leAt b 0 4 ≠ 0x44554354 || leAt b 4 2 ≠ 1 || b.length < 6 then 1
  else if 2383940 < imgLen b || imgLen b ≠ 68 + 8 * imgSlots b + 24 * imgWindows b + 16 * imgGates b ||
      262144 < imgSlots b || 16384 < imgGates b || 1024 < imgWindows b || b.length < imgLen b then 2
  else if leAt b (imgLen b - 4) 4 ≠ crc32c (b.take (imgLen b - 4)) then 3
  else if leAt b 6 2 ≠ 0 || 2 ^ 10 ≤ imgMask b || leAt b 44 20 ≠ 0 || slots.any (fun r => r.reserved ≠ 0) ||
      wins.any (fun w => w.reserved ≠ 0 || (w.kind = 2 && 2 ^ 32 ≤ w.targets) || (w.kind = 3 && 2 ^ 10 ≤ w.targets)) ||
      gates.any (fun g => g.reserved ≠ 0) then 4
  else if cycle < 64 || 1048576 < cycle || cycle % 64 ≠ 0 then 5
  else if imgStart b % 64 ≠ 0 then 6
  else if imgId b = 0 || imgFabric b ≠ fabric then 7
  else if slots.any (fun r => r.run = 0 || cycle ≤ r.offset || r.offset % 64 = 63 || cycle ≤ runEnd r.offset r.run) then 8
  else if slots.any (fun r => r.planes = 0 || 127 < r.src || 127 < r.dst || r.src = r.dst) then 9
  else if !sortedBy slots then 10
  else if pairsAny (fun a b => a.meets b && a.samePlane b && (a.src = b.src || a.dst = b.dst)) slots then 11
  else if wins = [] || wins.any (fun w => !(w.ok cycle)) then 12
  else if !(wins.any (fun w => w.kind = 1 && w.targets = 0xFFFFFFFFFFFFFFFF)) then 13
  else if slots.any (fun r => wins.any (fun w => r.onTarget w && r.inWindow w)) then 14
  else if gates.any (fun g => !(g.ok cycle)) || pairsAny GateRec.overlaps gates then 15
  else if slots.any (fun r => (List.range 10).any (fun p => bit r.planes p && !(bit (imgMask b) p))) then 16
  else 0

/-- The offset of a cell time in an image's cycle, none before START_CELL (R201). -/
def imgOffset (b : List Byte) (c : Nat) : Option Nat :=
  if c < imgStart b || imgCycle b = 0 then none else some ((c - imgStart b) % imgCycle b)

/-- Whether an image holds a slot record for a source and a destination group. -/
def imgHasPair (b : List Byte) (src dst : Nat) : Bool :=
  (imgSlotRecs b).any (fun r => r.src = src && r.dst = dst)

end Sys2Proof.Machine
end

