-- ==== Sys2Proof/Machine/FolioOps.lean ====
section
/-!
DEFINITION. Folio's histograms and samples as other units feed them (R274 to R276, R378 to R381), and what a chunk-thread's
number says of its range.
-/

namespace Sys2Proof.Machine

/-- The range of a thread number: range × 2^22 + ordinal. -/
def State.rangeOf (s : State) (th : Nat) : Option Range := s.coll.ranges.get none (th / 2 ^ 22)

/-- The ordinal of a thread. -/
def ordinalOf (th : Nat) : Nat := th % 2 ^ 22

/-- The chunk number of an ordinal (R281). -/
def Range.chunk (r : Range) (k : Nat) : Nat := (r.base + k * r.step) % 2 ^ 32

/-- The chunk number of a thread. -/
def State.chunkOf (s : State) (th : Nat) : Nat := ((s.rangeOf th).map (fun r => r.chunk (ordinalOf th))).getD 0

/-- The job handle of a thread. -/
def State.jobOf (s : State) (th : Nat) : Nat := ((s.rangeOf th).map (·.job)).getD 0

/-- The slot number of a job handle, and its generation. -/
def jobSlot (j : Nat) : Nat := j / 256
def jobGen (j : Nat) : Nat := j % 256

/-- Numbers of the set bits of a Nib mask. -/
def maskBits (m : Nat) : List Nat := (List.range 32).filter (bit m)

/-- The Nib of an ordinal (R284). -/
def Range.nibOf (r : Range) (k : Nat) : Nat :=
  let b := maskBits r.mask
  (b[(k + jobSlot r.job) % b.length]?).getD 0

/-- The Nib of a thread. -/
def State.nibOfThread (s : State) (th : Nat) : Nat := ((s.rangeOf th).map (fun r => r.nibOf (ordinalOf th))).getD 0

/-- The time in ps that a Nib has spent in KIND 2 windows. -/
def Nib.windowTime (x : Nib) (now : Nat) : Nat := x.windowed + (if x.window then now - x.windowAt else 0)

/-- A thread. -/
def State.thread (s : State) (th : Nat) : Thread := s.coll.threads.get {} th

/-- Change a thread. -/
def State.updThread (s : State) (th : Nat) (g : Thread → Thread) : State :=
  { s with coll := { s.coll with threads := s.coll.threads.upd {} th g } }

/-- A Nib. -/
def State.nib (s : State) (n : Nat) : Nib := s.nibs.get {} n

/-- Change a Nib. -/
def State.updNib (s : State) (n : Nat) (g : Nib → Nib) : State := { s with nibs := s.nibs.upd {} n g }

/-- A context. -/
def State.ctx (s : State) (n c : Nat) : Option Ctx := (s.nib n).ctxs.get none c

/-- Change a context. -/
def State.updCtx (s : State) (n c : Nat) (g : Ctx → Ctx) : State :=
  s.updNib n (fun x => { x with ctxs := x.ctxs.upd none c (fun k => k.map g) })

/-- Counters of a Nib (R375, type 0x0A). -/
def State.countNib (s : State) (n sub k : Nat) : State := s.count (0x7000 + 0x40 * 10 + n) sub k

/-- The bin of a latency (R379). -/
def histBin (w l : Nat) : Nat := if l < w then 0 else min 31 ((l / w).log2 + 1)

/-- HIST_CFG of engine h matches an event (R378, R390). -/
def histMatch (cfg kind : Nat) (port cls slot : Option Nat) : Bool :=
  bits cfg 63 60 = kind &&
  (bit cfg 27 || port.all (fun p => (if kind = 5 then bits cfg 33 28 else bits cfg 37 28) = p)) &&
  (bit cfg 23 || cls.all (fun c => bits cfg 26 24 = c)) &&
  (bit cfg 22 || slot.all (fun j => bits cfg 15 0 = j))

/-- An event of a kind adds its latency in ns to every engine it matches (R378, R379). -/
def State.hist (s : State) (kind : Nat) (port cls slot : Option Nat) (l : Nat) : State :=
  s.forEach (List.range 16) (fun s h =>
    let cfg := s.param 0x2453 (1 + h)
    if histMatch cfg kind port cls slot then
      let s := s.count (0x7600 + h) (1 + histBin (bits cfg 59 50) l) 1
      let s := (s.count (0x7600 + h) 0x21 1).count (0x7600 + h) 0x22 l
      if s.counter (0x7600 + h) 0x23 < l then
        { s with counters := s.counters.put 0 (objKey (0x7600 + h) 0x23) (min l (2 ^ 64 - 1)) } else s
    else s)

/-- A sample record (R276) of a job, a chunk, a program, a context and a PC. -/
def State.sampleBytes (s : State) (n job chunk program c pc event flags skid data : Nat) : List Byte :=
  leBytes 8 s.cellNow ++ leBytes 3 job ++ leBytes 1 n ++ leBytes 4 chunk ++ leBytes 1 program ++ leBytes 1 c ++ leBytes 2 pc ++
  leBytes 1 event ++ leBytes 1 flags ++ leBytes 1 skid ++ zeros 1 ++ leBytes 8 data

/-- A sample record of an instruction of a context. -/
def sampleRecord (s : State) (n c pc event flags skid data : Nat) : List Byte :=
  let k := s.ctx n c
  let th := (k.map (·.thread)).getD 0
  s.sampleBytes n (s.jobOf th) (s.chunkOf th) ((k.map (·.program)).getD 0) c pc event flags skid data

/-- A record goes to the sample store (R381): 2,097,152 records. -/
def State.storeSample (s : State) (n : Nat) (r : List Byte) : State :=
  if s.folio.store.length < 2097152 then s.modFolio (fun f => { f with store := f.store ++ [r] })
  else (s.countNib n 19 1).setFlag 0x6643 2

/-- Sampling is on for a Nib. -/
def State.sampling (s : State) (n : Nat) : Bool := bit (s.param 0x2454 (1 + n)) 63 && !s.folio.stopped

/-- An event 2 to 9 of R276 on a Nib: recorded precisely, or at one of every 2^EVENT_DIV occurrences a skidding trigger (R380). -/
def State.sampleAs (s : State) (n event data : Nat) (r : List Byte) : State :=
  let cfg := s.param 0x2454 (1 + n)
  if !s.sampling n then s
  else if bit cfg (47 + event - 2) then
    if (s.nib n).precise.length < 64 then
      s.updNib n (fun x => { x with precise := x.precise ++ [r] })
    else s.countNib n 19 1
  else if bit cfg (55 + event - 2) then
    let k := s.folio.eventCount.get 0 (n * 16 + event) + 1
    if 2 ^ bits cfg 46 43 ≤ k then
      (s.modFolio (fun f =>
        { f with eventCount := f.eventCount.put 0 (n * 16 + event) 0, skidding := f.skidding.put 0 n (event + 16 * data) })).updNib n
        (fun x => { x with lastIssue := none })
    else s.modFolio (fun f => { f with eventCount := f.eventCount.put 0 (n * 16 + event) k })
  else s

/-- An event of the instruction at a PC of a context (R275). -/
def State.sampleEvent (s : State) (n c pc event data : Nat) : State := s.sampleAs n event data (sampleRecord s n c pc event 1 0 data)

/-- An event that no instruction started: the record names the job and the chunk, and its program, context and PC are free values (log
entry 171). -/
def State.sampleChunk (s : State) (n th event data : Nat) : State :=
  if !s.sampling n then s
  else
    let (p, s) := s.freeBelow 256
    let (c, s) := s.freeBelow 64
    let (pc, s) := s.freeBelow 2048
    s.sampleAs n event data (s.sampleBytes n (s.jobOf th) (s.chunkOf th) p c pc event 1 0 data)

/-- What causes an event of a row: an instruction of a context, a frame or an invocation of a thread, or a Proof test. -/
inductive RowCause where
  | instr (ctx pc : Nat)
  | chunk (thread : Nat)
  | proof
deriving DecidableEq, Repr

/-- An event of a row; one that a Proof test causes has no record. -/
def State.sampleRow (s : State) (n : Nat) (w : RowCause) (event data : Nat) : State :=
  match w with
  | .instr c pc => s.sampleEvent n c pc event data
  | .chunk th => s.sampleChunk n th event data
  | .proof => s

/-- An instruction issued on a Nib (R380): the period trigger, event 1. -/
def State.samplePeriod (s : State) (n : Nat) : State :=
  let period := bits (s.param 0x2454 (1 + n)) 31 0
  if !s.sampling n || period = 0 then s
  else
    let k := s.folio.periodCount.get 0 n + 1
    if period ≤ k then
      (s.modFolio (fun f => { f with periodCount := f.periodCount.put 0 n 0, skidding := f.skidding.put 0 n 1 })).updNib n
        (fun x => { x with lastIssue := none })
    else s.modFolio (fun f => { f with periodCount := f.periodCount.put 0 n k })

end Sys2Proof.Machine
end

