-- ==== Sys2Proof/Machine/LinkView.lean ====
section
/-!
DEFINITION. What the configuration and the state say of links: bundling (R13, R72), circuit use (R71), lanes in service,
link states (R76), and the coordinates of links (R14).
-/

namespace Sys2Proof.Machine

/-- Codes of R75. -/
def LaneState.code : LaneState → Nat
  | .out => 0 | .lock => 1 | .align => 2 | .soak => 3 | .inn => 4 | .held => 5

/-- Codes of R88; a hold after a unit fault has no code and reads 0 (R458). -/
def Hold.code : Hold → Nat
  | .none => 0 | .loopback => 1 | .mismatch => 2 | .pilot => 3 | .flap => 4 | .reach => 5 | .circuit => 6
  | .dark => 7 | .launch => 8 | .fade => 9 | .source => 10 | .unit => 0

/-- Codes of R76. -/
def LinkState.code : LinkState → Nat
  | .disabled => 0 | .waitMargin => 1 | .training => 2 | .up => 3 | .reduced => 4 | .held => 5

/-- Rows of R78's table. -/
def laneFaultCode : LaneFault → Nat
  | .power => 1 | .align => 2 | .ucw _ => 3 | .ber => 4 | .ring => 5 | .farDrop => 6

/-- FIBRE_CFG of a fibre (R72). -/
def State.fibreCfg (s : State) (f : Nat) : Nat := s.param (0x2140 + f) 1

/-- LINK_START. -/
def cfgStart (v : Nat) : Nat := bits v 15 0
/-- LANE_ENABLE. -/
def cfgEnable (v : Nat) : Nat := bits v 47 32
/-- MODE. -/
def cfgMode (v : Nat) : Bool := bit v 48
/-- LONG_REACH. -/
def cfgLong (v : Nat) : Bool := bit v 49
/-- MIN_LANES. -/
def cfgMin (v : Nat) : Nat := bits v 56 52

/-- Width of a link that starts at slot `w`: up to the next set bit of LINK_START, or slot 16. -/
def linkWidth (start w : Nat) : Nat :=
  (((List.range 16).filter (fun k => w < k && bit start k))[0]?).getD 16 - w

/-- The start slot of the link that holds slot `w`: the highest set bit at or below it. -/
def linkStartOf (start w : Nat) : Nat :=
  ((List.range (w + 1)).filter (fun k => bit start k)).foldl (fun _ k => k) 0

/-- The validation of R72 (with R13 and R71), but for the Hatch circuit. -/
def fibreCfgValid (v : Nat) : Bool :=
  let start := cfgStart v
  bit start 0 && 1 ≤ cfgMin v && cfgMin v ≤ 16 &&
  (List.range 16).all (fun w =>
    !(bit start w) ||
      (let n := linkWidth start w
       (n = 1 || n = 2 || n = 4 || n = 8 || n = 16) && w % n = 0 &&
       !(cfgMode v && 1 < n && 12 < w + n) && !(cfgMode v && 8 ≤ n)))

/-- Start slots of the fibre's links. -/
def startSlots (v : Nat) : List Nat := (List.range 16).filter (fun w => bit (cfgStart v) w)

/-- Port numbers of the fibre's links (R13). -/
def State.fibreLinks (s : State) (f : Nat) : List Nat := (startSlots (s.fibreCfg f)).map (fun w => 16 * f + w)

/-- The link that holds a lane. -/
def State.linkOfLane (s : State) (f w : Nat) : Nat := 16 * f + linkStartOf (cfgStart (s.fibreCfg f)) w

/-- Slots of link `p`. -/
def State.linkSlots (s : State) (p : Nat) : List Nat :=
  let f := p / 16
  let w := p % 16
  (List.range (linkWidth (cfgStart (s.fibreCfg f)) w)).map (· + w)

/-- Input or output number of a bypass-capable slot (R110). -/
def hatchPort (f w : Nat) : Nat := 4 * f + (w - 12)

/-- A slot is in circuit use: the input or an output of a standing connection (R111). -/
def State.inCircuit (s : State) (f w : Nat) : Bool :=
  12 ≤ w && s.hatch.conns.any (fun c => c.input = hatchPort f w || c.outs.contains (hatchPort f w))

/-- Fibres of a connection. -/
def Conn.fibres (c : Conn) : List Nat := (c.input / 4) :: c.outs.map (· / 4)

/-- Slots (fibre, slot) of a connection. -/
def Conn.slots (c : Conn) : List (Nat × Nat) :=
  (c.input / 4, 12 + c.input % 4) :: c.outs.map (fun o => (o / 4, 12 + o % 4))

/-- A commit in progress has drained a slot (R117 step 3). -/
def State.drainedSlot (s : State) (f w : Nat) : Bool :=
  match s.hatch.commit with
  | some c => c.drained && (c.connects.flatMap Conn.slots).contains (f, w)
  | none => false

/-- A slot is out of electrical service: in circuit use, or drained for it. -/
def State.offElectrical (s : State) (f w : Nat) : Bool := s.inCircuit f w || s.drainedSlot f w

/-- A lane takes part in its link: enabled at both ends (R74) and in electrical service (R71). -/
def State.laneUsed (s : State) (f w : Nat) : Bool :=
  bit (cfgEnable (s.fibreCfg f)) w && !(s.offElectrical f w) &&
  (match (s.fibre f).far with
   | some c => bit c.laneEnable w
   | none => true)

/-- Lanes of a link in IN. -/
def State.lanesIn (s : State) (p : Nat) : List Nat :=
  (s.linkSlots p).filter (fun w => (s.lane (p / 16) w).state = .inn)

/-- ACTIVE_LANES of a link. -/
def State.activeLanes (s : State) (p : Nat) : Nat := (s.lanesIn p).length

/-- Lanes of a link that are to be IN for UP. -/
def State.usedLanes (s : State) (p : Nat) : List Nat := (s.linkSlots p).filter (fun w => s.laneUsed (p / 16) w)

/-- MIN_LANES of a link: the link's width where that is narrower (R72). -/
def State.minLanes (s : State) (p : Nat) : Nat := min (cfgMin (s.fibreCfg (p / 16))) (s.linkSlots p).length

/-- A link is in service. -/
def LinkSt.inService (x : LinkSt) : Bool := x.state = .up || x.state = .reduced

/-- The fibre's links are in service or not. -/
def State.linkUp (s : State) (p : Nat) : Bool := (s.link p).inService

/-- Whether port `p` is the lowest port of a link (R13). -/
def State.isLinkPort (s : State) (p : Nat) : Bool := bit (cfgStart (s.fibreCfg (p / 16))) (p % 16)

/-- A link is enabled: one of its lanes is. -/
def State.linkEnabled (s : State) (p : Nat) : Bool :=
  s.isLinkPort p && (s.linkSlots p).any (fun w => bit (cfgEnable (s.fibreCfg (p / 16))) w)

/-- A destination link port that can take a frame: the lowest port of a link in UP or REDUCED (R164). -/
def State.portUsable (s : State) (p : Nat) : Bool := p < 1024 && s.isLinkPort p && s.linkUp p

/-- LINK_STATE of a link before training: HELD in circuit use, DISABLED with no lane enabled, else WAIT_MARGIN, TRAINING on
agreement, or HELD (R76). -/
def linkIdleState (s : State) (p : Nat) : LinkState :=
  let f := p / 16
  if (s.linkSlots p).any (fun w => s.offElectrical f w) then .held
  else if (s.linkSlots p).all (fun w => !(bit (cfgEnable (s.fibreCfg f)) w)) then .disabled
  else if (s.fibre f).holdAll ≠ .none then .held
  else if (s.fibre f).marginState = .up && (s.fibre f).far.isSome then .training
  else .waitMargin

/-- All lowest ports of enabled links. -/
def State.enabledLinks (s : State) : List Nat :=
  (List.range 64).flatMap (fun f => (s.fibreLinks f).filter s.linkEnabled)

end Sys2Proof.Machine
end

