-- ==== Sys2Proof/Machine/CoreOps.lean ====
section
/-!
DEFINITION. The switch core (R179 to R197): admission to the cell buffer, virtual output queues, the matching of one
cell time, resequencing and reassembly, multicast sets, Pounce, and queues of links that leave service.
-/

namespace Sys2Proof.Machine

/-- A change of the core. -/
def State.modCore (s : State) (g : CoreSt → CoreSt) : State := { s with core := g s.core }

/-- A change of Ductus. -/
def State.modDuctus (s : State) (g : DuctusSt → DuctusSt) : State := { s with ductus := g s.ductus }

/-- A change of the tables. -/
def State.modTables (s : State) (g : TablesSt → TablesSt) : State := { s with tables := g s.tables }

/-- Cells of a frame (R180). -/
def cellsOf (len : Nat) : Nat := ceilDiv len 240

/-- Occupancy of a class (R182). -/
def CoreSt.occ (c : CoreSt) (tc : Nat) : Nat :=
  c.frames.foldl (fun n e => match e.2 with
    | some f => if f.tc = tc then n + cellsOf f.bytes.length else n
    | none => n) 0

/-- The destination a frame is charged to: every multicast set is one destination. -/
def Dest.charge : Dest → Nat
  | .unit a => a
  | .port p => 256 + p
  | .multi _ _ _ => 2000

/-- Occupancy of a class for one destination. -/
def CoreSt.occDest (c : CoreSt) (tc d : Nat) : Nat :=
  c.frames.foldl (fun n e => match e.2 with
    | some f => if f.tc = tc && f.dst.charge = d then n + cellsOf f.bytes.length else n
    | none => n) 0

/-- FREE_CELLS (R198). -/
def CoreSt.freeCells (c : CoreSt) : Nat :=
  655360 - c.frames.foldl (fun n e => match e.2 with
    | some f => n + cellsOf f.bytes.length
    | none => n) 0

/-- MIN, MAX and DEST_MAX of a class (R183). -/
def State.bufMin (s : State) (c : Nat) : Nat := bits (s.param 0x21E1 (1 + c)) 19 0
def State.bufMax (s : State) (c : Nat) : Nat := bits (s.param 0x21E1 (1 + c)) 39 20
def State.bufDest (s : State) (c : Nat) : Nat := bits (s.param 0x21E1 (1 + c)) 63 44

/-- Admission of n cells of a class for a destination (R182). -/
def State.admits (s : State) (n c d : Nat) : Bool :=
  let occ (k : Nat) := s.core.occ k
  if c = 7 then occ 7 + n ≤ 8192
  else
    let ovf (k : Nat) := occ k - s.bufMin k
    let need := (occ c + n - s.bufMin c) - ovf c
    let shared := 647168 - ((List.range 7).map s.bufMin).foldl (· + ·) 0
    occ c + n ≤ s.bufMax c && s.core.occDest c d + n ≤ s.bufDest c &&
    ((List.range 7).map ovf).foldl (· + ·) 0 + need ≤ shared

/-- The coordinate of a port in a table: row × 32 + column, the port's own number by default (R12, R14). -/
def coordOf (t : Coords) (p : Nat) : Nat := (t.get none p).getD p

/-- Members of a multicast set (R189), the excluded link left out. -/
def State.mcMembers (s : State) (t : Coords) (kind value : Nat) (excl : Option Nat) : List Nat :=
  s.enabledLinks.filter (fun p =>
    s.linkUp p && excl ≠ some p &&
    (if kind = 1 then coordOf t p / 32 = value
     else if kind = 2 then coordOf t p % 32 = value
     else bit (s.tables.vlan.get 0 value) p))

/-- The present coordinate table, or the one of a version (R197). -/
def CoreSt.coordsOf (c : CoreSt) (v : Bool) : Coords := if v = c.ctVer then c.coords else c.coordsOld

/-- Group-widths of an attachment (R10, R181). -/
def State.width (s : State) (a : Nat) : Nat :=
  if a < 128 then
    (if cfgStart (s.fibreCfg (a / 2)) = 1 then (if a % 2 = 0 then 2 else 0) else 1)
  else if a ≤ 160 then 4 else 1

/-- Offer a frame to the core (R182): it waits for admission at its source attachment. -/
def State.offer (s : State) (o : Offer) : State := s.modCore (fun c => { c with offers := c.offers ++ [o] })

/-- The ingress link number under which frames that a fibre's margin channel carried wait for admission. -/
def carryLink (f : Nat) : Nat := 2048 + f

/-- Return the credit of a frame that has left its pipeline (R137, R158): to its link, or, of a CARRY frame, to the fibre's
TC7 credit (R149). -/
def State.returnCredit (s : State) (link : Nat) (credit : Option (Nat × Nat)) : State :=
  match credit with
  | some (tc, len) =>
    if 2048 ≤ link then
      s.updFibre (link - 2048) (fun x => { x with margin := { x.margin with
        tc7Freed := (x.margin.tc7Freed + tc7Cost len) % 65536 } })
    else s.updLink link (fun x => { x with freed := x.freed.upd 0 tc (fun n => (n + ceilDiv len 256) % 2 ^ 24) })
  | none => s

/-- Tell whoever waits on a frame that it has been admitted (R268, R287, R189). -/
def State.admitted (s : State) (o : Origin) : State :=
  match o with
  | .none => s
  | .chunk _ th _ _ =>
    { s with coll := { s.coll with threads := s.coll.threads.upd {} th (fun t => { t with waiting := t.waiting - 1 }) } }
  | .emit n c q _ _ =>
    { s with nibs := s.nibs.upd {} n (fun x => { x with ctxs := x.ctxs.upd none c (fun y => y.map (fun k =>
        { k with async := k.async.map (fun a => if a.seq = q then { a with frames := a.frames - 1 } else a) })) }) }
  | .memory j t => s.hist 4 none none (some j) ((s.now - t) / 1000)

/-- A copy of a stored frame ends; the last one frees its cells (R182). -/
def State.endCopy (s : State) (id key : Nat) : State :=
  s.modCore (fun c => { c with frames := c.frames.upd none id (fun f => f.bind (fun x =>
    let l := x.live.filter (· ≠ key)
    if l = [] then none else some { x with live := l })) })

/-- Age check of Pounce (R188): the frame is older than its class's limit. An age at or above 2^31 is taken as 0 (R367). -/
def State.aged (s : State) (tc arrival : Nat) : Bool :=
  let age := (s.cellNow % 2 ^ 32 + 2 ^ 32 - arrival) % 2 ^ 32
  tc ≤ 6 && age < 2 ^ 31 && ceilDiv (s.param 0x21E0 (1 + tc) * 100000) 1024 < age

/-- Count a Pounce discard. -/
def State.pounced (s : State) (tc : Nat) : State := (s.countMem (8 + tc) 1).setFlag 0x64C1 4

/-- Count a discard for a link out of service (R194). -/
def State.destDown (s : State) : State := (s.countMem 18 1).setFlag 0x64C1 8

/-- The groups that a group's attachment joins (R181): both groups of a 16-lane link, else the group alone. -/
def State.joinedGroups (s : State) (g : Nat) : List Nat :=
  if g < 128 && cfgStart (s.fibreCfg (g / 2)) = 1 then [g - g % 2, g - g % 2 + 1] else [g]

/-- TC0 of a source and destination group is admitted only by the active image (R208): a record of either group of a joined pair serves
the pair (R204). -/
def State.tc0Ok (s : State) (src : Nat) (d : Dest) : Bool :=
  s.ductus.state = 1 &&
  (match d with
   | .port p => (s.joinedGroups src).any (fun a => (s.joinedGroups (p / 8)).any (fun b => imgHasPair s.ductus.active a b))
   | _ => false)

/-- Remove an offer. -/
def State.dropOffer (s : State) (o : Offer) : State :=
  (s.modCore (fun c => { c with offers := c.offers.erase o })).returnCredit o.link o.credit

/-- The attachment that serves a port: its group, or 2f for the joined pair of a 16-lane link (R181) and for TC7, which the
margin channel of fibre f takes through group 2f (R153). -/
def State.portAttach (s : State) (tc p : Nat) : Nat :=
  if tc = 7 || cfgStart (s.fibreCfg (p / 16)) = 1 then p / 16 * 2 else p / 8

/-- Destination attachments of a frame and the ports there. -/
def State.copiesOf (s : State) (tc : Nat) (d : Dest) : List (Nat × Nat) :=
  match d with
  | .unit a => [(a, 0)]
  | .port p => [(s.portAttach tc p, p)]
  | .multi k v e => ((s.mcMembers s.core.coords k v e).map (s.portAttach tc)).eraseDups.map (fun a => (a, e.getD 0))

/-- Write an admitted frame into the cell buffer and its copies into the queues (R182, R189). -/
def State.store (s : State) (o : Offer) : State :=
  let copies := s.copiesOf o.tc o.dst
  let multi := match o.dst with | .multi _ _ _ => true | _ => false
  let mc := match o.dst with | .multi k v e => (k, v, e.isSome) | _ => (0, 0, false)
  let id := s.core.nextFrame
  let len := o.bytes.length
  if copies = [] then (s.countMem 17 1).setFlag 0x64C1 9
  else if (match o.dst with | .port p => o.tc ≠ 7 && !s.portUsable p | _ => false) then s.destDown
  else
    let f : Stored :=
      { bytes := o.bytes, tc := o.tc, src := o.src, link := o.link, dst := o.dst, arrival := s.cellNow % 2 ^ 32
        ctVer := s.core.ctVer, live := copies.map (·.1), start := o.start, admittedAt := s.now }
    s.modCore (fun c =>
      { c with
        frames := c.frames.put none id (some f)
        nextFrame := id + 1
        queues := c.queues ++ copies.map (fun x =>
          { frame := id, src := o.src, dst := x.1, tc := o.tc, egress := x.2, multi := multi, len := len
            excl := mc.2.2, mcKind := mc.1, mcValue := mc.2.1, arrival := f.arrival, ctVer := f.ctVer }) })

/-- The key of the virtual output queue a copy waits in. -/
def Voq.key (v : Voq) : Nat × Nat × Nat × Bool :=
  (v.src, v.tc, if v.multi then 0 else if v.dst < 128 then 1000 + v.egress else v.dst, v.multi)

/-- Copies at the heads of their queues: for a multicast queue every copy of its first frame. -/
def voqHeads : List Voq → List ((Nat × Nat × Nat × Bool) × Nat) → List Voq
  | [], _ => []
  | v :: r, seen =>
    match seen.find? (fun x => x.1 = v.key) with
    | some x => if x.2 = v.frame then v :: voqHeads r seen else voqHeads r seen
    | none => v :: voqHeads r ((v.key, v.frame) :: seen)

/-- Drop a copy from the queues. -/
def State.dropVoq (s : State) (v : Voq) : State :=
  (s.modCore (fun c => { c with queues := c.queues.filter (fun x => !(x.frame = v.frame && x.dst = v.dst)) })).endCopy v.frame v.dst

/-- Drop every copy of a frame at its source: its cells are freed. -/
def State.dropQueued (s : State) (id : Nat) : State :=
  s.modCore (fun c => { c with queues := c.queues.filter (fun x => x.frame ≠ id), frames := c.frames.put none id none })

/-- Pounce at the source (R188): a frame whose FIRST cell is at the head of its queue, of which no copy's FIRST cell has left. Each frame
counts once. Run until no head is aged. -/
def State.pounceSources (s : State) : Nat → State
  | 0 => s
  | n + 1 =>
    match (voqHeads s.core.queues []).find? (fun v =>
        match s.core.frames.get none v.frame with
        | some f => !f.left && s.aged f.tc f.arrival
        | none => false) with
    | some v => ((s.dropQueued v.frame).pounced v.tc).pounceSources n
    | none => s

/-- Cells of egress queue (link, class). -/
def CoreSt.egressCells (c : CoreSt) (p tc : Nat) : Nat :=
  c.egress.foldl (fun n e => if e.port = p && e.tc = tc then
    n + (match c.frames.get none e.frame with | some f => cellsOf f.bytes.length | none => 0) else n) 0

/-- Follow a change of an egress queue: not ready from 128 cells, ready again at 96 (R184). -/
def State.reviewReady (s : State) (p tc : Nat) : State :=
  let n := s.core.egressCells p tc
  s.modCore (fun c => { c with stopped := c.stopped.upd false (p * 8 + tc) (fun b =>
    if 128 ≤ n then true else if n ≤ 96 then false else b) })

/-- Room of a fibre's margin transmitter for TC7 frames (R154): its queue of carried frames holds 128 (log entry 14). -/
def State.marginRoom (s : State) (f : Nat) : Bool :=
  ((s.fibre f).margin.waiting.filter (fun x => x.prio = 9)).length < 128

/-- Ligature data granules in use (R338, R340): 64 bytes each. -/
def LigSt.granules (l : LigSt) : Nat :=
  (l.accs.map (fun a => (a.members.map (fun r => ceilDiv r.data.length 64)).foldl (· + ·) 0)).foldl (· + ·) 0

/-- Cells of a class, or of data, that a unit's receive buffer holds (R184). -/
def CoreSt.intakeCells (c : CoreSt) (a : Nat) (f : Nat → Bool) : Nat :=
  ((c.intake.get [] a).map (fun x => if f x.tc then cellsOf x.bytes.length else 0)).foldl (· + ·) 0

/-- A receive buffer of attachments 161 to 163 follows its contents (R184): data is not ready from 1,536 cells, ready again at 1,280. -/
def State.reviewUnit (s : State) (a : Nat) : State :=
  let n := s.core.intakeCells a (· ≠ 7)
  s.modCore (fun c => { c with stopped := c.stopped.upd false (8192 + a) (fun b =>
    if 1536 ≤ n then true else if n ≤ 1280 then false else b) })

/-- Frames in a Nib's intake (R257): those that reached it and are not yet steered, and those that wait for their context in a chunk's input
queue. -/
def State.nibIntake (s : State) (n : Nat) : Nat :=
  s.coll.threads.foldl (fun k e => if e.2.queue ≠ [] && s.nibOfThread e.1 = n then k + e.2.queue.length else k)
    (s.core.intake.get [] (128 + n)).length

/-- A unit's attachment signals ready for a class (R184, R257, R310, R338). -/
def State.unitReady (s : State) (a tc : Nat) : Bool :=
  let n := (s.core.intake.get [] a).length
  if a < 160 then s.nibIntake (a - 128) < 256 && !(s.nibs.get {} (a - 128)).window
  else if a = 160 then n < 1024 && 64 ≤ 67108864 - s.lig.granules
  else if tc = 7 then s.core.intakeCells a (· = 7) < 256
  else !(s.core.stopped.get false (8192 + a))

/-- The queue that a copy's cell joins signals ready (R184). -/
def State.copyReady (s : State) (v : Voq) : Bool :=
  if 128 ≤ v.dst then s.unitReady v.dst v.tc
  else if v.tc = 7 then s.marginRoom (v.dst / 2)
  else if v.multi then
    (match s.core.frames.get none v.frame with
     | some f => (match f.dst with
        | .multi k val e => ((s.mcMembers (s.core.coordsOf f.ctVer) k val e).filter (fun p => p / 8 = v.dst)).all
            (fun p => !(s.core.stopped.get false (p * 8 + v.tc)))
        | _ => true)
     | none => true)
  else !(s.core.stopped.get false (v.egress * 8 + v.tc))

/-- The copy that source `src` would send a cell of, for destination `dst` in class `tc`; `any` leaves the ready signal aside. -/
def State.candidate (s : State) (src dst tc : Nat) (any : Bool) : Option Voq :=
  (voqHeads s.core.queues []).find? (fun v => v.src = src && v.dst = dst && v.tc = tc && (any || s.copyReady v))

/-- Send the next cell of a copy on a plane in cell time t (R179, R180, R186). After a copy's last cell another frame stands at the head, and
Pounce checks it (R188). -/
def State.sendCell (s : State) (v : Voq) (plane t : Nat) : State :=
  let n := cellsOf v.len
  let k := v.src + 164 * v.dst
  let f := s.core.frames.get none v.frame
  let cell : Cell :=
    { frame := v.frame, idx := v.sent, multi := v.multi, tc := v.tc, first := v.sent = 0, last := v.sent + 1 = n
      excl := v.excl, src := v.src, dst := v.dst, rseq := s.core.rseq.get 0 k, egress := v.egress, mcKind := v.mcKind
      mcValue := v.mcValue, fill := if v.sent + 1 = n then v.len - 240 * v.sent else 240
      arrival := v.arrival, ctVer := v.ctVer }
  let s := if v.sent = 0 && !v.multi && v.dst < 128 then
      s.hist 2 (some v.egress) (some v.tc) none ((s.now - (f.map (·.admittedAt)).getD s.now) / 1000) else s
  let s := s.modCore (fun c =>
    { c with
      rseq := c.rseq.upd 0 k (fun x => (x + 1) % 65536)
      frames := c.frames.upd none v.frame (fun x => x.map (fun y => { y with left := true }))
      transit := c.transit ++ [{ plane := plane, due := t + (if plane < 5 then 4 else 5), cell := cell }]
      queues := c.queues.filterMap (fun x => if x.frame = v.frame && x.dst = v.dst then
        (if v.sent + 1 = n then none else some { x with sent := v.sent + 1 }) else some x) })
  let s := s.countUnit 6 plane 1
  let s := if v.tc = 7 then s.countUnit 6 plane 3 else s
  if v.sent + 1 = n then s.pounceSources s.core.queues.length else s

/-- Lanes left in one plane's cell time. -/
structure Lanes where
  inLeft : Tab Nat := []
  outLeft : Tab Nat := []

/-- Lanes used by a cell. -/
def Lanes.used (l : Lanes) (src dst : Nat) : Lanes :=
  { inLeft := l.inLeft.upd 0 src (· + 1), outLeft := l.outLeft.upd 0 dst (· + 1) }

/-- Attachment that a group of a slot record stands for (R181, R204). -/
def State.groupAttach (s : State) (g : Nat) : Nat :=
  if cfgStart (s.fibreCfg (g / 2)) = 1 then g - g % 2 else g

/-- Slot records of the schedule in force that cover a cell time. -/
def State.slotsAt (s : State) (t : Nat) : List SlotRec :=
  if s.ductus.state ≠ 1 then []
  else match imgOffset s.ductus.active t with
    | some o => (imgSlotRecs s.ductus.active).filter (fun r => r.covers o)
    | none => []

/-- Slot-map entries of one plane: TC0 present takes its lane, whatever the queue it joins signals (R184). -/
def slotPass (t plane : Nat) (recs : List SlotRec) (s : State) (l : Lanes) : State × Lanes :=
  (recs.filter (fun r => bit r.planes plane)).foldl (fun (s, l) r =>
    match s.candidate (s.groupAttach r.src) (s.groupAttach r.dst) 0 true with
    | some v => (s.sendCell v plane t, l.used v.src v.dst)
    | none => (s, l)) (s, l)

/-- A grant: source, destination, class. -/
structure Grant where
  src : Nat
  dst : Nat
  tc : Nat
deriving DecidableEq, Repr

/-- The next class of a destination's deficit round robin among those requested (R184, R195): the class in turn while its
deficit lasts, else the next requested class with its quantum added. Answers the class and the new deficit. -/
def drrNext (s : State) (d : Nat) (asked : List Nat) : Nat × State :=
  let cur := s.core.turn.get 1 d
  let def_ (c : Nat) := s.core.deficit.get 0 (d * 8 + c)
  if asked.contains cur && 0 < def_ cur then (cur, s)
  else
    let order := (List.range 6).map (fun i => (cur + i) % 6 + 1)
    let c := (order.filter asked.contains)[0]?.getD cur
    (c, s.modCore (fun x =>
      { x with turn := x.turn.put 1 d c
               deficit := (x.deficit.put 0 (d * 8 + cur) (if asked.contains cur then def_ cur else 0)).upd 0 (d * 8 + c)
                 (· + s.param 0x21E0 (7 + c)) }))

/-- The least by a key. -/
def minBy {α : Type} (f : α → Nat) : List α → Option α
  | [] => none
  | a :: r => match minBy f r with
    | some b => if f b < f a then some b else some a
    | none => some a

/-- The grants of one destination (R184): at most its free output lanes. -/
def grantsOf (inLeft : Nat → Nat) (d : Nat) (reqs : List Grant) : Nat → List Grant → List Grant → State → List Grant × State
  | 0, _, mine, s => (mine, s)
  | n + 1, all, mine, s =>
    let open_ := (reqs.filter (fun g => g.dst = d && !(mine.contains g) &&
      (all.filter (fun h => h.src = g.src)).length + (mine.filter (fun h => h.src = g.src)).length < inLeft g.src))
    if open_ = [] then (mine, s)
    else
      let asked := (open_.map (·.tc)).eraseDups
      let (c, s) := if asked.contains 0 then (0, s) else if asked.contains 7 then (7, s) else drrNext s d asked
      let ptr := s.core.gptr.get 0 (d * 8 + c)
      match minBy (fun g => (g.src + 164 - ptr) % 164) (open_.filter (fun g => g.tc = c)) with
      | some g =>
        let s := if 1 ≤ c && c ≤ 6 then
            s.modCore (fun x => { x with deficit := x.deficit.upd 0 (d * 8 + c) (fun k => k - 1) }) else s
        grantsOf inLeft d reqs n all (mine ++ [g]) s
      | none => (mine, s)

/-- Accept grants at a source in pointer order, at most its free input lanes. -/
def acceptsOf (ptr : Nat) : Nat → List Grant → List Grant
  | 0, _ => []
  | n + 1, gs =>
    match minBy (fun g => (g.dst + 164 - ptr) % 164) gs with
    | some g => g :: acceptsOf ptr n (gs.erase g)
    | none => []

/-- One iteration of request, grant and accept on a plane. -/
def matchIter (t plane : Nat) (classes : List Nat) (displaced : Tab Nat) (first : Bool) (s : State) (l : Lanes) :
    State × Lanes × Tab Nat :=
  let inLeft (a : Nat) := s.width a - l.inLeft.get 0 a
  let outLeft (a : Nat) := s.width a - l.outLeft.get 0 a
  let heads := (voqHeads s.core.queues []).filter (fun v =>
    classes.contains v.tc && 0 < inLeft v.src && 0 < outLeft v.dst && s.copyReady v &&
    (v.tc ≠ 0 || 0 < displaced.get 0 (v.src * 164 + v.dst)))
  let reqs : List Grant := (heads.map (fun v => { src := v.src, dst := v.dst, tc := v.tc })).eraseDups
  let dsts := (List.range 164).filter (fun d => reqs.any (fun g => g.dst = d))
  let (grants, s) := dsts.foldl (fun (acc, s) d =>
    let (mine, s) := grantsOf inLeft d reqs (outLeft d) acc [] s
    (acc ++ mine, s)) (([] : List Grant), s)
  let srcs := (List.range 164).filter (fun a => grants.any (fun g => g.src = a))
  let taken := srcs.flatMap (fun a => acceptsOf (s.core.aptr.get 0 a) (inLeft a) (grants.filter (fun g => g.src = a)))
  taken.foldl (fun (s, l, dis) g =>
    match s.candidate g.src g.dst g.tc false with
    | some v =>
      let s := s.sendCell v plane t
      let s := if first then s.modCore (fun c =>
          { c with gptr := c.gptr.put 0 (g.dst * 8 + g.tc) ((g.src + 1) % 164), aptr := c.aptr.put 0 g.src ((g.dst + 1) % 164) })
        else s
      let k := g.src * 164 + g.dst
      if g.tc = 0 then ((s.countMem 20 1).setFlag 0x64C1 6, l.used g.src g.dst, dis.upd 0 k (fun n => n - 1))
      else (s, l.used g.src g.dst, dis)
    | none => (s, l, dis)) (s, l, displaced)

/-- One plane's cell time (R184). -/
def planeMatch (t plane : Nat) (recs : List SlotRec) (s : State) (displaced : Tab Nat) : State × Tab Nat :=
  let (s, l) := slotPass t plane recs s {}
  let classes := if t % 64 = 63 then [7] else [0, 1, 2, 3, 4, 5, 6]
  let (s, l, dis) := matchIter t plane classes displaced true s l
  let (s, l, dis) := matchIter t plane classes dis false s l
  let (s, _, dis) := matchIter t plane classes dis false s l
  (s, dis)

/-- Slot-map entries of planes that are out, in a cell time: cells they displace, by source and destination (R193). -/
def State.displacedAt (s : State) (recs : List SlotRec) : Tab Nat :=
  (List.range 10).foldl (fun d p => if s.core.noMatch.getLsbD p then
      (recs.filter (fun r => bit r.planes p)).foldl (fun d r =>
        d.upd 0 (s.groupAttach r.src * 164 + s.groupAttach r.dst) (· + 1)) d
    else d) []

/-- PLANES_IN and PLANE_COUNT (R198). -/
def CoreSt.planesIn (c : CoreSt) : Nat := (~~~c.out_).toNat
def CoreSt.planeCount (c : CoreSt) : Nat := ((List.range 10).filter (fun p => !(c.out_.getLsbD p))).length

/-- Planes that return at a cell time that is a multiple of 64 (R192). -/
def State.restorePlanes (s : State) (t : Nat) : State :=
  if t % 64 = 0 && s.core.restoring ≠ 0 then
    s.modCore (fun c =>
      { c with
        noMatch := c.noMatch &&& ~~~c.restoring, out_ := c.out_ &&& ~~~c.restoring, restoring := 0
        failed := c.failed &&& ~~~c.restoring
        restoredAt := (List.range 10).foldl (fun r p => if c.restoring.getLsbD p then r.put none p (some s.now) else r)
          c.restoredAt })
  else s

/-- Cost of a frame in credit units (R137). -/
def creditCost (len : Nat) : Nat := ceilDiv len 256

/-- The credit rule of R138 for a frame of a class. -/
def LinkSt.creditOk (x : LinkSt) (tc len : Nat) : Bool :=
  let room := (x.limit.get 0 tc + 2 ^ 24 - x.sent.get 0 tc) % 2 ^ 24
  creditCost len ≤ room && room < 0x800000

/-- The oldest frame in the egress queue of a link and a class. -/
def CoreSt.egressHead (c : CoreSt) (p tc : Nat) : Option (Nat × Stored) :=
  (c.egress.find? (fun e => e.port = p && e.tc = tc)).bind (fun e => (c.frames.get none e.frame).map (fun f => (e.frame, f)))

/-- A cell time in which a frame waits for credit is counted (R374). -/
def State.creditWaits (s : State) : State :=
  s.forEach (s.core.egress.map (·.port)).eraseDups (fun s p =>
    if (List.range 7).any (fun c => (s.core.egressHead p c).any (fun x => !((s.link p).creditOk c x.2.bytes.length))) then
      s.countPort p 8
    else s)

/-- A frame that a unit takes from its receive buffer. -/
def State.taken (s : State) (a : Nat) (f : Stored) : State := if a = 162 then s.emit (.quillFrame f.bytes) else s

/-- The command processor, Quill and the host interface take frames from their receive buffers in a cell time, oldest first (R184); how many
is a free value. -/
def State.unitsTake (s : State) (t : Nat) : State :=
  s.forEach [161, 162, 163] (fun s a =>
    match s.core.intake.get [] a with
    | [] => s
    | f :: r =>
      let n := Config.unitTakes a t
      let s := s.modCore (fun c => { c with intake := c.intake.put [] a ((f :: r).drop n) })
      (((f :: r).take n).foldl (fun s f => s.taken a f) s).reviewUnit a)

/-- One cell time of the core (R184): planes return, units take frames, aged heads go, and every plane in service matches in ascending
number. -/
def State.cellTime (s : State) (t : Nat) : State :=
  let s := ((s.restorePlanes t).unitsTake t).pounceSources (s.core.queues.length)
  let recs := s.slotsAt t
  let dis := s.displacedAt recs
  let r := (List.range 10).foldl (fun (a : State × Tab Nat) p =>
    if a.1.core.noMatch.getLsbD p then a else planeMatch t p recs a.1 a.2) (s, dis)
  (r.1.modCore (fun c => { c with lastMatch := some t })).creditWaits

/-- The 128-bit cell header (R180), its HDR_CHECK included. -/
def Cell.header (c : Cell) : Nat :=
  let hi := (if c.multi then 2 else 1) * 2 ^ 110 + c.tc * 2 ^ 107 + ofBool c.first * 2 ^ 106 + ofBool c.last * 2 ^ 105 +
    ofBool c.excl * 2 ^ 104 + c.src * 2 ^ 96 + c.dst * 2 ^ 88 + c.rseq * 2 ^ 72 + c.egress * 2 ^ 62 + c.mcKind * 2 ^ 60 +
    c.mcValue * 2 ^ 48 + c.fill * 2 ^ 40 + c.arrival * 2 ^ 8 + ofBool c.ctVer * 2 ^ 7
  hi * 65536 + crcMsb 16 0x1021#16 0xFFFF#16 (beBytes 14 hi)

/-- The header check at the destination lane (R180). -/
def headerOk (h : Nat) : Bool :=
  crcMsb 16 0x1021#16 0xFFFF#16 (beBytes 14 (h / 65536)) = h % 65536 &&
  bits h 127 126 ≠ 3 && bits h 127 126 ≠ 0 && 1 ≤ bits h 63 56 && bits h 63 56 ≤ 240 && bits h 22 16 = 0

/-- The header fields that the resequencer uses, as received. -/
def Cell.received (c : Cell) (h : Nat) : Cell :=
  { c with first := bit h 122, last := bit h 121, rseq := bits h 103 88, fill := bits h 63 56 }

/-- Number a is newer than b modulo 2^16 (R186). -/
def rseqAhead (a b : Nat) : Nat := (a + 65536 - b) % 65536

/-- A resequencer context: destination, source. -/
def CoreSt.context (c : CoreSt) (d a : Nat) : Reseq := c.reseq.get {} (d * 164 + a)

/-- Change a context. -/
def State.updContext (s : State) (d a : Nat) (g : Reseq → Reseq) : State :=
  s.modCore (fun c => { c with reseq := c.reseq.upd {} (d * 164 + a) g })

/-- Deliver a TC7 frame to a port group's margin channel as CARRY (R131, R147), for one link or every member's fibre. -/
def State.carryOut (s : State) (f : Stored) (fibre : Nat) : State :=
  sendSeq s fibre 0x14 f.bytes

/-- Hand a whole frame on at its destination (R187, R189, R188): to egress queues, the margin channel, or a unit. -/
def State.handOn (s : State) (id d : Nat) : State :=
  match s.core.frames.get none id with
  | none => s
  | some f =>
    if 128 ≤ d then
      let s' := s.endCopy id d
      if s.aged f.tc f.arrival then s'.pounced f.tc
      else
        let s' := s'.modCore (fun c => { c with intake := c.intake.upd [] d (· ++ [f]) })
        if 160 < d then s'.reviewUnit d else s'
    else if f.tc = 7 then (s.carryOut f (d / 2)).endCopy id d
    else
      let ports := match f.dst with
        | .port p => [p]
        | .multi k v e => (s.mcMembers (s.core.coordsOf f.ctVer) k v e).filter (fun p => p / 8 = d)
        | .unit _ => []
      let good := ports.filter s.portUsable
      let s := if good.length < ports.length || ports = [] then s.destDown else s
      let s := s.modCore (fun c =>
        { c with
          frames := c.frames.upd none id (fun x => x.map (fun y => { y with live := y.live ++ good.map (1000 + ·) }))
          egress := c.egress ++ good.map (fun p => { port := p, tc := f.tc, frame := id }) })
      let s := good.foldl (fun s p => s.reviewReady p f.tc) s
      s.endCopy id d

/-- Discard a frame in reassembly: its copy ends. -/
def State.loseFrame (s : State) (d a id : Nat) : State :=
  (s.updContext d a (fun r => { r with open_ := r.open_.filter (fun o => o.1 ≠ id) })).endCopy id d

/-- Deliver a cell in order to reassembly (R187). -/
def State.deliverCell (s : State) (d a : Nat) (c : Cell) : State :=
  let r := s.core.context d a
  let prior := (r.open_.find? (fun o => o.1 = c.frame)).map (fun o => o.2)
  let ok := if c.first then some (1, c.fill) else match prior with
    | some (n, b) => if n = c.idx then some (n + 1, b + c.fill) else none
    | none => none
  match ok with
  | none => s.loseFrame d a c.frame
  | some (n, b) =>
    let s := s.updContext d a (fun r => { r with open_ := r.open_.filter (fun o => o.1 ≠ c.frame) })
    if c.last then
      (match s.core.frames.get none c.frame with
       | some f => if n = cellsOf f.bytes.length && b = f.bytes.length && f.live.contains d then s.handOn c.frame d
                   else s.endCopy c.frame d
       | none => s)
    else s.updContext d a (fun r => { r with open_ := r.open_ ++ [(c.frame, n, b)] })

/-- Deliver held cells that follow NEXT without a gap. -/
def State.deliverHeld (s : State) (d a : Nat) : Nat → State
  | 0 => s
  | n + 1 =>
    let r := s.core.context d a
    match r.held.find? (fun x => x.1.rseq = r.next) with
    | none => s.updContext d a (fun r => { r with timer := ((minBy (·.2) r.held).map (·.2)).getD 0 })
    | some (c, at_) =>
      let s := s.updContext d a (fun r => { r with held := r.held.erase (c, at_), next := (r.next + 1) % 65536 })
      (s.deliverCell d a c).deliverHeld d a n

/-- A lost cell waits for its context to pass its number: until then its frame keeps its place in the cell buffer (R182). -/
def State.loseCell (s : State) (c : Cell) : State := s.modCore (fun k => { k with gone := k.gone ++ [c] })

/-- A context passes the numbers of lost cells: their frames are discarded (R186, R187). -/
def State.passGone (s : State) (d a upTo : Nat) : State :=
  let next := (s.core.context d a).next
  let mine (c : Cell) : Bool := c.dst = d && c.src = a && rseqAhead c.rseq next < rseqAhead upTo next
  let ids := (s.core.gone.filter mine).map (·.frame)
  let s := s.modCore (fun k => { k with gone := k.gone.filter (fun c => !(mine c)) })
  ids.foldl (fun s id => s.loseFrame d a id) s

/-- Declare a loss (R186): missing numbers are counted, frames in reassembly and those of the missing numbers are discarded, and
delivery goes on at the lowest held number. -/
def State.declareLoss (s : State) (d a : Nat) : State :=
  let r := s.core.context d a
  match minBy (fun x => rseqAhead x.1.rseq r.next) r.held with
  | none => s
  | some (c, _) =>
    let s := (s.countMem 15 (rseqAhead c.rseq r.next)).setFlag 0x64C1 2
    let s := ((r.open_.map (·.1)).foldl (fun s id => s.loseFrame d a id) s).passGone d a c.rseq
    let s := s.updContext d a (fun r => { r with next := c.rseq })
    s.deliverHeld d a r.held.length

/-- Cells held for a destination (R185). -/
def CoreSt.heldAt (c : CoreSt) (d : Nat) : Nat :=
  ((List.range 164).map (fun a => (c.context d a).held.length)).foldl (· + ·) 0

/-- The source whose context holds a destination's oldest cell. -/
def CoreSt.oldestAt (c : CoreSt) (d : Nat) : Option Nat :=
  (minBy (fun a => (c.context d a).timer) ((List.range 164).filter (fun a => (c.context d a).held ≠ []))).map id

/-- A sound cell reaches its context (R186). -/
def State.resequence (s : State) (d : Nat) (c : Cell) : State :=
  let a := c.src
  let r := s.core.context d a
  let n := rseqAhead c.rseq r.next
  if n = 0 then
    let s := s.updContext d a (fun r => { r with next := (r.next + 1) % 65536 })
    (s.deliverCell d a c).deliverHeld d a r.held.length
  else if n ≤ 1023 then
    let s := s.updContext d a (fun r =>
      { r with held := r.held ++ [(c, s.now)], timer := if r.held = [] then s.now else r.timer })
    if 1024 ≤ s.core.heldAt d then
      (match s.core.oldestAt d with
       | some b => s.declareLoss d b
       | none => s)
    else s
  else
    let s := (s.countMem 16 1).setFlag 0x64C1 3
    if n < 32768 then s.loseCell c else s.loseFrame d a c.frame

/-- A plane leaves service on a failure (R191): matching stops, its bit clears, cells in transit on it are lost. -/
def State.planeOut (s : State) (p : Nat) : State :=
  let m := BitVec.ofNat 10 (2 ^ p)
  let again : Bool := match s.core.restoredAt.get none p with
    | some t => s.now < t + 10 ^ 12
    | none => false
  let s := (s.setFlag 0x64C1 0).setFlag 0x64C1 1
  let lost := s.core.transit.filter (fun x => x.plane = p)
  s.modCore (fun c =>
    { c with noMatch := c.noMatch ||| m, out_ := c.out_ ||| m, restoring := c.restoring &&& ~~~m, failed := c.failed ||| m
             needProof := if again then c.needProof ||| m else c.needProof
             errs := c.errs.put [] p [], transit := c.transit.filter (fun x => x.plane ≠ p)
             gone := c.gone ++ lost.map (·.cell) })

/-- The queues for a link that has left service are drained: each frame is counted and its cells freed (R194). -/
def dropLinkQueues (s : State) (p : Nat) : State :=
  let qs := s.core.queues.filter (fun v => !v.multi && v.dst < 128 && v.egress = p && v.tc ≠ 7)
  let s := qs.foldl (fun s v => (s.dropVoq v).destDown) s
  let es := s.core.egress.filter (fun e => e.port = p)
  let s := s.modCore (fun c => { c with egress := c.egress.filter (fun e => e.port ≠ p)
                                        stopped := c.stopped.filter (fun x => x.1 / 8 ≠ p) })
  es.foldl (fun s e => (s.endCopy e.frame (1000 + p)).destDown) s

/-- Queued TC0 is discarded, all of it or what a new image has no record for (R208). -/
def dropTc0 (s : State) (all : Bool) : State :=
  let qs := s.core.queues.filter (fun v => v.tc = 0 &&
    (all || !(s.tc0Ok v.src (.port v.egress))))
  qs.foldl (fun s v => ((s.dropVoq v).countUnit 7 0 5).setFlag 0x6501 4) s

end Sys2Proof.Machine
end

