-- ==== Sys2Proof/Machine/NibFormat.lean ====
section
/-!
DEFINITION. Element formats and conversions of the Nibs (R226 to R232, R238): every format's decoding to an exact number,
rounding once to nearest even or stochastically, and encoding with the overflow and special classes of R230.
-/

namespace Sys2Proof.Machine

/-- An exact element value: NaN, an infinity, or (−1)^neg × m × 2^e, with m = 0 a signed zero. -/
inductive Num where
  | nan
  | inf (neg : Bool)
  | fin (neg : Bool) (m : Nat) (e : Int)
deriving DecidableEq, Repr

/-- A float layout: precision with the hidden bit, exponent of the least unit, bits of the exponent field, and the
largest finite magnitude as m × 2^e. -/
structure FloatFmt where
  prec : Nat
  qmin : Int
  ebits : Nat
  maxM : Nat
  maxE : Int
deriving DecidableEq, Repr

/-- binary32. -/
def fmtB32 : FloatFmt := { prec := 24, qmin := -149, ebits := 8, maxM := 2 ^ 24 - 1, maxE := 104 }
/-- binary16. -/
def fmtB16 : FloatFmt := { prec := 11, qmin := -24, ebits := 5, maxM := 2047, maxE := 5 }
/-- BF16. -/
def fmtBf16 : FloatFmt := { prec := 8, qmin := -133, ebits := 8, maxM := 255, maxE := 120 }
/-- FP8 E4M3. -/
def fmtE4m3 : FloatFmt := { prec := 4, qmin := -9, ebits := 4, maxM := 14, maxE := 5 }
/-- FP8 E5M2. -/
def fmtE5m2 : FloatFmt := { prec := 3, qmin := -16, ebits := 5, maxM := 7, maxE := 13 }
/-- MXFP6 E2M3. -/
def fmtE2m3 : FloatFmt := { prec := 4, qmin := -3, ebits := 2, maxM := 15, maxE := -1 }
/-- MXFP6 E3M2. -/
def fmtE3m2 : FloatFmt := { prec := 3, qmin := -4, ebits := 3, maxM := 7, maxE := 2 }
/-- MXFP4 E2M1. -/
def fmtE2m1 : FloatFmt := { prec := 2, qmin := -1, ebits := 2, maxM := 3, maxE := 1 }

/-- The float layout of an element of a format code of R143; the integer codes 11 and 12 have none. -/
def elemFmt : Nat → Option FloatFmt
  | 1 => some fmtB32 | 2 => some fmtB16 | 3 => some fmtBf16 | 4 => some fmtE4m3 | 5 => some fmtE5m2
  | 6 => some fmtE4m3 | 7 => some fmtE5m2 | 8 => some fmtE2m3 | 9 => some fmtE3m2 | 10 => some fmtE2m1
  | _ => none

/-- MX formats, codes 6 to 10. -/
def isMx (fmt : Nat) : Bool := 6 ≤ fmt && fmt ≤ 10

/-- Integer formats. -/
def isIntFmt (fmt : Nat) : Bool := fmt = 11 || fmt = 12

/-- Largest element exponent of an MX format (R232). -/
def mxEmax : Nat → Int
  | 6 => 8 | 7 => 15 | 8 => 2 | 9 => 4 | _ => 2

/-- Bytes for n elements (R143, R227). -/
def fmtBytes (fmt n : Nat) : Nat :=
  match fmt with
  | 1 => 4 * n | 2 => 2 * n | 3 => 2 * n | 4 => n | 5 => n
  | 6 => n + n / 32 | 7 => n + n / 32 | 8 => 3 * n / 4 + n / 32 | 9 => 3 * n / 4 + n / 32 | 10 => n / 2 + n / 32
  | 11 => n | 12 => 4 * n | _ => 0

/-- Largest n of R143. -/
def fmtMaxN : Nat → Nat
  | 1 => 2048 | 2 => 4096 | 3 => 4096 | 4 => 8192 | 5 => 8192 | 6 => 7936 | 7 => 7936 | 8 => 10464 | 9 => 10464
  | 10 => 15392 | 11 => 8192 | 12 => 2048 | _ => 0

/-- Width of a float layout in bits. -/
def FloatFmt.width (f : FloatFmt) : Nat := f.prec + f.ebits

/-- A float pattern's value. `plain` holds where all-ones exponents mean infinity and NaN (codes 1, 2, 3 and 5). -/
def FloatFmt.decode (f : FloatFmt) (plain : Bool) (x : Nat) : Num :=
  let neg := bit x (f.width - 1)
  let ex := bits x (f.width - 2) (f.prec - 1)
  let fr := x % 2 ^ (f.prec - 1)
  if plain && ex = 2 ^ f.ebits - 1 then (if fr = 0 then .inf neg else .nan)
  else if ex = 0 then .fin neg fr f.qmin
  else .fin neg (fr + 2 ^ (f.prec - 1)) (f.qmin + ex - 1)

/-- Two's complement of `w` bits. -/
def intOf (w x : Nat) : Int := if x < 2 ^ (w - 1) then (x : Int) else (x : Int) - 2 ^ w

/-- An integer as an exact number. -/
def numOfInt (v : Int) : Num := .fin (v < 0) v.natAbs 0

/-- One element of a format that is not MX. -/
def decodeOne (fmt x : Nat) : Num :=
  match fmt with
  | 4 => if x % 128 = 127 then .nan else fmtE4m3.decode false x
  | 11 => numOfInt (intOf 8 x)
  | 12 => numOfInt (intOf 32 x)
  | k => match elemFmt k with
    | some f => f.decode true x
    | none => .nan

/-- An MX element that would be infinity or NaN in its plain format. -/
def mxSpecial (fmt x : Nat) : Bool :=
  (fmt = 6 && x % 128 = 127) || (fmt = 7 && 0x7C ≤ x % 128)

/-- The 32 element patterns of an MX block's bytes after the scale (R227). -/
def mxPatterns (fmt : Nat) (bs : List Byte) : List Nat :=
  if fmt = 6 || fmt = 7 then (List.range 32).map (fun i => byteAt bs i)
  else if fmt = 10 then
    (List.range 32).map (fun i => if i % 2 = 0 then byteAt bs (i / 2) / 16 else byteAt bs (i / 2) % 16)
  else (List.range 32).map (fun i => beAt bs (3 * (i / 4)) 3 / 2 ^ (18 - 6 * (i % 4)) % 64)

/-- Bytes of an MX block. -/
def mxBlockBytes (fmt : Nat) : Nat := if fmt = 6 || fmt = 7 then 33 else if fmt = 10 then 17 else 25

/-- An MX block's values: NaN throughout for scale 0xFF or a special element (R226). -/
def decodeMxBlock (fmt : Nat) (bs : List Byte) : List Num :=
  let k := byteAt bs 0
  let ps := mxPatterns fmt (bs.drop 1)
  if k = 255 || ps.any (mxSpecial fmt) then List.replicate 32 .nan
  else
    match elemFmt fmt with
    | none => List.replicate 32 .nan
    | some f => ps.map (fun x => match f.decode false x with
      | .fin neg m e => .fin neg m (e + k - 127)
      | v => v)

/-- The values of n elements of a format in payload layout (R227). -/
def decodeElems (fmt n : Nat) (bs : List Byte) : List Num :=
  if isMx fmt then
    (List.range (n / 32)).flatMap (fun b => decodeMxBlock fmt (slice bs (b * mxBlockBytes fmt) (mxBlockBytes fmt)))
  else
    let w := fmtBytes fmt 1
    (List.range n).map (fun i => decodeOne fmt (beAt bs (i * w) w))

/-- floor(log2 (m × 2^e)) for m > 0. -/
def hiExp (m : Nat) (e : Int) : Int := (m.log2 : Int) + e

/-- m × 2^e as a multiple of 2^q: quotient, and whether a remainder is left with its 32-bit fraction and its comparison
with one half. -/
def splitAt (m : Nat) (e q : Int) : Nat × Nat × Ordering :=
  if q ≤ e then (m * 2 ^ (e - q).toNat, 0, .lt)
  else
    let d := 2 ^ (q - e).toNat
    let r := m % d
    (m / d, r * 2 ^ 32 / d, compare (2 * r) d)

/-- Rounding of R238: the multiple of 2^q. `dither` is none for nearest even. -/
def roundUnits (dither : Option Nat) (m : Nat) (e q : Int) : Nat :=
  let (k, f, half) := splitAt m e q
  match dither with
  | none => match half with
    | .lt => k
    | .gt => k + 1
    | .eq => if k % 2 = 0 then k else k + 1
  | some d => if 2 ^ 32 ≤ f + d then k + 1 else k

/-- The unit exponent of a float layout at a magnitude. -/
def FloatFmt.unit (f : FloatFmt) (m : Nat) (e : Int) : Int := max f.qmin (hiExp m e - f.prec + 1)

/-- k × 2^q exceeds the largest finite magnitude. -/
def FloatFmt.ovf (f : FloatFmt) (k : Nat) (q : Int) : Bool :=
  if f.maxE ≤ q then f.maxM < k * 2 ^ (q - f.maxE).toNat else f.maxM * 2 ^ (f.maxE - q).toNat < k

/-- The pattern of a magnitude k × 2^q that the layout holds exactly. -/
def FloatFmt.pattern (f : FloatFmt) (neg : Bool) (k : Nat) (q : Int) : Nat :=
  let s := ofBool neg * 2 ^ (f.width - 1)
  if k = 0 then s
  else
    let emin := f.qmin + f.prec - 1
    let h := hiExp k q
    if h < emin then s + k * 2 ^ (q - f.qmin).toNat
    else
      let u := h - f.prec + 1
      let sig := if u ≤ q then k * 2 ^ (q - u).toNat else k / 2 ^ (u - q).toNat
      s + (h - emin + 1).toNat * 2 ^ (f.prec - 1) + (sig - 2 ^ (f.prec - 1))

/-- What a conversion did: the pattern, and whether CONVERT_OVERFLOW or CONVERT_INVALID applies (R230). -/
structure Conv where
  pat : Nat
  ovf : Bool := false
  invalid : Bool := false
deriving DecidableEq, Repr

/-- Largest finite pattern of a float layout. -/
def FloatFmt.largest (f : FloatFmt) (neg : Bool) : Nat := f.pattern neg f.maxM f.maxE

/-- Infinity pattern of the formats that have one. -/
def FloatFmt.infPat (f : FloatFmt) (neg : Bool) : Nat :=
  ofBool neg * 2 ^ (f.width - 1) + (2 ^ f.ebits - 1) * 2 ^ (f.prec - 1)

/-- Conversion to a float format that is not MX (R230, R231). -/
def encodeFloat (fmt : Nat) (f : FloatFmt) (sat : Bool) (dither : Option Nat) : Num → Conv
  | .nan =>
    { pat := match fmt with | 1 => 0x7FC00000 | 2 => 0x7E00 | 3 => 0x7FC0 | 4 => 0x7F | _ => 0x7E }
  | .inf neg =>
    if fmt = 4 then { pat := if sat then f.largest neg else 0x7F, ovf := true }
    else { pat := f.infPat neg }
  | .fin neg m e =>
    if m = 0 then { pat := f.pattern neg 0 0 }
    else
      let q := f.unit m e
      let k := roundUnits dither m e q
      if f.ovf k q then
        { pat := if sat then f.largest neg else if fmt = 4 then 0x7F else f.infPat neg, ovf := true }
      else { pat := f.pattern neg k q }

/-- Conversion to an integer format of `w` bits. -/
def encodeInt (w : Nat) (dither : Option Nat) : Num → Conv
  | .nan => { pat := 0, invalid := true }
  | .inf neg => { pat := if neg then 2 ^ (w - 1) else 2 ^ (w - 1) - 1, ovf := true }
  | .fin neg m e =>
    let k := roundUnits dither m e 0
    if neg then (if 2 ^ (w - 1) < k then { pat := 2 ^ (w - 1), ovf := true } else { pat := (2 ^ w - k) % 2 ^ w })
    else if 2 ^ (w - 1) ≤ k then { pat := 2 ^ (w - 1) - 1, ovf := true }
    else { pat := k }

/-- Conversion of one value to a format that is not MX. -/
def encodeOne (fmt : Nat) (sat : Bool) (dither : Option Nat) (v : Num) : Conv :=
  match fmt with
  | 11 => encodeInt 8 dither v
  | 12 => encodeInt 32 dither v
  | k => match elemFmt k with
    | some f => encodeFloat k f sat dither v
    | none => { pat := 0 }

/-- The bytes of MX element patterns (R227). -/
def mxBytes (fmt : Nat) (ps : List Nat) : List Byte :=
  if fmt = 6 || fmt = 7 then ps.map (BitVec.ofNat 8)
  else if fmt = 10 then
    (List.range 16).map (fun m => BitVec.ofNat 8 (16 * (ps[2 * m]?).getD 0 + (ps[2 * m + 1]?).getD 0))
  else (List.range 8).flatMap (fun m =>
    beBytes 3 ((List.range 4).foldl (fun a k => a * 64 + (ps[4 * m + k]?).getD 0) 0))

/-- X of R232 for the magnitudes of a block that is not all zero. -/
def mxScale (fmt : Nat) (vs : List Num) : Int :=
  let hs := vs.filterMap (fun v => match v with
    | .fin _ m e => if m = 0 then none else some (hiExp m e)
    | _ => none)
  let top := match hs with
    | [] => (0 : Int)
    | h :: r => r.foldl max h
  max (-127) (min 127 (top - mxEmax fmt))

/-- An MX block (R230, R232): bytes, and the numbers of elements that overflowed. -/
def encodeMxBlock (fmt : Nat) (dither : Nat → Option Nat) (vs : List Num) : List Byte × Nat :=
  let isInf (v : Num) := match v with | .inf _ => true | _ => false
  if vs.any (fun v => v = .nan || isInf v) then
    (beBytes 1 255 ++ mxBytes fmt (List.replicate 32 0), (vs.filter isInf).length)
  else
    match elemFmt fmt with
    | none => ([], 0)
    | some f =>
      let zero := vs.all (fun v => match v with | .fin _ m _ => m = 0 | _ => false)
      let x := mxScale fmt vs
      let cs := vs.zipIdx.map (fun (v, i) => match v with
        | .fin neg m e =>
          if m = 0 then ({ pat := f.pattern neg 0 0 } : Conv)
          else
            let q := f.unit m (e - x)
            let k := roundUnits (dither i) m (e - x) q
            if f.ovf k q then { pat := f.largest neg, ovf := true } else { pat := f.pattern neg k q }
        | _ => { pat := 0 })
      (beBytes 1 (if zero then 0 else (x + 127).toNat) ++ mxBytes fmt (cs.map (·.pat)), (cs.filter (·.ovf)).length)

/-- Conversion of a list of values to a format's payload bytes: bytes, elements that overflowed and elements that were
invalid. `dither i` is the dither of element i, none for nearest even. -/
def encodeElems (fmt : Nat) (sat : Bool) (dither : Nat → Option Nat) (vs : List Num) : List Byte × Nat × Nat :=
  if isMx fmt then
    let blocks := (List.range (vs.length / 32)).map (fun b =>
      encodeMxBlock fmt (fun i => dither (32 * b + i)) ((vs.drop (32 * b)).take 32))
    (blocks.flatMap (·.1), (blocks.map (·.2)).foldl (· + ·) 0, 0)
  else
    let w := fmtBytes fmt 1
    let cs := vs.zipIdx.map (fun (v, i) => encodeOne fmt sat (dither i) v)
    (cs.flatMap (fun c => beBytes w c.pat), (cs.filter (·.ovf)).length, (cs.filter (·.invalid)).length)

/-- mix of R238. -/
def ditherMix (z : Word64) : Word64 :=
  let z := (z ^^^ (z >>> 30)) * 0xBF58476D1CE4E5B9#64
  let z := (z ^^^ (z >>> 27)) * 0x94D049BB133111EB#64
  z ^^^ (z >>> 31)

/-- dither of R238: 0 to 0xFFFF_FFFF. -/
def dither (seed chunk element : Nat) : Nat :=
  let z := ditherMix (BitVec.ofNat 64 seed ^^^ BitVec.ofNat 64 chunk)
  let z := ditherMix (z + BitVec.ofNat 64 (element + 1) * 0x9E3779B97F4A7C15#64)
  (z >>> 32).toNat

/-- m × 2^e as an integer multiple of 2^q, q at most e. -/
def atUnit (neg : Bool) (m : Nat) (e q : Int) : Int :=
  let v : Int := (m : Int) * 2 ^ (e - q).toNat
  if neg then -v else v

/-- Exact sum of two finite numbers, IEEE 754 signs of zero. -/
def addFin (n1 : Bool) (m1 : Nat) (e1 : Int) (n2 : Bool) (m2 : Nat) (e2 : Int) : Num :=
  if m1 = 0 && m2 = 0 then .fin (n1 && n2) 0 0
  else
    let q := min e1 e2
    let v := atUnit n1 m1 e1 q + atUnit n2 m2 e2 q
    .fin (v < 0) v.natAbs q

/-- Exact addition. -/
def Num.add : Num → Num → Num
  | .nan, _ => .nan
  | _, .nan => .nan
  | .inf a, .inf b => if a = b then .inf a else .nan
  | .inf a, .fin _ _ _ => .inf a
  | .fin _ _ _, .inf b => .inf b
  | .fin n1 m1 e1, .fin n2 m2 e2 => addFin n1 m1 e1 n2 m2 e2

/-- Exact multiplication. -/
def Num.mul : Num → Num → Num
  | .nan, _ => .nan
  | _, .nan => .nan
  | .inf a, .inf b => .inf (a != b)
  | .inf a, .fin n m _ => if m = 0 then .nan else .inf (a != n)
  | .fin n m _, .inf b => if m = 0 then .nan else .inf (b != n)
  | .fin n1 m1 e1, .fin n2 m2 e2 => .fin (n1 != n2) (m1 * m2) (e1 + e2)

/-- Negation. -/
def Num.neg : Num → Num
  | .nan => .nan
  | .inf a => .inf (!a)
  | .fin n m e => .fin (!n) m e

/-- Rounded to binary32 under EXACT_RNE, overflow to infinity. -/
def Num.toB32 (v : Num) : Num := decodeOne 1 (encodeFloat 1 fmtB32 false none v).pat

/-- The binary32 pattern of a value under EXACT_RNE. -/
def Num.patB32 (v : Num) : Nat := (encodeFloat 1 fmtB32 false none v).pat

end Sys2Proof.Machine
end

