-- ==== Sys2Proof/Machine/Frames.lean ====
section
/-!
DEFINITION. Ethernet and VFT frames as byte strings: tags (R159), recognition of VFT (R140), its header (R141 to R143), the
checks of R144, and the native frames that the module builds.
-/

namespace Sys2Proof.Machine

/-- What the parser finds: TPID 0x8100 tags (0, 1, or 2 for two or more), the first tag's TCI, and the offset of the
EtherType behind at most one tag. -/
structure Parsed where
  tags : Nat
  tci : Nat
  off : Nat
deriving DecidableEq, Repr

/-- Parse the tags (R159). -/
def parseFrame (b : List Byte) : Parsed :=
  if beAt b 12 2 = 0x8100 then
    if beAt b 16 2 = 0x8100 then { tags := 2, tci := beAt b 14 2, off := 16 }
    else { tags := 1, tci := beAt b 14 2, off := 16 }
  else { tags := 0, tci := 0, off := 12 }

/-- Destination and source MAC. -/
def macDst (b : List Byte) : Nat := beAt b 0 6
def macSrc (b : List Byte) : Nat := beAt b 6 6

/-- EtherType behind at most one tag. -/
def etherType (b : List Byte) : Nat := beAt b (parseFrame b).off 2

/-- Offset of the VFT header of a native frame (R140). -/
def vftNative (b : List Byte) : Option Nat :=
  let p := parseFrame b
  if p.tags ≤ 1 && etherType b = 0x88B5 then some (p.off + 2) else none

/-- Offset of the VFT header of a routed frame for a UDP port (R140). -/
def vftRouted (port : Nat) (b : List Byte) : Option Nat :=
  let p := parseFrame b
  let ip := p.off + 2
  if p.tags ≤ 1 && etherType b = 0x86DD && byteAt b (ip + 6) = 17 && beAt b (ip + 42) 2 = port then some (ip + 48) else none

/-- VFT header fields of R141, at header offset `o`. -/
def vftType (b : List Byte) (o : Nat) : Nat := byteAt b (o + 1)
def vftIpc (b : List Byte) (o : Nat) : Bool := bit (byteAt b o) 3
def vftLast (b : List Byte) (o : Nat) : Bool := bit (byteAt b o) 2
def vftJob (b : List Byte) (o : Nat) : Nat := beAt b (o + 2) 3
def vftTree (b : List Byte) (o : Nat) : Nat := byteAt b (o + 5) / 64
def vftFormat (b : List Byte) (o : Nat) : Nat := byteAt b (o + 5) % 32
def vftCount (b : List Byte) (o : Nat) : Nat := beAt b (o + 6) 2
def vftChunk (b : List Byte) (o : Nat) : Nat := beAt b (o + 8) 4
def vftSeq (b : List Byte) (o : Nat) : Nat := beAt b (o + 12) 4
def vftInter (b : List Byte) (o : Nat) : Nat := beAt b (o + 16) 2 / 64
def vftLen (b : List Byte) (o : Nat) : Nat := beAt b (o + 18) 2
def vftArg (b : List Byte) (o : Nat) : Nat := beAt b (o + 20) 12
def vftPayload (b : List Byte) (o : Nat) : List Byte := slice b (o + 32) (vftLen b o)

/-- Types of R142. -/
def vftTypeOk (t : Nat) : Bool := (1 ≤ t && t ≤ 5) || (0x10 ≤ t && t ≤ 0x14) || t = 0x20

/-- Class of a TYPE (R142), none where the table does not list it. -/
def vftClass (t : Nat) : Option Nat :=
  if 1 ≤ t && t ≤ 5 then some 1 else if 0x10 ≤ t && t ≤ 0x14 then some 2 else if t = 0x20 then some 0 else none

/-- Reserved bits of a header (R141, R303), INTER_COORD included when IPC is 0. -/
def vftReservedOk (b : List Byte) (o : Nat) : Bool :=
  let t := vftType b o
  byteAt b o % 4 = 0 && !(bit (byteAt b (o + 5)) 5) && byteAt b (o + 17) % 64 = 0 &&
  (vftIpc b o || vftInter b o = 0) &&
  (if (1 ≤ t && t ≤ 5) || t = 0x20 then vftArg b o = 0
   else vftArg b o % 64 = 0 && (t ≠ 0x14 || bits (vftArg b o) 11 8 = 0))

/-- FORMAT that a TYPE allows (R142, R143). -/
def vftFormatOk (t f : Nat) : Bool :=
  f ≤ 12 &&
  (if t = 1 || t = 2 || t = 5 then 1 ≤ f else if t = 0x20 then true else f = 0)

/-- ELEMENT_COUNT for a FORMAT (R143). -/
def vftCountOk (f n : Nat) : Bool :=
  if f = 0 then n = 0 else 1 ≤ n && n ≤ fmtMaxN f && (!isMx f || n % 32 = 0)

/-- SIZE, OP of a memory frame's ARG (R303). -/
def argSize (a : Nat) : Nat := bits a 15 12
def argOp (a : Nat) : Nat := bits a 11 8
def argAddr (a : Nat) : Nat := bits a 95 32
def argReqId (a : Nat) : Nat := bits a 31 16
def argFence (a : Nat) : Bool := bit a 7
def argNoComb (a : Nat) : Bool := bit a 6

/-- PAYLOAD_LEN that a type requires (R143, R294, R292, R304). -/
def vftLenOk (t f n a len : Nat) : Bool :=
  len ≤ 8192 &&
  (match t with
   | 3 => len = 16
   | 4 => len = 8
   | 0x10 => len = 0
   | 0x11 => len = 2 ^ argSize a
   | 0x12 => len = (if argOp a = 10 then 2 else 1) * 2 ^ argSize a
   | 0x13 => len = 0 || (argOp a = 0 && len = 2 ^ argSize a)
   | 0x14 => len = 4
   | _ => if f = 0 then true else len = fmtBytes f n)

/-- One's complement sum of 16-bit words. -/
def onesSum : List Byte → Nat
  | [] => 0
  | [a] => a.toNat * 256
  | a :: b :: r => a.toNat * 256 + b.toNat + onesSum r

/-- Folded complement: an Internet checksum. -/
def inetSum (l : List Byte) : Nat :=
  let n := onesSum l
  let f (x : Nat) := x % 65536 + x / 65536
  65535 - f (f (f n)) % 65536

/-- The UDP checksum of a routed frame with its IPv6 header at `ip` is right (R140): not 0, and the sum folds to 0. -/
def udpOk (b : List Byte) (ip : Nat) : Bool :=
  let len := beAt b (ip + 44) 2
  beAt b (ip + 46) 2 ≠ 0 &&
  inetSum (slice b (ip + 8) 32 ++ beBytes 4 len ++ beBytes 4 17 ++ slice b (ip + 40) len) = 0

/-- The first failing check of R144, none when the header is sound. `inter` says whether a coordinate names an enabled link;
`ip` is the IPv6 header's offset in routed form. -/
def vftReject (inter : Nat → Bool) (b : List Byte) (o : Nat) (ip : Option Nat) : Option Nat :=
  let t := vftType b o
  let f := vftFormat b o
  let n := vftCount b o
  let len := vftLen b o
  if byteAt b o / 16 ≠ 1 then some 1
  else if !vftTypeOk t then some 2
  else if !vftReservedOk b o then some 3
  else if vftTree b o = 3 then some 7
  else if !vftFormatOk t f then some 4
  else if !vftCountOk f n then some 5
  else if !vftLenOk t f n (vftArg b o) len || b.length < o + 32 + len + 4 then some 6
  else if vftIpc b o && !inter (vftInter b o) then some 8
  else match ip with
    | some i => if udpOk b i then none else some 9
    | none => none

/-- The FCS appended (R130), little-endian CRC-32 as Ethernet sends it. -/
def withFcs (body : List Byte) : List Byte := body ++ leBytes 4 (crc32 body)

/-- A frame's FCS is good. -/
def fcsOk (b : List Byte) : Bool := leAt b (b.length - 4) 4 = crc32 (b.take (b.length - 4))

/-- The 20 header bytes before ARG, and ARG (R141). -/
def vftHeader (last : Bool) (typ job tree fmt count chunk seq len arg : Nat) : List Byte :=
  beBytes 1 (0x10 + 4 * ofBool last) ++ beBytes 1 typ ++ beBytes 3 job ++ beBytes 1 (tree * 64 + fmt) ++ beBytes 2 count ++
  beBytes 4 chunk ++ beBytes 4 seq ++ beBytes 2 0 ++ beBytes 2 len ++ beBytes 12 arg

/-- The tag of a VLAN field of R279. -/
def vlanTag (v : Nat) : List Byte := if bit v 15 then beBytes 2 0x8100 ++ beBytes 2 (bits v 14 12 * 8192 + v % 4096) else []

/-- A native VFT frame (R140): padded to 64 bytes, FCS appended. -/
def nativeFrame (dst src vlan : Nat) (hdr payload : List Byte) : List Byte :=
  let body := beBytes 6 dst ++ beBytes 6 src ++ vlanTag vlan ++ beBytes 2 0x88B5 ++ hdr ++ payload
  withFcs (body ++ zeros (60 - body.length))

/-- MODULE_MAC: the identity objects' MAC (R160, R414), from the module configuration. -/
def State.moduleMac (s : State) : Nat := s.param 0x1000 4

/-- A coordinate names an enabled link (R144). -/
def State.interOk (s : State) (c : Nat) : Bool := s.enabledLinks.any (fun p => coordOf s.core.coords p = c)

/-- A VFT frame that arrived on fibre `f` is rejected with a code: counted, stored in LAST_VFT_REJECT, VFT_REJECT set (R144); code
18 sets STALE_FRAME (R453). -/
def State.vftRejected (s : State) (f code : Nat) : State :=
  let s := ((s.countFibre f 0x0A).countFibre f (0x0A + code)).setFlag (0x6440 + f) 5
  let s := s.modTables (fun t => { t with lastReject := t.lastReject.put 0 f code })
  s.setFlagIf (code = 18) 0x6121 6

/-- Offset of the VFT header of a frame that was recognised as VFT, native or routed, when it arrived (R140): the UDP port it was routed by
is its own (R155). -/
def vftOffset (b : List Byte) : Option Nat :=
  match vftNative b with
  | some o => some o
  | none => vftRouted (beAt b ((parseFrame b).off + 44) 2) b

end Sys2Proof.Machine
end

