-- ==== Sys2Proof/Machine/NibOps.lean ====
section
/-!
DEFINITION. Reduction rows (R233 to R239): blocks, eviction and return, the window and its full-width form, exact and FAST
terms, and the value of an element at completion.
-/

namespace Sys2Proof.Machine

/-- A flag of NIB_FLAGS. -/
def State.nibFlag (s : State) (n b : Nat) : State := s.setFlag (0x6560 + n) b

/-- Blocks a row takes in the spill region; four FAST rows share one (R237). -/
def Row.quarters (r : Row) : Nat := if r.fast then 1 else if r.wide then 12 else 4

/-- Blocks in use on a Nib: resident rows and scratch. -/
def Nib.usedBlocks (x : Nib) : List Nat :=
  ((x.rows.filter (fun r => !r.spilled)).flatMap (·.blocks)) ++
  x.ctxs.flatMap (fun e => (e.2.map (·.blocks)).getD [])

/-- The lowest `k` free blocks, none where fewer are free. -/
def Nib.freeBlocks (x : Nib) (k : Nat) : Option (List Nat) :=
  let used := x.usedBlocks
  let l := ((List.range 3072).filter (fun b => !(used.contains b))).take k
  if l.length = k then some l else none

/-- Scratch blocks held by all contexts (R256). -/
def Nib.scratchBlocks (x : Nib) : Nat := (x.ctxs.map (fun e => (e.2.map (·.blocks.length)).getD 0)).foldl (· + ·) 0

/-- Quarter blocks held in the spill region. -/
def Nib.spilledQuarters (x : Nib) : Nat := ((x.rows.filter (·.spilled)).map Row.quarters).foldl (· + ·) 0

/-- The row of a thread. -/
def Nib.rowOf (x : Nib) (th r : Nat) : Option Row := x.rows.find? (fun y => y.thread = th && y.row = r)

/-- Change the row of a thread. -/
def State.updRow (s : State) (n th r : Nat) (g : Row → Row) : State :=
  s.updNib n (fun x => { x with rows := x.rows.map (fun y => if y.thread = th && y.row = r then g y else y) })

/-- The resident row, other than one named, whose last contribution is oldest; ties go to the lower block (R237). -/
def Nib.victimRow (x : Nib) (th r : Nat) : Option Row :=
  minBy (fun y => y.last * 4096 + (y.blocks[0]?).getD 0)
    (x.rows.filter (fun y => !y.spilled && !(y.thread = th && y.row = r)))

/-- Evict a row to Inkwell; none where the spill region is full (R237). -/
def State.evictRow (s : State) (n : Nat) (w : RowCause) (y : Row) : Option State :=
  if (s.nib n).spilledQuarters + y.quarters ≤ 4 * s.spillBlocks then
    let s := ((s.updRow n y.thread y.row (fun z => { z with spilled := true, blocks := [] })).nibFlag n 5).countNib n 4 1
    some (s.sampleRow n w 4 ((y.blocks[0]?).getD 0))
  else none

/-- Obtain `k` free blocks, evicting rows other than (th, r) as needed. -/
def State.getBlocks (s : State) (n : Nat) (w : RowCause) (th r k : Nat) : Nat → Option (State × List Nat)
  | 0 => none
  | fuel + 1 =>
    match (s.nib n).freeBlocks k with
    | some l => some (s, l)
    | none =>
      match (s.nib n).victimRow th r with
      | none => none
      | some y => match s.evictRow n w y with
        | some s' => s'.getBlocks n w th r k fuel
        | none => none

/-- A block that FAST rows share with a quarter free, and the free quarter. -/
def Nib.fastQuarter (x : Nib) : Option (Nat × Nat) :=
  let fs := x.rows.filter (fun r => r.fast && !r.spilled)
  let bs := (fs.map (fun r => (r.blocks[0]?).getD 0)).eraseDups
  bs.findSome? (fun b => ((List.range 4).find? (fun q =>
    !(fs.any (fun r => r.blocks = [b] && r.quarter = q)))).map (fun q => (b, q)))

/-- A quarter block for a FAST row: of a block that FAST rows share, or of a free block; rows are evicted, oldest first, until there is one
(R237). -/
def State.getQuarter (s : State) (n : Nat) (w : RowCause) (th r : Nat) : Nat → Option (State × List Nat × Nat)
  | 0 => none
  | fuel + 1 =>
    match (s.nib n).fastQuarter, (s.nib n).freeBlocks 1 with
    | some (b, q), _ => some (s, [b], q)
    | none, some l => some (s, l, 0)
    | none, none =>
      match (s.nib n).victimRow th r with
      | none => none
      | some y => match s.evictRow n w y with
        | some s' => s'.getQuarter n w th r fuel
        | none => none

/-- Blocks for a row: its blocks and quarter. -/
def State.rowBlocks (s : State) (n : Nat) (w : RowCause) (y : Row) : Option (State × List Nat × Nat) :=
  if y.fast then s.getQuarter n w y.thread y.row 12400
  else (s.getBlocks n w y.thread y.row (if y.wide then 3 else 1) 12400).map (fun p => (p.1, p.2, 0))

/-- Bring a row to the SRAM, new or spilled; a return sets SPILL (R237). -/
def State.bringRow (s : State) (n : Nat) (w : RowCause) (y : Row) : Option State :=
  match (s.nib n).rowOf y.thread y.row with
  | some z =>
    if !z.spilled then some s
    else (s.rowBlocks n w z).map (fun p =>
      ((p.1.updRow n z.thread z.row (fun v => { v with spilled := false, blocks := p.2.1, quarter := p.2.2 })).nibFlag n 5).countNib n 5 1)
  | none => (s.rowBlocks n w y).map (fun p =>
      p.1.updNib n (fun x => { x with rows := x.rows ++ [{ y with blocks := p.2.1, quarter := p.2.2 }] }))

/-- A finite value in units of 2^−149; every term is such a multiple (R226). -/
def unitsOf (neg : Bool) (m : Nat) (e : Int) : Int :=
  let u := e + 149
  let v : Int := if 0 ≤ u then (m : Int) * 2 ^ u.toNat else (m : Int) / 2 ^ (-u).toNat
  if neg then -v else v

/-- The exponent of a magnitude's lowest set bit. -/
def lowExp : Nat → Nat → Int → Int
  | 0, _, e => e
  | n + 1, m, e => if m % 2 = 0 then lowExp n (m / 2) (e + 1) else e

/-- A term fits an element's window (R234). -/
def termFits (a : Int) (old : Int) : Num → Bool
  | .fin neg m e =>
    m = 0 || (a ≤ lowExp m.log2 m e && (old + unitsOf neg m e).natAbs < 2 ^ (a + 276).toNat)
  | _ => true

/-- Add a term to an exact element (R233, R235). -/
def Acc.addExact (x : Acc) : Num → Acc
  | .nan => { x with nan := true, nonneg := true, seen := true }
  | .inf neg => { x with posInf := x.posInf || !neg, negInf := x.negInf || neg, nonneg := true, seen := true }
  | .fin neg m e => { x with v := x.v + unitsOf neg m e, nonneg := x.nonneg || !(neg && m = 0), seen := true }

/-- Add a term to a FAST element (R239). -/
def Acc.addFast (x : Acc) (t : Num) : Acc :=
  match x.fast with
  | none => { x with fast := some t.patB32, seen := true }
  | some p => { x with fast := some ((decodeOne 1 p).add t.toB32).patB32, seen := true }

/-- The value of an element at completion (R231, R235); a FAST element's accumulator. -/
def Acc.value (x : Acc) : Num :=
  match x.fast with
  | some p => decodeOne 1 p
  | none =>
    if x.nan || (x.posInf && x.negInf) then .nan
    else if x.posInf then .inf false
    else if x.negInf then .inf true
    else if x.v = 0 then .fin (x.seen && !x.nonneg) 0 0
    else .fin (x.v < 0) x.v.natAbs (-149)

/-- Highest set bit of the largest non-zero term. -/
def topExp (ts : List (Nat × Num)) : Option Int :=
  let hs := ts.filterMap (fun t => match t.2 with
    | .fin _ m e => if m = 0 then none else some (hiExp m e)
    | _ => none)
  match hs with
  | [] => none
  | h :: r => some (r.foldl max h)

/-- Why terms were not added. -/
inductive RowErr where
  | spillFull
  | kind
deriving DecidableEq, Repr

/-- Move a resident row to full width (R234): 3 blocks. -/
def State.widen (s : State) (n : Nat) (w : RowCause) (th r : Nat) : Option State :=
  (s.getBlocks n w th r 2 12400).map (fun p =>
    let s := (p.1.updRow n th r (fun y => { y with wide := true, blocks := y.blocks ++ p.2 })).nibFlag n 4
    (s.countNib n 3 1).sampleRow n w 5 r)

/-- Add the terms of one frame, or of one ACC, to a row: lane and term (R233 to R239). -/
def State.addRow (s : State) (n : Nat) (w : RowCause) (y : Row) (ts : List (Nat × Num)) : Option State :=
  match s.bringRow n w y with
  | none => none
  | some s =>
    match (s.nib n).rowOf y.thread y.row with
    | none => none
    | some z =>
      let anchor := match z.anchor with
        | some a => some a
        | none => (topExp ts).map (· - 100)
      let fits := z.fast || z.wide || ts.all (fun t => termFits (anchor.getD 0) (z.acc.get {} t.1).v t.2)
      let s := s.updRow n z.thread z.row (fun v => { v with anchor := anchor })
      match (if fits then some s else s.widen n w z.thread z.row) with
      | none => none
      | some s =>
        let stamp := (s.nib n).frames
        some ((s.updRow n z.thread z.row (fun v =>
          { v with
            last := stamp, byRule := v.byRule && y.byRule
            acc := ts.foldl (fun a t => a.upd {} t.1 (fun x => if z.fast then x.addFast t.2 else x.addExact t.2)) v.acc
          })).countNib n 1 ts.length)

/-- Terms of elements `first` onwards, split by row: row, lanes and terms. -/
def splitRows (first : Nat) (vs : List Num) : List (Nat × List (Nat × Num)) :=
  let es := vs.zipIdx.map (fun (v, i) => (first + i, v))
  let rows := (es.map (fun e => e.1 / 128)).eraseDups
  rows.map (fun r => (r, (es.filter (fun e => e.1 / 128 = r)).map (fun e => (e.1 % 128, e.2))))

/-- The elements' rows are of the kind asked for (R228, code 41, code 28). -/
def State.rowsKindOk (s : State) (n th first count : Nat) (fast : Bool) : Bool :=
  (s.nib n).rows.all (fun y => !(y.thread = th && first ≤ y.row * 128 + 127 && y.row * 128 < first + count) || y.fast = fast)

/-- Add one frame's or ACC's terms to a chunk's rows: every row it opens takes its own anchor (R233). -/
def State.addTerms (s : State) (n th first : Nat) (vs : List Num) (fast byRule : Bool) (w : RowCause) : Except RowErr State :=
  if !s.rowsKindOk n th first vs.length fast then .error .kind
  else
    let s := s.updNib n (fun x => { x with frames := x.frames + 1 })
    let go := (splitRows first vs).foldl (fun (a : Option State) r =>
      match a with
      | none => none
      | some s => s.addRow n w { thread := th, row := r.1, fast := fast, byRule := byRule } r.2) (some s)
    match go with
    | some s => .ok s
    | none => .error .spillFull

/-- Free a thread's rows. -/
def State.freeRows (s : State) (n th : Nat) : State :=
  s.updNib n (fun x => { x with rows := x.rows.filter (fun y => y.thread ≠ th) })

/-- The values of a chunk's elements as rows hold them. An element that no term has reached: +0 in an exact row (log entry
17); in a FAST row its accumulator holds no value, so the value is free (log entry 2). -/
def State.elemValues (s : State) (n th first count : Nat) : List Num × State :=
  (List.range count).foldl (fun (acc : List Num × State) i =>
    let e := first + i
    match (s.nib n).rowOf th (e / 128) with
    | some y =>
      let a := y.acc.get {} (e % 128)
      if y.fast && a.fast.isNone then
        let (v, s) := acc.2.freeBelow (2 ^ 32)
        (acc.1 ++ [decodeOne 1 v], s)
      else (acc.1 ++ [a.value], acc.2)
    | none => (acc.1 ++ [.fin false 0 0], acc.2)) ([], s)

/-- MODE's fields (R228). -/
def modeRound (m : Nat) : Nat := m % 4
def modeSat (m : Nat) : Bool := bit m 2

/-- A mode is valid (R228). -/
def modeOk (m : Nat) : Bool := m < 8 && modeRound m ≠ 3

/-- Rows of a mode and an input format are FAST rows, after the integer rule (R228). -/
def fastRows (m fmt : Nat) : Bool := modeRound m = 2 && !isIntFmt fmt

/-- Conversion flags and counters (R230, R252, R375). -/
def State.convFlags (s : State) (n ovf invalid : Nat) : State :=
  let s := if ovf = 0 then s else (s.countNib n 13 ovf).nibFlag n 2
  if invalid = 0 then s else (s.countNib n 14 invalid).nibFlag n 3

/-- The dither of element i of a chunk under a mode (R238). -/
def ditherFor (mode seed chunk : Nat) (first i : Nat) : Option Nat :=
  if modeRound mode = 1 then some (dither seed chunk (first + i)) else none

end Sys2Proof.Machine
end

