-- ==== Sys2Proof/Machine/TableOps.lean ====
section
/-!
DEFINITION. The forwarding tables and their engine (R162 to R178): hashing and placement, the trie, next hops, VLAN
members, the staged operations and how each is applied, learning, expiry and repair.
-/

namespace Sys2Proof.Machine

/-- The engine's seconds counter modulo 65,536 (R162): the running time (log entry 15). -/
def State.seconds (s : State) : Nat := s.now / 10 ^ 12 % 65536

/-- Counters of a pipeline (R375, type 0x05). -/
def State.countPipe (s : State) (k sub : Nat) : State := s.countUnit 5 k sub

/-- TABLE_FLAGS. -/
def State.tableFlag (s : State) (b : Nat) : State := s.setFlag 0x6481 b

/-- The 160-bit key of a type, VID and value (R162). -/
def exactKey (typ vid value : Nat) : Nat := typ * 2 ^ 156 + vid * 2 ^ 144 + value

/-- Bucket of bank 0 and bank 1 (R165). -/
def bucket0 (key : Nat) : Nat := crc32c (beBytes 20 key) % 2 ^ 14
def bucket1 (seed key : Nat) : Nat :=
  (crc32Raw 0xEDB88320#32 (BitVec.ofNat 32 seed) (beBytes 20 key) ^^^ 0xFFFFFFFF#32).toNat % 2 ^ 14

/-- Locations of a bucket. -/
def bucketLocs (bank b : Nat) : List Nat := (List.range 4).map (fun e => bank * 65536 + b * 4 + e)

/-- The bucket of a key in a bank. -/
def State.keyBucket (s : State) (bank key : Nat) : List Nat :=
  if bank = 0 then bucketLocs 0 (bucket0 key) else bucketLocs 1 (bucket1 (s.param 0x21D0 1) key)

/-- The eight locations of a key, bank 0 first. -/
def State.keyLocs (s : State) (key : Nat) : List Nat := s.keyBucket 0 key ++ s.keyBucket 1 key

/-- The entry at a location. -/
def State.exactAt (s : State) (loc : Nat) : Option Exact := s.tables.exact.get none loc

/-- A location of a copy whose check bits fail. -/
def State.badAt (s : State) (copy table loc : Nat) : Bool := s.tables.bad.contains (copy, table, loc)

/-- Lookup in a copy (R165, R172): a location with a check-bit failure reads as a miss. -/
def State.lookupExact (s : State) (copy key : Nat) : Option (Nat × Exact) :=
  (s.keyLocs key).findSome? (fun l => match s.exactAt l with
    | some e => if e.key = key && !s.badAt copy 1 l then some (l, e) else none
    | none => none)

/-- Where the engine itself finds a key: any copy that reads good. -/
def State.findExact (s : State) (key : Nat) : Option (Nat × Exact) :=
  (s.keyLocs key).findSome? (fun l => match s.exactAt l with
    | some e => if e.key = key then some (l, e) else none
    | none => none)

/-- Write a location in all eight copies, with fresh check bits (R175). -/
def State.writeLoc (s : State) (table loc : Nat) : State :=
  s.modTables (fun t => { t with
    bad := t.bad.filter (fun b => !(b.2 = (table, loc))), repairs := t.repairs.filter (fun b => !(b.2 = (table, loc))) })

/-- A check-bit failure is seen by a lookup (R172): counted, PARITY set, and the location passed to the engine; it is an
uncorrected error of that part of the core die's SRAM (R324, log entry 174). -/
def State.parity (s : State) (copy table loc : Nat) : State :=
  let s := ((s.countPipe copy 14).tableFlag 0).sramEcc .uncorrected (unitId 5 copy)
  s.modTables (fun t => { t with repairs := if t.repairs.contains (copy, table, loc) then t.repairs else t.repairs ++ [(copy, table, loc)] })

/-- Store an exact-match entry. -/
def State.setExact (s : State) (loc : Nat) (e : Option Exact) : State :=
  (s.modTables (fun t => { t with exact := t.exact.put none loc e })).writeLoc 1 loc

/-- STATIC of a RESULT (R163). -/
def resultStatic (r : Nat) : Bool := bit r 61

/-- A location lost in all copies (R172), handled by its table; a trie location follows from the prefix list. The history records an
uncorrected error with the location in DETAIL, and beside it one with a free DETAIL for a STATIC entry: R172 states neither (DESIGN CHOICE, log
entry 163). -/
def State.lostLoc (s : State) (copy table loc : Nat) : State :=
  let s := ((s.countPipe copy 15).tableFlag 1).logEvent (unitId 5 copy) 2 1 (table * 2 ^ 20 + loc)
  let s := match table with
    | 1 =>
      let fixed : Bool := (s.exactAt loc).any (fun (e : Exact) => resultStatic e.result)
      (if fixed then (let (d, s) := s.free64; s.logEvent (unitId 5 copy) 2 1 d) else s).setExact loc none
    | 5 => s.modTables (fun t => { t with hops := t.hops.upd {} loc (fun h => { h with valid := false }) })
    | 6 => s.modTables (fun t => { t with vlan := t.vlan.put 0 loc 0 })
    | _ => s
  s.writeLoc table loc

/-- Repair a location of a copy (R172): the first of the other copies, in turn, that reads good is written back; `failing` names copies that
are found to fail now. -/
def State.repairLoc (s : State) (copy table loc : Nat) (failing : BitVec 8) : State :=
  let s := s.modTables (fun x => { x with repairs := x.repairs.filter (· ≠ (copy, table, loc)) })
  let good := (List.range 7).any (fun i =>
    let k := (copy + 1 + i) % 8
    !(failing.getLsbD k) && !(s.badAt k table loc))
  if good then s.modTables (fun x => { x with bad := x.bad.filter (· ≠ (copy, table, loc)) })
  else s.lostLoc copy table loc

/-- Repair the oldest location passed to the engine. -/
def State.repair (s : State) (failing : BitVec 8) : State :=
  match s.tables.repairs with
  | [] => s
  | (c, t, l) :: _ => s.repairLoc c t l failing

/-- A location's repairs that wait come before a write of it (R175). -/
def State.repairFirst (s : State) (table loc : Nat) : State :=
  s.forEach (s.tables.repairs.filter (fun r => r.2 = (table, loc))) (fun s r => s.repairLoc r.1 table loc 0)

/-- Write an exact-match entry. -/
def State.putExact (s : State) (loc : Nat) (e : Option Exact) : State := (s.repairFirst 1 loc).setExact loc e

/-- The 256-bit entry of R162. -/
def Exact.word (e : Exact) : Nat :=
  2 ^ 255 + ofBool e.learnt * 2 ^ 254 + e.stamp * 2 ^ 224 + e.result * 2 ^ 160 + e.key

/-- Step the engine's register (R166): the spec gives the step no rule, so the next value is free. -/
def State.stepLfsr (s : State) : State :=
  let (v, s) := s.freeBelow 65536
  s.modTables (fun t => { t with lfsr := v })

/-- A path with a location appended; a location met again cuts the loop between. -/
def pathAdd (path : List Nat) (loc : Nat) : List Nat := path.takeWhile (· ≠ loc) ++ [loc]

/-- The relocation search (R166): answers the path and the free location at its far end. -/
def relocate : Nat → Nat → List Nat → List Nat → State → Option (List Nat × Nat) × State
  | 0, _, _, _, s => (none, s)
  | n + 1, bank, locs, path, s =>
    let slot := s.tables.lfsr % 4
    let s := s.stepLfsr
    let loc := (locs[slot]?).getD 0
    match s.exactAt loc with
    | none => (some (path, loc), s)
    | some e =>
      let alt := s.keyBucket (1 - bank) e.key
      let path := pathAdd path loc
      match alt.find? (fun l => (s.exactAt l).isNone) with
      | some free => (some (path, free), s)
      | none => relocate n (1 - bank) alt path s

/-- Carry out a path from its far end back: each move writes the new position before it clears the old (R166). -/
def runPath (s : State) : List Nat → Nat → State
  | [], _ => s
  | loc :: r, free =>
    let s := runPath s r free
    let dst := (r[0]?).getD free
    (s.putExact dst (s.exactAt loc)).putExact loc none

/-- Why an operation failed (R176). -/
inductive TableErr where
  | full | noNode | notFound | exists_
deriving DecidableEq, Repr

/-- LAST_STATUS codes. -/
def TableErr.code : TableErr → Nat
  | .full => 1 | .noNode => 2 | .notFound => 3 | .exists_ => 4

/-- Evict an entry (R167): cleared, counted, logged, EVICTED set. -/
def State.evict (s : State) (pipe loc : Nat) : State :=
  match s.exactAt loc with
  | none => s
  | some e =>
    let s := s.putExact loc none
    let s := s.modTables (fun t => { t with evictLog := (e.word :: t.evictLog).take 64 })
    (s.countPipe pipe 11).tableFlag 2

/-- The entry that EVICT_POLICY gives up, of the key's two buckets (R167). -/
def State.victim (s : State) (key : Nat) : Option Nat × State :=
  let ls := (s.keyLocs key).filter (fun l => match s.exactAt l with
    | some e => !resultStatic e.result
    | none => false)
  let policy := s.param 0x21D0 2
  if policy = 0 || ls = [] then (none, s)
  else if policy = 1 then
    (ls[s.tables.lfsr % ls.length]?, s.stepLfsr)
  else
    let age (l : Nat) := match s.exactAt l with
      | some e => (s.seconds + 65536 - e.stamp) % 65536
      | none => 0
    (minBy (fun l => 65535 - age l) ls, s)

/-- Place a new key (R166, R167). -/
def State.insertExact (s : State) (pipe : Nat) (e : Exact) (noEvict : Bool) : Except TableErr State × State :=
  match (s.keyLocs e.key).find? (fun l => (s.exactAt l).isNone) with
  | some l => (.ok (s.putExact l (some e)), s)
  | none =>
    let (found, s) := relocate 32 0 (s.keyBucket 0 e.key) [] s
    match found with
    | some (path, free) =>
      let s' := runPath s path free
      (.ok (s'.putExact ((path[0]?).getD free) (some e)), s)
    | none =>
      if noEvict then (.error .full, s)
      else
        let (v, s) := s.victim e.key
        match v with
        | some l => (.ok ((s.evict pipe l).putExact l (some e)), s)
        | none => (.error .full, s)

/-- The first `len` bits of an address of a family (R170). -/
def prefixBits (v6 : Bool) (len addr : Nat) : Nat := addr / 2 ^ ((if v6 then 128 else 32) - len)

/-- A prefix covers `len` given bits. -/
def Prefix.coversBits (p : Prefix) (v6 : Bool) (len b : Nat) : Bool :=
  p.v6 = v6 && p.len ≤ len && p.addr = b / 2 ^ (len - p.len)

/-- The next hop that the prefix list gives for `len` bits: its longest covering prefix. -/
def bestPrefix (l : List Prefix) (v6 : Bool) (len b : Nat) : Option Nat :=
  (minBy (fun p => 128 - p.len) (l.filter (fun p => p.coversBits v6 len b))).map (·.hop)

/-- Paths of the nodes that a prefix needs (R170): one at 16 bits and every 8 bits further below its length. -/
def Prefix.needs (p : Prefix) : List NodePath :=
  ((List.range 7).map (fun i => 16 + 8 * i)).filterMap (fun k =>
    if k < p.len then some { v6 := p.v6, len := k, addr := p.addr / 2 ^ (p.len - k) } else none)

/-- The node at a path. -/
def TablesSt.nodeAt (t : TablesSt) (p : NodePath) : Option Nat :=
  (t.nodes.find? (fun e => e.2 = some p)).map (·.1)

/-- The 4-byte trie entry for a path: child, next hop, or miss (R170). -/
def TablesSt.trieEntry (t : TablesSt) (v6 : Bool) (len b : Nat) : Nat :=
  match t.nodeAt { v6 := v6, len := len, addr := b } with
  | some n => 2 * 2 ^ 30 + n
  | none => match bestPrefix t.prefixes v6 len b with
    | some h => 2 ^ 30 + h
    | none => 0

/-- The 4-byte entry at a trie location: TABLE code of R478 and location. -/
def TablesSt.trieAt (t : TablesSt) (table loc : Nat) : Nat :=
  match table with
  | 2 => t.trieEntry false 16 loc
  | 3 => t.trieEntry true 16 loc
  | _ => match t.nodes.get none (loc / 256) with
    | some p => t.trieEntry p.v6 (p.len + 8) (p.addr * 256 + loc % 256)
    | none => 0

/-- A change of the prefix list is written into the trie: the failing locations whose entry it changes are repaired first, then written afresh
(R170, R175). -/
def State.writeTrie (s : State) (g : TablesSt → TablesSt) : State :=
  let after := g s.tables
  let changed := ((s.tables.bad.map (·.2)).filter (fun x => 2 ≤ x.1 && x.1 ≤ 4 && s.tables.trieAt x.1 x.2 ≠ after.trieAt x.1 x.2)).eraseDups
  let s := s.forEach changed (fun s x => s.repairFirst x.1 x.2)
  (s.modTables g).forEach changed (fun s x => s.writeLoc x.1 x.2)

/-- Release nodes that no prefix needs. -/
def TablesSt.prune (t : TablesSt) : TablesSt :=
  let need := t.prefixes.flatMap Prefix.needs
  { t with nodes := t.nodes.filter (fun e => match e.2 with | some p => need.contains p | none => false) }

/-- Give nodes to paths, lowest free number first. -/
def TablesSt.giveNodes (t : TablesSt) : List NodePath → TablesSt
  | [] => t
  | p :: r =>
    let free := ((List.range 768).find? (fun n => (t.nodes.get none n).isNone)).getD 0
    ({ t with nodes := t.nodes.put none free (some p) } : TablesSt).giveNodes r

/-- Add or replace a prefix (R170): it fails whole with NO_NODE. -/
def State.addPrefix (s : State) (p : Prefix) : Except TableErr State :=
  let t := s.tables
  let same (x : Prefix) := x.v6 = p.v6 && x.len = p.len && x.addr = p.addr
  if s.mem.ink = 0 then .error .noNode
  else if t.prefixes.any same then
    .ok (s.writeTrie (fun t => { t with prefixes := t.prefixes.map (fun x => if same x then p else x) }))
  else
    let missing := p.needs.filter (fun n => (t.nodeAt n).isNone)
    if 262144 ≤ t.prefixes.length || 768 < t.nodes.length + missing.length then .error .noNode
    else .ok (s.writeTrie (fun t => ({ t with prefixes := t.prefixes ++ [p] } : TablesSt).giveNodes missing))

/-- Delete a prefix (R170). -/
def State.deletePrefix (s : State) (v6 : Bool) (len addr : Nat) : Except TableErr State :=
  let same (x : Prefix) := x.v6 = v6 && x.len = len && x.addr = addr
  if s.tables.prefixes.any same then
    .ok (s.writeTrie (fun t => ({ t with prefixes := t.prefixes.filter (fun x => !same x) } : TablesSt).prune))
  else .error .notFound

/-- Trie locations: root index, or node × 256 + entry, with the TABLE code of R478. -/
def trieLoc (v6 : Bool) (node : Option Nat) (i : Nat) : Nat × Nat :=
  match node with
  | none => (if v6 then 3 else 2, i)
  | some n => (4, n * 256 + i)

/-- The trie walk of a copy (R170, R172): next hop or miss. -/
def trieWalk (s : State) (copy : Nat) (v6 : Bool) (addr : Nat) : Nat → Option Nat → Nat → Option Nat
  | 0, _, _ => none
  | n + 1, node, len =>
    let b := prefixBits v6 len addr
    let i := match node with | none => b | some _ => b % 256
    let (tab, loc) := trieLoc v6 node i
    if s.badAt copy tab loc then none
    else
      let e := s.tables.trieEntry v6 len b
      if bits e 31 30 = 1 then some (e % 2 ^ 30)
      else if bits e 31 30 = 2 then trieWalk s copy v6 addr n (some (e % 2 ^ 30)) (len + 8)
      else none

/-- Longest-prefix lookup. -/
def State.lookupTrie (s : State) (copy : Nat) (v6 : Bool) (addr : Nat) : Option Nat := trieWalk s copy v6 addr 7 none 16

/-- Byte k of a 512-bit operation in storage order. -/
def opByte (v k : Nat) : Nat := v / 256 ^ k % 256

/-- Bytes `a` to `a + n − 1`, little-endian. -/
def opField (v a n : Nat) : Nat := v / 256 ^ a % 256 ^ n

/-- Bytes `a` to `a + n − 1`, first byte most significant. -/
def opBe (v a n : Nat) : Nat := beNat (leBytes n (opField v a n))

/-- RESULT of an operation is valid (R163). -/
def resultOk (r : Nat) : Bool :=
  bits r 59 13 = 0 &&
  (match bits r 63 62 with
   | 0 => bits r 12 0 ≤ 1023
   | 1 => true
   | _ => bits r 12 0 = 0)

/-- KEY of an operation is valid (R162). -/
def keyOk (k : Nat) : Bool :=
  match bits k 159 156 with
  | 1 => 1 ≤ bits k 155 144 && bits k 155 144 ≤ 4094 && bits k 143 48 = 0
  | 2 => bits k 155 144 = 0 && bits k 143 32 = 0
  | 3 => bits k 155 144 = 0 && bits k 143 128 = 0
  | _ => false

/-- A staged operation's field rules (R173, R171). -/
def opOk (v : Nat) : Bool :=
  let fam := opByte v 3
  let noTail := opField v 32 32 = 0
  match opByte v 0 with
  | 1 => opByte v 1 ≤ 1 && opByte v 2 = 0 && fam = 0 && resultOk (opField v 4 8) && keyOk (opField v 12 20) && noTail
  | 2 => opField v 1 11 = 0 && keyOk (opField v 12 20) && noTail
  | 3 => opField v 1 3 = 0 && resultOk (opField v 4 8) && keyOk (opField v 12 20) && noTail
  | 4 => opByte v 1 = 0 && ((fam = 4 && opByte v 2 ≤ 32 && opField v 16 16 = 0) ||
      (fam = 6 && opByte v 2 ≤ 64 && opField v 28 4 = 0)) && opField v 4 2 ≤ 8191 && opField v 6 6 = 0 && noTail
  | 5 => opByte v 1 = 0 && ((fam = 4 && opByte v 2 ≤ 32 && opField v 16 16 = 0) ||
      (fam = 6 && opByte v 2 ≤ 64 && opField v 28 4 = 0)) && opField v 4 8 = 0 && noTail
  | 6 => opField v 1 3 = 0 && opField v 4 2 ≤ 8191 && opField v 6 26 = 0 && opByte v 42 ≤ 3 && opField v 43 21 = 0 &&
      (opByte v 42 % 2 = 0 || (opField v 38 2 ≤ 1023 && 1 ≤ opField v 40 2 && opField v 40 2 ≤ 4094))
  | 7 => opByte v 1 = 0 && opByte v 2 = 0 && fam ≤ 3 && 1 ≤ opField v 4 2 && opField v 4 2 ≤ 4094 && opField v 6 26 = 0
  | _ => false

/-- The prefix that an OP 4 or OP 5 names; address bits beyond PREFIX_LEN do not enter (log entry 16). -/
def opPrefix (v : Nat) : Prefix :=
  let v6 := opByte v 3 = 6
  let addr := if v6 then opBe v 12 16 else opBe v 12 4
  { v6 := v6, len := opByte v 2, addr := prefixBits v6 (opByte v 2) addr, hop := opField v 4 2 }

/-- Every location of a key with its waiting repairs done (R175). -/
def State.repairKey (s : State) (key : Nat) : State := s.forEach (s.keyLocs key) (fun s l => s.repairFirst 1 l)

/-- OP 1 (R166, R175). -/
def State.opInsert (s : State) (v : Nat) : Except TableErr State × State :=
  let key := opField v 12 20
  let s := s.repairKey key
  let e : Exact := { learnt := false, stamp := s.seconds, result := opField v 4 8, key := key }
  match s.findExact key with
  | some (l, old) => if old.learnt then (.ok (s.putExact l (some e)), s) else (.error .exists_, s)
  | none => s.insertExact 0 e (opByte v 1 = 1)

/-- OP 2 (R173). -/
def State.opDelete (s : State) (v : Nat) : Except TableErr State × State :=
  let s := s.repairKey (opField v 12 20)
  match s.findExact (opField v 12 20) with
  | some (l, _) => (.ok (s.putExact l none), s)
  | none => (.error .notFound, s)

/-- OP 3 (R173). -/
def State.opModify (s : State) (v : Nat) : Except TableErr State × State :=
  let s := s.repairKey (opField v 12 20)
  match s.findExact (opField v 12 20) with
  | some (l, e) => (.ok (s.putExact l (some { e with result := opField v 4 8, stamp := s.seconds })), s)
  | none => (.error .notFound, s)

/-- OP 6 (R171). -/
def State.opNextHop (s : State) (v : Nat) : Except TableErr State × State :=
  let i := opField v 4 2
  let h : NextHop :=
    { mac := opBe v 32 6, port := opField v 38 2, vid := opField v 40 2, valid := bit (opByte v 42) 0
      tagged := bit (opByte v 42) 1 }
  (.ok (((s.repairFirst 5 i).modTables (fun t => { t with hops := t.hops.put {} i h })).writeLoc 5 i), s)

/-- OP 7 (R173): a quarter of a VID's member set. -/
def State.opVlan (s : State) (v : Nat) : Except TableErr State × State :=
  let vid := opField v 4 2
  let q := opByte v 3
  let s := s.repairFirst 6 vid
  let old := s.tables.vlan.get 0 vid
  let new_ := old - bits old (256 * q + 255) (256 * q) * 2 ^ (256 * q) + opField v 32 32 * 2 ^ (256 * q)
  (.ok ((s.modTables (fun t => { t with vlan := t.vlan.put 0 vid new_ })).writeLoc 6 vid), s)

/-- The next operation of the batch, when its OP is `op`. -/
def State.nextOp (s : State) (op : Nat) : Option Nat :=
  match s.tables.batch with
  | some b => match b.ops[b.at_]? with
    | some v => if opByte v 0 = op then some v else none
    | none => none
  | none => none

/-- How an operation of the batch ended (R175, R176): the batch goes on, or ends whole, or at the failed operation. -/
def State.opEnded (r : Except TableErr State × State) : State :=
  match r.1 with
  | .ok s =>
    s.modTables (fun t => match t.batch with
      | some b => if b.at_ + 1 < b.ops.length then { t with batch := some { b with at_ := b.at_ + 1 } }
          else { t with batch := none, lastStatus := 0, failedOp := 0 }
      | none => t)
  | .error e =>
    r.2.modTables (fun t => { t with batch := none, lastStatus := e.code, failedOp := (t.batch.map (·.at_)).getD 0 })

/-- TABLE_CMD (R174). -/
def tableCommand (s : State) (v : Nat) : Except DopStatus State :=
  let cmd := bits v 31 24
  let count := bits v 21 16
  let tag := bits v 15 0
  if !((cmd = 1 && 1 ≤ count && count ≤ 32) || (cmd = 2 && count = 0)) || bits v 23 22 ≠ 0 then .error .range
  else if s.tables.batch.isSome then .error .state
  else if cmd = 2 then .ok (s.modTables (fun t => { t with stage := [], lastTag := tag }))
  else
    let ops := (List.range count).map (fun k => s.tables.stage.get 0 k)
    if !(ops.all opOk) then .error .range
    else .ok (s.modTables (fun t => { t with batch := some { ops := ops, tag := tag }, lastTag := tag }))

/-- A RESULT names a link (R163). -/
def resultLink (r p : Nat) : Bool := bits r 63 62 = 0 && bits r 12 0 = p

/-- Learnt entries of a link. -/
def State.learntOn (s : State) (p : Nat) : Nat :=
  (s.tables.exact.filter (fun e => match e.2 with
    | some x => x.learnt && resultLink x.result p
    | none => false)).length

/-- Apply a learn, refresh or move request (R168, R175): a STATIC entry is never moved (R163). -/
def State.applyLearn (s : State) (q : LearnReq) : State :=
  match s.findExact q.key with
  | some (l, e) =>
    if resultLink e.result q.link then
      (if e.stamp = s.seconds then s else s.putExact l (some { e with stamp := s.seconds }))
    else if resultStatic e.result then (s.countPipe (q.link / 128) 13).tableFlag 6
    else if e.learnt then
      ((s.putExact l (some { e with result := q.link, stamp := s.seconds })).countPipe (q.link / 128) 12).tableFlag 5
    else s
  | none =>
    match q.kind with
    | .learn =>
      match s.insertExact (q.link / 128) { learnt := true, stamp := s.seconds, result := q.link, key := q.key } false with
      | (.ok s', _) => s'
      | (.error _, s') => s'
    | _ => s

/-- The once-a-second scan (R168): LEARNT entries of AGE_S or more seconds are deleted; one with a refresh waiting is kept
(R175), and so is a STATIC one (R163). Check bits are read on the way (R336). -/
def State.ageScan (s : State) : State :=
  let age := s.param 0x21D0 3
  let old := s.tables.exact.filterMap (fun e => match e.2 with
    | some x =>
      if x.learnt && !(resultStatic x.result) && age ≠ 0 && age ≤ (s.seconds + 65536 - x.stamp) % 65536 &&
        !(s.tables.learn.any (fun q => q.key = x.key)) then some e.1 else none
    | none => none)
  let s := old.foldl (fun s l => s.putExact l none) s
  s.modTables (fun t => { t with repairs := t.repairs ++ t.bad.filter (fun b => !(t.repairs.contains b)) })

/-- TABLE_SELECT's field rules (R478); reserved bits are ignored (R5). -/
def tableSelectOk (v : Nat) : Bool :=
  let loc := bits v 17 0
  loc ≠ 262143 &&
  (match bits v 63 60 with
   | 0 => true | 1 => loc ≤ 131071 | 2 => loc ≤ 65535 | 3 => loc ≤ 65535 | 4 => loc ≤ 196607 | 5 => loc ≤ 8191
   | 6 => 1 ≤ loc && loc ≤ 4094
   | _ => false)

/-- A next hop's 32 bytes. -/
def NextHop.bytes (h : NextHop) : List Byte :=
  beBytes 6 h.mac ++ leBytes 2 h.port ++ leBytes 2 h.vid ++ leBytes 1 (ofBool h.valid + 2 * ofBool h.tagged) ++ zeros 21

/-- TABLE_ENTRY for a TABLE_SELECT (R478): 128 bytes, as the named copy stores them. What a location stores whose check bits fail there is a
free value (log entry 164). -/
def State.tableEntry (s : State) (v : Nat) : List Byte :=
  let loc := bits v 17 0
  let t := s.tables
  let tab := bits v 63 60
  let good := match tab with
    | 1 => leBytes 32 (((t.exact.get none loc).map Exact.word).getD 0)
    | 5 => (t.hops.get {} loc).bytes
    | 6 => leBytes 128 (t.vlan.get 0 loc)
    | _ => if 2 ≤ tab && tab ≤ 4 then leBytes 4 (t.trieAt tab loc) else []
  padTo 128 (if s.badAt (bits v 58 56) tab loc then (List.range good.length).map (Config.freeMem s.freeCount) else good)

end Sys2Proof.Machine
end

