-- ==== Sys2Proof/Machine/CollOps.lean ====
section
/-!
DEFINITION. Collective operations (R278 to R299): the collective record, checks of a range descriptor, registration, steering,
intake of frames into chunk-threads, completion, failure, and Tally.
-/

namespace Sys2Proof.Machine

/-- A destination set (R279). -/
structure DestSet where
  mac : Nat
  vlan : Nat
  kind : Nat
  value : Nat
deriving DecidableEq, Repr

/-- Set k of a collective record. -/
def recSet (r : List Byte) (k : Nat) : DestSet :=
  let o := 64 + 16 * k
  { mac := beAt r o 6, vlan := leAt r (o + 6) 2, kind := byteAt r (o + 8), value := leAt r (o + 10) 2 }

/-- A VLAN field (R279): tagged with VID 1 to 4094, or 0. -/
def vlanFieldOk (v : Nat) : Bool := if bit v 15 then 1 ≤ v % 4096 && v % 4096 ≤ 4094 else v = 0

/-- A set obeys R279. -/
def setValid (r : List Byte) (k : Nat) : Bool :=
  let o := 64 + 16 * k
  let x := recSet r k
  x.kind = 0 ||
  (vlanFieldOk x.vlan && x.kind ≤ 4 && byteAt r (o + 9) = 0 && leAt r (o + 12) 4 = 0 &&
   (match x.kind with
    | 1 => x.value ≤ 1023
    | 4 => 1 ≤ x.value && x.value ≤ 4094
    | _ => x.value ≤ 31))

/-- Fields of the collective record (R278). -/
def recSeed (r : List Byte) : Nat := leAt r 0 8
def recSemBase (r : List Byte) : Nat := leAt r 8 2
def recSemCount (r : List Byte) : Nat := leAt r 10 2
def recTimeout (r : List Byte) : Nat := leAt r 12 4
def recFast (r : List Byte) : Bool := bit (byteAt r 16) 0

/-- A collective record obeys R278, but for the windows of other jobs. -/
def recValid (r : List Byte) : Bool :=
  r.length = 256 && recSemBase r ≤ 65534 && 1 ≤ recSemCount r && recSemBase r + recSemCount r ≤ 65536 &&
  100 ≤ recTimeout r && recTimeout r ≤ 10000000 && byteAt r 16 < 2 && leAt r 17 47 = 0 &&
  (List.range 12).all (setValid r)

/-- The collective record of a job. -/
def State.collRec (s : State) (j : Nat) : List Byte := (s.slot (jobSlot j)).record.coll

/-- The job is a shadow job (R470). -/
def State.shadowJob (s : State) (j : Nat) : Bool := (s.slot (jobSlot j)).shadow

/-- A change of the collective state. -/
def State.modColl (s : State) (g : CollSt → CollSt) : State := { s with coll := g s.coll }

/-! ### Tally -/

/-- Value of a semaphore. -/
def State.sem (s : State) (i : Nat) : Nat := s.coll.tally.get 0 i

/-- Mark the waits that a value of a semaphore meets (R268, R296). -/
def State.markWaits (s : State) (i v : Nat) : State :=
  let s := s.modColl (fun c => { c with waits := c.waits.map (fun w => if w.index = i && w.value ≤ v then { w with met := true } else w) })
  { s with nibs := s.nibs.map (fun e => (e.1, { e.2 with ctxs := e.2.ctxs.map (fun x => (x.1, x.2.map (fun k =>
      { k with swait := k.swait.map (fun w => if w.index = i && w.value ≤ v then { w with met := true } else w) }))) })) }

/-- Give a semaphore a value, as one point of the serial order (R295). -/
def State.setSem (s : State) (i v : Nat) : State :=
  ((s.modColl (fun c => { c with tally := c.tally.put 0 i v })).markWaits i v)

/-- Add to a semaphore; none above 0xFFFF_FFFF (R295). -/
def State.semAdd (s : State) (i n : Nat) : Option State :=
  if s.sem i + n ≤ 0xFFFFFFFF then some ((s.setSem i (s.sem i + n)).countCp 14) else none

/-- Subtract from a semaphore; none below 0. -/
def State.semSub (s : State) (i n : Nat) : Option State :=
  if n ≤ s.sem i then some ((s.setSem i (s.sem i - n)).countCp 14) else none

/-- A range's signal on a window index: dropped and counted where it would overflow (R295). -/
def State.semSignal (s : State) (j index : Nat) : State :=
  if index = 0xFFFF then s
  else match s.semAdd (recSemBase (s.collRec j) + index) 1 with
    | some s' => s'
    | none => (s.countCp 15).setFlag 0x65C1 5

/-! ### Ranges -/

/-- Opcodes of R280. -/
def Range.isReduce (r : Range) : Bool := r.op = 0x20
def Range.isProgram (r : Range) : Bool := r.op = 0x21
def Range.isCounts (r : Range) : Bool := r.op = 0x22

/-- Fields of CONTROL (R281). -/
def Range.mode (r : Range) : Nat := r.control % 16
def Range.tree (r : Range) : Nat := bits r.control 5 4
def Range.prompt (r : Range) : Bool := bit r.control 6

/-- Elements of a chunk. -/
def Range.elemsOf (r : Range) (k : Nat) : Nat := if k + 1 = r.count then r.lastElems else r.elems

/-- The ordinal that a chunk number has in the range (R284). -/
def Range.ordinal (r : Range) (c : Nat) : Option Nat :=
  let d := (c + 2 ^ 32 - r.base) % 2 ^ 32
  if r.step ≠ 0 && d % r.step = 0 && d / r.step < r.count then some (d / r.step) else none

/-- Index k of SETS (R281). -/
def Range.setIdx (r : Range) (k : Nat) : Nat := bits r.sets (4 * k + 3) (4 * k)

/-- Invocation sets that are named. -/
def Range.named (r : Range) : List Nat := (List.range 4).filter (fun k => r.setIdx k ≠ 15)

/-- Blocks reserved for a chunk of so many elements (R290). -/
def Range.blocksFor (r : Range) (elems : Nat) : Nat :=
  let rows := ceilDiv elems 128
  if r.isCounts then 1
  else if r.isReduce && fastRows r.mode r.fmtIn then ceilDiv rows 4
  else 3 * rows

/-- Ordinals below `n` that fall on place `i` of `p` Nibs. -/
def ordinalsOn (n p i slot : Nat) : Nat :=
  let first := (i + p - slot % p) % p
  if first < n then (n - 1 - first) / p + 1 else 0

/-- Blocks that a range reserves on Nib `n` when no chunk has ended. -/
def Range.needOn (r : Range) (n : Nat) : Nat :=
  let b := maskBits r.mask
  match b.idxOf? n with
  | none => 0
  | some i =>
    let total := ordinalsOn r.count b.length i (jobSlot r.job) * r.blocksFor r.elems
    if r.nibOf (r.count - 1) = n then total - r.blocksFor r.elems + r.blocksFor r.lastElems else total

/-- Threads of a range that have ended. -/
def Thread.ended (t : Thread) : Bool := t.state = .done || t.state = .failed

/-- Blocks reserved on Nib `n` (R290). -/
def State.reservedOn (s : State) (n : Nat) : Nat :=
  s.coll.ranges.foldl (fun a e => match e.2 with
    | none => a
    | some r =>
      let gone := s.coll.threads.foldl (fun g t =>
        if t.1 / 2 ^ 22 = e.1 && t.2.ended && r.nibOf (ordinalOf t.1) = n then g + r.blocksFor (r.elemsOf (ordinalOf t.1)) else g) 0
      a + (r.needOn n - gone)) 0

/-- A Nib's budget (R290). -/
def State.nibBudget (s : State) : Nat := 3072 + s.spillBlocks - s.param 0x2301 1

/-- Live chunk-threads, and live ranges (R300). -/
def State.liveThreads (s : State) : Nat :=
  s.coll.ranges.foldl (fun a e => a + ((e.2.map (fun r => r.count - r.ended)).getD 0)) 0
def State.liveRanges (s : State) : Nat := s.coll.ranges.length

/-- Live ranges of a job. -/
def State.jobRanges (s : State) (j : Nat) : List (Nat × Range) :=
  s.coll.ranges.filterMap (fun e => e.2.bind (fun r => if r.job = j then some (e.1, r) else none))

/-- A range could fit with nothing else reserved (R290); with no Inkwell stack none can (R328). -/
def State.canEverFit (s : State) (r : Range) : Bool :=
  s.stacks ≠ 0 && (List.range 32).all (fun n => r.needOn n ≤ s.nibBudget)

/-- A range fits now (R290). -/
def State.fitsNow (s : State) (r : Range) : Bool :=
  s.stacks ≠ 0 && s.liveThreads + r.count ≤ 4194304 && s.liveRanges < 16384 && (s.jobRanges r.job).length < 16 &&
  (List.range 32).all (fun n => r.needOn n = 0 || s.reservedOn n + r.needOn n ≤ s.nibBudget)

/-- Two ranges share a chunk number (R282). -/
def Range.overlaps (a b : Range) : Bool := (List.range a.count).any (fun k => (b.ordinal (a.chunk k)).isSome)

/-- A range overlaps a live range of its job. -/
def State.rangeOverlaps (s : State) (r : Range) : Bool := (s.jobRanges r.job).any (fun x => r.overlaps x.2)

/-- A Nib has failed (STATE 3, R251). -/
def State.nibFailed (s : State) (n : Nat) : Bool := (s.unit (unitId 0x0A n)).state = 3

/-- Pages of a program. -/
def imagePages (b : List Byte) : Nat := ceilDiv (leAt b 12 2) 64

/-- The library image at a position. -/
def State.program (s : State) (p : Nat) : Option (List Byte) :=
  let b := s.progs.library.get [] p
  if b = [] then none else some b

/-- Header fields of a program image (R258). -/
def progInstrs (b : List Byte) : Nat := leAt b 12 2
def progBlocks (b : List Byte) : Nat := leAt b 14 2
def progConst (b : List Byte) : Nat := leAt b 16 4
def progSems (b : List Byte) : Nat := leAt b 20 2
def progParams (b : List Byte) : Nat := byteAt b 22
def progPrompt (b : List Byte) : Bool := bit (byteAt b 7) 0

/-- The invocation checks of R270 that apply to a program at a descriptor (codes 16, 18, 19, 20). -/
def State.programCheck (s : State) (r : Range) : Option Nat :=
  match s.program r.program with
  | none => some 16
  | some b =>
    if recSemCount (s.collRec r.job) < progSems b then some 18
    else if r.params.length < progParams b then some 19
    else if progPrompt b && !r.prompt then some 20
    else none

/-- The range a descriptor's body describes (R281). -/
def rangeOfBody (job op : Nat) (b : List Byte) (ring desc : Nat) (params : List Nat) : Range :=
  { job := job, op := op, base := leAt b 16 4, count := leAt b 20 4, elems := leAt b 24 4, lastElems := leAt b 28 4
    members := leAt b 32 4 % 2 ^ 24, step := leAt b 36 2, fmtIn := byteAt b 38, fmtOut := byteAt b 39, control := byteAt b 40
    program := byteAt b 41, sets := leAt b 42 2, mask := leAt b 44 4, chunkSem := leAt b 48 2, rangeSem := leAt b 50 2
    lastRounds := byteAt b 53, params := params, ring := ring, desc := desc }

/-- Field checks of a range descriptor in byte order (R281, R282): a status, none when every field passes. -/
def State.rangeFieldCheck (s : State) (r : Range) (b : List Byte) : Option Nat :=
  let rec_ := s.collRec r.job
  let mx := isMx r.fmtIn || isMx r.fmtOut
  let nibbles := (List.range 4).map r.setIdx
  if r.count = 0 || 4194304 < r.count then some 1
  else if (if r.isCounts then r.elems ≠ 0
      else r.elems = 0 || 65536 < r.elems || (mx && r.elems % 32 ≠ 0) || (r.prompt && 8192 < r.elems)) then some 1
  else if (if r.isCounts then r.lastElems ≠ 0
      else r.lastElems = 0 || r.elems < r.lastElems || (mx && r.lastElems % 32 ≠ 0)) then some 1
  else if leAt b 35 1 ≠ 0 || r.members = 0 || (r.isCounts && 65535 < r.members) then some 1
  else if r.step = 0 then some 1
  else if (if r.isReduce then r.fmtIn = 0 || 12 < r.fmtIn else if r.isProgram then 12 < r.fmtIn else r.fmtIn ≠ 0) then some 1
  else if (if r.isReduce then r.fmtOut = 0 || 12 < r.fmtOut else r.fmtOut ≠ 0) then some 1
  else if !modeOk r.mode || (r.isCounts && r.mode ≠ 0) || r.tree = 3 || bit r.control 7 then some 1
  else if fastRows r.mode r.fmtIn && (s.param 0x2300 3 = 0 || !recFast rec_) then some 5
  else if !r.isProgram && r.program ≠ 0 then some 1
  else if nibbles.any (fun k => 12 ≤ k && k ≤ 14) then some 1
  else if nibbles.any (fun k => k < 12 && (recSet rec_ k).kind = 0) || (!r.isProgram && r.setIdx 0 = 15) then some 2
  else if r.mask = 0 || (if r.prompt then r.mask % 2 ^ 28 ≠ 0 else 2 ^ 28 ≤ r.mask) then some 1
  else if (maskBits r.mask).any s.nibFailed then some 4
  else if r.chunkSem ≠ 0xFFFF && recSemCount rec_ ≤ r.chunkSem then some 3
  else if r.rangeSem ≠ 0xFFFF && recSemCount rec_ ≤ r.rangeSem then some 3
  else if (if r.isProgram then 8 < byteAt b 52 else byteAt b 52 ≠ 0) then some 1
  else if !r.isProgram && r.lastRounds ≠ 0 then some 1
  else if leAt b 54 10 ≠ 0 then some 1
  else none

/-- Every check of R282 before registration: a status. -/
def State.rangeCheck (s : State) (r : Range) (b : List Byte) : Option Nat :=
  match s.rangeFieldCheck r b with
  | some e => some e
  | none =>
    if s.rangeOverlaps r then some 6
    else if r.isProgram && (s.programCheck r).isSome then some 8
    else if !s.canEverFit r then some 7
    else none

/-- Register a range (R290): its chunk-threads become RESERVED. -/
def State.registerRange (s : State) (r : Range) : State :=
  s.modColl (fun c => { c with ranges := c.ranges.put none c.nextRange (some r), nextRange := c.nextRange + 1 })

/-! ### Chunk results -/

/-- The set and the result elements of a frame of a thread, or of its contexts, that waits for admission. -/
def Origin.ofThread (n th : Nat) (cs : List Nat) : Origin → Option (Nat × Nat)
  | .chunk _ t k e => if t = th then some (k, e) else Option.none
  | .emit m c _ k e => if m = n && cs.contains c then some (k, e) else Option.none
  | _ => Option.none

/-- The frames of a failed thread that wait for admission are not sent (R289), and do not count as sent (R292). -/
def State.dropChunkOffers (s : State) (n th : Nat) (cs : List Nat) : State :=
  let gone := s.core.offers.filterMap (fun o => o.origin.ofThread n th cs)
  let s := s.modCore (fun c => { c with offers := c.offers.filter (fun o => (o.origin.ofThread n th cs).isNone) })
  s.updThread th (fun t =>
    { t with sent := gone.foldl (fun m x => if x.2 = 0 then m else
        m.upd {} x.1 (fun y => { y with frames := y.frames - 1, elems := y.elems - x.2 })) t.sent })

/-- The destination of a set (R279, R189). -/
def DestSet.dest (x : DestSet) : Dest :=
  match x.kind with
  | 1 => .port x.value
  | 2 => .multi 1 x.value none
  | 3 => .multi 2 x.value none
  | _ => .multi 3 x.value none

/-- The set that invocation set k of a range names. -/
def State.rangeSet (s : State) (r : Range) (k : Nat) : DestSet := recSet (s.collRec r.job) (r.setIdx k)

/-- Offer one frame of a chunk to a set (R279): a native VFT frame of TC1 from MODULE_MAC. -/
def State.sendToSet (s : State) (r : Range) (k src : Nat) (hdr payload : List Byte) (org : Origin) : State :=
  let x := s.rangeSet r k
  s.offer { src := src, tc := 1, dst := x.dest, bytes := nativeFrame x.mac s.moduleMac x.vlan hdr payload, origin := org, start := s.now }

/-- DIGEST of R292 over result payload bytes. -/
def chunkDigest (b : List Byte) : Nat := crc32c b * 2 ^ 32 + crc32 b

/-- A result frame of a chunk to invocation set k (R287): recorded, and sent unless the job is a shadow (R470). -/
def State.resultFrame (s : State) (n th : Nat) (r : Range) (k fmt first count : Nat) (last : Bool) (payload : List Byte) : State :=
  let s := s.updThread th (fun t =>
    { t with sent := t.sent.upd {} k (fun x =>
        { frames := x.frames + 1, elems := x.elems + count, payload := x.payload ++ payload }) })
  if s.shadowJob r.job then s
  else
    let s := s.updThread th (fun t => { t with waiting := t.waiting + 1 })
    s.sendToSet r k (128 + n) (vftHeader last 2 r.job r.tree fmt count (r.chunk (ordinalOf th)) first payload.length 0) payload
      (.chunk n th k count)

/-- A CHUNK_DONE frame to invocation set k (R292). -/
def State.doneFrame (s : State) (src th : Nat) (r : Range) (k status cause detail : Nat) (org : Origin) : State :=
  let x := (s.thread th).sent.get {} k
  let digest := if status = 0 then chunkDigest x.payload else 0
  let payload := beBytes 1 status ++ beBytes 1 cause ++ beBytes 1 detail ++ zeros 1 ++ beBytes 4 x.elems ++ beBytes 8 digest
  let s := if org = .none then s else s.updThread th (fun t => { t with waiting := t.waiting + 1 })
  s.sendToSet r k src (vftHeader true 3 r.job r.tree 0 0 (r.chunk (ordinalOf th)) x.frames 16 0) payload org

/-- CHUNK_DONE with STATUS 0 to every named set (R287). -/
def State.sendDone (s : State) (n th : Nat) (r : Range) : State :=
  let s := s.updThread th (fun t => { t with doneSent := true })
  if s.shadowJob r.job then s
  else s.forEach r.named (fun s k => s.doneFrame (128 + n) th r k 0 0 0 (.chunk n th k 0))

/-- Cut a chunk's results into frames (R287): elements from `first`, each frame for every set in turn. -/
def State.emitResults (s : State) (n th : Nat) (r : Range) (fmt : Nat) (sat : Bool) (dith : Nat → Option Nat) :
    List Num → Nat → Nat → State
  | _, _, 0 => s
  | [], _, _ => s
  | v :: vs, first, fuel + 1 =>
    let m := fmtMaxN fmt
    let now := (v :: vs).take m
    let rest := (v :: vs).drop m
    let (payload, ovf, invalid) := encodeElems fmt sat (fun i => dith (first + i)) now
    let s := s.convFlags n ovf invalid
    let s := if 0 < ovf + invalid then s.sampleChunk n th 6 (ovf + invalid) else s
    let s := s.forEach r.named (fun s k => s.resultFrame n th r k fmt first now.length (rest = []) payload)
    s.emitResults n th r fmt sat dith rest (first + now.length) fuel

/-- Round a complete REDUCE chunk and emit its results and CHUNK_DONE (R287). -/
def State.completeReduce (s : State) (n th : Nat) (r : Range) : State :=
  let e := r.elemsOf (ordinalOf th)
  let s := s.updThread th (fun t => { t with state := .emitting })
  let (vs, s) := s.elemValues n th 0 e
  let mode := if modeRound r.mode = 2 then 0 else modeRound r.mode
  let seed := recSeed (s.collRec r.job)
  let chunk := r.chunk (ordinalOf th)
  let s := s.emitResults n th r r.fmtOut (modeSat r.mode) (fun i => if mode = 1 then some (dither seed chunk i) else none) vs 0 (e + 1)
  (s.freeRows n th).sendDone n th r

/-- Offsets of a count exchange (R294): element m is the sum of the counts of members below m. -/
def countOffsets (t : Tab Nat) (members : Nat) : List Nat :=
  ((List.range members).foldl (fun (a : List Nat × Nat) m =>
    let v := a.2 + (t.get 0 m - 1)
    (v :: a.1, v)) ([0], 0)).1.reverse

/-- A read of a Nib's accumulator or spill blocks (R252, R324). -/
def State.nibEcc (s : State) (n : Nat) (e : Ecc) : State :=
  match e with
  | .good => s
  | .corrected => ((s.sramEcc e (unitId 0x0A n)).countNib n 15 1).nibFlag n 0
  | .uncorrected => ((s.sramEcc e (unitId 0x0A n)).countNib n 16 1).nibFlag n 1

/-- Contexts of a Nib that run a thread. -/
def Nib.ctxsOf (x : Nib) (th : Nat) : List Nat :=
  x.ctxs.filterMap (fun e => e.2.bind (fun k => if k.thread = th then some e.1 else none))

/-- End the contexts of a thread, and its invocation: scratch is freed, their passes leave the queue (R269). -/
def State.endContexts (s : State) (n th : Nat) : State :=
  let cs := (s.nib n).ctxsOf th
  s.updNib n (fun x =>
    { x with
      ctxs := x.ctxs.filter (fun e => !(cs.contains e.1))
      waiting := x.waiting.filter (fun i => i.thread ≠ th)
      passes := x.passes.filter (fun p => !(cs.contains p.ctx))
      active := x.active.filter (fun w => !(cs.contains w.ctx))
      shadow := x.shadow.filter (fun w => !(cs.contains w.ctx))
      loading := x.loading.filter (fun w => !(cs.contains w.ctx)) })

/-- A range whose last chunk has ended: RANGE_SEM, completion, and its threads leave (R287). -/
def State.reviewRange (s : State) (k : Nat) : State :=
  match s.coll.ranges.get none k with
  | none => s
  | some r =>
    if r.ended < r.count then s
    else
      let s := if r.failed then s else s.semSignal r.job r.rangeSem
      let s := s.modColl (fun c =>
        { c with ranges := c.ranges.put none k none, threads := c.threads.filter (fun e => e.1 / 2 ^ 22 ≠ k) })
      s.completeDesc r.ring r.desc (if r.failed then 9 else 0) 0 0

/-- A chunk ends: its range counts it. -/
def State.endChunk (s : State) (th : Nat) (failed : Bool) : State :=
  (s.modColl (fun c => { c with ranges := c.ranges.upd none (th / 2 ^ 22) (fun r => r.map (fun x =>
    { x with ended := x.ended + 1, failed := x.failed || failed })) })).reviewRange (th / 2 ^ 22)

/-- A chunk fails (R289): what it holds is freed, CHUNK_DONE with STATUS 1 goes to every set, the failure is recorded. -/
def State.failChunkRecord (s : State) (th cause detail : Nat) : State :=
  match s.rangeOf th with
  | none => s
  | some r =>
    let n := r.nibOf (ordinalOf th)
    let s := ((s.dropChunkOffers n th ((s.nib n).ctxsOf th)).freeRows n th).endContexts n th
    let s := s.modColl (fun c =>
      { c with failChunk := r.chunk (ordinalOf th), failJob := r.job, failCause := cause, failDetail := detail })
    let s := ((s.countCp (3 + cause)).setFlag 0x65C1 0).setFlagIf (cause = 1) 0x65C1 1
    let s := if s.shadowJob r.job then s.modFaults (fun f => { f with missed := min (f.missed + 1) 0xFFFFFFFF }) else s
    let s := if cause = 10 || s.shadowJob r.job then s
      else s.forEach r.named (fun s k => s.doneFrame (if cause = 9 then 161 else 128 + n) th r k 1 cause detail .none)
    s.updThread th (fun _ => { state := .failed })

/-- A chunk that is not ended fails. -/
def State.failChunk (s : State) (th cause detail : Nat) : State :=
  if (s.rangeOf th).isNone || (s.thread th).ended then s else (s.failChunkRecord th cause detail).endChunk th true

/-- Emit the offsets of a complete count exchange (R294). -/
def State.completeCounts (s : State) (n th : Nat) (r : Range) : State :=
  let offs := countOffsets (s.thread th).counts r.members
  if 0x7FFFFFFF < offs.foldl max 0 then s.failChunk th 8 0
  else
    let s := s.updThread th (fun t => { t with state := .emitting })
    let s := s.emitResults n th r 12 false (fun _ => none) (offs.map (fun (v : Nat) => numOfInt (v : Int))) 0 (offs.length + 1)
    s.sendDone n th r

/-- Send a DIGEST frame of a mirrored job's chunk towards the shadow module (R471): the fibre it leaves on is a free value
among those whose margin channel is UP (log entry 23). -/
def State.sendDigest (s : State) (r : Range) (th : Nat) : State :=
  let cfg := s.param 0x2482 1
  if bit cfg 31 && bits cfg 23 0 = r.job then
    let d := chunkDigest (((r.named.map (fun k => ((s.thread th).sent.get {} k).payload))[0]?).getD [])
    let payload := beBytes 6 (s.param 0x2482 2) ++ beBytes 6 s.moduleMac ++ beBytes 3 r.job ++ zeros 1 ++
      beBytes 4 (r.chunk (ordinalOf th)) ++ beBytes 8 d ++ zeros 4
    let fs := (List.range 64).filter (fun f => (s.fibre f).marginState = .up)
    if fs = [] then s
    else
      let (k, s) := s.freeBelow fs.length
      sendSeq s ((fs[k]?).getD 0) 0x15 payload
  else s

/-- Compare an own digest and a received one (R472): match, mismatch. -/
def State.digestPair (s : State) (a b : Nat) : State :=
  if a = b then
    let run := min (s.faults.cleanRun + 1) 0xFFFFFFFF
    (s.modFaults (fun f => { f with cleanRun := run })).setFlagIf (run = s.param 0x2482 3) 0x6121 10
  else
    ((s.modFaults (fun f => { f with cleanRun := 0, mismatches := min (f.mismatches + 1) 0xFFFFFFFF })).setFlag 0x6121 9).logEvent
      (unitId 0x0C 0) 2 1 b

/-- A shadow chunk's own digest looks for its pair, or is held: at most 65,536 unmatched (R472). -/
def State.ownDigest (s : State) (j chunk d : Nat) : State :=
  match s.faults.farDigests.find? (fun x => x.1 = j * 2 ^ 32 + chunk) with
  | some x => (s.modFaults (fun f => { f with farDigests := f.farDigests.erase x })).digestPair d x.2.1
  | none =>
    if s.faults.ownDigests.length + s.faults.farDigests.length < 65536 then
      s.modFaults (fun f => { f with ownDigests := f.ownDigests ++ [(j * 2 ^ 32 + chunk, d, s.now)] })
    else s.modFaults (fun f => { f with missed := min (f.missed + 1) 0xFFFFFFFF })

/-- Every CHUNK_DONE of a chunk has been admitted: it is DONE, CHUNK_SEM gains 1 (R287), and digests go out (R471, R472). -/
def State.finishChunk (s : State) (th : Nat) : State :=
  match s.rangeOf th with
  | none => s
  | some r =>
    let t := s.thread th
    let s := s.hist 3 none none (some (jobSlot r.job)) ((s.now - t.opened) / 1000)
    let s := (s.countCp 3).semSignal r.job r.chunkSem
    let s := if s.shadowJob r.job then
        s.ownDigest r.job (r.chunk (ordinalOf th))
          (chunkDigest (((r.named.map (fun k => (t.sent.get {} k).payload))[0]?).getD []))
      else s.sendDigest r th
    (s.updThread th (fun _ => { state := .done })).endChunk th false

/-! ### Intake (R284, R285, R299) -/

/-- The range of a job that holds a chunk, and the thread (R284). -/
def State.findThread (s : State) (j c : Nat) : Option Nat :=
  (s.jobRanges j).findSome? (fun x => (x.2.ordinal c).map (fun k => x.1 * 2 ^ 22 + k))

/-- Terms that a frame of elements adds to each row: row, count. -/
def rowCounts (first count : Nat) : List (Nat × Nat) :=
  if count = 0 then []
  else (List.range ((first + count - 1) / 128 + 1 - first / 128)).map (fun i =>
    let row := first / 128 + i
    (row, min (first + count) (row * 128 + 128) - max first (row * 128)))

/-- Terms that complete a row (R287): MEMBERS × w. -/
def Range.rowTarget (r : Range) (k row : Nat) : Nat := r.members * min 128 (r.elemsOf k - 128 * row)

/-- Every row of a chunk has all its terms. -/
def State.rowsFull (s : State) (th : Nat) (r : Range) : Bool :=
  let k := ordinalOf th
  (List.range (ceilDiv (r.elemsOf k) 128)).all (fun row => (s.thread th).terms.get 0 row = r.rowTarget k row)

/-- The input of a PROGRAM chunk is complete (R288). -/
def State.inputComplete (s : State) (th : Nat) : Bool :=
  match s.rangeOf th with
  | none => false
  | some r =>
    !(r.fmtIn = 0 && r.lastRounds = 0) &&
    (r.fmtIn = 0 || s.rowsFull th r) &&
    (r.lastRounds = 0 || r.members * r.lastRounds ≤ (s.thread th).lasts)

/-- The frames that a kind of range accepts (R285). -/
def Range.accepts (r : Range) (typ : Nat) : Bool :=
  if r.isReduce then typ = 1
  else if r.isProgram then (typ = 1 && r.fmtIn ≠ 0) || typ = 5 || typ = 4
  else typ = 4

/-- A chunk opens at its first accepted frame (R286), but for PROGRAM. -/
def State.openThread (s : State) (th : Nat) (r : Range) : State :=
  if r.isProgram then s
  else s.updThread th (fun t => if t.state = .reserved then 
    { t with state := .opened, opened := s.now, base := (s.nib (s.nibOfThread th)).windowTime s.now } else t)

/-- The range-state checks of R299 on a frame for a thread: a code. -/
def State.intakeCheck (s : State) (n th : Nat) (r : Range) (b : List Byte) (o : Nat) : Option Nat :=
  let typ := vftType b o
  let k := ordinalOf th
  let t := s.thread th
  let first := vftSeq b o
  let count := vftCount b o
  let pl := vftPayload b o
  if vftTree b o ≠ r.tree then some 21
  else if !r.accepts typ then some 26
  else if typ = 1 && vftFormat b o ≠ r.fmtIn then some 22
  else if (typ = 1 || typ = 5) && (r.elemsOf k < first + count || (isMx (vftFormat b o) && first % 32 ≠ 0)) then some 23
  else if t.state = .emitting || t.ended then some 25
  else if r.isProgram && typ = 1 &&
      !(s.nib n).rows.all (fun y => !(y.thread = th && (rowCounts first count).any (fun c => c.1 = y.row)) ||
        y.fast = fastRows r.mode r.fmtIn) then some 28
  else if r.isProgram && s.inputComplete th then some 24
  else if typ = 1 && (rowCounts first count).any (fun c => r.rowTarget k c.1 < t.terms.get 0 c.1 + c.2) then some 24
  else if r.isCounts && (r.members ≤ beAt pl 0 4 || 2 ^ 31 ≤ beAt pl 4 4 || t.counts.get 0 (beAt pl 0 4) ≠ 0) then some 27
  else none

/-- REDUCE_DATA goes to the chunk's rows (R285); a row that has received its last term counts as completed (R287, R375). -/
def State.intakeRows (s : State) (n th : Nat) (r : Range) (b : List Byte) (o : Nat) : State :=
  let first := vftSeq b o
  let vs := decodeElems (vftFormat b o) (vftCount b o) (vftPayload b o)
  match s.addTerms n th first vs (fastRows r.mode r.fmtIn) (modeRound r.mode = 2 && isIntFmt r.fmtIn) (.chunk th) with
  | .error _ => ((s.countNib n 6 1).nibFlag n 6).failChunk th 4 0
  | .ok s =>
    let cs := rowCounts first (vftCount b o)
    let s := s.updThread th (fun t => { t with terms := cs.foldl (fun a c => a.upd 0 c.1 (· + c.2)) t.terms })
    let full := cs.filter (fun c => (s.thread th).terms.get 0 c.1 = r.rowTarget (ordinalOf th) c.1)
    let s := if full = [] then s else s.countNib n 2 full.length
    if r.isReduce && s.rowsFull th r then s.completeReduce n th r else s

/-- A frame joins the chunk's input queue; a 65th frame fails the chunk (R289). -/
def State.intakeQueue (s : State) (th : Nat) (b : List Byte) (o : Nat) : State :=
  if 64 ≤ (s.thread th).queue.length then s.failChunk th 7 0
  else
    let f : InFrame :=
      { typ := vftType b o, fmt := vftFormat b o, last := vftLast b o, seq := vftSeq b o, count := vftCount b o
        payload := vftPayload b o }
    s.updThread th (fun t => { t with queue := t.queue ++ [f], lasts := t.lasts + ofBool f.last })

/-- A COUNT frame of a COUNTS range (R294). -/
def State.intakeCount (s : State) (n th : Nat) (r : Range) (b : List Byte) (o : Nat) : State :=
  let pl := vftPayload b o
  let s := s.updThread th (fun t => { t with counts := t.counts.put 0 (beAt pl 0 4) (beAt pl 4 4 + 1) })
  if (s.thread th).counts.length = r.members then s.completeCounts n th r else s

/-- PORT_L2 of a link (R169). -/
def State.portL2 (s : State) (p : Nat) : Nat := s.param (0x2200 + p / 64) (1 + p % 64)

/-- The VID of a frame from a link (R159): its outer tag's, or the link's PVID for an untagged or priority-tagged frame. -/
def State.frameVid (s : State) (link : Nat) (b : List Byte) : Nat :=
  let p := parseFrame b
  if p.tags = 0 || p.tci % 4096 = 0 then bits (s.portL2 link) 11 0 else p.tci % 4096

/-- Where a layer-2 frame goes by its destination MAC and VID (R164); none where it is discarded. -/
def State.l2Dest (s : State) (hit : Option Nat) (vid : Nat) (excl : Option Nat) : Option Dest :=
  match hit with
  | none => some (.multi 3 vid excl)
  | some r =>
    match bits r 63 62 with
    | 0 => some (.port (bits r 12 0))
    | 1 => some (.port (s.tables.hops.get {} (bits r 12 0)).port)
    | 2 => none
    | _ => some (.unit 162)

/-- Mirror an accepted frame of the job that EXEMPLAR_CFG names (R470): a copy that is not admitted at once is discarded. -/
def State.mirror (s : State) (link j : Nat) (bytes : List Byte) : State :=
  let cfg := s.param 0x2482 1
  if bit cfg 31 && bits cfg 23 0 = j then
    let mac := s.param 0x2482 2
    let b := withFcs (beBytes 6 mac ++ beBytes 6 s.moduleMac ++ (bytes.drop 12).take (bytes.length - 16))
    let vid := s.frameVid link b
    match s.l2Dest ((s.findExact (exactKey 1 vid mac)).map (fun e => e.2.result)) vid none with
    | some d =>
      let o : Offer := { src := 161, tc := 1, dst := d, bytes := b, start := s.now }
      if s.admits (cellsOf b.length) 1 d.charge then s.store o else s.countMisc .other 1
    | none => s.countMisc .other 1
  else s

/-- A terminated TC1 frame at its Nib (R285, R299). -/
def State.intakeFrame (s : State) (n : Nat) (f : Stored) : State :=
  match vftOffset f.bytes with
  | none => s
  | some o =>
    let b := f.bytes
    let j := vftJob b o
    let fib := f.link / 16
    match s.findThread j (vftChunk b o) with
    | none => (s.vftRejected fib 20).setFlag 0x65C1 2
    | some th =>
      match s.rangeOf th with
      | none => s
      | some r =>
        match s.intakeCheck n th r b o with
        | some c =>
          let s := (s.vftRejected fib c).setFlagIf (c = 25) 0x65C1 3
          if c = 25 then s else s.failChunk th (if c = 24 then 2 else 3) 0
        | none =>
          let s := (s.mirror f.link j b).openThread th r
          if vftType b o = 1 then s.intakeRows n th r b o
          else if r.isCounts then s.intakeCount n th r b o
          else s.intakeQueue th b o

/-- Job teardown ends a job's chunk-threads with cause 10 and its range descriptors with CANCELLED (R302, R452). Threads that no frame
has reached are counted together. -/
def State.teardownRanges (s : State) (j : Nat) : State :=
  s.forEach (s.jobRanges j) (fun s x =>
    let live := (s.coll.threads.filter (fun e => e.1 / 2 ^ 22 = x.1 && !e.2.ended)).map (·.1)
    let s := s.forEach live (fun s th => s.failChunkRecord th 10 0)
    let rest := x.2.count - x.2.ended - live.length
    let s := if rest = 0 then s else
      let s := (s.count (0x7000 + 0x40 * 0x0C) 13 rest).setFlag 0x65C1 0
      s.modColl (fun c => { c with failChunk := x.2.chunk (x.2.count - 1), failJob := j, failCause := 10, failDetail := 0 })
    let s := s.forEach (List.range 32) (fun s n => s.updNib n (fun y =>
      { y with waiting := y.waiting.filter (fun i => i.thread / 2 ^ 22 ≠ x.1) }))
    let s := s.modColl (fun c =>
      { c with ranges := c.ranges.put none x.1 none, threads := c.threads.filter (fun e => e.1 / 2 ^ 22 ≠ x.1) })
    s.completeDesc x.2.ring x.2.desc 10 0 0)

end Sys2Proof.Machine
end

