-- ==== Sys2Proof/Machine/LigOps.lean ====
section
/-!
DEFINITION. Ligature (R303 to R322): translation windows, the checks of a request, accesses on lines in arrival order with reads
joined, atomics batched and stores coalesced, responses, and remote homes.
-/

namespace Sys2Proof.Machine

/-- A change of Ligature. -/
def State.modLig (s : State) (g : LigSt → LigSt) : State := { s with lig := g s.lig }

/-- Counters of Ligature (R375, type 0x0B). -/
def State.countLig (s : State) (sub : Nat) : State := s.countUnit 0x0B 0 sub

/-- LIG_FLAGS (R321). -/
def State.ligFlag (s : State) (b : Nat) : State := s.setFlag 0x65E1 b

/-- A translation window (R306). -/
structure Window where
  base : Nat
  pages : Nat
  vlan : Nat
  kind : Nat
  rights : Nat
  target : Nat
  mac : Nat
deriving DecidableEq, Repr

/-- Window w of a memory record. -/
def recWindow (m : List Byte) (w : Nat) : Window :=
  let o := 32 * w
  { base := leAt m o 8, pages := leAt m (o + 8) 4, vlan := leAt m (o + 12) 2, kind := byteAt m (o + 14)
    rights := byteAt m (o + 15), target := leAt m (o + 16) 8, mac := beAt m (o + 24) 6 }

/-- Length of a window in bytes. -/
def Window.len (w : Window) : Nat := 4096 * w.pages

/-- Used windows of a memory record, with their numbers. -/
def usedWindows (m : List Byte) : List (Nat × Window) :=
  ((List.range 16).map (fun k => (k, recWindow m k))).filter (fun x => x.2.kind ≠ 0)

/-- A used window obeys the table of R306. -/
def windowOk (poolSize : Nat) (m : List Byte) (x : Nat × Window) : Bool :=
  let w := x.2
  w.base % 4096 = 0 && 1 ≤ w.pages && w.pages ≤ 134217728 && w.base + w.len ≤ 2 ^ 64 && w.kind ≤ 2 &&
  1 ≤ w.rights && w.rights < 16 && w.target % 4096 = 0 && leAt m (32 * x.1 + 30) 2 = 0 &&
  (if w.kind = 1 then w.vlan = 0 && w.mac = 0 && w.target + w.len ≤ poolSize
   else vlanFieldOk w.vlan)

/-- Two ranges meet. -/
def rangesMeet (a n b m : Nat) : Bool := a < b + m && b < a + n

/-- Two windows of one job may stand together (R306). -/
def windowsApart (a b : Window) : Bool :=
  !(rangesMeet a.base a.len b.base b.len) &&
  !(a.kind = 1 && b.kind = 1 && rangesMeet a.target a.len b.target b.len) &&
  !(a.kind = 2 && b.kind = 2 && a.mac = b.mac && a.vlan = b.vlan && rangesMeet a.target a.len b.target b.len)

/-- A slot's windows and pool ranges count as live: from PREPARED until it leaves DRAINING (R443). -/
def Slot.holds (x : Slot) : Bool := x.state = .prepared || x.state = .live || x.state = .draining

/-- KIND 1 ranges of a record: pool offset and bytes. -/
def poolRanges (m : List Byte) : List (Nat × Nat) :=
  (usedWindows m).filterMap (fun x => if x.2.kind = 1 then some (x.2.target, x.2.len) else none)

/-- A memory record obeys R306, against every other live job and the scrub list. -/
def State.memRecValid (s : State) (slot : Nat) (m : List Byte) : Bool :=
  let ws := usedWindows m
  m.length = 512 && ws.all (windowOk (s.mem.poolGib * gib) m) &&
  !(pairsAny (fun (a b : Nat × Window) => !(windowsApart a.2 b.2)) ws) &&
  (poolRanges m).all (fun r =>
    !(s.slots.any (fun e => e.1 ≠ slot && e.2.holds && (poolRanges e.2.record.mem).any (fun q => rangesMeet r.1 r.2 q.1 q.2))) &&
    !(s.faults.scrubList.any (fun q => rangesMeet r.1 r.2 q.2.1 q.2.2)))

/-- The windows of a job. -/
def State.jobWindows (s : State) (j : Nat) : List (Nat × Window) := usedWindows (s.slot (jobSlot j)).record.mem

/-- The window that a fabric address hits (R307). -/
def State.hitWindow (s : State) (j addr : Nat) : Option (Nat × Window) :=
  (s.jobWindows j).find? (fun x => x.2.base ≤ addr && addr < x.2.base + x.2.len)

/-! ### Accesses and lines -/

/-- Lines of an access: home and line number (R310, R317). -/
def LigAccess.lines (a : LigAccess) : List Nat := linesOf a.addr a.bytes

/-- Two accesses share a line. -/
def LigAccess.meets (a b : LigAccess) : Bool :=
  a.home = b.home && rangesMeet (a.addr / 64) ((a.addr + a.bytes - 1) / 64 + 1 - a.addr / 64) (b.addr / 64)
    ((b.addr + b.bytes - 1) / 64 + 1 - b.addr / 64)

/-- Held requests on a line (R311, R315). -/
def LigSt.heldOn (l : LigSt) (home : Option (Nat × Nat)) (line : Nat) : Nat :=
  (l.accs.map (fun a => if a.home = home && a.lines.contains line then a.members.length else 0)).foldl (· + ·) 0

/-- Numbers of the held requests. -/
def LigSt.heldNos (l : LigSt) : List Nat := (l.accs.flatMap (fun a => a.members.map (·.no))).eraseDups

/-- Tracked lines (R311). -/
def LigSt.tracked (l : LigSt) : List (Option (Nat × Nat) × Nat) :=
  (l.accs.flatMap (fun a => a.lines.map (fun x => (a.home, x)))).eraseDups

/-- Remote REQ_ID values in use (R319). -/
def LigSt.idsUsed (l : LigSt) : List Nat := l.accs.flatMap (fun a => (a.parts.filter (fun p => !p.answered)).map (·.id))

/-- A request asks for its own place (R303): NO_COMBINE, FENCE, a window without COMBINE, or COMBINE 0. -/
def LigReq.alone (r : LigReq) : Bool := r.noComb || r.fence || !r.combine

/-- An access that has been made and not issued closes to further members where a non-member touches its line (R313, R314);
an outstanding read closes to joins where a write, atomic or CAS touches it (R312). -/
def closeLines (accs : List LigAccess) (a : LigAccess) : List LigAccess :=
  accs.map (fun x => if x.meets a then
      (if x.kind = .read then (if a.kind = .read then x else { x with closed := true }) else { x with open_ := false })
    else x)

/-- The bytes of a request's operand, as a number. -/
def operandOf (b : List Byte) : Nat := beNat b

/-- Two's complement order of `w`-bit numbers. -/
def sLess (w a b : Nat) : Bool := intOf w a < intOf w b

/-- The new value of an atomic (R305) of `n` bytes. -/
def applyAtomic (op n old x : Nat) : Nat :=
  match op with
  | 1 => (old + x) % 2 ^ (8 * n)
  | 2 => old &&& x
  | 3 => old ||| x
  | 4 => old ^^^ x
  | 5 => min old x
  | 6 => max old x
  | 7 => if sLess (8 * n) x old then x else old
  | 8 => if sLess (8 * n) old x then x else old
  | _ => x

/-- Operand that a batch combines to (R313). -/
def combineOperands (op n : Nat) : List Nat → Nat
  | [] => 0
  | x :: r => r.foldl (fun a y => applyAtomic op n a y) x

/-- Old values returned to a batch's members in order, and the value the line holds after (R313). -/
def splitBatch (op n : Nat) : List Nat → Nat → List Nat × Nat
  | [], v => ([], v)
  | x :: r, v =>
    let (olds, last) := splitBatch op n r (applyAtomic op n v x)
    (v :: olds, last)

/-! ### Responses -/

/-- A request's ARG with a status in OP (R303, R309). -/
def respArg (r : LigReq) (op : Nat) : Nat :=
  r.addr * 2 ^ 32 + r.reqId * 65536 + r.size * 4096 + op * 256 + ofBool r.fence * 128 + ofBool r.noComb * 64

/-- The frame of a response (R309): `head` holds the request's bytes up to its VFT header. In routed form the IPv6 traffic class,
flow label and hop limit are free values (log entry 2). -/
def State.responseFrame (s : State) (r : LigReq) (typ op : Nat) (payload : List Byte) : List Byte × State :=
  let vft := vftHeader true typ r.job 2 0 0 0 0 payload.length (respArg r op) ++ payload
  if !r.routed then
    let body := (r.head.drop 6).take 6 ++ beBytes 6 s.moduleMac ++ r.head.drop 12 ++ vft
    (withFcs (body ++ zeros (60 - body.length)), s)
  else
    let p := parseFrame r.head
    let ip := p.off + 2
    let port := s.param 0x21C0 1
    let len := 8 + vft.length
    let (cls, s) := s.freeBelow (2 ^ 28)
    let (hop, s) := s.freeBelow 256
    let src := beBytes 16 (s.param 0x21D0 7)
    let dst := slice r.head (ip + 8) 16
    let udp0 := beBytes 2 port ++ beBytes 2 port ++ beBytes 2 len
    let sum := inetSum (src ++ dst ++ beBytes 4 len ++ beBytes 4 17 ++ udp0 ++ zeros 2 ++ vft)
    let sum := if sum = 0 then 0xFFFF else sum
    let body := (r.head.drop 6).take 6 ++ beBytes 6 (s.param 0x21D0 6) ++ slice r.head 12 (p.off - 12) ++ beBytes 2 0x86DD ++
      beBytes 4 (6 * 2 ^ 28 + cls) ++ beBytes 2 len ++ beBytes 1 17 ++ beBytes 1 hop ++ src ++ dst ++ udp0 ++ beBytes 2 sum ++ vft
    (withFcs (body ++ zeros (60 - body.length)), s)

/-- Send a frame to the requester's link; a link out of service has it discarded (R309). -/
def State.respond (s : State) (r : LigReq) (typ op : Nat) (payload : List Byte) : State :=
  if s.linkUp r.link then
    let (b, s) := s.responseFrame r typ op payload
    s.offer { src := 160, tc := 2, dst := .port r.link, bytes := b, origin := .memory (jobSlot r.job) r.accepted, start := s.now }
  else (s.countLig 20).ligFlag 6

/-- Record a non-zero status (R321, R375). -/
def State.ligStatus (s : State) (j st : Nat) : State :=
  if st = 0 then s
  else
    let s := (s.countLig (7 + st)).modLig (fun l => { l with lastErrorJob := j, lastError := st })
    if st ≤ 5 then s.ligFlag 4 else if st = 6 then s.ligFlag 2 else if st = 7 then s.ligFlag 1 else if st = 8 then s.ligFlag 3 else s

/-- The completion status of a COPY for a line's status (R358). -/
def copyStatus (st : Nat) : Nat := if st = 9 then 10 else if st = 10 then 16 else if st = 8 then 17 else 0

/-- A COPY whose last line has gone completes (R358). -/
def State.reviewCopy (s : State) (no : Nat) : State :=
  match s.host.copies.find? (fun c => c.desc = no) with
  | some c =>
    if c.left = 0 then
      (s.modHost (fun h => { h with copies := h.copies.erase c })).completeDesc c.ring c.desc c.status 0 0
    else s
  | none => s

/-- A line of a COPY has been performed, or has failed (R358): data of DIR 1 go to owner memory. A failed line ends the copy: lines
not issued leave their queues. -/
def State.copyLine (s : State) (no line st : Nat) (data : List Byte) : State :=
  match s.host.copies.find? (fun c => c.desc = no) with
  | none => s
  | some c =>
    let d := s.ringDomain c.ring
    let (s, st) :=
      if st = 0 && c.dir && s.descLive c.ring no then
        match s.dmaWrite d (c.hostAddr + 64 * line) data with
        | some s' => (s', 0)
        | none => (s.dmaError c.ring, 18)
      else (s, copyStatus st)
    let s := s.modHost (fun h => { h with copies := h.copies.map (fun x => if x.desc = no then
      { x with left := x.left - 1, status := if x.status = 0 then st else x.status } else x) })
    let s := if st = 0 then s else
      let mine (a : LigAccess) : Bool := !a.issued && a.members.any (fun r => match r.copy with | some (n, _) => n = no | none => false)
      let gone := (s.lig.accs.filter mine).length
      (s.modLig (fun l => { l with accs := l.accs.filter (fun a => !(mine a)) })).modHost (fun h =>
        { h with copies := h.copies.map (fun x => if x.desc = no then { x with left := x.left - gone } else x) })
    s.reviewCopy no

/-- Answer a request (R309): a MEM_RESPONSE, or a line of a COPY. -/
def State.answer (s : State) (r : LigReq) (st : Nat) (data : List Byte) : State :=
  match r.copy with
  | some (no, line) => s.copyLine no line st data
  | none => (s.ligStatus r.job st).respond r 0x13 st (if st = 0 then data else [])

/-- Answer the members of an access that stand in no other access. -/
def State.answerAll (s : State) (l : List (LigReq × List Byte)) (st : Nat) : State :=
  s.forEach l (fun s x => if s.lig.accs.any (fun a => a.members.any (fun r => r.no = x.1.no)) then s else s.answer x.1 st x.2)

/-! ### Issue -/

/-- A home access part's frame (R319). -/
def State.homeFrame (s : State) (a : LigAccess) (p : HomePart) : List Byte :=
  let h := a.home.getD (0, 0)
  let j := a.job
  let arg (op : Nat) := p.addr * 2 ^ 32 + p.id * 65536 + p.size * 4096 + op * 256
  let n := 2 ^ p.size
  let mk (typ op : Nat) (pl : List Byte) := nativeFrame h.1 s.moduleMac h.2 (vftHeader true typ j 2 0 0 0 0 pl.length (arg op)) pl
  match a.kind with
  | .read => mk 0x10 0 []
  | .batch => mk 0x12 a.op (beBytes n (combineOperands a.op n (a.members.map (fun r => operandOf r.data))))
  | .cas => mk 0x12 10 (((a.members.map (·.data))[0]?).getD [])
  | .image => mk 0x11 0 ((List.range n).map (fun i => (a.image.get none (p.addr - a.addr + i)).getD 0))
  | .store => mk 0x11 0 (((a.members.map (·.data))[0]?).getD [])

/-- Send a part to its home (R319): through the core, by the home's MAC in the window's VLAN; an untagged window is looked up under
VID 1 (log entry 24). -/
def State.sendPart (s : State) (a : LigAccess) (p : HomePart) : State :=
  let h := a.home.getD (0, 0)
  let vid := if bit h.2 15 then h.2 % 4096 else 1
  let b := s.homeFrame a p
  match s.l2Dest ((s.findExact (exactKey 1 vid h.1)).map (fun e => e.2.result)) vid none with
  | some d => s.offer { src := 160, tc := 2, dst := d, bytes := b, start := s.now }
  | none => s

/-- The fewest aligned power-of-two pieces that cover a mask of `2^k` bytes at offset `o` (R314). -/
def coverMask (im : Tab (Option Byte)) : Nat → Nat → List (Nat × Nat)
  | k, o =>
    if (List.range (2 ^ k)).all (fun i => (im.get none (o + i)).isSome) then [(o, k)]
    else match k with
      | 0 => []
      | k' + 1 => coverMask im k' o ++ coverMask im k' (o + 2 ^ k')

/-- The pieces of an access that go to a remote home: address and SIZE. -/
def LigAccess.pieces (a : LigAccess) : List (Nat × Nat) :=
  match a.kind with
  | .image => (coverMask a.image 6 0).map (fun x => (a.addr + x.1, x.2))
  | _ => [(a.addr, a.size)]

/-- The lowest free REQ_ID values (R319). -/
def freeIds (used : List Nat) (n : Nat) : Option (List Nat) :=
  if used.length + n ≤ 65536 then some (((List.range (used.length + n)).filter (fun i => !(used.contains i))).take n) else none

/-- The requests of an access are clear of their fences (R317): nothing earlier of the same requester and job is held. -/
def LigSt.fenceClear (l : LigSt) (a : LigAccess) : Bool :=
  a.members.all (fun r => !r.fence ||
    !(l.accs.any (fun x => x.members.any (fun q => q.no < r.no && q.link = r.link && q.copy = r.copy && q.job = r.job &&
      slice q.head 6 6 = slice r.head 6 6))))

/-- An access may issue: it stands at the head of the queue of every line it touches (R310, R311). -/
def LigSt.mayIssue (l : LigSt) (a : LigAccess) : Bool :=
  !a.issued && l.fenceClear a &&
  !(l.accs.any (fun x => x.no < a.no && x.meets a && !(x.kind = .read && a.kind = .read && x.issued)))

/-- Change an access. -/
def State.updAcc (s : State) (no : Nat) (g : LigAccess → LigAccess) : State :=
  s.modLig (fun l => { l with accs := l.accs.map (fun a => if a.no = no then g a else a) })

/-- Issue an access: to the pool it waits for its performance; to a remote home its frames leave (R316, R319). -/
def State.issueAcc (s : State) (a : LigAccess) : Option State :=
  match a.home with
  | none => some (s.updAcc a.no (fun x => { x with issued := true, open_ := false }))
  | some _ =>
    let ps := a.pieces
    match freeIds s.lig.idsUsed ps.length with
    | none => none
    | some ids =>
      let parts := (ps.zip ids).map (fun x => ({ id := x.2, addr := x.1.1, size := x.1.2, sent := s.now } : HomePart))
      let s := s.updAcc a.no (fun x => { x with issued := true, open_ := false, parts := parts })
      some (s.forEach parts (fun s p => (s.countLig 18).sendPart a p))

/-- Issue every access that may issue. -/
def State.issueAll (s : State) : Nat → State
  | 0 => s
  | n + 1 =>
    match s.lig.accs.findSome? (fun a => if s.lig.mayIssue a then s.issueAcc a else none) with
    | some s' => s'.issueAll n
    | none => s

/-- LIG_DATA_FULL while fewer than 64 of the 67,108,864 data granules are free (R338). -/
def State.reviewData (s : State) : State :=
  let full : Bool := 67108864 < s.lig.granules + 64
  (s.setFlagIf (full && !s.lig.dataFull) 0x6601 9).modLig (fun l => { l with dataFull := full })

/-- After any change of the held requests: issue until nothing more can, and judge the free data granules. -/
def State.ligRun (s : State) : State := (s.issueAll s.lig.accs.length).reviewData

/-! ### Requests -/

/-- The checks of R308: a status. -/
def State.ligCheck (s : State) (j typ addr size op : Nat) : Nat :=
  if 13 ≤ size then 4
  else match s.hitWindow j addr with
    | none => 1
    | some (_, w) =>
      let right := if typ = 0x10 then 0 else if typ = 0x11 then 1 else 2
      if !(bit w.rights right) then 2
      else if addr % 2 ^ size ≠ 0 then 3
      else if typ = 0x12 && size ≠ 2 && size ≠ 3 then 4
      else if (if typ = 0x12 then op = 0 || 10 < op else op ≠ 0) then 5
      else if w.kind = 1 && !s.lpdPresent (s.poolBase + w.target + (addr - w.base)) (2 ^ size) then 10
      else 0

/-- A new access of one request. -/
def accOf (no : Nat) (k : LigKind) (r : LigReq) (open_ : Bool) : LigAccess :=
  { no := no, kind := k, home := r.home, addr := r.target, bytes := 2 ^ r.size, job := r.job, op := r.op, size := r.size
    members := [r], open_ := open_ }

/-- Append an access behind the others, closing what it touches. -/
def State.addAcc (s : State) (a : LigAccess) : State :=
  s.modLig (fun l => { l with accs := closeLines l.accs a ++ [{ a with no := l.nextAcc }], nextAcc := l.nextAcc + 1 })

/-- Some access is held on a line of the access. -/
def LigSt.busy (l : LigSt) (a : LigAccess) : Bool := l.accs.any (fun x => x.meets a)

/-- A read (R312). -/
def State.placeRead (s : State) (r : LigReq) : State :=
  match s.lig.accs.find? (fun a => a.kind = .read && a.issued && !a.closed && !r.alone && a.job = r.job && a.addr = r.target &&
      a.home = r.home && a.size = r.size && a.members.all (fun q => !q.alone && q.window = r.window)) with
  | some a => (s.countLig 4).updAcc a.no (fun x => { x with members := x.members ++ [r] })
  | none => s.addAcc (accOf 0 .read r false)

/-- An atomic (R313). -/
def State.placeAtomic (s : State) (r : LigReq) : State :=
  if r.op = 10 then s.addAcc (accOf 0 .cas r false)
  else match s.lig.accs.find? (fun a => a.kind = .batch && a.open_ && !a.issued && !r.alone && a.job = r.job && a.addr = r.target &&
      a.home = r.home && a.size = r.size && a.op = r.op && a.members.all (fun q => q.window = r.window)) with
    | some a => (s.countLig 5).updAcc a.no (fun x => { x with members := x.members ++ [r] })
    | none => s.addAcc (accOf 0 .batch r (!r.alone && s.lig.busy (accOf 0 .batch r false)))

/-- Bytes written over an image at an offset. -/
def overlay : Tab (Option Byte) → Nat → List Byte → Tab (Option Byte)
  | im, _, [] => im
  | im, o, b :: rest => overlay (im.put none o (some b)) (o + 1) rest

/-- One line of a store goes to the line's pending image (R314). -/
def State.placeImage (s : State) (r : LigReq) (line : Nat) : State :=
  let a0 := 64 * line
  let from_ := max a0 r.target
  let piece := slice r.data (from_ - r.target) (min 64 (min (a0 + 64) (r.target + 2 ^ r.size) - from_))
  match s.lig.accs.find? (fun a => a.kind = .image && a.open_ && !a.issued && a.home = r.home && a.addr = a0) with
  | some a => (s.countLig 6).updAcc a.no (fun x =>
      { x with members := x.members ++ [r], image := overlay x.image (from_ - a0) piece })
  | none => s.addAcc
      { no := 0, kind := .image, home := r.home, addr := a0, bytes := 64, job := r.job, members := [r], open_ := true
        image := overlay [] (from_ - a0) piece }

/-- A store (R314): merged into its lines' images where every line has an access outstanding or queued, else an access of its own. -/
def State.placeStore (s : State) (r : LigReq) : State :=
  let a := accOf 0 .store r false
  let lines := a.lines
  let busy (l : Nat) : Bool := s.lig.accs.any (fun x => x.home = r.home && x.lines.contains l)
  if !r.alone && lines.all busy then s.forEach lines (fun s l => s.placeImage r l)
  else s.addAcc a

/-- Place an accepted request and let what may issue do so. -/
def State.placeReq (s : State) (r : LigReq) : State :=
  let s := s.modLig (fun l => { l with nextReq := l.nextReq + 1 })
  (match r.typ with
   | 0x10 => s.placeRead r
   | 0x11 => s.placeStore r
   | _ => s.placeAtomic r).ligRun

/-- The wait of R315. -/
def retryWait (base held : Nat) : Nat := min 1000000 (base * (1 + held / 512))

/-- The bounds of R315: held requests on the refusing line, 0 where the tracker or the total refuses. -/
def State.ligRefuses (s : State) (home : Option (Nat × Nat)) (addr n : Nat) : Option (Nat × Bool) :=
  let lines := linesOf addr n
  match lines.find? (fun l => s.param 0x2340 1 ≤ s.lig.heldOn home l) with
  | some l => some (s.lig.heldOn home l, false)
  | none =>
    let t := s.lig.tracked
    let fresh := (lines.filter (fun l => !(t.contains (home, l)))).length
    if (0 < fresh && 65536 < t.length + fresh) || 4194304 ≤ s.lig.heldNos.length then some (0, true) else none

/-- A request as a frame gives it. -/
def State.reqOfFrame (s : State) (f : Stored) (o : Nat) : LigReq :=
  let b := f.bytes
  let a := vftArg b o
  { no := s.lig.nextReq, link := f.link, head := b.take o, routed := (vftNative b).isNone, job := vftJob b o, typ := vftType b o
    addr := argAddr a, size := argSize a, op := argOp a, reqId := argReqId a, fence := argFence a, noComb := argNoComb a
    data := vftPayload b o, window := 0, target := 0, home := none, combine := false, accepted := s.now
    limit := s.param 0x2340 3 }

/-- The request with its translation (R307). -/
def State.translate (s : State) (r : LigReq) : LigReq :=
  match s.hitWindow r.job r.addr with
  | none => r
  | some (k, w) =>
    let t := w.target + (r.addr - w.base)
    { r with
      window := k, target := if w.kind = 1 then s.poolBase + t else t, home := if w.kind = 1 then none else some (w.mac, w.vlan)
      combine := bit w.rights 3 && s.param 0x2340 4 = 1 }

/-- A memory request (R308, R315). -/
def State.ligRequest (s : State) (f : Stored) (o : Nat) : State :=
  let r := s.reqOfFrame f o
  let s := s.countLig (r.typ - 0x0F)
  let st := s.ligCheck r.job r.typ r.addr r.size r.op
  if st ≠ 0 then s.answer r st []
  else
    let r := s.translate r
    match s.ligRefuses r.home r.target (2 ^ r.size) with
    | some (held, full) =>
      let s := ((s.countLig 7).ligFlag 0).setFlagIf full 0x65E1 7
      s.respond r 0x14 0 (beBytes 4 (retryWait (s.param 0x2340 2) held))
    | none => s.placeReq r

/-! ### Performance -/

/-- Remove an access. -/
def State.dropAcc (s : State) (no : Nat) : State := s.modLig (fun l => { l with accs := l.accs.filter (fun a => a.no ≠ no) })

/-- Results of a batch or a CAS for an old value: the member answers and the new value (R305, R313). -/
def LigAccess.rmw (a : LigAccess) (old : Nat) : List (LigReq × List Byte) × Nat :=
  let n := 2 ^ a.size
  if a.kind = .cas then
    let d := ((a.members.map (·.data))[0]?).getD []
    let new_ := if beNat (d.take n) = old then beNat (d.drop n) else old
    (a.members.map (fun r => (r, beBytes n old)), new_)
  else
    let (olds, last) := splitBatch a.op n (a.members.map (fun r => operandOf r.data)) old
    ((a.members.zip olds).map (fun x => (x.1, beBytes n x.2)), last)

/-- Write the bytes of an image: a full line as one write (R336), else byte by byte. -/
def State.writeImage (s : State) (a : LigAccess) : State :=
  let bs := (List.range 64).filterMap (fun i => (a.image.get none i).map (fun b => (i, b)))
  if bs.length = 64 then s.writeMem a.addr (bs.map (·.2)) else s.forEach bs (fun s x => s.writeMem (a.addr + x.1) [x.2])

/-- An issued pool access is performed (R316): `ecc` says that the read met an uncorrected error. -/
def State.performPool (s : State) (a : LigAccess) (ecc : Bool) : State :=
  let plain := a.members.map (fun r => (r, ([] : List Byte)))
  let s0 := s.dropAcc a.no
  let s1 := match a.kind with
    | .read =>
      let (d, s) := s0.readMem a.addr a.bytes
      let s := if ecc then s.lpdUncorrected a.addr else s
      (match (if ecc then Except.error MemErr.ecc else d) with
       | .ok b => s.answerAll (a.members.map (fun r => (r, b))) 0
       | .error .ecc => s.answerAll plain 8
       | .error .absent => s.answerAll plain 10)
    | .batch | .cas =>
      let (d, s) := s0.readMem a.addr a.bytes
      let s := if ecc then s.lpdUncorrected a.addr else s
      (match (if ecc then Except.error MemErr.ecc else d) with
       | .ok b =>
         let (ans, new_) := a.rmw (leNat b)
         (s.writeMem a.addr (leBytes a.bytes new_)).answerAll ans 0
       | .error .ecc => s.answerAll plain 8
       | .error .absent => s.answerAll plain 10)
    | .image => (s0.writeImage a).answerAll plain 0
    | .store => (s0.writeMem a.addr (((a.members.map LigReq.data)[0]?).getD [])).answerAll plain 0
  s1.ligRun

/-- Every part of a remote access has been answered: its requests are answered (R319). -/
def State.finishHome (s : State) (a : LigAccess) : State :=
  let s := s.dropAcc a.no
  let plain := a.members.map (fun r => (r, ([] : List Byte)))
  let s := if a.status ≠ 0 then s.answerAll plain a.status
    else match a.kind with
      | .read => s.answerAll (a.members.map (fun r => (r, a.data))) 0
      | .batch => s.answerAll (a.rmw (beNat a.data)).1 0
      | .cas => s.answerAll (a.rmw (beNat a.data)).1 0
      | _ => s.answerAll plain 0
  s.ligRun

/-- Instant at which an access to a home is given up (R320). -/
def LigAccess.dueAt (a : LigAccess) (p : HomePart) : Nat := p.sent + ((a.members.map LigReq.limit)[0]?).getD 0 * 10 ^ 6

/-- The access and part that a REQ_ID names. -/
def LigSt.partOf (l : LigSt) (id : Nat) : Option (LigAccess × HomePart) :=
  l.accs.findSome? (fun a => (a.parts.find? (fun p => p.id = id && !p.answered)).map (fun p => (a, p)))

/-- A response that matches no outstanding access (R319). -/
def State.unmatched (s : State) : State := (s.countLig 19).ligFlag 5

/-- A home's MEM_RESPONSE (R304, R319). -/
def State.homeResponse (s : State) (f : Stored) (o : Nat) : State :=
  let b := f.bytes
  let arg := vftArg b o
  match s.lig.partOf (argReqId arg) with
  | none => s.unmatched
  | some (a, p) =>
    let st := argOp arg
    let want := if st = 0 && (a.kind = .read || a.kind = .batch || a.kind = .cas) then 2 ^ p.size else 0
    if argSize arg ≠ p.size || vftLen b o ≠ want then s.vftRejected (f.link / 16) 6
    else
      let s := s.updAcc a.no (fun x =>
        { x with
          parts := x.parts.map (fun q => if q.id = p.id then { q with answered := true } else q)
          data := if st = 0 then vftPayload b o else x.data
          status := if st ≠ 0 then 6 else x.status })
      match s.lig.accs.find? (fun x => x.no = a.no) with
      | some x => if x.parts.all (·.answered) then s.finishHome x else s.ligRun
      | none => s

/-- A home's MEM_RETRY_AFTER (R320). -/
def State.homeRetry (s : State) (f : Stored) (o : Nat) : State :=
  let b := f.bytes
  match s.lig.partOf (argReqId (vftArg b o)) with
  | none => s.unmatched
  | some (a, p) =>
    let w := beAt b (o + 32) 4
    let wait := if w = 0 then 100 else min w 1000000
    let s := if wait = w then s else s.countMisc .other 1
    s.updAcc a.no (fun x => { x with parts := x.parts.map (fun q => if q.id = p.id then { q with retryAt := some (s.now + wait * 1000) } else q) })

/-- Job teardown at Ligature (R322): requests not issued, and issued remote accesses, are answered CANCELLED; issued pool accesses go
on. -/
def State.teardownLig (s : State) (j : Nat) : State :=
  let hit (a : LigAccess) : Bool := !(a.issued && a.home.isNone)
  let gone := (s.lig.accs.filter hit).flatMap (fun a => a.members.filter (fun r => r.job = j))
  let s := s.modLig (fun l => { l with accs := l.accs.filterMap (fun a =>
    if hit a then
      let m := a.members.filter (fun r => r.job ≠ j)
      if m = [] then none else some { a with members := m }
    else some a) })
  let firsts := gone.foldl (fun (acc : List LigReq) r => if acc.any (fun q => q.no = r.no) then acc else acc ++ [r]) []
  (s.answerAll (firsts.map (fun r => (r, []))) 9).ligRun

end Sys2Proof.Machine
end

