-- ==== Sys2Proof/Machine/JobOps.lean ====
section
/-!
DEFINITION. Job slots (R443 to R456): the job check, JOB margin frames, starting a job, draining and quarantine, abort.
-/

namespace Sys2Proof.Machine

/-- STATE codes of R474. -/
def SlotState.code : SlotState → Nat
  | .free => 0 | .prepared => 1 | .live => 2 | .draining => 3 | .quarantine => 4

/-- The job check of R444: a code, none where it passes. `endOp` is set for JOB_TEARDOWN and JOB_ABORT descriptors. -/
def State.jobCheck (s : State) (slot gen : Nat) (endOp : Bool) : Option Nat :=
  let x := s.slot slot
  if 4095 < slot then some 16
  else if x.state = .free then some 17
  else if gen ≠ x.generation then some 18
  else match x.state with
    | .prepared => if endOp then none else some 17
    | .draining => if endOp then none else some 19
    | .quarantine => some 19
    | _ => none

/-- G in cell times (R445). -/
def State.guardCells (s : State) : Nat := ceilDiv (s.param 0x2480 1 * 100000) 1024

/-- The job handle of a slot. -/
def State.handleOf (s : State) (j : Nat) : Nat := j * 256 + (s.slot j).generation

/-- Links of a destination set, in service or not (R279). -/
def State.setLinks (s : State) (x : DestSet) : List Nat :=
  s.enabledLinks.filter (fun p =>
    match x.kind with
    | 1 => p = x.value
    | 2 => coordOf s.core.coords p / 32 = x.value
    | 3 => coordOf s.core.coords p % 32 = x.value
    | 4 => bit (s.tables.vlan.get 0 x.value) p
    | _ => false)

/-- Links of a slot's PREP_SET (R445). -/
def State.prepLinks (s : State) (j : Nat) : List Nat :=
  let x := s.slot j
  if x.prepSet = 15 then [] else s.setLinks (recSet x.record.coll x.prepSet)

/-- A JOB frame's payload (R447). -/
def jobPayload (kind scope handle reason toMac fromMac cell deadline count : Nat) : List Byte :=
  beBytes 1 kind ++ beBytes 1 scope ++ beBytes 3 handle ++ beBytes 1 reason ++ beBytes 6 toMac ++ beBytes 6 fromMac ++ zeros 2 ++
  beBytes 8 cell ++ beBytes 8 deadline ++ beBytes 4 count ++ zeros 8

/-- Send a JOB frame with SCOPE 1 on the fibre of each link of PREP_SET, once per link, but for links left out (R446, R455). -/
def State.jobToSet (s : State) (j kind reason cell deadline : Nat) (excl : List Nat) : State :=
  s.forEach ((s.prepLinks j).filter (fun p => !(excl.contains p))) (fun s p =>
    sendSeq s (p / 16) 0x12 (jobPayload kind 1 (s.handleOf j) reason 0 s.moduleMac cell deadline 0))

/-- Fibres whose margin channel is UP. -/
def State.upFibres (s : State) : List Nat := (List.range 64).filter (fun f => (s.fibre f).marginState = .up)

/-- Send a JOB frame with SCOPE 2 to a station (R447). The spec does not say on which fibre: it is a free value among the fibres
whose margin channel is UP (log entry 23). -/
def State.jobToMac (s : State) (j kind reason mac cell count : Nat) : State :=
  let fs := s.upFibres
  if fs = [] then s.countMisc .marginReset 1
  else
    let (k, s) := s.freeBelow fs.length
    sendSeq s ((fs[k]?).getD 0) 0x12 (jobPayload kind 2 (s.handleOf j) reason mac s.moduleMac cell 0 count)

/-- Send SHARE to the coordinator: the local sum plus 1 (R446, R448). -/
def State.sendShare (s : State) (j : Nat) : State :=
  let x := s.slot j
  (s.jobToMac j 3 0 x.coordMac s.cellNow (x.localSum + 1)).updSlot j (fun y =>
    { y with shareAt := some s.now, shareOwed := false })

/-- Complete the JOB_PREPARE of a slot. -/
def State.endPrepare (s : State) (j status detail : Nat) : State :=
  match (s.slot j).prepareTag with
  | some no => (s.updSlot j (fun x => { x with prepareTag := none })).completeAny no status detail
  | none => s

/-- Contexts of a job end with code 45 (R270, R277): recorded on their Nibs. -/
def State.endJobContexts (s : State) (job : Nat) : State :=
  s.forEach (List.range 32) (fun s n =>
    (s.nib n).ctxs.foldl (fun s e => match e.2 with
      | some k =>
        if s.jobOf k.thread = job then
          s.updNib n (fun x => { x with lastFault := 45, faultPc := k.pc, faultProgram := k.program, faultChunk := s.chunkOf k.thread })
        else s
      | none => s) s)

/-- WAIT descriptors and waiting registrations of a job complete CANCELLED (R302). -/
def State.cancelWaits (s : State) (job : Nat) : State :=
  let ws := s.coll.waits.filter (fun w => w.job = job)
  let s := s.modColl (fun c => { c with waits := c.waits.filter (fun w => w.job ≠ job) })
  let s := s.forEach ws (fun s w => (s.updRing w.ring (fun r => { r with hold := .none })).completeDesc w.ring w.desc 10 0 0)
  let rs := s.coll.registers.filter (fun r => r.range.job = job)
  let s := s.modColl (fun c => { c with registers := c.registers.filter (fun r => r.range.job ≠ job) })
  s.forEach rs (fun s r =>
    ((s.updRing r.range.ring (fun x =>
      { x with hold := .none, sqHead := (x.sqHead + r.entries) % x.size, out_ := x.out_ ++ [r.d] })).countCp 1).completeDesc
      r.range.ring r.d.no 10 0 0)

/-- COPY descriptors of a job end CANCELLED: unperformed lines are cancelled (R322, R358). -/
def State.cancelCopies (s : State) (job : Nat) : State :=
  s.modHost (fun h => { h with copies := h.copies.map (fun c => if c.job = job && c.status = 0 then { c with status := 10 } else c) })

/-- The work of a job ends (R452). -/
def State.drainJob (s : State) (j : Nat) : State :=
  let job := s.handleOf j
  (((((s.endJobContexts job).teardownRanges job).cancelCopies job).teardownLig job).cancelWaits job)

/-- Move a slot to DRAINING (R452). -/
def State.startDrain (s : State) (j reason : Nat) : State :=
  (s.updSlot j (fun x => { x with state := .draining, endReason := reason })).drainJob j

/-- The links of a fibre: a frame or an ABORT of its margin channel comes from both (log entry 25). -/
def bothLinks (f : Nat) : List Nat := [16 * f, 16 * f + 8]

/-- Abort a LIVE or PREPARED job, forwarding ABORT once (R455). -/
def State.abortJob (s : State) (j reason : Nat) (fromLinks : List Nat) : State :=
  let x := s.slot j
  if x.state ≠ .live && x.state ≠ .prepared then s
  else
    let s := s.setFlag 0x6121 5
    let s := if x.shadow || x.aborted then s
      else
        let s := s.jobToSet j 7 reason s.cellNow 0 fromLinks
        let s := if x.coordinator then
            s.forEach x.shares (fun s e => s.jobToMac j 7 reason e.1 s.cellNow 0)
          else s.jobToMac j 7 reason x.coordMac s.cellNow 0
        s.updSlot j (fun y => { y with aborted := true })
    let s := s.startDrain j reason
    if x.state = .prepared then s.endPrepare j 23 0 else s

/-- Slots that hold something other than a reset slot. -/
def State.usedSlots (s : State) : List Nat := s.slots.keys

/-- Abort every job whose PREP_SET uses a link (R455), END_REASON given. -/
def abortJobsOnLink (s : State) (p reason : Nat) : State :=
  s.forEach s.usedSlots (fun s j => if (s.prepLinks j).contains p then s.abortJob j reason [p] else s)

/-- Abort every job whose PREP_SET uses a link of a fibre (R455, R457). -/
def abortJobsOnFibre (s : State) (f reason : Nat) : State :=
  s.forEach s.usedSlots (fun s j =>
    if (s.prepLinks j).any (fun p => p / 16 = f) then s.abortJob j reason (bothLinks f) else s)

/-- Abort every job (R459). -/
def abortAllJobs (s : State) (reason : Nat) : State := s.forEach s.usedSlots (fun s j => s.abortJob j reason [])

/-! ### JOB_PREPARE (R445, R446) -/

/-- The body field rules of R445 in byte order. -/
def State.prepareFieldsOk (s : State) (b : List Byte) : Bool :=
  let ack := leAt b 24 8
  let start := leAt b 32 8
  let fl := byteAt b 50
  let coord : Bool := bit fl 1
  let set := byteAt b 51
  leAt b 16 8 % 64 = 0 &&
  s.cellNow + 97657 ≤ ack && ack ≤ s.cellNow + 5859375000 &&
  ack + 2 * s.guardCells ≤ start &&
  (if coord then 1 ≤ leAt b 40 4 else leAt b 40 4 = 0) &&
  (!coord || beAt b 44 6 = s.moduleMac) &&
  fl < 8 && (set ≤ 11 || set = 15) && !(bit fl 2 && (set ≠ 15 || coord)) &&
  leAt b 52 12 = 0

/-- A semaphore window shares a semaphore with a live job's (R278). -/
def State.semOverlap (s : State) (slot : Nat) (r : List Byte) : Bool :=
  s.slots.any (fun e => e.1 ≠ slot && e.2.holds &&
    rangesMeet (recSemBase r) (recSemCount r) (recSemBase e.2.record.coll) (recSemCount e.2.record.coll))

/-- JOB_PREPARE at issue (R446): descriptor `no` of ring `g`. -/
def State.jobPrepare (s : State) (g no slot gen : Nat) (b : List Byte) : State :=
  let done (s : State) (st dt : Nat) := s.completeDesc g no st 0 dt
  let fl := byteAt b 50
  if !s.prepareFieldsOk b then done s 1 0
  else if (s.slot slot).state ≠ .free then done s 21 (s.slot slot).state.code
  else
    let addr := leAt b 16 8
    let mem : Bool := bit fl 0
    match s.dmaRead (s.ringDomain g) addr (if mem then 768 else 256) with
    | (none, s) => done (s.dmaError g) 18 0
    | (some bytes, s) =>
      let coll := bytes.take 256
      let mrec := bytes.drop 256
      if !recValid coll || s.semOverlap slot coll then done s 20 1
      else if mem && !(s.memRecValid slot mrec) then done s 20 2
      else
        let shadow : Bool := bit fl 2
        let s := s.updSlot slot (fun _ =>
          { state := .prepared, generation := gen, shadow := shadow, record := { coll := coll, mem := mrec }
            coordinator := bit fl 1, prepSet := byteAt b 51, coordMac := beAt b 44 6, total := leAt b 40 4
            ackDeadline := leAt b 24 8, startCell := leAt b 32 8, commitHeld := shadow, prepareTag := some no })
        if shadow then s
        else
          let s := s.jobToSet slot 1 0 (leAt b 32 8) (leAt b 24 8) []
          if bit fl 1 then s else s.sendShare slot

/-- A PREPARED slot goes to QUARANTINE (R449, R450). -/
def State.prepareEnds (s : State) (j reason detail : Nat) : State :=
  ((s.updSlot j (fun x => { x with state := .quarantine, endReason := reason, quarantineAt := s.cellNow })).setFlag 0x6121 5).endPrepare
    j 22 detail

/-- The slot goes LIVE (R449): its records are installed and its semaphores set to 0 (R278). -/
def State.goLive (s : State) (j : Nat) : State :=
  let r := (s.slot j).record.coll
  let s := s.updSlot j (fun x => { x with state := .live })
  let s := s.modColl (fun c => { c with
    tally := c.tally.filter (fun e => !(recSemBase r ≤ e.1 && e.1 < recSemBase r + recSemCount r)) })
  s.endPrepare j 0 0

/-- The coordinator's decision at ACK_DEADLINE (R449). -/
def State.decideCommit (s : State) (j : Nat) : State :=
  let x := s.slot j
  let sum := x.localSum + 1 + (x.shares.map (·.2)).foldl (· + ·) 0
  let ok : Bool := sum = x.total
  let kind := if ok then 4 else 5
  let reason := if ok then 0 else 6
  let cell := if ok then x.startCell else s.cellNow
  let s := s.forEach x.shares (fun s e => s.jobToMac j kind reason e.1 cell 0)
  let s := s.jobToSet j kind reason cell 0 []
  if ok then s.updSlot j (fun y => { y with commitHeld := true }) else s.prepareEnds j 6 1

/-- A JOB_TEARDOWN of a slot that has passed its checks (R446, R452, R477). -/
def State.jobTeardown (s : State) (no slot flags : Nat) : State :=
  let x := s.slot slot
  let s := s.updSlot slot (fun y => { y with endTags := y.endTags ++ [no] })
  if x.state = .draining then s
  else
    let s := if bit flags 1 then s.jobToSet slot 6 1 s.cellNow 0 [] else s
    let s := (s.updSlot slot (fun y => { y with scrub := bit flags 0 })).startDrain slot 1
    if x.state = .prepared then s.endPrepare slot 22 3 else s

/-- A JOB_ABORT of a slot that has passed its checks (R455, R477). -/
def State.jobAbortOp (s : State) (no slot : Nat) : State :=
  let s := s.updSlot slot (fun y => { y with endTags := y.endTags ++ [no] })
  s.abortJob slot 2 []

/-- Nothing of a draining job is left (R452). -/
def State.drained (s : State) (j : Nat) : Bool :=
  let job := s.handleOf j
  !(s.lig.accs.any (fun a => a.members.any (fun r => r.job = job))) && !(s.host.copies.any (fun c => c.job = job)) &&
  (s.jobRanges job).isEmpty

/-- Draining ends (R452, R454): QUARANTINE, the scrub list, and the descriptors that wait. -/
def State.endDrainJob (s : State) (j : Nat) : State :=
  let x := s.slot j
  let s := s.updSlot j (fun y => { y with state := .quarantine, quarantineAt := s.cellNow, endTags := [] })
  let s := if x.scrub then s.modFaults (fun f =>
      { f with scrubList := f.scrubList ++ (poolRanges x.record.mem).map (fun r => (j, r.1, r.2)) }) else s
  s.forEach x.endTags (fun s no => s.completeAny no 0 0)

/-- Twice the largest AGE_LIMIT of TC0 to TC2, in cell times (R453). -/
def State.quarantineCells (s : State) : Nat :=
  2 * ((List.range 3).map (fun c => ceilDiv (s.param 0x21E0 (1 + c) * 100000) 1024)).foldl max 0

/-! ### JOB frames received -/

/-- A JOB frame's fields obey R447. -/
def jobFrameOk (b : List Byte) : Bool :=
  let k := byteAt b 0
  let sc := byteAt b 1
  b.length = 48 && 1 ≤ k && k ≤ 7 && sc ≤ 2 && (5 ≤ k || byteAt b 5 = 0) && byteAt b 5 ≤ 9 && (sc = 2 || beAt b 6 6 = 0) &&
  beAt b 18 2 = 0 && (k = 1 || beAt b 28 8 = 0) && (if k = 2 || k = 3 then 1 ≤ beAt b 36 4 else beAt b 36 4 = 0) &&
  beAt b 40 8 = 0

/-- The slot that a JOB frame names, where its generation is the slot's. -/
def State.jobSlotOf (s : State) (b : List Byte) : Option Nat :=
  let h := beAt b 2 3
  if jobSlot h ≤ 4095 && (s.slot (jobSlot h)).generation = jobGen h && (s.slot (jobSlot h)).state ≠ .free then some (jobSlot h) else none

/-- The 10 µs spacing of SHARE allows another one (R448). -/
def Slot.shareSpaced (x : Slot) (now : Nat) : Bool := x.shareAt.all (fun t => t + 10000000 ≤ now)

/-- ACK (R448). -/
def State.onJobAck (s : State) (b : List Byte) : State :=
  match s.jobSlotOf b with
  | none => s.countMisc .ackLate 1
  | some j =>
    let x := s.slot j
    if x.state ≠ .prepared || x.ackDeadline < s.cellNow then s.countMisc .ackLate 1
    else
      let s := s.updSlot j (fun y => { y with localSum := y.localSum + beAt b 36 4 })
      if x.coordinator || x.shadow then s
      else if x.shareSpaced s.now then s.sendShare j
      else s.updSlot j (fun y => { y with shareOwed := true })

/-- SHARE (R448). -/
def State.onJobShare (s : State) (b : List Byte) : State :=
  match s.jobSlotOf b with
  | none => s.countMisc .shareExtra 1
  | some j =>
    let x := s.slot j
    let m := beAt b 12 6
    if x.state ≠ .prepared || !x.coordinator then s.countMisc .shareExtra 1
    else if x.shares.get 0 m = 0 && 256 ≤ x.shares.length then s.countMisc .shareExtra 1
    else s.updSlot j (fun y => { y with shares := y.shares.upd 0 m (max (beAt b 36 4)) })

/-- COMMIT (R449). At START_CELL − G or later the prepare timeout has won (R450, R477). -/
def State.onJobCommit (s : State) (b : List Byte) : State :=
  match s.jobSlotOf b with
  | none => s
  | some j =>
    if (s.slot j).state ≠ .prepared || (s.slot j).startCell ≤ s.cellNow + s.guardCells then s
    else (s.jobToSet j 4 0 (beAt b 20 8) 0 []).updSlot j (fun x => { x with commitHeld := true })

/-- CANCEL (R449). -/
def State.onJobCancel (s : State) (b : List Byte) : State :=
  match s.jobSlotOf b with
  | none => s
  | some j =>
    if (s.slot j).state ≠ .prepared then s
    else (s.jobToSet j 5 (byteAt b 5) (beAt b 20 8) 0 []).prepareEnds j 6 1

/-- TEARDOWN (R447): forwarded on PREP_SET (log entry 25). -/
def State.onJobTeardown (s : State) (f : Nat) (b : List Byte) : State :=
  match s.jobSlotOf b with
  | none => s
  | some j => s.jobToSet j 6 (byteAt b 5) (beAt b 20 8) 0 (bothLinks f)

/-- ABORT (R455). -/
def State.onJobAbort (s : State) (f : Nat) (b : List Byte) : State :=
  match s.jobSlotOf b with
  | none => s
  | some j => s.abortJob j 3 (bothLinks f)

/-- A JOB frame on a fibre's margin channel: discarded and counted where a field is invalid (R447). A frame for another station is
not the module's. -/
def onJob (s : State) (f : Nat) (b : List Byte) : State :=
  if !jobFrameOk b then ((s.countFibre f 4).setFlag (0x6440 + f) 1).countMisc .jobFrameBad 1
  else if byteAt b 1 = 2 && beAt b 6 6 ≠ s.moduleMac then s
  else match byteAt b 0 with
    | 2 => s.onJobAck b
    | 3 => s.onJobShare b
    | 4 => s.onJobCommit b
    | 5 => s.onJobCancel b
    | 6 => s.onJobTeardown f b
    | 7 => s.onJobAbort f b
    | _ => s

/-- Whether a JOB frame is of a KIND. -/
def isJobKind (b : List Byte) (k : Nat) : Bool := byteAt b 0 = k

end Sys2Proof.Machine
end

