-- ==== Sys2Proof/Machine/NibProg.lean ====
section
/-!
DEFINITION. Nib programs (R254 to R271): image validation, the instruction word, invocation and residency, and the effect of each
instruction on its context.
-/

namespace Sys2Proof.Machine

/-! ### The instruction word (R262) -/

/-- Instruction k of an image, as a 128-bit number. -/
def instrAt (b : List Byte) (k : Nat) : Nat := leAt b (64 + 16 * k) 16

/-- Fields of R262. -/
def iOp (w : Nat) : Nat := bits w 127 120
def iMode (w : Nat) : Nat := bits w 119 116
def iInd (w : Nat) : Bool := bit w 115
def iFin (w : Nat) : Nat := bits w 114 110
def iFout (w : Nat) : Nat := bits w 109 105
def iImm (w : Nat) : Nat := bits w 95 64
def iA (w : Nat) : Nat := bits w 63 48
def iB (w : Nat) : Nat := bits w 47 32
def iC (w : Nat) : Nat := bits w 31 16
def iD (w : Nat) : Nat := bits w 15 0

/-- IMM as a signed number modulo 2^64. -/
def signedImm (v : Nat) : Nat := if v < 2 ^ 31 then v else v + 2 ^ 64 - 2 ^ 32

/-- Fields of a PASS's IMM (R265). -/
def pShape (w : Nat) : Nat := bits (iImm w) 31 30
def pSize (w : Nat) : Nat := bits (iImm w) 29 22
def pWfmt (w : Nat) : Nat := bits (iImm w) 21 17
def pResW (w : Nat) : Bool := bit (iImm w) 16
def pResA (w : Nat) : Bool := bit (iImm w) 15
def pConv (w : Nat) : Bool := bit (iImm w) 14
def pResReg (w : Nat) : Nat := iImm w % 16

/-- Which fields an opcode uses. -/
structure Uses where
  mode : Bool := false
  ind : Bool := false
  fin_ : Bool := false
  fout : Bool := false
  imm : Bool := false
  a : Bool := false
  b : Bool := false
  c : Bool := false
  d : Bool := false
deriving DecidableEq, Repr

/-- The opcodes of R263 and their operands. -/
def opUses : Nat → Option Uses
  | 0x01 => some {}
  | 0x02 => some { a := true }
  | 0x03 | 0x04 | 0x05 => some { a := true, b := true }
  | 0x08 => some { a := true, d := true, imm := true }
  | 0x09 => some { a := true, b := true, c := true, imm := true }
  | 0x0A | 0x0B => some { a := true, b := true, c := true }
  | 0x0C => some { a := true, b := true, d := true, imm := true }
  | 0x0E | 0x0F => some { a := true, b := true, d := true, imm := true }
  | 0x10 => some { a := true, b := true, c := true, d := true, imm := true }
  | 0x11 => some { a := true, b := true, c := true, d := true, fout := true }
  | 0x12 => some { a := true, b := true, c := true }
  | 0x18 => some { a := true, b := true, c := true, fin_ := true, mode := true }
  | 0x19 => some { a := true, b := true, c := true, d := true, fout := true, mode := true }
  | 0x21 => some { a := true, b := true, c := true, d := true, imm := true, fin_ := true, fout := true, mode := true, ind := true }
  | 0x28 | 0x29 | 0x2A => some { a := true, b := true, d := true, imm := true }
  | _ => none

/-- Bits of OPD that an opcode uses. -/
def opdBits : Nat → Nat
  | 0x08 => 1 | 0x0C => 1 | 0x0E => 3 | 0x0F => 3 | 0x11 => 4 | 0x19 => 1 | 0x28 => 1 | 0x29 => 1 | 0x2A => 1 | _ => 16

/-- Reserved and unused fields are 0 (code 7). -/
def reservedFieldsOk (w : Nat) (u : Uses) : Bool :=
  let op := iOp w
  let sem : Bool := op = 0x28 || op = 0x29 || op = 0x2A
  bits w 104 96 = 0 && (u.mode || iMode w = 0) && (u.ind || !iInd w) && (u.fin_ || iFin w = 0) && (u.fout || iFout w = 0) &&
  (u.imm || iImm w = 0) && (u.a || iA w = 0) && (u.b || iB w = 0) && (u.c || iC w = 0) && (u.d || iD w = 0) &&
  iD w / 2 ^ opdBits op = 0 &&
  (!sem || (if bit (iD w) 0 then iImm w = 0 else iB w = 0)) &&
  (op ≠ 0x21 || (bits (iImm w) 13 4 = 0 && (pResW w || pResA w || pResReg w = 0)))

/-- Register, immediate, SHAPE, SIZE and WIDTH ranges (code 8). -/
def rangesOk (w : Nat) : Bool :=
  let op := iOp w
  let reg (x : Nat) : Bool := x ≤ 15
  match op with
  | 0x03 | 0x04 | 0x05 => reg (iB w)
  | 0x08 => reg (iA w)
  | 0x09 | 0x0A | 0x0B | 0x11 | 0x12 | 0x18 | 0x19 => reg (iA w) && reg (iB w) && reg (iC w)
  | 0x0C => reg (iA w) && reg (iB w) && iImm w ≤ 63
  | 0x0E | 0x0F => reg (iA w) && reg (iB w) && iD w % 4 ≤ 1
  | 0x10 => reg (iA w) && reg (iB w) && reg (iC w) && reg (iD w) && 1 ≤ iImm w && iImm w ≤ 8192
  | 0x21 => reg (iA w) && reg (iB w) && reg (iC w) && reg (iD w) && pShape w ≠ 3 &&
      (pSize w = 128 || (pShape w ≠ 0 && (pSize w = 16 || pSize w = 32 || pSize w = 64)))
  | 0x28 | 0x29 | 0x2A => reg (iB w)
  | _ => true

/-- Formats (code 11): R263, R265. CONV set requires FMT_IN 1, and either value of CONV serves FMT_IN 1 (log entry 26). -/
def formatsOk (w : Nat) : Bool :=
  let ok (f : Nat) : Bool := 1 ≤ f && f ≤ 12
  match iOp w with
  | 0x11 | 0x19 => ok (iFout w)
  | 0x18 => ok (iFin w)
  | 0x21 =>
    let fi := iFin w
    let fo := iFout w
    let wf := pWfmt w
    1 ≤ fi && fi ≤ 11 && ok fo && (fi = 1 || !pConv w) &&
    (if fi ≤ 3 then wf = 2 || wf = 3 else if fi ≤ 10 then 4 ≤ wf && wf ≤ 10 else wf = 11) &&
    (decide (fi = 11) == decide (fo = 12)) &&
    (!(isMx fi || isMx wf || isMx fo) || 32 ≤ pSize w) &&
    (!(pResW w || pResA w) || (fo ≠ 1 && fo ≠ 12))
  | _ => true

/-- The checks of one instruction in the order of R259: a code. -/
def instrCheck (count sems w : Nat) : Option Nat :=
  let op := iOp w
  match opUses op with
  | none => some 6
  | some u =>
    if !reservedFieldsOk w u then some 7
    else if !rangesOk w then some 8
    else if 2 ≤ op && op ≤ 5 && count ≤ iA w then some 9
    else if u.mode && !modeOk (iMode w) then some 10
    else if op = 0x21 && modeRound (iMode w) = 2 then some 12
    else if !formatsOk w then some 11
    else if 0x28 ≤ op && sems ≤ iA w then some 13
    else none

/-- Validation of an image (R259): code and failing instruction. -/
def validateProgram (b : List Byte) : Nat × Nat :=
  let n := progInstrs b
  if leAt b 0 4 ≠ 0x5052424E || leAt b 4 2 ≠ 1 then (1, 0)
  else if 2 ≤ byteAt b 7 then (4, 0)
  else if leAt b 8 4 ≠ 68 + 16 * n + progConst b || b.length < leAt b 8 4 then (2, 0)
  else if n = 0 || 2048 < n then (5, 0)
  else if 2048 < progBlocks b then (5, 0)
  else if 32768 < progConst b || progBlocks b * 2048 < progConst b then (5, 0)
  else if 8 < progParams b then (5, 0)
  else if byteAt b 23 ≠ 0 || leAt b 28 36 ≠ 0 then (4, 0)
  else if leAt b (leAt b 8 4 - 4) 4 ≠ crc32c (b.take (leAt b 8 4 - 4)) then (3, 0)
  else match ((List.range n).map (fun k => (k, instrCheck n (progSems b) (instrAt b k)))).find? (fun x => x.2.isSome) with
    | some (k, c) => (c.getD 0, k)
    | none =>
      let last := iOp (instrAt b (n - 1))
      if last = 1 || last = 2 then (0, 0) else (15, n - 1)

/-- A program runs or waits on some Nib. -/
def State.programBusy (s : State) (p : Nat) : Bool :=
  s.nibs.any (fun e => e.2.waiting.any (fun i => i.program = p) ||
    e.2.ctxs.any (fun x => match x.2 with | some k => k.program = p | none => false))

/-- Pages held by pinned programs (R260). -/
def State.pinnedPages (s : State) : Nat :=
  (s.progs.pinned.map (fun p => imagePages (s.progs.library.get [] p))).foldl (· + ·) 0

/-- A change of the program library. -/
def State.modProgs (s : State) (g : ProgsSt → ProgsSt) : State := { s with progs := g s.progs }

/-- Programs of a store that can be evicted: no running context on the Nib and not pinned there, least recently invoked first. -/
def State.storeVictim (s : State) (n : Nat) : Option Resident :=
  let x := s.nib n
  minBy (fun (r : Resident) => r.used) (x.store.filter (fun r =>
    !(28 ≤ n && s.progs.pinned.contains r.program) &&
    !(x.ctxs.any (fun c => match c.2 with | some k => k.program = r.program | none => false))))

/-- Bring a program into a Nib's store, evicting as R261 says; none where pages cannot be freed. -/
def State.fetchProgram (s : State) (n p : Nat) : Nat → Option State
  | 0 => none
  | fuel + 1 =>
    let x := s.nib n
    let need := imagePages (s.progs.library.get [] p)
    if (x.store.map (·.pages)).foldl (· + ·) 0 + need ≤ 64 then
      some (s.updNib n (fun x => { x with store := x.store ++ [{ program := p, pages := need, image := s.progs.library.get [] p, used := x.useCount }] }))
    else match s.storeVictim n with
      | none => none
      | some r => (s.updNib n (fun x => { x with store := x.store.erase r })).fetchProgram n p fuel

/-- A program is resident on a Nib. -/
def Nib.resident (x : Nib) (p : Nat) : Bool := x.store.any (fun r => r.program = p)

/-- Fetch a pinned program into Nibs 28 to 31 where it is not resident (R259, R261). -/
def State.fetchPinned (s : State) (p : Nat) : State :=
  s.forEach [28, 29, 30, 31] (fun s n =>
    if (s.nib n).resident p then s else match s.fetchProgram n p 70 with
      | some s' => s'
      | none => s)

/-- Validate and install an image (R259): LAST_STATUS, FAILED_INSTR and LAST_PROGRAM tell how it ended. -/
def State.installImage (s : State) (b : List Byte) : State :=
  let (code, k) := validateProgram b
  let p := byteAt b 6
  let pinned : Bool := s.progs.pinned.contains p
  let pages := s.pinnedPages - imagePages (s.progs.library.get [] p) + imagePages b
  let code := if code ≠ 0 then code else if pinned && 32 < pages then 23 else if s.programBusy p then 14 else 0
  let s := s.modProgs (fun x => { x with lastStatus := code, lastProgram := p, failedInstr := k })
  if code ≠ 0 then s
  else
    let s := s.modProgs (fun x => { x with library := x.library.put [] p (b.take (leAt b 8 4)) })
    let s := { s with nibs := s.nibs.map (fun e => (e.1, { e.2 with store := e.2.store.filter (fun r => r.program ≠ p) })) }
    if pinned then s.fetchPinned p else s

/-! ### Invocation (R254 to R256, R269) -/

/-- Record a run-time fault's code on a Nib and count it (R269, R273). -/
def State.nibFault (s : State) (n code pc program chunk : Nat) : State :=
  (s.countNib n 18 1).updNib n (fun x =>
    { x with lastFault := code, faultPc := pc, faultProgram := program, faultChunk := chunk })

/-- An invocation fails: its code is recorded (R273), and the chunk fails with cause 6 (R289). Only a run-time fault is counted and has
a PC (R269). -/
def State.invokeFails (s : State) (n th program code : Nat) : State :=
  let s := s.updNib n (fun x => { x with lastFault := code, faultProgram := program, faultChunk := s.chunkOf th })
  (s.sampleEvent n 0 0 9 code).failChunk th 6 code

/-- The invocation checks of R270, codes 16 to 20. -/
def State.invokeCheck (s : State) (r : Range) : Option Nat :=
  match s.program r.program with
  | none => some 16
  | some b =>
    if s.param 0x2301 1 < progBlocks b then some 17
    else if recSemCount (s.collRec r.job) < progSems b then some 18
    else if r.params.length < progParams b then some 19
    else if progPrompt b && !r.prompt then some 20
    else none

/-- Preset registers (R255). -/
def presetRegs (chunk job elems members nib ctx : Nat) (params : List Nat) (used : Nat) : Tab Nat :=
  ([chunk, job, elems, members, nib, ctx, 0, 0] ++ params.take used).zipIdx.foldl (fun t x => t.put 0 x.2 x.1) []

/-- Start a context for the invocation at the head of the Nib's queue (R254, R256): a context number, scratch blocks and residency are
to be had, and no KIND 2 window is open (R277). -/
def State.startContext (s : State) (n : Nat) : State :=
  let x := s.nib n
  match x.waiting with
  | [] => s
  | i :: rest =>
    match s.program i.program, s.rangeOf i.thread, (List.range 64).find? (fun c => (x.ctxs.get none c).isNone) with
    | some b, some r, some c =>
      let k := progBlocks b
      if x.window || !(x.resident i.program) || i.scratchMax < x.scratchBlocks + k then s
      else match s.getBlocks n (.chunk i.thread) (2 ^ 62) 0 k 12400 with
        | none => s
        | some (s, blocks) =>
          let e := r.elemsOf (ordinalOf i.thread)
          let ctx : Ctx :=
            { thread := i.thread, program := i.program, blocks := blocks, size := k * 2048, elems := e
              issuedNo := x.issues, stepLimit := i.stepLimit
              regs := presetRegs (s.chunkOf i.thread) r.job e r.members n c r.params (progParams b)
              scratch := ((slice b (64 + 16 * progInstrs b) (progConst b)).zipIdx.foldl (fun t x => t.put 0 x.2 x.1) []) }
          let s := s.updNib n (fun y =>
            { y with
              waiting := rest, ctxs := y.ctxs.put none c (some ctx), useCount := y.useCount + 1
              store := y.store.map (fun z => if z.program = i.program then { z with used := y.useCount + 1 } else z) })
          s.updThread i.thread (fun t => { t with state := .opened, opened := s.now, base := (s.nib n).windowTime s.now })
    | _, _, _ => s

/-! ### Contexts -/

/-- A register. -/
def Ctx.reg (k : Ctx) (i : Nat) : Nat := k.regs.get 0 i

/-- Write a register; an earlier RECV's write of it no longer applies (R266). -/
def Ctx.setReg (k : Ctx) (i v : Nat) : Ctx :=
  { k with
    regs := k.regs.put 0 i (v % 2 ^ 64)
    async := k.async.map (fun a => { a with dests := a.dests.filter (fun d => d.1 ≠ i) }) }

/-- Scratch bytes. -/
def Ctx.read (k : Ctx) (a n : Nat) : List Byte := (List.range n).map (fun i => k.scratch.get 0 (a + i))

/-- Write scratch bytes. -/
def Ctx.write (k : Ctx) (a : Nat) (b : List Byte) : Ctx :=
  { k with scratch := b.zipIdx.foldl (fun t x => t.put 0 (a + x.2) x.1) k.scratch }

/-- Scratch of a context has been written: weights held in the array that came from there stand no longer for it (R267). -/
def Weights.kept (c a n : Nat) (w : Weights) : Bool := w.ctx ≠ c || a + n ≤ w.addr || w.addr + w.bytes.length ≤ a

/-- Write scratch bytes of a context. -/
def State.writeScratch (s : State) (n c a : Nat) (b : List Byte) : State :=
  (s.updCtx n c (fun k => k.write a b)).updNib n (fun x =>
    { x with active := if x.active.all (Weights.kept c a b.length) then x.active else [] })

/-- A range lies in the scratch. -/
def Ctx.inScratch (k : Ctx) (a n : Nat) : Bool := a + n ≤ k.size

/-- What an instruction reads and writes: registers and scratch ranges. -/
structure Needs where
  regs : List Nat := []
  reads : List (Nat × Nat) := []
  writes : List (Nat × Nat) := []
deriving DecidableEq, Repr

/-- Ranges that share a byte. -/
def anyMeet (l m : List (Nat × Nat)) : Bool := l.any (fun x => m.any (fun y => rangesMeet' x y))
  where rangesMeet' (x y : Nat × Nat) : Bool := x.1 < y.1 + y.2 && y.1 < x.1 + x.2

/-- The hazards of R266 are clear. -/
def Ctx.clear (k : Ctx) (q : Needs) : Bool :=
  k.async.all (fun a =>
    !(a.dests.any (fun d => q.regs.contains d.1)) &&
    !(anyMeet a.writes (q.reads ++ q.writes)) && !(anyMeet a.reads q.writes))

/-- Elements of a PASS's vectors: inputs and outputs (R265). -/
def passIn (w : Nat) : Nat := if pShape w = 1 then pSize w else 128
def passOut (w : Nat) : Nat := if pShape w = 0 then 128 else pSize w

/-- Registers and scratch ranges of an instruction. -/
def Ctx.needs (k : Ctx) (w : Nat) : Needs :=
  let a := k.reg (iA w)
  let b := k.reg (iB w)
  let c := k.reg (iC w)
  match iOp w with
  | 0x03 | 0x04 | 0x05 => { regs := [iB w] }
  | 0x08 => { regs := if bit (iD w) 0 then [iA w] else [] }
  | 0x09 | 0x0A | 0x0B => { regs := [iB w, iC w] }
  | 0x0C => { regs := [iB w] }
  | 0x0E => { regs := [iB w], reads := [((b + signedImm (iImm w)) % 2 ^ 64, 4 + 4 * (iD w % 4))] }
  | 0x0F => { regs := [iA w, iB w], writes := [((b + signedImm (iImm w)) % 2 ^ 64, 4 + 4 * (iD w % 4))] }
  | 0x10 => { regs := [iA w], writes := [(a, iImm w)] }
  | 0x11 => { regs := [iA w, iB w, iC w], reads := [(a, fmtBytes (iFout w) b)] }
  | 0x12 => { regs := [iA w, iB w, iC w], reads := [(b, c)], writes := [(a, c)] }
  | 0x18 => { regs := [iA w, iB w, iC w], reads := [(a, fmtBytes (iFin w) b)] }
  | 0x19 => { regs := [iA w, iB w, iC w], writes := [(a, fmtBytes (iFout w) b)] }
  | 0x21 =>
    let res := k.reg (pResReg w)
    let n := b * passOut w
    { regs := [iA w, iB w, iC w, iD w] ++ (if pResW w || pResA w then [pResReg w] else [])
      reads := [(a, b * fmtBytes (iFin w) (passIn w)), (k.reg (iD w), passIn w * fmtBytes (pWfmt w) (passOut w))] ++
        (if pResA w then [(res, 4 * n)] else [])
      writes := [(c, b * fmtBytes (iFout w) (passOut w))] ++ (if pResW w then [(res, 4 * n)] else []) }
  | 0x28 | 0x29 | 0x2A => { regs := if bit (iD w) 0 then [iB w] else [] }
  | _ => {}

/-- End a faulted context whose earlier instructions have completed (R269): scratch is freed, the chunk fails with cause 6. -/
def State.endFault (s : State) (n c : Nat) : State :=
  match s.ctx n c with
  | some k => match k.faulted with
    | some (code, pc) =>
      if k.async = [] then
        ((s.nibFault n code pc k.program (s.chunkOf k.thread)).sampleEvent n c pc 9 code).failChunk k.thread 6 code
      else s
    | none => s
  | none => s

/-- A run-time fault (R269): nothing of the instruction is executed; waiting RECVs are abandoned; the context ends once the earlier
asynchronous instructions have completed. -/
def State.progFault (s : State) (n c code : Nat) : State :=
  (s.updCtx n c (fun k =>
    { k with faulted := some (code, k.pc), swait := none, async := k.async.filter (fun a => a.op ≠ .recv) })).endFault n c

/-- A halted context with nothing unfinished ends (R263, R287): its scratch is freed and the chunk emits CHUNK_DONE. -/
def State.endHalt (s : State) (n c : Nat) : State :=
  match s.ctx n c with
  | some k =>
    if k.halting && k.async = [] then
      match s.rangeOf k.thread with
      | some r =>
        let th := k.thread
        let s := (s.freeRows n th).endContexts n th
        (s.updThread th (fun t => { t with state := .emitting })).sendDone n th r
      | none => s
    else s
  | none => s

/-- The instruction a context is to issue next, from the Nib's instruction store (R261). -/
def State.nextInstr (s : State) (n : Nat) (k : Ctx) : Nat :=
  match (s.nib n).store.find? (fun r => r.program = k.program) with
  | some r => instrAt r.image k.pc
  | none => 0

/-- The first instruction that issues after a trigger makes the skidding record (R274, R276); event 1 tells how many the context has
issued. -/
def State.skidIssue (s : State) (n c : Nat) : State :=
  let t := s.folio.skidding.get 0 n
  match s.ctx n c, (s.nib n).lastIssue with
  | some k, none =>
    if t = 0 then s
    else
      let r := sampleRecord s n c k.pc (t % 16) 0 0 (if t % 16 = 1 then k.steps else t / 16)
      s.updNib n (fun x => { x with lastIssue := some r })
  | _, _ => s

/-- The next instruction of a context can issue: nothing holds it back (R266, R268), or STEP_LIMIT ends the context there (R269). -/
def State.canIssue (s : State) (n c : Nat) : Bool :=
  match s.ctx n c with
  | none => false
  | some k =>
    let w := s.nextInstr n k
    !k.halting && k.faulted.isNone && k.swait.isNone &&
    (k.stepLimit ≤ k.steps || (k.clear (k.needs w) && ((iOp w ≠ 0x29 && iOp w ≠ 0x2A) || k.async = [])))

/-- The context that issues next: round robin after the one that issued last, over those whose next instruction can issue; none in a KIND 2
window (R254, R277). -/
def State.issuer (s : State) (n : Nat) : Option Nat :=
  if (s.nib n).window then none
  else ((List.range 64).map (fun i => ((s.nib n).turn + 1 + i) % 64)).find? (s.canIssue n)

/-- Issue the next instruction of a context when its opcode is `op` and its turn has come (R254), and give it its effect; STEP_LIMIT is
judged first (R269). -/
def State.issueInstr (s : State) (n c op : Nat) (act : State → Ctx → Nat → State) : State :=
  match s.ctx n c with
  | none => s
  | some k =>
    let w := s.nextInstr n k
    if iOp w ≠ op || s.issuer n ≠ some c then s
    else if k.stepLimit ≤ k.steps then s.progFault n c 36
    else
      let s := (s.countNib n 17 1).updNib n (fun x => { x with issues := x.issues + 1, turn := c })
      let no := (s.nib n).issues
      let s := s.updCtx n c (fun y => { y with steps := y.steps + 1, seq := y.seq + 1, issuedNo := no })
      let s := (s.skidIssue n c).samplePeriod n
      match s.ctx n c with
      | some k => act s k w
      | none => s

/-- Go on at an instruction. -/
def State.goTo (s : State) (n c pc : Nat) : State := s.updCtx n c (fun k => { k with pc := pc })

/-- Go on at the next instruction with a changed context. -/
def State.goNext (s : State) (n c : Nat) (g : Ctx → Ctx) : State := s.updCtx n c (fun k => { g k with pc := k.pc + 1 })

/-- Add an unfinished asynchronous instruction and go on. -/
def State.goAsync (s : State) (n c : Nat) (k : Ctx) (w : Nat) (op : AsyncOp) (g : Async → Async) : State :=
  let q := k.needs w
  let a : Async := g { seq := k.seq, pc := k.pc, op := op, word := w, reads := q.reads, writes := q.writes, issued := s.now }
  s.goNext n c (fun y => { y with async := y.async ++ [a] })

/-! ### Register and memory instructions -/

/-- JUMP, BZ, BNZ, LOOP (R263). -/
def State.branchIf (s : State) (n c : Nat) (w : Nat) (taken : Bool) (g : Ctx → Ctx) : State :=
  if taken then s.updCtx n c (fun k => { g k with pc := iA w }) else s.goNext n c g

/-- An instruction that passed its checks reads scratch: an uncorrected error is fault 44, reported when it arises (R269, R270). -/
def State.eccGuard (s : State) (n c : Nat) (ecc : Ecc) (go : State → State) : State :=
  let s := s.nibEcc n ecc
  if ecc = .uncorrected then s.progFault n c 44 else go s

/-- LDX (R263). -/
def State.doLdx (s : State) (n c : Nat) (ecc : Ecc) (k : Ctx) (w : Nat) : State :=
  let width := 4 + 4 * (iD w % 4)
  let a := (k.reg (iB w) + signedImm (iImm w)) % 2 ^ 64
  if !(k.inScratch a width) then s.progFault n c 32
  else if a % width ≠ 0 then s.progFault n c 33
  else s.eccGuard n c ecc (fun s =>
    let d := k.read a width
    s.goNext n c (fun y => y.setReg (iA w) (if bit (iD w) 2 then beNat d else leNat d)))

/-- STX (R263). -/
def State.doStx (s : State) (n c : Nat) (k : Ctx) (w : Nat) : State :=
  let width := 4 + 4 * (iD w % 4)
  let a := (k.reg (iB w) + signedImm (iImm w)) % 2 ^ 64
  if !(k.inScratch a width) then s.progFault n c 32
  else if a % width ≠ 0 then s.progFault n c 33
  else
    let v := k.reg (iA w) % 2 ^ (8 * width)
    (s.goNext n c id).writeScratch n c a (if bit (iD w) 2 then beBytes width v else leBytes width v)

/-! ### RECV (R264) -/

/-- The registers a RECV writes. -/
def recvRegs (a : Async) (x y z : Nat) (k : Ctx) : Ctx :=
  let v (i : Nat) := if i = 0 then x else if i = 1 then y else z
  a.dests.foldl (fun k d => { k with regs := k.regs.put 0 d.1 (v d.2) }) k

/-- What the RECV of a context finds: a frame, the end of the input, or nothing yet. -/
inductive RecvFind where
  | frame (f : InFrame)
  | ended
  | nothing
deriving DecidableEq, Repr

/-- Look at a thread's input queue (R264, R288). -/
def State.recvFind (s : State) (th : Nat) : RecvFind :=
  match (s.thread th).queue with
  | f :: _ => .frame f
  | [] => if s.inputComplete th then .ended else .nothing

/-- Complete the RECV `a` of a context (R264): copies the frame and writes its registers, or reports END; faults 34 and 32. -/
def State.recvDone (s : State) (n c : Nat) (a : Async) : State :=
  match s.ctx n c with
  | none => s
  | some k =>
    let without (y : Ctx) : Ctx := { y with async := y.async.filter (fun b => b.seq ≠ a.seq) }
    let addr := (a.args[0]?).getD 0
    let fault (s : State) (code : Nat) : State := (s.updCtx n c (fun y => { without y with pc := a.pc })).progFault n c code
    match s.recvFind k.thread with
    | .nothing => s
    | .ended =>
      let s := s.updCtx n c (fun y => without (recvRegs a 0 0 0x80000000 y))
      s.sampleEvent n c a.pc 8 ((s.now - a.issued) / 640)
    | .frame f =>
      let s := s.updThread k.thread (fun t => { t with queue := t.queue.drop 1 })
      if iImm a.word < f.payload.length then fault s 34
      else if !(k.inScratch addr f.payload.length) then fault s 32
      else
        let cnt := if f.fmt = 0 then f.payload.length else f.count
        let info := f.typ + f.fmt * 256 + ofBool f.last * 65536
        let s := (s.updCtx n c (fun y => without (recvRegs a cnt f.seq info y))).writeScratch n c addr f.payload
        s.sampleEvent n c a.pc 8 ((s.now - a.issued) / 640)

/-- Registers a RECV is to write, the last of equal ones alone. -/
def recvDests (w : Nat) : List (Nat × Nat) :=
  let l := [(iB w, 0), (iC w, 1), (iD w, 2)]
  l.filter (fun d => !(l.any (fun e => e.1 = d.1 && d.2 < e.2)))

/-- RECV at issue: it completes at once where its frame waits and no earlier RECV does. -/
def State.doRecv (s : State) (n c : Nat) (k : Ctx) (w : Nat) : State :=
  let earlier : Bool := k.async.any (fun a => a.op = .recv)
  let masked := (recvDests w).map (·.1)
  let s := s.updCtx n c (fun y =>
    { y with async := y.async.map (fun a => { a with dests := a.dests.filter (fun d => !(masked.contains d.1)) }) })
  let a : Async := { seq := k.seq, pc := k.pc, op := .recv, word := w, writes := (k.needs w).writes, args := [k.reg (iA w)]
                     dests := recvDests w, issued := s.now, base := (s.nib n).windowTime s.now }
  let s := s.goNext n c (fun y => { y with async := y.async ++ [a] })
  if earlier then s else s.recvDone n c a

/-! ### EMIT (R264) -/

/-- One frame of an EMIT to its set. -/
def State.emitFrame (s : State) (n c seq th : Nat) (r : Range) (set typ fmt no count : Nat) (last : Bool) (pl : List Byte) : State :=
  let s := if typ = 2 then s.updThread th (fun t =>
      { t with sent := t.sent.upd {} set (fun x => { frames := x.frames + 1, elems := x.elems + count, payload := x.payload ++ pl }) })
    else s
  if s.shadowJob r.job && typ = 2 then s
  else
    let s := s.updCtx n c (fun y =>
      { y with async := y.async.map (fun a => if a.seq = seq then { a with frames := a.frames + 1 } else a) })
    s.sendToSet r set (128 + n) (vftHeader last typ r.job r.tree fmt count (r.chunk (ordinalOf th)) no pl.length 0) pl
      (.emit n c seq set (if typ = 2 then count else 0))

/-- Cut and send the frames of an EMIT: pieces of at most the largest element count of R143. -/
def State.emitFrames (s : State) (n c seq th : Nat) (r : Range) (set typ fmt : Nat) (final : Bool) :
    Nat → Nat → List Byte → Nat → State
  | _, _, _, 0 => s
  | no, left, data, fuel + 1 =>
    if left = 0 then s
    else
      let m := min left (fmtMaxN fmt)
      let len := fmtBytes fmt m
      let s := s.emitFrame n c seq th r set typ fmt no m (final && left = m) (data.take len)
      s.emitFrames n c seq th r set typ fmt final (no + 1) (left - m) (data.drop len) fuel

/-- EMIT: checks 42, 39, 40, 37, 32, then its frames are offered (R264, R269). -/
def State.doEmit (s : State) (n c : Nat) (ecc : Ecc) (k : Ctx) (w : Nat) : State :=
  match s.rangeOf k.thread with
  | none => s
  | some r =>
    let set := iD w % 4
    let fmt := iFout w
    let addr := k.reg (iA w)
    let cnt := k.reg (iB w)
    let first := k.reg (iC w)
    if r.setIdx set = 15 then s.progFault n c 42
    else if cnt = 0 then s.progFault n c 39
    else if isMx fmt && (first % 32 ≠ 0 || cnt % 32 ≠ 0) then s.progFault n c 40
    else if k.elems < first + cnt then s.progFault n c 37
    else if !(k.inScratch addr (fmtBytes fmt cnt)) then s.progFault n c 32
    else s.eccGuard n c ecc (fun s =>
      let data := k.read addr (fmtBytes fmt cnt)
      let frames := ceilDiv cnt (fmtMaxN fmt)
      let s := s.goAsync n c k w .emit id
      let s := s.updCtx n c (fun y => { y with emitted := y.emitted + frames })
      s.emitFrames n c k.seq k.thread r set (if bit (iD w) 2 then 5 else 2) fmt (bit (iD w) 3) k.emitted cnt data (frames + 1))

/-! ### COPY, ACC, ROUND (R263) -/

/-- COPY. -/
def State.doCopy (s : State) (n c : Nat) (ecc : Ecc) (k : Ctx) (w : Nat) : State :=
  let len := k.reg (iC w)
  let src := k.reg (iB w)
  let dst := k.reg (iA w)
  if len = 0 then s.progFault n c 39
  else if !(k.inScratch src len && k.inScratch dst len) then s.progFault n c 32
  else s.eccGuard n c ecc (fun s => (s.goAsync n c k w .copy id).writeScratch n c dst (k.read src len))

/-- The row checks of ACC and ROUND before 41: a code. -/
def Ctx.elemCheck (k : Ctx) (fmt first cnt addr : Nat) : Option Nat :=
  if cnt = 0 then some 39
  else if isMx fmt && (first % 32 ≠ 0 || cnt % 32 ≠ 0) then some 40
  else if k.elems < first + cnt then some 37
  else if !(k.inScratch addr (fmtBytes fmt cnt)) then some 32
  else none

/-- ACC: terms from scratch join the chunk's rows. -/
def State.doAcc (s : State) (n c : Nat) (ecc : Ecc) (k : Ctx) (w : Nat) : State :=
  let fmt := iFin w
  let addr := k.reg (iA w)
  let cnt := k.reg (iB w)
  let first := k.reg (iC w)
  match k.elemCheck fmt first cnt addr with
  | some e => s.progFault n c e
  | none =>
    if !(s.rowsKindOk n k.thread first cnt (fastRows (iMode w) fmt)) then s.progFault n c 41
    else s.eccGuard n c ecc (fun s =>
      let vs := decodeElems fmt cnt (k.read addr (fmtBytes fmt cnt))
      match s.addTerms n k.thread first vs (fastRows (iMode w) fmt) (modeRound (iMode w) = 2 && isIntFmt fmt) (.instr c k.pc) with
      | .error .kind => s.progFault n c 41
      | .error .spillFull => (s.nibFlag n 6).progFault n c 43
      | .ok s => s.goAsync n c k w .acc id)

/-- Rows of an element range answer to a ROUND's mode, after the integer rule (R228). -/
def State.roundKindOk (s : State) (n th first cnt mode : Nat) : Bool :=
  (s.nib n).rows.all (fun y => !(y.thread = th && (rowCounts first cnt).any (fun x => x.1 = y.row)) ||
    (if modeRound mode = 2 then y.fast || y.byRule else !y.fast))

/-- Mark elements as rounded, and with FREE free the rows whose elements have all been rounded. -/
def State.markRounded (s : State) (n th elems first cnt : Nat) (free : Bool) : State :=
  let s := s.forEach (rowCounts first cnt) (fun s x =>
    let lo := max first (x.1 * 128) - x.1 * 128
    s.updRow n th x.1 (fun y => { y with rounded := y.rounded ||| ((2 ^ x.2 - 1) * 2 ^ lo) }))
  if free then
    s.updNib n (fun z => { z with rows := z.rows.filter (fun y =>
      !(y.thread = th && y.rounded = 2 ^ min 128 (elems - 128 * y.row) - 1)) })
  else s

/-- ROUND: the chunk's elements are rounded into scratch. An uncorrected error of the read of the chunk's rows fails the chunk with cause 5
(R289). -/
def State.doRound (s : State) (n c : Nat) (ecc : Ecc) (k : Ctx) (w : Nat) : State :=
  let fmt := iFout w
  let addr := k.reg (iA w)
  let cnt := k.reg (iB w)
  let first := k.reg (iC w)
  match k.elemCheck fmt first cnt addr with
  | some e => s.progFault n c e
  | none =>
    if !(s.roundKindOk n k.thread first cnt (iMode w)) then s.progFault n c 41
    else if ecc = .uncorrected then (s.nibEcc n ecc).failChunk k.thread 5 0
    else
      let s := s.nibEcc n ecc
      let job := s.jobOf k.thread
      let (vs, s) := s.elemValues n k.thread first cnt
      let (bytes, ovf, invalid) :=
        encodeElems fmt (modeSat (iMode w)) (ditherFor (iMode w) (recSeed (s.collRec job)) (s.chunkOf k.thread) first) vs
      let s := s.convFlags n ovf invalid
      let s := if 0 < ovf + invalid then s.sampleEvent n c k.pc 6 (ovf + invalid) else s
      let s := (s.goAsync n c k w .round id).writeScratch n c addr bytes
      s.markRounded n k.thread k.elems first cnt (bit (iD w) 0)

end Sys2Proof.Machine
end

