-- ==== Sys2Proof/Machine/RingIssue.lean ====
section
/-!
DEFINITION. Issue of descriptors (R351 to R358): the conditions of issue, the header check (R355), and what each opcode does at issue.
-/

namespace Sys2Proof.Machine

/-- Entries posted and not issued. -/
def CmdRing.posted (r : CmdRing) : Nat := (r.sqTail + r.size - r.sqHead) % r.size

/-- The conditions of R351 that do not look into the descriptor. -/
def CmdRing.mayIssue (r : CmdRing) : Bool :=
  r.enable && !r.halted && r.sqHead ≠ r.sqTail && r.out_.length + r.entries.length < r.size && r.hold = .none

/-- The opcodes of R353. -/
def opcodeOk (op : Nat) : Bool := (1 ≤ op && op ≤ 3) || (0x20 ≤ op && op ≤ 0x25) || (0x40 ≤ op && op ≤ 0x42)

/-- A bit of INSTALL_EN for an owner (R346). -/
def State.mayInstall (s : State) (fn : Nat) : Bool := fnVf fn = 0 && bit s.host.installEn (domNo (fnDomain fn))

/-- The header check (R355): HEADER_STATUS and DETAIL, none where it passes. -/
def State.headerCheck (s : State) (fn : Nat) (b : List Byte) : Option (Nat × Nat) :=
  let op := byteAt b 0
  let slot := leAt b 2 2
  let gen := byteAt b 4
  if !opcodeOk op then some (1, 0)
  else if 4 ≤ byteAt b 1 || leAt b 5 3 ≠ 0 || (op ≤ 2 && (slot ≠ 0 || gen ≠ 0)) then some (2, 0)
  else if 2 < op && !(s.slotOwned fn slot) then some (3, 0)
  else if op = 2 && !(s.mayInstall fn) then some (4, 0)
  else if op ≤ 2 || op = 0x40 then none
  else (s.jobCheck slot gen (op = 0x41 || op = 0x42)).map (fun c => (5, c))

/-- The ring moves past an issued descriptor, which is outstanding (R351). -/
def State.takeDesc (s : State) (g : Nat) (d : Desc) (entries : Nat) : State :=
  (s.updRing g (fun r => { r with sqHead := (r.sqHead + entries) % r.size, out_ := r.out_ ++ [d] })).countCp 1

/-- A range is registered: its descriptor issues and the ring moves on (R283, R290). -/
def State.rangeIssued (s : State) (q : Register) : State :=
  let s := s.modColl (fun c => { c with registers := c.registers.filter (fun x => x.d.no ≠ q.d.no) })
  let g := q.range.ring
  (((s.updRing g (fun r => { r with hold := .none })).takeDesc g q.d q.entries)).registerRange q.range

/-- A registration that ends without a range: its descriptor completes with a status. -/
def State.rangeRefused (s : State) (q : Register) (status : Nat) : State :=
  let s := s.modColl (fun c => { c with registers := c.registers.filter (fun x => x.d.no ≠ q.d.no) })
  let g := q.range.ring
  ((s.updRing g (fun r => { r with hold := .none })).takeDesc g q.d q.entries).completeDesc g q.d.no status 0 0

/-- A range descriptor (R281, R282, R290). DETAIL of status 8 holds the code of R270 (log entry 39). -/
def State.issueRange (s : State) (g : Nat) (d : Desc) (entries : Nat) (b : List Byte) (params : List Nat) : State :=
  let r := rangeOfBody (leAt b 2 2 * 256 + byteAt b 4) (byteAt b 0) b g d.no params
  match s.rangeCheck r b with
  | some st =>
    let code := if st = 8 then (s.programCheck r).getD 0 else 0
    (s.takeDesc g d entries).completeDesc g d.no st 0 code
  | none =>
    let q : Register := { range := r, d := d, entries := entries, since := s.now }
    if s.fitsNow r then s.rangeIssued q
    else
      let s := (s.countCp 16).setFlag 0x65C1 4
      (s.modColl (fun c => { c with registers := c.registers ++ [q] })).updRing g (fun x => { x with hold := .register })

/-- SEM_OP (R296). -/
def State.issueSemOp (s : State) (g : Nat) (d : Desc) (b : List Byte) : State :=
  let job := leAt b 2 2 * 256 + byteAt b 4
  let rc := s.collRec job
  let done (s : State) (st : Nat) := s.completeDesc g d.no st 0 0
  let index := leAt b 16 2
  let act := byteAt b 18
  let v := leAt b 20 4
  let us := leAt b 24 4
  let i := recSemBase rc + index
  let s := s.takeDesc g d 1
  if recSemCount rc ≤ index then done s 3
  else if act = 0 || 3 < act || byteAt b 19 ≠ 0 then done s 1
  else if act ≠ 1 && v = 0 then done s 1
  else if (if act = 1 then us = 0 || 10000000 < us else us ≠ 0) then done s 1
  else if leAt b 28 36 ≠ 0 then done s 1
  else if act = 1 then
    if v ≤ s.sem i then done (s.countCp 14) 0
    else
      ((s.countCp 14).modColl (fun c => { c with waits := c.waits ++ [
        { ring := g, desc := d.no, job := job, index := i, value := v, limit := us, since := s.now }] })).updRing g
        (fun x => { x with hold := .wait })
  else match (if act = 2 then s.semAdd i v else s.semSub i v) with
    | some s' => done s' 0
    | none => done s 11

/-- The fields that SEM_SAVE and SEM_RESTORE share (R297), in byte order: a status. -/
def State.semImageCheck (s : State) (g : Nat) (b : List Byte) (save : Bool) : Option Nat :=
  let rc := s.collRec (leAt b 2 2 * 256 + byteAt b 4)
  let addr := leAt b 16 8
  let first := leAt b 24 2
  let count := leAt b 26 2
  let d := s.ringDomain g
  let inRegion : Bool := match d with
    | .p0 => let r := s.quillRegion false; r.1 ≤ addr && addr + 20 + 4 * count ≤ r.1 + r.2
    | .p1 => let r := s.quillRegion true; r.1 ≤ addr && addr + 20 + 4 * count ≤ r.1 + r.2
    | _ => true
  if addr % 64 ≠ 0 then some 1
  else if recSemCount rc ≤ first then some 3
  else if count = 0 then some 1
  else if recSemCount rc - first < count then some 3
  else if leAt b 28 36 ≠ 0 then some 1
  else if !inRegion then some (if save then 18 else 1)
  else none

/-- The semaphore image of R297. -/
def State.semImage (s : State) (job base first count : Nat) : List Byte :=
  let body := leBytes 8 s.cellNow ++ leBytes 3 job ++ zeros 1 ++ leBytes 2 first ++ leBytes 2 count ++
    (List.range count).flatMap (fun i => leBytes 4 (s.sem (base + first + i)))
  body ++ leBytes 4 (crc32c body)

/-- SEM_SAVE (R297). -/
def State.issueSemSave (s : State) (g : Nat) (d : Desc) (b : List Byte) : State :=
  let job := leAt b 2 2 * 256 + byteAt b 4
  let s := s.takeDesc g d 1
  let done (s : State) (st : Nat) := s.completeDesc g d.no st 0 0
  match s.semImageCheck g b true with
  | some st => done (if st = 18 then s.dmaError g else s) st
  | none =>
    match s.dmaWrite (s.ringDomain g) (leAt b 16 8)
        (s.semImage job (recSemBase (s.collRec job)) (leAt b 24 2) (leAt b 26 2)) with
    | some s' => done (s'.countCp 14) 0
    | none => done (s.dmaError g) 18

/-- SEM_RESTORE (R297). -/
def State.issueSemRestore (s : State) (g : Nat) (d : Desc) (b : List Byte) : State :=
  let job := leAt b 2 2 * 256 + byteAt b 4
  let base := recSemBase (s.collRec job)
  let s := s.takeDesc g d 1
  let done (s : State) (st : Nat) := s.completeDesc g d.no st 0 0
  let first := leAt b 24 2
  let count := leAt b 26 2
  match s.semImageCheck g b false with
  | some st => done s st
  | none =>
    match s.dmaRead (s.ringDomain g) (leAt b 16 8) (20 + 4 * count) with
    | (none, s) => done (s.dmaError g) 14
    | (some im, s) =>
      if leAt im (16 + 4 * count) 4 ≠ crc32c (im.take (16 + 4 * count)) || leAt im 14 2 ≠ count || byteAt im 11 ≠ 0 then done s 14
      else
        let hit (i : Nat) : Bool := base + first ≤ i && i < base + first + count
        let waits : Bool := s.coll.waits.any (fun w => hit w.index) ||
          s.nibs.any (fun e => e.2.ctxs.any (fun x => match x.2 with
            | some k => match k.swait with | some w => hit w.index | none => false
            | none => false))
        let live : Bool := (s.jobRanges job).any (fun x => x.2.ended < x.2.count)
        if waits || live then done (s.setFlag 0x65C1 6) 13
        else
          let fresh := (List.range count).foldl
            (fun t i => t.put 0 (base + first + i) (leAt im (16 + 4 * i) 4)) s.coll.tally
          let s := (s.modColl (fun c => { c with tally := fresh })).countCp 14
          done s 0

/-- INSTALL_PROGRAM once the library is free (R357). -/
def State.installNow (s : State) (g no addr bytes : Nat) : State :=
  match s.dmaRead (s.ringDomain g) addr bytes with
  | (none, s) => (s.dmaError g).completeDesc g no 18 0 0
  | (some im, s) =>
    let s := s.installImage im
    let code := s.progs.lastStatus
    s.completeDesc g no (if code = 0 then 0 else 19) 0 code

/-- INSTALL_PROGRAM (R357): it waits, and holds its ring, while NIB_PROG_CMD loads or installs. -/
def State.issueInstall (s : State) (g : Nat) (d : Desc) (b : List Byte) : State :=
  let addr := leAt b 16 8
  let n := leAt b 24 4
  let s := s.takeDesc g d 1
  if addr % 64 ≠ 0 || n < 68 || 65604 < n || leAt b 28 36 ≠ 0 then s.completeDesc g d.no 1 0 0
  else if s.progs.state ≠ 0 then s.updRing g (fun x => { x with hold := .install, install := some (d.no, addr, n) })
  else s.installNow g d.no addr n

/-- Rings whose INSTALL_PROGRAM waits resume when STATE has returned to 0 (R357), lowest ring first. -/
def State.resumeInstalls (s : State) : State :=
  if s.progs.state ≠ 0 then s
  else s.forEach (s.host.rings.filterMap (fun e => e.2.install.map (fun i => (e.1, i)))) (fun s x =>
    (s.updRing x.1 (fun r => { r with hold := .none, install := none })).installNow x.1 x.2.1 x.2.2.1 x.2.2.2)

/-- Lines of a COPY handed to Ligature, in ascending order (R358): for DIR 0 each line is read from owner memory; a read that fails
ends the copy at that line. -/
def State.copyLines (s : State) (g : Nat) (c : CopyJob) (w : Nat × Window) : Nat → Nat → State
  | _, 0 => s
  | k, fuel + 1 =>
    if c.length / 64 ≤ k then s
    else
      let addr := c.fabric + 64 * k
      match (if c.dir then (some [], s) else s.dmaRead (s.ringDomain g) (c.hostAddr + 64 * k) 64) with
      | (none, s) =>
        let left := c.length / 64 - k
        let s := (s.dmaError g).modHost (fun h => { h with copies := h.copies.map (fun x => if x.desc = c.desc then
          { x with left := x.left - left, status := if x.status = 0 then 18 else x.status } else x) })
        s.reviewCopy c.desc
      | (some d, s) =>
        let target := s.poolBase + w.2.target + (addr - w.2.base)
        if !(s.lpdPresent target 64) then
          let left := c.length / 64 - k
          let s := s.modHost (fun h => { h with copies := h.copies.map (fun x => if x.desc = c.desc then
            { x with left := x.left - left, status := if x.status = 0 then 16 else x.status } else x) })
          s.reviewCopy c.desc
        else
          let r : LigReq :=
            { no := s.lig.nextReq, link := 1024, head := [], routed := false, copy := some (c.desc, k), job := c.job
              typ := if c.dir then 0x10 else 0x11, addr := addr, size := 6, op := 0, reqId := 0, fence := false, noComb := true
              data := d, window := w.1, target := target, home := none, combine := false, accepted := s.now }
          (s.placeReq r).copyLines g c w (k + 1) fuel

/-- COPY (R358). -/
def State.issueCopy (s : State) (g : Nat) (d : Desc) (b : List Byte) : State :=
  let job := leAt b 2 2 * 256 + byteAt b 4
  let host := leAt b 16 8
  let fab := leAt b 24 8
  let len := leAt b 32 4
  let dir := byteAt b 36
  let s := s.takeDesc g d 1
  let done (s : State) (st : Nat) := s.completeDesc g d.no st 0 0
  if host % 64 ≠ 0 || fab % 64 ≠ 0 || len < 64 || 16777216 < len || len % 64 ≠ 0 || 1 < dir || leAt b 37 27 ≠ 0 then done s 1
  else
    let right := if dir = 0 then 1 else 0
    match (s.jobWindows job).find? (fun x => x.2.kind = 1 && x.2.base ≤ fab && fab + len ≤ x.2.base + x.2.len && bit x.2.rights right) with
    | none => done s 15
    | some w =>
      let c : CopyJob :=
        { ring := g, desc := d.no, job := job, hostAddr := host, fabric := fab, length := len, dir := dir = 1, left := len / 64 }
      (s.modHost (fun h => { h with copies := h.copies ++ [c] })).copyLines g c w 0 (len / 64)

/-- What an opcode does at issue, its header having passed. -/
def State.issueBody (s : State) (g : Nat) (d : Desc) (entries : Nat) (b : List Byte) (params : List Nat) : State :=
  let slot := leAt b 2 2
  let done (s : State) (st : Nat) := s.completeDesc g d.no st 0 0
  match byteAt b 0 with
  | 0x01 => done (s.takeDesc g d 1) (if leAt b 16 48 = 0 then 0 else 1)
  | 0x02 => s.issueInstall g d b
  | 0x03 => s.issueCopy g d b
  | 0x23 => s.issueSemOp g d b
  | 0x24 => s.issueSemSave g d b
  | 0x25 => s.issueSemRestore g d b
  | 0x40 => (s.takeDesc g d 1).jobPrepare g d.no slot (byteAt b 4) b
  | 0x41 =>
    let s := s.takeDesc g d 1
    if 4 ≤ byteAt b 16 || leAt b 17 47 ≠ 0 then done s 1 else s.jobTeardown d.no slot (byteAt b 16)
  | 0x42 =>
    let s := s.takeDesc g d 1
    if leAt b 16 48 ≠ 0 then done s 1 else s.jobAbortOp d.no slot
  | _ => s.issueRange g d entries b params

/-- Opcodes that use a Nib or send frames into the fabric: they start once SERVICE is set (R60). -/
def needsService (op : Nat) : Bool := (0x20 ≤ op && op ≤ 0x22) || (0x40 ≤ op && op ≤ 0x42)

/-- The ring fetches and issues its next descriptor when the issue conditions hold (R351, R356); with `only` given, when its opcode is
one of those. -/
def State.issueHead (s : State) (g : Nat) (only : List Nat) (what : List Byte → Bool) : State :=
  let r := s.ring g
  if !r.mayIssue then s
  else match s.dmaRead (s.ringDomain g) (r.descBase + 64 * r.sqHead) 64 with
    | (none, t) => if only = [] then t.haltRing g 1 else s
    | (some b, t) =>
      let op := byteAt b 0
      let fence : Bool := bit (byteAt b 1) 0
      let cont : Bool := op = 0x21 && 1 ≤ byteAt b 52 && byteAt b 52 ≤ 8
      if (only ≠ [] && !(only.contains op && what b)) || (fence && r.out_ ≠ []) || (cont && r.posted < 2) ||
          (!s.service && needsService op) then s
      else
        match (if cont then t.dmaRead (s.ringDomain g) (r.descBase + 64 * ((r.sqHead + 1) % r.size)) 64 else (some [], t)) with
        | (none, s) => s.haltRing g 1
        | (some p, s) =>
          let entries := if cont then 2 else 1
          let d : Desc := { no := s.host.nextDesc, index := r.sqHead, tag := leAt b 8 8, irq := bit (byteAt b 1) 1 }
          let s := (s.modHost (fun h => { h with nextDesc := h.nextDesc + 1 })).countHost (s.ringDomain g) 1
          match s.headerCheck (s.ringOwner g) b with
          | some (c, dt) => (s.takeDesc g d entries).completeDesc g d.no 1 c dt
          | none => s.issueBody g d entries b ((List.range (if cont then byteAt b 52 else 0)).map (fun i => leAt p (8 * i) 8))

/-- Every descriptor is of the sort asked for. -/
def anyBody (_ : List Byte) : Bool := true

/-- ACTION of a SEM_OP. -/
def semAction (a : Nat) (b : List Byte) : Bool := byteAt b 18 = a

end Sys2Proof.Machine
end

