-- ==== Sys2Proof/Machine/HostOps.lean ====
section
/-!
DEFINITION. Resets of functions and ports of the host interface (R362), and the words that BAR0 and Codex share: BOOT_STATUS
(R64) and PWR_EVENTS (R36).
-/

namespace Sys2Proof.Machine

/-- BOOT_STATUS (R64). -/
def State.bootStatus (s : State) : Nat :=
  let b := s.boot
  ofBool b.recovery * 2 ^ 31 + (if b.recovery then 2 else b.activeBank) * 2 ^ 28 + ofBool b.warm * 2 ^ 27 +
  b.failCode * 2 ^ 16 + b.done.toNat

/-- QUILL_STEP in force (R35). -/
def State.quillStep (s : State) : Nat :=
  if s.power.floors then 10 else min 10 (max s.power.powerQuill (max s.power.coreQuill s.power.lpdQuill))

/-- PWR_EVENTS (R36). -/
def State.pwrEvents (s : State) : Nat :=
  s.power.lastOff * 2 ^ 20 + s.quillStep * 2 ^ 16 + s.nibStep * 2 ^ 8 + (s.flagObj 0x6200).val.toNat

/-- Functions that a host's port shows now: its PF and the VFs enabled. -/
def State.portFunctions (s : State) (hostB : Bool) : List Nat :=
  let pf := if hostB then 64 else 0
  pf :: (s.port hostB).enabled.map (pf + ·)

/-- A bit of BOOT_STATUS has changed: every function and partition whose owner is attached sees BOOT_CHANGE (R360). -/
def State.bootChanged (s : State) : State :=
  s.forEach (s.portFunctions false ++ s.portFunctions true ++ [128, 129]) (fun s fn => s.hostEvent fn 1)

/-- Set or clear a DONE bit of BOOT_STATUS, and BOOT_CHANGE where it changes (R64, R360). -/
def State.markDone (s : State) (b : Nat) (v : Bool) : State :=
  if s.boot.done.getLsbD b = v then s else (s.setDone b v).bootChanged

/-- What waits at a ring's head ends with no entry (R363): a semaphore wait, a registration, an install. -/
def State.dropHold (s : State) (g : Nat) : State :=
  let s := s.modColl (fun c =>
    { c with waits := c.waits.filter (fun w => w.ring ≠ g), registers := c.registers.filter (fun r => r.range.ring ≠ g) })
  s.updRing g (fun r => { r with hold := .none, install := none })

/-- A ring of a function that is reset (R362): disabled, posted descriptors dropped, the entries of issued ones discarded. -/
def State.resetRing (s : State) (g : Nat) : State :=
  let waited := (s.coll.waits.filter (fun w => w.ring = g)).map (·.desc)
  (s.dropHold g).updRing g (fun r =>
    { r with
      enable := false, halted := false, haltCause := 0, sqTail := r.sqHead, entries := []
      out_ := (r.out_.filter (fun d => !(waited.contains d.no))).map (fun d => { d with discard := true }) })

/-- Function Level Reset of one function or VF (R362): its rings, its MSI-X table, HOST_EVENTS and mailbox. -/
def State.resetFunction (s : State) (fn : Nat) : State :=
  let s := s.forEach (s.host.rings.keys.filter (fun g => s.ringOwner g = fn)) State.resetRing
  s.updFunc fn (fun _ => {})

/-- Function Level Reset of a PF: every VF is reset and VF Enable clears; VF_ASSIGN keeps its values (R362). -/
def State.resetPf (s : State) (hostB : Bool) : State :=
  (s.forEach (s.portFunctions hostB) State.resetFunction).updPort hostB (fun p => { p with vfEnable := false, vfs := 0 })

/-- A port's link goes down (R362): as a PF reset, and a COPY of the port completes internally with DMA_ERROR. -/
def State.portLinkDown (s : State) (hostB : Bool) : State :=
  let d : Domain := if hostB then .hostB else .hostA
  let hit := s.host.copies.filter (fun c => s.ringDomain c.ring = d && c.status = 0)
  let s := s.modHost (fun h => { h with copies := h.copies.map (fun c =>
    if hit.contains c then { c with status := 18 } else c) })
  (s.resetPf hostB).updPort hostB (fun p => { p with up := false, training := false, speed := 0, width := 0 })

end Sys2Proof.Machine
end

