-- ==== Sys2Proof/Machine/LinkOps.lean ====
section
/-!
DEFINITION. Changes of lane and link states (R74 to R81), and replay (R134, R135).
-/

namespace Sys2Proof.Machine

/-- A link goes down to a state (R76): queued and replay frames are discarded and counted, SEQ and credits restart,
LINK_DOWN is set, and the jobs whose PREP_SET uses it are aborted (R455). -/
def linkDown (s : State) (p : Nat) (dest : LinkState) : State :=
  let x := s.link p
  let s := s.updLink p (fun _ => { state := dest, attempts := x.attempts, draining := x.draining })
  if x.inService then
    let s := s.countMisc .linkDownDropped x.replay.length
    let s := (s.setFlag (0x6340 + p / 16) 1).countFibre (p / 16) 0x2D
    abortJobsOnLink (dropLinkQueues s p) p 5
  else s

/-- A link comes up: SEQ and SENT start at 0 (R134, R157). -/
def linkComesUp (s : State) (p : Nat) (st : LinkState) : State :=
  s.updLink p (fun x => { state := st, attempts := x.attempts, draining := x.draining })

/-- Follow a change of the link's lanes (R76). -/
def reviewLink (s : State) (p : Nat) : State :=
  let n := s.activeLanes p
  let enough := 1 ≤ n && s.minLanes p ≤ n
  let full := if (s.usedLanes p).all (fun w => (s.lane (p / 16) w).state = .inn) then LinkState.up else .reduced
  match (s.link p).state with
  | .training => if enough then linkComesUp s p full else s
  | .up => if enough then s.updLink p (fun x => { x with state := full }) else linkDown s p .training
  | .reduced => if enough then s.updLink p (fun x => { x with state := full }) else linkDown s p .training
  | _ => s

/-- The start of replay storage's oldest frame of a lane, or of all frames. -/
def replayPoint (l : List HeldFrame) (lane : Option Nat) : Option Nat :=
  ((l.filter (fun h => lane.all (fun w => h.lane = w)))[0]?).map (·.seq)

/-- Sequence number a is newer than b modulo 2^24 (R134). -/
def linkNewer (a b : Nat) : Bool :=
  let d := (a + 2 ^ 24 - b) % 2 ^ 24
  1 ≤ d && d ≤ 0x7FFFFF

/-- The link word of R132: KIND, TC, SEQ and their check. -/
def linkWordOf (kind tc seq : Nat) : Nat :=
  let w := kind * 2 ^ 30 + tc * 2 ^ 27 + seq
  w * 2 ^ 16 + crc8 (beBytes 4 w) * 2 ^ 8

/-- Resend every held frame from `from_` onwards, in SEQ order, over the lanes in service, deficit round robin over
whole frames (R135). In an idle window nothing is resent (R100). `timed` tells a replay of the timeout (R157). -/
def replayFrom (s : State) (p from_ : Nat) (timed : Bool) : State :=
  let x := s.link p
  let lanes := s.lanesIn p
  let again := x.replay.filter (fun h => h.seq = from_ || linkNewer h.seq from_)
  if again = [] || lanes = [] || (s.fibre (p / 16)).suspended then s
  else
    let lane (i : Nat) := (lanes[i % lanes.length]?).getD 0
    let s := (again.zipIdx).foldl (fun s (h, i) => s.emit (.dataFrame p (lane i) (linkWordOf 0 h.tc h.seq) h.bytes)) s
    let s := s.updLink p (fun y =>
      { y with
        replay := (y.replay.filter (fun h => !(h.seq = from_ || linkNewer h.seq from_))) ++
          (again.zipIdx).map (fun (h, i) => { h with lane := lane i })
        replayTimed := timed
        replayAt := some (from_, s.now +
          ((lanes.zipIdx).map (fun (_, k) => (((again.zipIdx).filter (fun (_, i) => i % lanes.length = k)).map
            (fun (h, _) => 40 * (h.bytes.length + 20))).foldl (· + ·) 0)).foldl max 0) })
    let s := s.setFlag (0x6440 + p / 16) 4
    (s.count (0x7C00 + p) 9 again.length).countFibre (p / 16) 9

/-- A replay from `point` that begins while another runs goes on from that one's start point, where it is older (R157). -/
def replayStart (x : LinkSt) (now point : Nat) : Nat :=
  match x.replayAt with
  | some (q, until_) => if now < until_ && linkNewer point q then q else point
  | none => point

/-- LANE_DROP payload (R150). -/
def laneDropPayload (w cause : Nat) : List Byte := beBytes 1 w ++ beBytes 1 cause ++ zeros 2

/-- The ring of a lane. -/
def Lane.ring (y : Lane) : Ring → RingSt
  | .modulator => y.modulator
  | .drop => y.drop
  | .addDrop => y.addDrop

/-- Change a ring of a lane. -/
def Lane.updRing (y : Lane) (r : Ring) (g : RingSt → RingSt) : Lane :=
  match r with
  | .modulator => { y with modulator := g y.modulator }
  | .drop => { y with drop := g y.drop }
  | .addDrop => { y with addDrop := g y.addDrop }

/-- Put a trial's ring back to its set-point before the trial (R91). -/
def abandonTrial (s : State) (f : Nat) : State :=
  match (s.fibre f).trial with
  | some t =>
    (s.updLane f t.lane (fun y => y.updRing t.ring (fun r => { r with setPoint := t.saved }))).updFibre f
      (fun x => { x with trial := none })
  | none => s

/-- A lane with its progress towards IN forgotten. -/
def Lane.cleared (y : Lane) : Lane :=
  { y with soaked := false, addSeq := none, pilotGood := 0, pilotBad := 0, pilotLines := 0, drop := { y.drop with locked := false } }

/-- Where a lane that starts again stands (R75): HELD for its fibre's hold, else HELD for the newest of its own causes, else LOCK.
That a fibre's hold is shown over a lane's own cause is a DESIGN CHOICE (log entry 155). -/
def Lane.restart (all : Hold) (y : Lane) : Lane :=
  if all ≠ .none then { y.cleared with state := .held, hold := all }
  else match y.own with
    | h :: _ => { y.cleared with state := .held, hold := h }
    | [] => { y.cleared with state := .lock, hold := .none }

/-- A lane that is OUT for a cause. -/
def Lane.away (h : Hold) (y : Lane) : Lane := { y.cleared with state := .out, hold := h }

/-- A lane moves to where `g` puts it. Leaving IN sets LANE_DROP, is counted, and ends the lane's trial (R87, R91); FLAP_COUNT exits
within 60 s give the lane hold cause 4, and are then forgotten (R80; that they are is a DESIGN CHOICE, log entry 156). -/
def laneExit (s : State) (f w : Nat) (g : Lane → Lane) : State :=
  if (s.lane f w).state = .inn && w < 16 then
    let recent := s.now :: (s.lane f w).exits.filter (fun t => s.now < t + 60 * 10 ^ 12)
    let flap := s.param 0x2180 6 ≤ recent.length
    let s := if (s.fibre f).trial.any (fun t => t.lane = w) then abandonTrial s f else s
    let s := (s.setFlag (0x6340 + f) 2).countFibre f 0x2C
    s.updLane f w (fun y =>
      g { y with exits := if flap then [] else recent, own := if flap then .flap :: y.own.erase .flap else y.own })
  else s.updLane f w g

/-- A lane starts again (R75, R80). The margin channel's ring follows no hold of its fibre's links. -/
def laneRestart (s : State) (f w : Nat) : State :=
  laneExit s f w (Lane.restart (if w = 16 then .none else (s.fibre f).holdAll))

/-- Put a lane OUT for a cause. -/
def laneOut (s : State) (f w : Nat) (h : Hold) : State := laneExit s f w (Lane.away h)

/-- Hold a lane for a cause of its own. A slot out of electrical service keeps its state until it is released. -/
def laneHoldOwn (s : State) (f w : Nat) (h : Hold) : State :=
  let add (y : Lane) : Lane := { y with own := h :: y.own.erase h }
  if s.offElectrical f w then s.updLane f w add
  else laneRestart (s.updLane f w add) f w

/-- A cause of a lane's own clears: a lane that shows it starts again (R75). -/
def releaseOwn (s : State) (f w : Nat) (h : Hold) : State :=
  let shown := (s.lane f w).state = .held && (s.lane f w).hold = h
  let s := s.updLane f w (fun y => { y with own := y.own.erase h })
  if shown then laneRestart s f w else s

/-- The present instant lies in a window that the far end gave notice of: from T to T + 20 µs (R101). -/
def State.inFarWindow (s : State) (f : Nat) : Bool :=
  match (s.fibre f).farWindow with
  | some t => toNs t ≤ toNs (s.time.sec, s.time.ns) && toNs (s.time.sec, s.time.ns) < toNs t + 20000
  | none => false

/-- Faults are not declared on a fibre: an idle window of this end (R100), or one that the far end gave notice of (R101). -/
def State.faultsHeld (s : State) (f : Nat) : Bool := (s.fibre f).suspended || s.inFarWindow f

/-- A lane leaves its link (R79, R81): with the margin channel up, unacknowledged frames of the lane are replayed on the remaining
lanes and received frames of it are discarded; with it lost, the link goes down. `g` says where the lane goes and what is sent. -/
def laneLeaves (s : State) (f w : Nat) (g : State → State) : State :=
  let p := s.linkOfLane f w
  let up := (s.fibre f).marginState = .up
  let point := (replayPoint (s.link p).replay (some w)).map (replayStart (s.link p) s.now)
  let s := (g s).updLink p (fun x => { x with rxHeld := x.rxHeld.filter (fun h => h.lane ≠ w) })
  if up then
    let s := reviewLink s p
    match point with
    | some q => replayFrom s p q false
    | none => s
  else linkDown s p .waitMargin

/-- A lane fault at this end (R79, R81): with the margin channel up, LANE_DROP is sent. A lane that had finished SOAK gives up its
addition (R80). -/
def laneFault (s : State) (f w : Nat) (cause : LaneFault) : State :=
  if s.faultsHeld f then s
  else match (s.lane f w).state with
  | .inn =>
    if 16 ≤ w then laneRestart s f w
    else laneLeaves s f w (fun s =>
      let s := laneRestart s f w
      if (s.fibre f).marginState = .up then sendSeq s f 0x03 (laneDropPayload w (laneFaultCode cause)) else s)
  | .soak => laneRestart s f w
  | .align => laneRestart s f w
  | _ => s

/-- A lane that is OUT starts (R75): used at both ends, light on the fibre. A lane that stays out no longer shows a dark fibre. -/
def laneStart (s : State) (f w : Nat) : State :=
  let y := s.lane f w
  if y.state ≠ .out || (s.fibre f).rxLos || s.offElectrical f w then s
  else if s.laneUsed f w then laneRestart s f w
  else if y.hold = .dark then s.updLane f w (fun y => { y with hold := .none })
  else s

/-- A link starts over from its idle state. -/
def linkRestart (s : State) (p : Nat) : State :=
  let s := linkDown s p .waitMargin
  s.updLink p (fun x => { x with state := linkIdleState s p })

/-- Restart every link of a fibre and start its lanes. -/
def restartFibre (s : State) (f : Nat) : State :=
  let s := s.forEach (List.range 16) (fun s w => laneStart s f w)
  s.forEach (s.fibreLinks f) linkRestart

/-- Hold every link of a fibre (R74, R81, R83). A lane that is OUT stays so: disabled, in circuit use, or dark. -/
def holdFibre (s : State) (f : Nat) (h : Hold) : State :=
  let s := s.updFibre f (fun x => { x with holdAll := h })
  let s := s.forEach (List.range 16) (fun s w => if (s.lane f w).state = .out then laneStart s f w else laneRestart s f w)
  s.forEach (s.fibreLinks f) (fun s p => (linkDown s p .held).updLink p (fun x => { x with state := linkIdleState s p }))

/-- Release a fibre's links from a hold: its lanes start again. -/
def releaseFibre (s : State) (f : Nat) : State :=
  let h := (s.fibre f).holdAll
  let s := s.updFibre f (fun x => { x with holdAll := .none })
  let s := s.forEach (List.range 16) (fun s w =>
    if (s.lane f w).state = .held && (s.lane f w).hold = h then laneRestart s f w else s)
  s.forEach (s.fibreLinks f) linkRestart

/-- Length limit of R83 in m: over 525 m, or over 2,100 m in long-reach mode, does not qualify. -/
def reachExceeded (s : State) (f : Nat) (metres : Nat) : Bool :=
  if cfgLong (s.fibreCfg f) then 2100 < metres else 525 < metres

/-- Compare both ends' configuration (R74) and follow: a disagreement holds the fibre with cause 2, agreement releases
such a hold. -/
def compareEnds (s : State) (f : Nat) : State :=
  match (s.fibre f).far with
  | none => s
  | some c =>
    let v := s.fibreCfg f
    let same := c.linkStart = cfgStart v && c.mode = ofBool (cfgMode v) && c.longReach = ofBool (cfgLong v)
    if !same then
      (if (s.fibre f).holdAll = .none then holdFibre (s.setFlag (0x6340 + f) 4) f .mismatch else s)
    else if (s.fibre f).holdAll = .mismatch then releaseFibre s f
    else s

/-- Judge the fibre's length, and its Inkwell storage in long-reach mode (R83, R136): a fibre that does not qualify is held with cause 5,
one that does is released from that hold. REACH is set for the length (R87). -/
def reviewReach (s : State) (f : Nat) : State :=
  let far := (s.fibre f).metres.any (reachExceeded s f)
  let noInk := cfgLong (s.fibreCfg f) && s.mem.ink = 0
  let hold := (s.fibre f).holdAll
  if far || noInk then
    (if hold = .none then holdFibre (s.setFlagIf far (0x6340 + f) 6) f .reach else s)
  else if hold = .reach then releaseFibre s f
  else s

/-- Follow the far end's LANE_ENABLE (R74): a lane disabled there leaves its link and is OUT, one enabled at both ends starts. -/
def reviewFarLanes (s : State) (f : Nat) : State :=
  s.forEach (List.range 16) (fun s w =>
    if s.laneUsed f w || s.offElectrical f w || (s.lane f w).state = .out then laneStart s f w
    else if (s.lane f w).state = .inn then laneLeaves s f w (fun s => laneOut s f w .none)
    else laneOut s f w .none)

/-- The margin channel of a fibre is lost (R148): MARGIN_STATE leaves UP, frames not acknowledged are discarded, and
training starts again from light. -/
def marginLost (s : State) (f : Nat) : State :=
  let s := resetMargin s f
  s.updFibre f (fun x => { x with marginState := .dark, goodHellos := 0, lastHello := none })

/-- Every link of a fibre goes down (R81). -/
def fibreLinksDown (s : State) (f : Nat) (dest : LinkState) : State :=
  s.forEach (s.fibreLinks f) (fun s p =>
    let st := (s.link p).state
    if st = .disabled || st = .held then s else linkDown s p dest)

/-- Loss of light on all 17 wavelengths (R81). A slot in circuit use shows that, and a lane whose source has FAILED shows cause 10
(R104). -/
def rxLos (s : State) (f : Nat) : State :=
  let s := (s.setFlag (0x6340 + f) 0).countFibre f 0x2B
  let s := marginLost s f
  let s := s.updFibre f (fun x => { x with rxLos := true, far := none })
  let s := fibreLinksDown s f .waitMargin
  s.forEach (List.range 16) (fun s w =>
    if s.offElectrical f w then s
    else if (s.lane f w).own.contains .source then laneRestart s f w
    else laneOut s f w .dark)

end Sys2Proof.Machine
end

