-- ==== Sys2Proof/Machine/FaultOps.lean ====
section
/-!
DEFINITION. Unit faults and module faults (R458, R459), health (R469), the fault history's payload (R468) and Blotter dumps
(R464, R465).
-/

namespace Sys2Proof.Machine

/-! ### Health (R469) -/

/-- The health score. -/
def UnitEntry.score (u : UnitEntry) : Nat := 100 - ((4 * u.wT + 30 * u.wP + 50 * u.wF) / 256 + u.wC / 65536)

/-- Recompute a unit's score; one below HEALTH_WARN sets HEALTH_LOW. -/
def State.reviewHealth (s : State) (u : Nat) : State :=
  let h := (s.unit u).score
  (s.updUnit u (fun x => { x with health := h })).setFlagIf (h < s.param 0x2481 2) 0x6121 4

/-- A fault becomes permanent: 256 moves from W_T, not below 0, to W_P. -/
def UnitEntry.harden (u : UnitEntry) : UnitEntry :=
  { u with permanent := min (u.permanent + 1) 0xFFFFFFFF, wT := u.wT - 256, wP := u.wP + 256 }

/-- Seconds of network time, or of running time while TIME is clear. -/
def State.faultSeconds (s : State) : Nat := if s.timeSet then s.time.sec else s.now / 10 ^ 12

/-- A unit fault is logged as transient; the third of one cause within 24 h makes it permanent. -/
def State.logFault (s : State) (u cause : Nat) : State :=
  let t := s.faultSeconds
  (s.updUnit u (fun x =>
    let recent := (x.recent.filter (fun e => t < e.1 + 86400)) ++ [(t, cause)]
    let x := { x with
      transient := min (x.transient + 1) 0xFFFFFFFF
      wT := x.wT + 256
      lastFaultS := t
      lastCause := cause
      recent := recent }
    if 3 ≤ (recent.filter (fun e => e.2 = cause)).length then x.harden else { x with fresh := x.fresh + 1 })).reviewHealth u

/-! ### The fault history's payload (R468) -/

/-- A unit entry. -/
def unitEntryBytes (u : Nat) (x : UnitEntry) : List Byte :=
  leBytes 2 u ++ leBytes 1 x.state ++ leBytes 1 x.health ++ leBytes 4 x.transient ++ leBytes 4 x.permanent ++
  leBytes 4 x.corrected ++ leBytes 4 x.proofPass ++ leBytes 4 x.proofFail ++ leBytes 4 x.wT ++ leBytes 4 x.wP ++
  leBytes 4 x.wF ++ leBytes 4 x.wC ++ leBytes 8 x.lastFaultS ++ leBytes 1 x.lastCause ++ zeros 15

/-- A unit entry read back. -/
def unitEntryOf (b : List Byte) : UnitEntry :=
  { state := byteAt b 2, health := byteAt b 3, transient := leAt b 4 4, permanent := leAt b 8 4, corrected := leAt b 12 4
    proofPass := leAt b 16 4, proofFail := leAt b 20 4, wT := leAt b 24 4, wP := leAt b 28 4, wF := leAt b 32 4
    wC := leAt b 36 4, lastFaultS := leAt b 40 8, lastCause := byteAt b 48 }

/-- An event. -/
def eventBytes (e : Event) : List Byte :=
  leBytes 8 e.timeS ++ leBytes 4 e.timeNs ++ leBytes 2 e.unit ++ leBytes 1 e.cause ++ leBytes 1 e.cls ++ leBytes 8 e.detail ++
  zeros 8

/-- An event read back. -/
def eventOf (b : List Byte) : Event :=
  { timeS := leAt b 0 8, timeNs := leAt b 8 4, unit := leAt b 12 2, cause := byteAt b 14, cls := byteAt b 15, detail := leAt b 16 8 }

/-- The event at a position of the ring, none where it holds none. -/
def FaultSt.eventAt (x : FaultSt) (pos : Nat) : Option Event :=
  let first := x.eventCount - x.events.length
  x.events[(pos + 256 - first % 256) % 256]?

/-- The current payload: header, 138 unit entries, a ring of 256 events. -/
def State.historyPayload (s : State) : List Byte :=
  let x := s.faults
  leBytes 4 0x48544C46 ++ leBytes 2 1 ++ leBytes 2 138 ++ leBytes 2 x.events.length ++ leBytes 1 (x.eventCount % 256) ++ zeros 1 ++
  leBytes 4 (min x.starts 0xFFFFFFFF) ++ leBytes 8 x.writtenS ++ leBytes 4 (min s.power.railFaults 0xFFFFFFFF) ++ zeros 36 ++
  (allUnits.flatMap (fun u => unitEntryBytes u (s.unit u))) ++
  ((List.range 256).flatMap (fun p => match x.eventAt p with
    | some e => eventBytes e
    | none => zeros 32))

/-- Rewrite the history in flash (R468). -/
def State.writeHistory (s : State) : State :=
  let s := s.modFaults (fun x => { x with writtenS := if s.timeSet then s.time.sec else 0 })
  (s.storeData 0x10 s.historyPayload).modFaults (fun x => { x with historyDirty := false })

/-- A payload that a reader takes. -/
def historyOk (b : List Byte) : Bool :=
  b.length = 17088 && leAt b 0 4 = 0x48544C46 && leAt b 4 2 = 1 && leAt b 6 2 = 138 && leAt b 8 2 ≤ 256

/-- A stored unit entry enters the table. Stacks and controllers stay out of service over starts (R458); a Nib's STATE 3 and count
of faults are what the warm start kept; every other unit is in service again. -/
def mergeEntry (t : Tab UnitEntry) (k : UnitEntry) (u : Nat) (e : UnitEntry) : Tab UnitEntry :=
  if k.transient ≠ 0 then t
  else t.put {} u { e with
    faultsSincePass := k.faultsSincePass
    state := if u / 256 = 9 || u / 256 = 0x0F then e.state else k.state }

/-- Scribe firmware reads the stored history at a start: the events of this start follow the stored ones, and STARTS counts
the start (R468, R53). What the start has already entered of a unit stands. -/
def State.readHistory (s : State) : State :=
  let x := s.faults
  let s := match dataPayload s.flash 0x10 with
    | some b =>
      if historyOk b then
        let n := leAt b 8 2
        let next := byteAt b 10
        let old := (List.range n).map (fun i => eventOf (slice b (64 + 138 * 64 + 32 * ((next + 256 - n + i) % 256)) 32))
        let units : Tab UnitEntry := allUnits.zipIdx.foldl (fun (t : Tab UnitEntry) (u, i) =>
          mergeEntry t (x.units.get {} u) u (unitEntryOf (slice b (64 + 64 * i) 64))) x.units
        s.modFaults (fun y => { y with
          units := units
          events := (old ++ x.events).drop (n + x.events.length - 256)
          eventCount := next + (if n = 256 then 256 else 0) + x.events.length
          starts := leAt b 12 4
          writtenS := leAt b 16 8 })
      else s
    | none => s
  s.modFaults (fun y => { y with starts := min (y.starts + 1) 0xFFFFFFFF, historyDirty := true })

/-! ### Blotter dumps (R464, R465) -/

/-- A dump starts: dump n occupies slot n mod 16. One that runs already stands for both (R477). -/
def State.startDump (s : State) (trigger : Nat) : State :=
  match s.faults.dumping with
  | some _ => s
  | none =>
    let r : DumpRun := { slot := s.faults.dumpNo % 16, trigger := trigger, cell := s.cellNow, boot := s.bootStatus, pwr := s.pwrEvents }
    s.modFaults (fun x => { x with dumping := some r })

/-- An item of a section: INDEX, SUBINDEX, a reserved byte, SIZE, and the value padded with zeros to 8 bytes. -/
def dumpItem (index sub : Nat) (v : List Byte) : List Byte :=
  leBytes 2 index ++ leBytes 1 sub ++ zeros 1 ++ leBytes 4 v.length ++ padTo (8 * ceilDiv v.length 8) v

/-- A section: RESULT 0 complete, 1 no response, 2 partial, 3 absent. Its data are objects from 0x6000 on; which of them are the unit's, and
their values at the read, are free (log entry 32). -/
def dumpSection (free cell u result : Nat) : List Byte :=
  let items := if result = 1 || result = 3 then [] else
    ((Config.blotterData free u).take 1000).map (fun i => (0x6000 + i.1 % 0xA000, i.2.1 % 256, i.2.2.take 1024))
  let d := items.flatMap (fun i => dumpItem i.1 i.2.1 i.2.2)
  leBytes 2 u ++ leBytes 1 result ++ zeros 1 ++ leBytes 4 d.length ++ leBytes 8 cell ++ d

/-- A dump's bytes: header, the sections of every unit but Chop, CHECK. -/
def dumpBytes (free cell no : Nat) (r : DumpRun) (result : Nat → Nat) : List Byte :=
  let us := allUnits.filter (fun u => u / 256 ≠ 0x13)
  let body := us.flatMap (fun u => dumpSection free cell u (result u))
  let bad := (us.filter (fun u => result u = 1 || result u = 2)).length
  let all := leBytes 4 0x54544C42 ++ leBytes 2 1 ++ leBytes 1 r.trigger ++ zeros 1 ++ leBytes 4 no ++
    leBytes 4 (64 + body.length + 4) ++ leBytes 8 r.cell ++ leBytes 2 us.length ++ leBytes 2 bad ++ leBytes 4 r.boot ++
    leBytes 4 r.pwr ++ zeros 28 ++ body
  all ++ leBytes 4 (crc32c all)

/-! ### Module faults (R459) -/

/-- A module fault of a unit. -/
def State.moduleFault (s : State) (u : Nat) : State :=
  let s := abortAllJobs (abortAll s 6) 8
  let s := s.modPower (fun p => { p with faultLow := true })
  let s := (s.setFlag 0x6121 0).logEvent u 10 1 0
  (s.modFaults (fun x => { x with moduleFault := true, warmAfterDump := x.warmAfterDump || s.param 0x2480 5 = 1 })).startDump 1

/-! ### Unit faults (R458) -/

/-- Hold every link of a fibre until the next start. -/
def State.holdUnit (s : State) (f : Nat) : State := holdFibre s f .unit

/-- A Nib enters STATE 3: its live chunks fail with cause 9. -/
def State.failNib (s : State) (n : Nat) : State :=
  let ths := s.coll.ranges.flatMap (fun e => match e.2 with
    | some r => ((List.range r.count).filter (fun k => r.nibOf k = n)).map (fun k => e.1 * 2 ^ 22 + k)
    | none => [])
  let s := s.updUnit (unitId 0x0A n) (fun x => { x with state := 3 })
  s.forEach ths (fun s th => s.failChunk th 9 0)

/-- The next unit waiting for a Proof test is taken in hand where none is: a Quill core's test needs no window (R466, R467). -/
def State.proofNext (s : State) : State :=
  match s.faults.proofUnit, s.faults.retest with
  | none, u :: r =>
    let core : Bool := u / 256 = 0x0D
    let s := s.modFaults (fun x => { x with proofUnit := some u, proofT := none, proofOpen := core, retest := r })
    if core then (s.emit (.quillReset (u % 256) false)).updUnit u (fun x => { x with state := 2 }) else s
  | _, _ => s

/-- A unit is to be tested. -/
def State.askProof (s : State) (u : Nat) : State :=
  if s.faults.proofUnit = some u || s.faults.retest.contains u then s
  else (s.modFaults (fun x => { x with retest := x.retest ++ [u] })).proofNext

/-- A plane leaves service after a fault (R191): its Proof test is requested, and with no plane left the module faults (R193). -/
def State.planeFault (s : State) (p : Nat) : State :=
  let u := unitId 6 p
  let s := (s.planeOut p).updUnit u (fun x => { x with state := 3 })
  let s := s.askProof u
  if s.core.planeCount = 0 then s.moduleFault u else s

/-- The module interrupt and reset of a Quill core (R458). -/
def State.coreFault (s : State) (i : Nat) : State :=
  ((s.emit (.quillReset i false)).emit (.quillError (s.boot.coresP0 ≤ i) false)).updUnit (unitId 0x0D i) (fun x => { x with state := 3 })

/-- What a unit fault does, by unit. `proof` marks a fault from Proof. -/
def State.unitAction (s : State) (u : Nat) (proof : Bool) : State :=
  let i := u % 256
  match u / 256 with
  | 0x0A =>
    let n := (s.unit u).faultsSincePass + 1
    let s := s.updUnit u (fun x => { x with faultsSincePass := n })
    if proof || 2 ≤ n then s.failNib i else s
  | 0x06 => s.planeFault i
  | 0x01 => (s.forEach ((List.range 4).map (4 * i + ·)) State.holdUnit).updUnit u (fun x => { x with state := 3 })
  | 0x04 => (s.forEach ((List.range 4).map (4 * i + ·)) State.holdUnit).updUnit u (fun x => { x with state := 3 })
  | 0x05 => (s.forEach ((List.range 8).map (8 * i + ·)) State.holdUnit).updUnit u (fun x => { x with state := 3 })
  | 0x09 => s.updUnit u (fun x => { x with state := 3 })
  | 0x0F => s.updUnit u (fun x => { x with state := 3 })
  | 0x0D => s.coreFault i
  | 0x10 =>
    let hostB : Bool := i = 1
    ((s.portLinkDown hostB).updPort hostB (fun p => { p with held := true })).updUnit u (fun x => { x with state := 3 })
  | 0x13 => s
  | _ => s.moduleFault u

/-- A unit fault: recorded in the history and acted on (R458). Chop's faults show only in its own flags. -/
def State.unitFault (s : State) (u cause detail : Nat) (proof : Bool) : State :=
  if u / 256 = 0x13 then s
  else (((s.logFault u cause).logEvent u cause 1 detail).setFlag 0x6121 1).unitAction u proof

end Sys2Proof.Machine
end

