-- ==== Sys2Proof/Machine/SecOps.lean ====
section
/-!
DEFINITION. Tamper sensors and their alarm policies (R429, R430), and the erasure of keys.
-/

namespace Sys2Proof.Machine

/-- A change of the security state. -/
def State.modSec (s : State) (g : SecSt → SecSt) : State := { s with sec := g s.sec }

/-- Erase keys (R430 policy 1): the alias key, all session state and any debug unlock go until the next start. -/
def State.eraseKeys (s : State) : State :=
  ((s.modBoot (fun b => { b with identity := false })).modSec (fun x => { x with erased := true, unlocked := false })).modCodex
    (fun c => { c with sessions := [] })

/-- Everything that core power holds is lost: what stays is flash, the power stage controller, Chop, the owners' memories, the
lands, and the model's own fields. -/
def State.coreLost (s : State) : State :=
  { power := s.power, flash := s.flash, chop := s.chop, now := s.now, freeCount := s.freeCount, out := s.out, pending := s.pending
    boot := { warmLow := s.boot.warmLow }
    mem := { hostA := s.mem.hostA, hostB := s.mem.hostB, faultPages := s.mem.faultPages }
    host := { portA := { perst := s.host.portA.perst }, portB := { perst := s.host.portB.perst } } }

/-- The core is held in reset with FAULT_N low (R27, R28, R37, R430). -/
def State.holdCore (s : State) : State := s.coreLost.modPower (fun p => { p with coreHeld := true })

/-- FAULT_N is driven low: by a module fault, a held core, a rail fault or a blocked restart. -/
def State.faultLand (s : State) : Bool :=
  s.power.faultLow || s.power.coreHeld || s.power.vioLock || s.power.railRetry || s.power.railLock || s.power.ilimitLock || s.power.secHold

/-- A sensor acts under its policy (R430). Every firing is recorded, flagged and counted. -/
def State.sensorActs (s : State) (k : Nat) : State :=
  let s := (s.logEvent (unitId 0x12 0) 9 4 k).setFlag 0x6181 (k - 1)
  let s := s.modSec (fun x => { x with sensorCount := x.sensorCount.upd 0 k (· + 1) })
  match s.param 0x1030 k with
  | 0 => s
  | 1 => s.eraseKeys
  | _ =>
    ((abortAll s.eraseKeys 7).writeHistory.holdCore).modPower (fun p => { p with secHold := true })

/-- A sensor fires; before cold step 9 it waits for the policies then loaded (R430). -/
def State.sensorFires (s : State) (k : Nat) : State :=
  if s.boot.done.getLsbD 3 then s.sensorActs k
  else s.modSec (fun x => { x with deferred := x.deferred ++ [k] })

end Sys2Proof.Machine
end

