-- ==== Sys2Proof/Machine/ChopCmds.lean ====
section
/-!
DEFINITION. Commands of Chop (R432 to R442): the seal, its start-up data, the account feed, records, and the objects that reach it
through the mailbox.
-/

namespace Sys2Proof.Machine

/-- SEAL_N has changed, past its debounce (R439): the running record closes with SHORT; closing the seal ends a debug unlock (R428). -/
def execSealChange (unsealed : Bool) (metered : Metered) (s : State) : Out :=
  .next (if !s.chop.running || s.chop.unsealed = unsealed then s
    else
      let s := (s.modChop (fun c => { c with unsealed := unsealed })).closeRecord true metered
      let s := (s.modChop (fun c => { c.auditUp with openPart := c.openPart || unsealed })).chopFlag 5
      if unsealed then s else s.modSec (fun x => { x with unlocked := false }))

/-- The calibration that a record of TYPE 0x0012 holds, when it lies in its ranges (R440). -/
def calOf (b : List Byte) : Option (Nat × Nat × Int × Int) :=
  let g (o : Nat) := leAt b o 4
  let i (o : Nat) : Int := (BitVec.ofNat 32 (leAt b o 4)).toInt
  let inGain (x : Nat) : Bool := 0x3CCCCCCD ≤ x && x ≤ 0x43333333
  if inGain (g 0) && inGain (g 4) && -100000 ≤ i 8 && i 8 ≤ 100000 && -1000 ≤ i 12 && i 12 ≤ 1000 then some (g 0, g 4, i 8, i 12)
  else none

/-- A calibration record verifies under Chop's key (R440): 16 bytes, the key, and the signature over both. -/
def calRecord (key payload : List Byte) : Option (Nat × Nat × Int × Int) :=
  if payload.length = 112 && slice payload 16 32 = key && Config.ed25519Verify key (payload.take 48) (payload.drop 48) then
    calOf payload
  else none

/-- Scribe delivers Chop's helper data, the newest calibration and the newest record (R432, R438): Chop derives its key once, and
judges the record once. -/
def execChopStartupData (s : State) : Out :=
  .next (
    if !s.chop.running || !(s.boot.done.getLsbD 2) || s.chop.ready then s
    else match dataPayload s.flash 0x0013 with
      | none => s
      | some h =>
        if !(Config.chopReconstructs h) then s
        else
          let s := s.modChop (fun c => { c with keyReady := true, helper := h })
          let s := s.modChop (fun c => { c with cal := c.cal <|> (dataPayload s.flash 0x0012).bind (calRecord c.pubKey) })
          s.judgeRecord)

/-- The account feed's 10 ms tick (R434); `lost` is a message that does not reach Chop. -/
def execAccountFeed (lost : Bool) (s : State) : Out := .next (if s.coreUp then s.feedAccounts lost else s)

/-- An interval boundary by Chop's time (R435). -/
def execRecordBoundary (metered : Metered) (s : State) : Out := .next (if s.atBoundary then s.closeRecord false metered else s)

/-- Scribe has stored a record that Chop holds, and confirms it (R437). -/
def execRecordStoreConfirm (no : BitVec 32) (s : State) : Out :=
  .next (match s.chop.held.find? (fun r => r.no = no.toNat) with
    | some r => if s.boot.done.getLsbD 2 then (s.storeChop r).confirmRecord r.no else s
    | none => s)

/-- INTERVAL_MIN (R439, R440). -/
def intervalWrite (s : State) (v : Nat) : Except DopStatus State :=
  if v < 1 || 60 < v then .error .range
  else if !s.chop.unsealed then .error .state
  else .ok (s.modChop (fun c => { c.auditUp with newInterval := some v }))

/-- INTERVAL_MIN is written. -/
def execIntervalMinWrite (r : Req) (value : BitVec 8) (s : State) : Out :=
  .next (serveWrite s r 0x1102 1 value.toNat intervalWrite)

/-- CAL (R440): Chop signs an accepted value with its key, and Scribe stores the record. Without the key the write returns STATE. -/
def calWrite (s : State) (v : Nat) : Except DopStatus State :=
  let b := leBytes 16 v
  match calOf b with
  | none => .error .range
  | some k =>
    if !s.chop.unsealed || !s.chop.keyReady then .error .state
    else
      let signed := b ++ s.chop.pubKey
      .ok ((s.modChop (fun c => { c.auditUp with cal := some k })).storeData 0x0012 (signed ++ (Config.ed25519Sign 2 signed).toList))

/-- CAL is written. -/
def execCalWrite (r : Req) (value : BitVec 128) (s : State) : Out := .next (serveWrite s r 0x1102 2 value.toNat calWrite)

/-- ACCOUNT_MAP of a port (R434, R440); it takes effect at the next record boundary. -/
def accountMapWrite (p : Nat) (s : State) (v : Nat) : Except DopStatus State :=
  if bits v 14 10 ≠ 0 then .error .range else .ok (s.setParam (0x1110 + p / 64) (1 + p % 64) v)

/-- ACCOUNT_MAP is written. -/
def execAccountMapWrite (r : Req) (p : Fin 1024) (value : BitVec 16) (s : State) : Out :=
  .next (serveWrite s r (0x1110 + p.val / 64) (1 + p.val % 64) value.toNat (accountMapWrite p.val))

end Sys2Proof.Machine
end

