-- ==== Sys2Proof/Machine/Links.lean ====
section
/-!
DEFINITION. Links and lanes: hellos, alignment, soak, lane faults and their restoration, loss of light and of the margin
channel (rules R72 to R88). The handlers `on…` take the payload of a margin frame that passed R145 to R148.
-/

namespace Sys2Proof.Machine

/-- Local time counter in ns (R150). -/
def State.nowNs (s : State) : Nat := s.now / 1000

/-- HELLO payload (R150). -/
def helloPayload (s : State) (f : Nat) : List Byte :=
  let x := s.fibre f
  let v := s.fibreCfg f
  let echo := match x.lastHello with
    | some (rx, tx) => (tx, s.nowNs - rx)
    | none => (0, 0)
  beBytes 8 x.startValue ++ beBytes 1 f ++ beBytes 1 s.slotId ++ beBytes 2 (cfgStart v) ++ beBytes 2 (cfgEnable v) ++
  beBytes 1 (2 * ofBool (cfgMode v) + ofBool (cfgLong v)) ++ zeros 1 ++ beBytes 8 s.nowNs ++ beBytes 8 echo.1 ++
  beBytes 8 echo.2

/-- Light on the margin channel and block lock (R81, training steps 1 and 2): MARGIN_STATE becomes ACQUIRE, a start
value is drawn, the margin channel's ring and dark lanes start at LOCK, and links with an enabled lane wait for the channel (R76). -/
def execMarginLightDetect (f : Fin 64) (s : State) : Out :=
  let x := s.fibre f
  if s.boot.photonic && x.marginState = .dark && x.holdAll ≠ .unit then
    let (v, s) := s.free64
    let s := s.updFibre f (fun x =>
      { x with marginState := .acquire, rxLos := false, startValue := v, goodHellos := 0, lastHello := none })
    let s := s.forEach (List.range 16) (fun s w => laneStart s f w)
    let s := if (s.lane f 16).state = .out then laneRestart s f 16 else s
    .next (s.forEach (s.fibreLinks f) (fun s p =>
      if (s.link p).state = .disabled then s.updLink p (fun l => { l with state := linkIdleState s p }) else s))
  else .next s

/-- A hello is sent (R150, training step 3). -/
def execHelloSend (f : Fin 64) (s : State) : Out :=
  if (s.fibre f).marginState = .dark then .next s
  else .next (sendPlain s f 0x02 (helloPayload s f))

/-- Round trip of a hello in ns: receive time less ECHO_TIME less TURNAROUND (R150). -/
def helloRoundTrip (s : State) (pl : List Byte) : Option Nat :=
  let echo := beAt pl 24 8
  if echo = 0 then none else some (s.nowNs - echo - beAt pl 32 8)

/-- Fibre length in metres from a round trip: 10 ns a metre beyond the processing (R83). -/
def metresOf (rt : Nat) : Nat := ceilDiv (rt - Config.linkProcessing.val) 10

/-- MEASURED_LENGTH: units of 10 m, rounded up, at most 255 (R87). -/
def lengthUnits (metres : Nat) : Nat := min 255 (ceilDiv metres 10)

/-- The configuration a hello carries. -/
def helloCfg (pl : List Byte) : FarCfg :=
  { linkStart := beAt pl 10 2, laneEnable := beAt pl 12 2, mode := ofBool (bit (byteAt pl 14) 1)
    longReach := ofBool (bit (byteAt pl 14) 0), slotId := byteAt pl 9 % 16, fibre := byteAt pl 8 }

/-- A valid hello (R150): reserved bytes 0 and a fibre that exists. -/
def helloValid (pl : List Byte) : Bool :=
  byteAt pl 8 < 64 && byteAt pl 9 < 16 && byteAt pl 14 < 4 && byteAt pl 15 = 0

/-- What three valid hellos do (R74, R76, R83, training step 4): the channel is UP, a loopback hold ends, the ends are compared, the
reach is checked, the far end's lanes are followed, and links that waited train. -/
def hellosAgree (s : State) (f : Nat) : State :=
  let s := s.updFibre f (fun y => { y with marginState := .up })
  let s := if (s.fibre f).holdAll = .loopback then releaseFibre s f else s
  let s := reviewFarLanes (reviewReach (compareEnds s f) f) f
  s.forEach (s.fibreLinks f) (fun s p =>
    let st := (s.link p).state
    if st = .disabled || st = .waitMargin then
      reviewLink (s.updLink p (fun l => { l with state := linkIdleState s p })) p
    else s)

/-- A hello received (R74, R81, R83): one that breaks R150, or loops back, ends a run of valid ones; loopback is held; the third of a run
and every later one are acted on. -/
def onHello (s : State) (f : Nat) (pl : List Byte) : State :=
  let x := s.fibre f
  if !(helloValid pl) then (s.updFibre f (fun y => { y with goodHellos := 0 })).countFibre f 4
  else if x.marginState = .dark then s
  else if beAt pl 0 8 = x.startValue && byteAt pl 8 = f then
    let s := (s.updFibre f (fun y => { y with goodHellos := 0 })).setFlag (0x6340 + f) 5
    if x.holdAll = .loopback then s else holdFibre s f .loopback
  else
    let s := match helloRoundTrip s pl with
      | some l => s.hist 5 (some f) none none l
      | none => s
    let metres := (helloRoundTrip s pl).map metresOf
    let s := s.updFibre f (fun y =>
      { y with
        goodHellos := min 3 (y.goodHellos + 1)
        lastHello := some (s.nowNs, beAt pl 16 8)
        far := some (helloCfg pl)
        metres := metres.orElse (fun _ => y.metres)
        length := match metres with | some m => lengthUnits m | none => y.length })
    if (s.fibre f).goodHellos < 3 then s else hellosAgree s f

/-- PCS, alignment marker and codeword lock: the lane enters SOAK (R75). -/
def execLaneAligned (f : Fin 64) (w : Fin 16) (s : State) : Out :=
  if (s.lane f w).state = .align then
    .next (s.updLane f w (fun y => { y with state := .soak, soaked := false, addSeq := none }))
  else .next s

/-- A lane not aligned within 10 ms returns to LOCK, counted (R75). -/
def execAlignTimeout (f : Fin 64) (w : Fin 16) (s : State) : Out :=
  if (s.lane f w).state = .align then
    .next ((laneRestart s f w).countMisc .alignTimeouts 1)
  else .next s

/-- SOAK_MS has passed (R80): a failing lane returns to ALIGN; a passing one that finishes second sends LANE_ADD naming
the SEQ from which it carries frames, and one that finishes first waits for it. -/
def execSoakEnd (f : Fin 64) (w : Fin 16) (pass second : Bool) (s : State) : Out :=
  if (s.lane f w).state ≠ .soak then .next s
  else if !pass then .next (s.updLane f w (fun y => { y with state := .align, soaked := false, addSeq := none }))
  else if second && (s.fibre f).marginState = .up then
    let q := (s.link (s.linkOfLane f w)).txSeq
    let s := s.updLane f w (fun y => { y with soaked := true, addSeq := some q })
    .next (sendSeq s f 0x04 (beBytes 1 w ++ zeros 3 ++ beBytes 4 q))
  else .next (s.updLane f w (fun y => { y with soaked := true }))

/-- A lane enters IN and its link follows (R75, R76). -/
def laneIn (s : State) (f w : Nat) : State :=
  reviewLink (s.updLane f w (fun y => { y with state := .inn, soaked := false, addSeq := none, hold := .none }))
    (s.linkOfLane f w)

/-- A LANE_ADD payload's fields are sound (R150). -/
def laneAddValid (pl : List Byte) : Bool := byteAt pl 0 < 16 && beAt pl 1 3 = 0 && byteAt pl 4 = 0

/-- LANE_ADD received: an end whose own soak has passed confirms, and its lane enters IN (R80). None is added while the channel is
not UP (R81). -/
def onLaneAdd (s : State) (f : Nat) (pl : List Byte) : State :=
  let w := byteAt pl 0
  if !(laneAddValid pl) then s.countFibre f 4
  else if (s.lane f w).state = .soak && (s.lane f w).soaked && s.laneUsed f w && (s.fibre f).marginState = .up then
    laneIn (sendSeq s f 0x05 pl) f w
  else s

/-- LANE_ADD_CONFIRM received: the lane named by this end's LANE_ADD enters IN (R80). -/
def onLaneAddConfirm (s : State) (f : Nat) (pl : List Byte) : State :=
  let w := byteAt pl 0
  if !(laneAddValid pl) then s.countFibre f 4
  else if (s.lane f w).state = .soak && (s.lane f w).addSeq = some (beAt pl 5 3) && s.laneUsed f w &&
      (s.fibre f).marginState = .up then laneIn s f w
  else s

/-- An event of R78's table is a lane fault: uncorrectable codewords are one from UCW_LIMIT on. -/
def State.faultCounts (s : State) : LaneFault → Bool
  | .ucw n => decide (s.param 0x2180 3 ≤ n)
  | _ => true

/-- A lane fault of R78 at this end. -/
def execLaneFault (f : Fin 64) (w : Fin 16) (cause : LaneFault) (s : State) : Out :=
  .next (if s.faultCounts cause then laneFault s f w cause else s)

/-- HOLDDOWN_S after a flap hold the lane starts again at LOCK (R80). -/
def execHolddownExpiry (f : Fin 64) (w : Fin 16) (s : State) : Out :=
  .next (releaseOwn s f w .flap)

/-- LANE_DROP received (R79): distribution on the lane stops and LANE_DROP is answered, unless this end has already
dropped the lane, when the frame is its acknowledgement. -/
def onLaneDrop (s : State) (f : Nat) (pl : List Byte) : State :=
  let w := byteAt pl 0
  if !(w < 16 && 1 ≤ byteAt pl 1 && byteAt pl 1 ≤ 6 && beAt pl 2 2 = 0) then s.countFibre f 4
  else if s.faultsHeld f then s
  else if (s.lane f w).state = .inn then laneFault s f w .farDrop
  else if (s.lane f w).state = .soak then laneRestart s f w
  else s

/-- A training attempt that has not reached MIN_LANES within 1 s ends, is counted and starts again (R77). -/
def execTrainingAttemptTimeout (p : Fin 1024) (s : State) : Out :=
  if (s.link p).state = .training then
    let s := s.updLink p (fun x => { x with attempts := x.attempts + 1 })
    .next ((s.forEach (s.linkSlots p) (fun s w => laneStart s (p / 16) w)).countMisc .trainingAttempts 1)
  else .next s

/-- The margin channel has been lost for MARGIN_LOSS_US: the fibre's links go down (R81). -/
def execMarginLossTimeout (f : Fin 64) (s : State) : Out :=
  if (s.fibre f).marginState = .up || s.faultsHeld f then .next s
  else .next (fibreLinksDown s f .waitMargin)

/-- BER_EST as R88 bounds it. -/
def berValue (ber : Nat) : Nat := if ber ≤ 932 then ber else 0xFFFF

/-- A lane's FEC counters (R374): codewords corrected and uncorrectable, bit errors before correction. -/
def State.countFec (s : State) (p errors corrected lost : Nat) : State :=
  ((s.count (0x7C00 + p) 0x0A corrected).count (0x7C00 + p) 0x0B lost).count (0x7C00 + p) 0x0C errors

/-- The 10 ms pre-FEC window ends (R78): worse than DEGRADE_BER is a lane fault, worse than WARN_BER sets BER_WARN. The
lane under trial is judged by its set-point before the trial (R91), and nothing is judged in an idle
window. -/
def execBerWindowEnd (f : Fin 64) (w : Fin 16) (ber errors corrected lost : Nat) (s : State) : Out :=
  let b := berValue ber
  let s := (s.countFec (16 * f + w) errors corrected lost).updLane f w (fun y => { y with ber := b })
  let inTrial := (s.fibre f).trial.any (fun t => t.lane = w.val)
  if (s.lane f w).state ≠ .inn || inTrial || s.faultsHeld f then .next s
  else
    let s := s.setFlagIf (b < s.param 0x2180 2) (0x6340 + f) 3
    if b < s.param 0x2180 1 then .next (laneFault s f w .ber) else .next s

end Sys2Proof.Machine
end

