-- ==== Sys2Proof/Machine/Wave.lean ====
section
/-!
DEFINITION. The guideline loops and comb laser sources: rings, trials, pilots, fades and changeovers (rules R89 to R109).
-/

namespace Sys2Proof.Machine

/-- Codes of R107. -/
def SourceState.code : SourceState → Nat
  | .off => 0 | .starting => 1 | .ready => 2 | .active => 3 | .retired => 4 | .failed => 5

/-- A wavelength has a ring of a kind: an add-drop ring on slots 12 to 15 only (R89). -/
def hasRing (w : Nat) : Ring → Bool
  | .addDrop => decide (12 ≤ w) && decide (w ≤ 15)
  | _ => true

/-- A receive ring holds through a window that the far end gave notice of (R101). -/
def State.ringHeld (s : State) (f : Nat) (ring : Ring) : Bool := ring = .drop && s.inFarWindow f

/-- The loop's heater update (R89, R90): clamped to 0 to 30 mW; a demand beyond the range sets HEATER_LIMIT. That a demand below 0 mW,
which R89 does not name and R108 may, sets it too is a DESIGN CHOICE (log entry 157). -/
def execHeaterUpdate (f : Fin 64) (w : Fin 17) (ring : Ring) (demand : Int) (s : State) : Out :=
  if !s.boot.photonic || !(hasRing w ring) || s.ringHeld f ring then .next s
  else
    let uw := if demand < 0 then 0 else min demand.toNat 30000
    let s := s.updLane f w (fun y => y.updRing ring (fun r => { r with heater := uw }))
    if demand < 0 || 30000 < demand then
      .next ((s.setFlag (0x6390 + f / 4) 2).countUnit 1 (f / 4) 1)
    else .next s

/-- A ring has stayed within ±3 GHz for 100 µs: it counts as locked (R90). A lane in LOCK then starts its pilot check. -/
def execRingCapture (f : Fin 64) (w : Fin 17) (ring : Ring) (s : State) : Out :=
  if !(hasRing w ring) then .next s
  else
    .next (s.updLane f w (fun y =>
      let y := y.updRing ring (fun r => { r with locked := true })
      if ring = .drop && y.state = .lock then { y with pilotGood := 0 } else y))

/-- A ring unlocks (R90): the lane suffers a lane fault. -/
def execRingUnlock (f : Fin 64) (w : Fin 17) (ring : Ring) (s : State) : Out :=
  if !(hasRing w ring) then .next s
  else
    let s := s.updLane f w (fun y => y.updRing ring (fun r => { r with locked := false }))
    if ring ≠ .addDrop then .next (laneFault s f w .ring) else .next s

/-- A trial starts (R91): an IN lane at least TRIAL_GUARD above DEGRADE_BER, no other trial on the fibre, trials not
stopped, and the engine not above its warning temperature (R95). -/
def execTrialStart (f : Fin 64) (w : Fin 16) (ring : Ring) (s : State) : Out :=
  let y := s.lane f w
  if s.param 0x2190 1 ≠ 0 && y.state = .inn && s.param 0x2180 1 + s.param 0x2190 3 ≤ y.ber &&
     (s.fibre f).trial = none && !(s.engine (f / 4)).hot && ring ≠ .addDrop && !(s.fibre f).suspended &&
     !(s.ringHeld f ring) then
    let sp := (y.ring ring).setPoint
    let s := s.updFibre f (fun x => { x with trial := some { lane := w, ring := ring, saved := sp } })
    .next (s.updLane f w (fun y => y.updRing ring (fun r => { r with setPoint := sp + 2 * (s.param 0x2190 2 : Int) })))
  else .next s

/-- Error counts of a 100 µs sub-window (R91): a rate worse than WARN_BER abandons the trial. -/
def trialCounts (s : State) (f errors : Nat) (worse : Bool) : State :=
  match (s.fibre f).trial with
  | none => s
  | some t =>
    if worse then abandonTrial s f
    else s.updFibre f (fun x =>
      { x with trial := some (if t.second then { t with minus := t.minus + errors } else { t with plus := t.plus + errors }) })

/-- The trial of a fibre is of a ring that a far end's window holds (R101): it does not move until the window has passed. -/
def State.trialHeld (s : State) (f : Nat) : Bool := (s.fibre f).trial.any (fun t => s.ringHeld f t.ring)

/-- A sub-window of a trial is read. -/
def execTrialSubwindowRead (f : Fin 64) (errors : Nat) (worse : Bool) (s : State) : Out :=
  .next (if s.trialHeld f then s else trialCounts s f errors worse)

/-- CAL_PERIOD_S written 0 stops every trial; the set-points stay as they were before it (R91). -/
def stopTrials (s : State) : State := s.forEach (List.range 64) abandonTrial

/-- A trial window ends (R91): after the second, the set-point moves half a step towards the better window. -/
def execTrialWindowEnd (f : Fin 64) (s : State) : Out :=
  match (s.fibre f).trial with
  | none => .next s
  | some t =>
    if s.trialHeld f then .next s
    else
    let step : Int := s.param 0x2190 2
    let sp := if !t.second then t.saved - 2 * step
      else if t.plus < t.minus then t.saved + step
      else if t.minus < t.plus then t.saved - step
      else t.saved
    let s := s.updLane f t.lane (fun y => y.updRing t.ring (fun r => { r with setPoint := sp }))
    .next (s.updFibre f (fun x => { x with trial := if t.second then none else some { t with second := true } }))

/-- INDEX of a valid pilot word (R92). -/
def pilotIndex (word : BitVec 16) : Option Nat :=
  let v := word.toNat
  let i := bits v 11 7
  if bits v 15 12 = 13 && i ≤ 16 && bits v 6 5 = 0 && bits v 4 0 = i ^^^ 31 then some i else none

/-- The pilot word of a channel (R92). -/
def pilotWord (i : Nat) : Nat := 13 * 4096 + i * 128 + (i ^^^ 31)

/-- The pilot that the module puts on wavelength `w` of a transmit fibre while that carries light of its own (R92): a Hatch output
carries the leaf's. -/
def State.pilotOut (s : State) (f w : Nat) : Option Nat :=
  let lit := (List.range 5).any (fun i => (s.source (f / 4) i).state = .active && (s.source (f / 4) i).feeds = f % 4)
  if s.boot.photonic && lit && !(s.hatch.conns.any (fun c => c.outs.contains (hatchPort f w) && 12 ≤ w && w < 16)) then some (pilotWord w)
  else none

/-- PILOT_FAULT payload (R150). -/
def pilotFaultPayload (w kind : Nat) : List Byte := beBytes 1 w ++ beBytes 1 kind ++ zeros 2

/-- Heater power, in µW, that takes a ring from a comb line to the next one in the heating direction (R89): 1.0 THz over 30 mW, so
6 mW for 200 GHz. Heating lowers the resonance, so the next line is the one below; below line 0 the ring's next resonance, 3.6 THz up, meets
the margin line 200 GHz on, and line 15 follows that after 400 GHz. -/
def heatToNext (line : Nat) : Nat := if line = 16 then 12000 else 6000

/-- The line below a line, in the heating direction. -/
def lineBelow (line : Nat) : Nat := (line + 16) % 17

/-- The highest line that a ring reaches by cooling, and the heater power there. -/
def coolest : Nat → Nat → Nat → Nat × Nat
  | 0, line, heater => (line, heater)
  | n + 1, line, heater =>
    let up := (line + 1) % 17
    if heatToNext up ≤ heater then coolest n up (heater - heatToNext up) else (line, heater)

/-- Lines that a ring reaches by heating further. -/
def linesBelow : Nat → Nat → Nat → Nat
  | 0, _, _ => 0
  | n + 1, line, heater => if heater + heatToNext line ≤ 30000 then 1 + linesBelow n (lineBelow line) (heater + heatToNext line) else 0

/-- The comb lines, at most 6, within a ring's heater range (R93). -/
def linesInRange (line heater : Nat) : Nat :=
  let top := coolest 6 line heater
  1 + linesBelow 5 top.1 top.2

/-- Where a ring goes from a line: the next one in the heating direction, or from the end of the range back to 0 mW and on (R93). -/
def lineAfter (line heater : Nat) : Nat × Nat :=
  if heater + heatToNext line ≤ 30000 then (lineBelow line, heater + heatToNext line) else coolest 6 line heater

/-- The ring moves to the next comb line; with every line of its range tried, the lane is held with cause 3, PILOT_FAULT is set and the
far end is told (R93). -/
def nextLine (s : State) (f w : Nat) : State :=
  let y := s.lane f w
  let tried := y.pilotLines + 1
  if linesInRange y.drop.line y.drop.heater ≤ tried then
    sendSeq ((laneHoldOwn s f w .pilot).setFlag (0x6390 + f / 4) 1) f 0x07 (pilotFaultPayload w 1)
  else
    let next := lineAfter y.drop.line y.drop.heater
    s.updLane f w (fun y =>
      { y with pilotGood := 0, pilotLines := tried, drop := { y.drop with locked := false, line := next.1, heater := next.2 } })

/-- A pilot word is decoded (R93, R94). An invalid word between valid ones starts either count again: that consecutive words have none
between them, valid or not, is a DESIGN CHOICE (log entry 158). The margin channel's ring is IN once its pilot check has passed. -/
def execPilotWordReceive (f : Fin 64) (w : Fin 17) (word : BitVec 16) (s : State) : Out :=
  let y := s.lane f w
  match y.state with
  | .lock =>
    if !y.drop.locked then .next s
    else match pilotIndex word with
      | none => .next (s.updLane f w (fun y => { y with pilotGood := 0 }))
      | some i =>
        if i ≠ w.val then .next (nextLine s f w)
        else if 2 ≤ y.pilotGood then
          .next (s.updLane f w (fun y =>
            { y with state := if w.val = 16 then .inn else .align, pilotGood := 0, pilotBad := 0, pilotLines := 0, drop := { y.drop with line := w } }))
        else .next (s.updLane f w (fun y => { y with pilotGood := y.pilotGood + 1 }))
  | .inn =>
    match pilotIndex word with
    | none => .next (s.updLane f w (fun y => { y with pilotBad := 0 }))
    | some i =>
      if i = w.val then .next (s.updLane f w (fun y => { y with pilotBad := 0 }))
      else if 1 ≤ y.pilotBad then
        let s := (s.setFlag (0x6390 + f / 4) 0).countUnit 1 (f / 4) 2
        .next (laneFault (s.updLane f w (fun y => { y with pilotBad := 0 })) f w .ring)
      else .next (s.updLane f w (fun y => { y with pilotBad := 1 }))
  | _ => .next s

/-- No valid word within 1 ms (R93). -/
def execPilotTimeout (f : Fin 64) (w : Fin 17) (s : State) : Out :=
  if (s.lane f w).state = .lock then .next (nextLine s f w) else .next s

/-- PILOT_RETRY_S after a hold with cause 3 (R93). -/
def execPilotRetryExpiry (f : Fin 64) (w : Fin 17) (s : State) : Out :=
  .next (releaseOwn s f w .pilot)

/-- Valid words lost for 1 s while FEC stays locked (R94): no fault, but counted, flagged and reported. -/
def execPilotWordsLost (f : Fin 64) (w : Fin 17) (s : State) : Out :=
  if (s.lane f w).state = .inn then
    let s := (s.setFlag (0x6390 + f / 4) 1).countUnit 1 (f / 4) 3
    .next (sendSeq (s.updLane f w (fun y => { y with pilotLost := y.pilotLost + 1 })) f 0x07 (pilotFaultPayload w 2))
  else .next s

/-- A PILOT_FAULT report: the spec gives it no action at the receiver beyond its own checks. -/
def onPilotFault (s : State) (f : Nat) (pl : List Byte) : State :=
  if byteAt pl 0 < 17 && (byteAt pl 1 = 1 || byteAt pl 1 = 2) && beAt pl 2 2 = 0 then s else s.countFibre f 4

/-- The source that feeds fibre `f`, by number. -/
def State.feeder (s : State) (f : Nat) : Option Nat :=
  (List.range 5).find? (fun i => (s.source (f / 4) i).state = .active && (s.source (f / 4) i).feeds = f % 4)

/-- The engine has no spare to give to a fibre: it is ACTIVE, FAILED or RETIRED, or taken by another fibre (R103, R105). -/
def State.noSpare (s : State) (f : Nat) : Bool :=
  let x := s.engine (f / 4)
  let st := (s.source (f / 4) 4).state
  st = .active || st = .failed || st = .retired || x.change.any (fun c => c.fibre ≠ f % 4) || x.failedFibre.any (fun i => i ≠ f % 4)

/-- Start the spare if it is OFF (R99). -/
def startSpare (s : State) (e : Nat) : State :=
  s.updSource e 4 (fun x => if x.state = .off then { x with state := .starting } else x)

/-- Drop the lane on a line that has no spare to turn to (R103). R103 calls the drop a lane fault of R78 and names no row of its table:
LANE_DROP carries that of the received power, CAUSE 1 (DESIGN CHOICE, log entry 159). -/
def dropForFade (s : State) (f w : Nat) : State :=
  if 16 ≤ w || (s.lane f w).own.contains .fade then s
  else
    let src := (s.feeder f).getD (f % 4)
    let s := if (s.lane f w).state = .inn then laneFault s f w .power else s
    let s := laneHoldOwn (s.updLane f w (fun y => { y with droppedBy := src })) f w .fade
    (s.updSource (f / 4) src (fun x => { x with dropped := min 16 (x.dropped + 1) })).countUnit 1 (f / 4) 8

/-- Drop every lane of a fibre whose line stands at −2.0 dB or below (R103). -/
def dropFaded (s : State) (f : Nat) : State :=
  s.forEach (List.range 16) (fun s w => if (s.lane f w).fade ≤ -200 then dropForFade s f w else s)

/-- A request of fibre `f` takes the spare from one of a higher fibre made at the same instant (R105). -/
def State.outranks (s : State) (f : Nat) : Bool :=
  (s.engine (f / 4)).change.any (fun c => c.target = 4 && c.at_ = s.now && c.t.isNone && !c.noticed && f % 4 < c.fibre)

/-- Request a changeover of the source that feeds fibre `f` to the spare (R98, R99, R105). A trial on the fibre is
abandoned. A request that finds no spare is not queued, and one for a fibre whose changeover is pending adds nothing. -/
def requestChange (s : State) (f : Nat) : State :=
  let e := f / 4
  let old := (s.engine e).change
  if !(s.outranks f) && (s.noSpare f || old.isSome) then s
  else
    let s := startSpare (abandonTrial s f) e
    let s := s.updEngine e (fun x =>
      { x with change := some { fibre := f % 4, target := 4, at_ := s.now, requested := (x.sources.get {} 4).state = .ready } })
    match old with
    | some c => dropFaded s (4 * e + c.fibre)
    | none => s

/-- The worst line of a fibre: line number and fade. -/
def worstLine (s : State) (f : Nat) : Nat × Int :=
  (List.range 17).foldl (fun (b : Nat × Int) w =>
    let y := (s.lane f w).fade
    if y < b.2 then (w, y) else b) (0, (s.lane f 0).fade)

/-- A line's averaged power (R98): FADE_WARN at −1.0 dB, a changeover request or a dropped lane at −2.0 dB. Fade is
clamped as R107 shows it. -/
def execLinePowerSample (f : Fin 64) (w : Fin 17) (x : LineSample) (s : State) : Out :=
  match s.feeder f with
  | none => .next s
  | some src =>
    let e := f / 4
    let old := (s.lane f w).fade
    let fade := max (-3000) (min 1000 (x.power - (s.lane f w).lineRef))
    let s := s.updLane f w (fun y => { y with fade := fade })
    let worst := worstLine s f
    let s := s.updSource e src (fun z => { z with fade := some worst.2, lastFade := worst.2, worstLine := worst.1 })
    let s := if fade ≤ -100 && -100 < old then
        let s := (s.setFlag (0x6390 + e) 3).countUnit 1 e 4
        if s.param 0x2190 6 = 0 then startSpare s e else s
      else s
    if fade ≤ -200 && -200 < old then
      .next (if s.noSpare f && !(s.outranks f) then dropForFade s f w else requestChange s f)
    else .next s

/-- A lane dropped for fade whose line has stayed above −1.5 dB for 60 s returns to LOCK (R103). -/
def execFadeDropRelease (f : Fin 64) (w : Fin 16) (s : State) : Out :=
  let y := s.lane f w
  if y.own.contains .fade && -150 < y.fade then
    .next ((releaseOwn s f w .fade).updSource (f / 4) y.droppedBy (fun x => { x with dropped := x.dropped - 1 }))
  else .next s

/-- A started spare is READY (R99). It feeds no fibre and has no line measured, so its FADE still reads 0x8000, as for a source that is
off (DESIGN CHOICE, log entry 160). A changeover that waited for it asks for its window. -/
def execSpareReady (e : Fin 16) (s : State) : Out :=
  if (s.source e 4).state = .starting then
    let s := s.updSource e 4 (fun x => { x with state := .ready })
    .next (s.updEngine e (fun x => { x with change := x.change.map (fun c => { c with requested := true }) }))
  else .next s

/-- Every line of every active source of an engine lies above −0.8 dB (R99). -/
def State.linesFresh (s : State) (e : Nat) : Bool :=
  (List.range 4).all (fun i => (s.feeder (4 * e + i)).isNone || (List.range 17).all (fun w => -80 < (s.lane (4 * e + i) w).fade))

/-- A READY spare that nothing waits for is switched OFF. -/
def spareOff (s : State) (e : Nat) : State :=
  if (s.source e 4).state = .ready && (s.engine e).change = none && (s.engine e).failedFibre = none then
    s.updSource e 4 (fun x => { x with state := .off, fade := none })
  else s

/-- Under policy 0 a READY spare returns to OFF once every line has stayed above −0.8 dB for 60 s (R99). -/
def execSpareOff (e : Fin 16) (s : State) : Out :=
  .next (if s.param 0x2190 6 = 0 && s.linesFresh e then spareOff s e else s)

/-- A write of SPARE_POLICY (R99): 1 starts every spare, 2 switches off a READY one. -/
def followPolicy (s : State) (v : Nat) : State :=
  if v = 1 then (if s.boot.comb then s.forEach (List.range 16) startSpare else s)
  else if v = 2 then s.forEach (List.range 16) spareOff
  else s

/-- CHANGEOVER payload (R150): fibre, duration 20 µs, T. -/
def changeoverPayload (f : Nat) (t : Nat × Nat) : List Byte :=
  beBytes 1 f ++ beBytes 1 20 ++ zeros 2 ++ beBytes 8 t.1 ++ beBytes 4 t.2

/-- Change a changeover in progress. -/
def State.updChange (s : State) (e : Nat) (g : Changeover → Changeover) : State :=
  s.updEngine e (fun x => { x with change := x.change.map g })

/-- At T − NOTICE_LEAD_US the notice is sent (R100). -/
def execChangeoverNoticeSend (e : Fin 16) (s : State) : Out :=
  match (s.engine e).change with
  | some c =>
    match c.t with
    | some t =>
      if c.noticed then .next s
      else
        let f := 4 * e.val + c.fibre
        .next (sendSeq (s.updChange e (fun c => { c with noticed := true })) f 0x08 (changeoverPayload f t))
    | none => .next s
  | none => .next s

/-- CHANGEOVER_ACK received: it echoes the notice (R100). A non-zero reserved byte discards it (R150). -/
def onChangeoverAck (s : State) (f : Nat) (pl : List Byte) : State :=
  if beAt pl 2 2 ≠ 0 then s.countFibre f 4
  else match (s.engine (f / 4)).change with
  | some c =>
    match c.t with
    | some t =>
      if c.fibre = f % 4 && c.noticed && pl = changeoverPayload f t then
        s.updChange (f / 4) (fun c => { c with acked := true })
      else s
    | none => s
  | none => s

/-- No acknowledgement by NOTICE_LEAD_US − 50 µs (R101): the window is abandoned and another is requested; after three,
the next window is used without acknowledgement. -/
def execChangeoverAckTimeout (e : Fin 16) (s : State) : Out :=
  match (s.engine e).change with
  | some c =>
    if c.noticed && !c.acked && !c.open_ && c.abandoned < 3 then
      .next (s.updChange e (fun c =>
        { c with t := none, noticed := false, requested := true, abandoned := c.abandoned + 1 }))
    else .next s
  | none => .next s

/-- Network time has reached an instant. -/
def State.reached (s : State) (t : Nat × Nat) : Bool := toNs t ≤ toNs (s.time.sec, s.time.ns)

/-- At T (R100 steps 5 to 8): data lanes send idles, margin frames stop, fault detection and the retry timers are
suspended (R157). -/
def execChangeoverWindowOpen (e : Fin 16) (s : State) : Out :=
  match (s.engine e).change with
  | some c =>
    match c.t with
    | some t =>
      if s.reached t && c.noticed && (c.acked || 3 ≤ c.abandoned) && !c.open_ then
        let f := 4 * e.val + c.fibre
        let s := s.updChange e (fun c => { c with open_ := true })
        let s := if c.acked then s else (s.setFlag (0x6390 + e) 5).countUnit 1 e 6
        .next ((abandonTrial s f).updFibre f (fun x =>
          { x with suspended := true, margin := { x.margin with stopped := true } }))
      else .next s
    | none => .next s
  | none => .next s

/-- The commissioning reference of a line: fibre number, or 64 + e for the spare of engine e (R97, R100). -/
def State.calRef (s : State) (f w : Nat) : Int :=
  Config.calibrationRef ((dataPayload s.flash 0x0005).getD []) f w

/-- A line whose commissioning reference lies outside its range (R97), in 0.01 dBm. -/
def State.lineFlagged (s : State) (f w : Nat) : Bool :=
  let r := s.calRef f w
  if w = 16 then r < -400 || -200 < r else r < -100 || -50 < r

/-- Take up a source's reference for a fibre's lines. -/
def newReference (s : State) (f calIdx : Nat) : State :=
  s.forEach (List.range 17) (fun s w => s.updLane f w (fun y => { y with lineRef := s.calRef calIdx w, fade := 0 }))

/-- The new calibration record is taken up (R97): references are read again, and a line's place in or out of its range ends or gives hold
cause 8. -/
def reloadCalibration (s : State) : State :=
  if !s.boot.photonic then s
  else
    s.forEach (List.range 64) (fun s f =>
      let idx := if s.feeder f = some 4 then 64 + f / 4 else f
      s.forEach (List.range 17) (fun s w =>
        let s := s.updLane f w (fun y => { y with lineRef := s.calRef idx w })
        if 16 ≤ w then s
        else if s.lineFlagged f w then (if (s.lane f w).own.contains .launch then s else laneHoldOwn s f w .launch)
        else releaseOwn s f w .launch))

/-- What the spare becomes when a source is reinstated (R99, R109): READY, or OFF under policy 2. -/
def spareAfterReinstate (s : State) : SourceState := if s.param 0x2190 6 = 2 then .off else .ready

/-- The idle window of a fibre ends: data and margin frames resume. -/
def closeWindow (s : State) (f : Nat) : State :=
  pumpMargin (s.updFibre f (fun x => { x with suspended := false, margin := { x.margin with stopped := false } })) f

/-- The changeover of an engine is abandoned; an open window ends. -/
def dropChange (s : State) (e : Nat) : State :=
  match (s.engine e).change with
  | none => s
  | some c =>
    let s := s.updEngine e (fun x => { x with change := none })
    if c.open_ then closeWindow s (4 * e + c.fibre) else s

/-- The end of a changeover's window (R100 steps 8 and 9): the old source is off and RETIRED, the new one feeds the fibre, frames and
fault detection resume, CHANGEOVER is set. -/
def changeoverDone (s : State) (e : Nat) (c : Changeover) : State :=
  let f := 4 * e + c.fibre
  let s := if c.target = 4 then
      let s := match s.feeder f with
        | some o => s.updSource e o (fun x => { x with state := .retired, feeds := 4, fade := none })
        | none => s
      let s := s.updSource e 4 (fun x => { x with state := .active, feeds := c.fibre, fade := some 0 })
      newReference (s.setFlag (0x6390 + e) 6) f (64 + e)
    else
      let s := s.updSource e 4 (fun x =>
        { x with state := if x.state = .failed then .failed else spareAfterReinstate s, feeds := 4, fade := none })
      let s := s.updSource e c.target (fun x => { x with state := .active, feeds := c.fibre, fade := some 0 })
      newReference s f f
  let s := s.updEngine e (fun x => { x with change := none })
  let s := ((s.setFlag (0x6390 + e) 4).countUnit 1 e 5).countFibre f 0x2E
  closeWindow s f

/-- At T + 20 µs a changeover ends. -/
def execChangeoverWindowEnd (e : Fin 16) (s : State) : Out :=
  match (s.engine e).change with
  | some c => if c.open_ then .next (changeoverDone s e c) else .next s
  | none => .next s

/-- A far end's CHANGEOVER notice (R101): acknowledged, and the window remembered. -/
def onChangeover (s : State) (f : Nat) (pl : List Byte) : State :=
  if byteAt pl 0 < 64 && byteAt pl 1 = 20 && beAt pl 2 2 = 0 && beAt pl 12 4 < 1000000000 then
    sendSeq (s.updFibre f (fun x => { x with farWindow := some (beAt pl 4 8, beAt pl 12 4) })) f 0x09 pl
  else s.countFibre f 4

/-- Every lane of a fibre reports its ring unlocked (R104). -/
def unlockFibre (s : State) (f : Nat) : State :=
  s.forEach (List.range 16) (fun s w => laneFault s f w .ring)

/-- A fibre whose source has FAILED with no spare (R104): every lane is held with cause 10, and the margin channel and the links go
down. -/
def fibreSourceless (s : State) (f : Nat) : State :=
  fibreLinksDown (marginLost (s.forEach (List.range 16) (fun s w => laneHoldOwn s f w .source)) f) f .waitMargin

/-- A changeover that a source's failure ends (R104, R105): one towards that source, or one not begun of the fibre it feeds. In a window
that the failing source was leaving, the other source takes over as planned. -/
def failureEndsChange (c : Changeover) (src feeds : Nat) : Bool := c.target = src || (c.fibre = feeds && !c.open_)

/-- A source falls by more than 6 dB (R104). With a spare, the spare is started to be routed directly, and the margin channel and links
train again; with none, the fibre stays dark. -/
def execSourceFailure (e : Fin 16) (src : Fin 5) (s : State) : Out :=
  let x := s.source e src
  if x.state = .off || x.state = .failed then .next s
  else
    let feeds := if x.state = .active then x.feeds else 4
    let s := s.updSource e src (fun x => { x with state := .failed, feeds := 4, fade := none })
    let s := (s.setFlag (0x6390 + e) 7).countUnit 1 e 7
    let s := s.setFlagIf (src.val = 4) (0x6390 + e) 6
    let s := if (s.engine e).change.any (fun c => failureEndsChange c src feeds) then dropChange s e else s
    let waits := if src.val = 4 then (s.engine e).failedFibre else none
    let s := match waits with
      | some i => fibreSourceless (s.updEngine e (fun y => { y with failedFibre := none })) (4 * e.val + i)
      | none => s
    let f := 4 * e.val + feeds
    if 4 ≤ feeds || (s.engine e).change.any (fun c => c.fibre = feeds) then .next s
    else if s.noSpare f then .next (fibreSourceless s f)
    else
      let s := startSpare ((unlockFibre s f).updEngine e (fun y => { y with failedFibre := some feeds })) e
      .next (fibreLinksDown (marginLost s f) f .waitMargin)

/-- The spare is routed directly to the fibre of a failed source (R104): the rings relock. -/
def execSpareRouted (e : Fin 16) (s : State) : Out :=
  match (s.engine e).failedFibre with
  | some i =>
    if (s.source e 4).state = .ready then
      let s := s.updSource e 4 (fun x => { x with state := .active, feeds := i, fade := some 0 })
      let s := (s.setFlag (0x6390 + e) 6).updEngine e (fun y => { y with failedFibre := none })
      .next (newReference s (4 * e.val + i) (64 + e))
    else .next s
  | none => .next s

/-- SOURCE_CMD's value (R109). -/
def sourceCmd (cmd e src : Nat) : Nat := cmd * 256 + e * 16 + src

/-- SOURCE_CMD (R109): field rules give RANGE; the state of the source and of the spare gives STATE. Command 2 with a READY spare that a
pending changeover or a failed fibre has taken answers STATE: R109 does not speak of it (DESIGN CHOICE, log entry 161). -/
def sourceCommand (s : State) (v : Nat) : Except DopStatus State :=
  let cmd := bits v 15 8
  let e := bits v 7 4
  let src := bits v 3 0
  if bits v 31 16 ≠ 0 || (cmd ≠ 1 && cmd ≠ 2) || 3 < src then .error .range
  else if cmd = 1 then
    if (s.source e src).state = .retired && (s.source e 4).state = .active && (s.source e 4).feeds = src &&
       -100 < (s.source e src).lastFade && (s.engine e).change = none then
      .ok ((abandonTrial s (4 * e + src)).updEngine e (fun x =>
        { x with change := some { fibre := src, target := src, requested := true } }))
    else .error .state
  else if (s.source e src).state = .active && (s.source e 4).state = .ready && (s.engine e).change = none &&
      (s.engine e).failedFibre = none then
    .ok (requestChange s (4 * e + src))
  else .error .state

/-- SOURCE_CMD command 1. -/
def execSourceReinstate (r : Req) (e src : Fin 16) (s : State) : Out :=
  .next (serveWrite s r 0x2191 1 (sourceCmd 1 e src) sourceCommand)

/-- SOURCE_CMD command 2. -/
def execChangeoverNow (r : Req) (e src : Fin 16) (s : State) : Out :=
  .next (serveWrite s r 0x2191 1 (sourceCmd 2 e src) sourceCommand)

/-- ERROR_REPORT payload (R150): the count of windows, the lanes worse than WARN_BER, and sixteen error counts. -/
def errorReportPayload (s : State) (f : Nat) (counts : List Nat) : List Byte :=
  let warn := (List.range 16).foldl (fun a w =>
    if (s.lane f w).state = .inn && (s.lane f w).ber < s.param 0x2180 2 then a + 2 ^ w else a) 0
  beBytes 4 ((s.fibre f).margin.window % 2 ^ 32) ++ beBytes 2 warn ++ zeros 2 ++
  (List.range 16).flatMap (fun w => beBytes 4 ((counts[w]?).getD 0))

/-- An ERROR_REPORT is sent every 100 µs (R150). -/
def execErrorReportSend (f : Fin 64) (counts : List Nat) (s : State) : Out :=
  if (s.fibre f).marginState = .up then
    let pl := errorReportPayload s f counts
    .next (sendPlain (s.updFibre f (fun x => { x with margin := { x.margin with window := x.margin.window + 1 } })) f 0x06 pl)
  else .next s

/-- An ERROR_REPORT received: its counts feed a trial of a modulator ring (R91), and REPORT_LANES lanes reported within
1 s request a changeover (R98). -/
def onErrorReport (s : State) (f : Nat) (pl : List Byte) : State :=
  if beAt pl 6 2 ≠ 0 then s.countFibre f 4
  else
    let warn := beAt pl 4 2
    let fresh := (s.fibre f).reports.filter (fun r => s.now < r.2 + 10 ^ 12 && !(bit warn r.1))
    let reports := fresh ++ ((List.range 16).filter (fun w => bit warn w)).map (fun w => (w, s.now))
    let s := s.updFibre f (fun x => { x with reports := reports })
    let s := match (s.fibre f).trial with
      | some t => if t.ring = .modulator then trialCounts s f (beAt pl (8 + 4 * t.lane) 4) (bit warn t.lane) else s
      | none => s
    if s.param 0x2190 4 ≤ reports.length && warn ≠ 0 && (s.feeder f).isSome then requestChange s f else s

end Sys2Proof.Machine
end

