-- ==== Sys2Proof/Machine/HatchOps.lean ====
section
/-!
DEFINITION. The Hatch mesh: its wiring and stage settings (R110, R112), the routing of unicast connections, staging entries
(R114), the checks of a commit (R111, R116) and the ways it ends.
-/

namespace Sys2Proof.Machine

/-- Element `m` of stage `st`. -/
def elemKey (st m : Nat) : Nat := 128 * st + m

/-- An element's setting. -/
def HatchSt.elem (h : HatchSt) (st m : Nat) : Elem := h.elems.get {} (elemKey st m)

/-- Output ports that light entering port `i` of an element takes: bar keeps the port, cross changes it, a split takes both;
a FAILED element stands in its measured state (R122). -/
def Elem.outs (x : Elem) (i : Nat) : List Nat :=
  let split := if x.ratio = 0 then [i] else if 63 ≤ x.ratio then [1 - i] else [0, 1]
  if x.failed then split
  else if x.mode = 0 then [i]
  else if x.mode = 1 then [1 - i]
  else [0, 1]

/-- One stage of the mesh: from a position (base of the sub-network, local input or output number) the element it meets
and the positions beyond it. Up to stage 7 sub-networks halve; beyond it they join again. -/
def meshStep (h : HatchSt) (st : Nat) (pos : Nat × Nat) : Nat × List (Nat × Nat) :=
  let (b, i) := pos
  if st < 7 then
    let m := 128 / 2 ^ st
    let e := b + i / 2
    (elemKey st e, ((h.elem st e).outs (i % 2)).map (fun o => (b + o * (m / 2), i / 2)))
  else if st = 7 then
    (elemKey 7 b, ((h.elem 7 b).outs (i % 2)).map (fun o => (b, o)))
  else
    let half := (128 / 2 ^ (14 - st)) / 2
    let up := b / half % 2
    let pb := b - up * half
    let e := pb + i
    (elemKey st e, ((h.elem st e).outs up).map (fun o => (pb, 2 * i + o)))

/-- Elements that the light of an input meets, and the outputs it reaches. -/
def meshTrace (h : HatchSt) (input : Nat) : List Nat × List Nat :=
  let r := (List.range 15).foldl (fun (acc : List Nat × List (Nat × Nat)) st =>
    let next := acc.2.map (meshStep h st)
    (acc.1 ++ next.map (·.1), next.flatMap (·.2))) ([], [(0, input)])
  (r.1, r.2.map (fun p => p.2))

/-- The half-networks a standing connection takes, from the outside in: its side at each of stages 0 to 6. -/
def currentSides (h : HatchSt) (input : Nat) : List Nat :=
  ((List.range 7).foldl (fun (acc : List Nat × (Nat × Nat)) st =>
    match (meshStep h st acc.2).2 with
    | p :: _ => (acc.1 ++ [if p.1 = acc.2.1 then 0 else 1], p)
    | [] => acc) ([], (0, input))).1

/-- A unicast connection inside a sub-network: local input and output, and the sides it takes now (none where it does not
stand). -/
structure RouteConn where
  inp : Nat
  out : Nat
  cur : List Nat
deriving DecidableEq, Repr

/-- Partner of a connection at the last stage, and at the first stage. -/
def outPartner (l : List RouteConn) (c : RouteConn) : Option RouteConn :=
  l.find? (fun d => d.out / 2 = c.out / 2 && d.out ≠ c.out)
def inPartner (l : List RouteConn) (c : RouteConn) : Option RouteConn :=
  l.find? (fun d => d.inp / 2 = c.inp / 2 && d.inp ≠ c.inp)

/-- Walk from `c` through output partners and input partners in turn, giving opposite sides (R112). -/
def loopWalk (l : List RouteConn) (byOut : Bool) : Nat → RouteConn → Tab Nat → Tab Nat
  | 0, _, sides => sides
  | n + 1, c, sides =>
    match (if byOut then outPartner l c else inPartner l c) with
    | none => sides
    | some d =>
      if sides.get 2 d.inp ≠ 2 then sides
      else loopWalk l (!byOut) n d (sides.put 2 d.inp (1 - sides.get 2 c.inp))

/-- Assign every connection to the upper (0) or lower (1) half. The walk runs from each connection in both directions, so
that a chain that does not close is covered too (log entry 11). -/
def loopAssign (l : List RouteConn) (d : Nat) : Tab Nat :=
  l.foldl (fun sides c =>
    if sides.get 2 c.inp ≠ 2 then sides
    else
      let sides := sides.put 2 c.inp ((c.cur[d]?).getD 0)
      let sides := loopWalk l true l.length c sides
      loopWalk l false l.length c sides) []

/-- Settings of a sub-network of depth `d` at base `b`: one element at depth 7, else the outer elements and the two halves. -/
def routeNet : Nat → Nat → Nat → List RouteConn → List (Nat × Elem)
  | 0, _, b, l =>
    [(elemKey 7 b, if l.any (fun c => c.inp % 2 ≠ c.out % 2) then { mode := 1 } else {})]
  | n + 1, d, b, l =>
    let m := 128 / 2 ^ d
    let sides := loopAssign l d
    let side (c : RouteConn) := sides.get 2 c.inp
    let first := (List.range m).map (fun k =>
      (elemKey d (b + k),
        if l.any (fun c => c.inp / 2 = k && c.inp % 2 ≠ side c) then ({ mode := 1 } : Elem) else {}))
    let last := (List.range m).map (fun k =>
      (elemKey (14 - d) (b + k),
        if l.any (fun c => c.out / 2 = k && c.out % 2 ≠ side c) then ({ mode := 1 } : Elem) else {}))
    let half (h : Nat) := (l.filter (fun c => side c = h)).map (fun c => { c with inp := c.inp / 2, out := c.out / 2 })
    first ++ last ++ routeNet n (d + 1) b (half 0) ++ routeNet n (d + 1) (b + m / 2) (half 1)

/-- The elements that a route changes, heaters kept. -/
def changedElems (h : HatchSt) (l : List (Nat × Elem)) : List (Nat × Elem) :=
  (l.map (fun p => (p.1, { p.2 with heater := (h.elems.get {} p.1).heater, failed := (h.elems.get {} p.1).failed }))).filter
    (fun p => p.2 ≠ h.elems.get {} p.1)

/-- Connections that stand after a commit: releases removed, connects added. -/
def connsAfter (h : HatchSt) (c : Commit) : List Conn :=
  h.conns.filter (fun x => !(c.releases.contains x.input)) ++ c.connects

/-- Route by the looping procedure, for a set of unicast connections. -/
def routeUnicast (h : HatchSt) (l : List Conn) : List (Nat × Elem) :=
  changedElems h (routeNet 7 0 0 (l.flatMap (fun c => c.outs.map (fun o =>
    { inp := c.input, out := o
      cur := if h.conns.any (fun x => x.input = c.input) then currentSides h c.input else [] }))))

/-- Standing connections, not released, that a route disturbs: an element on their path changes (R113). -/
def disturbedBy (h : HatchSt) (c : Commit) (route : List (Nat × Elem)) : List Nat :=
  ((h.conns.filter (fun x => !(c.releases.contains x.input))).filter (fun x =>
    (meshTrace h x.input).1.any (fun k => route.any (fun p => p.1 = k)))).map (·.input)

/-- Fields of a staging entry (R114). -/
def entryOp (v : Nat) : Nat := bits v 63 62
def entryFanout (v : Nat) : Nat := bits v 61 58
def entryInput (v : Nat) : Nat := bits v 57 50
def entryOutFibre (v k : Nat) : Nat := bits v (6 * k + 5) (6 * k)

/-- Outputs a connect names. -/
def entryOuts (v : Nat) : List Nat :=
  (List.range (entryFanout v)).map (fun k => 4 * entryOutFibre v k + entryInput v % 4)

/-- Field rules of an entry. -/
def entryFieldsOk (v : Nat) : Bool :=
  bits v 49 48 = 0 &&
  ((entryOp v = 1 && 1 ≤ entryFanout v && entryFanout v ≤ 8 &&
      (List.range 8).all (fun k => k < entryFanout v || entryOutFibre v k = 0) && (entryOuts v).Nodup) ||
   (entryOp v = 2 && entryFanout v = 0 && bits v 47 0 = 0))

/-- Staged entry `k`. -/
def State.hatchEntry (s : State) (k : Nat) : Nat := s.param 0x21A2 (1 + k)

/-- A fibre's MODE and MARGIN_STATE suit a circuit (R111). -/
def fibreReady (s : State) (f : Nat) : Bool := cfgMode (s.fibreCfg f) && (s.fibre f).marginState = .up

/-- A fibre's LONG_REACH and length suit a circuit (R111). -/
def fibreNear (s : State) (f : Nat) : Bool :=
  !(cfgLong (s.fibreCfg f)) && 1 ≤ (s.fibre f).length && (s.fibre f).length ≤ 50

/-- The connection of a connect entry. -/
def entryConn (v : Nat) : Conn := { input := entryInput v, outs := entryOuts v, muted := true }

/-- The first failure of one connect, in code order after the field rules (R116): releases of the commit are applied before. -/
def connectStatus (s : State) (standing earlier : List Conn) (c : Conn) : Option Nat :=
  let used (x : Conn) := x.input = c.input || x.outs.any (fun o => c.outs.contains o)
  if standing.any used || earlier.any used then some 3
  else if !(c.fibres.all (fibreReady s)) then some 4
  else if !(c.fibres.all (fibreNear s)) then some 6
  else if c.outs.any (fun o => o / 4 = c.input / 4) then some 8
  else none

/-- Inputs that a commit's entries release. -/
def entryReleases (vs : List Nat) : List Nat := (vs.filter (fun v => entryOp v = 2)).map entryInput

/-- Connections that a commit's entries make. -/
def entryConnects (vs : List Nat) : List Conn := (vs.filter (fun v => entryOp v = 1)).map entryConn

/-- What is wrong with entry `k` of a commit (R116): its own fields or an input that an earlier entry names, then the connection it releases
or makes. -/
def entryFailure (s : State) (vs : List Nat) (k : Nat) : Option Nat :=
  let v := (vs[k]?).getD 0
  let earlier := vs.take k
  if !(entryFieldsOk v) || (earlier.map entryInput).contains (entryInput v) then some 5
  else if entryOp v = 2 then (if s.hatch.conns.any (fun c => c.input = entryInput v) then none else some 9)
  else connectStatus s (s.hatch.conns.filter (fun c => !((entryReleases vs).contains c.input))) (entryConnects earlier) (entryConn v)

/-- Check a commit's entries in order (R116). Answers the first failure's code, or releases and connects. -/
def checkEntries (s : State) (vs : List Nat) : Except Nat (List Nat × List Conn) :=
  match (List.range vs.length).findSome? (entryFailure s vs) with
  | some e => .error e
  | none => .ok (entryReleases vs, entryConnects vs)

/-- Slots that enter circuit use with a commit. -/
def enteringSlots (s : State) (c : Commit) : List (Nat × Nat) :=
  (c.connects.flatMap Conn.slots).eraseDups.filter (fun x => !(s.inCircuit x.1 x.2))

/-- Slots that leave circuit use with a commit. -/
def leavingSlots (s : State) (c : Commit) : List (Nat × Nat) :=
  let old := (s.hatch.conns.filter (fun x => c.releases.contains x.input)).flatMap Conn.slots
  let stay := (connsAfter s.hatch c).flatMap Conn.slots
  old.eraseDups.filter (fun x => !(stay.contains x))

/-- Record how a commit ended (R116, R125, R126). -/
def recordCommitEnd (s : State) (status tag : Nat) : State :=
  let s := s.modHatch (fun h => { h with commit := none, lastStatus := status, lastTag := tag })
  let s := s.countUnit 3 0 (status + 1)
  let s := s.setFlagIf (status = 7) 0x63A1 1
  s.setFlagIf (status = 2) 0x63A1 0

/-- A slot returns to electrical service: its lane enters LOCK where it can, and its link starts over. -/
def slotReturns (s : State) (f w : Nat) : State :=
  let hold : Hold := if (s.fibre f).rxLos then .dark else .none
  let s := s.updLane f w (fun y => if y.hold = .circuit then { y with hold := hold } else y)
  linkRestart (laneStart s f w) (s.linkOfLane f w)

/-- End a commit before T (R115, R117, R120): credits are restored and drained lanes return to LOCK. -/
def endCommit (s : State) (status : Nat) : State :=
  match s.hatch.commit with
  | none => s
  | some c =>
    let slots := enteringSlots s c
    let s := s.forEach slots (fun s x => s.updLink (16 * x.1 + x.2) (fun l => { l with draining := false }))
    let s := recordCommitEnd s status c.tag
    if c.drained then s.forEach slots (fun s x => slotReturns s x.1 x.2) else s

/-- The drain ends (R117 step 3): frames left are discarded, lanes go to OUT with HOLD_CAUSE 6, links to HELD, and a window
is asked for. -/
def endDrain (s : State) : State :=
  match s.hatch.commit with
  | none => s
  | some c =>
    let s := s.forEach (enteringSlots s c) (fun s x =>
      let s := linkDown s (16 * x.1 + x.2) .held
      let s := s.updLink (16 * x.1 + x.2) (fun l => { l with draining := false })
      laneOut s x.1 x.2 .circuit)
    s.modHatch (fun h => { h with commit := h.commit.map (fun c => { c with stage := 2, drained := true, requested := true }) })

/-- Change the commit in progress. -/
def State.updCommit (s : State) (g : Commit → Commit) : State :=
  s.modHatch (fun h => { h with commit := h.commit.map g })

/-- Fibres of a commit and of each connection it disturbs. -/
def commitFibres (s : State) (c : Commit) : List Nat :=
  let dis := (s.hatch.conns.filter (fun x => c.disturbed.contains x.input || c.releases.contains x.input)).flatMap Conn.fibres
  ((c.connects.flatMap Conn.fibres) ++ dis).eraseDups

/-- Peers of a slot under the connections of a list. -/
def slotPeers (l : List Conn) (f w : Nat) : List Nat :=
  (l.flatMap (fun c =>
    (if c.input = hatchPort f w then c.outs.map (· / 4) else []) ++
    (if c.outs.contains (hatchPort f w) then [c.input / 4] else []))).eraseDups

/-- The CIRCUIT notice for a slot (R150): role bits, peers with their SLOT_ID, T. -/
def circuitPayload (s : State) (c : Commit) (t : Nat × Nat) (f w : Nat) : List Byte :=
  let port := hatchPort f w
  let isIn := c.connects.any (fun x => x.input = port)
  let isOut := c.connects.any (fun x => x.outs.contains port)
  let dis := (s.hatch.conns.filter (fun x => c.disturbed.contains x.input)).any (fun x => x.slots.contains (f, w))
  let rel := (s.hatch.conns.filter (fun x => c.releases.contains x.input)).any (fun x => x.slots.contains (f, w))
  let role := ofBool isIn + 2 * ofBool isOut + 4 * ofBool dis + 8 * ofBool rel
  let peers := (slotPeers (c.connects ++ s.hatch.conns.filter (fun x =>
    c.disturbed.contains x.input || c.releases.contains x.input)) f w).take 9
  beBytes 1 f ++ beBytes 1 w ++ beBytes 1 role ++ beBytes 1 peers.length ++ beBytes 8 t.1 ++ beBytes 4 t.2 ++
  peers.flatMap (fun g => beBytes 1 g ++ beBytes 1 (((s.fibre g).far.map (·.slotId)).getD 0))

/-- Slots that a commit's notices go to. -/
def noticeSlots (s : State) (c : Commit) : List (Nat × Nat) :=
  ((c.connects ++ s.hatch.conns.filter (fun x => c.disturbed.contains x.input || c.releases.contains x.input)).flatMap
    Conn.slots).eraseDups

/-- ROLE of a CIRCUIT frame or its echo is sound: reserved bits 0, and some role (R150). -/
def roleOk (role : Nat) : Bool := role ≠ 0 && role < 16

/-- CIRCUIT_ACK received: bytes 0 to 15 of a notice, echoed (R117). A reserved bit of ROLE discards it (R5, R150). -/
def onCircuitAck (s : State) (f : Nat) (pl : List Byte) : State :=
  if !(roleOk (byteAt pl 2)) then s.countFibre f 4
  else match s.hatch.commit with
  | some c =>
    match c.t with
    | some t =>
      if c.noticed && byteAt pl 0 = f && beAt pl 4 8 = t.1 && beAt pl 12 4 = t.2 then
        s.updCommit (fun c => { c with awaiting := c.awaiting.filter (fun k => k ≠ 16 * f + byteAt pl 1) })
      else s
    | none => s
  | none => s

/-- A CIRCUIT frame received: only the module sends one, so a sound one has no effect; one with a field that R150 does not allow, or whose
peers do not fit the frame, is discarded and counted (R5, R6, R7). -/
def onCircuit (s : State) (f : Nat) (pl : List Byte) : State :=
  let peers := byteAt pl 3
  if byteAt pl 0 < 64 && 12 ≤ byteAt pl 1 && byteAt pl 1 ≤ 15 && roleOk (byteAt pl 2) && 1 ≤ peers && peers ≤ 9 &&
      16 + 2 * peers ≤ pl.length then s
  else s.countFibre f 4

/-- A write of FIBRE_CFG, or a lost channel, makes a fibre of the commit unfit before its notices are acknowledged
(R128). -/
def reviewCommit (s : State) (f : Nat) : State :=
  match s.hatch.commit with
  | some c =>
    if c.stage ≤ 2 && (c.connects.flatMap Conn.fibres).contains f && !(cfgMode (s.fibreCfg f) && !(cfgLong (s.fibreCfg f)))
    then endCommit s 4 else s
  | none => s

/-- The connections between which margin frames are relayed: from T on those of the commit (R119, R157). -/
def HatchSt.relayed (h : HatchSt) : List Conn :=
  match h.commit with
  | some c => if c.stage = 3 then connsAfter h c else h.conns
  | none => h.conns

/-- Relay a frame to the circuit peers of its slot (R151), while the fibre's channel is UP (R123, R128). The frame's TC7 credit on the fibre
it came from returns when the last peer's copy is sent (R154), or at once where it is discarded. -/
def relayFrame (s : State) (f slot : Nat) (bytes : List Byte) : State :=
  let peers := if (s.fibre f).marginState = .up then slotPeers s.hatch.relayed f slot else []
  let x : MarginFrame := { prio := 9, seqd := false, relay := true, typ := 0, payload := bytes }
  let last : MarginFrame := { x with owes := some f }
  if peers = [] then payBack ((s.setFlag (0x6440 + f) 2).countFibre f 7) last
  else
    s.forEach peers.zipIdx (fun s (g, i) =>
      (sendMarginFrame s g (if i + 1 = peers.length then last else x)).countFibre f 6)

end Sys2Proof.Machine
end

