-- ==== Sys2Proof/Machine/DuctusOps.lean ====
section
/-!
DEFINITION. Ductus (R200 to R225): SCHED frames, suspension and swaps, idle windows, and the token buckets of shapers and
policers.
-/

namespace Sys2Proof.Machine

/-- The time error estimate of R367, in whole ns: in HOLDOVER it grows by 50 ns for each second since the last sample. -/
def State.timeErr (s : State) : Nat :=
  if s.time.servo = .holdover then min 0xFFFFF (s.time.err + 50 * ((s.now - s.time.lastSample) / 10 ^ 12)) else s.time.err

/-- The time error estimate lies within ±SYNC_TOL_NS (R212). -/
def State.inTolerance (s : State) : Bool := s.timeErr ≤ s.param 0x21F0 1

/-- A flag of DUCTUS_FLAGS. -/
def State.ductusFlag (s : State) (b : Nat) : State := s.setFlag 0x6501 b

/-- A counter of Ductus (R375, type 0x07). -/
def State.countDuctus (s : State) (sub : Nat) : State := s.countUnit 7 0 sub

/-- The payload of a SCHED frame (R216). -/
def schedPayload (s : State) (kind cause id cell : Nat) : List Byte :=
  beBytes 1 kind ++ beBytes 1 cause ++ beBytes 2 (s.param 0x21F0 4) ++ beBytes 4 id ++ beBytes 8 cell ++
  beBytes 8 s.time.sec ++ beBytes 4 s.time.ns ++ zeros 4

/-- SCHED sent on every margin channel in UP (R216). -/
def State.sendSched (s : State) (kind cause id cell : Nat) : State :=
  s.forEach s.upFibres (fun t f => sendSeq t f 0x16 (schedPayload s kind cause id cell))

/-- SCHEDULE_ID of the active and the shadow bank (R223). -/
def DuctusSt.activeId (d : DuctusSt) : Nat := if d.active = [] then 0 else imgId d.active
def DuctusSt.shadowId (d : DuctusSt) : Nat := if d.shadow = [] || !d.shadowValid then 0 else imgId d.shadow

/-- STATE leaves ACTIVE or stays out of it (R208): every queued TC0 cell is discarded. -/
def State.ductusState (s : State) (st : Nat) : State := dropTc0 (s.modDuctus (fun d => { d with state := st })) true

/-- A swap is missed (R213): STATE SUSPENDED, MISSED, and SCHED MISSED naming the cause; the armed image stays armed. -/
def State.missSwap (s : State) (cause : Nat) : State :=
  let s := ((s.ductusState 2).ductusFlag 1).countDuctus 2
  (s.sendSched 3 cause s.ductus.shadowId s.ductus.armedAt).modDuctus (fun d => { d with check := none, lostSync := false })

/-- The banks exchange, or the active image is taken up again, at cell time c (R212, R214). -/
def State.activate (s : State) (exchange : Bool) (c : Nat) : State :=
  let s := s.modDuctus (fun d =>
    { d with
      active := if exchange then d.shadow else d.active
      shadow := if exchange then d.active else d.shadow
      shadowValid := if exchange then d.active ≠ [] else d.shadowValid
      state := 1, armed := false, lastSwap := c, check := none, bootJoin := false, lostSync := false })
  (dropTc0 s false).sendSched 2 0 s.ductus.activeId c

/-- Cause why a readiness check fails, 0 where it passes (R212, R216). -/
def State.readiness (s : State) : Nat :=
  if !s.ductus.armed then 1 else if !s.timeSet then 2 else if !s.inTolerance then 3 else 0

/-- Validation of the shadow image ends (R209). -/
def State.validateShadow (s : State) : State :=
  let code := validateImage (s.param 0x21F0 4) s.ductus.shadow
  s.modDuctus (fun d => { d with imageStatus := code, shadowValid := code = 0, validating := false })

/-- The boot schedule record is loaded into the shadow bank (R63, R210, R328); it needs an Inkwell stack. -/
def State.loadBootSchedule (s : State) : State :=
  match dataPayload s.flash 7 with
  | some b => if s.mem.ink = 0 then s
      else (s.modDuctus (fun d => { d with shadow := b, shadowValid := false })).validateShadow
  | none => s

/-- Deactivation (R210 command 5, R329): STATE NONE, ARMED cleared, SCHED DEACTIVATED sent; CELL of that frame is not stated
and is a free value. -/
def State.deactivate (s : State) : State :=
  let (v, s) := (s.modDuctus (fun d => { d with armed := false, check := none, lostSync := false })).free64
  (s.ductusState 0).sendSched 4 0 0 v

/-- Follow TIME and the time error estimate (R214): the instant from which both have held. A lapse after a passed readiness check makes the
swap a miss, though it may end before T (R213, R225). -/
def State.reviewSettled (s : State) : State :=
  s.modDuctus (fun d =>
    { d with
      settled := if s.timeSet && s.inTolerance then some (d.settled.getD s.now) else none
      check := if d.check = some 0 then some (if !s.timeSet then 2 else if !s.inTolerance then 3 else 0) else d.check })

/-- Command 5 takes effect at the cell time after the one of its write (R210). -/
def State.reviewDeactivate (s : State) : State :=
  match s.ductus.deactivating with
  | some c => if c < s.cellNow then (s.modDuctus (fun d => { d with deactivating := none })).deactivate else s
  | none => s

/-- SWAP_AT qualifies for arming (R211). -/
def State.swapAtOk (s : State) (at_ : Nat) : Bool :=
  let b := s.ductus.shadow
  imgStart b ≤ at_ && imgOffset b at_ = some 0 && s.cellNow + 97657 ≤ at_ && at_ ≤ s.cellNow + 5859375000

/-- SCHED_CMD (R210): the field rules, then the state (R400 step 7); the conditions of R211 on SWAP_AT compare it with the
loaded image. Commands 1, 2, 3 and 6 need an Inkwell stack (R328). -/
def schedCommand (s : State) (v : Nat) : Except DopStatus State :=
  let d := s.ductus
  let cmd := bits v 31 24
  let tag (s : State) : State := s.modDuctus (fun d => { d with lastTag := bits v 15 0 })
  if bits v 23 16 ≠ 0 then .error .range
  else if s.mem.ink = 0 && (cmd = 1 || cmd = 2 || cmd = 3 || cmd = 6) then .error .state
  else match cmd with
  | 1 =>
    if d.armed then .error .state
    else
      .ok (tag ((s.modDuctus (fun d =>
        { d with shadow := [], shadowValid := false, bootJoin := false, validating := false })).modCodex (fun c =>
          { c with loads := c.loads.put {} 0x21F2 { active := true } })))
  | 2 => if d.armed then .error .state else .ok (tag (s.modDuctus (fun d => { d with validating := true })))
  | 3 =>
    let at_ := s.param 0x21F3 1
    if !d.shadowValid || d.armed || !s.timeSet then .error .state
    else if !s.swapAtOk at_ then .error .range
    else
      let s := tag (s.modDuctus (fun d => { d with armed := true, armedAt := at_, check := none }))
      .ok (s.sendSched 1 0 s.ductus.shadowId at_)
  | 4 => if !d.armed then .error .state else .ok (tag (s.modDuctus (fun d => { d with armed := false, check := none })))
  | 5 => .ok ((tag s).modDuctus (fun d => { d with deactivating := some s.cellNow }))
  | 6 =>
    if d.armed || (dataPayload s.flash 7).isNone then .error .state
    else .ok (tag s.loadBootSchedule)
  | 7 => if !d.shadowValid then .error .state else .ok (tag (s.storeData 7 d.shadow))
  | _ => .error .range

/-! ### Idle windows (R217, R218) -/

/-- What a request asks: KIND, targets, length in cells, lead in ns. -/
structure WindowReq where
  kind : Nat
  targets : Nat
  length : Nat
  lead : Nat
deriving DecidableEq, Repr

/-- The request of a user of windows. -/
def State.windowReq (s : State) (w : WindowFor) : WindowReq :=
  match w with
  | .changeover f => { kind := 1, targets := 2 ^ f, length := 1954, lead := s.param 0x2190 5 * 1000 }
  | .hatch =>
    let fs := match s.hatch.commit with | some c => commitFibres s c | none => []
    { kind := 1, targets := fs.foldl (fun a f => a ||| 2 ^ f) 0, length := 1954, lead := ((s.hatch.commit.map (·.lead)).getD 0) * 1000 }
  | .proofNib n => { kind := 2, targets := 2 ^ n, length := 19532, lead := s.param 0x21F0 5 * 1000 }
  | .proofPlane p => { kind := 3, targets := 2 ^ p, length := 1954, lead := s.param 0x21F0 5 * 1000 }

/-- Whether the user waits for a window now. A commit waits for the changeovers requested or granted on its fibres, which come first (R105,
R128). -/
def State.windowWanted (s : State) (w : WindowFor) : Bool :=
  match w with
  | .changeover f => match (s.engine (f / 4)).change with
    | some c => c.fibre = f % 4 && c.requested && c.t.isNone
    | none => false
  | .hatch => match s.hatch.commit with
    | some c => c.requested && c.t.isNone &&
      !((commitFibres s c).any (fun f => (s.engine (f / 4)).change.any (fun x => x.fibre = f % 4 && (x.requested || x.t.isSome))))
    | none => false
  | .proofNib n => s.faults.proofUnit = some (unitId 0x0A n) && s.faults.proofT.isNone
  | .proofPlane p => s.faults.proofUnit = some (unitId 6 p) && s.faults.proofT.isNone

/-- Grants not yet ended. -/
def State.liveWindows (s : State) : List Granted :=
  s.ductus.windows.filter (fun g => s.cellNow < g.start + g.length)

/-- What names a record within the grants. -/
def WindowRec.name (w : WindowRec) : Nat × Nat × Nat := (w.offset, w.length, w.targets)

/-- A target of the request has been granted in the instance of a record that starts at a cell time (R217). -/
def State.windowTaken (s : State) (q : WindowReq) (w : WindowRec) (start : Nat) : Bool :=
  s.liveWindows.any (fun g => g.kind = q.kind && g.record = w.name && g.start = start && g.targets &&& q.targets ≠ 0)

/-- A record serves a request (R217). -/
def WindowRec.serves (w : WindowRec) (q : WindowReq) : Bool :=
  w.kind = q.kind && w.targets &&& q.targets = q.targets && q.length ≤ w.length

/-- The earliest instance of a record in an image that starts at or after a cell time and is free of the request's targets;
instances are looked at cycle by cycle, as many as there are windows granted and one. -/
def State.instanceFrom (s : State) (img : List Byte) (q : WindowReq) (w : WindowRec) : Nat → Nat → Option Nat
  | 0, _ => none
  | n + 1, from_ =>
    let first := imgStart img + w.offset
    let c := if from_ ≤ first then first else first + ceilDiv (from_ - first) (imgCycle img) * imgCycle img
    if s.windowTaken q w c then s.instanceFrom img q w n (c + 1) else some c

/-- The earliest start in an image, with its record's name. -/
def State.earliestIn (s : State) (img : List Byte) (q : WindowReq) (from_ : Nat) : Option (Nat × Nat × Nat × Nat) :=
  minBy (·.1) (((imgWindowRecs img).filter (fun w => w.serves q)).filterMap (fun w =>
    (s.instanceFrom img q w (s.ductus.windows.length + 1) from_).map (fun c => (c, w.name))))

/-- The present network time plus a lead in ns, in 2^−32 ns. -/
def State.timeAfter (s : State) (lead : Nat) : Nat := (toNs (s.time.sec, s.time.ns) + lead) * 2 ^ 32 + s.time.frac

/-- The start of the window granted under an active schedule, at least the lead after the decision, with its record's name: instances after
an armed SWAP_AT come from the shadow image. -/
def State.scheduledStart (s : State) (q : WindowReq) : Option (Nat × Nat × Nat × Nat) :=
  let from_ := ceilDiv (s.timeAfter q.lead * 100) (1024 * 2 ^ 32)
  let a := s.earliestIn s.ductus.active q from_
  if s.ductus.armed then
    match a with
    | some c => if c.1 < s.ductus.armedAt then some c else s.earliestIn s.ductus.shadow q (max from_ s.ductus.armedAt)
    | none => s.earliestIn s.ductus.shadow q (max from_ s.ductus.armedAt)
  else a

/-- The next boundary of 100 µs at least the lead ahead that is not granted for a target (R218): in units of 100 µs. -/
def State.boundaryFrom (s : State) (q : WindowReq) : Nat → Nat → Nat
  | 0, k => k
  | n + 1, k =>
    if s.liveWindows.any (fun g => g.targets &&& q.targets ≠ 0 && g.kind = q.kind && toNs g.t = k * 100000)
    then s.boundaryFrom q n (k + 1) else k

/-- The start of a cell time in network time: seconds and whole ns, rounded up. -/
def cellStart (c : Nat) : Nat × Nat := (c / 97656250, ceilDiv (c % 97656250 * 1024) 100)

/-- A granted window's instant reaches its user. -/
def State.windowGiven (s : State) (w : WindowFor) (t : Nat × Nat) : State :=
  match w with
  | .changeover f => s.updEngine (f / 4) (fun x => { x with change := x.change.map (fun c => { c with t := some t }) })
  | .hatch => s.modHatch (fun h => { h with commit := h.commit.map (fun c => { c with t := some t }) })
  | _ => s.modFaults (fun x => { x with proofT := some t })

/-- A changeover granted on a fibre of a commit comes first (R105, R128): the commit's window, where it lies before and no notice of it has
been sent, is withdrawn and asked for again. -/
def State.changeoverFirst (s : State) (w : WindowFor) (t : Nat × Nat) : State :=
  match w, s.hatch.commit with
  | .changeover f, some c =>
    match c.t with
    | some u =>
      if !c.noticed && toNs u < toNs t && (commitFibres s c).contains f then
        (s.updCommit (fun c => { c with t := none })).modDuctus (fun d =>
          { d with windows := d.windows.filter (fun g => !(g.kind = 1 && g.t = u && g.targets &&& 2 ^ f ≠ 0)) })
      else s
    | none => s
  | _, _ => s

/-- Ductus grants a request at a start (R217). -/
def State.grantWindow (s : State) (w : WindowFor) (q : WindowReq) (start : Nat) (record : Nat × Nat × Nat) (t : Nat × Nat) : State :=
  let s := s.changeoverFirst w t
  let g : Granted := { kind := q.kind, record := record, targets := q.targets, start := start, length := q.length, t := t }
  ((s.modDuctus (fun d => { d with windows := s.liveWindows ++ [g] })).countDuctus 6).windowGiven w t

/-- A refused request (R217, R466): WINDOW_REFUSED; a Proof test sets PROOF_REFUSED and its unit waits. -/
def State.refuseWindow (s : State) (w : WindowFor) : State :=
  let s := (s.ductusFlag 5).countDuctus 7
  match w with
  | .changeover _ => s
  | .hatch => s
  | _ => (s.setFlag 0x6121 3).modFaults (fun x => { x with proofUnit := none, proofT := none, proofOpen := false })

/-- Ductus decides a request (R217, R218). A Nib request waits while a KIND 2 window is granted and has not ended. -/
def State.decideWindow (s : State) (w : WindowFor) : State :=
  let q := s.windowReq w
  if !s.windowWanted w then s
  else if q.kind = 2 && s.liveWindows.any (fun g => g.kind = 2) then s
  else if s.ductus.state = 1 then
    match s.scheduledStart q with
    | some c => s.grantWindow w q c.1 c.2 (cellStart c.1)
    | none => s.refuseWindow w
  else
    let k := s.boundaryFrom q (s.ductus.windows.length) (ceilDiv (s.timeAfter q.lead) (100000 * 2 ^ 32))
    let t := (k / 10000, k % 10000 * 100000)
    s.grantWindow w q (cellOf t.1 t.2) (0, 0, 0) t

/-! ### Token buckets (R219 to R221) -/

/-- Fields of SHAPER_CFG and POLICER_CFG (R221). -/
def bucketEn (v : Nat) : Bool := bit v 63
def bucketReset (v : Nat) : Bool := bit v 62
def bucketBurst (v : Nat) : Nat := bits v 61 46
def bucketRate (v : Nat) : Nat := bits v 29 0

/-- INC of a rate (R219). -/
def bucketInc (rate : Nat) : Nat := rate * 2 ^ 34 / 97656250

/-- A bucket's value on a reset (R220). -/
def bucketFull (v : Nat) : Nat := if bucketReset v then 0 else bucketBurst v * 2 ^ 24

/-- The configuration of shaper or policer i. -/
def State.shaperCfg (s : State) (i : Nat) : Nat := s.param (0x2240 + i / 64) (1 + i % 64)
def State.policerCfg (s : State) (i : Nat) : Nat := s.param (0x2280 + i / 64) (1 + i % 64)

/-- Tokens held: an untouched bucket stands at its reset configuration's full burst. -/
def bucketIdle : Nat := 64 * 2 ^ 24

/-- Tokens of shaper and policer i. -/
def State.shaperTokens (s : State) (i : Nat) : Nat := s.ductus.shapers.get bucketIdle i
def State.policerTokens (s : State) (i : Nat) : Nat := s.ductus.policers.get bucketIdle i

/-- Set tokens. -/
def State.setShaper (s : State) (i v : Nat) : State :=
  s.modDuctus (fun d => { d with shapers := d.shapers.put bucketIdle i v })
def State.setPolicer (s : State) (i v : Nat) : State :=
  s.modDuctus (fun d => { d with policers := d.policers.put bucketIdle i v })

/-- One refresh (R219). -/
def bucketRefreshed (v tokens : Nat) : Nat := min (tokens + bucketInc (bucketRate v)) (bucketBurst v * 2 ^ 24)

/-- The refresh of every bucket. Buckets of untouched configuration stay full, so only entries with a written
configuration or changed tokens move. -/
def State.refreshBuckets (s : State) : State :=
  let touched (base : Nat) (t : Tab Nat) : List Nat :=
    (t.map (·.1) ++ (s.params.filter (fun e => objKey base 0 ≤ e.1 && e.1 < objKey (base + 64) 0)).map (fun e =>
      (e.1 / 256 - base) * 64 + (e.1 % 256 - 1))).eraseDups
  let s := s.forEach (touched 0x2240 s.ductus.shapers) (fun s i => s.setShaper i (bucketRefreshed (s.shaperCfg i) (s.shaperTokens i)))
  s.forEach (touched 0x2280 s.ductus.policers) (fun s i => s.setPolicer i (bucketRefreshed (s.policerCfg i) (s.policerTokens i)))

/-- A refresh falls in this cell time, once (R219). -/
def State.refreshDue (s : State) : State :=
  if s.cellNow % 1024 = 0 && s.ductus.refreshedAt ≠ some s.cellNow then
    s.refreshBuckets.modDuctus (fun d => { d with refreshedAt := some s.cellNow })
  else s

/-- A write's field rules (R221). -/
def bucketOk (v : Nat) : Bool :=
  v < 2 ^ 64 && 1 ≤ bucketBurst v && bits v 45 30 = 0 && bucketRate v ≤ 1000000000

/-- What a POLICER_CFG write stores: bit 63 is reserved and the table states no rejection for it, so a 1 written there is ignored (R5, R221;
DEDUCED, log entry 167). -/
def policerStored (v : Nat) : Nat := v % 2 ^ 63

/-- An accepted write (R220). -/
def shaperWrite (s : State) (i v : Nat) : Except DopStatus State :=
  if bucketOk v then .ok ((s.setParam (0x2240 + i / 64) (1 + i % 64) v).setShaper i (bucketFull v)) else .error .range
def policerWrite (s : State) (i v : Nat) : Except DopStatus State :=
  if bucketOk v then .ok ((s.setParam (0x2280 + i / 64) (1 + i % 64) (policerStored v)).setPolicer i (bucketFull v)) else .error .range

/-- Reset every bucket of a link (R220): its port becomes the lowest port of a link, or POLICE_EN rises. -/
def State.resetShapers (s : State) (p : Nat) : State :=
  s.forEach (List.range 4) (fun s k => s.setShaper (4 * p + k) (bucketFull (s.shaperCfg (4 * p + k))))
def State.resetPolicers (s : State) (p : Nat) : State :=
  s.forEach (List.range 4) (fun s k => s.setPolicer (4 * p + k) (bucketFull (s.policerCfg (4 * p + k))))

/-- A policer's verdict on one frame (R219): conforming, and the state it leaves. A refresh of the same cell time comes first. -/
def State.police (s : State) (i : Nat) : Bool × State :=
  let s := s.refreshDue
  if 2 ^ 24 ≤ s.policerTokens i then (true, s.setPolicer i (s.policerTokens i - 2 ^ 24)) else (false, s)

/-- A shaper permits its class (R219). -/
def State.shaperPermits (s : State) (i : Nat) : Bool := !(bucketEn (s.shaperCfg i)) || 2 ^ 24 ≤ s.shaperTokens i

/-- A cell time in which a shaper holds a frame back is counted (R375; log entry 69). -/
def State.shaperWaits (s : State) : State :=
  if s.core.egress.any (fun e => 3 ≤ e.tc && e.tc ≤ 6 && !(s.shaperPermits (4 * e.port + (e.tc - 3)))) then s.countDuctus 8 else s

/-- Selecting a frame of a shaped class. -/
def State.shaperTake (s : State) (i : Nat) : State :=
  if bucketEn (s.shaperCfg i) then s.setShaper i (s.shaperTokens i - 2 ^ 24) else s

end Sys2Proof.Machine
end

