-- ==== Sys2Proof/Machine/Lookup.lean ====
section
/-!
DEFINITION. The ingress pipelines and the table engine's commands (R158 to R178, R190): parsing, termination, class,
destination, learning, policing and hand-over to the core.
-/

namespace Sys2Proof.Machine

/-- A frame in a pipeline: the pipeline, the frame as received, its fibre, the port it is taken to have arrived on, and the
number under which it waits for admission. -/
structure InPipe where
  k : Nat
  x : RxFrame
  fibre : Nat
  port : Nat
  wait : Nat
deriving DecidableEq, Repr

/-- A frame of a link, or one that a CARRY frame brought on a fibre (log entry 28). -/
def InPipe.of (k : Nat) (x : RxFrame) : InPipe :=
  if x.carry then { k := k, x := x, fibre := x.link / 16, port := x.link / 16 * 16, wait := carryLink (x.link / 16) }
  else { k := k, x := x, fibre := x.link / 16, port := x.link, wait := x.link }

/-- The credit the frame gives back when it leaves (R137, R149). -/
def InPipe.credit (q : InPipe) : Option (Nat × Nat) := some (q.x.tc, q.x.bytes.length)

/-- The frame is discarded in the pipeline: its credit goes back. -/
def State.pipeDrop (s : State) (q : InPipe) : State := s.returnCredit q.wait q.credit

/-- The frame goes to the core (R182): it waits for admission at its source attachment. -/
def State.pipeSend (s : State) (q : InPipe) (tc : Nat) (d : Dest) (b : List Byte) : State :=
  s.offer { src := s.portAttach tc q.port, link := q.wait, tc := tc, dst := d, bytes := b, credit := q.credit, start := q.x.start }

/-- PORT_L2 of a port (R169). -/
def State.portL2Cfg (s : State) (p : Nat) : Nat := s.param (0x2200 + p / 64) (1 + p % 64)
def l2Police (v : Nat) : Bool := bit v 31
def l2Action (v : Nat) : Bool := bit v 30
def l2Limit (v : Nat) : Nat := bits v 29 12
def l2Pvid (v : Nat) : Nat := bits v 11 0

/-- ROUTER_MAC and MODULE_IPV6 (R178). -/
def State.routerMac (s : State) : Nat := s.param 0x21D0 6
def State.moduleIp (s : State) : Nat := s.param 0x21D0 7

/-- VID of a frame (R159), none for VID 0xFFF. -/
def parsedVid (p : Parsed) (pvid : Nat) : Option Nat :=
  if p.tags = 0 then some pvid
  else if p.tci % 4096 = 0xFFF then none
  else if p.tci % 4096 = 0 then some pvid
  else some (p.tci % 4096)

/-- The VLAN member set as a copy's lookup sees it (R172). -/
def State.vlanMember (s : State) (k vid port : Nat) : Bool := !s.badAt k 6 vid && bit (s.tables.vlan.get 0 vid) port

/-- How a frame is recognised as VFT (R140), with the UDP port in force when it arrived: header offset, and the IPv6 header's offset in routed
form. -/
def vftForm (udp : Nat) (b : List Byte) : Option (Nat × Option Nat) :=
  match vftNative b with
  | some o => some (o, none)
  | none => (vftRouted udp b).map (fun o => (o, some (o - 48)))

/-- The module terminates a frame (R160). -/
def State.terminates (s : State) (udp : Nat) (b : List Byte) : Option (Nat × Option Nat) :=
  match vftForm udp b with
  | some (o, ip) =>
    let t := vftType b o
    let typ : Bool := (1 ≤ t && t ≤ 5) || (0x10 ≤ t && t ≤ 0x14)
    let mine : Bool := match ip with
      | none => macDst b = s.moduleMac
      | some i => s.routerMac ≠ 0 && macDst b = s.routerMac && beAt b (i + 24) 16 = s.moduleIp
    if typ && mine then some (o, ip) else none
  | none => none

/-- A terminated frame (R160, R144, R444, R328): its header and its job are checked, then it goes to the Nib that owns its chunk
or to Ligature. -/
def State.terminate (s : State) (q : InPipe) (o : Nat) (ip : Option Nat) : State :=
  let b := q.x.bytes
  let job := vftJob b o
  let reject (s : State) (c : Nat) : State := (s.vftRejected q.fibre c).pipeDrop q
  match vftReject s.interOk b o ip with
  | some c => reject s c
  | none =>
    match s.jobCheck (jobSlot job) (jobGen job) false with
    | some c => reject s c
    | none =>
      if q.x.carry then (s.countFibre q.fibre 0x2A).pipeDrop q
      else if s.mem.ink = 0 then (s.countMisc .portDiscard 1).pipeDrop q
      else if 0x10 ≤ vftType b o then s.pipeSend q 2 (.unit 160) b
      else match s.findThread job (vftChunk b o) with
        | some th => match s.rangeOf th with
          | some r => s.pipeSend q 1 (.unit (128 + r.nibOf (ordinalOf th))) b
          | none => s.pipeDrop q
        | none => reject (s.setFlag 0x65C1 2) 20

/-- Class of a forwarded frame (R160), before the rule of R131. -/
def State.forwardClass (s : State) (udp : Nat) (b : List Byte) (p : Parsed) : Nat :=
  match vftForm udp b with
  | some (o, _) => (vftClass (vftType b o)).getD (s.param 0x21D0 4)
  | none =>
    let et := beAt b p.off 2
    if p.tags ≠ 0 then s.param 0x21D3 (1 + p.tci / 8192)
    else if s.param 0x21D0 5 = 1 && et = 0x0800 then s.param 0x21D4 (1 + byteAt b (p.off + 3) / 4)
    else if s.param 0x21D0 5 = 1 && et = 0x86DD then s.param 0x21D4 (1 + beAt b (p.off + 2) 2 / 64 % 64)
    else s.param 0x21D0 4

/-- Add or remove the 802.1Q tag and give a routed frame its MAC addresses (R171); padded to 64 bytes, FCS recomputed. -/
def rewriteL2 (dst src : Nat) (tag : Option Nat) (etherOff : Nat) (b : List Byte) : List Byte :=
  let body := beBytes 6 dst ++ beBytes 6 src ++ (match tag with | some t => beBytes 2 0x8100 ++ beBytes 2 t | none => []) ++
    (b.take (b.length - 4)).drop etherOff
  withFcs (body ++ zeros (60 - body.length))

/-- Put bytes in place at an offset. -/
def patch (b : List Byte) (off : Nat) (l : List Byte) : List Byte := b.take off ++ l ++ b.drop (off + l.length)

/-- Decrement TTL or hop limit; the IPv4 checksum is updated incrementally (R164). -/
def decrementTtl (b : List Byte) (ip : Nat) (v6 : Bool) : List Byte :=
  if v6 then patch b (ip + 7) (beBytes 1 (byteAt b (ip + 7) - 1))
  else
    let b := patch b (ip + 8) (beBytes 1 (byteAt b (ip + 8) - 1))
    let c := beAt b (ip + 10) 2 + 0x0100
    patch b (ip + 10) (beBytes 2 (c % 65536 + c / 65536))

/-- What a lookup decides: a destination or a discard, the frame as it leaves, and whether a copy goes to Quill. -/
structure Route where
  dest : Option Dest := none
  bytes : List Byte := []
  copy : Bool := false
deriving DecidableEq, Repr

/-- A discard. -/
def Route.drop : Route := {}

/-- A frame that goes to a destination. -/
def Route.goes (d : Dest) (b : List Byte) : Route := { dest := some d, bytes := b }

/-- A destination link is checked when the frame is forwarded (R164), after the choice of an intermediate point (R190). -/
def State.checkDest (s : State) (q : InPipe) (x : Route) : Route × State :=
  match x.dest with
  | some (.port p) => if s.portUsable p then (x, s) else ({ x with dest := none }, s.countPipe q.k 8)
  | _ => (x, s)

/-- A copy of a frame goes to Quill as well (R163), whatever becomes of the frame itself. -/
def Route.withCopy (x : Route) (result : Nat) (b : List Byte) : Route :=
  { x with copy := bit result 60, bytes := if x.dest.isSome then x.bytes else b }

/-- A routed frame leaves by a next hop (R171). A free value gives the tag's priority bits (log entry 29). -/
def State.byNextHop (s : State) (q : InPipe) (i : Nat) (off : Nat) (b : List Byte) : Route × State :=
  let h := s.tables.hops.get {} i
  if !h.valid || s.badAt q.k 5 i then (.drop, s.countPipe q.k 7)
  else
    let (pcp, s) := s.freeBelow 16
    let tag := if h.tagged then some (pcp * 4096 + h.vid) else none
    (.goes (.port h.port) (rewriteL2 h.mac s.routerMac tag off b), s)

/-- The destination a RESULT names for a routed frame or a layer-2 frame (R163): a layer-2 frame leaves as received. -/
def State.byResult (s : State) (q : InPipe) (r : Nat) (routedOff : Option Nat) (b : List Byte) : Route × State :=
  let fresh := if routedOff.isSome then withFcs (b.take (b.length - 4)) else b
  let x : Route × State := match bits r 63 62 with
    | 0 => (.goes (.port (bits r 12 0)) fresh, s)
    | 1 =>
      (match routedOff with
       | some off => s.byNextHop q (bits r 12 0) off b
       | none =>
         let h := s.tables.hops.get {} (bits r 12 0)
         if !h.valid || s.badAt q.k 5 (bits r 12 0) then (.drop, s.countPipe q.k 7) else (.goes (.port h.port) b, s))
    | 2 => (.drop, s.countMisc .portDiscard 1)
    | _ => (.goes (.unit 162) fresh, s)
  (x.1.withCopy r fresh, x.2)

/-- The layer-2 path (R164). -/
def State.routeL2 (s : State) (q : InPipe) (vid : Nat) : Route × State :=
  let b := q.x.bytes
  match s.lookupExact q.k (exactKey 1 vid (macDst b)) with
  | some (_, e) => s.byResult q e.result none b
  | none => (.goes (.multi 3 vid (some q.port)) b, s)

/-- A routed frame with TTL 0 or 1 is discarded, else decremented and sent (R164). -/
def State.routedHit (s : State) (q : InPipe) (ip : Nat) (v6 : Bool) (go : State → List Byte → Route × State) : Route × State :=
  let b := q.x.bytes
  let ttl := if v6 then byteAt b (ip + 7) else byteAt b (ip + 8)
  if ttl ≤ 1 then (.drop, (s.countPipe q.k 5).tableFlag 8) else go s (decrementTtl b ip v6)

/-- The routed path (R164): the host key first, the trie on a miss. -/
def State.routeIp (s : State) (q : InPipe) (ip : Nat) (v6 : Bool) : Route × State :=
  let b := q.x.bytes
  let addr := if v6 then beAt b (ip + 24) 16 else beAt b (ip + 16) 4
  let off := ip - 2
  match s.lookupExact q.k (exactKey (if v6 then 3 else 2) 0 addr) with
  | some (_, e) => s.routedHit q ip v6 (fun s b => s.byResult q e.result (some off) b)
  | none => match s.lookupTrie q.k v6 addr with
    | some h => s.routedHit q ip v6 (fun s b => s.byNextHop q h off b)
    | none => (.drop, (s.countPipe q.k 6).tableFlag 7)

/-- IPv4 header checksum (R159). -/
def ipv4Ok (b : List Byte) (ip : Nat) : Bool :=
  let n := byteAt b ip % 16 * 4
  ip + n + 4 ≤ b.length && inetSum (slice b ip n) = 0

/-- Clear IPC and INTER_COORD and recompute the FCS (R190, log entry 27). -/
def clearIpc (b : List Byte) (o : Nat) : List Byte :=
  let b := patch b o (beBytes 1 (byteAt b o - byteAt b o / 8 % 2 * 8))
  let b := patch b (o + 16) (beBytes 2 (beAt b (o + 16) 2 % 64))
  withFcs (b.take (b.length - 4))

/-- An intermediate point is ignored (R190). -/
def State.ipcBypass (s : State) : State := (s.countMem 19 1).setFlag 0x64C1 7

/-- The intermediate point of a forwarded VFT frame (R190). -/
def State.intermediate (s : State) (q : InPipe) (x : Route) : Route × State :=
  match x.dest with
  | none => (x, s)
  | some d =>
    match vftNative x.bytes with
    | some o =>
      if !vftIpc x.bytes o then (x, s)
      else
        let b := clearIpc x.bytes o
        (match s.enabledLinks.find? (fun p =>
            coordOf s.core.coords p = vftInter x.bytes o && s.linkUp p && p ≠ q.port && d ≠ .port p) with
         | some p => ({ x with dest := some (.port p), bytes := b }, s)
         | none => ({ x with bytes := b }, s.ipcBypass))
    | none => match vftRouted q.x.udp x.bytes with
      | some o => (x, if vftIpc x.bytes o then s.ipcBypass else s)
      | none => (x, s)

/-- Learning of a forwarded layer-2 frame's source (R168): answers whether the frame goes on. -/
def State.learnSource (s : State) (q : InPipe) (vid : Nat) : Bool × State :=
  let key := exactKey 1 vid (macSrc q.x.bytes)
  let ask (s : State) (k : LearnKind) : State :=
    s.modTables (fun t => { t with learn := t.learn ++ [{ kind := k, key := key, link := q.port }] })
  match s.lookupExact q.k key with
  | some (_, e) =>
    if resultLink e.result q.port then (true, if e.stamp = s.seconds then s else ask s .refresh)
    else if resultStatic e.result then (true, (s.countPipe q.k 13).tableFlag 6)
    else if e.learnt then (true, ask s .move)
    else (true, s)
  | none =>
    let l2 := s.portL2Cfg q.port
    if s.learntOn q.port < l2Limit l2 then (true, ask (s.countPipe q.k 9) .learn)
    else (l2Action l2, (s.countPort q.port 0x1E).tableFlag 3)

/-- Where an IPv6 frame's chain of extension headers ends: from a header's type and offset. -/
def ipv6ChainEnd (b : List Byte) : Nat → Nat → Nat → Nat
  | 0, _, off => off
  | n + 1, typ, off =>
    if typ = 0 || typ = 43 || typ = 60 || typ = 135 || typ = 139 || typ = 140 then
      ipv6ChainEnd b n (byteAt b off) (off + 8 * (byteAt b (off + 1) + 1))
    else if typ = 44 then ipv6ChainEnd b n (byteAt b off) (off + 8)
    else if typ = 51 then ipv6ChainEnd b n (byteAt b off) (off + 4 * (byteAt b (off + 1) + 2))
    else off

/-- The IP headers of a frame end within its first 128 bytes (R159). Which headers count, those of IPv4 or IPv6 with its extension headers, is
a DESIGN CHOICE (log entry 165). -/
def headersFit (b : List Byte) (ip : Nat) (v6 : Bool) : Bool :=
  if v6 then ipv6ChainEnd b 16 (byteAt b (ip + 6)) (ip + 40) ≤ 128 else ip + byteAt b ip % 16 * 4 ≤ 128

/-- A forwarded frame takes the routed path (R159, R164). -/
def State.routed (s : State) (b : List Byte) (p : Parsed) : Bool :=
  let et := beAt b p.off 2
  s.routerMac ≠ 0 && macDst b = s.routerMac && p.tags ≤ 1 && (et = 0x0800 || et = 0x86DD) && headersFit b (p.off + 2) (et = 0x86DD)

/-- Policing of a forwarded frame of TC3 to TC6 (R161): answers whether the frame goes on. -/
def State.policeFrame (s : State) (q : InPipe) (tc : Nat) : Bool × State :=
  if 3 ≤ tc && tc ≤ 6 && !q.x.carry && l2Police (s.portL2Cfg q.port) then
    let r := s.police (4 * q.port + (tc - 3))
    if r.1 then r else (false, (r.2.countPipe q.k 16).countPort q.port 0x1D)
  else (true, s)

/-- A frame to be forwarded (R160 to R164, R190). -/
def State.forward (s : State) (q : InPipe) (p : Parsed) (vid : Nat) : State :=
  let b := q.x.bytes
  let c := s.forwardClass q.x.udp b p
  if q.x.carry && c ≠ 7 then (s.countFibre q.fibre 0x2A).pipeDrop q
  else
    let tc := if c = 7 && !q.x.carry then 6 else c
    let s := if c = 7 && !q.x.carry then s.countMisc .tc6FromTc7 1 else s
    let et := beAt b p.off 2
    let ip := p.off + 2
    let go : Option ((Route × State)) :=
      if s.routed b p then
        (if et = 0x0800 && !ipv4Ok b ip then none else some (s.routeIp q ip (et = 0x86DD)))
      else
        let l := s.learnSource q vid
        if l.1 then some (l.2.routeL2 q vid) else some (.drop, l.2)
    match go with
    | none => (s.countPipe q.k 3).pipeDrop q
    | some r =>
      let r := r.2.intermediate q r.1
      let r := r.2.checkDest q r.1
      if r.1.dest.isNone && !r.1.copy then r.2.pipeDrop q
      else
        let v := r.2.policeFrame q tc
        if !v.1 then v.2.pipeDrop q
        else
          let also : Offer :=
            { src := v.2.portAttach tc q.port, link := q.wait, tc := tc, dst := .unit 162, bytes := r.1.bytes
              start := q.x.start }
          let s := if r.1.copy then v.2.offer also else v.2
          match r.1.dest with
          | some d => s.pipeSend q tc d r.1.bytes
          | none => s.pipeDrop q

/-- One frame through its pipeline (R158 to R164). -/
def State.pipeline (s : State) (q : InPipe) : State :=
  let b := q.x.bytes
  let p := parseFrame b
  let s := s.countPipe q.k 1
  if bit (byteAt b 6) 0 then (s.countPipe q.k 3).pipeDrop q
  else match parsedVid p (l2Pvid (s.portL2Cfg q.port)) with
  | none => (s.countPipe q.k 3).pipeDrop q
  | some vid =>
    if !(s.vlanMember q.k vid q.port) then ((s.countPipe q.k 4).tableFlag 9).pipeDrop q
    else match s.terminates q.x.udp b with
    | some (o, ip) => s.terminate q o ip
    | none => s.forward q p vid

/-- Locations of a key's two buckets, as a lookup reads them (R165), with the TABLE code of R478. -/
def State.keyReads (s : State) (key : Nat) : List (Nat × Nat) := (s.keyLocs key).map (fun l => (1, l))

/-- The next hop that a RESULT makes a lookup read. -/
def hopReads (r : Nat) : List (Nat × Nat) := if bits r 63 62 = 1 then [(5, bits r 12 0)] else []

/-- Locations that a trie walk reads (R170). -/
def trieReads (s : State) (copy : Nat) (v6 : Bool) (addr : Nat) : Nat → Option Nat → Nat → List (Nat × Nat)
  | 0, _, _ => []
  | n + 1, node, len =>
    let b := prefixBits v6 len addr
    let at_ := trieLoc v6 node (match node with | none => b | some _ => b % 256)
    let e := s.tables.trieEntry v6 len b
    at_ :: (if s.badAt copy at_.1 at_.2 || bits e 31 30 ≠ 2 then [] else trieReads s copy v6 addr n (some (e % 2 ^ 30)) (len + 8))

/-- Locations that the routed path reads: the host key's, the trie's on a miss, and the next hop's. -/
def State.ipReads (s : State) (k : Nat) (b : List Byte) (ip : Nat) (v6 : Bool) : List (Nat × Nat) :=
  let addr := if v6 then beAt b (ip + 24) 16 else beAt b (ip + 16) 4
  let key := exactKey (if v6 then 3 else 2) 0 addr
  let live : Bool := 1 < (if v6 then byteAt b (ip + 7) else byteAt b (ip + 8))
  s.keyReads key ++
  (match s.lookupExact k key with
   | some (_, e) => if live then hopReads e.result else []
   | none => trieReads s k v6 addr 7 none 16 ++
      (match s.lookupTrie k v6 addr with
       | some h => if live then [(5, h)] else []
       | none => []))

/-- Locations that the layer-2 path reads: the source key's, and the destination key's unless the learning limit discards the frame. -/
def State.l2Reads (s : State) (q : InPipe) (vid : Nat) : List (Nat × Nat) :=
  let dst := exactKey 1 vid (macDst q.x.bytes)
  s.keyReads (exactKey 1 vid (macSrc q.x.bytes)) ++
  (if (s.learnSource q vid).1 then
     s.keyReads dst ++ (match s.lookupExact q.k dst with | some (_, e) => hopReads e.result | none => [])
   else [])

/-- Table locations that a frame's lookup reads (R158 to R164). -/
def State.frameReads (s : State) (q : InPipe) : List (Nat × Nat) :=
  let b := q.x.bytes
  let p := parseFrame b
  if bit (byteAt b 6) 0 then []
  else match parsedVid p (l2Pvid (s.portL2Cfg q.port)) with
  | none => []
  | some vid =>
    let v6 : Bool := beAt b p.off 2 = 0x86DD
    let class_ := s.forwardClass q.x.udp b p
    (6, vid) ::
    (if !(s.vlanMember q.k vid q.port) || (s.terminates q.x.udp b).isSome || (q.x.carry && class_ ≠ 7) then []
     else if s.routed b p then (if v6 || ipv4Ok b (p.off + 2) then s.ipReads q.k b (p.off + 2) v6 else [])
     else s.l2Reads q vid)

/-- Check bits of locations of a copy come to fail. -/
def State.upset (s : State) (copy : Nat) (l : List (Nat × Nat)) : State :=
  s.modTables (fun t => { t with bad := t.bad ++ (l.map (fun u => (copy, u.1, u.2))).filter (fun b => !(t.bad.contains b)) })

/-- Pipeline k looks up its oldest waiting frame. `upsets` are table locations of its copy whose check bits have come to fail; every failing
location that the lookup reads is counted and passed to the engine (R172). The cycles that lookups waited are a free value (log entry 146). -/
def execFrameLookup (k : Fin 8) (upsets : List (Nat × Nat)) (s : State) : Out :=
  match s.tables.waiting.get [] k with
  | [] => .next s
  | x :: r =>
    let s := (s.modTables (fun t => { t with waiting := t.waiting.put [] k r })).upset k upsets
    let (w, s) := s.freeBelow (2 ^ 32)
    let s := s.count (0x7000 + 0x40 * 5 + k) 2 w
    let q := InPipe.of k x
    let seen := (s.frameReads q).eraseDups.filter (fun u => s.badAt k u.1 u.2)
    .next ((s.forEach seen (fun s u => s.parity k u.1 u.2)).pipeline q)

/-- The table engine takes its oldest request, or drops it beyond 50 M a second (R168). -/
def execLearnApply (overrun : Bool) (s : State) : Out :=
  match s.tables.learn with
  | [] => .next s
  | q :: r =>
    let s := s.modTables (fun t => { t with learn := r })
    if overrun then .next ((s.countPipe (q.link / 128) 10).tableFlag 4) else .next (s.applyLearn q)

/-- The once-a-second scan (R168). -/
def execAgeScan (s : State) : Out := .next s.ageScan

/-- A failed location is repaired from another copy, or lost (R172); `others` are the copies whose location fails too. -/
def execCheckBitRepair (others : BitVec 8) (s : State) : Out := .next (s.repair others)

/-- TABLE_CMD command 1 (R174). -/
def execTableApply (r : Req) (arg : BitVec 24) (s : State) : Out :=
  .next (serveWrite s r 0x21D1 1 (command32 1 arg.toNat) tableCommand)

/-- TABLE_CMD command 2 (R174). -/
def execTableClearStaging (r : Req) (arg : BitVec 24) (s : State) : Out :=
  .next (serveWrite s r 0x21D1 1 (command32 2 arg.toNat) tableCommand)

/-- The engine applies the batch's next operation, when it is an OP 1 (R166, R175). -/
def execTableInsertExact (s : State) : Out :=
  match s.nextOp 1 with
  | some v => .next (State.opEnded (s.opInsert v))
  | none => .next s

/-- The engine applies the batch's next operation, when it is an OP 2 (R173). -/
def execTableDeleteExact (s : State) : Out :=
  match s.nextOp 2 with
  | some v => .next (State.opEnded (s.opDelete v))
  | none => .next s

/-- The engine applies the batch's next operation, when it is an OP 3 (R173). -/
def execTableModifyResult (s : State) : Out :=
  match s.nextOp 3 with
  | some v => .next (State.opEnded (s.opModify v))
  | none => .next s

/-- The engine applies the batch's next operation, when it is an OP 4 (R170). -/
def execTableAddPrefix (s : State) : Out :=
  match s.nextOp 4 with
  | some v => .next (State.opEnded (s.addPrefix (opPrefix v), s))
  | none => .next s

/-- The engine applies the batch's next operation, when it is an OP 5 (R170). -/
def execTableDeletePrefix (s : State) : Out :=
  match s.nextOp 5 with
  | some v => .next (State.opEnded (s.deletePrefix (opPrefix v).v6 (opPrefix v).len (opPrefix v).addr, s))
  | none => .next s

/-- The engine applies the batch's next operation, when it is an OP 6 (R171). -/
def execTableWriteNextHop (s : State) : Out :=
  match s.nextOp 6 with
  | some v => .next (State.opEnded (s.opNextHop v))
  | none => .next s

/-- The engine applies the batch's next operation, when it is an OP 7 (R173). -/
def execTableWriteVlanQuarter (s : State) : Out :=
  match s.nextOp 7 with
  | some v => .next (State.opEnded (s.opVlan v))
  | none => .next s

end Sys2Proof.Machine
end

