-- ==== Sys2Proof/Machine/CoreCmds.lean ====
section
/-!
DEFINITION. The commands of the switch core (R179 to R198) and of the coordinate table (R14).
-/

namespace Sys2Proof.Machine

/-- A source's oldest waiting frame of an ingress link and class is judged for admission (R182, R208). -/
def execFrameAdmit (src : Fin 164) (link : Nat) (tc : Fin 8) (s : State) : Out :=
  match s.core.offers.find? (fun o => o.src = src.val && o.link = link && o.tc = tc.val) with
  | none => .next s
  | some o =>
    if o.tc = 0 && !(s.tc0Ok o.src o.dst) then
      .next ((((s.dropOffer o).countUnit 7 0 5).setFlag 0x6501 4).admitted o.origin)
    else if s.admits (cellsOf o.bytes.length) o.tc o.dst.charge then
      .next (((s.dropOffer o).store o).admitted o.origin)
    else if o.waited then .next s
    else
      let s := s.modCore (fun c => { c with offers := c.offers.map (fun x => if x = o then { x with waited := true } else x) })
      let s := if o.tc = 7 then s else s.countMem (1 + o.tc) 1
      .next (s.setFlag 0x64C1 10)

/-- One cell time of matching (R184): the present cell time, once. -/
def execCellTimeMatch (s : State) : Out :=
  let t := s.cellNow
  match s.core.lastMatch with
  | some u => if u < t then .next (s.cellTime t).shaperWaits else .next s
  | none => .next (s.cellTime t).shaperWaits

/-- A cell that fails its header check (R180, R191): counted against its plane, and PLANE_ERR_LIMIT of them within 1 ms fail
the plane. -/
def State.badCell (s : State) (p : Nat) (c : Cell) : State :=
  let s := ((s.countUnit 6 p 2).setFlag 0x64C1 5).loseCell c
  let recent := ((s.core.errs.get [] p).filter (fun t => s.now < t + 10 ^ 9)) ++ [s.now]
  let s := s.modCore (fun k => { k with errs := k.errs.put [] p recent })
  if s.param 0x21E0 0x0E ≤ recent.length && !(s.core.out_.getLsbD p) then
    s.unitFault (unitId 6 p) 5 recent.length false
  else s

/-- A cell in transit on a plane arrives at its destination's lane at its cell time, its header disturbed by `flip` (R180, R186); `ecc` is the
cell buffer's read of its payload: an uncorrected one costs the cell's frame at reassembly, as a missing cell does (R324). -/
def execCellArrive (plane : Fin 10) (dst : Fin 164) (flip : BitVec 128) (ecc : Ecc) (s : State) : Out :=
  match s.core.transit.find? (fun x => x.plane = plane.val && x.cell.dst = dst.val && x.due ≤ s.cellNow) with
  | none => .next s
  | some x =>
    let s := s.modCore (fun c => { c with transit := c.transit.erase x })
    let h := (BitVec.ofNat 128 x.cell.header ^^^ flip).toNat
    let s := s.sramEcc ecc (unitId 8 0)
    if !headerOk h then .next (s.badCell plane x.cell)
    else
      let c := x.cell.received h
      .next (s.resequence dst (if ecc = .uncorrected then { c with fill := 0 } else c))

/-- The gap timer of a context reaches 2 µs (R186). -/
def execReseqGapTimeout (dst src : Fin 164) (s : State) : Out :=
  let x := s.core.context dst src
  if x.held = [] || s.now < x.timer + 2000000 then .next s else .next (s.declareLoss dst src)

/-- PLANE_CMD (R192, R196). -/
def planeCommand (s : State) (v : Nat) : Except DopStatus State :=
  let p := bits v 3 0
  let m := BitVec.ofNat 10 (2 ^ p)
  if bits v 23 4 ≠ 0 || 9 < p || !(bits v 31 24 = 1 || bits v 31 24 = 2) then .error .range
  else if bits v 31 24 = 1 then
    .ok (s.modCore (fun c => { c with noMatch := c.noMatch ||| m, restoring := c.restoring &&& ~~~m }))
  else if s.core.needProof.getLsbD p then .error .state
  else if !(s.core.noMatch.getLsbD p) then .ok s
  else .ok (s.modCore (fun c => { c with restoring := c.restoring ||| m }))

/-- PLANE_CMD command 1 (R192). -/
def execPlaneWithdraw (r : Req) (arg : BitVec 24) (s : State) : Out :=
  .next (serveWrite s r 0x21E2 1 (command32 1 arg.toNat) planeCommand)

/-- PLANE_CMD command 2 (R192). -/
def execPlaneRestore (r : Req) (arg : BitVec 24) (s : State) : Out :=
  .next (serveWrite s r 0x21E2 1 (command32 2 arg.toNat) planeCommand)

/-- 5 cell times after a withdrawal nothing is in transit and the plane leaves PLANES_IN (R192, R193). -/
def execPlaneDrained (p : Fin 10) (s : State) : Out :=
  if s.core.noMatch.getLsbD p && !(s.core.out_.getLsbD p) && !(s.core.transit.any (fun x => x.plane = p)) then
    let s := (s.modCore (fun c => { c with out_ := c.out_ ||| BitVec.ofNat 10 (2 ^ p.val) })).setFlag 0x64C1 1
    .next (if s.core.planeCount = 0 then s.moduleFault (unitId 6 p) else s)
  else .next s

/-- A committed coordinate table is checked for shared coordinates (R14) and held pending (R197). Ports that the list does not
name take their default coordinate (log entry 30). -/
def execCoordTableCommit (coords : List (Fin 1024 × Fin 1024)) (s : State) : Out :=
  let t : Coords := coords.foldl (fun (t : Coords) x => if x.1 = x.2 then t.drop x.1 else t.put none x.1 (some x.2.val)) []
  let cs := s.enabledLinks.map (coordOf t)
  if cs.eraseDups.length < cs.length then .next s
  else .next (s.modCore (fun c => { c with pendingCoords := some t }))

/-- No cell of the table two versions back remains: the pending table becomes current (R197). -/
def execCoordCommitApply (s : State) : Out :=
  match s.core.pendingCoords with
  | none => .next s
  | some t =>
    let old : Bool := s.core.frames.any (fun e => match e.2 with
      | some f => (match f.dst with | .multi _ _ _ => f.ctVer ≠ s.core.ctVer | _ => false)
      | none => false)
    if old then .next s
    else .next (s.modCore (fun c =>
      { c with coordsOld := c.coords, coords := t, ctVer := !c.ctVer, pendingCoords := none }))

end Sys2Proof.Machine
end

