-- ==== Sys2Proof/Machine/HostCmds.lean ====
section
/-!
DEFINITION. Commands of the hosts and partitions: doorbells (R350, R351), ring enable and disable (R350), VF_ASSIGN (R348), interrupts
(R359), Function Level Reset and link loss (R362).
-/

namespace Sys2Proof.Machine

/-- Whether a function reaches its ring registers, doorbells and interrupt registers (R60, R345). -/
def State.fnReaches (s : State) (fn : Nat) : Bool :=
  s.fnPresent fn && !s.boot.recovery && (128 ≤ fn || s.boot.done.getLsbD 4)

/-- The global ring that a function's local ring names, where the function reaches it. -/
def State.reachRing (s : State) (fn r : Nat) : Option Nat := if s.fnReaches fn then s.globalRing fn r else none

/-- What an owner stored in its memory before a doorbell: byte strings by address, and the 4 KiB pages that DMA cannot reach.
A partition's memory is LPDDR6, which its own accesses write. -/
def State.ownerWrites (s : State) (fn : Nat) (writes : List (Nat × List Byte)) (faults : List Nat) : State :=
  if 128 ≤ fn then s
  else
    let d := fnDomain fn
    let put (t : Tab Byte) : Tab Byte := writes.foldl (fun t w => writeBytes t w.1 w.2) t
    s.modMem (fun m =>
      let m := if d = .hostA then { m with hostA := put m.hostA } else { m with hostB := put m.hostB }
      { m with faultPages := m.faultPages.filter (fun x => x.1 ≠ d) ++ faults.map (fun p => (d, p)) })

/-- SQ_TAIL is written (R350, R351). -/
def execSqTailDoorbell (fn : Fin 130) (ring : Nat) (value : BitVec 32) (writes : List (Nat × List Byte)) (faults : List Nat)
    (s : State) : Out :=
  let s := s.ownerWrites fn writes faults
  match s.reachRing fn ring with
  | none => .next s
  | some g =>
    let tail := bits value.toNat 15 0
    if !(s.ring g).enable then .next s
    else if (s.ring g).size ≤ tail then .next (s.haltRing g 2)
    else .next (s.updRing g (fun r => { r with sqTail := tail }))

/-- CQ_HEAD is written (R350, R351): entries are consumed; beyond the entries written the ring halts. -/
def execCqHeadDoorbell (fn : Fin 130) (ring : Nat) (value : BitVec 32) (s : State) : Out :=
  match s.reachRing fn ring with
  | none => .next s
  | some g =>
    let r := s.ring g
    let head := bits value.toNat 15 0
    let n := (head + r.size - r.cqHead) % r.size
    if !r.enable then .next s
    else if r.size ≤ head || r.entries.length < n then .next (s.haltRing g 3)
    else .next ((s.updRing g (fun r => { r with cqHead := head, entries := r.entries.drop n })).reviewRing g)

/-- SIZE_LOG2 and VECTOR of the control word of RING_CFG (R349). -/
def ctlSize (v : Nat) : Nat := bits v 28 24
def ctlVector (v : Nat) : Nat := bits v 9 0

/-- ENABLE is written 1 (R349, R350): the word's fields are stored while the ring is disabled, then SIZE_LOG2 and VECTOR are
checked; on an enabled ring a word that would change a field is rejected. -/
def execRingEnable (fn : Fin 130) (ring : Nat) (value : BitVec 32) (s : State) : Out :=
  match s.reachRing fn ring with
  | none => .next s
  | some g =>
    let size := ctlSize value.toNat
    let vec := ctlVector value.toNat
    let r := s.ring g
    if r.enable then
      .next (if size = r.sizeLog2 && vec = r.vector then s else s.hostEvent fn 4)
    else
      let s := s.updRing g (fun r => { r with sizeLog2 := size, vector := vec })
      if size < 4 || 16 < size || fnVectors fn ≤ vec then .next (s.hostEvent fn 4)
      else
        .next (s.updRing g (fun r =>
          { r with enable := true, sqHead := 0, sqTail := 0, cqTail := 0, cqHead := 0, phase := true, halted := false, haltCause := 0
                   entries := [] }))

/-- ENABLE is written 0 (R350): accepted only while OUTSTANDING is 0; posted descriptors are dropped, and what waits at the ring's
head ends with no entry. A word that would change SIZE_LOG2 or VECTOR of an enabled ring sets CFG_REJECT (R349). -/
def execRingDisable (fn : Fin 130) (ring : Nat) (value : BitVec 32) (s : State) : Out :=
  match s.reachRing fn ring with
  | none => .next s
  | some g =>
    let size := ctlSize value.toNat
    let vec := ctlVector value.toNat
    let r := s.ring g
    if !r.enable then .next (s.updRing g (fun r => { r with sizeLog2 := size, vector := vec }))
    else
      let s := if size = r.sizeLog2 && vec = r.vector then s else s.hostEvent fn 4
      if r.out_ ≠ [] then .next (s.hostEvent fn 4)
      else .next ((s.dropHold g).updRing g (fun r => { r with enable := false, sqTail := r.sqHead }))

/-- Two spans of numbers meet; an empty one meets none. -/
def spansMeet (a n b m : Nat) : Bool := 0 < n && 0 < m && a < b + m && b < a + n

/-- A VF_ASSIGN value is valid for VF v of a port (R348). -/
def State.assignOk (s : State) (d : Domain) (p : Port) (v value : Nat) : Bool :=
  let rf := vfRingFirst value
  let rc := vfRingCount value
  let jf := vfJobFirst value
  let jc := vfJobCount value
  !p.vfEnable && bits value 19 0 = 0 && rc ≤ 64 && jc ≤ 4096 &&
  (rc = 0 || rf + rc ≤ s.ringCount d) && (jc = 0 || (s.slotBase d ≤ jf && jf + jc ≤ s.slotBase d + s.slotCount d)) &&
  (List.range 63).all (fun i =>
    let w := i + 1
    let a := p.assign.get 0 w
    w = v || (!(spansMeet rf rc (vfRingFirst a) (vfRingCount a)) && !(spansMeet jf jc (vfJobFirst a) (vfJobCount a))))

/-- VF_ASSIGN[v] of a host's PF is written (R348); v is 1 to 63. -/
def execVfAssignWrite (hostB : Bool) (v : Fin 64) (value : BitVec 64) (s : State) : Out :=
  let pf := if hostB then 64 else 0
  if v.val = 0 || !(s.fnReaches pf) then .next s
  else if s.assignOk (if hostB then .hostB else .hostA) (s.port hostB) v value.toNat then
    .next (s.updPort hostB (fun p => { p with assign := p.assign.put 0 v value.toNat }))
  else .next (s.hostEvent pf 4)

/-- INT_ACK is written (R359). -/
def execIntAck (fn : Fin 130) (value : BitVec 32) (s : State) : Out :=
  let v := bits value.toNat 9 0
  if !(s.fnReaches fn) || fnVectors fn ≤ v then .next s
  else .next ((s.updFunc fn (fun f => { f with inService := f.inService.filter (· ≠ v) })).reviewVector fn v)

/-- A vector is unmasked (R359). -/
def execMsixUnmask (fn : Fin 130) (vector : Fin 513) (s : State) : Out :=
  if !(s.fnReaches fn) || fnVectors fn ≤ vector.val then .next s
  else
    .next ((s.updFunc fn (fun f => { f with unmasked := if f.unmasked.contains vector.val then f.unmasked
      else f.unmasked ++ [vector.val] })).reviewVector fn vector)

/-- A Function Level Reset of a PF or a VF (R362). -/
def execFunctionLevelReset (fn : Fin 128) (s : State) : Out :=
  if fnVf fn = 0 then .next (s.resetPf (64 ≤ fn.val))
  else if (s.port (64 ≤ fn.val)).enabled.contains (fnVf fn) then .next (s.resetFunction fn)
  else .next s

/-- A port's link goes down (R362); with PERST_N deasserted it trains again. -/
def execPcieLinkDown (hostB : Bool) (s : State) : Out :=
  if (s.port hostB).up then
    .next ((s.portLinkDown hostB).updPort hostB (fun p => { p with training := !p.perst && !p.held }))
  else .next s

end Sys2Proof.Machine
end

