-- ==== Sys2Proof/Machine/Reset.lean ====
section
/-!
DEFINITION. Turning off, orderly and abrupt shutdown (R33, R34), trips (R44), the start of the rails (R45), and warm starts (R66
to R68, R463).
-/

namespace Sys2Proof.Machine

/-! ### Turning off -/

/-- The power stage is on, or ramping. -/
def State.powered (s : State) : Bool := s.power.ramping || 0 < s.power.groups

/-- Rails go off in reverse order (R45): nothing the module holds survives but flash and what the power stage controller
keeps (R32, R462). -/
def State.railsOff (s : State) : State :=
  { s.coreLost with chop := {} }.modPower (fun p =>
    { p with
      groups := 0, ramping := false, pwrOk := false, vio18 := false, coreHeld := false, clockHold := false, limiting := false
      floors := false, offAt := some s.now, limit := 2100, watts := 0
      powerNib := 0, powerQuill := 0, coreNib := 0, coreQuill := 0, inkNib := 0, lpdQuill := 0, heat := [] })

/-- Turn off with a cause (R36). -/
def State.turnOff (s : State) (cause : Nat) : State := s.railsOff.modPower (fun p => { p with lastOff := cause })

/-- ABORT on every margin channel, where light is on. -/
def State.abortLit (s : State) (cause : Nat) : State := if s.boot.photonic then abortAll s cause else s

/-- The abrupt shutdown (R34): ABORT with cause 2, then the rails go off. -/
def State.abrupt (s : State) (cause : Nat) : State := (s.abortLit 2).turnOff cause

/-- A thermal trip (R44): latched; ABORT with cause 4; rails off with LAST_OFF_CAUSE 4. -/
def State.trip (s : State) : State :=
  ((s.modPower (fun p => { p with tripLow := true, tripped := true })).abortLit 4).turnOff 4

/-! ### Warm start (R66 to R68, R463) -/

/-- A ring through a warm start: its heater and line are frozen, and it is to be reacquired. -/
def RingSt.frozen (r : RingSt) : RingSt := { r with locked := false }

/-- Causes of a lane's own that only a calibration record, its line or a cold start ends (R97, R103, R104). -/
def Hold.lasts (h : Hold) : Bool := h = .launch || h = .fade || h = .source

/-- A lane through a warm start: `circuit` where its slot stays in circuit use (R123). Causes that last hold it (log entry 155). -/
def Lane.frozen (circuit : Bool) (y : Lane) : Lane :=
  let own := y.own.filter Hold.lasts
  { state := if circuit then .out else if own = [] then .out else .held
    hold := if circuit then .circuit else own.headD .none
    own := own, droppedBy := y.droppedBy, toHatch := y.toHatch
    modulator := y.modulator.frozen, drop := y.drop.frozen, addDrop := y.addDrop.frozen, lineRef := y.lineRef, fade := y.fade }

/-- A fibre through a warm start. -/
def Fibre.frozen (circuit : Nat → Bool) (x : Fibre) : Fibre :=
  { lanes := x.lanes.foldl (fun t e => t.put {} e.1 (e.2.frozen (circuit e.1))) [] }

/-- An engine through a warm start: its sources stay as they are; a changeover not begun is abandoned. Its temperature does not change
(R95). -/
def Engine.frozen (x : Engine) : Engine := { sources := x.sources, failedFibre := x.failedFibre, hot := x.hot }

/-- A slot through a warm start: in QUARANTINE; a job ends with END_REASON 9 (R443, R455). -/
def Slot.frozen (x : Slot) : Slot :=
  { state := .quarantine, generation := x.generation, shadow := x.shadow, endReason := if x.holds then 9 else x.endReason }

/-- Nib faults through a warm start: STATE 3 and the count of faults survive (R458). -/
def keptUnits (t : Tab UnitEntry) : Tab UnitEntry :=
  t.foldl (fun (acc : Tab UnitEntry) e =>
    if e.1 / 256 = 0x0A then
      acc.put {} e.1 { faultsSincePass := e.2.faultsSincePass, state := if e.2.state = 3 then 3 else 0 }
    else acc) []

/-- The newest dump that has ended. -/
def newestDump (t : Tab (Option Dump)) : Nat :=
  (t.foldl (fun (b : Nat × Nat) e => match e.2 with
    | some d => if b.2 ≤ d.number then (e.1, d.number) else b
    | none => b) (0, 0)).1

/-- A changeover whose window is open at a warm start completes before the reset. -/
def State.finishOpen (s : State) : State :=
  s.forEach (List.range 16) (fun s e =>
    match (s.engine e).change with
    | some c => if c.open_ then changeoverDone s e c else s
    | none => s)

/-- The memories through a warm start. LPDDR6 keeps its contents (R337). Where the fill of R335 has not ended it runs again
(R342). Where it has, but the cold start had not reached SERVICE, the contents are undefined (R68; log entry 145). -/
def State.memWarm (s : State) : MemSt :=
  let m := { s.mem with ink := 0, filled := 0, quillWait := [] }
  if !s.mem.zeroDone then { m with bytes := [], lost := [], poisoned := [] }
  else if s.service || s.boot.warm then m
  else { m with bytes := [], lost := [(0, 2 ^ 39)], lostNo := s.freeCount, poisoned := [] }

/-- Warm steps 2 to 4: ABORT with cause 3, PCIe links down, the account feed flushed, then reset of everything but what R463
keeps. -/
def State.warmStart (s : State) : State :=
  let s := (s.abortLit 3).finishOpen.feedAccounts false
  { power := { s.power with floors := false, limit := 2100 }
    boot := { phase := .warm 4, straps := s.boot.straps, warm := true, warmLow := s.boot.warmLow, coresP0 := s.boot.coresP0
              warmIgnored := s.boot.warmIgnored, warmMerged := s.boot.warmMerged }
    flash := s.flash
    fibres := s.fibres.foldl (fun t e => t.put {} e.1 (e.2.frozen (s.inCircuit e.1))) []
    engines := s.engines.foldl (fun t e => t.put {} e.1 e.2.frozen) []
    hatch := { elems := s.hatch.elems, conns := s.hatch.conns }
    time := { sec := s.time.sec, ns := s.time.ns, frac := s.time.frac, inc := s.time.inc, keepInc := true }
    slots := (List.range 4096).map (fun j => (j, (s.slot j).frozen))
    faults := { units := keptUnits s.faults.units, dumpNo := s.faults.dumpNo, dumps := s.faults.dumps
                selected := newestDump s.faults.dumps, scrubList := s.faults.scrubList }
    mem := s.memWarm
    host := { part := s.host.part, installEn := s.host.installEn
              portA := { perst := s.host.portA.perst }, portB := { perst := s.host.portB.perst } }
    chop := s.chop
    flags := s.flags.filter (fun e => e.1 = objKey 0x6200 1)
    now := s.now, freeCount := s.freeCount + 1, out := s.out, pending := s.pending }

/-- A Hatch commit has sent its notices (R117 step 5) and has not ended. -/
def State.commitNoticed (s : State) : Bool :=
  match s.hatch.commit with
  | some c => c.sent
  | none => false

/-- A warm reset request (R66, R68). -/
def State.warmRequest (s : State) : State :=
  let ignored := s.modBoot (fun b => { b with warmIgnored := b.warmIgnored + 1 })
  let go := if s.commitNoticed then s.modBoot (fun b => { b with warmPending := true }) else s.warmStart
  match s.boot.phase with
  | .off => s
  | .rails => ignored
  | .cold _ => if s.boot.sram then go else ignored
  | .warm _ => if s.boot.done.getLsbD 3 then go else s.modBoot (fun b => { b with warmMerged := b.warmMerged + 1 })

/-- A warm reset request that waited for a Hatch commit runs when the commit has ended (R128); that of a hold-up sequence then
sets HOLDUP (R33). -/
def State.runPendingWarm (s : State) : State :=
  if s.boot.warmPending && !s.commitNoticed then s.warmStart.setFlagIf s.boot.holdupMark 0x6200 1 else s

/-! ### Orderly shutdown (R33) -/

/-- What starts the orderly shutdown: a hold-up warning, EN low, an overvoltage. -/
inductive OffBy where
  | holdup | en | overvoltage
deriving DecidableEq, Repr

/-- Step 5: Chop closes its record with SHORT, and Scribe writes it and a power event, where its firmware runs. CAUSE of the power
event is not stated and is a free value. -/
def State.closeRecords (s : State) (m : Metered) (detail : Nat) : State :=
  let before := s.chop.held
  let s := s.closeRecord true m
  if !(s.boot.done.getLsbD 2) then s
  else
    let s := s.forEach (s.chop.held.filter (fun r => !(before.contains r))) (fun s r => (s.storeChop r).confirmRecord r.no)
    (s.logOpenEvent (unitId 0x12 0) 3 detail).writeHistory

/-- Step 6 reaches a warm reset: after cold step 10, during a warm start, or in service. -/
def State.warmAllowed (s : State) : Bool :=
  match s.boot.phase with
  | .cold _ => s.boot.sram
  | .warm _ => true
  | _ => false

/-- Step 6. -/
def State.offStep (s : State) (by_ : OffBy) (env : ShutdownEnv) : State :=
  match by_ with
  | .en => s.turnOff 1
  | .overvoltage => s.turnOff 3
  | .holdup =>
    if env.warnHigh && env.vinInRange && env.enHigh && s.warmAllowed then
      let s := s.modPower (fun p => { p with floors := false, holdupWarn := false })
      if s.commitNoticed then (s.modBoot (fun b => { b with holdupMark := true })).warmRequest else s.warmRequest.setFlag 0x6200 1
    else s.turnOff 6

/-- The orderly shutdown table from step 2; changeovers are abandoned with the ABORT of step 3 (R105); `env.cutBefore` names the first step that a trip or an undervoltage keeps from
running. While step 4 forces the floors, NIB_STEP and QUILL_STEP read 16 and 10, and THROTTLE is not set by it: R33 states neither
(DESIGN CHOICE, log entry 149). -/
def State.orderly (s : State) (by_ : OffBy) (env : ShutdownEnv) : State :=
  let runs (k : Nat) : Bool := match env.cutBefore with
    | some (n, _) => k < n
    | none => true
  let cause := match by_ with | .en => 1 | .overvoltage => 3 | .holdup => 6
  let s := if runs 2 then s.feedAccounts false else s
  let s := if runs 3 then (s.abortLit 1).forEach (List.range 16) dropChange else s
  let s := if runs 4 then s.modPower (fun p => { p with floors := true }) else s
  let s := if runs 5 then s.closeRecords env.metered cause else s
  match env.cutBefore with
  | some (_, true) => s.trip
  | some (_, false) => (s.abrupt 2).modPower (fun p => { p with vinOk := false })
  | none => s.offStep by_ env

/-! ### The start of the rails -/

/-- Nothing blocks a start: EN is high, 36 V is in range, and no latch holds (R27, R29, R44, R46, R430); after a loss of SYSCLK the
start waits for it (R29, R37). -/
def State.startAllowed (s : State) : Bool :=
  s.power.en && s.power.vinOk && !s.powered && !s.power.tripped && !s.power.railLock && !s.power.ilimitLock && !s.power.secHold &&
  !s.power.vioLock && !(s.power.lastOff = 5 && !s.power.sysclk) && s.boot.phase = .off

/-- The power-up sequence starts (R45). -/
def State.railsStart (s : State) : State :=
  if s.startAllowed then (s.modPower (fun p => { p with ramping := true })).modBoot (fun b => { b with phase := .rails }) else s

/-- The rails have been off for 50 ms, or have never been on (R32, R33). -/
def State.railsRested (s : State) : Bool :=
  match s.power.offAt with
  | some t => t + 50 * 10 ^ 9 ≤ s.now
  | none => true

/-- A cold start that waits for the rails to have been off for 50 ms (R32). -/
def State.reviewEnAgain (s : State) : State :=
  if s.power.enAgain && s.railsRested then (s.modPower (fun p => { p with enAgain := false })).railsStart else s

/-- EN has been low for 50 ms: the latches of R29, R44, R46 and R430 are released. -/
def State.reviewEnLow (s : State) : State :=
  match s.power.enLowAt with
  | some t =>
    if t + 50 * 10 ^ 9 ≤ s.now then
      s.modPower (fun p => { p with tripLow := false, tripped := false, railLock := false, railRetry := false, ilimitLock := false
                                    secHold := false })
    else s
  | none => s

end Sys2Proof.Machine
end

