-- ==== Sys2Proof/Machine/Sched.lean ====
section
/-!
DEFINITION. The commands of Ductus: loading, validating, arming and swapping schedules, SCHED frames, windows, and the buckets
(R200 to R225).
-/

namespace Sys2Proof.Machine

/-- A write of SCHED_CMD. -/
def schedWrite (s : State) (r : Req) (cmd : Nat) (arg : BitVec 24) : State :=
  serveWrite s r 0x21F1 1 (command32 cmd arg.toNat) schedCommand

/-- SCHED_CMD command 1: begin load (R210). -/
def execSchedBeginLoad (r : Req) (arg : BitVec 24) (s : State) : Out := .next (schedWrite s r 1 arg)

/-- SCHED_CMD command 2: validate (R209, R210). -/
def execSchedValidate (r : Req) (arg : BitVec 24) (s : State) : Out := .next (schedWrite s r 2 arg)

/-- Validation ends (R209). -/
def execSchedValidateDone (s : State) : Out := .next (if s.ductus.validating then s.validateShadow else s)

/-- SCHED_CMD command 3: arm at SWAP_AT (R211). -/
def execSchedArm (r : Req) (arg : BitVec 24) (s : State) : Out := .next (schedWrite s r 3 arg)

/-- SCHED_CMD command 4: disarm (R210). -/
def execSchedDisarm (r : Req) (arg : BitVec 24) (s : State) : Out := .next (schedWrite s r 4 arg)

/-- SCHED_CMD command 5: deactivate (R210). -/
def execSchedDeactivate (r : Req) (arg : BitVec 24) (s : State) : Out := .next (schedWrite s r 5 arg)

/-- SCHED_CMD command 6: load the boot schedule (R210). -/
def execSchedLoadBoot (r : Req) (arg : BitVec 24) (s : State) : Out := .next (schedWrite s r 6 arg)

/-- SCHED_CMD command 7: store the shadow image as the boot schedule (R210, R55). -/
def execSchedStoreBoot (r : Req) (arg : BitVec 24) (s : State) : Out := .next (schedWrite s r 7 arg)

/-- At T − 100 µs (R212 step 3), once. -/
def execSwapReadinessCheck (s : State) : Out :=
  if s.ductus.armed && s.ductus.check.isNone && s.cellNow < s.ductus.armedAt && s.ductus.armedAt * 1024 ≤ s.instant100 + 10 ^ 7 then
    .next (s.modDuctus (fun d => { d with check := some s.readiness }))
  else .next s

/-- At T (R212 step 4, R213): the banks exchange, or the swap is missed. A command 5 that waits for the next cell time wins (R225). -/
def execSchedSwap (s : State) : Out :=
  match s.ductus.check with
  | some c =>
    if s.ductus.armed && s.ductus.armedAt ≤ s.cellNow && s.ductus.deactivating.isNone then
      (if c = 0 && s.readiness = 0 then .next (((s.activate true s.ductus.armedAt).ductusFlag 0).countDuctus 1)
       else .next (s.missSwap (if c ≠ 0 then c else s.readiness)))
    else .next s
  | none => .next s

/-- The image a join takes (R214), and whether it lies in the shadow bank. -/
def State.joinImage (s : State) : Option (Bool × List Byte) :=
  let d := s.ductus
  if d.armed then some (true, d.shadow)
  else if d.state = 2 && d.lostSync then some (false, d.active)
  else if d.state = 0 && d.bootJoin && d.shadowValid && s.service then some (true, d.shadow)
  else none

/-- What has passed of the present cell time, in 2^−32 of 10 ps. -/
def State.cellElapsed (s : State) : Nat :=
  (s.time.ns * 2 ^ 32 + s.time.frac) * 100 - s.cellNow % 97656250 * 1024 * 2 ^ 32

/-- The lead of a join has passed at the start of the present cell time (R214). -/
def State.leadPassed (s : State) (since : Nat) : Bool :=
  (since + s.param 0x21F0 3 * 1000000) * 2 ^ 32 + s.cellElapsed * 10 ≤ s.now * 2 ^ 32

/-- A late join at the present cell time (R214). -/
def execSchedJoin (s : State) : Out :=
  if s.param 0x21F0 2 = 0 || s.ductus.state = 1 || s.ductus.deactivating.isSome then .next s
  else match s.joinImage, s.ductus.settled with
  | some (exchange, img), some t =>
    if s.timeSet && s.inTolerance && imgOffset img s.cellNow = some 0 && s.leadPassed t then
      .next ((((s.activate exchange s.cellNow).ductusFlag 0).ductusFlag 3).countDuctus 3)
    else .next s
  | _, _ => .next s

/-- Synchronisation is lost while ACTIVE (R215). -/
def execSyncLoss (s : State) : Out :=
  if s.ductus.state = 1 && !(s.timeSet && s.inTolerance) then
    let s := ((s.ductusState 2).ductusFlag 2).countDuctus 4
    .next ((s.sendSched 3 4 s.ductus.activeId (s.param 0x21F3 1)).modDuctus (fun d => { d with lostSync := true }))
  else .next s

/-- SCHED ACTIVE again (R216). -/
def execSchedActiveRepeat (s : State) : Out :=
  if s.ductus.state = 1 then .next (s.sendSched 2 0 s.ductus.activeId s.ductus.lastSwap) else .next s

/-- A SCHED frame from a leaf (R216): counted per fibre, and MISSED sets LEAF_MISSED. One with a non-zero reserved byte is discarded and
counted (R5). -/
def onSched (s : State) (f : Nat) (pl : List Byte) : State :=
  let kind := byteAt pl 0
  if pl.length ≠ 32 || kind = 0 || 5 ≤ kind then (s.countFibre f 4).setFlag (0x6440 + f) 1
  else if beAt pl 28 4 ≠ 0 then s.countFibre f 4
  else
    let s := s.modDuctus (fun d => { d with leafFrames := d.leafFrames.upd 0 f (· + 1) })
    if kind = 3 then s.ductusFlag 6 else s

/-- At a cell time whose number is a multiple of 1,024, once in it (R219). -/
def execBucketRefresh (s : State) : Out := .next s.refreshDue

/-- A write of SHAPER_CFG (R220, R221). -/
def execShaperCfgWrite (r : Req) (i : Fin 4096) (value : BitVec 64) (s : State) : Out :=
  .next (serveWrite s r (0x2240 + i / 64) (1 + i % 64) value.toNat (fun s v => shaperWrite s i v))

/-- A write of POLICER_CFG (R220, R221). -/
def execPolicerCfgWrite (r : Req) (i : Fin 4096) (value : BitVec 64) (s : State) : Out :=
  .next (serveWrite s r (0x2280 + i / 64) (1 + i % 64) value.toNat (fun s v => policerWrite s i v))

/-- Ductus decides a request for a window (R217, R218). -/
def execWindowRequest (w : WindowFor) (s : State) : Out := .next (s.decideWindow w).proofNext

end Sys2Proof.Machine
end

