-- ==== Sys2Proof/Machine/FaultCmds.lean ====
section
/-!
DEFINITION. Commands of faults and recovery: HEARTBEAT and RECOVER (R460, R461), unit faults (R458), the Blotter (R464, R465), Proof (R466,
R467), the fault history and health (R468, R469), and Exemplar digests (R472).
-/

namespace Sys2Proof.Machine

/-! ### Hang detection -/

/-- 100 ms in which every unit has answered (R460). -/
def execHeartbeatTick (s : State) : Out :=
  if s.boot.done.getLsbD 2 then .next (s.modFaults (fun x => { x with heartbeat := (x.heartbeat + 1) % 2 ^ 32 })) else .next s

/-- A warm start is under way: claims are merged into it (R68). -/
def State.inWarm (s : State) : Bool := match s.boot.phase with
  | .warm _ => !(s.boot.done.getLsbD 3)
  | _ => false

/-- A claim acts (R461): a dump unless SKIP_DUMP, then a warm start; during a warm start it is merged (R68). -/
def State.claimActs (s : State) (skip : Bool) : State :=
  if s.inWarm || skip then s.warmRequest
  else (s.modFaults (fun x => { x with warmAfterDump := true })).startDump 2

/-- RECOVER is written (R460, R461). VFs have no such register. -/
def execRecoverWrite (fn : Fin 130) (value : BitVec 32) (s : State) : Out :=
  let d := fnDomain fn
  let v := value.toNat
  if fnVf fn ≠ 0 || !(s.fnReaches fn) then .next s
  else if bits v 31 16 ≠ 0x5256 || bits v 15 1 ≠ 0 then
    .next (s.modFaults (fun x => { x with recoverIgnored := x.recoverIgnored + 1 }))
  else
    let s := s.setFlag 0x6121 7
    if domNo d = s.param 0x2480 3 then
      let s := s.modFaults (fun x => { x with claimMerged := x.claimMerged + x.claims.length, claims := [] })
      .next (s.claimActs (bit v 0))
    else if s.inWarm then .next s.warmRequest
    else .next (s.modFaults (fun x => { x with claims := x.claims ++ [(d, bit v 0, s.now + s.param 0x2480 4 * 10 ^ 9)] }))

/-- CLAIM_WINDOW_MS after a claim that the owner has not taken over (R461). -/
def execClaimWindowExpiry (s : State) : Out :=
  match s.faults.claims with
  | [] => .next s
  | c :: rest => .next (if c.2.2 ≤ s.now then (s.modFaults (fun x => { x with claims := rest })).claimActs c.2.1 else s)

/-! ### Unit faults and the Blotter -/

/-- A unit fault (R458). -/
def execUnitFault (unit : BitVec 16) (cause : Fin 12) (detail : BitVec 64) (s : State) : Out :=
  if isUnit unit.toNat && s.boot.phase ≠ .off then .next (s.unitFault unit.toNat cause detail.toNat false) else .next s

/-- BLOTTER_CMD (R476). -/
def blotterCommand (s : State) (v : Nat) : Except DopStatus State :=
  if bits v 31 24 = 1 && bits v 23 0 = 0 then .ok (s.startDump 3)
  else if bits v 31 24 = 2 && bits v 23 4 = 0 then .ok (s.modFaults (fun x => { x with selected := bits v 3 0 }))
  else .error .range

/-- BLOTTER_CMD command 1 (R476). -/
def execBlotterDumpNow (r : Req) (arg : BitVec 24) (s : State) : Out :=
  .next (serveWrite s r 0xA502 1 (command32 1 arg.toNat) blotterCommand)

/-- BLOTTER_CMD command 2 (R476). -/
def execBlotterSelect (r : Req) (arg : BitVec 24) (s : State) : Out :=
  .next (serveWrite s r 0xA502 1 (command32 2 arg.toNat) blotterCommand)

/-- Where byte `i` of a dump's slot lies: the Blotter skips absent pages (R332). -/
def State.dumpAddr (s : State) (slot i : Nat) : Nat :=
  let on := (List.range 16).filter (fun k => s.mem.lpd.getLsbD k)
  let page := i / 4096
  slot * 2 ^ 28 + (page / on.length * 16 + (on[page % on.length]?).getD 0) * 4096 + i % 4096

/-- Write a dump into its slot. -/
def State.writeDump (s : State) (slot : Nat) (b : List Byte) : State :=
  if s.mem.lpd = 0 then s
  else s.forEach (List.range (ceilDiv b.length 4096)) (fun s k =>
    s.writeMem (s.dumpAddr slot (4096 * k)) (slice b (4096 * k) 4096))

/-- A dump ends (R464, R465): units that gave no response, that answered in part, and that are absent. A unit that gave no response
has a unit fault (R458). A warm start that waits for the dump follows (R459, R461, R477). -/
def execBlotterDumpEnd (silent cut absent : List Nat) (s : State) : Out :=
  match s.faults.dumping with
  | none => .next s
  | some r =>
    let result (u : Nat) : Nat := if absent.contains u then 3 else if silent.contains u then 1 else if cut.contains u then 2 else 0
    let no := s.faults.dumpNo
    let b := dumpBytes s.freeCount s.cellNow no r result
    let s := { s with freeCount := s.freeCount + 1 }
    let s := s.writeDump r.slot b
    let bad := allUnits.filter (fun u => u / 256 ≠ 0x13 && (result u = 1 || result u = 2))
    let s := s.forEach bad (fun s _ => s.setFlag 0x6121 8)
    let s := s.forEach bad (fun s u => s.unitFault u 4 0 false)
    let d : Dump := { number := no, ended := true, size := b.length }
    let again := s.faults.warmAfterDump
    let s := s.modFaults (fun x =>
      { x with dumping := none, warmAfterDump := false, dumpNo := (no + 1) % 2 ^ 32, dumps := x.dumps.put none r.slot (some d)
               selected := r.slot })
    .next (if again then s.warmRequest else s)

/-! ### Proof (R466, R467) -/

/-- Units that Proof tests periodically, in turn: each Nib, then each plane. -/
def proofUnits : List Nat := (List.range 32).map (unitId 0x0A) ++ (List.range 10).map (unitId 6)

/-- The next Nib or plane in turn is to be tested (R466); with PROOF_PERIOD_S 0 none is. -/
def execProofPeriodStart (s : State) : Out :=
  if s.param 0x2481 1 = 0 || !(s.boot.done.getLsbD 2) then .next s
  else
    let u := (proofUnits[s.faults.proofNext % 42]?).getD 0
    .next ((s.modFaults (fun x => { x with proofNext := (x.proofNext + 1) % 42 })).askProof u)

/-- PROOF_CMD (R473). A UNIT that names no unit under R15 gives UNIT, the code that R15 and R399 name for a Proof request; one that
names a unit which Proof does not test gives RANGE (DEDUCED, log entry 154). -/
def proofCommand (src : DopSrc) (s : State) (v : Nat) : Except DopStatus State :=
  let u := bits v 15 0
  if bits v 31 24 ≠ 1 || bits v 23 16 ≠ 0 then .error .range
  else if !(isUnit u) then .error .unit
  else if u / 256 = 0x0A || u / 256 = 6 then .ok (s.askProof u)
  else if u / 256 = 0x0D then
    (if src = .quill (s.boot.coresP0 ≤ u % 256) then .ok (s.askProof u) else .error .accessDenied)
  else .error .range

/-- PROOF_CMD command 1 (R473). -/
def execProofTestNow (r : Req) (arg : BitVec 24) (s : State) : Out :=
  .next (serveWrite s r 0x2483 1 (command32 1 arg.toNat) (proofCommand r.src))

/-- T of the granted window arrives (R466): a Nib takes no new work, with 64 free blocks made for the test (R253); a plane is
withdrawn by command 1 (R192). -/
def execProofWindowOpen (s : State) : Out :=
  match s.faults.proofUnit, s.faults.proofT with
  | some u, some t =>
    if s.faults.proofOpen || toNs (s.time.sec, s.time.ns) < toNs t then .next s
    else
      let i := u % 256
      let s := s.modFaults (fun x => { x with proofOpen := true })
      let s := if (s.unit u).state = 3 then s else s.updUnit u (fun x => { x with state := 2 })
      if u / 256 = 0x0A then
        let s := s.updNib i (fun x => { x with window := true, windowAt := s.now })
        .next (match s.getBlocks i .proof (2 ^ 60) 0 64 4096 with
          | some r => r.1
          | none => s)
      else .next (s.modCore (fun c =>
        { c with noMatch := c.noMatch ||| BitVec.ofNat 10 (2 ^ i), restoring := c.restoring &&& ~~~(BitVec.ofNat 10 (2 ^ i)) }))
  | _, _ => .next s

/-- A test passes (R467, R192, R458). -/
def State.proofPassed (s : State) (u : Nat) : State :=
  let s := s.updUnit u (fun x =>
    let run := x.passRun + 1
    { x with proofPass := min (x.proofPass + 1) 0xFFFFFFFF, failRun := 0, passRun := run, faultsSincePass := 0, fresh := 0
             state := if x.state ≠ 3 then 0 else if u / 256 = 0x0A && run < 3 then 3 else 0 })
  if u / 256 = 6 then
    let m := BitVec.ofNat 10 (2 ^ (u % 256))
    s.modCore (fun c => { c with needProof := c.needProof &&& ~~~m, restoring := c.restoring ||| (c.noMatch &&& m) })
  else s

/-- Faults logged as transient since the last Proof become permanent when it fails (R469). -/
def UnitEntry.hardenFresh : Nat → UnitEntry → UnitEntry
  | 0, x => x
  | n + 1, x => UnitEntry.hardenFresh n x.harden

/-- A test fails (R467). -/
def State.proofFailed (s : State) (u : Nat) : State :=
  let s := (s.setFlag 0x6121 2).logEvent u 3 1 0
  let s := (s.updUnit u (fun x =>
    let x := UnitEntry.hardenFresh x.fresh x
    { x with proofFail := min (x.proofFail + 1) 0xFFFFFFFF, wF := x.wF + 256, fresh := 0, passRun := 0, failRun := x.failRun + 1
             state := if x.state = 3 then 3 else 0 })).reviewHealth u
  if (s.unit u).failRun = 2 then s.unitFault u 3 0 true else s

/-- A Proof test ends (R467); that of a Nib starts only once its array is empty (R253). A failed unit is tested again in the next window. -/
def execProofResult (pass : Bool) (s : State) : Out :=
  match s.faults.proofUnit with
  | none => .next s
  | some u =>
    if !s.faults.proofOpen || (u / 256 = 0x0A && (s.nib (u % 256)).passes.any (·.started)) then .next s
    else
      let s := if pass then s.proofPassed u else s.proofFailed u
      let s := if u / 256 = 0x0A then s.modFaults (fun x => { x with proofOpen := false })
        else s.modFaults (fun x => { x with proofUnit := none, proofT := none, proofOpen := false })
      .next (if pass then s.proofNext
        else (s.modFaults (fun x => { x with retest := if x.retest.contains u then x.retest else x.retest ++ [u] })).proofNext)

/-- The length of a KIND 2 window runs out (R277): the Nib takes work again, and the next test is taken in hand. -/
def execProofWindowEnd (s : State) : Out :=
  match s.faults.proofUnit with
  | none => .next s
  | some u =>
    if u / 256 ≠ 0x0A || !((s.nib (u % 256)).window) then .next s
    else
      let s := s.updNib (u % 256) (fun x => { x with window := false, windowed := x.windowTime s.now })
      let s := s.updUnit u (fun x => { x with state := if x.state = 2 then 0 else x.state })
      .next (s.modFaults (fun x => { x with proofUnit := none, proofT := none, proofOpen := false })).proofNext

/-! ### History and health -/

/-- The changed fault history is rewritten, at most once every 60 s (R468). -/
def execFaultHistoryWrite (s : State) : Out :=
  if s.boot.done.getLsbD 2 && s.faults.historyDirty && s.faults.historyAt.all (fun t => t + 60 * 10 ^ 12 ≤ s.now) then
    .next (s.writeHistory.modFaults (fun x => { x with historyAt := some s.now }))
  else .next s

/-- A weight after a day (R469). -/
def decayed (w : Nat) : Nat := w * 231 / 256

/-- A whole day of network time, or of running time while TIME is clear: every weight decays, once (R469). -/
def execHealthDecay (s : State) : Out :=
  let day := s.faultSeconds / 86400
  if s.faultSeconds % 86400 ≠ 0 || day = s.faults.decayedDay then .next s
  else
  let s := s.modFaults (fun x => { x with decayedDay := day })
  .next (s.forEach s.faults.units.keys (fun s u =>
    (s.updUnit u (fun x => { x with wT := decayed x.wT, wP := decayed x.wP, wF := decayed x.wF, wC := decayed x.wC })).reviewHealth u))

/-! ### Exemplar (R471, R472) -/

/-- A digest has no pair. -/
def State.digestMissed (s : State) : State := s.modFaults (fun x => { x with missed := min (x.missed + 1) 0xFFFFFFFF })

/-- A DIGEST frame's payload obeys R471. -/
def digestOk (b : List Byte) : Bool := b.length = 32 && beAt b 15 1 = 0 && beAt b 28 4 = 0

/-- A DIGEST frame: compared with the shadow chunk's digest, or held (R472). -/
def onDigest (s : State) (f : Nat) (b : List Byte) : State :=
  if !(digestOk b) then (s.countFibre f 4).setFlag (0x6440 + f) 1
  else if beAt b 0 6 ≠ s.moduleMac then s
  else
    let h := beAt b 12 3
    let k := h * 2 ^ 32 + beAt b 16 4
    let d := beAt b 20 8
    if !(s.shadowJob h) then s.digestMissed
    else match s.faults.ownDigests.find? (fun x => x.1 = k) with
      | some x => (s.modFaults (fun y => { y with ownDigests := y.ownDigests.erase x })).digestPair x.2.1 d
      | none =>
        if s.faults.ownDigests.length + s.faults.farDigests.length < 65536 then
          s.modFaults (fun y => { y with farDigests := y.farDigests ++ [(k, d, s.now)] })
        else s.digestMissed

/-- A digest of a handle and chunk, the module's own or a received one, has been held for TIMEOUT_US (R472). -/
def execDigestTimeout (own : Bool) (handle : BitVec 24) (chunk : BitVec 32) (s : State) : Out :=
  let k := handle.toNat * 2 ^ 32 + chunk.toNat
  match (if own then s.faults.ownDigests else s.faults.farDigests).find? (fun x => x.1 = k) with
  | none => .next s
  | some x =>
    if s.now < x.2.2 + recTimeout (s.slot (jobSlot handle.toNat)).record.coll * 1000000 then .next s
    else
    let s := s.modFaults (fun y =>
      if own then { y with ownDigests := y.ownDigests.erase x } else { y with farDigests := y.farDigests.erase x })
    .next s.digestMissed

end Sys2Proof.Machine
end

