-- ==== Sys2Proof/Machine/FolioCmds.lean ====
section
/-!
DEFINITION. Commands of Folio: snapshots (R376, R377, R388), histograms (R379, R390) and the drain of precise records (R381).
-/

namespace Sys2Proof.Machine

/-- A snapshot bank. -/
def FolioSt.bank (f : FolioSt) (b : Nat) : Bank := if b = 0 then f.bank0 else f.bank1

/-- Change a snapshot bank. -/
def State.updBank (s : State) (b : Nat) (g : Bank → Bank) : State :=
  s.modFolio (fun f => if b = 0 then { f with bank0 := g f.bank0 } else { f with bank1 := g f.bank1 })

/-- SNAP_CMD is written (R376, R377, R388). -/
def snapCommand (s : State) (v : Nat) : Except DopStatus State :=
  let cmd := bits v 31 24
  let bank := bits v 0 0
  let at_ := s.param 0x2452 1
  if cmd = 0 || 4 < cmd || bits v 23 1 ≠ 0 || (cmd ≤ 2 && bank ≠ 0) then .error .range
  else if cmd = 1 then
    if s.folio.armed then .error .state
    else if at_ < s.cellNow + 97657 || s.cellNow + 5859375000 < at_ then .error .range
    else .ok (s.modFolio (fun f => { f with armed := true, snapAt0 := at_, strobe := 0 }))
  else if cmd = 2 then
    if s.folio.armed then .ok (s.modFolio (fun f => { f with armed := false })) else .error .state
  else .ok (s.updBank bank (fun b => { b with held := cmd = 3 }))

/-- A write of SNAP_CMD with a command. -/
def snapWrite (s : State) (r : Req) (cmd : Nat) (arg : BitVec 24) : State :=
  serveWrite s r 0x2451 1 (command32 cmd arg.toNat) snapCommand

/-- SNAP_CMD command 1: arm. -/
def execSnapArm (r : Req) (arg : BitVec 24) (s : State) : Out := .next (snapWrite s r 1 arg)

/-- SNAP_CMD command 2: disarm. -/
def execSnapDisarm (r : Req) (arg : BitVec 24) (s : State) : Out := .next (snapWrite s r 2 arg)

/-- SNAP_CMD command 3: hold a bank. -/
def execSnapHold (r : Req) (arg : BitVec 24) (s : State) : Out := .next (snapWrite s r 3 arg)

/-- SNAP_CMD command 4: release a bank. -/
def execSnapRelease (r : Req) (arg : BitVec 24) (s : State) : Out := .next (snapWrite s r 4 arg)

/-- Strobe k of a snapshot (R376). -/
def strobeCell (at0 k period : Nat) : Nat := at0 + k * period * 390625 / 4

/-- Every counter latches into a bank (R376); a HELD bank is left alone (R377). -/
def State.latchBank (s : State) (b : Nat) : State :=
  if (s.folio.bank b).held then s.setFlag 0x6643 1
  else
    (s.updBank b (fun x =>
      { x with epoch := s.param 0x2452 2, valid := true, unsynced := !s.timeSet, cell := s.param 0x2452 1, counters := s.counters })).setFlag
      0x6643 0

/-- The strobe at SNAP_AT (R376): a periodic snapshot moves to its next strobe and epoch, a single one disarms. -/
def execSnapStrobe (s : State) : Out :=
  let at_ := s.param 0x2452 1
  let epoch := s.param 0x2452 2
  let period := s.param 0x2452 3
  if !s.folio.armed || s.cellNow < at_ || s.boot.recovery then .next s
  else
    let s := s.latchBank (epoch % 2)
    if period = 0 then .next (s.modFolio (fun f => { f with armed := false }))
    else
      let k := s.folio.strobe + 1
      .next (((s.modFolio (fun f => { f with strobe := k })).setParam 0x2452 1 (strobeCell s.folio.snapAt0 k period % 2 ^ 64)).setParam
        0x2452 2 ((epoch + 1) % 2 ^ 32))

/-- HIST_CFG of an engine is written (R379, R390): its bins are cleared. Reserved bits are ignored (R5). -/
def histWrite (h : Nat) (s : State) (v : Nat) : Except DopStatus State :=
  let w := bits v 59 50
  if 6 < bits v 63 60 || w = 0 || 1000 < w then .error .range
  else
    let v := v - bits v 49 38 * 2 ^ 38 - bits v 21 16 * 2 ^ 16
    let s := s.setParam 0x2453 (1 + h) v
    .ok { s with counters := s.counters.filter (fun e => e.1 / 256 ≠ 0x7600 + h) }

/-- A HIST_CFG write. -/
def execHistCfgWrite (r : Req) (h : Fin 16) (value : BitVec 64) (s : State) : Out :=
  .next (serveWrite s r 0x2453 (1 + h) value.toNat (histWrite h))

/-- A Nib's precise buffer drains its oldest record into the sample store (R275, R381). -/
def execSampleDrain (n : Fin 32) (s : State) : Out :=
  match (s.nib n).precise with
  | [] => .next s
  | r :: rest => .next ((s.updNib n (fun x => { x with precise := rest })).storeSample n r)

end Sys2Proof.Machine
end

