-- ==== Sys2Proof/Machine/HatchCmds.lean ====
section
/-!
DEFINITION. The commands of Hatch (R113 to R128).
-/

namespace Sys2Proof.Machine

/-- HATCH_CMD's word. -/
def hatchWord (cmd count tag : Nat) : Nat := cmd * 2 ^ 24 + count % 256 * 2 ^ 16 + tag % 65536

/-- A commit ends before T; a warm reset that waited runs now. -/
def State.commitEnds (s : State) (status : Nat) : State := (endCommit s status).runPendingWarm

/-- Accept a commit (R117 step 1): its entries are copied and checked; lanes that enter circuit use grant no credit. -/
def acceptCommit (s : State) (count tag : Nat) : State :=
  let vs := (List.range count).map s.hatchEntry
  let c : Commit := { entries := vs, tag := tag, lead := s.param 0x21A0 2 }
  let s := s.modHatch (fun h => { h with commit := some c, lastTag := tag, lastStatus := 1 })
  let s := s.countUnit 3 0 2
  match checkEntries s vs with
  | .error e => recordCommitEnd s e tag
  | .ok (rel, con) =>
    let c := { c with releases := rel, connects := con }
    let s := s.modHatch (fun h => { h with commit := some c })
    s.forEach (enteringSlots s c) (fun s x => s.updLink (16 * x.1 + x.2) (fun l => { l with draining := true }))

/-- HATCH_CMD (R115). -/
def hatchCommand (s : State) (v : Nat) : Except DopStatus State :=
  let cmd := bits v 31 24
  let count := bits v 21 16
  if bits v 23 22 ≠ 0 || cmd = 0 || 3 < cmd then .error .range
  else if cmd = 1 && (count = 0 || 32 < count) then .error .range
  else if cmd ≠ 1 && count ≠ 0 then .error .range
  else match s.hatch.commit with
  | some c => if cmd = 3 && !c.sent && c.stage ≤ 2 then .ok (s.commitEnds 10) else .error .state
  | none =>
    if cmd = 1 then .ok (acceptCommit s count (bits v 15 0))
    else if cmd = 2 then .ok (s.forEach (List.range 32) (fun s k => s.setParam 0x21A2 (1 + k) 0))
    else .error .state

/-- HATCH_CMD command 1. -/
def execHatchCommit (r : Req) (count tag : Nat) (s : State) : Out :=
  .next (serveWrite s r 0x21A1 1 (hatchWord 1 count tag) hatchCommand)

/-- HATCH_CMD command 2. -/
def execHatchClearStaging (r : Req) (tag : Nat) (s : State) : Out :=
  .next (serveWrite s r 0x21A1 1 (hatchWord 2 0 tag) hatchCommand)

/-- HATCH_CMD command 3. -/
def execHatchCancel (r : Req) (tag : Nat) (s : State) : Out :=
  .next (serveWrite s r 0x21A1 1 (hatchWord 3 0 tag) hatchCommand)

/-- The mesh with a route's settings written; heaters stay, and FAILED elements stand as measured. -/
def HatchSt.withRoute (h : HatchSt) (l : List (Nat × Elem)) : HatchSt :=
  { h with elems := l.foldl (fun t e =>
      if (t.get {} e.1).failed then t else t.put {} e.1 { e.2 with heater := (t.get {} e.1).heater }) h.elems }

/-- Every connection of a list reaches its own outputs and no other. -/
def HatchSt.serves (h : HatchSt) (l : List Conn) : Bool :=
  l.all (fun c => let o := (meshTrace h c.input).2; o.all c.outs.contains && c.outs.all o.contains)

/-- Outputs that light at a position before stage `st` reaches. -/
def meshReach (h : HatchSt) : Nat → Nat → Nat × Nat → List Nat
  | 0, _, pos => [pos.2]
  | n + 1, st, pos => (meshStep h st pos).2.flatMap (meshReach h n (st + 1))

/-- The port by which light at a position enters the element of stage `st`. -/
def meshPort (st : Nat) (pos : Nat × Nat) : Nat :=
  if st ≤ 7 then pos.2 % 2 else pos.1 / (128 / 2 ^ (14 - st) / 2) % 2

/-- RATIO of a split whose cross output leads to `cross` of `all` outputs, in units of 1/64 (R112, R127), to the nearest unit: the
rounding is a DESIGN CHOICE (log entry 162). -/
def splitRatio (cross all : Nat) : Nat := min 63 ((128 * cross + all) / (2 * all))

/-- The split ratios of the elements that light at a position meets: at each split the share of outputs beyond either side (R112). -/
def splitRatios (h : HatchSt) : Nat → Nat → Nat × Nat → List (Nat × Nat)
  | 0, _, _ => []
  | n + 1, st, pos =>
    let r := meshStep h st pos
    let x := h.elems.get {} r.1
    let cross := ((r.2[1 - meshPort st pos]?).map (fun q => (meshReach h n (st + 1) q).length)).getD 0
    let all := (r.2.map (fun q => (meshReach h n (st + 1) q).length)).foldl (· + ·) 0
    (if x.mode = 2 && !x.failed then [(r.1, splitRatio cross all)] else []) ++ r.2.flatMap (splitRatios h n (st + 1))

/-- A search's settings, element key, MODE and RATIO, as a route for connections: FAILED elements stay, and every split has the ratio that
R112 derives. -/
def searchRoute (h : HatchSt) (conns : List Conn) (l : List (Nat × Nat × Nat)) : List (Nat × Elem) :=
  let set := l.map (fun e => (e.1, ({ mode := e.2.1, ratio := if e.2.1 = 2 then e.2.2 else 0 } : Elem)))
  let ratios := conns.flatMap (fun c => splitRatios (h.withRoute set) 15 0 (0, c.input))
  (changedElems h (set.map (fun e => (e.1, { e.2 with ratio := ((ratios.find? (fun r => r.1 = e.1)).map (·.2)).getD e.2.ratio })))).filter
    (fun e => !(h.elems.get {} e.1).failed)

/-- A route that a search found serves the connections and moves no standing broadcast connection (R112). -/
def HatchSt.routeOk (h : HatchSt) (c : Commit) (conns : List Conn) (r : List (Nat × Elem)) : Bool :=
  (h.withRoute r).serves conns &&
  (disturbedBy h c r).all (fun i => h.conns.all (fun x => x.input ≠ i || x.outs.length = 1))

/-- The route that disturbs the fewest standing connections, the first of equals (R113). -/
def HatchSt.bestRoute (h : HatchSt) (c : Commit) (l : List (List (Nat × Elem))) : Option (List (Nat × Elem)) :=
  l.foldl (fun (b : Option (List (Nat × Elem))) r => match b with
    | none => some r
    | some x => if (disturbedBy h c r).length < (disturbedBy h c x).length then some r else b) none

/-- A unicast set over a mesh with no FAILED element is always routed (R113). -/
def HatchSt.plain (h : HatchSt) (l : List Conn) : Bool := l.all (fun c => c.outs.length = 1) && !(h.elems.any (fun e => e.2.failed))

/-- A route has been found: it is kept until T, with the connections it disturbs. -/
def State.routeFound (s : State) (c : Commit) (r : List (Nat × Elem)) : State :=
  let s := s.updCommit (fun c => { c with route := some r, disturbed := disturbedBy s.hatch c r })
  if c.drainDue then endDrain s else s

/-- The route search ends (R113): by the looping procedure for a unicast set, else with the best of the routes that the search found, or
NO_ROUTE. -/
def execHatchRouteDone (found : List (List (Nat × Nat × Nat))) (s : State) : Out :=
  match s.hatch.commit with
  | none => .next s
  | some c =>
    if c.stage ≠ 1 || c.route.isSome then .next s
    else
      let conns := connsAfter s.hatch c
      if s.hatch.plain conns then .next (s.routeFound c (routeUnicast s.hatch conns))
      else match s.hatch.bestRoute c ((found.map (searchRoute s.hatch conns)).filter (s.hatch.routeOk c conns)) with
      | none => .next (s.commitEnds 2)
      | some r => .next (s.routeFound c r)

/-- DRAIN_US has passed (R117 step 3). -/
def execHatchDrainEnd (s : State) : Out :=
  match s.hatch.commit with
  | none => .next s
  | some c =>
    if c.stage ≠ 1 then .next s
    else
      let s := s.updCommit (fun c => { c with drainDue := true })
      .next (if c.route.isSome then endDrain s else s)

/-- At T − HATCH_LEAD_US (R117 step 5). -/
def execCircuitNoticeSend (s : State) : Out :=
  match s.hatch.commit with
  | none => .next s
  | some c =>
    match c.t with
    | none => .next s
    | some t =>
      if c.noticed || c.stage ≠ 2 then .next s
      else
        let slots := noticeSlots s c
        let s := s.forEach slots (fun s x => sendSeq s x.1 0x0A (circuitPayload s c t x.1 x.2))
        .next (s.updCommit (fun c => { c with noticed := true, sent := true, awaiting := slots.map (fun x => 16 * x.1 + x.2) }))

/-- An acknowledgement is missing HATCH_LEAD_US − 50 µs after the notice (R120). -/
def execCircuitAckTimeout (s : State) : Out :=
  match s.hatch.commit with
  | none => .next s
  | some c =>
    if !c.noticed || c.awaiting = [] || c.stage ≠ 2 then .next s
    else if 2 ≤ c.abandoned then .next (s.commitEnds 7)
    else
      .next (s.updCommit (fun c =>
        { c with abandoned := c.abandoned + 1, t := none, noticed := false, awaiting := [], requested := true }))

/-- At T (R117 step 7): every changed setting at once; rings and selectors of released and new slots. -/
def execHatchApply (s : State) : Out :=
  match s.hatch.commit with
  | none => .next s
  | some c =>
    match c.t with
    | none => .next s
    | some t =>
      if !c.noticed || c.awaiting ≠ [] || c.stage ≠ 2 || !(s.reached t) then .next s
      else
        let leaving := leavingSlots s c
        let entering := enteringSlots s c
        let s := s.modHatch (fun h => h.withRoute (c.route.getD []))
        let s := s.forEach leaving (fun s x => s.updLane x.1 x.2 (fun y =>
          { y.updRing .addDrop (fun r => { r with parked := true }) with toHatch := false }))
        let s := s.forEach entering (fun s x => s.updLane x.1 x.2 (fun y =>
          { y.updRing .modulator (fun r => { r with parked := true, locked := false }) with toHatch := true }))
        let s := if c.disturbed = [] then s else (s.setFlag 0x63A1 2).countUnit 3 0 14
        .next (s.updCommit (fun c => { c with stage := 3 }))

/-- The mesh has settled (R117 step 8). -/
def execHatchSettled (s : State) : Out :=
  match s.hatch.commit with
  | some c => if c.stage = 3 then .next (s.updCommit (fun c => { c with settled := true })) else .next s
  | none => .next s

/-- Outputs of a commit's new and disturbed connections whose path meets an element that became FAILED during it (R128). -/
def failedOutputs (h : HatchSt) (c : Commit) : List Nat :=
  ((c.connects ++ h.conns.filter (fun x => c.disturbed.contains x.input)).filter (fun x =>
    (meshTrace h x.input).1.any c.failedNow.contains)).flatMap (·.outs)

/-- The gains, 0 to 12 dB in 0.01 dB, that step 9 sets at the outputs of new connections (R121): free values. -/
def State.setGains (s : State) : List Conn → List Conn × State
  | [] => ([], s)
  | c :: r =>
    let gains := (List.range c.outs.length).map (fun k => (Config.freeWord (s.freeCount + k)).toNat % 1201)
    let rest := ({ s with freeCount := s.freeCount + c.outs.length } : State).setGains r
    ({ c with gains := gains, muted := false } :: rest.1, rest.2)

/-- Step 9 of R117: the connection table follows, gains are set, add-drop rings lock but for `failed` outputs (R118), released
lanes enter LOCK. -/
def execHatchCommitDone (failed : List (Fin 256)) (s : State) : Out :=
  match s.hatch.commit with
  | none => .next s
  | some c =>
    if c.stage ≠ 3 || !c.settled then .next s
    else
      let leaving := leavingSlots s c
      let bad := (failed.map (·.val)).filter (fun o => c.connects.any (fun x => x.outs.contains o)) ++ failedOutputs s.hatch c
      let (made, s) := s.setGains c.connects
      let s := s.modHatch (fun h => { h with conns := connsAfter h { c with connects := made } })
      let s := s.forEach (c.connects.flatMap (·.outs)) (fun s o => s.updLane (o / 4) (12 + o % 4) (fun y =>
        y.updRing .addDrop (fun r => { r with parked := false, locked := !(bad.contains o) })))
      let s := s.setFlagIf (bad ≠ []) 0x63A1 3
      let s := recordCommitEnd s 0 c.tag
      let s := s.forEach leaving (fun s x =>
        slotReturns (s.updLane x.1 x.2 (fun y => y.updRing .modulator (fun r => { r with parked := false }))) x.1 x.2)
      .next s.runPendingWarm

/-- The Hatch controller trims a heater (R122). An output below −18.0 dBm that a connection feeds sets
OUTPUT_FAULT. -/
def execHatchTrimTick (k : Fin 1920) (trim : HatchTrim) (s : State) : Out :=
  if !s.boot.photonic then .next s
  else
    let s := s.modHatch (fun h => { h with elems := h.elems.upd {} k (fun x => { x with heater := min trim.power 40000 }) })
    .next (s.setFlagIf (trim.dark.any (fun o => s.hatch.conns.any (fun c => c.outs.contains o.val))) 0x63A1 3)

/-- An element whose heater is at 0 mW or 40 mW becomes FAILED in its measured state (R122). -/
def execElementFailure (k : Fin 1920) (ratio : Nat) (s : State) : Out :=
  let x := s.hatch.elems.get {} k.val
  if !s.boot.photonic || x.failed || (x.heater ≠ 0 && x.heater ≠ 40000) then .next s
  else
    let s := s.modHatch (fun h =>
      { h with elems := h.elems.upd {} k (fun x => { x with failed := true, ratio := min ratio 63 })
               commit := h.commit.map (fun c => { c with failedNow := k.val :: c.failedNow }) })
    let (cls, s) := ((s.setFlag 0x63A1 5).countUnit 3 0 12).freeBelow 5
    .next (s.logOpenEvent (unitId 3 0) (1 + cls) k)

/-- A connection's input falls below −18.0 dBm, or its light returns (R121). -/
def execDarkInput (i : Fin 256) (light : Bool) (s : State) : Out :=
  match s.hatch.conns.find? (fun c => c.input = i.val) with
  | none => .next s
  | some c =>
    if c.muted = !light then .next s
    else
      let s := s.modHatch (fun h => { h with conns := h.conns.map (fun x => if x.input = i.val then { x with muted := !light } else x) })
      .next (if light then s else (s.setFlag 0x63A1 4).countUnit 3 0 13)

/-- Retry and margin timers of a fibre are paused: a changeover's window at either end, or 20 µs from T of a commit on the fibre (R101,
R157). -/
def State.timersPaused (s : State) (f : Nat) : Bool :=
  s.faultsHeld f ||
  (match s.hatch.commit with
   | some c => c.stage = 3 && (commitFibres s c).contains f &&
      (match c.t with
       | some t => toNs (s.time.sec, s.time.ns) < toNs t + 20000
       | none => false)
   | none => false)

end Sys2Proof.Machine
end

