-- ==== Sys2Proof/Machine/Ports.lean ====
section
/-!
DEFINITION. Ports: the link word and control blocks (R132, R133), link-level retry (R134, R135), credits (R137, R138),
egress selection (R207), and a write of FIBRE_CFG (R72, R73).
-/

namespace Sys2Proof.Machine

/-- The link word of R132: KIND, TC and SEQ, none where its check or a reserved bit fails. -/
def linkWordFields (w : Nat) : Option (Nat × Nat × Nat) :=
  if crc8 (beBytes 4 (w / 65536)) = bits w 15 8 && bits w 42 40 = 0 && bits w 7 0 = 0 then
    some (bits w 47 46, bits w 45 43, bits w 39 16)
  else none

/-- Units that the receiver has freed grow (R138). -/
def State.freeUnits (s : State) (p tc units : Nat) : State :=
  s.updLink p (fun x => { x with freed := x.freed.upd 0 tc (fun n => (n + units) % 2 ^ 24) })

/-- A frame in SEQ order: a runt or an oversized frame and a MAC Control frame are discarded and counted (R129, R130), and so is any frame
before SERVICE (R63); any other goes to its pipeline. -/
def State.acceptFrame (s : State) (p : Nat) (h : HeldFrame) : State :=
  let len := h.bytes.length
  if len < 64 || h.maxFrame < len then
    ((s.countPort p 6).setFlag (0x6440 + p / 16) 6).freeUnits p h.tc (creditCost len)
  else if beAt h.bytes 12 2 = 0x8808 then
    ((s.countPort p 7).setFlag (0x6440 + p / 16) 7).freeUnits p h.tc (creditCost len)
  else if !s.service then (s.countMisc .preService 1).freeUnits p h.tc (creditCost len)
  else
    let x : RxFrame := { link := p, tc := h.tc, bytes := h.bytes, start := s.now, udp := h.udp }
    let s := (s.countPort p 1).count (0x7C00 + p) 2 len
    s.modTables (fun t => { t with waiting := t.waiting.upd [] (p / 128) (· ++ [x]) })

/-- Deliver the held frames that follow in SEQ order (R134). -/
def State.deliverRx (s : State) (p : Nat) : Nat → State
  | 0 => s
  | n + 1 =>
    match (s.link p).rxHeld.find? (fun h => h.seq = (s.link p).rxSeq) with
    | none => s
    | some h =>
      let s := s.updLink p (fun x => { x with rxSeq := (x.rxSeq + 1) % 2 ^ 24, rxHeld := x.rxHeld.erase h })
      (s.acceptFrame p h).deliverRx p n

/-- A sound data frame reaches the receiver (R134): the expected one is delivered with those that follow it, a newer one is
held unless a gap is declared, an older one is a duplicate. -/
def State.sequenceRx (s : State) (p : Nat) (h : HeldFrame) : State :=
  let x := s.link p
  if h.seq = x.rxSeq then
    let s := s.updLink p (fun x => { x with rxSeq := (x.rxSeq + 1) % 2 ^ 24, gap := false })
    (s.acceptFrame p h).deliverRx p x.rxHeld.length
  else if linkNewer h.seq x.rxSeq then
    if x.gap then s.countMisc .dataNewerInGap 1
    else if x.rxHeld.any (fun y => y.seq = h.seq) then s.countMisc .dataDuplicate 1
    else s.updLink p (fun x => { x with rxHeld := x.rxHeld ++ [h] })
  else s.countMisc .dataDuplicate 1

/-- The receiver's grant of a class: CREDIT_CFG times the lanes in IN (R137, R139). -/
def State.grant (s : State) (p c : Nat) : Nat :=
  let v := s.param 0x21C1 (1 + c)
  if !(s.linkUp p) || !s.service || (s.link p).draining || 7 ≤ c then 0
  else (if cfgLong (s.fibreCfg (p / 16)) then bits v 31 16 else bits v 15 0) * s.activeLanes p

/-- The limit to advertise: units freed plus the grant, never below what was advertised (R138). -/
def State.newLimit (s : State) (p c : Nat) : Nat :=
  let x := s.link p
  let v := (x.freed.get 0 c + s.grant p c) % 2 ^ 24
  let old := x.advertised.get 0 c
  if c < 7 && linkNewer v old then v else old

/-- Send a control block with the present ACK, NACK while a gap is open, and the credit limits (R133). In an idle window none is sent
(R100). -/
def sendControl (s : State) (p : Nat) : State :=
  if s.lanesIn p = [] || (s.fibre (p / 16)).suspended then s
  else
    let s := s.updLink p (fun x => { x with advertised := (List.range 7).foldl (fun (t : Tab Nat) c => t.put 0 c (s.newLimit p c)) [] })
    let x := s.link p
    let body := beBytes 3 x.rxSeq ++ beBytes 1 (ofBool x.gap) ++ zeros 4 ++
      (List.range 8).flatMap (fun c => beBytes 3 (x.advertised.get 0 c)) ++ zeros 28
    s.emit (.controlBlock p (linkWordOf 1 0 0) (withFcs body))

/-- The control block's timer of 1 µs or 10 µs, or 200 ns after a gap (R133). -/
def execControlBlockSend (p : Fin 1024) (s : State) : Out := .next (sendControl s p)

/-- A frame ahead of its turn has been held for 100 ns (R134): the gap is declared, held frames are discarded, NACK goes out. -/
def execReorderHoldExpiry (p : Fin 1024) (s : State) : Out :=
  if (s.link p).rxHeld = [] then .next s
  else
    let s := s.updLink p (fun x => { x with rxHeld := [], gap := true })
    .next (sendControl ((s.setFlag (0x6440 + p / 16) 3).countFibre (p / 16) 8) p)

/-- Read the replay storage of a link (R324, R329): an uncorrected error in a held frame takes the link down, as fewer than
MIN_LANES lanes would. -/
def readReplay (s : State) (p : Nat) (ecc : Ecc) (from_ : Nat) (timed : Bool) : State :=
  let long := cfgLong (s.fibreCfg (p / 16))
  let s := if long then s.inkEcc ecc (.replay p) 0 else s.sramEcc ecc (unitId 8 0)
  if ecc = .uncorrected then linkDown s p .training else replayFrom s p from_ timed

/-- A replay runs on a link. -/
def LinkSt.replaying (x : LinkSt) (now : Nat) : Bool :=
  match x.replayAt with
  | some (_, until_) => now < until_
  | none => false

/-- A NACK from `ack` is answered by the replay that runs: it names the same point or a lower one, or that replay came of the timeout and
began at the oldest frame (R135, R157). -/
def LinkSt.covers (x : LinkSt) (now ack : Nat) : Bool :=
  x.replaying now && (x.replayTimed || x.replayAt.any (fun r => ack = r.1 || linkNewer r.1 ack))

/-- A control block that passed its FCS (R133, R135, R138): an ACK frees what it passes, the limits are taken over, and NACK
replays from ACK unless a running replay already covers it. -/
def onControlBlock (s : State) (p : Nat) (b : List Byte) (ecc : Ecc) : State :=
  let ack := beAt b 0 3
  let s := s.updLink p (fun x =>
    { x with
      replay := x.replay.filter (fun h => !(linkNewer ack h.seq))
      limit := (List.range 7).foldl (fun (t : Tab Nat) c => t.put 0 c (beAt b (8 + 3 * c) 3)) [] })
  let x := s.link p
  if bit (byteAt b 3) 0 && !(x.covers s.now ack) && x.replay ≠ [] then readReplay s p ecc ack false else s

/-- A control block is whole: 64 bytes, its FCS, and reserved fields 0 (R5, R133). -/
def controlOk (b : List Byte) : Bool :=
  b.length = 64 && fcsOk b && byteAt b 3 < 2 && beAt b 4 4 = 0 && beAt b 32 28 = 0

/-- A control block arrives on a link (R133); one that fails its FCS, or has a non-zero reserved field, is discarded and counted. -/
def controlArrives (s : State) (p : Nat) (bytes : List Byte) (ecc : Ecc) : State :=
  if !(s.linkUp p) then s
  else if !(controlOk bytes) then s.countMisc .controlBad 1
  else onControlBlock s p bytes ecc

/-- A control block arrives (R133). `ecc` is the read of replay storage that a NACK causes. -/
def execControlBlockReceive (p : Fin 1024) (bytes : List Byte) (ecc : Ecc) (s : State) : Out := .next (controlArrives s p bytes ecc)

/-- A frame arrives on the data channel of a port (R130, R132, R134). One on a lane that is not IN, of a link that is down, or within a
window of the far end, is discarded (R79, R101). -/
def execDataFrameReceive (p : Fin 1024) (linkWord : BitVec 48) (bytes : List Byte) (s : State) : Out :=
  let f := p.val / 16
  let w := p.val % 16
  let q := s.linkOfLane f w
  if !(s.linkUp q) || (s.lane f w).state ≠ .inn || s.inFarWindow f then .next (s.countMisc .dataBadLink 1)
  else match linkWordFields linkWord.toNat with
  | none => .next (s.countMisc .dataBadLink 1)
  | some (kind, tc, seq) =>
    if kind = 1 then .next (controlArrives s q bytes .good)
    else if kind ≠ 0 then .next (s.countMisc .dataBadLink 1)
    else if !fcsOk bytes then
      .next (if bytes.length < 64 || s.param 0x21C0 2 < bytes.length then
          (s.countPort q 6).setFlag (0x6440 + f) 6
        else s.countPort q 5)
    else .next (s.sequenceRx q { seq := seq, tc := tc, lane := w, bytes := bytes, maxFrame := s.param 0x21C0 2, udp := s.param 0x21C0 1 })

/-- ACK has not advanced for the replay timeout while frames are held (R135); paused in a window, and a replay that runs is the one
(R157). -/
def execReplayTimeout (p : Fin 1024) (ecc : Ecc) (s : State) : Out :=
  match (s.link p).replay with
  | [] => .next s
  | h :: _ =>
    if s.timersPaused (p.val / 16) || (s.link p).replaying s.now then .next s else .next (readReplay s p ecc h.seq true)

/-- Granules of a frame in replay storage (R136). -/
def replayGranules (len : Nat) : Nat := ceilDiv (len + 8) 64

/-- Replay storage of a link: 96 KiB for each enabled lane, or 512 KiB in long-reach mode (R136). -/
def State.replayPool (s : State) (p : Nat) : Nat :=
  let v := s.fibreCfg (p / 16)
  ((s.linkSlots p).filter (fun w => bit (cfgEnable v) w)).length * (if cfgLong v then 8192 else 1536)

/-- Room in the pool for one more frame. -/
def State.replayRoom (s : State) (p len : Nat) : Bool :=
  ((s.link p).replay.map (fun h => replayGranules h.bytes.length)).foldl (· + ·) 0 + replayGranules len ≤ s.replayPool p

/-- Hundredths of a nanosecond that a frame occupies its lane: 0.04 ns a byte, link word and gap included (R207). -/
def laneTime (len : Nat) : Nat := (len + 20) * 4

/-- An image is in force for the gates of links: while ACTIVE, and while SUSPENDED by loss of synchronisation, which keeps the active image
(R215). After a missed swap the previous image does not run (R213); DEDUCED (log entry 166). -/
def DuctusSt.gating (d : DuctusSt) : Bool := d.state = 1 || (d.state = 2 && d.lostSync)

/-- Start and end cell times of the gates of a link in this cycle of the active image and the next (R206). -/
def State.gateSpans (s : State) (p : Nat) : List (Nat × Nat) :=
  let img := s.ductus.active
  if !s.ductus.gating then []
  else
    let gates := (imgGateRecs img).filter (fun g => g.port = p)
    let base := match imgOffset img s.cellNow with | some o => s.cellNow - o | none => imgStart img
    gates.flatMap (fun g => [0, imgCycle img].map (fun k => (base + k + g.offset, base + k + g.offset + g.length)))

/-- A frame of TC0 may start on a link: inside a gate with time to end, or always on a link without gates (R207). -/
def State.gateTc0 (s : State) (p len : Nat) : Bool :=
  let g := s.gateSpans p
  g = [] || g.any (fun x => x.1 * 1024 ≤ s.instant100 && s.instantUp + laneTime len ≤ x.2 * 1024)

/-- A frame of TC1 to TC6 may start on a link: it ends before the next gate opens (R207). -/
def State.gateOther (s : State) (p len : Nat) : Bool :=
  (s.gateSpans p).all (fun x => x.1 * 1024 ≤ s.instant100 || s.instantUp + laneTime len ≤ x.1 * 1024)

/-- Pounce discards a frame that is about to start (R188). -/
def pounceEgress (s : State) (p c id : Nat) : State :=
  let s := s.modCore (fun k => { k with egress := k.egress.erase { port := p, tc := c, frame := id } })
  ((s.endCopy id (1000 + p)).pounced c).reviewReady p c

/-- Shaper number of a link and class (R219). -/
def shaperIndex (p c : Nat) : Nat := 4 * p + (c - 3)

/-- The head of a class can start but for replay storage: credit, gate and shaper (R138, R207, R219). -/
def State.canStart (s : State) (p c : Nat) : Option (Nat × Stored) :=
  match s.core.egressHead p c with
  | none => none
  | some (id, f) =>
    let len := f.bytes.length
    if (s.link p).creditOk c len && (if c = 0 then s.gateTc0 p len else s.gateOther p len) &&
        (c < 3 || s.shaperPermits (shaperIndex p c)) then some (id, f)
    else none

/-- The class of TC1 to TC6 that egress deficit round robin serves, in cells (R195, R207), with the deficits it leaves. -/
def egressDrr (s : State) (p : Nat) (can : List (Nat × Nat)) : Nat → Nat → Tab Nat → Option (Nat × Tab Nat)
  | 0, _, _ => none
  | n + 1, cur, d =>
    match can.find? (fun x => x.1 = cur) with
    | some (_, cost) =>
      if cost ≤ d.get 0 cur then some (cur, d.upd 0 cur (· - cost))
      else
        let next := cur % 6 + 1
        let d := if (can.any (fun x => x.1 = next)) then d.upd 0 next (· + s.param 0x21E0 (7 + next)) else d
        egressDrr s p can n next d
    | none =>
      let next := cur % 6 + 1
      let d := if (can.any (fun x => x.1 = next)) then d.upd 0 next (· + s.param 0x21E0 (7 + next)) else d
      egressDrr s p can n next d

/-- The lane that takes the next frame: deficit round robin over the lanes in service, whole frames (R134). -/
def nextLane (x : LinkSt) (lanes : List Nat) (len : Nat) : Nat × Nat :=
  if lanes.contains x.laneTurn && len ≤ x.laneLeft then (x.laneTurn, x.laneLeft - len)
  else (((lanes.filter (fun w => x.laneTurn < w)) ++ lanes)[0]?.getD 0, 9216 - len)

/-- First transmission of a frame: SEQ, replay storage, credit, counters and tallies (R134 to R138, R374, R437). -/
def startFrame (s : State) (p c id : Nat) (f : Stored) : State :=
  let len := f.bytes.length
  let x := s.link p
  let (lane, left) := nextLane x (s.lanesIn p) len
  let s := s.hist 1 (some p) (some c) none ((s.now - f.start) / 1000)
  let s := s.updLink p (fun x =>
    { x with
      txSeq := (x.txSeq + 1) % 2 ^ 24, sent := x.sent.upd 0 c (fun n => (n + creditCost len) % 2 ^ 24)
      replay := x.replay ++ [{ seq := x.txSeq, tc := c, lane := lane, bytes := f.bytes }], laneTurn := lane, laneLeft := left })
  let s := s.emit (.dataFrame p lane (linkWordOf 0 c x.txSeq) f.bytes)
  let s := ((s.countPort p 3).count (0x7C00 + p) 4 len).count (0x7C00 + p) (0x0D + c) 1
  let s := (s.count (0x7C00 + p) (0x15 + c) len).tallyFrame p c len
  let s := if 3 ≤ c then s.shaperTake (shaperIndex p c) else s
  let s := s.modCore (fun k => { k with egress := k.egress.erase { port := p, tc := c, frame := id } })
  (s.endCopy id (1000 + p)).reviewReady p c

/-- The next frame of a link (R207): TC0 first within its gates, then TC1 to TC6 by deficit round robin. Answers its class, its number, the
frame, and the class in turn and the deficits that its start leaves. -/
def egressPick (s : State) (p : Nat) : Option (Nat × Nat × Stored × Nat × Tab Nat) :=
  match s.canStart p 0 with
  | some (id, f) => some (0, id, f, (s.link p).turn, (s.link p).deficit)
  | none =>
    let can := (List.range 6).filterMap (fun i => (s.canStart p (i + 1)).map (fun x => (i + 1, cellsOf x.2.bytes.length)))
    let idle := (List.range 6).filter (fun i => (s.core.egressHead p (i + 1)).isNone)
    let d := idle.foldl (fun (d : Tab Nat) i => d.put 0 (i + 1) 0) (s.link p).deficit
    match egressDrr s p can 256 (s.link p).turn d with
    | none => none
    | some (c, d) => (s.canStart p c).map (fun x => (c, x.1, x.2, c, d))

/-- A link starts its next frame; an aged one is discarded as it is about to start, and the next is taken (R188). While replay storage has
no room for it, no frame starts (R136). -/
def selectStart (s : State) (p : Nat) : Nat → State
  | 0 => s
  | n + 1 =>
    match egressPick s p with
    | none => s
    | some (c, id, f, turn, d) =>
      if !(s.replayRoom p f.bytes.length) then s
      else if s.aged c f.arrival then selectStart (pounceEgress s p c id) p n
      else startFrame (s.updLink p (fun x => { x with turn := turn, deficit := d })) p c id f

/-- A link selects its next frame (R207); a bucket refresh of the same cell time comes first (R219). In an idle window nothing starts (R100, R117). -/
def execEgressSelect (p : Fin 1024) (s : State) : Out :=
  let s := s.refreshDue
  if !(s.linkUp p) || s.lanesIn p = [] || (s.fibre (p.val / 16)).suspended then .next s
  else .next (selectStart s p (s.core.egress.length + 1))

/-- The writable fields of FIBRE_CFG; a 1 written to a reserved bit is ignored (R5, R72). -/
def fibreCfgMask (v : Nat) : Nat :=
  bits v 56 52 * 2 ^ 52 + bits v 49 48 * 2 ^ 48 + bits v 47 32 * 2 ^ 32 + bits v 15 0

/-- A link that stands in both configurations unchanged (R73). -/
def linkKept (old new w : Nat) : Bool :=
  bit (cfgStart old) w && bit (cfgStart new) w && linkWidth (cfgStart old) w = linkWidth (cfgStart new) w &&
  cfgMode old = cfgMode new && cfgLong old = cfgLong new &&
  (List.range (linkWidth (cfgStart old) w)).all (fun k => bit (cfgEnable old) (w + k) = bit (cfgEnable new) (w + k))

/-- A lane of a link that trains again starts over; one left disabled is OUT (R73, R75). A slot in circuit use, or drained for it, keeps
its state (R128). -/
def retrainLane (s : State) (f w : Nat) : State :=
  if s.offElectrical f w then s
  else
    let fb := s.fibre f
    let s := laneOut s f w (if fb.rxLos then .dark else .none)
    if fb.marginState = .dark then s else laneStart s f w

/-- The effect of an accepted FIBRE_CFG (R73): links that change, or train, go down and train again, links that do not stay up. The
commit, the far end's configuration and the reach are judged again (R74, R83, R128). -/
def applyFibreCfg (s : State) (f old v : Nat) : State :=
  let gone := (startSlots old).filter (fun w => !(linkKept old v w))
  let s := s.forEach gone (fun s w => linkDown s (16 * f + w) .disabled)
  let s := s.setParam (0x2140 + f) 1 v
  let again := (startSlots v).filter (fun w => !(linkKept old v w) || !((s.link (16 * f + w)).inService))
  let s := s.forEach again (fun s w =>
    let s := s.forEach (s.linkSlots (16 * f + w)) (fun s k => retrainLane s f k)
    linkRestart s (16 * f + w))
  let s := s.forEach ((startSlots v).filter (fun w => !(bit (cfgStart old) w))) (fun s w =>
    (s.resetShapers (16 * f + w)).resetPolicers (16 * f + w))
  let s := s.forEach (startSlots v) (fun s w => reviewLink s (16 * f + w))
  let s := reviewCommit s f
  let s := if (s.fibre f).holdAll = .none then s else holdFibre s f (s.fibre f).holdAll
  reviewReach (compareEnds (reviewReach s f) f) f

/-- FIBRE_CFG written (R72, R73). -/
def fibreCfgWrite (f : Nat) (s : State) (value : Nat) : Except DopStatus State :=
  let v := fibreCfgMask value
  let old := s.fibreCfg f
  if !(fibreCfgValid v) then .error .range
  else if cfgMode old && !(cfgMode v) && (List.range 16).any (fun w => s.inCircuit f w) then .error .state
  else .ok (applyFibreCfg s f old v)

/-- A FIBRE_CFG write arrives. -/
def execFibreCfgWrite (r : Req) (f : Fin 64) (value : BitVec 64) (s : State) : Out :=
  .next (serveWrite s r (0x2140 + f.val) 1 value.toNat (fibreCfgWrite f)).runPendingWarm

end Sys2Proof.Machine
end

