-- ==== Sys2Proof/Machine/ArrayOps.lean ====
section
/-!
DEFINITION. The systolic array (R240 to R247, R265, R267): passes, batches of thin requests, the weight registers with their loads and
exchange, and the array's clock.
-/

namespace Sys2Proof.Machine

/-! ### Passes as queued -/

/-- Cycles from one vector to the next: a 16-bit input format takes two (R240). -/
def passStep (w : Nat) : Nat := if iFin w ≤ 3 then 2 else 1

/-- BATCH_WAIT_NS of a Nib (R250). -/
def State.batchWait (s : State) (n : Nat) : Nat := if n < 28 then s.param 0x2300 1 else s.param 0x2300 2

/-- PASS at issue: checks 39 and 32, then it is queued on the array. -/
def State.doPass (s : State) (n c : Nat) (k : Ctx) (w : Nat) : State :=
  let q := k.needs w
  let vecs := k.reg (iB w)
  if vecs = 0 then s.progFault n c 39
  else if !((q.reads ++ q.writes).all (fun x => k.inScratch x.1 x.2)) then s.progFault n c 32
  else
    let args := [k.reg (iA w), vecs, k.reg (iC w), k.reg (iD w), k.reg (pResReg w)]
    let s := s.goAsync n c k w .pass (fun a => { a with args := args })
    let wait := s.batchWait n
    s.updNib n (fun x => { x with passes := x.passes ++ [
      { ctx := c, seq := k.seq, thin := pSize w ≠ 128 && pShape w ≠ 0, shape := pShape w, size := pSize w, fmt := iFin w
        mode := iMode w, indep := iInd w || 28 ≤ n, input := k.reg (iA w), wAddr := k.reg (iD w)
        wLen := passIn w * fmtBytes (pWfmt w) (passOut w), wait := wait, entry := passStep w * vecs
        total := passStep w * (vecs - 1) + 256 }] })

/-- The dot product of one column (R240): binary32 sums row by row from +0. -/
def columnSum : List Num → List Num → Num → Num
  | x :: xs, w :: ws, acc => columnSum xs ws ((acc.add (x.mul w)).toB32)
  | _, _, acc => acc

/-- An exact integer column of INT8 × INT8 (R240), in 32 bits. -/
def columnInt (xs ws : List Num) : Num :=
  (xs.zip ws).foldl (fun a p => a.add (p.1.mul p.2)) (.fin false 0 0)

/-- Inputs of a vector as they enter the array: binary32 is converted to BF16 or binary16 (R240). -/
def enterArray (w : Nat) (v : Num) : Num :=
  if iFin w ≠ 1 then v
  else if pConv w then decodeOne 2 (encodeFloat 2 fmtB16 false none v).pat
  else decodeOne 3 (encodeFloat 3 fmtBf16 false none v).pat

/-- The outputs of one pass (R241, R245): output bytes, residual bytes, overflows and invalid conversions. `weights` are the bytes that were
loaded into its weight registers. -/
def passResult (k : Ctx) (w : Nat) (args : List Nat) (weights : List Byte) (dith : Nat → Option Nat) : List Byte × List Byte × Nat × Nat :=
  let arg (i : Nat) := (args[i]?).getD 0
  let nin := passIn w
  let nout := passOut w
  let vecs := arg 1
  let inBytes := fmtBytes (iFin w) nin
  let wBytes := fmtBytes (pWfmt w) nout
  let rows := (List.range nin).map (fun i => decodeElems (pWfmt w) nout (slice weights (i * wBytes) wBytes))
  let cols := (List.range nout).map (fun j => rows.map (fun r => (r[j]?).getD (.fin false 0 0)))
  let fo := iFout w
  let outs := (List.range vecs).map (fun v =>
    let xs := (decodeElems (iFin w) nin (k.read (arg 0 + v * inBytes) inBytes)).map (enterArray w)
    let ys := cols.map (fun col => if iFin w = 11 then columnInt xs col else columnSum xs col (.fin false 0 0))
    let ys := if pResA w then
        (ys.zip (decodeElems 1 nout (k.read (arg 4 + 4 * v * nout) (4 * nout)))).map (fun p => (p.1.add p.2).toB32)
      else ys
    let enc := encodeElems fo (modeSat (iMode w)) (fun i => dith (v * nout + i)) ys
    let back := decodeElems fo nout enc.1
    let res := (ys.zip back).flatMap (fun p => leOrder ((p.1.add p.2.neg).patB32))
    (enc.1, res, enc.2.1, enc.2.2))
  (outs.flatMap (·.1), outs.flatMap (·.2.1), (outs.map (·.2.2.1)).foldl (· + ·) 0, (outs.map (·.2.2.2)).foldl (· + ·) 0)
  where leOrder (p : Nat) : List Byte := beBytes 4 p

/-! ### Batches (R243) -/

/-- Requests that wait in one line: thin ones of one format and mode, or passes that take the whole array. -/
def PassReq.sameLine (p q : PassReq) : Bool := if p.thin then q.thin && q.fmt = p.fmt && q.mode = p.mode else !q.thin

/-- The requests that join a batch of `rows` rows or columns, in order of arrival, up to the first that does not fit: blocks of its size, or
projections of its input. -/
def joinBatch (p : PassReq) : Nat → List PassReq → List PassReq
  | _, [] => []
  | used, q :: r =>
    let fits : Bool := if p.shape = 1 then q.shape = 1 && q.size = p.size
      else q.shape = p.shape && q.ctx = p.ctx && q.input = p.input && q.entry = p.entry
    if fits && used + q.size ≤ 128 then q :: joinBatch p (used + q.size) r else []

/-- The batch that a request leads, with those behind it. -/
def batchOf : List PassReq → List PassReq
  | [] => []
  | p :: r => if p.thin then p :: joinBatch p p.size (r.filter p.sameLine) else [p]

/-- The batches at the heads of their lines, in order of arrival. -/
def batchHeads : List PassReq → List PassReq → List (List PassReq)
  | _, [] => []
  | seen, p :: r =>
    if seen.any (fun q => q.sameLine p) then batchHeads seen r else batchOf (p :: r) :: batchHeads (p :: seen) r

/-- The batches of a Nib that may start next. -/
def Nib.heads (x : Nib) : List (List PassReq) := batchHeads [] (x.passes.filter (fun p => !p.started))

/-- Rows of the array that a batch uses; a projection takes all of them. -/
def batchRows (l : List PassReq) : Nat :=
  match l with
  | [] => 0
  | p :: _ => if p.thin && p.shape = 1 then (l.map (·.size)).foldl (· + ·) 0 else 128

/-- A batch is to run: its rows are full, or its oldest request has waited the batch wait, which may be 0 (R243, R250). -/
def batchClosed : List PassReq → Bool
  | [] => false
  | p :: r => !p.thin || batchRows (p :: r) = 128 || p.wait = 0 || p.expired

/-! ### Weights (R240, R267) -/

/-- Where a request's weights come from. -/
def PassReq.origin (p : PassReq) : Nat × Nat × Nat := (p.ctx, p.wAddr, p.wLen)

/-- Where the weights in registers came from. -/
def Weights.origin (w : Weights) : Nat × Nat × Nat := (w.ctx, w.addr, w.bytes.length)

/-- The batch whose weights are to be loaded: the first that is to run, else the first. -/
def Nib.nextBatch (x : Nib) : List PassReq :=
  match x.heads.find? batchClosed with
  | some b => b
  | none => (x.heads[0]?).getD []

/-- Registers hold a batch's weights. -/
def holds (l : List Weights) (b : List PassReq) : Bool := l.map Weights.origin = b.map PassReq.origin

/-- A load into the shadow registers begins once the exchange wave has passed, 254 cycles after the last pass began, unless the weights are
there or in the active registers (R240, R267). It takes 128 cycles. -/
def State.loadWeights (s : State) (n : Nat) : State :=
  let x := s.nib n
  let b := x.nextBatch
  if b = [] || x.since < 2540 || x.loading ≠ [] || holds x.active b || holds x.shadow b then s
  else
    let l := b.map (fun p =>
      { ctx := p.ctx, addr := p.wAddr, bytes := ((s.ctx n p.ctx).map (fun k => k.read p.wAddr p.wLen)).getD [] : Weights })
    s.updNib n (fun y => { y with loading := l, loadLeft := 1280, shadow := [] })

/-- A batch's weights are in place. -/
def Nib.weightsReady (x : Nib) (b : List PassReq) : Bool := holds x.active b || holds x.shadow b

/-! ### Starting -/

/-- The array can take a batch now (R244, R253, R267): the last output of the previous pass has left, or, for an independent one, its last
vector has entered. -/
def State.arrayFree (s : State) (n : Nat) (b : List PassReq) : Bool :=
  !(s.nib n).window &&
  (s.nib n).passes.all (fun q => !q.started || (b.all (·.indep) && q.entry * 10 ≤ q.ran))

/-- The batch that starts now. -/
def State.startable (s : State) (n : Nat) : Option (List PassReq) :=
  (s.nib n).heads.find? (fun b => batchClosed b && s.arrayFree n b && (s.nib n).weightsReady b)

/-- Start a batch of passes: the registers exchange where its weights are in the shadow (R240). -/
def State.runBatch (s : State) (n : Nat) (l : List PassReq) : State :=
  let rows := batchRows l
  let s := s.updNib n (fun x =>
    let ws := if holds x.active l then x.active else x.shadow
    { x with
      passes := x.passes.map (fun q => if l.contains q then
        { q with started := true, batch := x.batchNo + 1, weights := ((ws[l.findIdx (· = q)]?).map (·.bytes)).getD [] } else q)
      batchNo := x.batchNo + 1, batchFill := rows / 16, since := 0, active := ws
      shadow := if holds x.active l then x.shadow else [] })
  if rows < 128 then (s.countNib n 12 1).nibFlag n 7 else s

/-! ### Running -/

/-- A period of TIME_CLK on a Nib with passes (R247): two cycles of the array at 1.6 GHz, fewer by 5 % for each NIB_STEP. Passes that run go
on, array cycles are counted, and loads of weights go on and begin. -/
def State.arrayTick (s : State) (n : Nat) : State :=
  let x := s.nib n
  let d := 20 - s.nibStep
  if x.passes = [] && x.loading = [] && 2540 ≤ x.since then s
  else
    let busy : Bool := x.passes.any (·.started)
    let slow : Bool := busy && s.nibStep ≠ 0
    let all := x.part + (if busy then d else 0)
    let low := x.partSlow + (if slow then d else 0)
    let done : Bool := x.loading ≠ [] && x.loadLeft ≤ d
    let s := s.updNib n (fun y =>
      { y with
        passes := y.passes.map (fun p => if p.started then { p with ran := p.ran + d } else p)
        since := min 2540 (y.since + d), part := all % 10, partSlow := low % 10, loadLeft := y.loadLeft - d
        shadow := if done then y.loading else y.shadow, loading := if done then [] else y.loading })
    let s := (s.countNib n 7 (all / 10)).countNib n 8 (low / 10)
    (if slow then s.nibFlag n 8 else s).loadWeights n

/-- The arrays of all Nibs. -/
def State.arraysTick (s : State) : State := s.forEach (s.nibs.map (·.1)) (fun s n => s.arrayTick n)

/-- A started pass whose last output has left: the oldest. -/
def Nib.leaving (x : Nib) : Option PassReq := x.passes.find? (fun p => p.started && p.total * 10 ≤ p.ran)

/-- Stalls of a pass (R242): how many row-cycles and column-cycles stalled depends on buffers inside the array and is a free value (log entry
146). -/
def State.passStalls (s : State) (n c pc : Nat) : State :=
  let (r, s) := s.freeBelow (2 ^ 32)
  let (k, s) := s.freeBelow (2 ^ 32)
  let s := (s.countNib n 9 r).countNib n 10 k
  let s := if r = 0 then s else s.sampleEvent n c pc 2 r
  if k = 0 then s else s.sampleEvent n c pc 3 k

/-- The last output of a pass leaves the array (R241): its outputs and residuals go to scratch. -/
def State.passDone (s : State) (n : Nat) (p : PassReq) : State :=
  let s := s.updNib n (fun x => { x with passes := x.passes.erase p })
  match s.ctx n p.ctx with
  | none => s
  | some k =>
    match k.async.find? (fun a => a.seq = p.seq) with
    | none => s
    | some a =>
      let w := a.word
      let job := s.jobOf k.thread
      let (out_, res, ovf, invalid) :=
        passResult k w a.args p.weights (ditherFor (iMode w) (recSeed (s.collRec job)) (s.chunkOf k.thread) 0)
      let s := ((s.countNib n 11 1).passStalls n p.ctx a.pc).convFlags n ovf invalid
      let s := if 0 < ovf + invalid then s.sampleEvent n p.ctx a.pc 6 (ovf + invalid) else s
      let s := s.writeScratch n p.ctx ((a.args[2]?).getD 0) out_
      let s := if pResW w then s.writeScratch n p.ctx ((a.args[4]?).getD 0) res else s
      let s := s.updCtx n p.ctx (fun y => { y with async := y.async.filter (fun b => b.seq ≠ a.seq) })
      (s.endHalt n p.ctx).endFault n p.ctx

end Sys2Proof.Machine
end

