-- ==== Sys2Proof/Machine/NibCmds.lean ====
section
/-!
DEFINITION. The commands of the Nibs: intake of frames (R285), chunk ends (R287, R289), passes (R240 to R245), contexts (R254 to R261),
the instructions of R263 one by one, sampling (R274), and NIB_PROG_CMD (R260).
-/

namespace Sys2Proof.Machine

/-- The number of a chunk-thread. -/
def threadNo (range : Nat) (ordinal : Nat) : Nat := range * 2 ^ 22 + ordinal

/-- The chunk-thread that the frame at the head of a Nib's intake names. -/
def State.intakeThread (s : State) (f : Stored) : Option Nat :=
  (vftOffset f.bytes).bind (fun o => s.findThread (vftJob f.bytes o) (vftChunk f.bytes o))

/-- A terminated TC1 frame reaches its Nib (R285, R299); none is taken inside a KIND 2 window (R253). `ecc` is the read of the chunk's
rows: an uncorrected error fails the chunk with cause 5 (R289). -/
def execNibFrameIntake (n : Fin 32) (ecc : Ecc) (s : State) : Out :=
  match s.core.intake.get [] (128 + n.val) with
  | [] => .next s
  | f :: rest =>
    if (s.nib n).window then .next s
    else
      let s := s.modCore (fun c => { c with intake := c.intake.put [] (128 + n.val) rest })
      let s := s.nibEcc n ecc
      match s.intakeThread f with
      | some th => if ecc = .uncorrected then .next (s.failChunk th 5 0) else .next (s.intakeFrame n f)
      | none => .next (s.intakeFrame n f)

/-- CHUNK_DONE has been admitted for every set (R287). -/
def execChunkDoneAdmit (range : Nat) (ordinal : Fin 4194304) (s : State) : Out :=
  let th := threadNo range ordinal
  let t := s.thread th
  if (s.rangeOf th).isSome && t.state = .emitting && t.waiting = 0 && t.doneSent then .next (s.finishChunk th) else .next s

/-- A limit in µs, counted outside the KIND 2 windows of a Nib, has been reached: from an instant and the Nib's window time then
(R269, R289). -/
def State.limitReached (s : State) (n us since base : Nat) : Bool :=
  us * 1000000 ≤ (s.now - since) - ((s.nib n).windowTime s.now - base)

/-- A chunk is not complete within TIMEOUT_US of OPEN, time in a KIND 2 window of its Nib not counted (R289). -/
def execChunkTimeout (range : Nat) (ordinal : Fin 4194304) (s : State) : Out :=
  let th := threadNo range ordinal
  let t := s.thread th
  let n := s.nibOfThread th
  let us := ((s.rangeOf th).map (fun r => recTimeout (s.slot (jobSlot r.job)).record.coll)).getD 0
  if t.state = .opened && !(s.nib n).window && s.limitReached n us t.opened t.base then .next (s.failChunk th 1 0) else .next s

/-- An array pass starts (R244, R267). -/
def execPassStart (n : Fin 32) (s : State) : Out :=
  match s.startable n with
  | some b => .next (s.runBatch n b)
  | none => .next s

/-- The last output of a pass has left the array (R241); an uncorrected error in its scratch or weights is fault 44. -/
def execPassComplete (n : Fin 32) (ecc : Ecc) (s : State) : Out :=
  match (s.nib n).leaving with
  | none => .next s
  | some p =>
    let s := s.nibEcc n ecc
    if ecc = .uncorrected then
      let s := s.updNib n (fun x => { x with passes := x.passes.erase p })
      let s := s.updCtx n p.ctx (fun k =>
        { k with pc := ((k.async.find? (fun a => a.seq = p.seq)).map (·.pc)).getD k.pc
                 async := k.async.filter (fun a => a.seq ≠ p.seq) })
      .next (s.progFault n p.ctx 44)
    else .next (s.passDone n p)

/-- The oldest thin request has waited the batch wait: its batch runs, as soon as the array and its weights allow (R243, R244). -/
def execBatchTimeout (n : Fin 32) (s : State) : Out :=
  match (s.nib n).passes.find? (fun p => !p.started && p.thin) with
  | none => .next s
  | some p =>
    let s := s.updNib n (fun x => { x with passes := x.passes.map (fun q => if q = p then { q with expired := true } else q) })
    match s.startable n with
    | some b => .next (s.runBatch n b)
    | none => .next s

/-- A chunk-thread of a PROGRAM range invokes its program (R254, R269). -/
def execProgramInvoke (range : Nat) (ordinal : Fin 4194304) (s : State) : Out :=
  let th := threadNo range ordinal
  match s.rangeOf th with
  | none => .next s
  | some r =>
    let t := s.thread th
    if !r.isProgram || t.invoked || t.state ≠ .reserved || r.count ≤ ordinal.val then .next s
    else
      let n := r.nibOf ordinal
      let s := s.updThread th (fun t => { t with invoked := true })
      match s.invokeCheck r with
      | some c => .next (s.invokeFails n th r.program c)
      | none =>
        let i : Invocation :=
          { thread := th, program := r.program, arrived := s.now, base := (s.nib (s.nibOfThread th)).windowTime s.now, scratchMax := s.param 0x2301 1, stepLimit := s.param 0x2301 3 }
        .next (s.updNib n (fun x => { x with waiting := x.waiting ++ [i] }))

/-- A waiting invocation obtains its context and scratch (R254, R256). -/
def execContextStart (n : Fin 32) (s : State) : Out := .next (s.startContext n)

/-- Remove a program from the library: its pin and resident copies go with it (R260, R329). -/
def State.uninstall (s : State) (p : Nat) : State :=
  let s := s.modProgs (fun x => { x with library := x.library.put [] p [], pinned := x.pinned.filter (· ≠ p) })
  { s with nibs := s.nibs.map (fun e => (e.1, { e.2 with store := e.2.store.filter (fun r =>
      r.program ≠ p || e.2.ctxs.any (fun c => match c.2 with | some k => k.program = p | none => false)) })) }

/-- Every waiting invocation of a program fails with code 16 (R329). -/
def State.failWaiting (s : State) (p : Nat) : State :=
  s.forEach (List.range 32) (fun s n =>
    let hit := (s.nib n).waiting.filter (fun i => i.program = p)
    let s := s.updNib n (fun x => { x with waiting := x.waiting.filter (fun i => i.program ≠ p) })
    s.forEach hit (fun s i => s.invokeFails n i.thread p 16))

/-- The program of the invocation at the head of a Nib's queue is fetched from the library (R261); an uncorrected error there
uninstalls it (R329). -/
def execProgramFetch (n : Fin 32) (ecc : Ecc) (s : State) : Out :=
  match (s.nib n).waiting with
  | [] => .next s
  | i :: _ =>
    if (s.nib n).resident i.program || (s.program i.program).isNone then .next s
    else
      let s := s.inkEcc ecc (.program i.program) n
      if ecc = .uncorrected then .next ((s.uninstall i.program).failWaiting i.program)
      else match s.fetchProgram n i.program 70 with
        | some s' => .next s'
        | none => .next s

/-- A wait of a Nib reaches WAIT_LIMIT_US (R269): an invocation fails with code 21 or 22, a RECV or SWAIT faults with code 35;
time in a KIND 2 window does not count. -/
def execWaitLimitExpiry (n : Fin 32) (what : NibWait) (s : State) : Out :=
  if (s.nib n).window then .next s else
  match what with
  | .invocation range ordinal =>
    let th := threadNo range ordinal
    (match (s.nib n).waiting.find? (fun i => i.thread = th) with
     | none => .next s
     | some i =>
       if !(s.limitReached n (s.param 0x2301 2) i.arrived i.base) then .next s else
       let x := s.nib n
       let need := ((s.program i.program).map progBlocks).getD 0
       let noCtx : Bool := (List.range 64).all (fun c => (x.ctxs.get none c).isSome)
       let noScratch : Bool := i.scratchMax < x.scratchBlocks + need
       let code := if noCtx || noScratch || x.resident i.program then 21 else 22
       let s := s.updNib n (fun x => { x with waiting := x.waiting.filter (fun j => j.thread ≠ th) })
       .next (s.invokeFails n th i.program code))
  | .context c =>
    (match s.ctx n c with
     | none => .next s
     | some k =>
       match k.swait with
       | some x => if s.limitReached n (s.param 0x2301 2) x.issued x.base then .next (s.progFault n c 35) else .next s
       | none => match k.async.find? (fun a => a.op = .recv) with
         | some a =>
           if !(s.limitReached n (s.param 0x2301 2) a.issued a.base) then .next s else .next ((s.updCtx n c (fun y => { y with pc := a.pc })).progFault n c 35)
         | none => .next s)

/-! ### Instructions -/

/-- HALT (R263, R287). -/
def execHalt (n : Fin 32) (c : Fin 64) (s : State) : Out :=
  .next (s.issueInstr n c 0x01 (fun s _ _ => (s.updCtx n c (fun y => { y with halting := true })).endHalt n c))

/-- JUMP (R263). -/
def execJump (n : Fin 32) (c : Fin 64) (s : State) : Out :=
  .next (s.issueInstr n c 0x02 (fun s _ w => s.goTo n c (iA w)))

/-- BZ (R263). -/
def execBz (n : Fin 32) (c : Fin 64) (s : State) : Out :=
  .next (s.issueInstr n c 0x03 (fun s k w => s.branchIf n c w (k.reg (iB w) = 0) id))

/-- BNZ (R263). -/
def execBnz (n : Fin 32) (c : Fin 64) (s : State) : Out :=
  .next (s.issueInstr n c 0x04 (fun s k w => s.branchIf n c w (k.reg (iB w) ≠ 0) id))

/-- LOOP (R263). -/
def execLoop (n : Fin 32) (c : Fin 64) (s : State) : Out :=
  .next (s.issueInstr n c 0x05 (fun s k w =>
    let v := k.reg (iB w) - 1
    s.branchIf n c w (v ≠ 0) (fun y => y.setReg (iB w) v)))

/-- MOVI (R263). -/
def execMovi (n : Fin 32) (c : Fin 64) (s : State) : Out :=
  .next (s.issueInstr n c 0x08 (fun s k w => s.goNext n c (fun y =>
    y.setReg (iA w) (if bit (iD w) 0 then iImm w * 2 ^ 32 + k.reg (iA w) % 2 ^ 32 else iImm w))))

/-- ADD (R263). -/
def execAdd (n : Fin 32) (c : Fin 64) (s : State) : Out :=
  .next (s.issueInstr n c 0x09 (fun s k w => s.goNext n c (fun y =>
    y.setReg (iA w) (k.reg (iB w) + k.reg (iC w) + signedImm (iImm w)))))

/-- SUB (R263). -/
def execSub (n : Fin 32) (c : Fin 64) (s : State) : Out :=
  .next (s.issueInstr n c 0x0A (fun s k w => s.goNext n c (fun y =>
    y.setReg (iA w) (k.reg (iB w) + (2 ^ 64 - k.reg (iC w))))))

/-- MUL (R263). -/
def execMul (n : Fin 32) (c : Fin 64) (s : State) : Out :=
  .next (s.issueInstr n c 0x0B (fun s k w => s.goNext n c (fun y => y.setReg (iA w) (k.reg (iB w) * k.reg (iC w)))))

/-- SHIFT (R263). -/
def execShift (n : Fin 32) (c : Fin 64) (s : State) : Out :=
  .next (s.issueInstr n c 0x0C (fun s k w => s.goNext n c (fun y =>
    y.setReg (iA w) (if bit (iD w) 0 then k.reg (iB w) * 2 ^ iImm w else k.reg (iB w) / 2 ^ iImm w))))

/-- LDX (R263). -/
def execLdx (n : Fin 32) (c : Fin 64) (ecc : Ecc) (s : State) : Out :=
  .next (s.issueInstr n c 0x0E (fun s k w => s.doLdx n c ecc k w))

/-- STX (R263). -/
def execStx (n : Fin 32) (c : Fin 64) (s : State) : Out :=
  .next (s.issueInstr n c 0x0F (fun s k w => s.doStx n c k w))

/-- RECV (R264). -/
def execRecv (n : Fin 32) (c : Fin 64) (s : State) : Out :=
  .next (s.issueInstr n c 0x10 (fun s k w => s.doRecv n c k w))

/-- A waiting RECV finds its frame, or the end of the input (R264, R288). -/
def execRecvComplete (n : Fin 32) (c : Fin 64) (s : State) : Out :=
  match s.ctx n c with
  | none => .next s
  | some k =>
    match k.async.find? (fun a => a.op = .recv) with
    | none => .next s
    | some a => .next (((s.recvDone n c a).endHalt n c).endFault n c)

/-- EMIT (R264). -/
def execEmit (n : Fin 32) (c : Fin 64) (ecc : Ecc) (s : State) : Out :=
  .next (s.issueInstr n c 0x11 (fun s k w => s.doEmit n c ecc k w))

/-- COPY (R263). -/
def execNibCopy (n : Fin 32) (c : Fin 64) (ecc : Ecc) (s : State) : Out :=
  .next (s.issueInstr n c 0x12 (fun s k w => s.doCopy n c ecc k w))

/-- ACC (R263). -/
def execAcc (n : Fin 32) (c : Fin 64) (ecc : Ecc) (s : State) : Out :=
  .next (s.issueInstr n c 0x18 (fun s k w => s.doAcc n c ecc k w))

/-- ROUND (R263); `ecc` is the read of the chunk's rows. -/
def execRound (n : Fin 32) (c : Fin 64) (ecc : Ecc) (s : State) : Out :=
  .next (s.issueInstr n c 0x19 (fun s k w => s.doRound n c ecc k w))

/-- PASS (R265). -/
def execPass (n : Fin 32) (c : Fin 64) (s : State) : Out :=
  .next (s.issueInstr n c 0x21 (fun s k w => s.doPass n c k w))

/-- An EMIT whose frames are all admitted, a COPY, an ACC or a ROUND completes (R266). -/
def execAsyncInstrComplete (n : Fin 32) (c : Fin 64) (seq : Nat) (s : State) : Out :=
  match s.ctx n c with
  | none => .next s
  | some k =>
    match k.async.find? (fun a => a.seq = seq) with
    | none => .next s
    | some a =>
      if a.op = .recv || a.op = .pass || (a.op = .emit && a.frames ≠ 0) then .next s
      else
        let s := s.updCtx n c (fun y => { y with async := y.async.filter (fun b => b.seq ≠ seq) })
        .next ((s.endHalt n c).endFault n c)

/-- The semaphore and operand of SWAIT, SADD or SSUB (R268). -/
def State.semOperand (s : State) (k : Ctx) (w : Nat) : Nat × Nat :=
  (recSemBase (s.collRec (s.jobOf k.thread)) + iA w, if bit (iD w) 0 then k.reg (iB w) % 2 ^ 32 else iImm w)

/-- SWAIT (R268). -/
def execSwait (n : Fin 32) (c : Fin 64) (s : State) : Out :=
  .next (s.issueInstr n c 0x28 (fun s k w =>
    let (i, v) := s.semOperand k w
    let s := s.countCp 14
    if v ≤ s.sem i then (s.goNext n c id).sampleEvent n c k.pc 7 0
    else s.updCtx n c (fun y => { y with swait := some { index := i, value := v, issued := s.now, base := (s.nib n).windowTime s.now } })))

/-- A value in Tally's serial order has reached a waiting SWAIT's operand (R268). -/
def execSwaitMet (n : Fin 32) (c : Fin 64) (s : State) : Out :=
  match s.ctx n c with
  | none => .next s
  | some k =>
    match k.swait with
    | none => .next s
    | some x =>
      if !x.met || (s.nib n).window then .next s
      else .next ((s.goNext n c (fun y => { y with swait := none })).sampleEvent n c k.pc 7 ((s.now - x.issued) / 640))

/-- SADD (R268). -/
def execSadd (n : Fin 32) (c : Fin 64) (s : State) : Out :=
  .next (s.issueInstr n c 0x29 (fun s k w =>
    let (i, v) := s.semOperand k w
    match s.semAdd i v with
    | some s' => s'.goNext n c id
    | none => s.progFault n c 38))

/-- SSUB (R268). -/
def execSsub (n : Fin 32) (c : Fin 64) (s : State) : Out :=
  .next (s.issueInstr n c 0x2A (fun s k w =>
    let (i, v) := s.semOperand k w
    match s.semSub i v with
    | some s' => s'.goNext n c id
    | none => s.progFault n c 38))

/-! ### Sampling (R274) -/

/-- The context whose last issue is oldest. -/
def State.oldestWaiting (s : State) (n : Nat) : Option (Nat × Ctx) :=
  minBy (fun x => x.2.issuedNo) ((s.nib n).ctxs.filterMap (fun e => e.2.map (fun k => (e.1, k))))

/-- The record of a trigger (R274): the next instruction issued, `skid` cycles after the trigger, or after 16 cycles the oldest
waiting instruction with WAITING set. -/
def execSkiddingSample (n : Fin 32) (skid : Fin 17) (s : State) : Out :=
  let t := s.folio.skidding.get 0 n
  if t = 0 then .next s
  else
    let done (s : State) : State :=
      (s.modFolio (fun f => { f with skidding := f.skidding.put 0 n 0 })).updNib n (fun x => { x with lastIssue := none })
    match (s.nib n).lastIssue with
    | some r => .next (done (s.storeSample n (r.take 22 ++ leBytes 1 skid ++ r.drop 23)))
    | none =>
      match s.oldestWaiting n with
      | some (c, k) =>
        .next (done (s.storeSample n (sampleRecord s n c k.pc (t % 16) 2 16 (if t % 16 = 1 then k.steps else t / 16))))
      | none => .next (done s)

/-! ### NIB_PROG_CMD (R260) -/

/-- NIB_PROG_CMD written. -/
def progCommand (s : State) (v : Nat) : Except DopStatus State :=
  let cmd := bits v 31 24
  let p := bits v 23 16
  let tag := bits v 15 0
  let x := s.progs
  let ok (s : State) : State := s.modProgs (fun x => { x with lastTag := tag, lastTouch := s.now })
  if cmd = 0 || 5 < cmd || (cmd ≤ 2 && p ≠ 0) then .error .range
  else if x.state = 2 || (x.state = 1 && 3 ≤ cmd) then .error .state
  else if cmd = 1 then
    .ok (ok ((s.modProgs (fun x => { x with state := 1, buffer := [] })).modCodex (fun c =>
      { c with loads := c.loads.put {} 0x2303 { active := true } })))
  else if cmd = 2 then
    if s.stacks = 0 then .error .state
    else .ok (ok (((s.installImage x.buffer).modProgs (fun x => { x with state := 0 })).resumeInstalls))
  else if cmd = 3 then
    if s.programBusy p then .error .state else .ok (ok (s.uninstall p))
  else if cmd = 4 then
    if (s.program p).isNone then .error .state
    else if x.pinned.contains p then .ok (ok s)
    else if 32 < s.pinnedPages + imagePages (x.library.get [] p) then .error .state
    else .ok (ok ((s.modProgs (fun x => { x with pinned := x.pinned ++ [p] })).fetchPinned p))
  else .ok (ok (s.modProgs (fun x => { x with pinned := x.pinned.filter (· ≠ p) })))

/-- A write of NIB_PROG_CMD with a command. -/
def progWrite (s : State) (r : Req) (cmd : Nat) (arg : BitVec 24) : State :=
  serveWrite s r 0x2302 1 (command32 cmd arg.toNat) progCommand

/-- Command 1: begin a load. -/
def execProgBeginLoad (r : Req) (arg : BitVec 24) (s : State) : Out := .next (progWrite s r 1 arg)

/-- Command 2: validate and install. -/
def execProgInstall (r : Req) (arg : BitVec 24) (s : State) : Out := .next (progWrite s r 2 arg)

/-- Command 3: uninstall. -/
def execProgUninstall (r : Req) (arg : BitVec 24) (s : State) : Out := .next (progWrite s r 3 arg)

/-- Command 4: pin. -/
def execProgPin (r : Req) (arg : BitVec 24) (s : State) : Out := .next (progWrite s r 4 arg)

/-- Command 5: unpin. -/
def execProgUnpin (r : Req) (arg : BitVec 24) (s : State) : Out := .next (progWrite s r 5 arg)

/-- A load that nothing has touched for 60 s is abandoned (R260). -/
def execProgLoadAbandon (s : State) : Out :=
  if s.progs.state = 1 && s.progs.lastTouch + 60 * 10 ^ 12 ≤ s.now then
    .next (((s.modProgs (fun x => { x with state := 0, buffer := [] })).modCodex (fun c =>
      { c with loads := c.loads.put {} 0x2303 {} })).resumeInstalls)
  else .next s

end Sys2Proof.Machine
end

