-- ==== Sys2Proof/Machine/RingCmds.lean ====
section
/-!
DEFINITION. Commands of the command rings: issue of descriptors (R351 to R358), one row for each opcode, and the end of what waits at
a ring's head: registrations (R290) and semaphore waits (R296).
-/

namespace Sys2Proof.Machine

/-- A ring fetches and issues its next descriptor (R351). -/
def execDescriptorIssue (g : Fin 4096) (s : State) : Out := .next (s.issueHead g [] anyBody)

/-- A NOP at the head of a ring (R353). -/
def execNop (g : Fin 4096) (s : State) : Out := .next (s.issueHead g [1] anyBody)

/-- An INSTALL_PROGRAM at the head of a ring (R357). -/
def execInstallProgram (g : Fin 4096) (s : State) : Out := .next (s.issueHead g [2] anyBody)

/-- A COPY at the head of a ring (R358). -/
def execCopy (g : Fin 4096) (s : State) : Out := .next (s.issueHead g [3] anyBody)

/-- A REDUCE descriptor at the head of a ring (R281 to R287). -/
def execReduce (g : Fin 4096) (s : State) : Out := .next (s.issueHead g [0x20] anyBody)

/-- A PROGRAM descriptor and its continuation (R281, R351). -/
def execProgram (g : Fin 4096) (s : State) : Out := .next (s.issueHead g [0x21] anyBody)

/-- A COUNTS descriptor (R294). -/
def execCounts (g : Fin 4096) (s : State) : Out := .next (s.issueHead g [0x22] anyBody)

/-- SEM_OP with ACTION 1 (R296). -/
def execSemOpWait (g : Fin 4096) (s : State) : Out := .next (s.issueHead g [0x23] (semAction 1))

/-- SEM_OP with ACTION 2 (R295, R296). -/
def execSemOpAdd (g : Fin 4096) (s : State) : Out := .next (s.issueHead g [0x23] (semAction 2))

/-- SEM_OP with ACTION 3 (R295, R296). -/
def execSemOpSub (g : Fin 4096) (s : State) : Out := .next (s.issueHead g [0x23] (semAction 3))

/-- SEM_SAVE (R297). -/
def execSemSave (g : Fin 4096) (s : State) : Out := .next (s.issueHead g [0x24] anyBody)

/-- SEM_RESTORE (R297). -/
def execSemRestore (g : Fin 4096) (s : State) : Out := .next (s.issueHead g [0x25] anyBody)

/-- A JOB PREPARE descriptor (R445, R446). -/
def execJobPrepare (g : Fin 4096) (s : State) : Out := .next (s.issueHead g [0x40] anyBody)

/-- A JOB TEARDOWN descriptor (R452). -/
def execJobTeardown (g : Fin 4096) (s : State) : Out := .next (s.issueHead g [0x41] anyBody)

/-- A JOB ABORT descriptor (R455). -/
def execJobAbort (g : Fin 4096) (s : State) : Out := .next (s.issueHead g [0x42] anyBody)

/-- The registration that waits at the head of a ring (R290). -/
def State.heldRegister (s : State) (g : Nat) : Option Register := s.coll.registers.find? (fun q => q.range.ring = g)

/-- A registration that waits is made once its reservations fit (R290); a range that now shares a chunk number with a live one is
refused with status 6 (R282). -/
def execRangeRegister (g : Fin 4096) (s : State) : Out :=
  match s.heldRegister g with
  | none => .next s
  | some q =>
    if s.rangeOverlaps q.range then .next (s.rangeRefused q 6)
    else if s.fitsNow q.range then .next (s.rangeIssued q)
    else .next s

/-- A registration has waited longer than TIMEOUT_US (R290). -/
def execRegisterTimeout (g : Fin 4096) (s : State) : Out :=
  match s.heldRegister g with
  | none => .next s
  | some q => .next (if s.now < q.since + recTimeout (s.slot (jobSlot q.range.job)).record.coll * 1000000 then s else s.rangeRefused q 7)

/-- The WAIT in progress on a ring (R296). -/
def State.ringWait (s : State) (g : Nat) : Option SemWait := s.coll.waits.find? (fun w => w.ring = g)

/-- A WAIT ends with a status and its ring moves on (R283, R296). -/
def State.endWait (s : State) (w : SemWait) (status : Nat) : State :=
  ((s.modColl (fun c => { c with waits := c.waits.filter (fun x => x.ring ≠ w.ring) })).updRing w.ring
    (fun r => { r with hold := .none })).completeDesc w.ring w.desc status 0 0

/-- The WAIT's value has been reached at some point of the serial order (R295, R296). -/
def State.waitMet (s : State) (w : SemWait) : Bool := w.met || w.value ≤ s.sem w.index

/-- A WAIT whose semaphore has reached VALUE completes (R296). -/
def execSemWaitMet (g : Fin 4096) (s : State) : Out :=
  match s.ringWait g with
  | none => .next s
  | some w => if s.waitMet w then .next (s.endWait w 0) else .next s

/-- A WAIT reaches WAIT_US: SEM_TIMEOUT (R296). -/
def execSemWaitTimeout (g : Fin 4096) (s : State) : Out :=
  match s.ringWait g with
  | none => .next s
  | some w => if s.waitMet w || s.now < w.since + w.limit * 1000000 then .next s else .next (s.endWait w 12)

end Sys2Proof.Machine
end

