-- ==== Sys2Proof/Machine/MemCmds.lean ====
section
/-!
DEFINITION. Commands of Ligature (R303 to R322) and of the memories (R323 to R342): requests and homes' answers, pool accesses, the zero
fill, patrols, Quill's own accesses and the pool's size.
-/

namespace Sys2Proof.Machine

/-- Take the frame at the head of Ligature's intake when its TYPE is `typ`. -/
def State.takeLig (s : State) (typ : Nat) (g : State → Stored → Nat → State) : State :=
  match s.core.intake.get [] 160 with
  | [] => s
  | f :: rest =>
    match vftOffset f.bytes with
    | none => s
    | some o =>
      if vftType f.bytes o = typ then
        g (s.modCore (fun c => { c with intake := c.intake.put [] 160 rest })) f o
      else s

/-- A MEM_READ reaches Ligature (R308, R312). -/
def execMemRead (s : State) : Out := .next (s.takeLig 0x10 State.ligRequest)

/-- A MEM_WRITE reaches Ligature (R308, R314). -/
def execMemWrite (s : State) : Out := .next (s.takeLig 0x11 State.ligRequest)

/-- A MEM_ATOMIC reaches Ligature (R305, R308, R313). -/
def execMemAtomic (s : State) : Out := .next (s.takeLig 0x12 State.ligRequest)

/-- A home's MEM_RESPONSE (R319). -/
def execMemResponse (s : State) : Out := .next (s.takeLig 0x13 State.homeResponse)

/-- A home's MEM_RETRY_AFTER (R320). -/
def execMemRetryAfter (s : State) : Out := .next (s.takeLig 0x14 State.homeRetry)

/-- WAIT_NS of an access has passed: it is sent again with the same REQ_ID (R320). -/
def execHomeRetryResend (id : Fin 65536) (s : State) : Out :=
  match s.lig.partOf id with
  | none => .next s
  | some (a, p) =>
    match p.retryAt with
    | none => .next s
    | some t =>
      if s.now < t then .next s
      else
        let s := s.updAcc a.no (fun x =>
          { x with parts := x.parts.map (fun q => if q.id = p.id then { q with retryAt := none } else q) })
        .next (s.sendPart a p)

/-- HOME_TIMEOUT_US has passed since an access was first sent (R320): its requests are answered and the line proceeds. -/
def execHomeTimeout (id : Fin 65536) (s : State) : Out :=
  match s.lig.partOf id with
  | none => .next s
  | some (a, p) => if s.now < a.dueAt p then .next s else .next (((s.dropAcc a.no).answerAll (a.members.map (fun r => (r, []))) 7).ligRun)

/-- A held request whose Inkwell record or data met an uncorrected error leaves every access (R329): without its record it is
discarded and counted, with its data lost it is answered status 8. -/
def State.loseRequest (s : State) (no : Nat) (record : Bool) : State :=
  let hit := (s.lig.accs.flatMap (·.members)).find? (fun r => r.no = no)
  let s := s.modLig (fun l => { l with accs := l.accs.filterMap (fun a =>
    let m := a.members.filter (fun r => r.no ≠ no)
    if m = [] then none else some { a with members := m }) })
  match hit with
  | none => s
  | some r =>
    if record then
      let s := s.countMisc .other 1
      match r.copy with
      | some (c, line) => s.copyLine c line 8 []
      | none => s
    else s.answer r 8 []

/-- A protected line of a held request is read (R329): `record` or data. -/
def State.requestEcc (s : State) (no : Nat) (record : Bool) (e : Ecc) : State :=
  let s := s.inkEcc e (if record then .ligRecord no else .ligData no) 0
  if e = .uncorrected then (s.loseRequest no record).ligRun else s

/-- A pool access reads LPDDR6. -/
def LigAccess.readsPool (a : LigAccess) : Bool := a.kind = .read || a.kind = .batch || a.kind = .cas

/-- An issued pool access is performed (R316). Before the zero fill has passed its address it waits (R335). `inks` names requests whose
record (`true`) or data meet an error in Inkwell (R329), `ecc` what the read of LPDDR6 meets (R334). -/
def execPoolAccessDone (no : Nat) (inks : List (Nat × Bool × Ecc)) (ecc : Ecc) (s : State) : Out :=
  match s.lig.accs.find? (fun a => a.no = no && a.issued && a.home.isNone) with
  | none => .next s
  | some a =>
    if !(s.mem.fillPassed a.addr a.bytes) then
      .next (if a.waited then s else s.fillWait.updAcc no (fun x => { x with waited := true }))
    else
      let s := s.forEach inks (fun s x => s.requestEcc x.1 x.2.1 x.2.2)
      match s.lig.accs.find? (fun a => a.no = no) with
      | none => .next s
      | some a =>
        let s := if a.readsPool && ecc = .corrected then s.lpdCorrected a.addr else s
        .next (s.performPool a (ecc = .uncorrected))

/-- The zero fill of LPDDR6 ends (R335). -/
def execZeroFillDone (s : State) : Out :=
  if s.boot.done.getLsbD 5 && !s.mem.zeroDone then .next (s.modMem (fun m => { m with zeroDone := true })).quillWaited
  else .next s

/-! ### Patrols (R329, R336) -/

/-- What an uncorrected error of an Inkwell line costs, by its region (R329). -/
def State.inkLost (s : State) (x : InkItem) : State :=
  match x with
  | .activeBank => if s.ductus.active = [] then s else (s.modDuctus (fun d => { d with active := [] })).deactivate
  | .shadowBank => s.modDuctus (fun d => { d with shadow := [], shadowValid := false, armed := false, check := none })
  | .prefixEntry i =>
    (match s.tables.prefixes[i]? with
     | none => s
     | some p => match s.deletePrefix p.v6 p.len p.addr with
       | .ok s' => s'
       | .error _ => s)
  | .program n => (s.uninstall n).failWaiting n
  | .thread range ordinal => s.failChunk (range * 2 ^ 22 + ordinal) 5 0
  | .spill range ordinal =>
    let th := range * 2 ^ 22 + ordinal
    let n := s.nibOfThread th
    ((s.countNib n 16 1).nibFlag n 1).failChunk th 5 0
  | .ligRecord no => (s.loseRequest no true).ligRun
  | .ligData no => (s.loseRequest no false).ligRun
  | .replay p => if (s.link p).replay = [] then s else linkDown s p .training
  | .creditFrame i =>
    (match (s.core.offers.filter (·.waited))[i]? with
     | some o => (s.dropOffer o).admitted o.origin
     | none => s)
  | .empty => s

/-- A patrol reads a line (R336). -/
def execPatrolRead (x : PatrolLine) (ecc : Ecc) (s : State) : Out :=
  match x with
  | .lpddr line =>
    let a := 64 * line
    if !(a < 2 ^ 39) || !(s.lpdPresent a 64) || !(s.boot.done.getLsbD 5) then .next s
    else
      let s := s.countLpd a 5 1
      let e := if s.mem.poisoned.get false line then .uncorrected else ecc
      match e with
      | .good => .next s
      | .corrected => .next (s.lpdCorrected a)
      | .uncorrected =>
        .next (((s.lpdUncorrected a).countMem 23 1).modMem (fun m => { m with poisoned := m.poisoned.put false line true })
          |>.setFlag 0x6601 6)
  | .inkwell a item =>
    let r := s.itemRange item (match item with | .spill range ordinal => s.nibOfThread (threadNo range ordinal) | _ => 0)
    if s.mem.ink = 0 || a < r.1 || r.1 + r.2 ≤ a then .next s
    else
      let s := s.inkEccAt a ecc
      if ecc = .uncorrected then .next (((s.countMem 23 1).setFlag 0x6601 6).inkLost item) else .next s

/-! ### Quill's accesses (R324, R332 to R335) -/

/-- A core of a partition accesses an address. Its L3 holds lines in its partition's ways (`State.l3Share`). -/
def execQuillMemoryAccess (p1 : Bool) (addr : Nat) (store : List Byte) (l3 : Ecc) (dirty : Bool) (ecc : Ecc) (s : State) : Out :=
  let x : QuillAccess := { p1 := p1, addr := addr, store := store, l3 := l3, dirty := dirty, ecc := ecc }
  let r := s.quillRegion p1
  if !(s.boot.done.getLsbD 7) || addr < r.1 || r.1 + r.2 < addr + x.bytes || !(s.lpdPresent addr x.bytes) then .next s
  else if !(s.mem.fillPassed addr x.bytes) then .next (s.fillWait.modMem (fun m => { m with quillWait := m.quillWait ++ [x] }))
  else .next (s.quillAccess x)

/-! ### The pool's size (R339) -/

/-- A configured parameter that takes effect at the next cold start: checked against its range and stored at once as a new module
configuration record (R55, R339, R346). -/
def configWrite (idx sub : Nat) (s : State) (v : Nat) : Except DopStatus State :=
  match objRow idx sub with
  | none => .error .noObject
  | some r =>
    if v < r.lo || r.hi < v then .error .range
    else match s.storeConfig idx sub v with
      | some s' => .ok (s'.setParam idx sub v)
      | none => .error .range

/-- POOL_SIZE_GIB is written (R339). -/
def execPoolSizeWrite (r : Req) (value : BitVec 32) (s : State) : Out :=
  .next (serveWrite s r 0x2380 1 value.toNat (configWrite 0x2380 1))

end Sys2Proof.Machine
end

