-- ==== Sys2Proof/Machine/TimeOps.lean ====
section
/-!
DEFINITION. The Timekeeper (R365 to R370): the counter, the servo in exact arithmetic, the choice of source, and the PTP messages of
IEEE 1588-2019 (log entry 36).
-/

namespace Sys2Proof.Machine

/-! ### Exact numbers -/

/-- Bring a dyadic number to a finer step. -/
def Dyadic.at_ (x : Dyadic) (k : Nat) : Int := x.m * 2 ^ (k - x.k)

/-- Sum, difference and shift of dyadic numbers. -/
def Dyadic.add (x y : Dyadic) : Dyadic := let k := max x.k y.k; ⟨x.at_ k + y.at_ k, k⟩
def Dyadic.sub (x y : Dyadic) : Dyadic := let k := max x.k y.k; ⟨x.at_ k - y.at_ k, k⟩
def Dyadic.shr (x : Dyadic) (n : Nat) : Dyadic := ⟨x.m, x.k + n⟩

/-- Magnitude, rounded up and down to a whole number. -/
def Dyadic.absUp (x : Dyadic) : Nat := ceilDiv x.m.natAbs (2 ^ x.k)
def Dyadic.absDown (x : Dyadic) : Nat := x.m.natAbs / 2 ^ x.k

/-- A quotient on a grid of whole numbers. Which way an inexact one is rounded is not stated and is a free value (log entry 2). -/
def State.roundFree (s : State) (num : Int) (den : Nat) : Int × State :=
  let q := num / (den : Int)
  if q * den = num then (q, s)
  else
    let (b, s) := s.freeBelow 2
    (q + b, s)

/-! ### The counter (R365) -/

/-- Network time in 2^−32 ns. -/
def State.timeUnits (s : State) : Int := ((s.time.sec * 1000000000 + s.time.ns) * 2 ^ 32 + s.time.frac : Nat)

/-- Set network time. -/
def State.setTimeUnits (s : State) (u : Int) : State :=
  let n := u.toNat
  s.modTime (fun t => { t with sec := n / 2 ^ 32 / 1000000000, ns := n / 2 ^ 32 % 1000000000, frac := n % 2 ^ 32 })

/-- The Timekeeper runs: from cold step 5 on (R365). -/
def State.timeRuns (s : State) : Bool :=
  match s.boot.phase with
  | .off => false
  | .rails => false
  | .cold n => 5 ≤ n
  | .warm _ => true

/-- One TIME_CLK tick of 1.25 ns (R365). -/
def State.timeTick (s : State) : State := if s.timeRuns then s.setTimeUnits (s.timeUnits + s.time.inc) else s

/-- Nominal INC. -/
def nominalInc : Nat := 0x0000000140000000

/-- INC held within ±MAX_SLEW_PPB of nominal (R365). -/
def State.clampInc (s : State) (v : Int) : Nat :=
  let d := nominalInc * s.param 0x2440 8 / 1000000000
  (min (max v ((nominalInc - d : Nat) : Int)) ((nominalInc + d : Nat) : Int)).toNat

/-! ### The servo (R366, R367) -/

/-- Set or clear TIME; Chop adopts the time when it is first set (R435). -/
def State.timeLocked (s : State) (v : Bool) : State :=
  if v then (s.markDone 10 true).chopAdopt else (s.markDone 10 false).setFlag 0x6641 0

/-- Uncertainty of the source path in quarters of a ns (R369): a margin channel, or PPS_IN. -/
def pathUncertainty (source : Nat) : Dyadic := if source = 64 then ⟨2, 2⟩ else ⟨1, 2⟩

/-- The estimate of R367 in TRACK. -/
def State.setEstimate (s : State) : State :=
  let a : Dyadic := ⟨s.time.e.m.natAbs, s.time.e.k⟩
  let x := a.add (pathUncertainty s.time.source)
  let up := min 0xFFFFF x.absUp
  let down := min 0xFFFFF x.absDown
  if up = down then s.modTime (fun t => { t with err := up, errShown := up })
  else
    let (b, s) := s.freeBelow 2
    s.modTime (fun t => { t with err := up, errShown := down + b })

/-- One update in TRACK (R366) for an offset sample in 2^−33 ns; 64 updates in a row at or below LOCK_NS set TIME. -/
def State.trackSample (s : State) (o : Int) : State :=
  let x : Dyadic := ⟨o, 33⟩
  let e := s.time.e.add ((x.sub s.time.e).shr 4)
  let acc := s.time.acc.add e
  let c := (e.shr 2).add (acc.shr 8)
  let (v, s) := s.roundFree ((nominalInc : Int) * (1000000000 * 2 ^ c.k - c.m)) (1000000000 * 2 ^ c.k)
  let s := s.modTime (fun t => { t with e := e, acc := acc, inc := s.clampInc v, lastSample := s.now })
  let s := (s.setEstimate.hist 6 none none none e.absDown)
  let n := if s.time.err ≤ s.param 0x2440 5 then s.time.lockCount + 1 else 0
  let s := s.modTime (fun t => { t with lockCount := n })
  if n = 64 && !s.timeSet then s.timeLocked true else s

/-- The end of ACQUIRE (R366): unless the start is warm INC is set from the least-squares slope of the 32 samples, then one step
removes the mean offset. Samples that fall on one instant have no slope, and it is then a free value. -/
def State.acquired (s : State) (l : List (Int × Int)) : State :=
  let n : Int := l.length
  let st := (l.map (·.1)).foldl (· + ·) 0
  let so := (l.map (·.2)).foldl (· + ·) 0
  let s :=
    if s.time.keepInc then s
    else
      let den := (l.map (fun p => (n * p.1 - st) * (n * p.1 - st))).foldl (· + ·) 0
      let num := (l.map (fun p => (n * p.1 - st) * (n * p.2 - so))).foldl (· + ·) 0
      if den = 0 then
        let (v, s) := s.free64
        s.modTime (fun t => { t with inc := s.clampInc v })
      else
        let (v, s) := s.roundFree ((s.time.inc : Int) * (2 * den - num)) (2 * den.natAbs)
        s.modTime (fun t => { t with inc := s.clampInc v })
  let (m, s) := s.roundFree so (2 * l.length)
  ((s.setTimeUnits (s.timeUnits - m)).modTime (fun t => { t with servo := .track, samples := [], lockCount := 0 })).countUnit 0x11 0 3

/-- An accepted offset sample drives the servo (R366). -/
def State.offsetSample (s : State) (o : Int) : State :=
  let s := s.countUnit 0x11 0 1
  match s.time.servo with
  | .acquire =>
    let l := s.time.samples ++ [(s.timeUnits, o)]
    let s := s.modTime (fun t => { t with samples := l, lastSample := s.now })
    if l.length = 32 then s.acquired l else s
  | .track => s.trackSample o
  | _ => s

/-- A usable source stands: FREE, and HOLDOVER with TIME clear, acquire; HOLDOVER with TIME set tracks on, with no step (R366). -/
def State.servoStart (s : State) : State :=
  match s.time.servo with
  | .free => s.modTime (fun t => { t with servo := .acquire, samples := [] })
  | .holdover =>
    if s.timeSet then s.modTime (fun t => { t with servo := .track, lockCount := 0 })
    else s.modTime (fun t => { t with servo := .acquire, samples := [] })
  | _ => s

/-! ### Sources (R368) -/

/-- A PTP port. -/
def State.ptp (s : State) (f : Nat) : PtpPort := s.time.ports.get {} f

/-- Change a PTP port. -/
def State.updPtp (s : State) (f : Nat) (g : PtpPort → PtpPort) : State :=
  s.modTime (fun t => { t with ports := t.ports.upd {} f g })

/-- The EUI-64 form of MODULE_MAC. -/
def State.clockIdentity (s : State) : Nat :=
  let m := s.moduleMac
  m / 2 ^ 24 * 2 ^ 40 + 0xFFFE * 2 ^ 24 + m % 2 ^ 24

/-- The order of the default best master clock algorithm: smaller is better. -/
def Announce.rank (a : Announce) : List Nat :=
  [a.priority1, a.clockClass, a.accuracy, a.variance, a.priority2, a.identity, a.steps, a.sender, a.senderPort]

/-- Lexicographic order. -/
def listLess : List Nat → List Nat → Bool
  | [], [] => false
  | [], _ => true
  | _, [] => false
  | a :: r, b :: q => a < b || (a = b && listLess r q)

/-- A dataset of the module's own, with a clockClass. -/
def State.ownDataset (s : State) (cls : Nat) : Announce :=
  { priority1 := s.param 0x2440 3, clockClass := cls, accuracy := Config.ptpAccuracy.val, variance := Config.ptpVariance.val
    priority2 := s.param 0x2440 4, identity := s.clockIdentity, steps := 0, sender := s.clockIdentity, senderPort := 0
    utc := s.time.utcOffset, flags := 0, timeSource := 0 }

/-- A foreign master is qualified after two Announce messages, and less than 255 hops away (IEEE 1588-2019). -/
def PtpPort.qualified (p : PtpPort) : Option Announce :=
  match p.master with
  | some a => if 2 ≤ p.announces && a.steps < 255 then some a else none
  | none => none

/-- The fibre whose master is best of those whose margin channel is UP. -/
def State.bestPort (s : State) : Option (Nat × Announce) :=
  ((List.range 64).filterMap (fun f =>
    if (s.fibre f).marginState = .up then (s.ptp f).qualified.map (fun a => (f, a)) else none)).foldl
    (fun b x => match b with
      | none => some x
      | some y => if listLess x.2.rank y.2.rank then some x else b) none

/-- The source that TIME_SRC and the algorithm select now: a fibre, 64 for the 1PPS input, 255 for none. -/
def State.wantedSource (s : State) : Nat :=
  let src := s.time.src
  if 1 ≤ src && s.time.ppsUsable then 64
  else if src = 1 then 255
  else match s.bestPort with
    | some (f, a) => if listLess a.rank (s.ownDataset 248).rank then f else 255
    | none => 255

/-- Select the source again: a change sets SOURCE_CHANGE; the offsets of the old one are dropped. A source that is lost leaves the
servo to SOURCE_UNUSABLE. -/
def State.reselect (s : State) : State :=
  let w := s.wantedSource
  if w = s.time.source then s
  else
    let s := (s.modTime (fun t => { t with source := w, offsets := [] })).setFlag 0x6641 3
    if w = 255 then s else s.servoStart

/-- The dataset of the grandmaster in force and the clockClass advertised (R368). -/
def State.advertised (s : State) : Announce :=
  if !s.timeSet then s.ownDataset 248
  else if s.time.servo = .holdover then s.ownDataset 7
  else if s.time.source = 64 then s.ownDataset (if s.time.ppsStatus = 0 then 6 else if s.time.ppsStatus = 1 then 7 else 248)
  else match (s.ptp s.time.source).master with
    | some a => { a with steps := a.steps + 1 }
    | none => s.ownDataset 248

/-- A fibre's PTP port is a master: it is active, not the slave port, and no better master stands on it. -/
def State.ptpMaster (s : State) (f : Nat) : Bool :=
  (s.fibre f).marginState = .up && s.time.source ≠ f &&
  (s.time.source = 64 || (match (s.ptp f).qualified with
    | some a => listLess s.advertised.rank a.rank
    | none => true))

/-! ### Messages -/

/-- Fields of a PTP header. -/
def ptpType (b : List Byte) : Nat := byteAt b 0 % 16
def ptpCorrection (b : List Byte) : Int :=
  let v := beAt b 8 8
  if v < 2 ^ 63 then (v : Int) else (v : Int) - 2 ^ 64
def ptpIdentity (b : List Byte) : Nat := beAt b 20 8
def ptpPortNo (b : List Byte) : Nat := beAt b 28 2
def ptpSeq (b : List Byte) : Nat := beAt b 30 2

/-- A timestamp at an offset, in 2^−32 ns. -/
def ptpStamp (b : List Byte) (o : Nat) : Int := ((beAt b o 6 * 1000000000 + beAt b (o + 6) 4) * 2 ^ 32 : Nat)

/-- LENGTH of each message type (R368). -/
def ptpLength : Nat → Option Nat
  | 0 => some 44 | 1 => some 44 | 9 => some 54 | 11 => some 64 | _ => none

/-- A message lies within the limits of R368: type and length, versions, majorSdoId, DOMAIN, one-step, nanoseconds below 10^9. -/
def State.ptpOk (s : State) (b : List Byte) : Bool :=
  ptpLength (ptpType b) = some b.length && byteAt b 0 / 16 = 0 && byteAt b 1 = 0x12 && beAt b 2 2 = b.length &&
  byteAt b 4 = s.param 0x2440 2 && !(bit (byteAt b 6) 1) && beAt b 40 4 < 1000000000

/-- A message outside the limits is discarded and counted (R368). -/
def State.ptpBad (s : State) : State := (s.countUnit 0x11 0 8).setFlag 0x6641 7

/-- A PTP header. -/
def State.ptpHeader (s : State) (f typ len seq : Nat) (corr : Int) (flags : Nat) (interval : Int) : List Byte :=
  beBytes 1 typ ++ [0x12#8] ++ beBytes 2 len ++ beBytes 1 (s.param 0x2440 2) ++ zeros 1 ++ beBytes 2 flags ++
  beBytes 8 (corr % 2 ^ 64).toNat ++ zeros 4 ++ beBytes 8 s.clockIdentity ++ beBytes 2 (f + 1) ++ beBytes 2 seq ++
  beBytes 1 (Config.ptpControl typ).val ++ beBytes 1 (interval % 256).toNat

/-- A timestamp of the present instant, and its part below a ns in 2^−16 ns. -/
def State.stampNow (s : State) : List Byte × Nat := (beBytes 6 s.time.sec ++ beBytes 4 s.time.ns, s.time.frac / 65536)

/-- delayAsymmetry of a fibre in 2^−32 ns (R384). How ps are carried to the Timekeeper's grid is not stated: an inexact value goes one
way or the other by a free bit of its own (log entry 2). -/
def State.asymmetry (s : State) (f : Nat) : Int :=
  let v := s.param 0x2441 (1 + f)
  let n := (if v < 2 ^ 31 then (v : Int) else (v : Int) - 2 ^ 32) * 2 ^ 32
  n / 1000 + (if n % 1000 = 0 then 0 else (Config.asymmetryBit v).val)

/-- A Sync from the master of the slave port gives an offset sample (R368): local time less master time, less path delay and
asymmetry. -/
def State.onSync (s : State) (f : Nat) (b : List Byte) : State :=
  match (s.ptp f).master with
  | none => s
  | some a =>
    if s.time.source ≠ f || a.sender ≠ ptpIdentity b || a.senderPort ≠ ptpPortNo b then s
    else
      let d := s.timeUnits - ptpStamp b 34 - ptpCorrection b * 65536 - s.asymmetry f
      let s := s.updPtp f (fun p => { p with syncDiff := some d })
      s.modTime (fun t => { t with offsets := t.offsets ++ [2 * d - (s.ptp f).pathSum] })

/-- A Delay_Req on a master port is answered (R368). -/
def State.onDelayReq (s : State) (f : Nat) (b : List Byte) : State :=
  if !s.ptpMaster f then s
  else
    let (st, sub) := s.stampNow
    let h := s.ptpHeader f 9 54 (ptpSeq b) (ptpCorrection b - sub) 0 (-6)
    sendPlain s f 0x11 (h ++ st ++ slice b 20 10)

/-- A Delay_Resp for the Delay_Req in flight completes a measurement of the path delay (R368): twice its mean. -/
def State.onDelayResp (s : State) (f : Nat) (b : List Byte) : State :=
  let p := s.ptp f
  match p.delayT3, p.syncDiff with
  | some t3, some d =>
    if s.time.source ≠ f || beAt b 44 8 ≠ s.clockIdentity || beAt b 52 2 ≠ f + 1 || ptpSeq b ≠ (p.delaySeq + 65535) % 65536 then s
    else
      let up := ptpStamp b 34 - ptpCorrection b * 65536 - t3 + s.asymmetry f
      s.updPtp f (fun p => { p with pathSum := d + up, delayT3 := none })
  | _, _ => s

/-- The dataset of an Announce. -/
def announceOf (b : List Byte) : Announce :=
  { priority1 := byteAt b 47, clockClass := byteAt b 48, accuracy := byteAt b 49, variance := beAt b 50 2, priority2 := byteAt b 52
    identity := beAt b 53 8, steps := beAt b 61 2, sender := ptpIdentity b, senderPort := ptpPortNo b, utc := beAt b 44 2
    flags := beAt b 6 2, timeSource := byteAt b 63 }

/-- An Announce enters the selection (R368); the module's own are ignored. -/
def State.onAnnounce (s : State) (f : Nat) (b : List Byte) : State :=
  let s := s.countUnit 0x11 0 2
  if ptpIdentity b = s.clockIdentity then s
  else
    let a := announceOf b
    (s.updPtp f (fun p =>
      { p with
        master := some a
        announces := match p.master with
          | some m => if m.sender = a.sender && m.senderPort = a.senderPort then p.announces + 1 else 1
          | none => 1 })).reselect

/-- LENGTH of a TIME frame is that of its message (R147, R368). -/
def timeLengthOk (b : List Byte) : Bool :=
  match ptpLength (ptpType b) with
  | some n => b.length = n
  | none => b.length = 44 || b.length = 54 || b.length = 64

/-- A margin frame that R147 discards is counted, and MARGIN_BAD_TYPE is set. -/
def State.badType (s : State) (f : Nat) : State := (s.countFibre f 4).setFlag (0x6440 + f) 1

/-- A TIME margin frame (R147, R368). -/
def onTime (s : State) (f : Nat) (b : List Byte) : State :=
  if !(timeLengthOk b) then s.ptpBad.badType f
  else if !s.ptpOk b then s.ptpBad
  else match ptpType b with
    | 0 => s.onSync f b
    | 1 => s.onDelayReq f b
    | 9 => s.onDelayResp f b
    | _ => s.onAnnounce f b

/-- A fibre whose margin channel has left UP has no active PTP port (R368). -/
def State.dropPtp (s : State) (f : Nat) : State :=
  (s.updPtp f (fun p => { p with master := none, announces := 0, syncDiff := none, delayT3 := none })).reselect

end Sys2Proof.Machine
end

