-- ==== Sys2Proof/Machine/TimeCmds.lean ====
section
/-!
DEFINITION. Events of the Timekeeper (R366 to R372): samples, losses, the messages that PTP ports send, the 1PPS and time-of-day lands,
and software triggers (R385). PTP messages are received as TIME margin frames.
-/

namespace Sys2Proof.Machine

/-- The oldest offset sample of the selected source is taken by the servo (R366). -/
def execOffsetSample (s : State) : Out :=
  match s.time.offsets with
  | [] => .next s
  | o :: rest => .next ((s.modTime (fun t => { t with offsets := rest })).offsetSample o).reviewSettled

/-- The estimate has been above LOSS_NS for 1 s in TRACK (R366): the servo acquires again, and TIME, where it was set, is lost. -/
def execEstimateLoss (s : State) : Out :=
  if s.time.servo = .track && s.param 0x2440 6 < s.timeErr then
    let s := if s.timeSet then ((s.timeLocked false).setFlag 0x6641 1).countUnit 0x11 0 4 else s
    .next (s.modTime (fun t => { t with servo := .acquire, samples := [], lockCount := 0 })).reviewSettled
  else .next s

/-- No source is usable: HOLDOVER (R366); HOLDOVER_S 0 clears TIME at once (R384). -/
def execSourceUnusable (s : State) : Out :=
  let s := s.reselect
  if s.time.source = 255 && (s.time.servo = .track || s.time.servo = .acquire) then
    let s := (s.modTime (fun t => { t with servo := .holdover, samples := [], lockCount := 0 })).setFlag 0x6641 2
    .next (if s.timeSet && s.param 0x2440 7 = 0 then s.timeLocked false else s).reviewSettled
  else .next s

/-- Holdover has lasted longer than HOLDOVER_S (R366). -/
def execHoldoverExpiry (s : State) : Out :=
  if s.time.servo = .holdover && s.timeSet then .next (s.timeLocked false).reviewSettled else .next s

/-- Three Announce intervals have passed on a port without an Announce (R368). -/
def execAnnounceReceiptTimeout (f : Fin 64) (s : State) : Out :=
  if (s.ptp f).master.isNone then .next s
  else .next (s.updPtp f (fun p => { p with master := none, announces := 0, syncDiff := none, delayT3 := none })).reselect

/-- A master port sends Sync (R368), with its transmit time. -/
def execPtpSyncSend (f : Fin 64) (s : State) : Out :=
  if !(s.timeRuns && s.ptpMaster f) then .next s
  else
    let (st, sub) := s.stampNow
    let h := s.ptpHeader f 0 44 (s.ptp f).txSync sub 0 (-10)
    .next (sendPlain (s.updPtp f (fun p => { p with txSync := (p.txSync + 1) % 65536 })) f 0x11 (h ++ st))

/-- Time properties that an Announce carries: the grandmaster's, or the module's own, whose flags and timeSource are not stated and
are free values (log entry 36). -/
def State.announceProps (s : State) : (Nat × Nat) × State :=
  match (if s.timeSet && s.time.servo ≠ .holdover && s.time.source < 64 then (s.ptp s.time.source).master else none) with
  | some a => ((a.flags, a.timeSource), s)
  | none =>
    let (fl, s) := s.freeBelow 64
    let (ts, s) := s.freeBelow 256
    ((fl, ts), s)

/-- A master port sends Announce (R368). originTimestamp is a free value: IEEE 1588 asks for 0 or an estimate. -/
def execPtpAnnounceSend (f : Fin 64) (s : State) : Out :=
  if !(s.timeRuns && s.ptpMaster f) then .next s
  else
    let a := s.advertised
    let ((fl, ts), s) := s.announceProps
    let (z, s) := s.freeBelow 2
    let st := if z = 0 then zeros 10 else s.stampNow.1
    let h := s.ptpHeader f 11 64 (s.ptp f).txAnnounce 0 fl (-3)
    let body := st ++ beBytes 2 a.utc ++ zeros 1 ++ beBytes 1 a.priority1 ++ beBytes 1 a.clockClass ++ beBytes 1 a.accuracy ++
      beBytes 2 a.variance ++ beBytes 1 a.priority2 ++ beBytes 8 a.identity ++ beBytes 2 a.steps ++ beBytes 1 ts
    .next (sendPlain (s.updPtp f (fun p => { p with txAnnounce := (p.txAnnounce + 1) % 65536 })) f 0x11 (h ++ body))

/-- A slave port sends Delay_Req (R368), and keeps its transmit time. originTimestamp is a free value, as above. -/
def execPtpDelayReqSend (f : Fin 64) (s : State) : Out :=
  if s.time.source ≠ f.val || (s.fibre f).marginState ≠ .up then .next s
  else
    let (z, s) := s.freeBelow 2
    let st := if z = 0 then zeros 10 else s.stampNow.1
    let h := s.ptpHeader f 1 44 (s.ptp f).delaySeq 0 0 (-6)
    let t := s.timeUnits
    .next (sendPlain (s.updPtp f (fun p => { p with delaySeq := (p.delaySeq + 1) % 65536, delayT3 := some t })) f 0x11 (h ++ st))

/-! ### 1PPS and time of day (R39, R370, R371) -/

/-- The 1PPS source loses its standing. -/
def State.ppsLost (s : State) : State := (s.modTime (fun t => { t with ppsEdges := 0, ppsUsable := false })).reselect

/-- A PPS_IN edge is discarded: the source stops being usable (R370). -/
def State.ppsDiscard (s : State) : State :=
  ((s.countUnit 0x11 0 6).setFlag 0x6641 4).modTime (fun t => { t with ppsTod := none }) |>.ppsLost

/-- A ToD message is discarded (R370). -/
def State.todBad (s : State) : State := (s.countUnit 0x11 0 7).setFlag 0x6641 5

/-- An accepted edge (R370). -/
def State.ppsAccept (s : State) (sec status utc : Nat) : State :=
  let t0 := s.timeUnits
  let s := (s.countUnit 0x11 0 5).modTime (fun t =>
    { t with ppsEdges := min 3 (t.ppsEdges + 1), ppsLast := some (sec, s.now), ppsTod := none, ppsStatus := status, utcOffset := utc
             ppsUsable := 3 ≤ t.ppsEdges + 1 })
  let s := s.reselect
  if s.time.source = 64 then
    let o := 2 * (t0 - (s.param 0x2440 9 * 2 ^ 32 : Nat) - (sec * 1000000000 * 2 ^ 32 : Nat))
    s.modTime (fun t => { t with offsets := t.offsets ++ [o] })
  else s

/-- A PPS_IN pulse of a width in ns (R39, R370). The message that names its edge must have ended 10 ms to 990 ms before it. -/
def execPpsInEdge (width : Nat) (s : State) : Out :=
  if !s.timeRuns then .next s
  else if width < 100 || 500000000 < width then .next (s.countMisc .ppsWidth 1).ppsDiscard
  else match s.time.ppsTod with
    | none => .next s.ppsDiscard
    | some (sec, status, utc, at_) =>
      let d := s.now - at_
      let clash : Bool := match s.time.ppsLast with
        | some (last, t) => s.now ≤ t + 11 * 10 ^ 11 && sec ≠ last + 1
        | none => false
      if d < 10 ^ 10 || 99 * 10 ^ 10 < d then .next s.todBad.ppsDiscard
      else if clash then .next ((s.setFlag 0x6641 6).ppsDiscard)
      else .next (s.ppsAccept sec status utc)

/-- CHECK of a ToD message: CRC-16 of R180. -/
def todCheck (b : List Byte) : Nat := crcMsb 16 0x1021#16 0xFFFF#16 b

/-- A time-of-day message ends on TOD_IN (R370). -/
def execTodInMessage (bytes : List Byte) (s : State) : Out :=
  if !s.timeRuns then .next s
  else if bytes.length ≠ 20 || beAt bytes 0 2 ≠ 0x5654 || byteAt bytes 2 ≠ 1 || 3 ≤ byteAt bytes 3 || beAt bytes 14 4 ≠ 0 ||
      beAt bytes 18 2 ≠ todCheck (bytes.take 18) then .next s.todBad
  else
    .next (s.modTime (fun t =>
      { t with ppsTod := some (beAt bytes 4 8, byteAt bytes 3, beAt bytes 12 2, s.now) }))

/-- An edge has been missing for 1.1 s (R370). -/
def execPpsMissing (s : State) : Out := if s.time.ppsUsable || 0 < s.time.ppsEdges then .next s.ppsLost else .next s

/-- How far network time, advanced by PPS_OUT_ADV_NS, lies past a whole second, in 2^−32 ns (R371). -/
def State.ppsPhase (s : State) : Nat := ((s.time.ns + s.param 0x2440 10) % 1000000000) * 2 ^ 32 + s.time.frac

/-- PPS_OUT rises PPS_OUT_ADV_NS before a whole second while TIME is set (R371): in the period of TIME_CLK that holds the instant. -/
def execPpsOutEdge (s : State) : Out :=
  if s.timeSet && s.ppsPhase < s.time.inc then .next (s.modTime (fun t => { t with ppsOutAt := some s.now })) else .next s

/-- The level of PPS_OUT (R371): high for PPS_OUT_WIDTH_US from its edge, while TIME is set. -/
def State.ppsOut (s : State) : Bool :=
  s.timeSet && (match s.time.ppsOutAt with
    | some t => s.now < t + s.param 0x2440 11 * 10 ^ 6
    | none => false)

/-- A ToD message ends 490 ms to 510 ms before the PPS_OUT edge that it names (R370, R371). -/
def execTodOutSend (s : State) : Out :=
  if !s.timeSet || s.ppsPhase < 490000000 * 2 ^ 32 || 510000000 * 2 ^ 32 < s.ppsPhase then .next s
  else
    let cls := s.advertised.clockClass
    let st := if cls = 6 then 0 else if cls = 7 then 1 else 2
    let next := (addNs (s.time.sec, s.time.ns) (s.param 0x2440 10)).1 + 1
    let b := beBytes 2 0x5654 ++ [1#8] ++ beBytes 1 st ++ beBytes 8 next ++ beBytes 2 s.time.utcOffset ++ zeros 4
    .next (s.emit (.tod (b ++ beBytes 2 (todCheck b))))

/-! ### Software triggers (R372, R385) -/

/-- A software trigger. -/
def State.trigger (s : State) (t : Nat) : Trigger := s.time.triggers.get {} t

/-- Change a trigger. -/
def State.updTrigger (s : State) (t : Nat) (g : Trigger → Trigger) : State :=
  s.modTime (fun x => { x with triggers := x.triggers.upd {} t g })

/-- A trigger fires at its cell time, takes its action and disarms (R372). -/
def execTriggerFire (t : Fin 16) (s : State) : Out :=
  let x := s.trigger t
  if x.armed && x.cell ≤ s.cellNow then
    let s := ((s.updTrigger t (fun x => { x with armed := false })).setFlag 0x6641 8).countUnit 0x11 0 9
    .next (if x.action = 2 then s.modFolio (fun f => { f with stopped := false })
      else if x.action = 3 then s.modFolio (fun f => { f with stopped := true }) else s)
  else .next s

/-- TRIG_CFG subindex 02 is written (R385): CELL must lie at least 977 cell times ahead. -/
def trigWrite (t : Nat) (s : State) (v : Nat) : Except DopStatus State :=
  let a := bits v 31 24
  let cell := s.param (0x2460 + t) 1
  if 3 < a then .error .range
  else if a = 0 then .ok (s.updTrigger t (fun x => { x with action := 0, armed := false }))
  else if cell < s.cellNow + 977 then .error .range
  else .ok (s.updTrigger t (fun _ => { cell := cell, action := a, armed := true }))

/-- A TRIG_CFG write with ACTION 1 to 3. -/
def execTrigArm (r : Req) (t : Fin 16) (value : BitVec 32) (s : State) : Out :=
  .next (serveWrite s r (0x2460 + t) 2 value.toNat (trigWrite t))

/-- A TRIG_CFG write with ACTION 0. -/
def execTrigDisarm (r : Req) (t : Fin 16) (arg : BitVec 24) (s : State) : Out :=
  .next (serveWrite s r (0x2460 + t) 2 arg.toNat (trigWrite t))

end Sys2Proof.Machine
end

