-- ==== Sys2Proof/Machine/ObjWrite.lean ====
section
/-!
DEFINITION. What a write does at each object of chapters 04 to 17 and 20 (R400 step 7): field rules, then the state, then what is
stored. Objects whose reserved bits do not reject a write ignore them (R5).
-/

namespace Sys2Proof.Machine

/-- An ordinary parameter: in its range it takes the value, out of it the write returns RANGE. -/
def plainWrite (idx sub : Nat) (s : State) (v : Nat) : Except DopStatus State :=
  match objRow idx sub with
  | none => .error .noObject
  | some r => if v < r.lo || r.hi < v then .error .range else .ok (s.setParam idx sub v)

/-- A parameter with a rule of its own beside its range. -/
def ruleWrite (idx sub : Nat) (ok : Bool) (s : State) (v : Nat) : Except DopStatus State :=
  if ok then plainWrite idx sub s v else .error .range

/-- LINK_THRESH (R82): WARN_BER stays greater than DEGRADE_BER. -/
def threshWrite (sub : Nat) (s : State) (v : Nat) : Except DopStatus State :=
  let degrade := if sub = 1 then v else s.param 0x2180 1
  let warn := if sub = 2 then v else s.param 0x2180 2
  ruleWrite 0x2180 sub (2 < sub || degrade < warn) s v

/-- LOOP_CFG (R106): CAL_PERIOD_S 0 stops the trials (R91), SPARE_POLICY is followed at once (R99). -/
def loopWrite (sub : Nat) (s : State) (v : Nat) : Except DopStatus State :=
  match plainWrite 0x2190 sub s v with
  | .error e => .error e
  | .ok s => .ok (if sub = 1 && v = 0 then stopTrials s else if sub = 6 then followPolicy s v else s)

/-- CREDIT_CFG of a class (R139). -/
def creditWrite (sub : Nat) (s : State) (v : Nat) : Except DopStatus State :=
  let sum (hi lo : Nat) := ((List.range 7).map (fun c => if 1 + c = sub then bits v hi lo else bits (s.param 0x21C1 (1 + c)) hi lo)).foldl (· + ·) 0
  if sub = 8 then (if v = 0 then .ok s else .error .range)
  else if 512 < sum 15 0 || 2048 < sum 31 16 then .error .range
  else .ok (s.setParam 0x21C1 sub v)

/-- TABLE_STAGE (R173): a staging entry is judged when it is applied. -/
def stageWrite (sub : Nat) (s : State) (v : Nat) : Except DopStatus State :=
  .ok (s.modTables (fun t => { t with stage := t.stage.put 0 (sub - 1) v }))

/-- HASH_SEED changes only while no exact-match entry is VALID (R165). -/
def seedWrite (s : State) (v : Nat) : Except DopStatus State :=
  if s.tables.exact = [] then plainWrite 0x21D0 1 s v else .error .state

/-- PORT_L2 of a port (R169): a rise of POLICE_EN resets the link's policers (R220). -/
def portL2Write (p : Nat) (s : State) (v : Nat) : Except DopStatus State :=
  if 131072 < l2Limit v || l2Pvid v = 0 || l2Pvid v = 4095 then .error .range
  else
    let rise : Bool := l2Police v && !(l2Police (s.portL2Cfg p))
    let s := s.setParam (0x2200 + p / 64) (1 + p % 64) v
    .ok (if rise then s.resetPolicers p else s)

/-- BUF_CFG of a class (R183). -/
def bufWrite (sub : Nat) (s : State) (v : Nat) : Except DopStatus State :=
  let mins := ((List.range 7).map (fun c => if 1 + c = sub then bits v 19 0 else s.bufMin c)).foldl (· + ·) 0
  let mx := bits v 39 20
  let dm := bits v 63 44
  if 647168 < mins || mx < bits v 19 0 || 647168 < mx || dm < 39 || mx < dm then .error .range
  else .ok (s.setParam 0x21E1 sub (v - bits v 43 40 * 2 ^ 40))

/-- HOST_PART (R346): the range, the sum against the other subindices as stored, then the store. -/
def partWrite (sub : Nat) (s : State) (v : Nat) : Except DopStatus State :=
  let sum (a : Nat) := ((List.range 4).map (fun k => if a + k = sub then v else s.param 0x2400 (a + k))).foldl (· + ·) 0
  if 4096 < v then .error .range
  else if sub ≤ 4 && 4096 < sum 1 then .error .range
  else if 5 ≤ sub && sub ≤ 8 && 4096 < sum 5 then .error .range
  else configWrite 0x2400 sub s v

/-- ASYM_PS of a fibre (R384), two's complement. -/
def asymWrite (sub : Nat) (s : State) (v : Nat) : Except DopStatus State :=
  if v ≤ 100000 || 2 ^ 32 - 100000 ≤ v then .ok (s.setParam 0x2441 sub v) else .error .range

/-- The snapshot parameters (R388): none while ARMED. -/
def snapParam (sub : Nat) (s : State) (v : Nat) : Except DopStatus State :=
  match plainWrite 0x2452 sub s v with
  | .error e => .error e
  | .ok s' => if s.folio.armed then .error .state else .ok s'

/-- SAMPLE_CFG of a Nib (R380, R390). -/
def sampleWrite (n : Nat) (s : State) (v : Nat) : Except DopStatus State :=
  let period := bits v 31 0
  if bits v 54 47 &&& bits v 62 55 ≠ bits v 54 47 || (period ≠ 0 && period < 1024) then .error .range
  else .ok (s.setParam 0x2454 (1 + n) (v - bits v 42 32 * 2 ^ 32))

/-- UNIT_SELECT of a source (R413). -/
def unitSelectWrite (src : DopSrc) (s : State) (v : Nat) : Except DopStatus State :=
  if isUnit v then .ok (s.modCodex (fun c => { c with unitSelect := c.unitSelect.filter (fun e => e.1 ≠ src) ++ [(src, v)] }))
  else .error .unit

/-- TABLE_SELECT of a source (R478). -/
def tableSelectWrite (src : DopSrc) (s : State) (v : Nat) : Except DopStatus State :=
  let kept := bits v 63 60 * 2 ^ 60 + bits v 58 56 * 2 ^ 56 + bits v 17 0
  if tableSelectOk v then
    .ok (s.modCodex (fun c => { c with tableSelect := c.tableSelect.filter (fun e => e.1 ≠ src) ++ [(src, kept)] }))
  else .error .range

/-- The write rule of each object of chapters 04 to 10. -/
def coreObjWrite (idx sub : Nat) : State → Nat → Except DopStatus State :=
  if 0x2140 ≤ idx && idx < 0x2180 then fibreCfgWrite (idx - 0x2140)
  else if 0x2200 ≤ idx && idx < 0x2210 then portL2Write ((idx - 0x2200) * 64 + (sub - 1))
  else if 0x2240 ≤ idx && idx < 0x2280 then fun s v => shaperWrite s ((idx - 0x2240) * 64 + (sub - 1)) v
  else if 0x2280 ≤ idx && idx < 0x22C0 then fun s v => policerWrite s ((idx - 0x2280) * 64 + (sub - 1)) v
  else match idx with
    | 0x2180 => threshWrite sub
    | 0x2190 => loopWrite sub
    | 0x2191 => sourceCommand
    | 0x21A1 => hatchCommand
    | 0x21C1 => creditWrite sub
    | 0x21D0 =>
      if sub = 1 then seedWrite
      else if sub = 3 then fun s v => ruleWrite 0x21D0 3 (v = 0 || 10 ≤ v) s v
      else plainWrite 0x21D0 sub
    | 0x21D1 => tableCommand
    | 0x21D2 => stageWrite sub
    | 0x21E1 => bufWrite sub
    | 0x21E2 => planeCommand
    | 0x21F1 => schedCommand
    | _ => plainWrite idx sub

/-- The write rule of each object of chapters 12 to 17 and 20, and of the selectors. -/
def moduleObjWrite (src : DopSrc) (idx sub : Nat) : State → Nat → Except DopStatus State :=
  if 0x2460 ≤ idx && idx < 0x2470 && sub = 2 then trigWrite (idx - 0x2460)
  else match idx with
    | 0x2302 => progCommand
    | 0x2380 => if sub = 1 then configWrite 0x2380 1 else plainWrite 0x2380 sub
    | 0x2400 => partWrite sub
    | 0x2440 => if sub = 1 then configWrite 0x2440 1 else plainWrite 0x2440 sub
    | 0x2441 => asymWrite sub
    | 0x2451 => snapCommand
    | 0x2452 => snapParam sub
    | 0x2453 => histWrite (sub - 1)
    | 0x2454 => sampleWrite (sub - 1)
    | 0x2481 => fun s v => ruleWrite 0x2481 sub (sub ≠ 1 || v = 0 || 60 ≤ v) s v
    | 0x2482 => fun s v => plainWrite 0x2482 sub s (if sub = 1 then v - bits v 30 24 * 2 ^ 24 else v)
    | 0x2483 => proofCommand src
    | 0xA000 => unitSelectWrite src
    | 0xA200 => tableSelectWrite src
    | 0xA502 => blotterCommand
    | _ => coreObjWrite idx sub

end Sys2Proof.Machine
end

