-- ==== Sys2Proof/Machine/SecCmds.lean ====
section
/-!
DEFINITION. Commands of security: sessions of the management Ethernet (R424, R425), SPDM (R421, R423) and MCTP (R422), credentials
(R426), debug unlock (R428), the test access port (R427) and tamper sensors (R429, R430). SPDM and MCTP bytes are DMTF's
(log entry 31).
-/

namespace Sys2Proof.Machine

/-! ### Sessions (R424, R425) -/

/-- An alias key exists (R419, R430). -/
def State.aliasKey (s : State) : Bool := s.boot.identity

/-- The module's public keys are those of the helper data in flash. -/
def State.helperData (s : State) : List Byte := (dataPayload s.flash 0x0006).getD []

/-- CRED of a credential: public key, ROLE, ENABLE (R426). -/
def State.credKey (s : State) (k : Nat) : List Byte := leBytes 32 (s.param 0x1020 k)
def State.credRole (s : State) (k : Nat) : Nat := s.param 0x1020 k / 2 ^ 256 % 256
def State.credEnabled (s : State) (k : Nat) : Bool := s.param 0x1020 k / 2 ^ 264 % 256 = 1

/-- The signed message of SESSION_OPEN and SESSION_AUTH, with the two nonces in their order: 72 bytes. -/
def State.sessionMessage (s : State) (first second : List Byte) (id : Nat) : List Byte :=
  first ++ second ++ beBytes 2 id ++ beBytes 6 (s.param 0x1000 5)

/-- Draw a nonce of 32 bytes. -/
def State.drawNonce (s : State) : List Byte × State :=
  let (a, s) := s.free64
  let (b, s) := s.free64
  let (c, s) := s.free64
  let (d, s) := s.free64
  (leBytes 8 a ++ leBytes 8 b ++ leBytes 8 c ++ leBytes 8 d, s)

/-- SESSION_OPEN: a pending session, and the answer that proves the module's identity. -/
def sessionOpen (q : DopReq) (s : State) : Except DopStatus DopAnswer :=
  let cred := byteAt q.data 0
  if q.session ≠ 0 || !s.aliasKey then .error .session
  else if q.data.length ≠ 36 then .error .size
  else if cred = 0 || 8 < cred || leAt q.data 1 3 ≠ 0 then .error .range
  else if !(s.credEnabled cred) then .error .accessDenied
  else if 8 ≤ s.codex.sessions.length then .error .busy
  else
    let req := slice q.data 4 32
    let (n, s) := s.freeBelow 65535
    let (mod, s) := s.drawNonce
    let sig := Config.ed25519Sign 1 (s.sessionMessage req mod (n + 1))
    let x : Session := { id := n + 1, src := q.src, cred := cred, reqNonce := req, modNonce := mod }
    .ok { data := beBytes 2 (n + 1) ++ zeros 2 ++ mod ++ sig.toList
          st := s.modCodex (fun c => { c with sessions := c.sessions ++ [x] }) }

/-- A failed SESSION_AUTH or debug unlock counts towards sensor 5: the sixteenth within 60 s fires it, and the count starts again
(R429). -/
def State.authFailed (s : State) : State :=
  let l := s.sec.failures.filter (fun t => s.now < t + 60 * 10 ^ 12) ++ [s.now]
  if 16 ≤ l.length then (s.modSec (fun x => { x with failures := [] })).sensorFires 5
  else s.modSec (fun x => { x with failures := l })

/-- The pending session that a SESSION_AUTH names. -/
def pendingSession (q : DopReq) (s : State) : Option Session :=
  s.codex.sessions.find? (fun x => x.id = q.session && x.src = q.src && !x.isOpen)

/-- Drop the sessions of one identifier and source. -/
def State.dropSession (s : State) (id : Nat) (src : DopSrc) : State :=
  s.modCodex (fun c => { c with sessions := c.sessions.filter (fun x => !(x.id = id && x.src = src)) })

/-- SESSION_AUTH: the credential's key signs; a failure discards the session. -/
def sessionAuth (q : DopReq) (s : State) : Except DopStatus DopAnswer :=
  match pendingSession q s with
  | none => .error .session
  | some x =>
    if q.data.length ≠ 64 then .error .size
    else if Config.ed25519Verify (s.credKey x.cred) (s.sessionMessage x.modNonce x.reqNonce x.id) q.data then
      let role := s.credRole x.cred
      .ok { data := beBytes 1 role
            st := s.modCodex (fun c => { c with
              sessions := c.sessions.map (fun y => if y = x then { y with isOpen := true, role := role } else y) }) }
    else .ok { status := .accessDenied, st := (s.dropSession x.id x.src).authFailed }

/-- SESSION_CLOSE. -/
def sessionClose (q : DopReq) (s : State) : Except DopStatus DopAnswer :=
  match sessionOf s q with
  | none => .error .session
  | some x => if q.data ≠ [] then .error .size else .ok { st := s.dropSession x.id x.src }

/-- The request of a session command or of MCTP_PACKET. -/
def opReq (r : Req) (op : Nat) (data : List Byte) : DopReq :=
  { src := r.src, op := op, transaction := r.transaction, session := r.session, data := data, queueFull := r.queueFull }

/-- DOP operation 0x10. -/
def execSessionOpen (r : Req) (cred : BitVec 8) (nonce : BitVec 256) (s : State) : Out :=
  let q := opReq r 0x10 (beBytes 1 cred.toNat ++ zeros 3 ++ leBytes 32 nonce.toNat)
  let s := s.dopArrives r.src
  .next (dopServe s q (fun _ => sessionOpen q s))

/-- DOP operation 0x11. -/
def execSessionAuth (r : Req) (signature : BitVec 512) (s : State) : Out :=
  let q := opReq r 0x11 (leBytes 64 signature.toNat)
  let s := s.dopArrives r.src
  .next (dopServe s q (fun _ => sessionAuth q s))

/-- DOP operation 0x12. -/
def execSessionClose (r : Req) (s : State) : Out :=
  let q := opReq r 0x12 []
  let s := s.dopArrives r.src
  .next (dopServe s q (fun _ => sessionClose q s))

/-- A session has been pending for 10 s, or idle for 300 s. -/
def execSessionTimeout (src : DopSrc) (id : BitVec 16) (s : State) : Out := .next (s.dropSession id.toNat src)

/-! ### SPDM (R421, R423) -/

/-- A valid identity certificate chain record stands (R420). -/
def State.chainRecord (s : State) : Option (List Byte) := dataPayload s.flash 0x0014

/-- The digest of a byte string, as bytes. -/
def sha (b : List Byte) : List Byte := (Config.sha512 b).toList

/-- Slot 0: the stored chain and the alias certificate, where both exist. -/
def State.slotChain (s : State) : Option (List Byte) :=
  if !s.aliasKey then none
  else s.chainRecord.map (fun c => c ++ Config.aliasCertificate s.helperData (sha ((s.sec.digests.take 4).flatMap id)))

/-- A measurement block (R423). -/
def State.measurement (s : State) (k : Nat) : List Byte :=
  if k ≤ 4 then padTo 64 ((s.sec.digests[k - 1]?).getD [])
  else if k = 5 then
    if s.boot.failCode = 4 then zeros 64 else sha ((dataPayload s.flash 0x0004).getD [])
  else if k = 6 then beBytes 8 chopSwId ++ Config.chopRomDigest.toList
  else
    leBytes 2 s.sec.version ++ leBytes 1 s.sec.keyIndex ++ leBytes 1 s.boot.activeBank ++ leBytes 1 (ofBool s.chop.unsealed) ++
    leBytes 1 ((s.flagObj 0x6181).val.toNat % 256) ++ zeros 2

/-- A signature of the alias key over the transcript of an answer. -/
def State.spdmSign (s : State) (nonce : List Byte) : List Byte × State :=
  ((Config.ed25519Sign 1 (Config.spdmTranscript s.freeCount nonce)).toList, { s with freeCount := s.freeCount + 1 })

/-- Change a connection. -/
def State.updSpdm (s : State) (c : Nat) (g : Spdm → Spdm) : State := s.modSec (fun x => { x with spdm := x.spdm.upd {} c g })

/-- The answer to a request on a connection: GET_VERSION starts it anew; the others follow in the order of R421's exchanges. -/
def State.spdmAnswer (s : State) (c : Nat) (q : SpdmReq) : SpdmAnswer × State :=
  let stage := (s.sec.spdm.get {} c).stage
  match q with
  | .getVersion => (.version [0x12, 0x13], s.updSpdm c (fun _ => { stage := 1 }))
  | .getCapabilities v =>
    if stage = 0 then (.unexpected, s)
    else if v = 0x12 || v = 0x13 then (.capabilities, s.updSpdm c (fun _ => { stage := 2, version := v }))
    else (.versionMismatch, s)
  | .negotiate e h =>
    if stage < 2 then (.unexpected, s)
    else if e || h then (.algorithms, s.updSpdm c (fun x => { x with stage := 3 }))
    else (.error, s)
  | .getDigests =>
    if stage < 3 then (.unexpected, s)
    else (.digests (match s.slotChain with | some x => [sha x] | none => []), s)
  | .getCertificate slot off len =>
    if stage < 3 then (.unexpected, s)
    else match s.slotChain with
      | none => (.unspecified, s)
      | some x =>
        if slot ≠ 0 || x.length ≤ off then (.error, s)
        else
          let part := slice x off (min len 1024)
          (.certificate part (x.length - off - part.length), s)
  | .challenge slot nonce =>
    if stage < 3 then (.unexpected, s)
    else if s.slotChain.isNone then (.unspecified, s)
    else if slot ≠ 0 then (.error, s)
    else
      let (g, s) := s.spdmSign nonce
      (.challengeAuth g, s)
  | .getMeasurements op sg =>
    let blocks : Option (List (Nat × List Byte)) :=
      if op = 0 then some []
      else if op = 255 then some ((List.range 7).map (fun k => (k + 1, s.measurement (k + 1))))
      else if op ≤ 7 then some [(op, s.measurement op)]
      else none
    if stage < 3 then (.unexpected, s)
    else if sg.isSome && s.slotChain.isNone then (.unspecified, s)
    else match blocks, sg with
      | none, _ => (.error, s)
      | some l, none => (.measurements 7 l none, s)
      | some l, some (slot, nonce) =>
        if slot ≠ 0 then (.error, s)
        else
          let (g, s) := s.spdmSign nonce
          (.measurements 7 l (some g), s)

/-- A request that arrived whole on a connection: DOE of Host A 0, of Host B 1, MCTP 2. Scribe firmware answers. -/
def State.spdmServe (s : State) (c : Nat) (q : SpdmReq) : State :=
  if !(s.boot.done.getLsbD 2) then s
  else
    let (a, s) := s.spdmAnswer c q
    s.emit (.spdm c a)

/-- GET_VERSION. -/
def execGetVersion (conn : Fin 3) (s : State) : Out := .next (s.spdmServe conn .getVersion)

/-- GET_CAPABILITIES, in the version its header names. -/
def execGetCapabilities (conn : Fin 3) (version : BitVec 8) (s : State) : Out :=
  .next (s.spdmServe conn (.getCapabilities version.toNat))

/-- NEGOTIATE_ALGORITHMS, by what it offers. -/
def execNegotiateAlgorithms (conn : Fin 3) (ed25519 sha512 : Bool) (s : State) : Out :=
  .next (s.spdmServe conn (.negotiate ed25519 sha512))

/-- GET_DIGESTS. -/
def execGetDigests (conn : Fin 3) (s : State) : Out := .next (s.spdmServe conn .getDigests)

/-- GET_CERTIFICATE. -/
def execGetCertificate (conn : Fin 3) (slot : BitVec 8) (offset length : BitVec 16) (s : State) : Out :=
  .next (s.spdmServe conn (.getCertificate slot.toNat offset.toNat length.toNat))

/-- CHALLENGE. -/
def execChallenge (conn : Fin 3) (slot : BitVec 8) (nonce : List Byte) (s : State) : Out :=
  .next (s.spdmServe conn (.challenge slot.toNat nonce))

/-- GET_MEASUREMENTS; `signed` holds the slot and the requester's nonce. -/
def execGetMeasurements (conn : Fin 3) (operation : BitVec 8) (signed : Option (BitVec 8 × List Byte)) (s : State) : Out :=
  .next (s.spdmServe conn (.getMeasurements operation.toNat (signed.map (fun x => (x.1.toNat, x.2)))))

/-! ### MCTP (R422) -/

/-- An SPDM request from its message bytes (DMTF DSP0274); none where the module does not support it. -/
def spdmParse (m : List Byte) : Option SpdmReq :=
  match byteAt m 1 with
  | 0x84 => some .getVersion
  | 0xE1 => some (.getCapabilities (byteAt m 0))
  | 0xE3 => some (.negotiate (bit (leAt m 8 4) 10) (bit (leAt m 12 4) 2))
  | 0x81 => some .getDigests
  | 0x82 => some (.getCertificate (byteAt m 2) (leAt m 4 2) (leAt m 6 2))
  | 0x83 => some (.challenge (byteAt m 2) (slice m 4 32))
  | 0xE0 => some (.getMeasurements (byteAt m 3) (if bit (byteAt m 2) 0 then some (byteAt m 36 % 16, slice m 4 32) else none))
  | _ => none

/-- The answer to a whole MCTP message: type byte first. Control commands 0x02 and 0x05 are answered (DMTF DSP0236). -/
def State.mctpMessage (s : State) (m : List Byte) : List Byte × State :=
  if byteAt m 0 = 5 then
    let (a, s) := match spdmParse (m.drop 1) with
      | some q => s.spdmAnswer 2 q
      | none => (.unsupported, s)
    (BitVec.ofNat 8 5 :: Config.spdmBytes (s.sec.spdm.get ({} : Spdm) 2).version a, s.emit (.spdm 2 a))
  else if byteAt m 0 = 0 && byteAt m 2 = 2 then
    (beBytes 1 0 ++ beBytes 1 (byteAt m 1 % 32) ++ [2, 0, 0, 0, 0], s)
  else if byteAt m 0 = 0 && byteAt m 2 = 5 then
    (beBytes 1 0 ++ beBytes 1 (byteAt m 1 % 32) ++ [5, 0, 1, 5], s)
  else ([], s)

/-- Cut a message into packets to the null EID, with the requester's tag. -/
def mctpPackets (tag : Nat) (m : List Byte) : List (List Byte) :=
  let n := ceilDiv m.length 64
  (List.range n).map (fun i =>
    [BitVec.ofNat 8 1, 0, 0] ++ beBytes 1 (128 * ofBool (i = 0) + 64 * ofBool (i + 1 = n) + i % 4 * 16 + tag % 8) ++ slice m (64 * i) 64)

/-- The module's next packet goes out. -/
def State.nextPacket (s : State) : DopAnswer :=
  match s.sec.mctpOut with
  | [] => { st := s }
  | p :: r => { data := p, st := s.modSec (fun x => { x with mctpOut := r }) }

/-- One packet of a request: one message is reassembled at a time, up to 4,096 bytes; the answer is the module's next packet. A packet
that goes on with a message of which there is no start is ignored (R422). -/
def mctpPacket (q : DopReq) (s : State) : Except DopStatus DopAnswer :=
  if q.data.length < 4 || 68 < q.data.length then .error .size
  else
    let h := byteAt q.data 3
    let body := q.data.drop 4
    if body = [] || (!(bit h 7) && s.sec.mctp = []) then .ok s.nextPacket
    else
      let m := (if bit h 7 then [] else s.sec.mctp) ++ body
      if 4096 < m.length then .ok (s.modSec (fun x => { x with mctp := [] })).nextPacket
      else if !(bit h 6) then .ok (s.modSec (fun x => { x with mctp := m })).nextPacket
      else
        let (a, s) := s.mctpMessage m
        .ok (s.modSec (fun x => { x with mctp := [], mctpOut := mctpPackets h a })).nextPacket

/-- DOP operation 0x18. -/
def execMctpPacket (r : Req) (packet : List Byte) (s : State) : Out :=
  let q := opReq r 0x18 packet
  let s := s.dopArrives r.src
  .next (dopServe s q (fun _ => mctpPacket q s))

/-! ### Debug unlock, credentials, the TAP and sensors -/

/-- DEBUG_UNLOCK:02 (R428): a failed unlock returns RANGE and counts towards sensor 5. -/
def debugUnlock (s : State) (v : Nat) : DopAnswer :=
  let msg := (Config.publicKey 0 s.helperData).toList ++ leBytes 8 s.sec.nonce
  if s.chop.unsealed && (List.range 4).any (fun k => Config.ed25519Verify (Config.releaseKey k).toList msg (leBytes 64 v)) then
    { st := s.eraseKeys.modSec (fun x => { x with unlocked := true }) }
  else { status := .range, st := s.authFailed }

/-- A WRITE of DEBUG_UNLOCK:02. -/
def debugUnlockAct (q : DopReq) (s : State) (role : Nat) : Except DopStatus DopAnswer :=
  match dopWriteAllowed q role with
  | .error e => .error e
  | .ok row => .ok (debugUnlock s (writtenValue row.typ q.data))

/-- DEBUG_UNLOCK:02 is written. -/
def execDebugUnlock (r : Req) (signature : BitVec 512) (s : State) : Out :=
  let q := writeReq r 0x1040 2 signature.toNat
  let s := s.dopArrives r.src
  .next (dopServe s q (debugUnlockAct q s))

/-- A credential is written (R426): judged, and stored as a new module configuration record. -/
def credWrite (k : Nat) (s : State) (v : Nat) : Except DopStatus State :=
  if 3 < v / 2 ^ 256 % 256 || 1 < v / 2 ^ 264 % 256 || v / 2 ^ 272 ≠ 0 then .error .range
  else configWrite 0x1020 k s v

/-- CRED is written. -/
def execCredWrite (r : Req) (k : Fin 8) (value : BitVec 320) (s : State) : Out :=
  .next (serveWrite s r 0x1020 (1 + k.val) value.toNat (credWrite (1 + k.val)))

/-- EXTEST, CLAMP or HIGHZ is entered (R427). -/
def execTapExtest (s : State) : Out :=
  .next (if s.powered then (s.modSec (fun x => { x with boundary := true })).sensorFires 4 else s)

/-- The TAP is reset after EXTEST, CLAMP or HIGHZ (R427): a warm start. -/
def execTapReset (s : State) : Out :=
  .next (if s.sec.boundary then (s.modSec (fun x => { x with boundary := false })).warmRequest else s)

/-- Tamper sensor `k` + 1 fires (R429). -/
def execTamperSensorFire (k : Fin 7) (s : State) : Out := .next (if s.powered then s.sensorFires (1 + k.val) else s)

end Sys2Proof.Machine
end

