-- ==== Sys2Proof/Machine/Boot.lean ====
section
/-!
DEFINITION. The cold and the warm start (R47 to R68, R479), host readiness (R58, R59), recovery (R57, R412) and what Scribe writes to
flash (R55, R418).
-/

namespace Sys2Proof.Machine

/-! ### Marks of a start -/

/-- The last step reached. -/
def State.phaseTo (s : State) (p : Phase) : State := s.modBoot (fun b => { b with phase := p })

/-- A cold start has reached a step. -/
def State.coldFrom (s : State) (n : Nat) : Bool :=
  match s.boot.phase with
  | .cold k => n ≤ k
  | _ => false

/-- A warm start has reached a step. -/
def State.warmFrom (s : State) (n : Nat) : Bool :=
  match s.boot.phase with
  | .warm k => n ≤ k
  | _ => false

/-- An event of CLASS 5 of Scribe (R468). -/
def State.bootEvent (s : State) (cause detail : Nat) : State := s.logEvent (unitId 0x12 0) cause 5 detail

/-- A failure of the start (R65): the first stays in FAIL_CODE, each goes to the fault history. -/
def State.startFails (s : State) (code : Nat) : State := (s.failCode code).bootEvent (if code ≤ 3 then 8 else 11) code

/-- HOSTCFG attaches a host (R28). -/
def State.attached (s : State) (hostB : Bool) : Bool := s.boot.straps.hostcfg.getLsbD (if hostB then 0 else 1)

/-- PCIe link training starts on the attached ports whose PERST_N is deasserted (R58). -/
def State.startTraining (s : State) : State :=
  s.forEach [false, true] (fun s b =>
    if s.attached b && !(s.port b).perst then s.updPort b (fun p => { p with training := true }) else s)

/-- The configuration spaces of the attached ports are filled and Request Retry Status ends (R59). -/
def State.fillSpaces (s : State) : State :=
  let s := s.forEach [false, true] (fun s b => if s.attached b then s.updPort b (fun p => { p with filled := true }) else s)
  if s.attached false || s.attached true then s.markDone 4 true else s

/-- The ROM runs (R47 to R49): PUF captured, debug nonce drawn (R428), PCIe training enabled. -/
def State.romRuns (s : State) : State :=
  let (n, s) := s.free64
  ((s.modBoot (fun b => { b with puf := some (Config.pufArray s.freeCount) })).modSec (fun x => { x with nonce := n })).startTraining.markDone 0 true

/-- Scribe and Chop leave reset (R47, R48): the straps are sampled. With TEST_MODE the core is held in reset (R28). -/
def execScribeResetRelease (straps : Straps) (s : State) : Out :=
  .next (if s.boot.phase ≠ .cold 4 || !s.power.pwrOk || !s.power.sysclk then s
    else
      let s := (s.modBoot (fun b => { b with straps := straps })).chopStart straps.sealOpen
      if straps.testMode then s.holdCore else (s.phaseTo (.cold 6)).romRuns)

/-! ### Bank selection (R50 to R54, R417, R418) -/

/-- SECURITY_VERSION of a boot set. -/
def BootSet.version (b : BootSet) : Nat := ((b.trailers[0]?).map (·.version)).getD 0

/-- The two banks' states: a good bank whose SECURITY_VERSION is below the other's counts as rejected (R418). -/
def bankStates (x : Flash) : BankState × BankState :=
  match bankState x.a, bankState x.b with
  | .good p, .good q =>
    if p.version < q.version then (.rejected, .good q)
    else if q.version < p.version then (.good p, .rejected)
    else (.good p, .good q)
  | p, q => (p, q)

/-- A bank is rejected for its signature check: its directory, or a record that its directory names, is valid but for it (R429 sensor
6). -/
def signatureFails (d : FlashDev) : Bool :=
  if bankState d ≠ .rejected then false
  else match readRec d 0 0x02000000 with
    | none => false
    | some dir =>
      dir.typ = 1 && dir.len % 16 = 0 &&
      ((checkTrailer dir).isNone ||
        ((List.range ((dir.len - 96) / 16)).map (fun i => slice dir.payload (16 * i) 16)).any (fun e =>
          match entryRec d dir.seq e with
          | some r => (checkTrailer r).isNone
          | none => false))

/-- The bank and boot set that become active: the newest good one; bank A where the sequence numbers do not order them (R52). -/
def activeSet (x : Flash) : Option (Nat × BootSet) :=
  match bankStates x with
  | (.good p, .good q) => if seqNewer q.seq p.seq then some (1, q) else some (0, p)
  | (.good p, _) => some (0, p)
  | (_, .good q) => some (1, q)
  | _ => none

/-- Two good banks whose sequence numbers do not order them (R52). -/
def setTie (x : Flash) : Bool :=
  match bankStates x with
  | (.good p, .good q) => !(seqNewer p.seq q.seq) && !(seqNewer q.seq p.seq)
  | _ => false

/-- The ROM enters recovery (R57). -/
def State.enterRecovery (s : State) : State :=
  ((s.modBoot (fun b => { b with recovery := true, activeBank := 2 })).startFails 3).fillSpaces

/-- A boot set becomes active: what it shows of itself (R409, R418, R419, R423). -/
def State.takeBootSet (s : State) (bank : Nat) (b : BootSet) : State :=
  let fw (k : Nat) := ((b.trailers[k]?).map (·.fw)).getD 0
  let s := (s.modBoot (fun x => { x with activeBank := bank })).modSec (fun x =>
    { x with version := b.version, keyIndex := ((b.trailers[0]?).map (·.key)).getD 0
             trailers := b.trailers.map (·.bytes), digests := b.digests })
  (((s.setParam 0x1000 7 (fw 1)).setParam 0x1000 8 (fw 3)).setParam 0x1000 9 (fw 2)).markDone 1 true

/-- Flash is identified, the banks are classed, and one becomes active (R54). -/
def execBankSelect (s : State) : Out :=
  .next (
    if !(s.boot.done.getLsbD 0) || s.boot.done.getLsbD 1 || s.boot.recovery then s
    else
      let x := s.flash
      let slow (d : FlashDev) : Bool := d.usable && !d.octal
      let s := s.modBoot (fun b => { b with degraded := slow x.a || slow x.b })
      let s := s.forEach (([x.a, x.b].filter slow).map (fun _ => ())) (fun s _ => let (d, s) := s.free64; s.bootEvent 8 d)
      let s := s.forEach (([x.a, x.b].filter signatureFails).map (fun _ => ())) (fun s _ => s.sensorFires 6)
      let s := if setTie x then (let (d, s) := s.free64; s.logOpenEvent (unitId 0x12 0) 5 d) else s
      match activeSet x with
      | none => s.enterRecovery
      | some (bank, b) =>
        let s := s.takeBootSet bank b
        let other := if bank = 0 then (bankStates x).2 else (bankStates x).1
        if other = .rejected then s.startFails (if bank = 1 then 1 else 2) else s)

/-- Scribe firmware starts (R61 step 8, R67 step 6): it reads the fault history. -/
def execScribeFirmwareStart (s : State) : Out :=
  .next (if s.boot.done.getLsbD 1 && !(s.boot.done.getLsbD 2) then (s.markDone 2 true).readHistory else s)

/-! ### Configuration (R9, R346, R479) -/

/-- Objects that the module configuration record loads, by the tables of their chapters. -/
def loadable (idx sub : Nat) : Bool :=
  (idx = 0x1000 && 3 ≤ sub && sub ≤ 5) || idx = 0x1008 || idx = 0x1010 || idx = 0x1020 || idx = 0x1030 ||
  (0x1110 ≤ idx && idx ≤ 0x111F) || (0x2140 ≤ idx && idx ≤ 0x217F) || idx = 0x21C1 || idx = 0x21E1 ||
  (0x2200 ≤ idx && idx ≤ 0x220F) || (0x2240 ≤ idx && idx ≤ 0x22BF) || (idx = 0x21F0 && sub = 4) || (idx = 0x2380 && sub = 1) ||
  idx = 0x2400 || (idx = 0x2440 && (sub ≤ 4 || sub = 9 || sub = 10)) || idx = 0x2441 || (idx = 0x2480 && (sub = 3 || sub = 5)) ||
  (idx = 0x2481 && sub = 1)

/-- A loaded value judged by the write rule of its own object: what the object takes, none where the value breaks the rule. -/
def loadValue (r : ObjRow) (idx sub v : Nat) : Option Nat :=
  let ok (c : Bool) (w : Nat) : Option Nat := if c then some w else none
  if 256 ^ r.typ.size ≤ v then none
  else if idx = 0x1000 then some v
  else if idx = 0x1020 then ok (v / 2 ^ 256 % 256 ≤ 3 && v / 2 ^ 264 % 256 ≤ 1 && v / 2 ^ 272 = 0) v
  else if 0x1110 ≤ idx && idx ≤ 0x111F then ok (bits v 14 10 = 0) v
  else if 0x2140 ≤ idx && idx ≤ 0x217F then ok (fibreCfgValid (fibreCfgMask v)) (fibreCfgMask v)
  else if idx = 0x21C1 then ok (if sub = 8 then v = 0 else bits v 15 0 ≤ 512 && bits v 31 16 ≤ 2048) v
  else if idx = 0x21E1 then
    ok (bits v 19 0 ≤ bits v 39 20 && bits v 39 20 ≤ 647168 && 39 ≤ bits v 63 44 && bits v 63 44 ≤ bits v 39 20) (v - bits v 43 40 * 2 ^ 40)
  else if 0x2200 ≤ idx && idx ≤ 0x220F then ok (l2Limit v ≤ 131072 && l2Pvid v ≠ 0 && l2Pvid v ≠ 4095) v
  else if 0x2240 ≤ idx && idx ≤ 0x227F then ok (bucketOk v) v
  else if 0x2280 ≤ idx && idx ≤ 0x22BF then ok (bucketOk v) (policerStored v)
  else if idx = 0x2400 && sub ≤ 8 then some v
  else if idx = 0x2441 then ok (v ≤ 100000 || 2 ^ 32 - 100000 ≤ v) v
  else if idx = 0x2481 then ok (v = 0 || (60 ≤ v && v ≤ r.hi)) v
  else ok (r.lo ≤ v && v ≤ r.hi) v

/-- An object whose loaded value is not used: its index and subindex in DETAIL. -/
def State.loadRejected (s : State) (idx sub : Nat) : State := s.bootEvent 11 (objKey idx sub)

/-- One loaded value. A bucket resets with its configuration (R220). -/
def State.loadOne (s : State) (idx sub v : Nat) : State :=
  if !(loadable idx sub) then s
  else match objRow idx sub with
    | none => s
    | some r =>
      match loadValue r idx sub v with
      | none => s.loadRejected idx sub
      | some w =>
        let s := s.setParam idx sub w
        if 0x2240 ≤ idx && idx ≤ 0x227F then s.setShaper ((idx - 0x2240) * 64 + (sub - 1)) (bucketFull w)
        else if 0x2280 ≤ idx && idx ≤ 0x22BF then s.setPolicer ((idx - 0x2280) * 64 + (sub - 1)) (bucketFull w)
        else s

/-- The sum of a field over subindices of an object. -/
def State.sumOver (s : State) (idx : Nat) (subs : List Nat) (g : Nat → Nat) : Nat :=
  (subs.map (fun k => g (s.param idx k))).foldl (· + ·) 0

/-- Values that a rule compares with one another and that break it together return to their reset values. -/
def State.loadGroup (s : State) (loaded : List (Nat × Nat)) (idx : Nat) (subs : List Nat) (bad : Bool) : State :=
  if bad then
    s.forEach subs (fun s k => (if loaded.contains (idx, k) then s.loadRejected idx k else s).resetParam idx k)
  else s

/-- The parameters of a record are loaded and judged (R346, R479). -/
def State.loadParams (s : State) (vals : List (Nat × Nat × Nat)) : State :=
  let s := s.forEach vals (fun s x => s.loadOne x.1 x.2.1 x.2.2)
  let loaded := vals.map (fun x => (x.1, x.2.1))
  let classes := [1, 2, 3, 4, 5, 6, 7]
  let s := s.loadGroup loaded 0x21C1 classes
    (512 < s.sumOver 0x21C1 classes (bits · 15 0) || 2048 < s.sumOver 0x21C1 classes (bits · 31 16))
  let s := s.loadGroup loaded 0x21E1 classes (647168 < s.sumOver 0x21E1 classes (bits · 19 0))
  s.loadGroup loaded 0x2400 [1, 2, 3, 4, 5, 6, 7, 8]
    (4096 < s.sumOver 0x2400 [1, 2, 3, 4] id || 4096 < s.sumOver 0x2400 [5, 6, 7, 8] id)

/-- The Quill partition division of a cold start (R9): the default where the record's breaks its rule. R9 has the rejection
recorded in the fault history and names no code: the model takes CAUSE 11 and CLASS 5, those of any other rejected value of the
record (R479), and a free DETAIL (DESIGN CHOICE, log entry 111). -/
def State.divideQuill (s : State) (cores : Nat × Nat) : State :=
  let ok (n : Nat) : Bool := 4 ≤ n && n ≤ 20 && n % 4 = 0
  if ok cores.1 && ok cores.2 && cores.1 + cores.2 = 24 then s.modBoot (fun b => { b with coresP0 := cores.1 })
  else let (d, s) := s.free64; (s.modBoot (fun b => { b with coresP0 := 12 })).bootEvent 11 d

/-- What a cold start fixes until the next: HOST_PART, POOL_SIZE_GIB, and the map that Chop starts with. -/
def State.fixCold (s : State) : State :=
  let s := s.modHost (fun h => { h with part := (List.range 8).map (fun k => s.param 0x2400 (k + 1)), installEn := s.param 0x2400 9 })
  let s := s.modMem (fun m => { m with poolGib := s.param 0x2380 1 })
  s.modChop (fun c => { c with map := (List.range 1024).foldl (fun t p => t.put 0 p (s.accountMap p)) [] })

/-- The identity service of the ROM (R419): the secret is reconstructed from the helper data and the captured array (R49). -/
def State.reconstruct (s : State) : State :=
  match dataPayload s.flash 0x0006, s.boot.puf with
  | some h, some raw =>
    if Config.pufReconstructs h raw then s.modBoot (fun b => { b with identity := true }) else (s.startFails 8).sensorFires 7
  | _, _ => (s.startFails 8).sensorFires 7

/-- Data records of the two banks whose sequence numbers do not order them are recorded in the fault history (R52), once a start. -/
def State.recordTies (s : State) : State :=
  s.forEach ([4, 5, 6, 7, 0x10, 0x12, 0x13, 0x14].filter (seqTie s.flash)) (fun s typ => s.logOpenEvent (unitId 0x12 0) 5 typ)

/-- The sensors that fired before this step act under the policies now loaded (R430). -/
def State.actDeferred (s : State) : State :=
  let l := s.sec.deferred
  (s.modSec (fun x => { x with deferred := [] })).forEach l State.sensorActs

/-- The configuration and identity stage (cold step 9, end of warm step 6). -/
def execConfigLoad (s : State) : Out :=
  .next (
    if !(s.boot.done.getLsbD 2) || s.boot.done.getLsbD 3 then s
    else
      let cfg := dataPayload s.flash 0x0004
      let s := if cfg.isNone then s.recordTies.startFails 4 else s.recordTies
      let s := s.loadParams ((cfg.map Config.configValues).getD [])
      let s := s.modTime (fun t => { t with src := s.param 0x2440 1 })
      let s := if s.boot.warm then (s.phaseTo (.warm 6)).modBoot (fun b => { b with photonic := true, comb := true })
        else
          let s := match cfg with
            | some b => s.divideQuill (Config.configCores b)
            | none => s
          s.fixCold.phaseTo (.cold 9)
      (s.reconstruct.fillSpaces.markDone 3 true).actDeferred)

/-! ### Memories and Quill -/

/-- Core-die SRAM is initialised (cold step 10). -/
def execSramInitDone (s : State) : Out :=
  .next (if s.coldFrom 9 && !s.boot.sram then (s.phaseTo (.cold 10)).modBoot (fun b => { b with sram := true }) else s)

/-- Units of a type that a fault has taken out of service over starts (R458), as a mask. -/
def State.outOfService (s : State) (typ n w : Nat) : BitVec w :=
  (List.range n).foldl (fun m i => if (s.unit (unitId typ i)).state = 3 then m ||| BitVec.ofNat w (2 ^ i) else m) 0

/-- The LPDDR6 stage ends (R62): packages that fail are removed, and PACKAGE_REMOVED is set (R332). -/
def State.lpdEnds (s : State) (kept failed : BitVec 16) : State :=
  let bad := failed ||| s.outOfService 0x0F 16 16
  let s := (s.modMem (fun m => { m with lpd := kept &&& ~~~bad })).markDone 5 true
  let s := s.setFlagIf (s.mem.lpd ≠ 0xFFFF) 0x6601 7
  if failed = 0 then s else s.startFails 5

/-- The Inkwell stage ends (R62, R63, R335): its contents are zero, and a boot schedule image loads where a stack serves. One that is
present but invalid, under R51 or as an image, sets FAIL_CODE 9 (R53, R65). -/
def State.inkEnds (s : State) (failed : BitVec 4) : State :=
  let bad := failed ||| s.outOfService 9 4 4
  let s := (s.modMem (fun m => { m with ink := ~~~bad })).markDone 6 true
  let s := if bad = 0 then s else (s.startFails 6).setFlag 0x6601 8
  let s := s.loadBootSchedule.modDuctus (fun d => { d with bootJoin := d.shadowValid })
  let invalid : Bool := match dataPayload s.flash 7 with
    | some _ => s.mem.ink ≠ 0 && !s.ductus.shadowValid
    | none => dataPresent s.flash 7
  if invalid then s.startFails 9 else s

/-- LPDDR6 channels are trained (cold step 11). -/
def execLpddr6Trained (failed : BitVec 16) (s : State) : Out :=
  .next (if s.coldFrom 9 && !(s.boot.done.getLsbD 5) then s.lpdEnds 0xFFFF failed else s)

/-- Inkwell stacks are trained and initialised (cold step 12). -/
def execInkwellTrained (failed : BitVec 4) (s : State) : Out :=
  .next (if s.coldFrom 9 && !(s.boot.done.getLsbD 6) then s.inkEnds failed else s)

/-- The active bank's device. -/
def State.activeDev (s : State) : FlashDev := if s.boot.activeBank = 1 then s.flash.b else s.flash.a

/-- The Quill boot firmware of the active bank is copied to LPDDR6, to the start of the Module region (R61, R67, R333). R333 gives the
region; the place in it is a DESIGN CHOICE (log entry 152). -/
def State.copyQuillFirmware (s : State) : State :=
  match bootImage s.activeDev 3 with
  | some b => s.writeMem (4 * gib) b
  | none => s

/-- Quill boot firmware is copied, each partition's firmware is told its memory (R332), and both partitions leave reset. -/
def State.releaseQuill (s : State) : State :=
  let s := s.forEach [false, true] (fun s p1 => s.emit (.quillMemory p1 (s.quillRegion p1).1 (s.quillRegion p1).2 s.mem.lpd))
  let s := s.copyQuillFirmware
  (s.forEach (List.range 24) (fun s i => s.emit (.quillReset i true))).markDone 7 true

/-- Quill boot firmware is copied and the partitions are released (cold step 13). -/
def execQuillRelease (s : State) : Out :=
  .next (if s.coldFrom 9 && s.boot.done.getLsbD 5 && !(s.boot.done.getLsbD 7) then s.releaseQuill else s)

/-! ### Optics -/

/-- Photonic firmware and calibration are loaded; heaters and laser bias are on (cold step 14). A lane whose line the calibration
record flags is held with cause 8 (R97). -/
def execPhotonicLoad (s : State) : Out :=
  .next (
    if !(s.coldFrom 9) || s.boot.photonic then s
    else
      let s := s.modBoot (fun b => { b with photonic := true })
      let s := s.forEach (List.range 16) (fun s e => s.forEach (List.range 4) (fun s i => s.updSource e i (fun x => { x with state := .starting })))
      match dataPayload s.flash 0x0005 with
      | none => s.startFails 7
      | some b =>
        s.forEach (List.range 64) (fun s f => s.forEach (List.range 17) (fun s w =>
          let heat (k : Nat) (r : RingSt) : RingSt := { r with heater := min 30000 (Config.calibrationHeater b k f w), line := w }
          let s := s.updLane f w (fun y => { y with lineRef := s.calRef f w, modulator := heat 0 y.modulator, drop := heat 1 y.drop, addDrop := heat 2 y.addDrop })
          if w < 16 && s.lineFlagged f w then laneHoldOwn s f w .launch else s)))

/-- The comb sources reach stable power (cold step 15): each feeds its fibre; with SPARE_POLICY 1 the spare starts (R99). -/
def execCombStable (s : State) : Out :=
  .next (
    if !(s.coldFrom 9) || !s.boot.photonic || s.boot.comb then s
    else
      let s := s.modBoot (fun b => { b with comb := true })
      s.forEach (List.range 16) (fun s e =>
        let s := s.forEach (List.range 4) (fun s i => s.updSource e i (fun x =>
          if x.state = .starting then { x with state := .active, feeds := i, fade := some 0 } else x))
        if s.param 0x2190 6 = 1 then startSpare s e else s))

/-- The bus sweep's outcome (R93): ring k of each transmit fibre is placed on line k, at the heater power measured there, which is a free
value. -/
def State.swept (s : State) : State :=
  s.forEach (List.range 64) (fun s f => s.forEach (List.range 17) (fun s w =>
    s.updLane f w (fun y => y.updRing .modulator (fun r =>
      { r with locked := true, line := w, heater := (Config.sweptHeater s.freeCount f w).val }))))

/-- Every ring is locked and pilot-checked (cold step 16, warm step 9). After a full sweep the measured values become the new
calibration record (R65), which is taken up (R97). -/
def execRingsLocked (s : State) : Out :=
  .next (
    if !s.boot.comb || s.boot.done.getLsbD 8 then s
    else
      let s := s.markDone 8 true
      if s.boot.warm || (dataPayload s.flash 0x0005).isSome then s
      else
        let (v, s) := s.swept.free64
        reloadCalibration (s.storeData 0x0005 (Config.calibrationRecord [v])))

/-- The link training stage ends (cold step 17, warm step 10). -/
def execLinksStageEnd (s : State) : Out :=
  .next (if s.boot.done.getLsbD 8 && !(s.boot.done.getLsbD 9) then s.markDone 9 true else s)

/-- SERVICE may be set (R64). -/
def State.serviceReady (s : State) : Bool :=
  let d := s.boot.done
  (d.getLsbD 4 || s.boot.straps.hostcfg = 0) && d.getLsbD 5 && d.getLsbD 6 && d.getLsbD 9 && d.getLsbD 10

/-- SERVICE is set (R64): a module fault's FAULT_N rises (R459), and quarantines are counted from now (R443). -/
def execServiceSet (s : State) : Out :=
  .next (
    if !s.serviceReady || s.service then s
    else
      let s := ((s.modPower (fun p => { p with faultLow := false })).modFaults (fun x => { x with moduleFault := false })).markDone 11 true
      let s := s.forEach s.slots.keys (fun s j =>
        s.updSlot j (fun x => if x.state = .quarantine then { x with quarantineAt := s.cellNow } else x))
      s.phaseTo (if s.boot.warm then .warm 12 else .cold 19))

/-! ### Host ports (R58, R59) -/

/-- A configuration request reaches a port's PF, over a link that has come up at a speed and width. A filled space takes what it
writes to the SR-IOV capability: VF Enable and NumVFs. -/
def execPcieConfigRequest (hostB : Bool) (speed : Fin 7) (width : Fin 17) (sriov : Option (Bool × Fin 64)) (s : State) : Out :=
  .next (
    let p := s.port hostB
    if !(s.attached hostB) || p.perst || p.held || !(p.training || p.up) then s
    else
      let s := if p.up then s else s.updPort hostB (fun p => { p with up := true, training := false, speed := speed, width := width })
      let s := s.emit (.pcieConfig hostB p.filled)
      match sriov with
      | none => s
      | some (en, n) =>
        if !p.filled then s
        else if p.vfEnable && !en then
          let pf := if hostB then 64 else 0
          (s.forEach (p.enabled.map (pf + ·)) State.resetFunction).updPort hostB (fun p => { p with vfEnable := false, vfs := n })
        else if p.vfEnable then s
        else s.updPort hostB (fun p => { p with vfEnable := en, vfs := n }))

/-- PERST_N rises (R58): an attached port trains once the ROM has enabled it; a port held by a unit fault is released (R458). -/
def execPerstDeassert (hostB : Bool) (s : State) : Out :=
  .next (
    let s := s.updPort hostB (fun p => { p with perst := false, held := false })
    if s.attached hostB && s.boot.done.getLsbD 0 then s.updPort hostB (fun p => { p with training := !p.up }) else s)

/-- PERST_N falls (R59): only that port's controller and functions are reset. -/
def execPerstAssert (hostB : Bool) (s : State) : Out :=
  .next ((s.portLinkDown hostB).updPort hostB (fun p => { p with perst := true }))

/-! ### The warm sequence (R66, R67) -/

/-- WARM_RST_N has been low for 1 µs. -/
def execWarmRstAssert (s : State) : Out := .next (s.modBoot (fun b => { b with warmLow := true })).warmRequest

/-- WARM_RST_N rises. -/
def execWarmRstRelease (s : State) : Out := .next (s.modBoot (fun b => { b with warmLow := false }))

/-- Warm step 5: at least 10 ms after step 4, with WARM_RST_N high. -/
def execWarmPufRelease (s : State) : Out :=
  .next (if s.boot.phase = .warm 4 && !s.boot.warmLow then (s.phaseTo (.warm 5)).romRuns else s)

/-- Warm step 7: a package that fails retraining is removed, its contents lost; one that no cold start trained is trained now. -/
def execWarmMemoryReady (failedLpd : BitVec 16) (failedInk : BitVec 4) (s : State) : Out :=
  .next (
    if !(s.warmFrom 6) || s.boot.sram then s
    else
      let s := (s.phaseTo (.warm 7)).modBoot (fun b => { b with sram := true })
      (s.lpdEnds (if s.mem.lpd = 0 then 0xFFFF else s.mem.lpd) failedLpd).inkEnds failedInk)

/-- Warm step 8. -/
def execWarmQuillRestart (s : State) : Out :=
  .next (if s.warmFrom 7 && !(s.boot.done.getLsbD 7) then s.releaseQuill else s)

/-! ### Recovery (R57, R412) -/

/-- A device takes a write of the boot set area and reads it back. -/
def FlashDev.takesBoot (d : FlashDev) : Bool := d.usable && d.writable

/-- RECOVERY_CMD is written (R412). -/
def recoveryCommand (s : State) (v : Nat) : Except DopStatus State :=
  let cmd := bits v 31 24
  if (cmd ≠ 1 && cmd ≠ 2) || bits v 23 0 ≠ 0 then .error .range
  else if !s.boot.recovery then .error .state
  else if cmd = 1 then
    let l : Load := { active := true }
    .ok (s.modCodex (fun c => { c with loads := c.loads.put {} 0x1F01 l, recoveryStatus := 0 }))
  else .ok (s.modCodex (fun c => { c with installDue := true, recoveryStatus := 1 }))

/-- Recovery's cold start from step 5: what core power holds is reset, and Chop runs on. -/
def State.coldRestart (s : State) : State := s.coreLost.phaseTo (.cold 4)

/-- The image is checked, written to bank A or bank B, and the module starts again. -/
def State.recoveryInstall (s : State) : State :=
  let l := (s.codex.loads.get {} 0x1F01).bytes
  let dev : FlashDev := ({} : FlashDev).write 0 0x02000000 l
  let status (n : Nat) (s : State) : State := s.modCodex (fun c => { c with recoveryStatus := n })
  let put (d : FlashDev) : FlashDev := d.write 0 0x02000000 l
  match bootSetOf dev with
  | none => (status 3 s).modCodex (fun c => { c with loads := c.loads.put {} 0x1F01 {} })
  | some _ =>
    if s.flash.a.takesBoot then ({ s with flash := { s.flash with a := put s.flash.a } } : State).coldRestart
    else if s.flash.b.takesBoot then ({ s with flash := { s.flash with b := put s.flash.b } } : State).coldRestart
    else status 4 s

/-- What an accepted command does once its response has left (R57, R411); a warm reset that waited for a commit which a write has ended runs
(R128). -/
def State.afterServe (s : State) : State :=
  let s := if s.codex.installDue then (s.modCodex (fun c => { c with installDue := false })).recoveryInstall else s
  let s := if s.codex.resetDue then (s.modCodex (fun c => { c with resetDue := false })).warmRequest else s
  s.runPendingWarm

/-- RECOVERY_CMD command 1. -/
def execRecoveryBeginLoad (r : Req) (arg : BitVec 24) (s : State) : Out :=
  .next (serveWrite s r 0x1F00 1 (command32 1 arg.toNat) recoveryCommand)

/-- RECOVERY_CMD command 2. -/
def execRecoveryInstall (r : Req) (arg : BitVec 24) (s : State) : Out :=
  .next (serveWrite s r 0x1F00 1 (command32 2 arg.toNat) recoveryCommand).afterServe

/-! ### What Scribe writes (R55, R418) -/

/-- A boot set, given as the bytes of its area, is installed in the bank that is not active (R55): it must pass R53 and follow the
active bank's directory in SEQ; one of a lower SECURITY_VERSION is refused (R418). -/
def State.installBootSet (s : State) (l : List Byte) : State :=
  let dev : FlashDev := ({} : FlashDev).write 0 0x02000000 l
  match bootSetOf dev, bootSetOf s.activeDev with
  | some b, some act =>
    if b.version < act.version then s.setFlag 0x6181 7
    else if b.seq ≠ (act.seq + 1) % 2 ^ 32 then s
    else
      let put (d : FlashDev) : FlashDev := if d.takesBoot then d.write 0 0x02000000 l else d
      if s.boot.activeBank = 0 then { s with flash := { s.flash with b := put s.flash.b } }
      else { s with flash := { s.flash with a := put s.flash.a } }
  | _, _ => s

/-- Scribe writes a new copy of a data record, or, as TYPE 0x0001, installs a boot set. -/
def execDataRecordWrite (typ : BitVec 16) (payload : List Byte) (s : State) : Out :=
  .next (if !(s.boot.done.getLsbD 2) then s
    else if typ = 1 then s.installBootSet payload
    else
      let s := s.storeData typ.toNat payload
      if typ = 0x0005 then reloadCalibration s else s)

end Sys2Proof.Machine
end

