-- ==== Sys2Proof/Machine/ObjRead.lean ====
section
/-!
DEFINITION. What a read of each Codex object returns (R2, R392): parameters as stored, status objects computed from the state
as the tables of chapters 02 to 20 lay them out, flag objects with the status fields beside their flags, counters live
or latched, and the bytes of the domains (R405).
-/

namespace Sys2Proof.Machine

/-! ### Optics and Hatch -/

/-- ENGINE_STATUS (R86). -/
def State.engineStatus (s : State) (e : Nat) : Nat :=
  let fs := (List.range 4).map (fun i => s.fibre (4 * e + i))
  let word (p : Fibre → Bool) : Nat := (fs.zipIdx.map (fun x => ofBool (p x.1) * 2 ^ x.2)).foldl (· + ·) 0
  let up := ((List.range 4).flatMap (fun i => (s.fibreLinks (4 * e + i)).filter s.linkUp)).length
  word (fun f => f.rxLos) * 2 ^ 24 + word (fun f => f.marginState = .up) * 2 ^ 20 + up

/-- Codes of R87. -/
def MarginState.code : MarginState → Nat
  | .dark => 0 | .acquire => 1 | .up => 2

/-- The fields of FIBRE_STATUS beside its flags (R87). -/
def State.fibreStatus (s : State) (f : Nat) : Nat :=
  let x := s.fibre f
  min 255 x.length * 2 ^ 16 + x.marginState.code * 2 ^ 10 + ofBool x.rxLos * 2 ^ 9

/-- LANE_STATUS (R88). -/
def State.laneStatus (s : State) (f w : Nat) : Nat :=
  let x := s.lane f w
  let p := 16 * f + w
  let lowest : Bool := s.isLinkPort p
  x.state.code * 2 ^ 28 + (if lowest then (s.link p).state.code else 0) * 2 ^ 25 + x.hold.code * 2 ^ 21 +
  (if lowest then s.activeLanes p else 0) * 2 ^ 16 + x.ber

/-- SOURCE_STATUS (R107). -/
def State.sourceStatus (s : State) (e i : Nat) : Nat :=
  let x := s.source e i
  let fade : Nat := match x.fade with
    | none => 0x8000
    | some v => ((max (-3000) (min 1000 v)) % 65536).toNat
  x.state.code * 2 ^ 29 + x.feeds * 2 ^ 26 + x.worstLine * 2 ^ 21 + x.dropped * 2 ^ 16 + fade

/-- The connection table as software reads it: empty in a warm start until it is rebuilt at warm step 9 (R123). -/
def State.connTable (s : State) : List Conn := if s.boot.warm && !(s.boot.done.getLsbD 8) then [] else s.hatch.conns

/-- HATCH_STATUS:01 and 02 (R125). -/
def State.hatchStatus (s : State) (sub : Nat) : Nat :=
  let h := s.hatch
  if sub = 1 then
    ((h.commit.map (·.stage)).getD 0) * 2 ^ 29 + h.lastStatus * 2 ^ 25 + (s.connTable.map (·.outs.length)).foldl (· + ·) 0 * 2 ^ 16 +
    h.lastTag
  else s.connTable.length * 2 ^ 11 + (h.elems.filter (fun (e : Nat × Elem) => e.2.failed)).length

/-- HATCH_CONN of an input (R127), in the layout of HATCH_STAGE. -/
def State.hatchConn (s : State) (i : Nat) : Nat :=
  match s.connTable.find? (fun c => c.input = i) with
  | none => 0
  | some c =>
    2 ^ 62 + c.outs.length * 2 ^ 58 + i * 2 ^ 50 + (c.outs.zipIdx.map (fun x => x.1 / 4 * 2 ^ (6 * x.2))).foldl (· + ·) 0

/-- RATIO as HATCH_ELEM shows it (R127): bar sends none of the power across, cross all of it, a split and a FAILED element what they hold. -/
def Elem.shownRatio (x : Elem) : Nat :=
  if x.failed || x.mode = 2 then x.ratio else if x.mode = 1 then 63 else 0

/-- HATCH_ELEM (R127). -/
def State.hatchElem (s : State) (stage m : Nat) : Nat :=
  let x := s.hatch.elems.get {} (128 * stage + m)
  (if x.failed then 3 else x.mode) * 2 ^ 30 + x.shownRatio * 2 ^ 24 + x.heater

/-! ### Tables, core, Ductus and Nibs -/

/-- TABLE_STATUS (R176). -/
def State.tableStatus (s : State) : Nat :=
  let t := s.tables
  ofBool t.batch.isSome * 2 ^ 31 + t.lastStatus * 2 ^ 27 + t.failedOp * 2 ^ 22 + t.lastTag

/-- SCHED_STATUS (R223). -/
def State.schedStatus (s : State) (sub : Nat) : Nat :=
  let d := s.ductus
  if sub = 1 then
    d.state * 2 ^ 30 + ofBool d.armed * 2 ^ 29 + ofBool d.shadowValid * 2 ^ 28 + d.imageStatus * 2 ^ 16 + d.lastTag
  else if sub = 2 then d.activeId
  else if sub = 3 then d.shadowId
  else d.lastSwap

/-- STATE of a Nib (R251): failed, in a Proof window, or active while it holds a row, a context, a waiting invocation, a pass, or
blocks reserved for live chunk-threads (log entry 38). -/
def State.nibState (s : State) (n : Nat) : Nat :=
  let x := s.nib n
  if (s.unit (unitId 0x0A n)).state = 3 then 3
  else if x.window then 2
  else if x.rows = [] && x.ctxs = [] && x.waiting = [] && x.passes = [] && s.reservedOn n = 0 then 0 else 1

/-- NIB_STATUS (R251). -/
def State.nibStatus (s : State) (n sub : Nat) : Nat :=
  let x := s.nib n
  if sub = 1 then
    s.nibState n * 2 ^ 30 + (x.rows.filter (fun r => !r.spilled)).length * 2 ^ 16 +
    min 65535 (x.rows.filter (fun r => r.spilled)).length
  else
    (20 - s.nibStep) * 2 ^ 27 + (x.rows.filter (fun r => r.wide && !r.spilled)).length * 2 ^ 16 + x.batchFill * 2 ^ 12

/-- NIB_PROG_STATUS (R272). -/
def State.progStatus (s : State) (sub : Nat) : Nat :=
  let p := s.progs
  if sub = 1 then p.state * 2 ^ 30 + p.lastStatus * 2 ^ 24 + p.lastProgram * 2 ^ 16 + p.lastTag
  else p.failedInstr * 2 ^ 21 + p.library.length * 2 ^ 12 + s.pinnedPages

/-- NIB_PROG_CTX (R273). -/
def State.progCtx (s : State) (n sub : Nat) : Nat :=
  let x := s.nib n
  if sub = 1 then x.ctxs.length * 2 ^ 25 + x.lastFault * 2 ^ 19 + x.faultPc * 2 ^ 8 + x.faultProgram else x.faultChunk

/-! ### Collectives, Ligature, memory and hosts -/

/-- COLL_STATUS (R300). -/
def State.collStatus (s : State) (sub : Nat) : Nat :=
  match sub with
  | 1 => s.liveThreads
  | 2 => s.liveRanges
  | 3 => s.coll.failChunk
  | 4 => s.coll.failJob * 256 + s.coll.failCause
  | _ => s.coll.failDetail

/-- LIG_STATUS (R321). -/
def State.ligStatusObj (s : State) (sub : Nat) : Nat :=
  match sub with
  | 1 => s.lig.tracked.length
  | 2 => s.lig.heldNos.length
  | 3 => s.lig.idsUsed.length
  | _ => s.lig.lastErrorJob * 256 + s.lig.lastError

/-- MEM_STATUS (R340). -/
def State.memStatus (s : State) (sub : Nat) : Nat :=
  match sub with
  | 1 => s.mem.lpd.toNat * 2 ^ 16 + s.mem.ink.toNat * 2 ^ 12 + s.mem.poolGib
  | 2 => ofBool s.mem.zeroDone * 2 ^ 31 + s.spillBlocks
  | _ => 67108864 - s.lig.granules

/-- HOST_PORT_STATUS (R364). -/
def State.hostPortStatus (s : State) (hostB : Bool) : Nat :=
  let p := s.port hostB
  let d : Domain := if hostB then .hostB else .hostA
  let on := (s.host.rings.filter (fun (e : Nat × CmdRing) => s.ringDomain e.1 = d && e.2.enable)).length
  (if p.up then p.speed else 0) * 2 ^ 29 + (if p.up then p.width else 0) * 2 ^ 24 + p.enabled.length * 2 ^ 18 + on

/-! ### Time, jobs, faults, security and Chop -/

/-- Codes of R386. -/
def Servo.code : Servo → Nat
  | .free => 0 | .acquire => 1 | .track => 2 | .holdover => 3

/-- TIME_STATUS (R386). -/
def State.timeStatus (s : State) (sub : Nat) : Nat :=
  match sub with
  | 1 => s.time.servo.code * 2 ^ 29 + ofBool s.timeSet * 2 ^ 28 + s.time.source * 2 ^ 20 + s.time.errShown
  | 2 => s.time.inc
  | _ => s.advertised.clockClass * 2 ^ 24 + s.advertised.steps % 256 * 2 ^ 16

/-- SNAP_STATUS (R389). -/
def State.snapStatus (s : State) (sub : Nat) : Nat :=
  let word (b : Bank) : Nat := b.epoch * 2 ^ 32 + ofBool b.valid * 2 ^ 31 + ofBool b.held * 2 ^ 30 + ofBool b.unsynced * 2 ^ 29
  match sub with
  | 1 => word s.folio.bank0
  | 2 => word s.folio.bank1
  | 3 => s.folio.bank0.cell
  | 4 => s.folio.bank1.cell
  | _ => ofBool s.folio.armed * 2 ^ 31 + s.folio.store.length

/-- TIME_NOW (R386). -/
def State.timeNow (s : State) (sub : Nat) : Nat := if sub = 1 then s.time.sec else s.time.ns * 2 ^ 32 + s.time.frac

/-- TRIG_CFG:02 (R385). -/
def State.trigStatus (s : State) (t : Nat) : Nat :=
  let x := s.time.triggers.get {} t
  x.action * 2 ^ 24 + ofBool x.armed

/-- JOB_STATUS of a slot (R474). -/
def State.jobStatus (s : State) (j : Nat) : Nat :=
  let x := s.slot j
  x.state.code * 2 ^ 29 + ofBool x.shadow * 2 ^ 28 + ofBool (s.faults.scrubList.any (fun e => e.1 = j)) * 2 ^ 27 +
  x.generation * 2 ^ 16 + x.endReason * 2 ^ 8

/-- UNIT_SELECT of a source (R413). -/
def State.unitSelected (s : State) (src : DopSrc) : Nat :=
  ((s.codex.unitSelect.find? (fun e => e.1 = src)).map (·.2)).getD 0x1200

/-- UNIT_STATE of a unit (R476). -/
def State.unitStateObj (s : State) (u : Nat) : Nat :=
  let x := s.unit u
  x.state * 2 ^ 30 + x.health * 2 ^ 22 + x.lastCause * 2 ^ 14

/-- TABLE_SELECT of a source, without CHECK_FAIL (R478). -/
def State.tableSelected (s : State) (src : DopSrc) : Nat :=
  ((s.codex.tableSelect.find? (fun e => e.1 = src)).map (·.2)).getD 0

/-- CHOP_STATUS (R441). -/
def State.chopStatus (s : State) : Nat :=
  let c := s.chop
  ofBool c.unsealed * 2 ^ 30 + ofBool c.keyReady * 2 ^ 29 + ofBool c.synced * 2 ^ 28 + ofBool c.cal.isSome * 2 ^ 27 +
  c.held.length * 2 ^ 23

/-- SEC_STATUS (R431). -/
def State.secStatus (s : State) : Nat :=
  let x := s.sec
  x.version * 2 ^ 16 + x.keyIndex * 2 ^ 14 + ofBool s.aliasKey * 2 ^ 13 + ofBool x.erased * 2 ^ 12 + ofBool x.unlocked * 2 ^ 11 +
  s.codex.sessions.length * 2 ^ 7

/-! ### One object -/

/-- Status fields that stand beside the flags of a flag object. -/
def State.besideFlags (s : State) (idx : Nat) : Nat :=
  if idx = 0x6200 then s.power.lastOff * 2 ^ 20 + s.quillStep * 2 ^ 16 + s.nibStep * 2 ^ 8
  else if 0x6340 ≤ idx && idx < 0x6380 then s.fibreStatus (idx - 0x6340)
  else if 0x6440 ≤ idx && idx < 0x6480 then s.tables.lastReject.get 0 (idx - 0x6440) * 2 ^ 24
  else 0

/-- Counters of R375 whose events no command is given: bytes of an Inkwell stack (log entry 146). `k` is the index less 0x7000. -/
def freeCounters (k sub : Nat) : Bool :=
  k / 0x40 = 9 && sub ≤ 2

/-- A counter as a snapshot bank latched it (R377). -/
def Bank.read (b : Bank) (k sub : Nat) : Nat :=
  if b.valid && freeCounters k sub then (Config.freeCounter b.cell k sub).toNat else b.counters.get 0 (objKey (0x7000 + k) sub)

/-- A counter index: live, or as a snapshot bank latched it (R377). -/
def State.readCounter (s : State) (idx sub : Nat) : Nat :=
  let k := idx % 0x1000
  if idx < 0x8000 then
    (if freeCounters k sub then (Config.freeCounter s.now k sub).toNat else s.counters.get 0 (objKey (0x7000 + k) sub))
  else if idx < 0x9000 then s.folio.bank0.read k sub
  else s.folio.bank1.read k sub

/-- Status objects of the optics, of Hatch, of a Nib and of a job slot, which repeat over indices; none elsewhere. -/
def State.readRepeated (s : State) (idx sub : Nat) : Option Nat :=
  if 0x6300 ≤ idx && idx < 0x6310 then some (s.engineStatus (idx - 0x6300))
  else if 0x6340 ≤ idx && idx < 0x6380 then some (s.laneStatus (idx - 0x6340) (sub - 2))
  else if 0x6380 ≤ idx && idx < 0x6390 then some (s.sourceStatus (idx - 0x6380) (sub - 1))
  else if 0x63B0 ≤ idx && idx < 0x63B4 then some (s.hatchConn ((idx - 0x63B0) * 64 + (sub - 1)))
  else if 0xA300 ≤ idx && idx < 0xA30F then some (s.hatchElem (idx - 0xA300) (sub - 1))
  else if 0x6400 ≤ idx && idx < 0x6440 then some (s.jobStatus ((idx - 0x6400) * 64 + (sub - 1)))
  else if 0x6540 ≤ idx && idx < 0x6560 then some (s.nibStatus (idx - 0x6540) sub)
  else if 0x65A0 ≤ idx && idx < 0x65C0 then some (s.progCtx (idx - 0x65A0) sub)
  else if 0x6620 ≤ idx && idx < 0x6622 then some (s.hostPortStatus (idx = 0x6621))
  else none

/-- The value of a status object. -/
def State.readStatus (s : State) (src : DopSrc) (idx sub : Nat) : Nat :=
  match s.readRepeated idx sub with
  | some v => v
  | none =>
    match idx with
    | 0x1000 => if sub = 6 then s.boot.straps.slotId.toNat else s.param 0x1000 sub
    | 0x1040 => s.sec.nonce
    | 0x1100 => if s.chop.keyReady then leNat s.chop.pubKey else 0
    | 0x1101 => if sub = 1 then s.chopStatus else if sub = 2 then s.chop.audit else s.chop.lastRecord
    | 0x1F02 => if s.boot.recovery then s.codex.recoveryStatus else 0
    | 0x6100 => s.bootStatus
    | 0x6122 => if sub = 1 then s.faults.cleanRun else if sub = 2 then s.faults.mismatches else s.faults.missed
    | 0x6180 => s.secStatus
    | 0x63A0 => s.hatchStatus sub
    | 0x6480 => s.tableStatus
    | 0x6482 => (s.tables.evictLog[sub - 1]?).getD 0
    | 0x64C0 => if sub = 1 then s.core.planesIn * 2 ^ 16 + s.core.planeCount else s.core.freeCells
    | 0x6500 => s.schedStatus sub
    | 0x6580 => s.progStatus sub
    | 0x65C0 => s.collStatus sub
    | 0x65E0 => s.ligStatusObj sub
    | 0x6600 => s.memStatus sub
    | 0x6640 => s.timeStatus sub
    | 0x6642 => s.snapStatus sub
    | 0x6644 => s.timeNow sub
    | 0xA000 => s.unitStateObj (s.unitSelected src)
    | 0xA201 => leNat (s.tableEntry (s.tableSelected src))
    | _ => s.param idx sub

/-- The value of an object that is written and read: what its last write or the hardware set. -/
def State.readStored (s : State) (src : DopSrc) (idx sub : Nat) : Nat :=
  if 0x2460 ≤ idx && idx < 0x2470 && sub = 2 then s.trigStatus (idx - 0x2460)
  else match idx with
    | 0x1102 => s.chop.newInterval.getD s.chop.interval
    | 0x21D2 => s.tables.stage.get 0 (sub - 1)
    | 0xA000 => s.unitSelected src
    | 0xA200 => s.tableSelected src + ofBool (s.tables.checkFail.contains src) * 2 ^ 55
    | _ => s.param idx sub

/-- The value of an object, as a requester's READ returns it (R2); none where it does not exist. -/
def State.readObj (s : State) (src : DopSrc) (idx sub : Nat) : Option Nat :=
  if sub = 0 then objHighest idx
  else if (counterHighest idx).isSome then (objRow idx sub).map (fun _ => s.readCounter idx sub)
  else (objRow idx sub).map (fun r =>
    match r.acc with
    | .wo => 0
    | .const => r.reset
    | .w1c => s.besideFlags idx + (s.flagObj idx).val.toNat
    | .rw => s.readStored src idx sub
    | .ro => s.readStatus src idx sub)

/-- The type of an object; subindex 00 is a U8 (R392). -/
def objType (idx sub : Nat) : ObjType := if sub = 0 then .u8 else ((objRow idx sub).map (·.typ)).getD .u8

/-- A value as a DOP frame carries it (R393). -/
def wireValue (t : ObjType) (v : Nat) : List Byte :=
  match t with
  | .bytes n => leBytes n v
  | t => beBytes t.size v

/-! ### What a read does (R4, R386, R478) -/

/-- Latch a high word for a requester. -/
def State.latchHigh (s : State) (src : DopSrc) (key v : Nat) : State :=
  s.modCodex (fun c => { c with latches := c.latches.filter (fun e => !(e.1 = src && e.2.1 = key)) ++ [(src, key, v)] })

/-- The high word latched for a requester, if one is. -/
def State.latched (s : State) (src : DopSrc) (key : Nat) : Option Nat :=
  (s.codex.latches.find? (fun e => e.1 = src && e.2.1 = key)).map (·.2.2)

/-- The next read of the high word takes the latch. -/
def State.dropLatch (s : State) (src : DopSrc) (key : Nat) : State :=
  s.modCodex (fun c => { c with latches := c.latches.filter (fun e => !(e.1 = src && e.2.1 = key)) })

/-- A READ of an object: its value, and what the read changes. TIME_NOW:01 latches TIME_NOW:02 (R386); TABLE_ENTRY sets
CHECK_FAIL of its reader (R478). -/
def State.takeRead (s : State) (src : DopSrc) (idx sub : Nat) : Option (Nat × State) :=
  match s.readObj src idx sub with
  | none => none
  | some v =>
    if idx = 0x6644 && sub = 1 then some (v, s.latchHigh src (objKey 0x6644 2) (s.timeNow 2))
    else if idx = 0x6644 && sub = 2 then
      some ((s.latched src (objKey 0x6644 2)).getD v, s.dropLatch src (objKey 0x6644 2))
    else if idx = 0xA201 && sub = 1 then
      let sel := s.tableSelected src
      let bad := s.badAt (bits sel 58 56) (bits sel 63 60) (bits sel 17 0)
      some (v, s.modTables (fun t =>
        { t with checkFail := t.checkFail.filter (· ≠ src) ++ (if bad then [src] else []) }))
    else some (v, s)

/-! ### Domains (R405) -/

/-- Insert a record of the log by RECORD_NO. -/
def insertRec (r : FlashRec) : List FlashRec → List FlashRec
  | [] => [r]
  | x :: l => if leAt r.payload 8 4 < leAt x.payload 8 4 then r :: x :: l else x :: insertRec r l

/-- The bytes of the records of the Chop log that verify, in ascending RECORD_NO (R440). -/
def State.chopLogBytes (s : State) : List Byte :=
  if !s.chop.keyReady then []
  else
    let rs := (chopLog s.flash).filter (fun r => chopVerifies s.chop.pubKey r.payload)
    (rs.foldl (fun l r => insertRec r l) []).flatMap (·.payload)

/-- A stored domain's length, and the bytes of a segment of it. SAMPLE_DATA is not one: it is consumed. -/
def State.domainSegment (s : State) (idx off : Nat) : Nat × List Byte :=
  let of (l : List Byte) : Nat × List Byte := (l.length, slice l off 2028)
  match idx with
  | 0x1F01 => of (s.codex.loads.get {} 0x1F01).bytes
  | 0x21F2 => of s.ductus.shadow
  | 0x2303 => of s.progs.buffer
  | 0xA400 => of s.chopLogBytes
  | 0xA500 =>
    match s.faults.dumps.get none s.faults.selected with
    | some d =>
      if d.ended then
        (d.size, (List.range (min 2028 (d.size - off))).map (fun i => s.mem.byte (s.dumpAddr s.faults.selected (off + i))))
      else (0, [])
    | none => (0, [])
  | 0xA501 => of s.historyPayload
  | _ => (0, [])

end Sys2Proof.Machine
end

