-- ==== Sys2Proof/Machine/Codex.lean ====
section
/-!
DEFINITION. The Codex server's operations (R398 to R408) for a whole DOP frame from any source, the mailbox (R361), BAR0 (R345) and the
management Ethernet (R401).
-/

namespace Sys2Proof.Machine

/-! ### Operations -/

/-- READ (R398, R399). -/
def codexRead (q : DopReq) (s : State) (role : Nat) : Except DopStatus DopAnswer :=
  if !objExists q.idx q.sub then .error .noObject
  else if role < readRole q.idx then .error .accessDenied
  else if q.data ≠ [] then .error .size
  else match objType q.idx q.sub with
    | .domain _ => .error .size
    | t => match s.takeRead q.src q.idx q.sub with
      | some (v, s') => .ok { data := wireValue t v, st := s' }
      | none => .error .noObject

/-- RESET_CMD (R411): the warm reset follows the response. -/
def resetCommand (s : State) (v : Nat) : Except DopStatus State :=
  if bits v 31 24 ≠ 1 || bits v 23 0 ≠ 0 then .error .range else .ok (s.modCodex (fun c => { c with resetDue := true }))

/-- What a write does at any object that its type and access let a WRITE reach. -/
def writeObj (src : DopSrc) (idx sub : Nat) : State → Nat → Except DopStatus State :=
  match objType idx sub with
  | .flags32 => fun s v => .ok (s.clearFlags idx (BitVec.ofNat 32 v))
  | _ =>
    if 0x1110 ≤ idx && idx < 0x1120 then accountMapWrite ((idx - 0x1110) * 64 + (sub - 1))
    else match idx with
      | 0x1020 => credWrite sub
      | 0x1102 => if sub = 1 then intervalWrite else calWrite
      | 0x1E00 => resetCommand
      | 0x1F00 => recoveryCommand
      | _ => moduleObjWrite src idx sub

/-- WRITE (R398). -/
def codexWrite (q : DopReq) (s : State) (role : Nat) : Except DopStatus DopAnswer :=
  if q.idx = 0x1040 && q.sub = 2 then debugUnlockAct q s role
  else dopWriteAct q (writeObj q.src q.idx q.sub s) role

/-- SAMPLE_DATA is consumed (R381, R405): the oldest whole records, at most 63, leave the store. -/
def takeSamples (s : State) : DopAnswer :=
  let st := s.folio.store
  { data := (st.take 63).flatten, last := st.length ≤ 63, st := s.modFolio (fun f => { f with store := f.store.drop 63 }) }

/-- SEG_READ (R405). -/
def codexSegRead (q : DopReq) (s : State) (role : Nat) : Except DopStatus DopAnswer :=
  if !objExists q.idx q.sub then .error .noObject
  else if role < readRole q.idx then .error .accessDenied
  else match objType q.idx q.sub with
    | .domain _ =>
      if q.data ≠ [] then .error .size
      else if q.idx = 0xA110 then .ok (takeSamples s)
      else
        let (len, seg) := s.domainSegment q.idx q.offset
        .ok { data := seg, last := len ≤ q.offset + seg.length, st := s }
    | _ => .error .size

/-- A load into a domain may take a segment now: its begin-load command has been given, and no chapter's rule stops it. -/
def State.loadOpen (s : State) (idx : Nat) : Bool :=
  (s.codex.loads.get {} idx).active &&
  (match idx with
   | 0x1F01 => s.boot.recovery
   | 0x21F2 => !s.ductus.armed
   | 0x2303 => s.progs.state = 1
   | _ => false)

/-- Store a segment. The shadow bank and the program buffer are the loads of their chapters (R208, R260). -/
def State.storeSegment (s : State) (idx : Nat) (src : DopSrc) (data : List Byte) (last : Bool) : State :=
  let l := s.codex.loads.get {} idx
  let l : Load := { active := !last, owner := some src, bytes := l.bytes ++ data }
  let s := s.modCodex (fun c => { c with loads := c.loads.put {} idx l })
  match idx with
  | 0x21F2 => s.modDuctus (fun d => { d with shadow := l.bytes, shadowValid := false })
  | 0x2303 => s.modProgs (fun p => { p with buffer := l.bytes, lastTouch := s.now })
  | _ => s

/-- SEG_WRITE (R405). -/
def codexSegWrite (q : DopReq) (s : State) (role : Nat) : Except DopStatus DopAnswer :=
  match (if q.sub = 0 then none else objRow q.idx q.sub) with
  | none => if objExists q.idx q.sub then .error .accessDenied else .error .noObject
  | some row =>
    let byAcc := match row.acc with | .ro => false | .const => false | _ => true
    if !byAcc || role < writeRole q.idx then .error .accessDenied
    else match row.typ with
      | .domain n =>
        let l := s.codex.loads.get {} q.idx
        if !s.loadOpen q.idx || (l.owner.isSome && l.owner ≠ some q.src) then .error .state
        else if q.offset ≠ l.bytes.length || n < q.offset + q.data.length then .error .segment
        else .ok { st := s.storeSegment q.idx q.src q.data (bit q.flags 1) }
      | _ => .error .size

/-- The 32 counters of a flag object as OCCURRENCE returns them (R407). -/
def occurrenceBytes (x : FlagObj) : List Byte := (List.range 32).flatMap (fun k => beBytes 2 (x.counts.get 0 k))

/-- OCCURRENCE (R407): of a FLAGS32 object, or of HOST_EVENTS on a function's mailbox. -/
def codexOccurrence (q : DopReq) (s : State) (role : Nat) : Except DopStatus DopAnswer :=
  let clear := bit q.flags 2
  match (if q.idx = 0 && q.sub = 0 then srcFunction q.src else none) with
  | some fn =>
    if clear && role < 2 then .error .accessDenied
    else if q.data ≠ [] then .error .size
    else .ok { data := occurrenceBytes (s.func fn).events
               st := if clear then s.updFunc fn (fun f => { f with events := { f.events with counts := [] } }) else s }
  | none =>
    if !objExists q.idx q.sub || objType q.idx q.sub ≠ .flags32 then .error .noObject
    else if role < readRole q.idx || (clear && role < writeRole q.idx) then .error .accessDenied
    else if q.data ≠ [] then .error .size
    else .ok { data := occurrenceBytes (s.flagObj q.idx)
               st := if clear then { s with flags := s.flags.upd {} (objKey q.idx 1) (fun x => { x with counts := [] }) } else s }

/-- DESCRIBE's 8 bytes (R398). -/
def describeBytes (idx sub : Nat) : List Byte :=
  let writable : Bool := sub ≠ 0 && ((objRow idx sub).map (fun r => r.acc ≠ .ro && r.acc ≠ .const)).getD false
  let t := objType idx sub
  beBytes 1 t.code ++ beBytes 1 (readRole idx) ++ beBytes 1 (if writable then writeRole idx else 255) ++
  beBytes 1 ((objHighest idx).getD 0) ++ beBytes 4 t.size

/-- DESCRIBE. -/
def codexDescribe (q : DopReq) (s : State) (role : Nat) : Except DopStatus DopAnswer :=
  if !objExists q.idx q.sub then .error .noObject
  else if role < readRole q.idx then .error .accessDenied
  else if q.data ≠ [] then .error .size
  else .ok { data := describeBytes q.idx q.sub, st := s }

/-- SUBSCRIBE (R408): from the management Ethernet and the margin channel; a fifth is refused. -/
def codexSubscribe (q : DopReq) (s : State) : Except DopStatus DopAnswer :=
  let ms := beNat q.data
  let others := s.codex.subs.filter (fun x => x.src ≠ q.src)
  if q.data.length ≠ 2 then .error .size
  else if ms ≠ 0 && (ms < 10 || 10000 < ms) then .error .range
  else if (srcFunction q.src).isSome then .error .state
  else if ms = 0 then .ok { st := s.modCodex (fun c => { c with subs := others }) }
  else if 4 ≤ others.length then .ok { status := .busy, st := s.setFlag 0x6001 4 }
  else .ok { st := s.modCodex (fun c => { c with subs := others ++ [{ src := q.src, notifyMs := ms }] }) }

/-- What a request whose frame, session and recovery checks have passed does. -/
def codexAct (q : DopReq) (s : State) (role : Nat) : Except DopStatus DopAnswer :=
  match q.op with
  | 1 => codexRead q s role
  | 2 => codexWrite q s role
  | 3 => codexSegRead q s role
  | 4 => codexSegWrite q s role
  | 5 => codexOccurrence q s role
  | 6 => codexDescribe q s role
  | 7 => codexSubscribe q s
  | 0x10 => sessionOpen q s
  | 0x11 => sessionAuth q s
  | 0x12 => sessionClose q s
  | 0x18 => mctpPacket q s
  | _ => .error .badFrame

/-- Serve a request of any operation, with what an accepted reset or recovery command does once its response has left. -/
def State.serve (s : State) (q : DopReq) : State :=
  let s := s.dopArrives q.src
  (dopServe s q (codexAct q s)).afterServe

/-- A frame's request (R397). -/
def dopParse (src : DopSrc) (b : List Byte) (queueFull : Bool) : DopReq :=
  { src := src, op := byteAt b 1, flags := byteAt b 3, transaction := beAt b 4 2, session := beAt b 6 2, idx := beAt b 8 2
    sub := byteAt b 10, offset := beAt b 12 4, data := b.drop 20, queueFull := queueFull
    sound := 20 ≤ b.length && b.length ≤ 2048 && byteAt b 0 = 0x10 && byteAt b 2 = 0 && byteAt b 11 = 0 && beAt b 18 2 = 0 &&
      beAt b 16 2 + 20 = b.length }

/-! ### Typed requests -/

/-- A request of an operation. -/
def dopReq (r : Req) (op idx sub : Nat) : DopReq :=
  { src := r.src, op := op, transaction := r.transaction, session := r.session, idx := idx, sub := sub, queueFull := r.queueFull }

/-- DOP operation 0x01. -/
def execDopRead (r : Req) (idx : BitVec 16) (sub : BitVec 8) (s : State) : Out := .next (s.serve (dopReq r 1 idx.toNat sub.toNat))

/-- DOP operation 0x03. -/
def execDopSegRead (r : Req) (idx : BitVec 16) (sub : BitVec 8) (offset : BitVec 32) (s : State) : Out :=
  .next (s.serve { dopReq r 3 idx.toNat sub.toNat with offset := offset.toNat })

/-- DOP operation 0x03 on SAMPLE_DATA. -/
def execSampleDataRead (r : Req) (s : State) : Out := .next (s.serve (dopReq r 3 0xA110 1))

/-- DOP operation 0x04. -/
def execDopSegWrite (r : Req) (idx : BitVec 16) (sub : BitVec 8) (offset : BitVec 32) (last : Bool) (data : List Byte) (s : State) :
    Out :=
  .next (s.serve { dopReq r 4 idx.toNat sub.toNat with offset := offset.toNat, flags := 2 * ofBool last, data := data })

/-- DOP operation 0x05. -/
def execDopOccurrence (r : Req) (idx : BitVec 16) (sub : BitVec 8) (clear : Bool) (s : State) : Out :=
  .next (s.serve { dopReq r 5 idx.toNat sub.toNat with flags := 4 * ofBool clear })

/-- DOP operation 0x06. -/
def execDopDescribe (r : Req) (idx : BitVec 16) (sub : BitVec 8) (s : State) : Out :=
  .next (s.serve (dopReq r 6 idx.toNat sub.toNat))

/-- DOP operation 0x07. -/
def execDopSubscribe (r : Req) (notifyMs : BitVec 16) (s : State) : Out :=
  .next (s.serve { dopReq r 7 0 0 with data := beBytes 2 notifyMs.toNat })

/-- RESET_CMD command 1 (R411). -/
def execWarmResetCommand (r : Req) (arg : BitVec 24) (s : State) : Out :=
  .next (serveWrite s r 0x1E00 1 (command32 1 arg.toNat) resetCommand).afterServe

/-! ### Notification -/

/-- The FLAGS32 objects with a set flag, as NOTIFY lists them (R408). -/
def State.notifyEntries (s : State) : List Byte :=
  ((s.flags.filter (fun (e : Nat × FlagObj) => e.2.val ≠ 0)).take 507).flatMap (fun e =>
    beBytes 2 (e.1 / 256) ++ beBytes 1 (e.1 % 256) ++ zeros 1)

/-- A NOTIFY frame: OP 0x08, every other field 0. -/
def notifyFrame (data : List Byte) : List Byte :=
  [BitVec.ofNat 8 0x10, BitVec.ofNat 8 8] ++ zeros 14 ++ beBytes 2 data.length ++ zeros 2 ++ data

/-- NOTIFY_MS after the last: a subscriber is told of the objects whose flags are set, if there are any. -/
def execNotifySend (src : DopSrc) (s : State) : Out :=
  let data := s.notifyEntries
  if s.scribeUp && s.codex.subs.any (fun x => x.src = src) && data ≠ [] then .next (dopSend s src (notifyFrame data)) else .next s

/-- 60 s after a source's last SUBSCRIBE (R408). -/
def execSubscriptionExpiry (src : DopSrc) (s : State) : Out :=
  if s.codex.subs.any (fun x => x.src = src) then
    .next ((s.modCodex (fun c => { c with subs := c.subs.filter (fun x => x.src ≠ src) })).setFlag 0x6001 4)
  else .next s

/-! ### The mailbox and BAR0 -/

/-- The source of a function's requests. -/
def fnSrc (fn : Nat) : DopSrc :=
  if fn = 128 then .quill false else if fn = 129 then .quill true
  else if fn % 64 = 0 then .pf (64 ≤ fn) else .vf (64 ≤ fn) (fn % 64)

/-- MBOX_CTRL is written (R361): REQ_LEN is stored; GO sends the request in MBOX_REQ. -/
def State.mailbox (s : State) (fn value : Nat) (queueFull : Bool) : State :=
  let len := bits value 11 0
  let s := s.updFunc fn (fun f => { f with reqLen := len })
  if !(bit value 31) then s
  else if (s.func fn).busy then (s.updFunc fn (fun f => { f with goIgnored := f.goIgnored + 1 })).countHost (fnDomain fn) 6
  else if len = 0 || 2048 < len then (s.updFunc fn (fun f => { f with respLen := 0 })).hostEvent fn 2
  else
    let req := readBytes (s.func fn).req 0 len
    let s := (s.updFunc fn (fun f => { f with busy := true })).countHost (fnDomain fn) 5
    (s.serve (dopParse (fnSrc fn) req queueFull)).updFunc fn (fun f => { f with busy := false })

/-- The owner writes a frame into MBOX_REQ, then MBOX_CTRL with its value. -/
def execMboxGo (fn : Fin 130) (value : BitVec 32) (frame : List Byte) (queueFull : Bool) (s : State) : Out :=
  if s.fnPresent fn then
    let s := s.updFunc fn (fun f => { f with req := writeBytes f.req 0 (frame.take 2048) })
    .next (s.mailbox fn value.toNat queueFull)
  else .next s

/-- The local ring and register offset of a BAR0 offset in the RING_CFG region. -/
def ringReg (off : Nat) : Nat × Nat := ((off - 0x8000) / 64, off % 64)

/-- The compatibility window is mapped for a function (R383). -/
def State.compatOn (s : State) (fn : Nat) : Bool := fnVf fn = 0 && bit (s.param 0x2450 1) (domNo (fnDomain fn))

/-- A 64-bit register of BAR0: its value; none where none starts at the offset. -/
def State.barReg64 (s : State) (fn off : Nat) : Option Nat :=
  if off % 8 ≠ 0 || !(s.fnReaches fn) then none
  else if 0x4000 ≤ off && off < 0x41F8 then
    (if fn = 0 || fn = 64 then some ((s.port (64 ≤ fn)).assign.get 0 ((off - 0x4000) / 8 + 1)) else none)
  else if 0x8000 ≤ off && off < 0x48000 && off % 64 < 0x10 then
    (s.globalRing fn (ringReg off).1).map (fun g => if off % 64 = 0 then (s.ring g).descBase else (s.ring g).cqBase)
  else if 0xF0000 ≤ off && off < 0xF2100 && s.compatOn fn then
    (if off = 0xF0008 then some s.cellNow
     else if 0xF0100 ≤ off then
       some (s.counter (0x7C00 + 256 * s.param 0x2450 2 + (off - 0xF0100) / 32) ((off - 0xF0100) / 8 % 4 + 1))
     else none)
  else none

/-- A 32-bit register of BAR0 (R345, R349, R361, R383, R460); an unassigned offset reads 0. -/
def State.barReg32 (s : State) (fn off : Nat) : Nat :=
  let f := s.func fn
  let d := fnDomain fn
  let v := fnVf fn
  let a := (s.domPort d).assign.get 0 v
  if off = 0 then domNo d * 2 ^ 24 + v * 2 ^ 16 + (if v = 0 then s.ringCount d else vfRingCount a)
  else if off = 0x10 then s.bootStatus
  else if off = 0x1000 then ofBool f.busy * 2 ^ 30 + f.respLen * 2 ^ 16 + f.reqLen
  else if 0x2000 ≤ off && off < 0x2800 then leNat (readBytes f.req (off - 0x2000) 4)
  else if 0x2800 ≤ off && off < 0x3000 then leNat (slice f.resp (off - 0x2800) 4)
  else if !(s.fnReaches fn) then 0
  else if off = 0x08 then
    (if v = 0 then s.slotBase d * 2 ^ 16 + s.slotCount d else vfJobFirst a * 2 ^ 16 + vfJobCount a)
  else if off = 0x20 then f.events.val.toNat
  else if off = 0x24 then f.eventEn
  else if off = 0x48 then (if v = 0 then s.faults.heartbeat else 0)
  else if 0x8000 ≤ off && off < 0x48000 then
    match s.globalRing fn (ringReg off).1 with
    | none => 0
    | some g =>
      let r := s.ring g
      match (ringReg off).2 with
      | 0x10 => ofBool r.enable * 2 ^ 31 + r.sizeLog2 * 2 ^ 24 + r.vector
      | 0x14 => ofBool r.halted * 2 ^ 31 + r.haltCause * 2 ^ 28 + r.out_.length
      | 0x18 => ofBool r.phase * 2 ^ 31 + r.cqTail
      | 0x1C => r.sqHead
      | _ => 0
  else if s.compatOn fn then (if off = 0xF0000 then 0x56435457 else if off = 0xF0010 then s.param 0x2450 2 else 0)
  else 0

/-- A 32-bit read of BAR0: the read of a low word latches its high word, and the next read of the high word by the requester takes the
latch (R4). -/
def State.barRead32 (s : State) (fn off : Nat) : Nat × State :=
  let src := fnSrc fn
  match s.barReg64 fn off with
  | some v => (v % 2 ^ 32, s.latchHigh src (off + 4) (v / 2 ^ 32))
  | none =>
    match (if off % 8 = 4 then s.barReg64 fn (off - 4) else none) with
    | some v => ((s.latched src off).getD (v / 2 ^ 32), s.dropLatch src off)
    | none => (s.barReg32 fn off, s)

/-- A 64-bit read of BAR0: one consistent value. -/
def State.barRead64 (s : State) (fn off : Nat) : Nat :=
  match s.barReg64 fn off with
  | some v => v
  | none => s.barReg32 fn off + s.barReg32 fn (off + 4) * 2 ^ 32

/-- Whether BAR0 of a function decodes an offset: 1 MiB in a PF or partition, 64 KiB in a VF (R344); accesses are aligned. -/
def barHas (fn off : Nat) (wide : Bool) : Bool := (fnVf fn = 0 || off < 0x10000) && off % (if wide then 8 else 4) = 0

/-- A register of BAR0 is read. -/
def execLowWordRead (fn : Fin 130) (offset : BitVec 20) (wide : Bool) (s : State) : Out :=
  let off := offset.toNat
  if !(s.fnPresent fn) || !(barHas fn off wide) then .next s
  else if wide then .next (s.emit (.readData (fnSrc fn) (s.barRead64 fn off)))
  else
    let (v, s) := s.barRead32 fn off
    .next (s.emit (.readData (fnSrc fn) v))

/-- What a write of a register with a command of its own does. -/
def afterOut (o : Out) (s : State) : State :=
  match o with
  | .next t => t
  | _ => s

/-- DESC_BASE or CQ_BASE of a ring is written (R349): while ENABLE is 1, CFG_REJECT; bits 11:0 are reserved. -/
def State.writeRingBase (s : State) (fn g off value : Nat) : State :=
  let v := value - value % 4096
  if (s.ring g).enable then s.hostEvent fn 4
  else if off = 0 then s.updRing g (fun r => { r with descBase := v })
  else s.updRing g (fun r => { r with cqBase := v })

/-- A 64-bit register is written whole. -/
def State.barWriteReg64 (s : State) (fn : Fin 130) (off value : Nat) : State :=
  if off < 0x8000 then
    afterOut (execVfAssignWrite (64 ≤ fn.val) (Fin.ofNat 64 ((off - 0x4000) / 8 + 1)) (BitVec.ofNat 64 value) s) s
  else if off < 0x48000 then
    match s.globalRing fn (ringReg off).1 with
    | some g => s.writeRingBase fn g (ringReg off).2 value
    | none => s
  else s

/-- A 32-bit register is written; what is read only, or unassigned, ignores it (R2, R345). -/
def State.barWriteReg32 (s : State) (fn : Fin 130) (off value : Nat) : State :=
  let w : BitVec 32 := BitVec.ofNat 32 value
  if off = 0x1000 then s.mailbox fn value false
  else if 0x2000 ≤ off && off < 0x2800 then
    s.updFunc fn (fun f => { f with req := writeBytes f.req (off - 0x2000) (leBytes 4 value) })
  else if !(s.fnReaches fn) then s
  else if off = 0x20 then
    (s.updFunc fn (fun f => { f with events := { f.events with val := f.events.val &&& ~~~w } })).reviewVector fn 0
  else if off = 0x24 then (s.updFunc fn (fun f => { f with eventEn := value % 32 })).reviewVector fn 0
  else if off = 0x40 then afterOut (execIntAck fn w s) s
  else if off = 0x50 then afterOut (execRecoverWrite fn w s) s
  else if 0x8000 ≤ off && off < 0x48000 && off % 64 = 0x10 then
    (if bit value 31 then afterOut (execRingEnable fn (ringReg off).1 w s) s
     else afterOut (execRingDisable fn (ringReg off).1 w s) s)
  else s

/-- A 32-bit write of BAR0; one half of a 64-bit register keeps the other. -/
def State.barWrite32 (s : State) (fn : Fin 130) (off value : Nat) : State :=
  match s.barReg64 fn off with
  | some v => s.barWriteReg64 fn off (v / 2 ^ 32 * 2 ^ 32 + value % 2 ^ 32)
  | none =>
    match (if off % 8 = 4 then s.barReg64 fn (off - 4) else none) with
    | some v => s.barWriteReg64 fn (off - 4) (v % 2 ^ 32 + value % 2 ^ 32 * 2 ^ 32)
    | none => s.barWriteReg32 fn off (value % 2 ^ 32)

/-- A write of BAR0. -/
def State.barWrite (s : State) (fn : Fin 130) (off value : Nat) (wide : Bool) : State :=
  if !(s.fnPresent fn) || !(barHas fn off wide) then s
  else if !wide then s.barWrite32 fn off value
  else if (s.barReg64 fn off).isSome then s.barWriteReg64 fn off value
  else (s.barWrite32 fn off (value % 2 ^ 32)).barWrite32 fn (off + 4) (value / 2 ^ 32)

/-- The limit of R19 is written while Scribe firmware runs: a value outside 1,200 W to 2,100 W is rejected, and the limit keeps its
value. -/
def State.writePowerLimit (s : State) (w : Nat) : State :=
  if s.boot.done.getLsbD 2 ∧ 1200 ≤ w ∧ w ≤ 2100 then s.modPower (fun p => { p with limit := w }) else s

/-- A write of a register or object, checked and applied whole (R404). -/
def execRegisterWrite (w : RegWrite) (s : State) : Out :=
  match w with
  | .object r idx sub data => .next (s.serve { dopReq r 2 idx.toNat sub.toNat with data := data })
  | .bar fn offset value wide => .next (s.barWrite fn offset.toNat value.toNat wide)
  | .powerLimit watts => .next (s.writePowerLimit watts)

/-- Flags are written 1 to clear them (R406). -/
def execFlagClear (w : FlagWrite) (s : State) : Out :=
  match w with
  | .object r idx value =>
    .next (s.serve { dopReq r 2 idx.toNat 1 with data := beBytes 4 value.toNat })
  | .events fn value => .next (if s.fnPresent fn then s.barWriteReg32 fn 0x20 value.toNat else s)

/-! ### The management Ethernet (R401) -/

/-- MGMT_MAC, and the module's addresses: link-local, MGMT_IPV6, MGMT_IPV4. -/
def State.mgmtMac (s : State) : Nat := s.param 0x1000 5
def State.mgmtIp4 (s : State) : Nat := s.param 0x1008 1
def State.linkLocal (s : State) : Nat :=
  let m := s.mgmtMac
  0xFE80 * 2 ^ 112 + ((m / 2 ^ 24) ^^^ 0x020000) * 2 ^ 40 + 0xFFFE * 2 ^ 24 + m % 2 ^ 24
def State.mgmtIp6 (s : State) : List Nat := s.linkLocal :: (if s.param 0x1008 2 = 0 then [] else [s.param 0x1008 2])

/-- The station takes a frame: its own address, broadcast, or the solicited-node group of one of its addresses. -/
def State.mgmtTakes (s : State) (dst : Nat) : Bool :=
  dst = s.mgmtMac || dst = 2 ^ 48 - 1 || s.mgmtIp6.any (fun a => dst = 0x3333FF000000 + a % 2 ^ 24)

/-- Discarded and counted. -/
def State.mgmtDiscard (s : State) : State := (s.modCodex (fun c => { c with mgmtDiscards := c.mgmtDiscards + 1 })).setFlag 0x6001 1

/-- A frame of the station: the request's tag, if it had one, stays. -/
def State.mgmtSend (s : State) (b : List Byte) (dst : Nat) (body : List Byte) : State :=
  let head := beBytes 6 dst ++ beBytes 6 s.mgmtMac ++ slice b 12 ((parseFrame b).off - 12)
  s.emit (.mgmt (withFcs (head ++ body ++ zeros (60 - (head ++ body).length))))

/-- The answer to an ARP request for MGMT_IPV4. -/
def State.onArp (s : State) (b : List Byte) (o : Nat) : State :=
  if slice b o 8 = [0, 1, 8, 0, 6, 4, 0, 1] && s.mgmtIp4 ≠ 0 && beAt b (o + 24) 4 = s.mgmtIp4 then
    s.mgmtSend b (macSrc b) (beBytes 2 0x0806 ++ ([0, 1, 8, 0, 6, 4, 0, 2] : List Byte) ++ beBytes 6 s.mgmtMac ++ beBytes 4 s.mgmtIp4 ++
      slice b (o + 8) 10)
  else s

/-- The pseudo-header of an upper-layer checksum over IPv6 (next header `p`), and over IPv4. -/
def pseudo6 (src dst len p : Nat) : List Byte := beBytes 16 src ++ beBytes 16 dst ++ beBytes 4 len ++ beBytes 4 p
def pseudo4 (src dst len p : Nat) : List Byte := beBytes 4 src ++ beBytes 4 dst ++ beBytes 2 p ++ beBytes 2 len

/-- Put a checksum over `pre` and the message into its bytes `at_` and `at_` + 1, which hold 0. -/
def withSum (pre : List Byte) (at_ : Nat) (m : List Byte) : List Byte :=
  m.take at_ ++ beBytes 2 (inetSum (pre ++ m)) ++ m.drop (at_ + 2)

/-- Serve a DOP datagram, if it is one. -/
def State.onUdp (s : State) (src : Nat) (u : List Byte) (queueFull : Bool) : State :=
  let n := beAt u 4 2
  if beAt u 2 2 = s.param 0x1008 3 && 8 ≤ n && n ≤ u.length then
    s.serve (dopParse (.mgmt src (beAt u 0 2)) (slice u 8 (n - 8)) queueFull)
  else s

/-- An IPv4 packet at offset `o`. The time to live and identification of an answer are free values (log entry 2). -/
def State.onIpv4 (s : State) (b : List Byte) (o : Nat) (queueFull : Bool) : State :=
  let total := beAt b (o + 2) 2
  let src := beAt b (o + 12) 4
  let dst := beAt b (o + 16) 4
  let body := slice b (o + 20) (total - 20)
  if byteAt b o / 16 ≠ 4 || byteAt b o % 16 < 5 || b.length < o + total || total < 20 then s
  else if 5 < byteAt b o % 16 || beAt b (o + 6) 2 % 16384 ≠ 0 then s.mgmtDiscard
  else if inetSum (slice b o 20) ≠ 0 || s.mgmtIp4 = 0 || dst ≠ s.mgmtIp4 then s
  else if byteAt b (o + 9) = 1 then
    if byteAt body 0 = 8 && byteAt body 1 = 0 && inetSum body = 0 then
      let (x, s) := s.freeBelow (255 * 65536)
      let icmp := withSum [] 2 (zeros 4 ++ body.drop 4)
      let ip := beBytes 1 0x45 ++ zeros 1 ++ beBytes 2 total ++ beBytes 2 (x / 255) ++ zeros 2 ++ beBytes 1 (1 + x % 255) ++
        beBytes 1 1 ++ zeros 2 ++ beBytes 4 dst ++ beBytes 4 src
      s.mgmtSend b (macSrc b) (beBytes 2 0x0800 ++ withSum [] 10 ip ++ icmp)
    else s
  else if byteAt b (o + 9) = 17 then
    let n := beAt body 4 2
    if n < 8 || body.length < n then s
    else if beAt body 6 2 ≠ 0 && inetSum (pseudo4 src dst n 17 ++ body.take n) ≠ 0 then s.mgmtDiscard
    else s.onUdp (0xFFFF * 2 ^ 32 + src) body queueFull
  else s

/-- IPv6 extension headers. -/
def isExtension (p : Nat) : Bool := [0, 43, 44, 50, 51, 60, 135, 139, 140, 253, 254].contains p

/-- An IPv6 packet of the station with an ICMPv6 message, whose checksum bytes hold 0. -/
def State.sendIcmp6 (s : State) (b : List Byte) (mac src dst hop : Nat) (m : List Byte) : State :=
  s.mgmtSend b mac (beBytes 2 0x86DD ++ beBytes 4 0x60000000 ++ beBytes 2 m.length ++ beBytes 1 58 ++ beBytes 1 hop ++
    beBytes 16 src ++ beBytes 16 dst ++ withSum (pseudo6 src dst m.length 58) 2 m)

/-- An ICMPv6 message: Neighbor Solicitation for one of the addresses (RFC 4861) and echo. -/
def State.onIcmp6 (s : State) (b : List Byte) (o : Nat) (src dst : Nat) (m : List Byte) : State :=
  let target := beAt m 8 16
  if inetSum (pseudo6 src dst m.length 58 ++ m) ≠ 0 then s
  else if byteAt m 0 = 135 && byteAt m 1 = 0 && byteAt b (o + 7) = 255 && 24 ≤ m.length && s.mgmtIp6.contains target then
    let known : Bool := src ≠ 0
    let to_ := if known then src else 0xFF02 * 2 ^ 112 + 1
    let mac := if known then macSrc b else 0x333300000001
    s.sendIcmp6 b mac target to_ 255 (beBytes 1 136 ++ zeros 3 ++ beBytes 4 ((if known then 0x60000000 else 0x20000000)) ++
      beBytes 16 target ++ beBytes 2 0x0201 ++ beBytes 6 s.mgmtMac)
  else if byteAt m 0 = 128 && byteAt m 1 = 0 && s.mgmtIp6.contains dst then
    let (x, s) := s.freeBelow 255
    s.sendIcmp6 b (macSrc b) dst src (1 + x) (beBytes 1 129 ++ zeros 3 ++ m.drop 4)
  else s

/-- An IPv6 packet at offset `o`. -/
def State.onIpv6 (s : State) (b : List Byte) (o : Nat) (queueFull : Bool) : State :=
  let len := beAt b (o + 4) 2
  let next := byteAt b (o + 6)
  let src := beAt b (o + 8) 16
  let dst := beAt b (o + 24) 16
  let body := slice b (o + 40) len
  if byteAt b o / 16 ≠ 6 || b.length < o + 40 + len then s
  else if isExtension next then s.mgmtDiscard
  else if next = 58 then s.onIcmp6 b o src dst body
  else if next = 17 && s.mgmtIp6.contains dst then
    let n := beAt body 4 2
    if n < 8 || body.length < n then s
    else if beAt body 6 2 = 0 || inetSum (pseudo6 src dst n 17 ++ body.take n) ≠ 0 then s.mgmtDiscard
    else s.onUdp src body queueFull
  else s

/-- A frame on the management lane, FCS included. A frame that fails its FCS, is longer than 2,200 bytes or is for another station is
not taken. -/
def execMgmtFrameReceive (bytes : List Byte) (queueFull : Bool) (s : State) : Out :=
  let p := parseFrame bytes
  let o := p.off + 2
  let b := bytes.take (bytes.length - 4)
  if !s.scribeUp || bytes.length < 64 || 2200 < bytes.length || !(fcsOk bytes) || !(s.mgmtTakes (macDst bytes)) then .next s
  else if 1 < p.tags then .next s.mgmtDiscard
  else match etherType b with
    | 0x0806 => .next (s.onArp b o)
    | 0x0800 => .next (s.onIpv4 b o queueFull)
    | 0x86DD => .next (s.onIpv6 b o queueFull)
    | _ => .next s

end Sys2Proof.Machine
end

