-- ==== Sys2Proof/Machine/JobCmds.lean ====
section
/-!
DEFINITION. Commands of job slots at their instants (R448 to R454).
-/

namespace Sys2Proof.Machine

/-- ACK_DEADLINE of a coordinator's slot (R449). -/
def execCommitDecision (j : Fin 4096) (s : State) : Out :=
  let x := s.slot j
  if x.state = .prepared && x.coordinator && !x.commitHeld && x.ackDeadline ≤ s.cellNow then .next (s.decideCommit j) else .next s

/-- START_CELL of a slot that holds COMMIT (R449, R470). -/
def execJobGoLive (j : Fin 4096) (s : State) : Out :=
  let x := s.slot j
  if x.state = .prepared && x.commitHeld && x.startCell ≤ s.cellNow then .next (s.goLive j) else .next s

/-- START_CELL − G of a slot without COMMIT or CANCEL (R450). -/
def execPrepareTimeout (j : Fin 4096) (s : State) : Out :=
  let x := s.slot j
  if x.state = .prepared && !x.commitHeld && x.startCell ≤ s.cellNow + s.guardCells then
    let s := s.jobToSet j 7 7 s.cellNow 0 []
    let s := if x.coordinator then s.forEach x.shares (fun s e => s.jobToMac j 7 7 e.1 s.cellNow 0)
      else s.jobToMac j 7 7 x.coordMac s.cellNow 0
    .next (s.prepareEnds j 7 2)
  else .next s

/-- Draining ends (R452). -/
def execDrainEnd (j : Fin 4096) (s : State) : Out :=
  if (s.slot j).state = .draining && s.drained j then .next (s.endDrainJob j) else .next s

/-- A slot leaves QUARANTINE (R453): FREE, with its generation and END_REASON (R474). In service only. -/
def execQuarantineEnd (j : Fin 4096) (s : State) : Out :=
  let x := s.slot j
  if x.state = .quarantine && s.service && x.quarantineAt + s.quarantineCells ≤ s.cellNow then
    .next (s.updSlot j (fun y => { generation := y.generation, shadow := y.shadow, endReason := y.endReason }))
  else .next s

/-- The range at the head of the scrub list is zero (R454): never before SCRUB_GBPS allows. -/
def execScrubRangeDone (s : State) : Out :=
  match s.faults.scrubList with
  | [] => .next s
  | r :: rest =>
    if !(s.boot.done.getLsbD 5) || s.faults.scrubbed < r.2.2 * 1000 then .next s
    else
      let a := s.poolBase + r.2.1
      let s := s.modMem (fun m => m.zeroLpd a r.2.2)
      .next (s.modFaults (fun x => { x with scrubList := rest, scrubbed := 0 }))

/-- The 10 µs spacing of SHARE ends with a changed sum held back (R448). -/
def execJobShareSend (j : Fin 4096) (s : State) : Out :=
  let x := s.slot j
  if x.state = .prepared && x.shareOwed && !x.coordinator && x.shareSpaced s.now then .next (s.sendShare j) else .next s

end Sys2Proof.Machine
end

