-- ==== Sys2Proof/Machine/Margin.lean ====
section
/-!
DEFINITION. Frames received on the margin channel: the checks of R145 to R147, the hop's sequence, acknowledgement and credit (R148,
R149), relayed frames (R151), and one command per kind of frame; keepalives, resending and the loss of the channel (R148).
-/

namespace Sys2Proof.Machine

/-- What a delimited frame proves to be. -/
inductive MarginIn where
  /-- the channel is dark: nothing is received -/
  | dark
  /-- CHECK or delimited length fails (R145) -/
  | badCheck
  /-- VERSION, LENGTH bound or reserved field (R146) -/
  | badHeader
  /-- R147 -/
  | badType
  /-- a sequenced frame other than the next expected (R148) -/
  | badSeq
  /-- RELAY is set: the wavelength slot it names -/
  | relay (slot : Nat)
  | frame (typ : Nat) (payload : List Byte)
deriving DecidableEq, Repr

/-- SEQD of a TYPE, and the range of its LENGTH (R147); a TIME frame's length is judged as a message. -/
def typeRule : Nat → Option (Bool × Nat × Nat)
  | 0x01 => some (false, 0, 0)
  | 0x02 => some (false, 40, 40)
  | 0x03 => some (true, 4, 4)
  | 0x04 => some (true, 8, 8)
  | 0x05 => some (true, 8, 8)
  | 0x06 => some (false, 72, 72)
  | 0x07 => some (true, 4, 4)
  | 0x08 => some (true, 16, 16)
  | 0x09 => some (true, 16, 16)
  | 0x0A => some (true, 18, 34)
  | 0x0B => some (true, 16, 16)
  | 0x10 => some (false, 8, 8)
  | 0x11 => some (false, 0, 2048)
  | 0x12 => some (true, 1, 2048)
  | 0x13 => some (true, 1, 2048)
  | 0x14 => some (true, 64, 2048)
  | 0x15 => some (true, 1, 2048)
  | 0x16 => some (true, 1, 2048)
  | _ => none

/-- Judge a frame, in the order of R145, R146, R151, R147 and R148. -/
def State.marginKind (s : State) (f : Nat) (b : List Byte) : MarginIn :=
  let len := beAt b 8 2
  let seqd := bit (byteAt b 0) 3
  let typ := byteAt b 1
  let seq := beAt b 2 2
  if (s.fibre f).marginState = .dark then .dark
  else if b.length < 16 || b.length ≠ len + 16 || beAt b (b.length - 4) 4 ≠ crc32c (b.take (b.length - 4)) then .badCheck
  else if byteAt b 0 / 16 ≠ 1 || 2048 < len || beAt b 10 2 ≠ 0 then .badHeader
  else if bit (byteAt b 0) 2 then .relay (12 + byteAt b 0 % 4)
  else match typeRule typ with
    | none => .badType
    | some (sq, lo, hi) =>
      if sq ≠ seqd || len < lo || hi < len || byteAt b 0 % 4 ≠ 0 || (!seqd && seq ≠ 0) then .badType
      else if seqd && seq ≠ (s.fibre f).margin.rxSeq then .badSeq
      else .frame typ (slice b 12 len)

/-- ACK: the frames before it are no longer held (R148). -/
def Margin.acked (m : Margin) (ack : Nat) : Margin :=
  match m.heldFrames with
  | [] => m
  | (first, _) :: _ =>
    let n := (ack + 65536 - first) % 65536
    if n ≤ m.heldFrames.length then { m with heldFrames := m.heldFrames.drop n } else m

/-- The hop's part of an accepted frame: its number, its acknowledgement and its credit. -/
def State.marginHop (s : State) (f : Nat) (b : List Byte) : State :=
  (s.updFibre f (fun x =>
    let m := x.margin.acked (beAt b 4 2)
    { x with margin := { m with
        rxSeq := if bit (byteAt b 0) 3 then (m.rxSeq + 1) % 65536 else m.rxSeq
        tc7Limit := beAt b 6 2 } })).countFibre f 1

/-- Take a frame of a TYPE: nothing happens where the frame is of another kind. What credit and acknowledgement have made room for is
sent. -/
def State.marginTake (s : State) (f typ : Nat) (b : List Byte) (h : State → List Byte → State) : State :=
  match s.marginKind f b with
  | .frame t pl => if t = typ then pumpMargin (h (s.marginHop f b) pl) f else s
  | _ => s

/-! ### The frames -/

/-- A KEEPALIVE: acknowledgement and credit only. -/
def execKeepaliveReceive (f : Fin 64) (bytes : List Byte) (s : State) : Out :=
  .next (s.marginTake f 0x01 bytes (fun s _ => s))

/-- A HELLO. -/
def execHelloReceive (f : Fin 64) (bytes : List Byte) (s : State) : Out :=
  .next (s.marginTake f 0x02 bytes (fun s pl => onHello s f pl))

/-- A LANE_DROP. -/
def execLaneDropReceive (f : Fin 64) (bytes : List Byte) (s : State) : Out :=
  .next (s.marginTake f 0x03 bytes (fun s pl => onLaneDrop s f pl))

/-- A LANE_ADD. -/
def execLaneAddReceive (f : Fin 64) (bytes : List Byte) (s : State) : Out :=
  .next (s.marginTake f 0x04 bytes (fun s pl => onLaneAdd s f pl))

/-- A LANE_ADD_CONFIRM. -/
def execLaneAddConfirmReceive (f : Fin 64) (bytes : List Byte) (s : State) : Out :=
  .next (s.marginTake f 0x05 bytes (fun s pl => onLaneAddConfirm s f pl))

/-- An ERROR_REPORT. -/
def execErrorReportReceive (f : Fin 64) (bytes : List Byte) (s : State) : Out :=
  .next (s.marginTake f 0x06 bytes (fun s pl => onErrorReport s f pl))

/-- A PILOT_FAULT. -/
def execPilotFaultReceive (f : Fin 64) (bytes : List Byte) (s : State) : Out :=
  .next (s.marginTake f 0x07 bytes (fun s pl => onPilotFault s f pl))

/-- A CHANGEOVER notice of the far end. -/
def execChangeoverNoticeReceive (f : Fin 64) (bytes : List Byte) (s : State) : Out :=
  .next (s.marginTake f 0x08 bytes (fun s pl => onChangeover s f pl))

/-- A CHANGEOVER_ACK. -/
def execChangeoverAckReceive (f : Fin 64) (bytes : List Byte) (s : State) : Out :=
  .next (s.marginTake f 0x09 bytes (fun s pl => onChangeoverAck s f pl))

/-- A CIRCUIT_ACK, or a CIRCUIT frame, which only the module has use for sending. -/
def execCircuitAckReceive (f : Fin 64) (bytes : List Byte) (s : State) : Out :=
  let s := s.marginTake f 0x0A bytes (fun s pl => onCircuit s f pl)
  .next (s.marginTake f 0x0B bytes (fun s pl => onCircuitAck s f pl))

/-- The effect of an ABORT (R152, R455): the first of a group aborts the jobs that use the fibre. -/
def onAbort (s : State) (f : Nat) (pl : List Byte) : State :=
  let recent : Bool := match (s.fibre f).margin.abortAt with
    | some t => s.now < t + 10000000
    | none => false
  if byteAt pl 0 = 0 || 8 ≤ byteAt pl 0 || 64 ≤ byteAt pl 1 || 16 ≤ byteAt pl 2 || beAt pl 3 5 ≠ 0 then s.countFibre f 4
  else if recent then s
  else abortJobsOnFibre (s.updFibre f (fun x => { x with margin := { x.margin with abortAt := some s.now } })) f 4

/-- An ABORT. -/
def execAbortReceive (f : Fin 64) (bytes : List Byte) (s : State) : Out :=
  .next (s.marginTake f 0x10 bytes (fun s pl => onAbort s f pl))

/-- A TIME frame whose message is of a kind. -/
def State.timeTake (s : State) (f : Nat) (b : List Byte) (p : List Byte → Bool) : State :=
  match s.marginKind f b with
  | .frame 0x11 pl => if p pl then s.marginTake f 0x11 b (fun s pl => onTime s f pl) else s
  | _ => s

/-- A Sync. -/
def execPtpSyncReceive (f : Fin 64) (bytes : List Byte) (s : State) : Out :=
  .next (s.timeTake f bytes (fun pl => ptpType pl = 0))

/-- A Delay_Req. -/
def execPtpDelayReqReceive (f : Fin 64) (bytes : List Byte) (s : State) : Out :=
  .next (s.timeTake f bytes (fun pl => ptpType pl = 1))

/-- A Delay_Resp. -/
def execPtpDelayRespReceive (f : Fin 64) (bytes : List Byte) (s : State) : Out :=
  .next (s.timeTake f bytes (fun pl => ptpType pl = 9))

/-- An Announce, or a message of a type that R369 discards. -/
def execPtpAnnounceReceive (f : Fin 64) (bytes : List Byte) (s : State) : Out :=
  .next (s.timeTake f bytes (fun pl => !(ptpType pl = 0 || ptpType pl = 1 || ptpType pl = 9)))

/-- A JOB frame whose KIND is taken by a command. -/
def State.jobTake (s : State) (f : Nat) (b : List Byte) (p : List Byte → Bool) : State :=
  match s.marginKind f b with
  | .frame 0x12 pl => if p pl then s.marginTake f 0x12 b (fun s pl => onJob s f pl) else s
  | _ => s

/-- A JOB ACK, or a JOB frame of a KIND that the module does not act on. -/
def execJobAckReceive (f : Fin 64) (bytes : List Byte) (s : State) : Out :=
  .next (s.jobTake f bytes (fun pl => !(3 ≤ byteAt pl 0 && byteAt pl 0 ≤ 7)))

/-- A JOB SHARE. -/
def execJobShareReceive (f : Fin 64) (bytes : List Byte) (s : State) : Out := .next (s.jobTake f bytes (fun pl => isJobKind pl 3))

/-- A JOB COMMIT. -/
def execJobCommitReceive (f : Fin 64) (bytes : List Byte) (s : State) : Out := .next (s.jobTake f bytes (fun pl => isJobKind pl 4))

/-- A JOB CANCEL. -/
def execJobCancelReceive (f : Fin 64) (bytes : List Byte) (s : State) : Out := .next (s.jobTake f bytes (fun pl => isJobKind pl 5))

/-- A JOB TEARDOWN. -/
def execJobTeardownReceive (f : Fin 64) (bytes : List Byte) (s : State) : Out := .next (s.jobTake f bytes (fun pl => isJobKind pl 6))

/-- A JOB ABORT. -/
def execJobAbortReceive (f : Fin 64) (bytes : List Byte) (s : State) : Out := .next (s.jobTake f bytes (fun pl => isJobKind pl 7))

/-- A carried TC7 frame goes to its pipeline (R131); one that arrives before the pipelines run is lost. -/
def onCarry (s : State) (f : Nat) (pl : List Byte) : State :=
  if s.coreUp then
    let x : RxFrame := { link := 16 * f, carry := true, tc := 7, bytes := pl, start := s.now, udp := s.param 0x21C0 1 }
    s.modTables (fun t => { t with waiting := t.waiting.upd [] (f / 8) (· ++ [x]) })
  else s.countMisc .carryBad 1

/-- A CARRY frame. -/
def execCarryReceive (f : Fin 64) (bytes : List Byte) (s : State) : Out :=
  .next (s.marginTake f 0x14 bytes (fun s pl => onCarry s f pl))

/-- A DIGEST frame. -/
def execDigestReceive (f : Fin 64) (bytes : List Byte) (s : State) : Out :=
  .next (s.marginTake f 0x15 bytes (fun s pl => onDigest s f pl))

/-- A SCHED frame. -/
def execSchedFrameReceive (f : Fin 64) (bytes : List Byte) (s : State) : Out :=
  .next (s.marginTake f 0x16 bytes (fun s pl => onSched s f pl))

/-- A frame with RELAY set (R151): forwarded unchanged to the circuit peers of its slot. -/
def execRelayFrameReceive (f : Fin 64) (bytes : List Byte) (s : State) : Out :=
  match s.marginKind f bytes with
  | .relay slot => .next (relayFrame (s.countFibre f 1) f slot bytes)
  | _ => .next s

/-- A frame that a check of R145 to R148 discards. -/
def execMarginFrameDiscard (f : Fin 64) (bytes : List Byte) (s : State) : Out :=
  match s.marginKind f bytes with
  | .badCheck => .next ((s.countFibre f 3).setFlag (0x6440 + f.val) 0)
  | .badHeader => .next (s.countFibre f 4)
  | .badType => .next ((s.countFibre f 4).setFlag (0x6440 + f.val) 1)
  | .badSeq => .next (s.countMisc .marginUnaccepted 1)
  | _ => .next s

/-! ### The channel -/

/-- 10 µs with nothing else to send: a KEEPALIVE (R148). -/
def execKeepaliveSend (f : Fin 64) (s : State) : Out :=
  let x := s.fibre f
  if x.marginState = .up && !x.margin.stopped then .next (sendPlain s f 0x01 []) else .next s

/-- Send a held frame again. -/
def State.resendHeld (s : State) (f : Nat) (h : Nat × MarginFrame) : State :=
  ((s.emit (.marginFrame f ((s.fibre f).margin.wire h.2 h.1))).countFibre f 2).countFibre f 5

/-- ACK has not advanced for 5 µs plus the round trip: every held frame is sent again, oldest first (R148). The timer pauses in a
window (R157). -/
def execMarginResendTimeout (f : Fin 64) (s : State) : Out :=
  let x := s.fibre f
  if x.marginState = .up && !(s.timersPaused f) then .next (s.forEach x.margin.heldFrames (fun s h => s.resendHeld f h))
  else .next s

/-- Block lock is lost, or 50 µs have passed without a frame of good CHECK (R148). -/
def execMarginLossDetect (f : Fin 64) (s : State) : Out :=
  if (s.fibre f).marginState ≠ .dark && !(s.timersPaused f) then .next ((marginLost s f).dropPtp f) else .next s

/-- RX_LOS: no light on any of the 17 wavelengths for 2 µs (R81). -/
def execRxLos (f : Fin 64) (s : State) : Out := .next ((rxLos s f).dropPtp f)

end Sys2Proof.Machine
end

