-- ==== Sys2Proof/Machine/PowerCmds.lean ====
section
/-!
DEFINITION. The events on the power lands and of the power stage (R27 to R46), throttling (R35) and the on-die sensors (R43).
-/

namespace Sys2Proof.Machine

/-- EN rises (R32): once low for 50 ms it has released the latches; the power-up sequence starts once the rails have been off for
50 ms. A VIO_1V8 overload's lock ends here: R27 says 'until EN is next cycled', and the cycle is complete when EN has risen (DESIGN
CHOICE, log entry 148). -/
def execEnRise (s : State) : Out :=
  if s.power.en then .next s
  else
    .next (s.reviewEnLow.modPower (fun p => { p with en := true, enLowAt := none, vioLock := false, enAgain := true })).reviewEnAgain

/-- EN has been low for 10 µs (R32): the orderly shutdown from step 2. After a VIO_1V8 overload the core is held already, and its
cause stands (R29): the rails go off, and FAULT_N stays low until EN rises (log entry 148). Of what the power stage counts only
LAST_OFF_CAUSE and the rail faults survive. -/
def execEnFall (env : ShutdownEnv) (s : State) : Out :=
  if !s.power.en then .next s
  else
    let s := s.modPower (fun p => { p with en := false, enLowAt := some s.now, enAgain := false, ilimitOffs := [] })
    if !s.powered then .next s
    else if s.power.vioLock then .next s.railsOff
    else .next (s.orderly .en env)

/-- HOLDUP_WARN_N goes low (R33). -/
def execHoldupWarnAssert (env : ShutdownEnv) (s : State) : Out :=
  let s := s.modPower (fun p => { p with holdupWarn := true })
  .next (if s.powered then s.orderly .holdup env else s)

/-- VIN36 falls below 27.5 V (R34). -/
def execVinUndervoltage (s : State) : Out :=
  let s := s.modPower (fun p => { p with vinOk := false })
  .next (if s.powered then s.abrupt 2 else s)

/-- VIN36 rises above 42.0 V (R29). -/
def execVinOvervoltage (env : ShutdownEnv) (s : State) : Out :=
  let s := s.modPower (fun p => { p with vinOk := false })
  .next (if s.powered then s.orderly .overvoltage env else s)

/-- A PWR_EVENTS flag is set while the core runs (R36). -/
def State.pwrFlag (s : State) (b : Nat) : State := s.setFlagIf (s.boot.phase ≠ .off) 0x6200 b

/-- VIN36 falls below 30.0 V: UV_WARN (R29). -/
def execVinBelow30v (s : State) : Out := .next (s.pwrFlag 2)

/-- VIN36 rises above 40.0 V: OV_WARN (R29). -/
def execVinAbove40v (s : State) : Out := .next (s.pwrFlag 3)

/-- Input current reaches 76 A (R29). -/
def execInputCurrentLimit (s : State) : Out :=
  .next (if s.powered then (s.modPower (fun p => { p with limiting := true })).pwrFlag 4 else s)

/-- 10 ms at the limit (R29): abrupt shutdown; a third within 60 s blocks the restart. -/
def execIlimitTimeout (s : State) : Out :=
  if !s.power.limiting then .next s
  else
    let offs := s.power.ilimitOffs.filter (fun t => s.now < t + 60 * 10 ^ 12) ++ [s.now]
    .next ((s.abrupt 7).modPower (fun p => { p with ilimitOffs := offs, ilimitLock := 3 ≤ offs.length }))

/-- Automatic restart after LAST_OFF_CAUSE 2, 3 or 7 (R29). -/
def execAutoRestart (s : State) : Out :=
  if (s.power.lastOff = 2 || s.power.lastOff = 3 || s.power.lastOff = 7) && !s.powered then
    .next (s.modPower (fun p => { p with vinOk := true })).railsStart
  else .next s

/-- Restart after a hold-up turn-off (R29). -/
def execHoldupRestart (s : State) : Out :=
  if s.power.lastOff = 6 && !s.powered then
    .next (s.modPower (fun p => { p with vinOk := true, holdupWarn := false })).railsStart
  else .next s

/-- VIN36 reaches 29.0 V (R29): with EN high the power stage starts, but where R29 names a restart of its own. -/
def execVinStartThreshold (s : State) : Out :=
  let own : Bool := [2, 3, 6, 7].contains s.power.lastOff
  let s := s.modPower (fun p => { p with vinOk := true })
  .next (if own then s else s.railsStart)

/-- A load above 0.6 A trips VIO_1V8 (R27). -/
def execVio1v8Overload (s : State) : Out :=
  if s.power.vio18 then
    .next (s.holdCore.modPower (fun p => { p with vioLock := true, vio18 := false, lastOff := 8 }))
  else .next s

/-- The module runs: Scribe has left reset. -/
def State.running (s : State) : Bool :=
  match s.boot.phase with
  | .off => false
  | .rails => false
  | .cold n => 4 < n
  | .warm _ => true

/-- SYSCLK is lost while the module runs (R37). Before Scribe has left reset a loss is the absence that SYSCLK_ABSENT judges. -/
def execSysclkLoss (s : State) : Out :=
  let s := s.modPower (fun p => { p with sysclk := false })
  .next (if s.running then (s.abrupt 5).modPower (fun p => { p with coreHeld := true, clockHold := true }) else s)

/-- SYSCLK is absent 10 ms after the rails reach regulation (R37). -/
def execSysclkAbsent (s : State) : Out :=
  if s.power.pwrOk && s.boot.phase = .cold 4 then .next (s.modPower (fun p => { p with sysclk := false, clockHold := true })).holdCore
  else .next s

/-- 1 s after SYSCLK returns (R37): a cold start, with EN high, of a module that is held or off for want of SYSCLK. A core that
was held because SYSCLK was absent starts in the same way (DEDUCED, log entry 150). -/
def execSysclkReturn (s : State) : Out :=
  if s.power.sysclk then .next s
  else
    let s := s.modPower (fun p => { p with sysclk := true })
    if s.power.clockHold && !s.power.vioLock then
      let s := if s.powered then s.railsOff else s
      .next (s.modPower (fun p => { p with coreHeld := false, clockHold := false })).railsStart
    else if s.power.lastOff = 5 && !s.powered then .next s.railsStart
    else .next s

/-- A rail group reaches regulation (R45). -/
def execRailGroupRegulated (s : State) : Out :=
  if !s.power.ramping then .next s
  else if s.power.groups < 3 then .next (s.modPower (fun p => { p with groups := p.groups + 1 }))
  else
    .next ((s.modPower (fun p => { p with groups := 4, ramping := false, pwrOk := true, vio18 := true, railRetry := false })).modBoot
      (fun b => { b with phase := .cold 4 }))

/-- A rail group misses its ramp limit (R46). -/
def execRailFault (s : State) : Out :=
  if !s.power.ramping then .next s
  else
    .next (s.railsOff.modPower (fun p =>
      { p with railFaults := p.railFaults + 1, railLock := p.railRetry, railRetry := true }))

/-- 1 s after a rail fault the power stage retries once (R46). -/
def execRailRetry (s : State) : Out :=
  if s.power.railRetry then .next s.railsStart else .next s

/-! ### Throttling (R35) and sensors (R43) -/

/-- Key of a sensor. -/
def sensorKey : Sensor → Nat
  | .core => 0
  | .photonic e => 1 + e.val
  | .hatch => 17
  | .inkwell i => 18 + i.val
  | .lpddr i => 22 + i.val
  | .powerStage => 38

/-- Level of a sensor key. -/
def State.heatOf (s : State) (k : Nat) : Nat := s.power.heat.get 0 k

/-- Set a sensor's level. -/
def State.setHeat (s : State) (x : Sensor) (l : Nat) : State := s.modPower (fun p => { p with heat := p.heat.put 0 (sensorKey x) l })

/-- Sensors of a throttling kind. -/
def causeKeys : ThrottleCause → List Nat
  | .power _ => []
  | .core => [0]
  | .inkwell => (List.range 4).map (18 + ·)
  | .lpddr => (List.range 16).map (22 + ·)

/-- A demand rises by one step. -/
def Power.rise (p : Power) : ThrottleCause → Power
  | .power _ => if p.powerNib < 16 then { p with powerNib := p.powerNib + 1 } else { p with powerQuill := min 10 (p.powerQuill + 1) }
  | .core => if p.coreNib < 16 then { p with coreNib := p.coreNib + 1 } else { p with coreQuill := min 10 (p.coreQuill + 1) }
  | .inkwell => { p with inkNib := min 16 (p.inkNib + 1) }
  | .lpddr => { p with lpdQuill := min 10 (p.lpdQuill + 1) }

/-- A demand falls by one step, the Quill steps first. R35 gives that order for the power demand; for the core die's thermal demand
it gives none, and the model takes the same (DESIGN CHOICE, log entry 151). -/
def Power.fall (p : Power) : ThrottleCause → Power
  | .power _ => if 0 < p.powerQuill then { p with powerQuill := p.powerQuill - 1 } else { p with powerNib := p.powerNib - 1 }
  | .core => if 0 < p.coreQuill then { p with coreQuill := p.coreQuill - 1 } else { p with coreNib := p.coreNib - 1 }
  | .inkwell => { p with inkNib := p.inkNib - 1 }
  | .lpddr => { p with lpdQuill := p.lpdQuill - 1 }

/-- The limit in force: a power stage at 120 °C or more lowers it to 1,500 W (R43). -/
def Power.limitNow (p : Power) : Nat := if 2 ≤ p.heat.get 0 38 then min 1500 p.limit else p.limit

/-- The input power last reported is above the limit in force. -/
def Power.overLimit (p : Power) : Bool := p.limitNow < p.watts

/-- Both counts stand at their floors while input power is above the limit: PLIMIT_FLOOR. -/
def State.reviewFloor (s : State) : State :=
  s.setFlagIf (s.power.overLimit && s.nibStep = 16 && s.quillStep = 10) 0x6200 7

/-- A demand rises; the first step in force sets THROTTLE. -/
def State.throttleUp (s : State) (c : ThrottleCause) : State :=
  let idle : Bool := s.nibStep = 0 && s.quillStep = 0
  let s := s.modPower (fun p => p.rise c)
  s.setFlagIf (idle && !(s.nibStep = 0 && s.quillStep = 0)) 0x6200 6

/-- The 1 ms tick: power above the limit, or a sensor of a kind at its throttle temperature. The power demand rises only where the
reported power is above the limit in force; a thermal one only while a sensor of its kind has not fallen 3 K below. -/
def execThrottleDemandRise (c : ThrottleCause) (s : State) : Out :=
  if !(s.boot.done.getLsbD 2) then .next s
  else match c with
  | .power w =>
    let s := (s.modPower (fun p => { p with watts := w })).reviewFloor
    .next (if s.power.overLimit then s.throttleUp (.power w) else s)
  | c => if (causeKeys c).any (fun k => 2 ≤ s.heatOf k) then .next (s.throttleUp c).reviewFloor else .next s

/-- The 10 ms tick: power below 95 % of the limit, or every sensor of a kind 3 K below its throttle temperature. -/
def execThrottleDemandFall (c : ThrottleCause) (s : State) : Out :=
  if !(s.boot.done.getLsbD 2) then .next s
  else match c with
  | .power w =>
    let s := s.modPower (fun p => { p with watts := w })
    .next (if w * 100 < s.power.limitNow * 95 then s.modPower (fun p => p.fall (.power w)) else s.reviewFloor)
  | c => if (causeKeys c).any (fun k => 2 ≤ s.heatOf k) then .next s else .next (s.modPower (fun p => p.fall c)).reviewFloor

/-- A sensor passes its warning temperature, `up`, or falls 3 K below it (R43, R95, R122). -/
def execSensorWarning (x : Sensor) (up : Bool) (s : State) : Out :=
  if s.boot.phase = .off then .next s
  else if !up then
    let s := s.setHeat x 0
    match x with
    | .photonic e => .next (s.updEngine e (fun y => { y with hot := false }))
    | _ => .next s
  else
    let s := (s.setHeat x 1).setFlag 0x6200 5
    match x with
    | .photonic e =>
      let s := (s.updEngine e (fun y => { y with hot := true })).setFlag (0x6390 + e) 8
      .next (s.forEach ((List.range 4).map (4 * e.val + ·)) abandonTrial)
    | .hatch => .next (s.setFlag 0x63A1 6)
    | _ => .next s

/-- Throttle cause of a sensor. -/
def sensorCause : Sensor → Option ThrottleCause
  | .core => some .core
  | .inkwell _ => some .inkwell
  | .lpddr _ => some .lpddr
  | _ => none

/-- A sensor reaches its throttle temperature, `up`, or falls 3 K below it (R35, R43). The demand of a kind takes its first step
when the first sensor of the kind gets there; a further one lets the steps of the 1 ms tick go on. The power stage lowers the limit
of R19. -/
def execSensorThrottle (x : Sensor) (up : Bool) (s : State) : Out :=
  if s.boot.phase = .off then .next s
  else if !up then .next (s.setHeat x 1)
  else
    match sensorCause x with
    | some c =>
      let first : Bool := !((causeKeys c).any (fun k => 2 ≤ s.heatOf k))
      let s := s.setHeat x 2
      if s.boot.done.getLsbD 2 && first then .next (s.throttleUp c).reviewFloor else .next s
    | none =>
      let s := s.setHeat x 2
      .next (if s.boot.done.getLsbD 2 then s.reviewFloor else s)

/-- A sensor reaches its trip temperature (R44). -/
def execSensorTrip (x : Sensor) (s : State) : Out :=
  if s.powered then .next (s.setHeat x 3).trip else .next s

end Sys2Proof.Machine
end

