-- ==== Sys2Proof/Machine/Dispatch.lean ====
section
/-!
DEFINITION. One arm per command, each a direct call of its meaning.
-/

namespace Sys2Proof.Machine

def exec (i : Instr) (s : State) : Host.Outcome State Fault Refusal :=
  match i with
  | .enRise => Sys2Proof.Machine.execEnRise s
  | .enFall env => Sys2Proof.Machine.execEnFall env s
  | .holdupWarnAssert env => Sys2Proof.Machine.execHoldupWarnAssert env s
  | .vinUndervoltage => Sys2Proof.Machine.execVinUndervoltage s
  | .vinOvervoltage env => Sys2Proof.Machine.execVinOvervoltage env s
  | .vinBelow30v => Sys2Proof.Machine.execVinBelow30v s
  | .vinAbove40v => Sys2Proof.Machine.execVinAbove40v s
  | .inputCurrentLimit => Sys2Proof.Machine.execInputCurrentLimit s
  | .ilimitTimeout => Sys2Proof.Machine.execIlimitTimeout s
  | .autoRestart => Sys2Proof.Machine.execAutoRestart s
  | .holdupRestart => Sys2Proof.Machine.execHoldupRestart s
  | .vio1v8Overload => Sys2Proof.Machine.execVio1v8Overload s
  | .sysclkLoss => Sys2Proof.Machine.execSysclkLoss s
  | .sysclkAbsent => Sys2Proof.Machine.execSysclkAbsent s
  | .sysclkReturn => Sys2Proof.Machine.execSysclkReturn s
  | .railGroupRegulated => Sys2Proof.Machine.execRailGroupRegulated s
  | .railFault => Sys2Proof.Machine.execRailFault s
  | .railRetry => Sys2Proof.Machine.execRailRetry s
  | .throttleDemandRise c => Sys2Proof.Machine.execThrottleDemandRise c s
  | .throttleDemandFall c => Sys2Proof.Machine.execThrottleDemandFall c s
  | .sensorWarning x up => Sys2Proof.Machine.execSensorWarning x up s
  | .sensorThrottle x up => Sys2Proof.Machine.execSensorThrottle x up s
  | .sensorTrip x => Sys2Proof.Machine.execSensorTrip x s
  | .scribeResetRelease straps => Sys2Proof.Machine.execScribeResetRelease straps s
  | .bankSelect => Sys2Proof.Machine.execBankSelect s
  | .scribeFirmwareStart => Sys2Proof.Machine.execScribeFirmwareStart s
  | .configLoad => Sys2Proof.Machine.execConfigLoad s
  | .sramInitDone => Sys2Proof.Machine.execSramInitDone s
  | .lpddr6Trained failed => Sys2Proof.Machine.execLpddr6Trained failed s
  | .inkwellTrained failed => Sys2Proof.Machine.execInkwellTrained failed s
  | .quillRelease => Sys2Proof.Machine.execQuillRelease s
  | .photonicLoad => Sys2Proof.Machine.execPhotonicLoad s
  | .combStable => Sys2Proof.Machine.execCombStable s
  | .ringsLocked => Sys2Proof.Machine.execRingsLocked s
  | .linksStageEnd => Sys2Proof.Machine.execLinksStageEnd s
  | .serviceSet => Sys2Proof.Machine.execServiceSet s
  | .pcieConfigRequest hostB speed width sriov => Sys2Proof.Machine.execPcieConfigRequest hostB speed width sriov s
  | .perstDeassert hostB => Sys2Proof.Machine.execPerstDeassert hostB s
  | .perstAssert hostB => Sys2Proof.Machine.execPerstAssert hostB s
  | .warmRstAssert => Sys2Proof.Machine.execWarmRstAssert s
  | .warmRstRelease => Sys2Proof.Machine.execWarmRstRelease s
  | .warmPufRelease => Sys2Proof.Machine.execWarmPufRelease s
  | .warmMemoryReady failedLpd failedInk => Sys2Proof.Machine.execWarmMemoryReady failedLpd failedInk s
  | .warmQuillRestart => Sys2Proof.Machine.execWarmQuillRestart s
  | .recoveryBeginLoad r arg => Sys2Proof.Machine.execRecoveryBeginLoad r arg s
  | .recoveryInstall r arg => Sys2Proof.Machine.execRecoveryInstall r arg s
  | .dataRecordWrite typ payload => Sys2Proof.Machine.execDataRecordWrite typ payload s
  | .fibreCfgWrite r f value => Sys2Proof.Machine.execFibreCfgWrite r f value s
  | .marginLightDetect f => Sys2Proof.Machine.execMarginLightDetect f s
  | .helloSend f => Sys2Proof.Machine.execHelloSend f s
  | .helloReceive f bytes => Sys2Proof.Machine.execHelloReceive f bytes s
  | .laneAligned f w => Sys2Proof.Machine.execLaneAligned f w s
  | .alignTimeout f w => Sys2Proof.Machine.execAlignTimeout f w s
  | .soakEnd f w pass second => Sys2Proof.Machine.execSoakEnd f w pass second s
  | .laneAddReceive f bytes => Sys2Proof.Machine.execLaneAddReceive f bytes s
  | .laneAddConfirmReceive f bytes => Sys2Proof.Machine.execLaneAddConfirmReceive f bytes s
  | .laneFault f w cause => Sys2Proof.Machine.execLaneFault f w cause s
  | .holddownExpiry f w => Sys2Proof.Machine.execHolddownExpiry f w s
  | .laneDropReceive f bytes => Sys2Proof.Machine.execLaneDropReceive f bytes s
  | .trainingAttemptTimeout p => Sys2Proof.Machine.execTrainingAttemptTimeout p s
  | .rxLos f => Sys2Proof.Machine.execRxLos f s
  | .marginLossTimeout f => Sys2Proof.Machine.execMarginLossTimeout f s
  | .berWindowEnd f w ber errors corrected lost => Sys2Proof.Machine.execBerWindowEnd f w ber errors corrected lost s
  | .heaterUpdate f w ring demand => Sys2Proof.Machine.execHeaterUpdate f w ring demand s
  | .ringCapture f w ring => Sys2Proof.Machine.execRingCapture f w ring s
  | .ringUnlock f w ring => Sys2Proof.Machine.execRingUnlock f w ring s
  | .trialStart f w ring => Sys2Proof.Machine.execTrialStart f w ring s
  | .trialSubwindowRead f errors worse => Sys2Proof.Machine.execTrialSubwindowRead f errors worse s
  | .trialWindowEnd f => Sys2Proof.Machine.execTrialWindowEnd f s
  | .pilotWordReceive f w word => Sys2Proof.Machine.execPilotWordReceive f w word s
  | .pilotTimeout f w => Sys2Proof.Machine.execPilotTimeout f w s
  | .pilotRetryExpiry f w => Sys2Proof.Machine.execPilotRetryExpiry f w s
  | .pilotWordsLost f w => Sys2Proof.Machine.execPilotWordsLost f w s
  | .linePowerSample f w x => Sys2Proof.Machine.execLinePowerSample f w x s
  | .fadeDropRelease f w => Sys2Proof.Machine.execFadeDropRelease f w s
  | .spareReady e => Sys2Proof.Machine.execSpareReady e s
  | .spareOff e => Sys2Proof.Machine.execSpareOff e s
  | .changeoverNoticeSend e => Sys2Proof.Machine.execChangeoverNoticeSend e s
  | .changeoverAckReceive f bytes => Sys2Proof.Machine.execChangeoverAckReceive f bytes s
  | .changeoverAckTimeout e => Sys2Proof.Machine.execChangeoverAckTimeout e s
  | .changeoverWindowOpen e => Sys2Proof.Machine.execChangeoverWindowOpen e s
  | .changeoverWindowEnd e => Sys2Proof.Machine.execChangeoverWindowEnd e s
  | .changeoverNoticeReceive f bytes => Sys2Proof.Machine.execChangeoverNoticeReceive f bytes s
  | .sourceFailure e src => Sys2Proof.Machine.execSourceFailure e src s
  | .spareRouted e => Sys2Proof.Machine.execSpareRouted e s
  | .sourceReinstate r e src => Sys2Proof.Machine.execSourceReinstate r e src s
  | .changeoverNow r e src => Sys2Proof.Machine.execChangeoverNow r e src s
  | .windowRequest w => Sys2Proof.Machine.execWindowRequest w s
  | .hatchCommit r count tag => Sys2Proof.Machine.execHatchCommit r count tag s
  | .hatchClearStaging r tag => Sys2Proof.Machine.execHatchClearStaging r tag s
  | .hatchCancel r tag => Sys2Proof.Machine.execHatchCancel r tag s
  | .hatchRouteDone found => Sys2Proof.Machine.execHatchRouteDone found s
  | .hatchDrainEnd => Sys2Proof.Machine.execHatchDrainEnd s
  | .circuitNoticeSend => Sys2Proof.Machine.execCircuitNoticeSend s
  | .circuitAckReceive f bytes => Sys2Proof.Machine.execCircuitAckReceive f bytes s
  | .circuitAckTimeout => Sys2Proof.Machine.execCircuitAckTimeout s
  | .hatchApply => Sys2Proof.Machine.execHatchApply s
  | .hatchSettled => Sys2Proof.Machine.execHatchSettled s
  | .hatchCommitDone failed => Sys2Proof.Machine.execHatchCommitDone failed s
  | .hatchTrimTick k heater => Sys2Proof.Machine.execHatchTrimTick k heater s
  | .elementFailure k ratio => Sys2Proof.Machine.execElementFailure k ratio s
  | .darkInput inp light => Sys2Proof.Machine.execDarkInput inp light s
  | .relayFrameReceive f bytes => Sys2Proof.Machine.execRelayFrameReceive f bytes s
  | .dataFrameReceive p linkWord bytes => Sys2Proof.Machine.execDataFrameReceive p linkWord bytes s
  | .controlBlockReceive p bytes ecc => Sys2Proof.Machine.execControlBlockReceive p bytes ecc s
  | .controlBlockSend p => Sys2Proof.Machine.execControlBlockSend p s
  | .reorderHoldExpiry p => Sys2Proof.Machine.execReorderHoldExpiry p s
  | .replayTimeout p ecc => Sys2Proof.Machine.execReplayTimeout p ecc s
  | .egressSelect p => Sys2Proof.Machine.execEgressSelect p s
  | .keepaliveReceive f bytes => Sys2Proof.Machine.execKeepaliveReceive f bytes s
  | .keepaliveSend f => Sys2Proof.Machine.execKeepaliveSend f s
  | .marginResendTimeout f => Sys2Proof.Machine.execMarginResendTimeout f s
  | .marginLossDetect f => Sys2Proof.Machine.execMarginLossDetect f s
  | .errorReportSend f counts => Sys2Proof.Machine.execErrorReportSend f counts s
  | .errorReportReceive f bytes => Sys2Proof.Machine.execErrorReportReceive f bytes s
  | .pilotFaultReceive f bytes => Sys2Proof.Machine.execPilotFaultReceive f bytes s
  | .abortReceive f bytes => Sys2Proof.Machine.execAbortReceive f bytes s
  | .carryReceive f bytes => Sys2Proof.Machine.execCarryReceive f bytes s
  | .frameLookup k upsets => Sys2Proof.Machine.execFrameLookup k upsets s
  | .learnApply overrun => Sys2Proof.Machine.execLearnApply overrun s
  | .ageScan => Sys2Proof.Machine.execAgeScan s
  | .checkBitRepair others => Sys2Proof.Machine.execCheckBitRepair others s
  | .tableApply r arg => Sys2Proof.Machine.execTableApply r arg s
  | .tableClearStaging r arg => Sys2Proof.Machine.execTableClearStaging r arg s
  | .tableInsertExact => Sys2Proof.Machine.execTableInsertExact s
  | .tableDeleteExact => Sys2Proof.Machine.execTableDeleteExact s
  | .tableModifyResult => Sys2Proof.Machine.execTableModifyResult s
  | .tableAddPrefix => Sys2Proof.Machine.execTableAddPrefix s
  | .tableDeletePrefix => Sys2Proof.Machine.execTableDeletePrefix s
  | .tableWriteNextHop => Sys2Proof.Machine.execTableWriteNextHop s
  | .tableWriteVlanQuarter => Sys2Proof.Machine.execTableWriteVlanQuarter s
  | .frameAdmit src link tc => Sys2Proof.Machine.execFrameAdmit src link tc s
  | .cellTimeMatch => Sys2Proof.Machine.execCellTimeMatch s
  | .cellArrive plane dst flip ecc => Sys2Proof.Machine.execCellArrive plane dst flip ecc s
  | .reseqGapTimeout dst src => Sys2Proof.Machine.execReseqGapTimeout dst src s
  | .planeWithdraw r arg => Sys2Proof.Machine.execPlaneWithdraw r arg s
  | .planeRestore r arg => Sys2Proof.Machine.execPlaneRestore r arg s
  | .planeDrained p => Sys2Proof.Machine.execPlaneDrained p s
  | .coordTableCommit coords => Sys2Proof.Machine.execCoordTableCommit coords s
  | .coordCommitApply => Sys2Proof.Machine.execCoordCommitApply s
  | .schedBeginLoad r arg => Sys2Proof.Machine.execSchedBeginLoad r arg s
  | .schedValidate r arg => Sys2Proof.Machine.execSchedValidate r arg s
  | .schedValidateDone => Sys2Proof.Machine.execSchedValidateDone s
  | .schedArm r arg => Sys2Proof.Machine.execSchedArm r arg s
  | .schedDisarm r arg => Sys2Proof.Machine.execSchedDisarm r arg s
  | .schedDeactivate r arg => Sys2Proof.Machine.execSchedDeactivate r arg s
  | .schedLoadBoot r arg => Sys2Proof.Machine.execSchedLoadBoot r arg s
  | .schedStoreBoot r arg => Sys2Proof.Machine.execSchedStoreBoot r arg s
  | .swapReadinessCheck => Sys2Proof.Machine.execSwapReadinessCheck s
  | .schedSwap => Sys2Proof.Machine.execSchedSwap s
  | .schedJoin => Sys2Proof.Machine.execSchedJoin s
  | .syncLoss => Sys2Proof.Machine.execSyncLoss s
  | .schedActiveRepeat => Sys2Proof.Machine.execSchedActiveRepeat s
  | .schedFrameReceive f bytes => Sys2Proof.Machine.execSchedFrameReceive f bytes s
  | .bucketRefresh => Sys2Proof.Machine.execBucketRefresh s
  | .shaperCfgWrite r b value => Sys2Proof.Machine.execShaperCfgWrite r b value s
  | .policerCfgWrite r b value => Sys2Proof.Machine.execPolicerCfgWrite r b value s
  | .nibFrameIntake n ecc => Sys2Proof.Machine.execNibFrameIntake n ecc s
  | .chunkDoneAdmit range ordinal => Sys2Proof.Machine.execChunkDoneAdmit range ordinal s
  | .chunkTimeout range ordinal => Sys2Proof.Machine.execChunkTimeout range ordinal s
  | .passStart n => Sys2Proof.Machine.execPassStart n s
  | .passComplete n ecc => Sys2Proof.Machine.execPassComplete n ecc s
  | .batchTimeout n => Sys2Proof.Machine.execBatchTimeout n s
  | .programInvoke range ordinal => Sys2Proof.Machine.execProgramInvoke range ordinal s
  | .contextStart n => Sys2Proof.Machine.execContextStart n s
  | .programFetch n ecc => Sys2Proof.Machine.execProgramFetch n ecc s
  | .waitLimitExpiry n what => Sys2Proof.Machine.execWaitLimitExpiry n what s
  | .halt n c => Sys2Proof.Machine.execHalt n c s
  | .jump n c => Sys2Proof.Machine.execJump n c s
  | .bz n c => Sys2Proof.Machine.execBz n c s
  | .bnz n c => Sys2Proof.Machine.execBnz n c s
  | .loop n c => Sys2Proof.Machine.execLoop n c s
  | .movi n c => Sys2Proof.Machine.execMovi n c s
  | .add n c => Sys2Proof.Machine.execAdd n c s
  | .sub n c => Sys2Proof.Machine.execSub n c s
  | .mul n c => Sys2Proof.Machine.execMul n c s
  | .shift n c => Sys2Proof.Machine.execShift n c s
  | .ldx n c ecc => Sys2Proof.Machine.execLdx n c ecc s
  | .stx n c => Sys2Proof.Machine.execStx n c s
  | .recv n c => Sys2Proof.Machine.execRecv n c s
  | .recvComplete n c => Sys2Proof.Machine.execRecvComplete n c s
  | .emit n c ecc => Sys2Proof.Machine.execEmit n c ecc s
  | .nibCopy n c ecc => Sys2Proof.Machine.execNibCopy n c ecc s
  | .acc n c ecc => Sys2Proof.Machine.execAcc n c ecc s
  | .round n c ecc => Sys2Proof.Machine.execRound n c ecc s
  | .pass n c => Sys2Proof.Machine.execPass n c s
  | .asyncInstrComplete n c seq => Sys2Proof.Machine.execAsyncInstrComplete n c seq s
  | .swait n c => Sys2Proof.Machine.execSwait n c s
  | .swaitMet n c => Sys2Proof.Machine.execSwaitMet n c s
  | .sadd n c => Sys2Proof.Machine.execSadd n c s
  | .ssub n c => Sys2Proof.Machine.execSsub n c s
  | .skiddingSample n skid => Sys2Proof.Machine.execSkiddingSample n skid s
  | .progBeginLoad r arg => Sys2Proof.Machine.execProgBeginLoad r arg s
  | .progInstall r arg => Sys2Proof.Machine.execProgInstall r arg s
  | .progUninstall r arg => Sys2Proof.Machine.execProgUninstall r arg s
  | .progPin r arg => Sys2Proof.Machine.execProgPin r arg s
  | .progUnpin r arg => Sys2Proof.Machine.execProgUnpin r arg s
  | .progLoadAbandon => Sys2Proof.Machine.execProgLoadAbandon s
  | .reduce g => Sys2Proof.Machine.execReduce g s
  | .program g => Sys2Proof.Machine.execProgram g s
  | .counts g => Sys2Proof.Machine.execCounts g s
  | .rangeRegister g => Sys2Proof.Machine.execRangeRegister g s
  | .registerTimeout g => Sys2Proof.Machine.execRegisterTimeout g s
  | .semOpWait g => Sys2Proof.Machine.execSemOpWait g s
  | .semWaitMet g => Sys2Proof.Machine.execSemWaitMet g s
  | .semWaitTimeout g => Sys2Proof.Machine.execSemWaitTimeout g s
  | .semOpAdd g => Sys2Proof.Machine.execSemOpAdd g s
  | .semOpSub g => Sys2Proof.Machine.execSemOpSub g s
  | .semSave g => Sys2Proof.Machine.execSemSave g s
  | .semRestore g => Sys2Proof.Machine.execSemRestore g s
  | .memRead => Sys2Proof.Machine.execMemRead s
  | .memWrite => Sys2Proof.Machine.execMemWrite s
  | .memAtomic => Sys2Proof.Machine.execMemAtomic s
  | .memResponse => Sys2Proof.Machine.execMemResponse s
  | .memRetryAfter => Sys2Proof.Machine.execMemRetryAfter s
  | .homeRetryResend id => Sys2Proof.Machine.execHomeRetryResend id s
  | .homeTimeout id => Sys2Proof.Machine.execHomeTimeout id s
  | .poolAccessDone no inks ecc => Sys2Proof.Machine.execPoolAccessDone no inks ecc s
  | .zeroFillDone => Sys2Proof.Machine.execZeroFillDone s
  | .patrolRead x ecc => Sys2Proof.Machine.execPatrolRead x ecc s
  | .poolSizeWrite r value => Sys2Proof.Machine.execPoolSizeWrite r value s
  | .sqTailDoorbell fn ring value writes faults => Sys2Proof.Machine.execSqTailDoorbell fn ring value writes faults s
  | .cqHeadDoorbell fn ring value => Sys2Proof.Machine.execCqHeadDoorbell fn ring value s
  | .ringEnable fn ring value => Sys2Proof.Machine.execRingEnable fn ring value s
  | .ringDisable fn ring value => Sys2Proof.Machine.execRingDisable fn ring value s
  | .vfAssignWrite hostB v value => Sys2Proof.Machine.execVfAssignWrite hostB v value s
  | .descriptorIssue g => Sys2Proof.Machine.execDescriptorIssue g s
  | .nop g => Sys2Proof.Machine.execNop g s
  | .installProgram g => Sys2Proof.Machine.execInstallProgram g s
  | .copy g => Sys2Proof.Machine.execCopy g s
  | .intAck fn value => Sys2Proof.Machine.execIntAck fn value s
  | .msixUnmask fn vector => Sys2Proof.Machine.execMsixUnmask fn vector s
  | .mboxGo fn value frame queueFull => Sys2Proof.Machine.execMboxGo fn value frame queueFull s
  | .functionLevelReset fn => Sys2Proof.Machine.execFunctionLevelReset fn s
  | .pcieLinkDown hostB => Sys2Proof.Machine.execPcieLinkDown hostB s
  | .heartbeatTick => Sys2Proof.Machine.execHeartbeatTick s
  | .recoverWrite fn value => Sys2Proof.Machine.execRecoverWrite fn value s
  | .claimWindowExpiry => Sys2Proof.Machine.execClaimWindowExpiry s
  | .offsetSample => Sys2Proof.Machine.execOffsetSample s
  | .estimateLoss => Sys2Proof.Machine.execEstimateLoss s
  | .sourceUnusable => Sys2Proof.Machine.execSourceUnusable s
  | .holdoverExpiry => Sys2Proof.Machine.execHoldoverExpiry s
  | .ptpSyncReceive f bytes => Sys2Proof.Machine.execPtpSyncReceive f bytes s
  | .ptpDelayReqReceive f bytes => Sys2Proof.Machine.execPtpDelayReqReceive f bytes s
  | .ptpDelayRespReceive f bytes => Sys2Proof.Machine.execPtpDelayRespReceive f bytes s
  | .ptpAnnounceReceive f bytes => Sys2Proof.Machine.execPtpAnnounceReceive f bytes s
  | .announceReceiptTimeout f => Sys2Proof.Machine.execAnnounceReceiptTimeout f s
  | .ptpSyncSend f => Sys2Proof.Machine.execPtpSyncSend f s
  | .ptpAnnounceSend f => Sys2Proof.Machine.execPtpAnnounceSend f s
  | .ptpDelayReqSend f => Sys2Proof.Machine.execPtpDelayReqSend f s
  | .ppsInEdge width => Sys2Proof.Machine.execPpsInEdge width s
  | .todInMessage bytes => Sys2Proof.Machine.execTodInMessage bytes s
  | .ppsMissing => Sys2Proof.Machine.execPpsMissing s
  | .ppsOutEdge => Sys2Proof.Machine.execPpsOutEdge s
  | .todOutSend => Sys2Proof.Machine.execTodOutSend s
  | .triggerFire t => Sys2Proof.Machine.execTriggerFire t s
  | .trigArm r t value => Sys2Proof.Machine.execTrigArm r t value s
  | .trigDisarm r t arg => Sys2Proof.Machine.execTrigDisarm r t arg s
  | .snapArm r arg => Sys2Proof.Machine.execSnapArm r arg s
  | .snapDisarm r arg => Sys2Proof.Machine.execSnapDisarm r arg s
  | .snapHold r arg => Sys2Proof.Machine.execSnapHold r arg s
  | .snapRelease r arg => Sys2Proof.Machine.execSnapRelease r arg s
  | .snapStrobe => Sys2Proof.Machine.execSnapStrobe s
  | .histCfgWrite r h value => Sys2Proof.Machine.execHistCfgWrite r h value s
  | .sampleDataRead r => Sys2Proof.Machine.execSampleDataRead r s
  | .sampleDrain n => Sys2Proof.Machine.execSampleDrain n s
  | .dopRead r idx sub => Sys2Proof.Machine.execDopRead r idx sub s
  | .registerWrite w => Sys2Proof.Machine.execRegisterWrite w s
  | .flagClear w => Sys2Proof.Machine.execFlagClear w s
  | .lowWordRead fn offset wide => Sys2Proof.Machine.execLowWordRead fn offset wide s
  | .dopSegRead r idx sub offset => Sys2Proof.Machine.execDopSegRead r idx sub offset s
  | .dopSegWrite r idx sub offset last data => Sys2Proof.Machine.execDopSegWrite r idx sub offset last data s
  | .dopOccurrence r idx sub clear => Sys2Proof.Machine.execDopOccurrence r idx sub clear s
  | .dopDescribe r idx sub => Sys2Proof.Machine.execDopDescribe r idx sub s
  | .dopSubscribe r notifyMs => Sys2Proof.Machine.execDopSubscribe r notifyMs s
  | .notifySend src => Sys2Proof.Machine.execNotifySend src s
  | .subscriptionExpiry src => Sys2Proof.Machine.execSubscriptionExpiry src s
  | .mgmtFrameReceive bytes queueFull => Sys2Proof.Machine.execMgmtFrameReceive bytes queueFull s
  | .warmResetCommand r arg => Sys2Proof.Machine.execWarmResetCommand r arg s
  | .sessionOpen r cred nonce => Sys2Proof.Machine.execSessionOpen r cred nonce s
  | .sessionAuth r signature => Sys2Proof.Machine.execSessionAuth r signature s
  | .sessionClose r => Sys2Proof.Machine.execSessionClose r s
  | .sessionTimeout src id => Sys2Proof.Machine.execSessionTimeout src id s
  | .mctpPacket r packet => Sys2Proof.Machine.execMctpPacket r packet s
  | .getVersion conn => Sys2Proof.Machine.execGetVersion conn s
  | .getCapabilities conn version => Sys2Proof.Machine.execGetCapabilities conn version s
  | .negotiateAlgorithms conn ed25519 sha512 => Sys2Proof.Machine.execNegotiateAlgorithms conn ed25519 sha512 s
  | .getDigests conn => Sys2Proof.Machine.execGetDigests conn s
  | .getCertificate conn slot offset length => Sys2Proof.Machine.execGetCertificate conn slot offset length s
  | .challenge conn slot nonce => Sys2Proof.Machine.execChallenge conn slot nonce s
  | .getMeasurements conn operation signed => Sys2Proof.Machine.execGetMeasurements conn operation signed s
  | .debugUnlock r signature => Sys2Proof.Machine.execDebugUnlock r signature s
  | .credWrite r k value => Sys2Proof.Machine.execCredWrite r k value s
  | .tapExtest => Sys2Proof.Machine.execTapExtest s
  | .tapReset => Sys2Proof.Machine.execTapReset s
  | .tamperSensorFire k => Sys2Proof.Machine.execTamperSensorFire k s
  | .sealChange unsealed metered => Sys2Proof.Machine.execSealChange unsealed metered s
  | .chopStartupData => Sys2Proof.Machine.execChopStartupData s
  | .accountFeed lost => Sys2Proof.Machine.execAccountFeed lost s
  | .recordBoundary metered => Sys2Proof.Machine.execRecordBoundary metered s
  | .recordStoreConfirm no => Sys2Proof.Machine.execRecordStoreConfirm no s
  | .intervalMinWrite r value => Sys2Proof.Machine.execIntervalMinWrite r value s
  | .calWrite r value => Sys2Proof.Machine.execCalWrite r value s
  | .accountMapWrite r p value => Sys2Proof.Machine.execAccountMapWrite r p value s
  | .jobPrepare g => Sys2Proof.Machine.execJobPrepare g s
  | .jobTeardown g => Sys2Proof.Machine.execJobTeardown g s
  | .jobAbort g => Sys2Proof.Machine.execJobAbort g s
  | .jobAckReceive f bytes => Sys2Proof.Machine.execJobAckReceive f bytes s
  | .jobShareReceive f bytes => Sys2Proof.Machine.execJobShareReceive f bytes s
  | .jobCommitReceive f bytes => Sys2Proof.Machine.execJobCommitReceive f bytes s
  | .jobCancelReceive f bytes => Sys2Proof.Machine.execJobCancelReceive f bytes s
  | .jobTeardownReceive f bytes => Sys2Proof.Machine.execJobTeardownReceive f bytes s
  | .jobAbortReceive f bytes => Sys2Proof.Machine.execJobAbortReceive f bytes s
  | .commitDecision j => Sys2Proof.Machine.execCommitDecision j s
  | .jobGoLive j => Sys2Proof.Machine.execJobGoLive j s
  | .prepareTimeout j => Sys2Proof.Machine.execPrepareTimeout j s
  | .drainEnd j => Sys2Proof.Machine.execDrainEnd j s
  | .quarantineEnd j => Sys2Proof.Machine.execQuarantineEnd j s
  | .scrubRangeDone => Sys2Proof.Machine.execScrubRangeDone s
  | .unitFault unit cause detail => Sys2Proof.Machine.execUnitFault unit cause detail s
  | .blotterDumpNow r arg => Sys2Proof.Machine.execBlotterDumpNow r arg s
  | .blotterDumpEnd silent cut absent => Sys2Proof.Machine.execBlotterDumpEnd silent cut absent s
  | .blotterSelect r arg => Sys2Proof.Machine.execBlotterSelect r arg s
  | .proofPeriodStart => Sys2Proof.Machine.execProofPeriodStart s
  | .proofTestNow r arg => Sys2Proof.Machine.execProofTestNow r arg s
  | .proofResult pass => Sys2Proof.Machine.execProofResult pass s
  | .faultHistoryWrite => Sys2Proof.Machine.execFaultHistoryWrite s
  | .healthDecay => Sys2Proof.Machine.execHealthDecay s
  | .digestReceive f bytes => Sys2Proof.Machine.execDigestReceive f bytes s
  | .digestTimeout own handle chunk => Sys2Proof.Machine.execDigestTimeout own handle chunk s
  | .vinStartThreshold => Sys2Proof.Machine.execVinStartThreshold s
  | .marginFrameDiscard f bytes => Sys2Proof.Machine.execMarginFrameDiscard f bytes s
  | .jobShareSend j => Sys2Proof.Machine.execJobShareSend j s
  | .proofWindowOpen => Sys2Proof.Machine.execProofWindowOpen s
  | .proofWindowEnd => Sys2Proof.Machine.execProofWindowEnd s
  | .quillMemoryAccess p1 addr store l3 dirty ecc => Sys2Proof.Machine.execQuillMemoryAccess p1 addr store l3 dirty ecc s

end Sys2Proof.Machine
end

