-- ==== Sys2Proof/Machine/Idle.lean ====
section
/-!
DEFINITION. What a step does on an empty queue: one period of TIME_CLK, 1.25 ns (R365). Running time goes on, network time advances where
the Timekeeper runs, and what depends on the time alone is followed.
-/

namespace Sys2Proof.Machine

/-- A period of TIME_CLK passes. -/
def State.idle (s : State) : State :=
  (((({ s with now := s.now + 1250 } : State).timeTick).reviewEnLow).reviewEnAgain).reviewSettled.reviewDeactivate.arraysTick.fillTick.scrubTick

end Sys2Proof.Machine
end

