-- ==== Sys2Proof/Safety.lean ====
section
/-!
DEFINITION. What counts as a safe run: one that never stops. A run stops at a fault or a refusal, and the spec gives every command an
effect in every state. `State.Good` is the well-formedness that every step keeps.
-/

namespace Sys2Proof.Machine

/-- What a module keeps well formed whatever command it is given. -/
def State.Good (s : State) : Prop :=
  s.mem.wf = true ∧ s.faults.events.length ≤ 256 ∧ (∀ e ∈ s.counters, e.2 < 2 ^ 64) ∧
  (∀ e ∈ s.flags, ∀ c ∈ e.2.counts, c.2 ≤ 65535) ∧ s.time.ns < 1000000000

end Sys2Proof.Machine

namespace Sys2Proof

/-- A step goes on to a next state. -/
def goesOn (s : Machine.State) : Prop := ∃ t, Machine.step s = .next t

/-- The state after `k` steps, where none of them stops. -/
def runsTo (s : Machine.State) : Nat → Machine.State → Prop
  | 0, t => t = s
  | k + 1, t => ∃ u, Machine.step s = .next u ∧ runsTo u k t

/-- A run is safe: whatever its length, it ends in some state. -/
def safe (s : Machine.State) : Prop := ∀ k, ∃ t, runsTo s k t

end Sys2Proof
end

