-- ==== Sys2Proof/Certificates/Slice0/Obligations.lean ====
section
/-!
DEFINITION. The statements for the provers. Those that name commands say what `exec` answers for each of them under conditions on the
state and the operands alone; the others are about every command, the step and a run.
-/

open Sys2Proof Sys2Proof.Machine

namespace Sys2Proof.Machine

/-- A WRITE of an object reaches Scribe, is not a resent request, and passes the checks of R400 that come before those of the object:
frame, session, recovery, and a role that may write it. `a` is the state after its arrival. -/
def WriteAdmitted (s : State) (r : Req) (idx sub v : Nat) (a : State) : Prop :=
  a = s.dopArrives r.src ∧ a.scribeUp = true ∧ a.srcReaches r.src = true ∧
  (∀ x ∈ a.codex.responses, ¬ (x.src = r.src ∧ x.key = (writeReq r idx sub v).key)) ∧
  ∃ role, dopAdmit a (writeReq r idx sub v) = .ok role ∧ writeRole idx ≤ role

/-- The state after the write's effect `u`, with the response OK sent. -/
def writeOk (u : State) (r : Req) (idx sub v : Nat) : State := dopRespond u (writeReq r idx sub v) .ok false []

/-- The next instruction of context `c` of Nib `n` is the word `w` with OPCODE `op`, it is this context's turn (R254), and the instruction
issues (R263, R266, R269): `t` is the state in which it has been counted, and `k` its context there. -/
def NibIssues (s : State) (n c op w : Nat) (t : State) (k : Ctx) : Prop :=
  ∃ k0, s.ctx n c = some k0 ∧ w = s.nextInstr n k0 ∧ iOp w = op ∧ s.issuer n = some c ∧ k0.steps < k0.stepLimit ∧
    t = (((((s.countNib n 17 1).updNib n (fun x => { x with issues := x.issues + 1, turn := c })).updCtx n c (fun y =>
      { y with steps := y.steps + 1, seq := y.seq + 1, issuedNo := (s.nib n).issues + 1 })).skidIssue n c).samplePeriod n) ∧
    t.ctx n c = some k

/-- The descriptor `b`, one entry long, at the head of ring `g` has OPCODE `op` and the conditions of issue hold (R351, R60): `d` is the
outstanding descriptor, `t` the state in which it has been read and its fetch has been counted, and the ring is owned by a function whose header check passes. -/
def RingIssues (s : State) (g op : Nat) (b : List Byte) (d : Desc) (t : State) : Prop :=
  ∃ u, (s.ring g).mayIssue = true ∧ s.dmaRead (s.ringDomain g) ((s.ring g).descBase + 64 * (s.ring g).sqHead) 64 = (some b, u) ∧
    byteAt b 0 = op ∧
    (bit (byteAt b 1) 0 = false ∨ (s.ring g).out_ = []) ∧ (op = 0x21 → byteAt b 52 = 0) ∧ (s.service = true ∨ needsService op = false) ∧
    d = { no := u.host.nextDesc, index := (s.ring g).sqHead, tag := leAt b 8 8, irq := bit (byteAt b 1) 1 } ∧
    t = (u.modHost (fun h => { h with nextDesc := h.nextDesc + 1 })).countHost (u.ringDomain g) 1 ∧
    t.headerCheck (t.ringOwner g) b = none

/-- A request reaches Scribe, is not a resent one, and passes the checks of R400 that come before those of its object: `a` is the state
after its arrival, `role` the role it has. -/
def ReqAdmitted (s : State) (q : DopReq) (role : Nat) (a : State) : Prop :=
  a = s.dopArrives q.src ∧ a.scribeUp = true ∧ a.srcReaches q.src = true ∧ bit q.flags 0 = false ∧ q.op ≠ 8 ∧
    (∀ x ∈ a.codex.responses, ¬ (x.src = q.src ∧ x.key = q.key)) ∧ dopAdmit a q = .ok role

end Sys2Proof.Machine

/-- A step takes the command at the front of the queue, and runs it on the state with the rest of the queue. -/
def Obligations.StepRunsFrontCommand : Prop :=
  ∀ (s : State) (c : Instr) (l : List Instr), step { s with pending := c :: l } = exec c { s with pending := l }

/-- On an empty queue a period of TIME_CLK passes (the model's choice, log entry 37): the step goes on, and the running time gains
1,250 ps. Where the zero fill of LPDDR6 does not run (R335), no memory changes. -/
def Obligations.EmptyQueueTicks : Prop :=
  ∀ s : State, s.pending = [] → ∃ t : State, step s = .next t ∧ t.now = s.now + 1250 ∧ t.pending = [] ∧
    ((s.mem.zeroDone = true ∨ s.boot.done.getLsbD 5 = false) → t.mem = s.mem)

/-- The state after reset is well formed, with an empty queue, no power, and every register at its reset value. That an unpowered module
is where the machine starts is the model's choice (log entry 1). -/
def Obligations.ResetState : Prop :=
  State.reset.Good ∧ State.reset.pending = [] ∧ State.reset.powered = false ∧ State.reset.boot.phase = .off ∧
    (∀ i b, State.reset.flag i b = false) ∧ (∀ i k, State.reset.counter i k = 0) ∧ (∀ i, State.reset.sem i = 0) ∧
    (∀ g, (State.reset.ring g).enable = false) ∧ (∀ j, (State.reset.slot j).state = .free)

/-- Every step keeps the state well formed: the memory in its canonical form, at most 256 fault history entries, every counter below 2^64,
every occurrence counter at most 65,535, and the nanoseconds of network time below 10^9. -/
def Obligations.EveryStepKeepsGood : Prop :=
  ∀ s t : State, s.Good → step s = .next t → t.Good

/-- No command touches the queue of the commands that wait, and what has left the module stays: each command only adds to it. -/
def Obligations.CommandsKeepQueueAndOutputs : Prop :=
  ∀ (c : Instr) (s t : State), exec c s = .next t → t.pending = s.pending ∧ ∃ l, t.out = l ++ s.out

/-- Every command has an effect in every state: none faults, and none is refused. -/
def Obligations.EveryCommandCompletes : Prop :=
  ∀ (c : Instr) (s : State), ∃ t, exec c s = .next t

/-- Whatever is queued, a run never stops. -/
def Obligations.EveryRunIsSafe : Prop :=
  ∀ s : State, safe s

/-- R4: a 64-bit register of BAR0 read at once, and by its two halves. -/
def Obligations.WideRegisterReads : Prop :=
  (∀ (s : State) (f : Fin 130) (o : BitVec 20) (v : Nat), s.fnPresent f = true → barHas f o.toNat true = true → s.barReg64 f o.toNat = some v →
    exec (.lowWordRead f o true) s = .next (s.emit (.readData (fnSrc f) v))) ∧
  (∀ (s : State) (f : Fin 130) (o : BitVec 20) (v : Nat), s.fnPresent f = true → barHas f o.toNat false = true →
    s.barReg64 f o.toNat = some v →
    ∃ t : State, exec (.lowWordRead f o false) s = .next (t.emit (.readData (fnSrc f) (v % 2 ^ 32))) ∧
      t.latched (fnSrc f) (o.toNat + 4) = some (v / 2 ^ 32) ∧
      (∀ src k, (src ≠ fnSrc f ∨ k ≠ o.toNat + 4) → t.latched src k = s.latched src k)) ∧
  (∀ (s : State) (f : Fin 130) (o h : BitVec 20) (v x : Nat), h.toNat = o.toNat + 4 → s.fnPresent f = true → barHas f h.toNat false = true →
    s.barReg64 f o.toNat = some v → s.latched (fnSrc f) h.toNat = some x →
    ∃ t : State, exec (.lowWordRead f h false) s = .next (t.emit (.readData (fnSrc f) x)) ∧ t.latched (fnSrc f) h.toNat = none) ∧
  (∀ (s : State) (f : Fin 130) (o h : BitVec 20) (v : Nat), h.toNat = o.toNat + 4 → s.fnPresent f = true → barHas f h.toNat false = true →
    s.barReg64 f o.toNat = some v → s.latched (fnSrc f) h.toNat = none →
    ∃ t : State, exec (.lowWordRead f h false) s = .next (t.emit (.readData (fnSrc f) (v / 2 ^ 32))))

/-- R307: when a request hits a window, where it is translated to, and that it ends inside. Windows start at a multiple of 4,096. -/
def Obligations.WindowTranslation : Prop :=
  (∀ (s : State) (j a k : Nat) (w : Window), s.hitWindow j a = some (k, w) →
    (k, w) ∈ s.jobWindows j ∧ w.base ≤ a ∧ a < w.base + 4096 * w.pages) ∧
  (∀ (s : State) (j a : Nat) (x : Nat × Window), x ∈ s.jobWindows j → x.2.base ≤ a → a < x.2.base + 4096 * x.2.pages →
    (s.hitWindow j a).isSome = true) ∧
  (∀ (s : State) (r : LigReq) (k : Nat) (w : Window), s.hitWindow r.job r.addr = some (k, w) →
    (s.translate r).target = (if w.kind = 1 then s.poolBase else 0) + (w.target + (r.addr - w.base))) ∧
  (∀ (s : State) (j typ a size op k : Nat) (w : Window), s.hitWindow j a = some (k, w) → s.ligCheck j typ a size op = 0 → w.base % 4096 = 0 →
    size ≤ 12 ∧ a % 2 ^ size = 0 ∧ a + 2 ^ size ≤ w.base + 4096 * w.pages)

/-- R356: a descriptor with FENCE waits while any descriptor of its ring is outstanding, and issues when none is, whatever the other rings
hold. -/
def Obligations.FencedDescriptors : Prop :=
  (∀ (s u : State) (g : Fin 4096) (b : List Byte), (s.ring g).mayIssue = true →
    s.dmaRead (s.ringDomain g) ((s.ring g).descBase + 64 * (s.ring g).sqHead) 64 = (some b, u) → bit (byteAt b 1) 0 = true →
    (s.ring g).out_ ≠ [] → exec (.descriptorIssue g) s = .next s) ∧
  (∀ (s t : State) (g : Fin 4096) (b : List Byte) (d : Desc) (op : Nat), RingIssues s g op b d t → bit (byteAt b 1) 0 = true →
    (s.ring g).out_ = [] ∧ exec (.descriptorIssue g) s = .next (t.issueBody g d 1 b [])) ∧
  (∀ (s : State) (g h : Nat) (l : List Desc), h ≠ g → (s.updRing h (fun r => { r with out_ := l })).ring g = s.ring g)

/-- R263: the frame of the register and branch instructions. Only their own context, the Nib's bookkeeping, its count of instructions and the
sampling state of Folio change. -/
def Obligations.NibScalarFrame : Prop :=
  ∀ (s t u : State) (n : Fin 32) (c : Fin 64) (op w : Nat) (k : Ctx) (i : Instr), NibIssues s n c op w t k →
    (i, op) ∈ [(.jump n c, 0x02), (.bz n c, 0x03), (.bnz n c, 0x04), (.loop n c, 0x05), (.movi n c, 0x08), (.add n c, 0x09),
      (.sub n c, 0x0A), (.mul n c, 0x0B), (.shift n c, 0x0C)] → exec i s = .next u →
    ({ u with nibs := s.nibs, counters := s.counters, folio := s.folio } : State) = s ∧ (∀ m, m ≠ n.val → u.nib m = s.nib m) ∧
      (∀ d, d ≠ c.val → u.ctx n d = s.ctx n d) ∧ u.counter (0x7280 + n) 17 = (s.counter (0x7280 + n) 17 + 1) % 2 ^ 64 ∧
      (∀ i k, (i, k) ≠ (0x7280 + n.val, 17) → k < 256 → u.counter i k = s.counter i k)

/-- R323, R336, R342: what a store of a partition leaves in memory, and what it leaves alone. -/
def Obligations.QuillStores : Prop :=
  ∀ (s : State) (p : Bool) (a : Nat) (l : List Byte), s.boot.done.getLsbD 7 = true → l ≠ [] → (s.quillRegion p).1 ≤ a →
    a + l.length ≤ (s.quillRegion p).1 + (s.quillRegion p).2 → s.lpdPresent a l.length = true → s.mem.zeroDone = true →
    ∃ t : State, exec (.quillMemoryAccess p a l .good false .good) s = .next t ∧
      (∀ i (h : i < l.length), t.mem.byte (a + i) = l[i]) ∧
      (∀ b, (b < a ∨ a + l.length ≤ b) → t.mem.byte b = s.mem.byte b) ∧
      (∀ x, ¬ (a ≤ 64 * x ∧ 64 * x + 64 ≤ a + l.length) → t.mem.poisoned.get false x = s.mem.poisoned.get false x) ∧
      ({ t with mem := { t.mem with bytes := s.mem.bytes, poisoned := s.mem.poisoned }, counters := s.counters } : State) = s

/-- R2, R373, R406, R407: what a hardware set, a software clear, and a count change, and what they leave. -/
def Obligations.FlagsAndCounters : Prop :=
  (∀ (s : State) (i b : Nat), b < 32 → (s.setFlag i b).flag i b = true ∧
    ((s.setFlag i b).flagObj i).counts.get 0 b =
      (if (s.flagObj i).counts.get 0 b < 65535 then (s.flagObj i).counts.get 0 b + 1 else (s.flagObj i).counts.get 0 b)) ∧
  (∀ (s : State) (i b j c : Nat), b < 32 → (j ≠ i ∨ c ≠ b) → (s.setFlag i b).flag j c = s.flag j c) ∧
  (∀ (s : State) (i : Nat) (v : Word32) (j c : Nat), c < 32 →
    (s.clearFlags i v).flag j c = (s.flag j c && !(decide (j = i) && v.getLsbD c)) ∧
    ((s.clearFlags i v).flagObj j).counts = (s.flagObj j).counts) ∧
  (∀ (s : State) (i k n j m : Nat), k < 256 → m < 256 →
    (s.count i k n).counter j m = if j = i ∧ m = k then (s.counter i k + n) % 2 ^ 64 else s.counter j m)

/-- R29, R32, R34, R44: what each event of the input, of EN and of a trip temperature does to the power stage. -/
def Obligations.PowerInputEvents : Prop :=
  (∀ s : State, s.power.en = false → ∃ t, exec .enRise s = .next t ∧
    t.power.en = true ∧ t.power.enLowAt = none ∧ t.power.vioLock = false ∧ t.flash = s.flash ∧ t.chop = s.chop) ∧
  (∀ (s : State) (env : ShutdownEnv), s.power.en = true → s.powered = false →
    exec (.enFall env) s =
      .next (s.modPower (fun p => { p with en := false, enLowAt := some s.now, enAgain := false, ilimitOffs := [] }))) ∧
  (∀ (s : State) (env : ShutdownEnv), s.power.en = true → s.powered = true → s.power.vioLock = true →
    ∃ t, exec (.enFall env) s = .next t ∧ t.power.groups = 0 ∧ t.power.pwrOk = false ∧ t.power.en = false ∧ t.power.lastOff = s.power.lastOff) ∧
  (∀ (s : State) (env : ShutdownEnv), s.powered = false →
    exec (.holdupWarnAssert env) s = .next (s.modPower (fun p => { p with holdupWarn := true }))) ∧
  (∀ s : State, s.powered = true → ∃ t, exec .vinUndervoltage s = .next t ∧
    t.power.lastOff = 2 ∧ t.power.groups = 0 ∧ t.power.pwrOk = false ∧ t.power.vio18 = false ∧ t.boot.phase = .off ∧ t.fibres = [] ∧
    t.slots = [] ∧ t.mem.bytes = []) ∧
  (∀ (s : State) (env : ShutdownEnv), s.powered = false →
    exec (.vinOvervoltage env) s = .next (s.modPower (fun p => { p with vinOk := false }))) ∧
  (∀ s : State, s.boot.phase ≠ .off → exec .vinBelow30v s = .next (s.setFlag 0x6200 2)) ∧
  (∀ s : State, s.boot.phase ≠ .off → exec .vinAbove40v s = .next (s.setFlag 0x6200 3)) ∧
  (∀ s : State, s.powered = true → s.boot.phase ≠ .off →
    exec .inputCurrentLimit s = .next ((s.modPower (fun p => { p with limiting := true })).setFlag 0x6200 4)) ∧
  (∀ s : State, s.power.limiting = true → ∃ t, exec .ilimitTimeout s = .next t ∧
    t.power.lastOff = 7 ∧ t.power.groups = 0 ∧ t.power.limiting = false ∧
    t.power.ilimitOffs = s.power.ilimitOffs.filter (fun x => s.now < x + 60 * 10 ^ 12) ++ [s.now] ∧
    t.power.ilimitLock = decide (3 ≤ t.power.ilimitOffs.length)) ∧
  (∀ (s : State) (x : Sensor), s.powered = true → ∃ t, exec (.sensorTrip x) s = .next t ∧
    t.power.lastOff = 4 ∧ t.power.groups = 0 ∧ t.boot.phase = .off)

/-- R33, R36: an orderly shutdown ends with the rails off and LAST_OFF_CAUSE of its event, or of what cut it short. -/
def Obligations.OrderlyShutdownCauses : Prop :=
  (∀ (s : State) (env : ShutdownEnv), s.power.en = true → s.powered = true → s.power.vioLock = false →
    ∃ t, exec (.enFall env) s = .next t ∧ t.power.groups = 0 ∧ t.power.pwrOk = false ∧ t.boot.phase = .off ∧
      t.power.lastOff = (match env.cutBefore with | none => 1 | some (_, false) => 2 | some (_, true) => 4)) ∧
  (∀ (s : State) (env : ShutdownEnv), s.powered = true → ∃ t, exec (.vinOvervoltage env) s = .next t ∧
    t.power.groups = 0 ∧ t.power.pwrOk = false ∧ t.boot.phase = .off ∧
    t.power.lastOff = (match env.cutBefore with | none => 3 | some (_, false) => 2 | some (_, true) => 4)) ∧
  (∀ (s : State) (env : ShutdownEnv), s.powered = true → env.warnHigh = false → ∃ t, exec (.holdupWarnAssert env) s = .next t ∧
    t.power.groups = 0 ∧ t.power.pwrOk = false ∧ t.boot.phase = .off ∧
    t.power.lastOff = (match env.cutBefore with | none => 6 | some (_, false) => 2 | some (_, true) => 4))

/-- R27, R29, R37, R45, R46: restarts, the clock, the low-voltage supply and the rail sequence. -/
def Obligations.PowerRestartsAndRails : Prop :=
  (∀ s : State, (s.power.lastOff = 2 ∨ s.power.lastOff = 3 ∨ s.power.lastOff = 7) →
    (s.modPower (fun p => { p with vinOk := true })).startAllowed = true →
    exec .autoRestart s = .next ((s.modPower (fun p => { p with vinOk := true, ramping := true })).modBoot (fun b => { b with phase := .rails }))) ∧
  (∀ s : State, s.power.lastOff = 6 → (s.modPower (fun p => { p with vinOk := true, holdupWarn := false })).startAllowed = true →
    exec .holdupRestart s =
      .next ((s.modPower (fun p => { p with vinOk := true, holdupWarn := false, ramping := true })).modBoot (fun b => { b with phase := .rails }))) ∧
  (∀ s : State, s.power.vio18 = true → ∃ t, exec .vio1v8Overload s = .next t ∧
    t.power.vioLock = true ∧ t.power.vio18 = false ∧ t.power.lastOff = 8 ∧ t.power.coreHeld = true ∧ t.boot.phase = .off ∧
    t.power.groups = s.power.groups ∧ t.flash = s.flash ∧ t.chop = s.chop) ∧
  (∀ s : State, s.running = true → ∃ t, exec .sysclkLoss s = .next t ∧
    t.power.lastOff = 5 ∧ t.power.groups = 0 ∧ t.power.pwrOk = false ∧ t.power.vio18 = false ∧ t.power.sysclk = false ∧
    t.power.coreHeld = true ∧ t.boot.phase = .off) ∧
  (∀ s : State, s.power.pwrOk = true → s.boot.phase = .cold 4 → ∃ t, exec .sysclkAbsent s = .next t ∧
    t.power.sysclk = false ∧ t.power.coreHeld = true ∧ t.power.pwrOk = true ∧ t.boot.phase = .off ∧ t.power.groups = s.power.groups ∧
    t.flash = s.flash ∧ t.chop = s.chop) ∧
  (∀ s : State, s.power.sysclk = false → s.power.clockHold = true → s.power.vioLock = false → s.power.en = true → s.power.vinOk = true →
    s.power.tripped = false → s.power.railLock = false → s.power.ilimitLock = false → s.power.secHold = false → s.boot.phase = .off →
    ∃ t, exec .sysclkReturn s = .next t ∧ t.power.sysclk = true ∧ t.power.coreHeld = false ∧ t.power.clockHold = false ∧
      t.power.ramping = true ∧ t.power.groups = 0 ∧ t.boot.phase = .rails ∧ t.flash = s.flash) ∧
  (∀ s : State, s.power.ramping = true → s.power.groups < 3 →
    exec .railGroupRegulated s = .next (s.modPower (fun p => { p with groups := p.groups + 1 }))) ∧
  (∀ s : State, s.power.ramping = true → 3 ≤ s.power.groups → ∃ t, exec .railGroupRegulated s = .next t ∧
    t.power.groups = 4 ∧ t.power.ramping = false ∧ t.power.pwrOk = true ∧ t.power.vio18 = true ∧ t.boot.phase = .cold 4 ∧
    t.flash = s.flash ∧ t.fibres = s.fibres ∧ t.params = s.params ∧ t.flags = s.flags ∧ t.counters = s.counters ∧ t.out = s.out) ∧
  (∀ s : State, s.power.ramping = true → ∃ t, exec .railFault s = .next t ∧
    t.power.groups = 0 ∧ t.power.pwrOk = false ∧ t.power.railFaults = s.power.railFaults + 1 ∧ t.power.railLock = s.power.railRetry ∧
    t.power.railRetry = true) ∧
  (∀ s : State, s.power.railRetry = true → s.startAllowed = true →
    exec .railRetry s = .next ((s.modPower (fun p => { p with ramping := true })).modBoot (fun b => { b with phase := .rails })))

/-- R35, R43, R95, R122: the throttle demands and the sensors' warnings. -/
def Obligations.ThrottleAndSensors : Prop :=
  (∀ (s : State) (w : Nat), s.boot.done.getLsbD 2 = true → s.power.limitNow < w →
    exec (.throttleDemandRise (.power w)) s =
      .next ((s.modPower (fun p => { p with watts := w })).reviewFloor.throttleUp (.power w))) ∧
  (∀ (s : State) (w : Nat), s.boot.done.getLsbD 2 = true → w ≤ s.power.limitNow →
    exec (.throttleDemandRise (.power w)) s = .next (s.modPower (fun p => { p with watts := w }))) ∧
  (∀ (s : State) (c : ThrottleCause), s.boot.done.getLsbD 2 = true →
    (causeKeys c).any (fun k => 2 ≤ s.heatOf k) = true →
    exec (.throttleDemandRise c) s = .next (s.throttleUp c).reviewFloor) ∧
  (∀ (s : State) (w : Nat), s.boot.done.getLsbD 2 = true → w * 100 < s.power.limitNow * 95 →
    exec (.throttleDemandFall (.power w)) s = .next (s.modPower (fun p => ({ p with watts := w } : Power).fall (.power w)))) ∧
  (∀ (s : State) (c : ThrottleCause), s.boot.done.getLsbD 2 = true → (∀ w, c ≠ .power w) →
    (causeKeys c).any (fun k => 2 ≤ s.heatOf k) = false →
    exec (.throttleDemandFall c) s = .next (s.modPower (fun p => p.fall c)).reviewFloor) ∧
  (∀ s : State, s.boot.phase ≠ .off →
    exec (.sensorWarning .hatch true) s = .next (((s.setHeat .hatch 1).setFlag 0x6200 5).setFlag 0x63A1 6)) ∧
  (∀ (s : State) (e : Fin 16), s.boot.phase ≠ .off →
    exec (.sensorWarning (.photonic e) true) s = .next
      (((((s.setHeat (.photonic e) 1).setFlag 0x6200 5).updEngine e (fun y => { y with hot := true })).setFlag (0x6390 + e) 8).forEach
        ((List.range 4).map (4 * e.val + ·)) abandonTrial)) ∧
  (∀ (s : State) (x : Sensor), s.boot.phase ≠ .off → (∀ e, x ≠ .photonic e) →
    exec (.sensorWarning x false) s = .next (s.setHeat x 0)) ∧
  (∀ (s : State) (x : Sensor), s.boot.phase ≠ .off → exec (.sensorThrottle x false) s = .next (s.setHeat x 1)) ∧
  (∀ (s : State) (x : Sensor) (c : ThrottleCause), s.boot.phase ≠ .off → s.boot.done.getLsbD 2 = true → sensorCause x = some c →
    (causeKeys c).any (fun k => 2 ≤ s.heatOf k) = false →
    exec (.sensorThrottle x true) s = .next ((s.setHeat x 2).throttleUp c).reviewFloor) ∧
  (∀ (s : State) (x : Sensor) (c : ThrottleCause), s.boot.phase ≠ .off → sensorCause x = some c →
    (causeKeys c).any (fun k => 2 ≤ s.heatOf k) = true → exec (.sensorThrottle x true) s = .next (s.setHeat x 2)) ∧
  (∀ s : State, s.boot.phase ≠ .off → s.boot.done.getLsbD 2 = true →
    exec (.sensorThrottle .powerStage true) s = .next (s.setHeat .powerStage 2).reviewFloor)

/-- R28, R47 to R54, R61, R64: the cold start up to the configuration stage. -/
def Obligations.ColdStartToConfiguration : Prop :=
  (∀ (s : State) (x : Straps), s.boot.phase = .cold 4 → s.power.pwrOk = true → s.power.sysclk = true → x.testMode = false →
    ∃ t, exec (.scribeResetRelease x) s = .next t ∧ t.boot.straps = x ∧ t.boot.phase = .cold 6 ∧ t.boot.puf.isSome = true ∧
      t.boot.done.getLsbD 0 = true ∧ t.power = s.power ∧ t.flash = s.flash ∧ t.chop.running = true) ∧
  (∀ (s : State) (x : Straps), s.boot.phase = .cold 4 → s.power.pwrOk = true → s.power.sysclk = true → x.testMode = true →
    ∃ t, exec (.scribeResetRelease x) s = .next t ∧ t.power.coreHeld = true ∧ t.boot.phase = .off ∧ t.flash = s.flash ∧
      t.chop.running = true) ∧
  (∀ s : State, s.boot.done.getLsbD 0 = true → s.boot.done.getLsbD 1 = false → s.boot.recovery = false →
    ∃ t, exec .bankSelect s = .next t ∧
      (match activeSet s.flash with
        | none => t.boot.recovery = true ∧ t.boot.activeBank = 2
        | some (bank, b) => t.boot.activeBank = bank ∧ t.boot.done.getLsbD 1 = true ∧ t.sec.version = b.version ∧
            t.sec.digests = b.digests)) ∧
  (∀ s : State, s.boot.done.getLsbD 1 = true → s.boot.done.getLsbD 2 = false →
    ∃ t, exec .scribeFirmwareStart s = .next t ∧ t.boot.done.getLsbD 2 = true ∧ t.scribeUp = true ∧ t.power = s.power) ∧
  (∀ s : State, s.boot.done.getLsbD 2 = true → s.boot.done.getLsbD 3 = false →
    ∃ u : State, exec .configLoad s = .next u.actDeferred ∧ u.boot.done.getLsbD 3 = true ∧
      u.boot.phase = (if s.boot.warm then .warm 6 else .cold 9) ∧
      (s.boot.warm = false → u.boot.photonic = s.boot.photonic) ∧ (s.boot.warm = true → u.boot.photonic = true))

/-- R28, R35, R62, R64, R77, R97 to R99: the cold start from the memories to SERVICE. -/
def Obligations.ColdStartToService : Prop :=
  (∀ s : State, s.coldFrom 9 = true → s.boot.sram = false →
    exec .sramInitDone s = .next (s.modBoot (fun b => { b with phase := .cold 10, sram := true }))) ∧
  (∀ (s : State) (failed : BitVec 16), s.coldFrom 9 = true → s.boot.done.getLsbD 5 = false →
    ∃ t, exec (.lpddr6Trained failed) s = .next t ∧ t.boot.done.getLsbD 5 = true ∧
      t.mem = { s.mem with lpd := ~~~(failed ||| s.outOfService 0x0F 16 16) } ∧ (t.mem.lpd ≠ 0xFFFF → t.flag 0x6601 7 = true) ∧
      t.boot.failCode = (if failed = 0 ∨ s.boot.failCode ≠ 0 then s.boot.failCode else 5)) ∧
  (∀ (s : State) (failed : BitVec 4), s.coldFrom 9 = true → s.boot.done.getLsbD 6 = false →
    ∃ t, exec (.inkwellTrained failed) s = .next t ∧ t.boot.done.getLsbD 6 = true ∧ t.mem.ink = ~~~(failed ||| s.outOfService 9 4 4) ∧
      t.mem.bytes = s.mem.bytes) ∧
  (∀ s : State, s.coldFrom 9 = true → s.boot.done.getLsbD 5 = true → s.boot.done.getLsbD 7 = false →
    ∃ t, exec .quillRelease s = .next t ∧ t.boot.done.getLsbD 7 = true ∧ t.mem.lpd = s.mem.lpd ∧ t.flash = s.flash ∧
      (∀ i, i < 24 → Output.quillReset i true ∈ t.out) ∧
      (∀ b, bootImage s.activeDev 3 = some b → ∀ i (h : i < b.length), t.mem.byte (4 * gib + i) = b[i])) ∧
  (∀ s : State, s.coldFrom 9 = true → s.boot.photonic = false → dataPayload s.flash 5 = none →
    exec .photonicLoad s = .next ((((s.modBoot (fun b => { b with photonic := true })).forEach (List.range 16) (fun s e =>
      s.forEach (List.range 4) (fun s i => s.updSource e i (fun x => { x with state := .starting })))).startFails 7))) ∧
  (∀ (s : State) (b : List Byte), s.coldFrom 9 = true → s.boot.photonic = false → dataPayload s.flash 5 = some b →
    ∃ t, exec .photonicLoad s = .next t ∧ t.boot.photonic = true ∧ t.boot.done = s.boot.done ∧ t.flash = s.flash ∧
      t.links = s.links ∧ t.mem = s.mem ∧
      (∀ f w, f < 64 → w < 17 → (t.lane f w).lineRef = s.calRef f w)) ∧
  (∀ s : State, s.coldFrom 9 = true → s.boot.photonic = true → s.boot.comb = false →
    ∃ t, exec .combStable s = .next t ∧ t.boot = { s.boot with comb := true } ∧ t.fibres = s.fibres ∧ t.links = s.links) ∧
  (∀ s : State, s.boot.comb = true → s.boot.done.getLsbD 8 = false → s.boot.warm = true →
    exec .ringsLocked s = .next (s.markDone 8 true)) ∧
  (∀ s : State, s.boot.comb = true → s.boot.done.getLsbD 8 = false → s.boot.warm = false →
    ∃ t, exec .ringsLocked s = .next t ∧ t.boot.done.getLsbD 8 = true ∧ ((dataPayload s.flash 5).isSome = true → t.flash = s.flash)) ∧
  (∀ s : State, s.boot.done.getLsbD 8 = true → s.boot.done.getLsbD 9 = false → exec .linksStageEnd s = .next (s.markDone 9 true)) ∧
  (∀ s : State, (s.boot.done.getLsbD 4 = true ∨ s.boot.straps.hostcfg = 0) → s.boot.done.getLsbD 5 = true → s.boot.done.getLsbD 6 = true →
    s.boot.done.getLsbD 9 = true → s.boot.done.getLsbD 10 = true → s.boot.done.getLsbD 11 = false →
    ∃ t, exec .serviceSet s = .next t ∧ t.service = true ∧ t.power.faultLow = false ∧ t.faults.moduleFault = false ∧
      t.boot.phase = (if s.boot.warm then .warm 12 else .cold 19))

/-- R58, R59, R66, R67: host readiness and the warm sequence. -/
def Obligations.HostReadinessAndWarmReset : Prop :=
  (∀ (s : State) (b : Bool) (speed : Fin 7) (width : Fin 17), s.attached b = true → (s.port b).perst = false → (s.port b).held = false →
    (s.port b).training = true → (s.port b).up = false →
    exec (.pcieConfigRequest b speed width none) s = .next
      ((s.updPort b (fun p => { p with up := true, training := false, speed := speed, width := width })).emit
        (.pcieConfig b (s.port b).filled))) ∧
  (∀ (s : State) (b : Bool) (speed : Fin 7) (width : Fin 17) (en : Bool) (n : Fin 64), s.attached b = true → (s.port b).perst = false →
    (s.port b).held = false → (s.port b).up = true → (s.port b).filled = true → (s.port b).vfEnable = false →
    exec (.pcieConfigRequest b speed width (some (en, n))) s = .next
      ((s.emit (.pcieConfig b true)).updPort b (fun p => { p with vfEnable := en, vfs := n }))) ∧
  (∀ (s : State) (b : Bool), s.attached b = true → s.boot.done.getLsbD 0 = true →
    ∃ t, exec (.perstDeassert b) s = .next t ∧ (t.port b).perst = false ∧ (t.port b).held = false ∧
      (t.port b).training = !(s.port b).up ∧ t.port (!b) = s.port (!b) ∧ t.boot = s.boot) ∧
  (∀ (s : State) (b : Bool), (s.attached b = false ∨ s.boot.done.getLsbD 0 = false) →
    exec (.perstDeassert b) s = .next (s.updPort b (fun p => { p with perst := false, held := false }))) ∧
  (∀ (s : State) (b : Bool), ∃ t, exec (.perstAssert b) s = .next t ∧ (t.port b).perst = true ∧ (t.port b).up = false ∧
    (t.port b).vfEnable = false ∧ (t.port b).speed = 0 ∧ t.port (!b) = s.port (!b) ∧ t.boot = s.boot ∧ t.mem = s.mem) ∧
  (∀ s : State, s.boot.phase = .off → exec .warmRstAssert s = .next (s.modBoot (fun b => { b with warmLow := true }))) ∧
  (∀ (s : State) (k : Nat), s.boot.phase = .cold k → s.boot.sram = true → s.commitNoticed = false →
    ∃ t, exec .warmRstAssert s = .next t ∧ t.boot.phase = .warm 4 ∧ t.boot.warm = true ∧ t.boot.warmLow = true ∧
      t.boot.straps = s.boot.straps ∧ t.flash = s.flash ∧ t.params = [] ∧ t.counters = [] ∧ t.links = [] ∧ t.mem.ink = 0 ∧
      (s.service = true → s.mem.zeroDone = true → ∀ a, t.mem.byte a = s.mem.byte a)) ∧
  (∀ s : State, exec .warmRstRelease s = .next (s.modBoot (fun b => { b with warmLow := false }))) ∧
  (∀ s : State, s.boot.phase = .warm 4 → s.boot.warmLow = false →
    ∃ t, exec .warmPufRelease s = .next t ∧ t.boot.phase = .warm 5 ∧ t.boot.puf.isSome = true ∧ t.boot.done.getLsbD 0 = true ∧
      t.mem = s.mem ∧ t.flash = s.flash) ∧
  (∀ (s : State) (l : BitVec 16) (k : BitVec 4), s.warmFrom 6 = true → s.boot.sram = false →
    ∃ t, exec (.warmMemoryReady l k) s = .next t ∧ t.boot.phase = .warm 7 ∧ t.boot.sram = true ∧ t.boot.done.getLsbD 5 = true ∧
      t.boot.done.getLsbD 6 = true ∧ t.mem.bytes = s.mem.bytes ∧
      t.mem.lpd = (if s.mem.lpd = 0 then 0xFFFF else s.mem.lpd) &&& ~~~(l ||| s.outOfService 0x0F 16 16)) ∧
  (∀ s : State, s.warmFrom 7 = true → s.boot.done.getLsbD 7 = false →
    ∃ t, exec .warmQuillRestart s = .next t ∧ t.boot.done.getLsbD 7 = true ∧ t.mem.lpd = s.mem.lpd ∧ t.flash = s.flash ∧
      (∀ i, i < 24 → Output.quillReset i true ∈ t.out) ∧
      (∀ b, bootImage s.activeDev 3 = some b → ∀ i (h : i < b.length), t.mem.byte (4 * gib + i) = b[i]))

/-- R75, R77, R80, R81: lane and link training. -/
def Obligations.LaneTraining : Prop :=
  (∀ (s : State) (f : Fin 64), s.boot.photonic = true → (s.fibre f).marginState = .dark → (s.fibre f).holdAll ≠ .unit →
    ∃ t, exec (.marginLightDetect f) s = .next t ∧ (t.fibre f).marginState = .acquire ∧ (t.fibre f).rxLos = false ∧
      (t.fibre f).startValue = s.free64.1 ∧ (t.fibre f).goodHellos = 0 ∧ (t.fibre f).lastHello = none ∧
      (∀ w, w < 16 → (s.lane f w).state = .out → s.laneUsed f w = true → s.offElectrical f w = false → (s.lane f w).own = [] →
        (s.fibre f).holdAll = .none → (t.lane f w).state = .lock ∧ (t.lane f w).hold = .none)) ∧
  (∀ (s : State) (f : Fin 64), (s.fibre f).marginState ≠ .dark →
    exec (.helloSend f) s = .next (sendPlain s f 0x02 (helloPayload s f))) ∧
  (∀ (s : State) (f : Fin 64) (w : Fin 16), (s.lane f w).state = .align →
    ∃ t, exec (.laneAligned f w) s = .next t ∧ (t.lane f w).state = .soak ∧
      ∀ g v, (g, v) ≠ (f.val, w.val) → t.lane g v = s.lane g v) ∧
  (∀ (s : State) (f : Fin 64) (w : Fin 16), (s.lane f w).state = .align →
    ∃ t, exec (.alignTimeout f w) s = .next t ∧ t.lane f w = Lane.restart (s.fibre f).holdAll (s.lane f w) ∧
      t.misc.get 0 Misc.alignTimeouts.key = s.misc.get 0 Misc.alignTimeouts.key + 1 ∧ ∀ g v, (g, v) ≠ (f.val, w.val) → t.lane g v = s.lane g v) ∧
  (∀ (s : State) (f : Fin 64) (w : Fin 16) (second : Bool), (s.lane f w).state = .soak →
    ∃ t, exec (.soakEnd f w false second) s = .next t ∧ (t.lane f w).state = .align ∧ t.out = s.out) ∧
  (∀ (s : State) (f : Fin 64) (w : Fin 16), (s.lane f w).state = .soak → (s.fibre f).marginState = .up →
    exec (.soakEnd f w true true) s = .next (sendSeq (s.updLane f w (fun y =>
      { y with soaked := true, addSeq := some (s.link (s.linkOfLane f w)).txSeq })) f 0x04
        (beBytes 1 w ++ zeros 3 ++ beBytes 4 (s.link (s.linkOfLane f w)).txSeq))) ∧
  (∀ (s : State) (f : Fin 64) (w : Fin 16), (s.lane f w).state = .soak →
    exec (.soakEnd f w true false) s = .next (s.updLane f w (fun y => { y with soaked := true }))) ∧
  (∀ (s : State) (f : Fin 64) (w : Fin 16), (s.lane f w).state = .held → (s.lane f w).hold = .flap → (s.lane f w).own = [.flap] →
    (s.fibre f).holdAll = .none → ∃ t, exec (.holddownExpiry f w) s = .next t ∧ (t.lane f w).state = .lock ∧ (t.lane f w).hold = .none) ∧
  (∀ (s : State) (p : Fin 1024), (s.link p).state = .training →
    exec (.trainingAttemptTimeout p) s = .next ((((s.updLink p (fun x => { x with attempts := x.attempts + 1 })).forEach
      ((s.updLink p (fun x => { x with attempts := x.attempts + 1 })).linkSlots p) (fun s w => laneStart s (p / 16) w))).countMisc
        .trainingAttempts 1)) ∧
  (∀ (s : State) (f : Fin 64), exec (.rxLos f) s = .next ((rxLos s f).dropPtp f)) ∧
  (∀ (s : State) (f : Fin 64), (s.fibre f).marginState ≠ .up → s.faultsHeld f = false →
    exec (.marginLossTimeout f) s = .next (fibreLinksDown s f .waitMargin))

/-- R78, R80: a lane fault that the module detects, and the bit error rate windows. -/
def Obligations.LaneFaultsAndWindows : Prop :=
  (∀ (s : State) (f : Fin 64) (w : Fin 16) (c : LaneFault), s.faultsHeld f = false → (∀ n, c = .ucw n → s.param 0x2180 3 ≤ n) →
    exec (.laneFault f w c) s = .next (laneFault s f w c)) ∧
  (∀ (s : State) (f : Fin 64) (w : Fin 16) (n : Nat), n < s.param 0x2180 3 → exec (.laneFault f w (.ucw n)) s = .next s) ∧
  (∀ (s : State) (f : Fin 64) (w : Fin 16) (c : LaneFault), s.faultsHeld f = true → exec (.laneFault f w c) s = .next s) ∧
  (∀ (s : State) (f : Fin 64) (w : Fin 16) (ber e c l : Nat), (s.lane f w).state ≠ .inn →
    exec (.berWindowEnd f w ber e c l) s = .next ((s.countFec (16 * f + w) e c l).updLane f w (fun y => { y with ber := berValue ber }))) ∧
  (∀ (s : State) (f : Fin 64) (w : Fin 16) (ber e c l : Nat), (s.lane f w).state = .inn → (s.fibre f).trial = none → s.faultsHeld f = false →
    s.param 0x2180 1 ≤ berValue ber → s.param 0x2180 2 ≤ berValue ber →
    ∃ t, exec (.berWindowEnd f w ber e c l) s = .next t ∧ (t.lane f w).ber = berValue ber ∧ (t.lane f w).state = .inn ∧ t.flags = s.flags ∧
      t.counters = (s.countFec (16 * f + w) e c l).counters) ∧
  (∀ (s : State) (f : Fin 64) (w : Fin 16) (ber e c l : Nat), (s.lane f w).state = .inn → (s.fibre f).trial = none → s.faultsHeld f = false →
    s.param 0x2180 1 ≤ berValue ber → berValue ber < s.param 0x2180 2 →
    ∃ t, exec (.berWindowEnd f w ber e c l) s = .next t ∧ (t.lane f w).state = .inn ∧ t.flag (0x6340 + f) 3 = true) ∧
  (∀ (s : State) (f : Fin 64) (w : Fin 16) (ber e c l : Nat), (s.lane f w).state = .inn → (s.fibre f).trial = none → s.faultsHeld f = false →
    berValue ber < s.param 0x2180 1 →
    exec (.berWindowEnd f w ber e c l) s = .next (laneFault (((s.countFec (16 * f + w) e c l).updLane f w
      (fun y => { y with ber := berValue ber })).setFlagIf (berValue ber < s.param 0x2180 2) (0x6340 + f) 3) f w .ber))

/-- R89 to R95: the ring loops, their trials and the pilot words. -/
def Obligations.RingControl : Prop :=
  (∀ (s : State) (f : Fin 64) (w : Fin 17) (ring : Ring) (d : Int), s.boot.photonic = true → hasRing w ring = true →
    s.ringHeld f ring = false → 0 ≤ d → d ≤ 30000 →
    ∃ t, exec (.heaterUpdate f w ring d) s = .next t ∧ ((t.lane f w).ring ring).heater = d.toNat ∧ t.flags = s.flags) ∧
  (∀ (s : State) (f : Fin 64) (w : Fin 17) (ring : Ring) (d : Int), s.boot.photonic = true → hasRing w ring = true →
    s.ringHeld f ring = false → 30000 < d →
    ∃ t, exec (.heaterUpdate f w ring d) s = .next t ∧ ((t.lane f w).ring ring).heater = 30000 ∧ t.flag (0x6390 + f / 4) 2 = true) ∧
  (∀ (s : State) (f : Fin 64) (w : Fin 17) (ring : Ring) (d : Int), s.boot.photonic = true → hasRing w ring = true →
    s.ringHeld f ring = false → d < 0 →
    ∃ t, exec (.heaterUpdate f w ring d) s = .next t ∧ ((t.lane f w).ring ring).heater = 0 ∧ t.flag (0x6390 + f / 4) 2 = true) ∧
  (∀ (s : State) (f : Fin 64) (w : Fin 17) (ring : Ring), hasRing w ring = true →
    ∃ t, exec (.ringCapture f w ring) s = .next t ∧
    ((t.lane f w).ring ring).locked = true ∧ (t.lane f w).state = (s.lane f w).state) ∧
  (∀ (s : State) (f : Fin 64) (w : Fin 17), hasRing w .addDrop = true → ∃ t, exec (.ringUnlock f w .addDrop) s = .next t ∧
    (t.lane f w).addDrop.locked = false ∧ (t.lane f w).state = (s.lane f w).state) ∧
  (∀ (s : State) (f : Fin 64) (w : Fin 17) (ring : Ring), ring ≠ .addDrop → w.val < 16 →
    exec (.ringUnlock f w ring) s =
      .next (laneFault (s.updLane f w (fun y => y.updRing ring (fun r => { r with locked := false }))) f w .ring)) ∧
  (∀ (s : State) (f : Fin 64) (w : Fin 16) (ring : Ring), s.param 0x2190 1 ≠ 0 → (s.lane f w).state = .inn →
    s.param 0x2180 1 + s.param 0x2190 3 ≤ (s.lane f w).ber → (s.fibre f).trial = none → (s.engine (f / 4)).hot = false → ring ≠ .addDrop →
    (s.fibre f).suspended = false → s.ringHeld f ring = false →
    ∃ t, exec (.trialStart f w ring) s = .next t ∧
      (t.fibre f).trial = some { lane := w, ring := ring, saved := ((s.lane f w).ring ring).setPoint } ∧
      ((t.lane f w).ring ring).setPoint = ((s.lane f w).ring ring).setPoint + 2 * (s.param 0x2190 2 : Int)) ∧
  (∀ (s : State) (f : Fin 64) (n : Nat) (x : Trial), (s.fibre f).trial = some x → s.trialHeld f = false →
    exec (.trialSubwindowRead f n false) s = .next (s.updFibre f (fun y =>
      { y with trial := some (if x.second then { x with minus := x.minus + n } else { x with plus := x.plus + n }) }))) ∧
  (∀ (s : State) (f : Fin 64) (n : Nat) (x : Trial), (s.fibre f).trial = some x → s.trialHeld f = false →
    ∃ t, exec (.trialSubwindowRead f n true) s = .next t ∧ (t.fibre f).trial = none ∧
      ((t.lane f x.lane).ring x.ring).setPoint = x.saved) ∧
  (∀ (s : State) (f : Fin 64) (x : Trial), (s.fibre f).trial = some x → s.trialHeld f = false → x.second = true →
    ∃ t, exec (.trialWindowEnd f) s = .next t ∧ (t.fibre f).trial = none ∧ ((t.lane f x.lane).ring x.ring).setPoint =
      (if x.plus < x.minus then x.saved + (s.param 0x2190 2 : Int) else if x.minus < x.plus then x.saved - (s.param 0x2190 2 : Int)
        else x.saved)) ∧
  (∀ (s : State) (f : Fin 64) (x : Trial), (s.fibre f).trial = some x → s.trialHeld f = false → x.second = false →
    ∃ t, exec (.trialWindowEnd f) s = .next t ∧ (t.fibre f).trial = some { x with second := true } ∧
      ((t.lane f x.lane).ring x.ring).setPoint = x.saved - 2 * (s.param 0x2190 2 : Int))

/-- R93, R94: pilot words, their retries and their loss. -/
def Obligations.PilotWords : Prop :=
  (∀ (s : State) (f : Fin 64) (w : Fin 17) (word : BitVec 16), (s.lane f w).state = .lock → (s.lane f w).drop.locked = true →
    pilotIndex word = some w.val → 2 ≤ (s.lane f w).pilotGood →
    ∃ t, exec (.pilotWordReceive f w word) s = .next t ∧ (t.lane f w).state = (if w.val = 16 then .inn else .align) ∧
       (t.lane f w).drop.line = w.val) ∧
  (∀ (s : State) (f : Fin 64) (w : Fin 17) (word : BitVec 16), (s.lane f w).state = .lock → (s.lane f w).drop.locked = true →
    pilotIndex word = some w.val → (s.lane f w).pilotGood < 2 →
    ∃ t, exec (.pilotWordReceive f w word) s = .next t ∧ (t.lane f w).state = .lock ∧
      (t.lane f w).pilotGood = (s.lane f w).pilotGood + 1) ∧
  (∀ (s : State) (f : Fin 64) (w : Fin 17) (word : BitVec 16) (i : Nat), (s.lane f w).state = .lock → (s.lane f w).drop.locked = true →
    pilotIndex word = some i → i ≠ w.val → exec (.pilotWordReceive f w word) s = .next (nextLine s f w)) ∧
  (∀ (s : State) (f : Fin 64) (w : Fin 17) (word : BitVec 16) (i : Nat), (s.lane f w).state = .inn → pilotIndex word = some i →
    i ≠ w.val → (s.lane f w).pilotBad = 0 →
    ∃ t, exec (.pilotWordReceive f w word) s = .next t ∧ (t.lane f w).state = .inn ∧ (t.lane f w).pilotBad = 1) ∧
  (∀ (s : State) (f : Fin 64) (w : Fin 17) (word : BitVec 16) (i : Nat), (s.lane f w).state = .inn → pilotIndex word = some i →
    i ≠ w.val → 1 ≤ (s.lane f w).pilotBad →
    exec (.pilotWordReceive f w word) s = .next (laneFault (((s.setFlag (0x6390 + f / 4) 0).countUnit 1 (f / 4) 2).updLane f w
      (fun y => { y with pilotBad := 0 })) f w .ring)) ∧
  (∀ (s : State) (f : Fin 64) (w : Fin 17), (s.lane f w).state = .lock → exec (.pilotTimeout f w) s = .next (nextLine s f w)) ∧
  (∀ (s : State) (f : Fin 64) (w : Fin 17), (s.lane f w).state = .held → (s.lane f w).hold = .pilot →
    (s.lane f w).own = [.pilot] → (w.val = 16 ∨ (s.fibre f).holdAll = .none) →
    ∃ t, exec (.pilotRetryExpiry f w) s = .next t ∧ (t.lane f w).state = .lock ∧ (t.lane f w).hold = .none) ∧
  (∀ (s : State) (f : Fin 64) (w : Fin 17), (s.lane f w).state = .inn →
    exec (.pilotWordsLost f w) s = .next (sendSeq (((s.setFlag (0x6390 + f / 4) 1).countUnit 1 (f / 4) 3).updLane f w
      (fun y => { y with pilotLost := y.pilotLost + 1 })) f 0x07 (beBytes 1 w ++ beBytes 1 2 ++ zeros 2)))

/-- R92: on every wavelength of a fibre whose source is Active, and on which Hatch does not send a leaf's light, the module puts the word of
that channel: SYNC 0b1101, INDEX, two reserved zeros and CHECK. A receiver reads that INDEX from it. -/
def Obligations.OwnPilot : Prop :=
  ∀ (s : State) (f : Fin 64) (w : Fin 17) (i : Fin 5), s.boot.photonic = true → (s.source (f / 4) i).state = .active →
    (s.source (f / 4) i).feeds = f % 4 → (∀ c ∈ s.hatch.conns, hatchPort f w ∉ c.outs ∨ w.val < 12 ∨ w.val = 16) →
    ∃ v : BitVec 16, s.pilotOut f w = some v.toNat ∧ v.extractLsb' 12 4 = 0b1101#4 ∧ v.extractLsb' 7 5 = BitVec.ofNat 5 w ∧
      v.extractLsb' 5 2 = 0#2 ∧ v.extractLsb' 0 5 = ~~~(BitVec.ofNat 5 w) ∧ pilotIndex v = some w.val

/-- R98 to R105: fades, spares, failures and changeovers of the laser sources. -/
def Obligations.LaserSources : Prop :=
  (∀ (s : State) (f : Fin 64) (w : Fin 17) (x : LineSample), s.feeder f = none → exec (.linePowerSample f w x) s = .next s) ∧
  (∀ (s : State) (f : Fin 64) (w : Fin 17) (x : LineSample) (src : Nat), s.feeder f = some src →
    -100 < x.power - (s.lane f w).lineRef →
    ∃ t, exec (.linePowerSample f w x) s = .next t ∧
      (t.lane f w).fade = max (-3000) (min 1000 (x.power - (s.lane f w).lineRef)) ∧ t.flags = s.flags) ∧
  (∀ (s : State) (f : Fin 64) (w : Fin 16), (s.lane f w).state = .held → (s.lane f w).hold = .fade →
    (s.lane f w).own = [.fade] → (s.fibre f).holdAll = .none → -150 < (s.lane f w).fade →
    ∃ t, exec (.fadeDropRelease f w) s = .next t ∧ (t.lane f w).state = .lock ∧ (t.lane f w).hold = .none ∧
      (t.source (f / 4) (s.lane f w).droppedBy).dropped = (s.source (f / 4) (s.lane f w).droppedBy).dropped - 1) ∧
  (∀ (s : State) (e : Fin 16), (s.source e 4).state = .starting →
    ∃ t, exec (.spareReady e) s = .next t ∧ (t.source e 4).state = .ready ∧
      ∀ c, (s.engine e).change = some c → ∃ d, (t.engine e).change = some d ∧ d.requested = true) ∧
  (∀ (s : State) (e : Fin 16), s.param 0x2190 6 = 0 → (s.source e 4).state = .ready → (s.engine e).change = none →
    (s.engine e).failedFibre = none → s.linesFresh e = true →
    ∃ t, exec (.spareOff e) s = .next t ∧ (t.source e 4).state = .off ∧ (t.source e 4).fade = none) ∧
  (∀ (s : State) (e : Fin 16) (c : Changeover) (t : Nat × Nat), (s.engine e).change = some c → c.t = some t → c.noticed = false →
    exec (.changeoverNoticeSend e) s = .next (sendSeq (s.updChange e (fun c => { c with noticed := true })) (4 * e.val + c.fibre) 0x08
      (changeoverPayload (4 * e.val + c.fibre) t))) ∧
  (∀ (s : State) (e : Fin 16) (c : Changeover), (s.engine e).change = some c → c.noticed = true → c.acked = false → c.open_ = false →
    c.abandoned < 3 →
    ∃ t, exec (.changeoverAckTimeout e) s = .next t ∧
      (t.engine e).change = some { c with t := none, noticed := false, requested := true, abandoned := c.abandoned + 1 }) ∧
  (∀ (s : State) (e : Fin 16) (c : Changeover) (t : Nat × Nat), (s.engine e).change = some c → c.t = some t → s.reached t = true →
    c.noticed = true → c.acked = true → c.open_ = false →
    ∃ u, exec (.changeoverWindowOpen e) s = .next u ∧ (u.fibre (4 * e.val + c.fibre)).suspended = true ∧
      (u.fibre (4 * e.val + c.fibre)).margin.stopped = true) ∧
  (∀ (s : State) (e : Fin 16) (c : Changeover), (s.engine e).change = some c → c.open_ = true →
    exec (.changeoverWindowEnd e) s = .next (changeoverDone s e c)) ∧
  (∀ (s : State) (e : Fin 16) (src : Fin 5), (s.source e src).state = .ready → src.val ≠ 4 →
    ∃ t, exec (.sourceFailure e src) s = .next t ∧ (t.source e src).state = .failed ∧ t.flag (0x6390 + e) 7 = true) ∧
  (∀ (s : State) (e : Fin 16) (src : Fin 5) (i : Nat), (s.source e src).state = .active → (s.source e src).feeds = i → i < 4 → src.val ≠ 4 →
    (s.engine e).change = none → ((s.source e 4).state = .active ∨ (s.source e 4).state = .failed ∨ (s.source e 4).state = .retired) →
    exec (.sourceFailure e src) s = .next (fibreSourceless (((s.updSource e src (fun x =>
      { x with state := .failed, feeds := 4, fade := none })).setFlag (0x6390 + e) 7).countUnit 1 e 7) (4 * e.val + i))) ∧
  (∀ (s : State) (e : Fin 16) (i : Nat), (s.engine e).failedFibre = some i → (s.source e 4).state = .ready →
    exec (.spareRouted e) s = .next (newReference (((s.updSource e 4 (fun x => { x with state := .active, feeds := i, fade := some 0 })).setFlag
      (0x6390 + e) 6).updEngine e (fun y => { y with failedFibre := none })) (4 * e.val + i) (64 + e)))

/-- R145 to R152, R369, R447: a frame that passes the checks and is of the row's TYPE brings its sequence number, acknowledgement and
credit, then its own effect, then what credit and acknowledgement have made room for. -/
def Obligations.MarginFramesTaken : Prop :=
  (∀ (s : State) (f : Fin 64) (b pl : List Byte), s.marginKind f b = .frame 0x01 pl →
    exec (.keepaliveReceive f b) s = .next (pumpMargin (s.marginHop f b) f)) ∧
  (∀ (s : State) (f : Fin 64) (b pl : List Byte), s.marginKind f b = .frame 0x02 pl →
    exec (.helloReceive f b) s = .next (pumpMargin (onHello (s.marginHop f b) f pl) f)) ∧
  (∀ (s : State) (f : Fin 64) (b pl : List Byte), s.marginKind f b = .frame 0x03 pl →
    exec (.laneDropReceive f b) s = .next (pumpMargin (onLaneDrop (s.marginHop f b) f pl) f)) ∧
  (∀ (s : State) (f : Fin 64) (b pl : List Byte), s.marginKind f b = .frame 0x04 pl →
    exec (.laneAddReceive f b) s = .next (pumpMargin (onLaneAdd (s.marginHop f b) f pl) f)) ∧
  (∀ (s : State) (f : Fin 64) (b pl : List Byte), s.marginKind f b = .frame 0x05 pl →
    exec (.laneAddConfirmReceive f b) s = .next (pumpMargin (onLaneAddConfirm (s.marginHop f b) f pl) f)) ∧
  (∀ (s : State) (f : Fin 64) (b pl : List Byte), s.marginKind f b = .frame 0x06 pl →
    exec (.errorReportReceive f b) s = .next (pumpMargin (onErrorReport (s.marginHop f b) f pl) f)) ∧
  (∀ (s : State) (f : Fin 64) (b pl : List Byte), s.marginKind f b = .frame 0x07 pl →
    exec (.pilotFaultReceive f b) s = .next (pumpMargin (onPilotFault (s.marginHop f b) f pl) f)) ∧
  (∀ (s : State) (f : Fin 64) (b pl : List Byte), s.marginKind f b = .frame 0x08 pl →
    exec (.changeoverNoticeReceive f b) s = .next (pumpMargin (onChangeover (s.marginHop f b) f pl) f)) ∧
  (∀ (s : State) (f : Fin 64) (b pl : List Byte), s.marginKind f b = .frame 0x09 pl →
    exec (.changeoverAckReceive f b) s = .next (pumpMargin (onChangeoverAck (s.marginHop f b) f pl) f)) ∧
  (∀ (s : State) (f : Fin 64) (b pl : List Byte), s.marginKind f b = .frame 0x0B pl →
    exec (.circuitAckReceive f b) s = .next (pumpMargin (onCircuitAck (s.marginHop f b) f pl) f)) ∧
  (∀ (s : State) (f : Fin 64) (b pl : List Byte), s.marginKind f b = .frame 0x10 pl →
    exec (.abortReceive f b) s = .next (pumpMargin (onAbort (s.marginHop f b) f pl) f)) ∧
  (∀ (s : State) (f : Fin 64) (b pl : List Byte), s.marginKind f b = .frame 0x14 pl →
    exec (.carryReceive f b) s = .next (pumpMargin (onCarry (s.marginHop f b) f pl) f)) ∧
  (∀ (s : State) (f : Fin 64) (b pl : List Byte), s.marginKind f b = .frame 0x15 pl →
    exec (.digestReceive f b) s = .next (pumpMargin (onDigest (s.marginHop f b) f pl) f)) ∧
  (∀ (s : State) (f : Fin 64) (b pl : List Byte), s.marginKind f b = .frame 0x16 pl →
    exec (.schedFrameReceive f b) s = .next (pumpMargin (onSched (s.marginHop f b) f pl) f))

/-- R368, R369, R447: the messages that TIME and JOB frames carry, by the row that takes each. -/
def Obligations.TimeAndJobFramesTaken : Prop :=
  (∀ (s : State) (f : Fin 64) (b pl : List Byte), s.marginKind f b = .frame 0x11 pl → ptpType pl = 0 →
    exec (.ptpSyncReceive f b) s = .next (pumpMargin (onTime (s.marginHop f b) f pl) f)) ∧
  (∀ (s : State) (f : Fin 64) (b pl : List Byte), s.marginKind f b = .frame 0x11 pl → ptpType pl = 1 →
    exec (.ptpDelayReqReceive f b) s = .next (pumpMargin (onTime (s.marginHop f b) f pl) f)) ∧
  (∀ (s : State) (f : Fin 64) (b pl : List Byte), s.marginKind f b = .frame 0x11 pl → ptpType pl = 9 →
    exec (.ptpDelayRespReceive f b) s = .next (pumpMargin (onTime (s.marginHop f b) f pl) f)) ∧
  (∀ (s : State) (f : Fin 64) (b pl : List Byte), s.marginKind f b = .frame 0x11 pl → ptpType pl = 11 →
    exec (.ptpAnnounceReceive f b) s = .next (pumpMargin (onTime (s.marginHop f b) f pl) f)) ∧
  (∀ (s : State) (f : Fin 64) (b pl : List Byte), s.marginKind f b = .frame 0x12 pl → byteAt pl 0 = 2 →
    exec (.jobAckReceive f b) s = .next (pumpMargin (onJob (s.marginHop f b) f pl) f)) ∧
  (∀ (s : State) (f : Fin 64) (b pl : List Byte), s.marginKind f b = .frame 0x12 pl → byteAt pl 0 = 3 →
    exec (.jobShareReceive f b) s = .next (pumpMargin (onJob (s.marginHop f b) f pl) f)) ∧
  (∀ (s : State) (f : Fin 64) (b pl : List Byte), s.marginKind f b = .frame 0x12 pl → byteAt pl 0 = 4 →
    exec (.jobCommitReceive f b) s = .next (pumpMargin (onJob (s.marginHop f b) f pl) f)) ∧
  (∀ (s : State) (f : Fin 64) (b pl : List Byte), s.marginKind f b = .frame 0x12 pl → byteAt pl 0 = 5 →
    exec (.jobCancelReceive f b) s = .next (pumpMargin (onJob (s.marginHop f b) f pl) f)) ∧
  (∀ (s : State) (f : Fin 64) (b pl : List Byte), s.marginKind f b = .frame 0x12 pl → byteAt pl 0 = 6 →
    exec (.jobTeardownReceive f b) s = .next (pumpMargin (onJob (s.marginHop f b) f pl) f)) ∧
  (∀ (s : State) (f : Fin 64) (b pl : List Byte), s.marginKind f b = .frame 0x12 pl → byteAt pl 0 = 7 →
    exec (.jobAbortReceive f b) s = .next (pumpMargin (onJob (s.marginHop f b) f pl) f))

/-- R145 to R148, R151: what fails a check is discarded and counted, with the flags of the first two kinds; a frame with RELAY set is
handed on. -/
def Obligations.MarginFramesDiscarded : Prop :=
  (∀ (s : State) (f : Fin 64) (b : List Byte), s.marginKind f b = .badCheck →
    ∃ t, exec (.marginFrameDiscard f b) s = .next t ∧ t.flag (0x6440 + f.val) 0 = true ∧ t.fibres = s.fibres ∧ t.out = s.out ∧
      t.counter (0x7800 + f) 3 = (s.counter (0x7800 + f) 3 + 1) % 2 ^ 64) ∧
  (∀ (s : State) (f : Fin 64) (b : List Byte), s.marginKind f b = .badHeader →
    ∃ t, exec (.marginFrameDiscard f b) s = .next t ∧ t.fibres = s.fibres ∧ t.flags = s.flags ∧
      t.counter (0x7800 + f) 4 = (s.counter (0x7800 + f) 4 + 1) % 2 ^ 64) ∧
  (∀ (s : State) (f : Fin 64) (b : List Byte), s.marginKind f b = .badType →
    ∃ t, exec (.marginFrameDiscard f b) s = .next t ∧ t.flag (0x6440 + f.val) 1 = true ∧ t.fibres = s.fibres ∧
      t.counter (0x7800 + f) 4 = (s.counter (0x7800 + f) 4 + 1) % 2 ^ 64) ∧
  (∀ (s : State) (f : Fin 64) (b : List Byte), s.marginKind f b = .badSeq →
    exec (.marginFrameDiscard f b) s = .next (s.countMisc .marginUnaccepted 1)) ∧
  (∀ (s : State) (f : Fin 64) (b : List Byte) (w : Nat), s.marginKind f b = .relay w →
    exec (.relayFrameReceive f b) s = .next (relayFrame (s.countFibre f 1) f w b))

/-- R148, R150, R157: what the margin channel sends by its own timers, and its loss. -/
def Obligations.MarginChannelTimers : Prop :=
  (∀ (s : State) (f : Fin 64), (s.fibre f).marginState = .up → (s.fibre f).margin.stopped = false →
    exec (.keepaliveSend f) s = .next (sendPlain s f 0x01 [])) ∧
  (∀ (s : State) (f : Fin 64), (s.fibre f).marginState = .up → s.timersPaused f = false →
    exec (.marginResendTimeout f) s = .next (s.forEach (s.fibre f).margin.heldFrames (fun s h => s.resendHeld f h))) ∧
  (∀ (s : State) (f : Fin 64), s.timersPaused f = true → exec (.marginResendTimeout f) s = .next s) ∧
  (∀ (s : State) (f : Fin 64), (s.fibre f).marginState ≠ .dark → s.timersPaused f = false →
    exec (.marginLossDetect f) s = .next ((marginLost s f).dropPtp f)) ∧
  (∀ (s : State) (f : Fin 64) (counts : List Nat), (s.fibre f).marginState = .up →
    exec (.errorReportSend f counts) s = .next (sendPlain (s.updFibre f (fun x =>
      { x with margin := { x.margin with window := x.margin.window + 1 } })) f 0x06 (errorReportPayload s f counts)))

/-- R72, R98 to R105, R113 to R120, R412: accepted writes of the recovery, fibre, source and Hatch objects. -/
def Obligations.OpticsWritesAccepted : Prop :=
  (∀ (s a : State) (r : Req), WriteAdmitted s r 0x1F00 1 (command32 1 0) a → a.boot.recovery = true →
    exec (.recoveryBeginLoad r 0) s = .next (writeOk (a.modCodex (fun c =>
      { c with loads := c.loads.put {} 0x1F01 { active := true }, recoveryStatus := 0 })) r 0x1F00 1 (command32 1 0))) ∧
  (∀ (s a : State) (r : Req), WriteAdmitted s r 0x1F00 1 (command32 2 0) a → a.boot.recovery = true →
    exec (.recoveryInstall r 0) s = .next (writeOk (a.modCodex (fun c => { c with installDue := true, recoveryStatus := 1 })) r 0x1F00 1
      (command32 2 0)).afterServe) ∧
  (∀ (s a : State) (r : Req) (f : Fin 64) (v : BitVec 64), WriteAdmitted s r (0x2140 + f.val) 1 v.toNat a →
    fibreCfgValid (fibreCfgMask v.toNat) = true →
    (cfgMode (a.fibreCfg f) = false ∨ cfgMode (fibreCfgMask v.toNat) = true ∨ ∀ w < 16, a.inCircuit f w = false) →
    exec (.fibreCfgWrite r f v) s =
      .next (writeOk (applyFibreCfg a f (a.fibreCfg f) (fibreCfgMask v.toNat)) r (0x2140 + f.val) 1 v.toNat).runPendingWarm) ∧
  (∀ (s a : State) (r : Req) (e src : Fin 16), WriteAdmitted s r 0x2191 1 (256 + e * 16 + src) a → src.val ≤ 3 →
    (a.source e src).state = .retired → (a.source e 4).state = .active → (a.source e 4).feeds = src →
    -100 < (a.source e src).lastFade → (a.engine e).change = none →
    exec (.sourceReinstate r e src) s = .next (writeOk ((abandonTrial a (4 * e + src)).updEngine e (fun x =>
      { x with change := some { fibre := src, target := src, requested := true } })) r 0x2191 1 (256 + e * 16 + src))) ∧
  (∀ (s a : State) (r : Req) (e src : Fin 16), WriteAdmitted s r 0x2191 1 (512 + e * 16 + src) a → src.val ≤ 3 →
    (a.source e src).state = .active → (a.source e 4).state = .ready → (a.engine e).change = none →
    (a.engine e).failedFibre = none →
    exec (.changeoverNow r e src) s = .next (writeOk (requestChange a (4 * e + src)) r 0x2191 1 (512 + e * 16 + src))) ∧
  (∀ (s a : State) (r : Req) (n tag : Nat), WriteAdmitted s r 0x21A1 1 (2 ^ 24 + n * 2 ^ 16 + tag) a → 1 ≤ n → n ≤ 32 → tag < 65536 →
    a.hatch.commit = none →
    exec (.hatchCommit r n tag) s = .next (writeOk (acceptCommit a n tag) r 0x21A1 1 (2 ^ 24 + n * 2 ^ 16 + tag))) ∧
  (∀ (s a : State) (r : Req) (tag : Nat), WriteAdmitted s r 0x21A1 1 (2 * 2 ^ 24 + tag) a → tag < 65536 → a.hatch.commit = none →
    exec (.hatchClearStaging r tag) s = .next (writeOk (a.forEach (List.range 32) (fun s k => s.setParam 0x21A2 (1 + k) 0)) r 0x21A1 1
      (2 * 2 ^ 24 + tag))) ∧
  (∀ (s a : State) (r : Req) (tag : Nat) (c : Commit), WriteAdmitted s r 0x21A1 1 (3 * 2 ^ 24 + tag) a → tag < 65536 →
    a.hatch.commit = some c → c.sent = false → c.stage ≤ 2 →
    exec (.hatchCancel r tag) s = .next (writeOk (a.commitEnds 10) r 0x21A1 1 (3 * 2 ^ 24 + tag)))

/-- R174, R192, R220, R221, R339, R372, R379: accepted writes of the table, plane, bucket, pool, trigger and histogram objects. -/
def Obligations.CoreWritesAccepted : Prop :=
  (∀ (s a : State) (r : Req) (arg : BitVec 24), WriteAdmitted s r 0x21D1 1 (2 ^ 24 + arg.toNat) a → 1 ≤ bits arg.toNat 21 16 →
    bits arg.toNat 21 16 ≤ 32 → bits arg.toNat 23 22 = 0 → a.tables.batch = none →
    (∀ k < bits arg.toNat 21 16, opOk (a.tables.stage.get 0 k) = true) →
    exec (.tableApply r arg) s = .next (writeOk (a.modTables (fun t =>
      { t with batch := some { ops := (List.range (bits arg.toNat 21 16)).map (fun k => a.tables.stage.get 0 k), tag := bits arg.toNat 15 0 }
               lastTag := bits arg.toNat 15 0 })) r 0x21D1 1 (2 ^ 24 + arg.toNat))) ∧
  (∀ (s a : State) (r : Req) (arg : BitVec 24), WriteAdmitted s r 0x21D1 1 (2 * 2 ^ 24 + arg.toNat) a → arg.toNat < 65536 →
    a.tables.batch = none →
    exec (.tableClearStaging r arg) s = .next (writeOk (a.modTables (fun t => { t with stage := [], lastTag := arg.toNat })) r 0x21D1 1
      (2 * 2 ^ 24 + arg.toNat))) ∧
  (∀ (s a : State) (r : Req) (arg : BitVec 24), WriteAdmitted s r 0x21E2 1 (2 ^ 24 + arg.toNat) a → arg.toNat ≤ 9 →
    exec (.planeWithdraw r arg) s = .next (writeOk (a.modCore (fun c =>
      { c with noMatch := c.noMatch ||| BitVec.ofNat 10 (2 ^ arg.toNat)
               restoring := c.restoring &&& ~~~(BitVec.ofNat 10 (2 ^ arg.toNat)) })) r 0x21E2 1 (2 ^ 24 + arg.toNat))) ∧
  (∀ (s a : State) (r : Req) (arg : BitVec 24), WriteAdmitted s r 0x21E2 1 (2 * 2 ^ 24 + arg.toNat) a → arg.toNat ≤ 9 →
    a.core.needProof.getLsbD arg.toNat = false → a.core.noMatch.getLsbD arg.toNat = true →
    exec (.planeRestore r arg) s = .next (writeOk (a.modCore (fun c =>
      { c with restoring := c.restoring ||| BitVec.ofNat 10 (2 ^ arg.toNat) })) r 0x21E2 1 (2 * 2 ^ 24 + arg.toNat))) ∧
  (∀ (s a : State) (r : Req) (k : Fin 4096) (v : BitVec 64), WriteAdmitted s r (0x2240 + k / 64) (1 + k % 64) v.toNat a →
    bucketOk v.toNat = true →
    exec (.shaperCfgWrite r k v) s = .next (writeOk ((a.setParam (0x2240 + k / 64) (1 + k % 64) v.toNat).setShaper k (bucketFull v.toNat)) r
      (0x2240 + k / 64) (1 + k % 64) v.toNat)) ∧
  (∀ (s a : State) (r : Req) (k : Fin 4096) (v : BitVec 64), WriteAdmitted s r (0x2280 + k / 64) (1 + k % 64) v.toNat a →
    bucketOk v.toNat = true →
    exec (.policerCfgWrite r k v) s = .next (writeOk ((a.setParam (0x2280 + k / 64) (1 + k % 64) (policerStored v.toNat)).setPolicer k
      (bucketFull v.toNat)) r (0x2280 + k / 64) (1 + k % 64) v.toNat)) ∧
  (∀ (s a : State) (r : Req) (v : BitVec 32), WriteAdmitted s r 0x2380 1 v.toNat a → v.toNat ≤ 512 →
    exec (.poolSizeWrite r v) s = .next (match a.storeConfig 0x2380 1 v.toNat with
      | some u => writeOk (u.setParam 0x2380 1 v.toNat) r 0x2380 1 v.toNat
      | none => dopRespond a (writeReq r 0x2380 1 v.toNat) .range false [])) ∧
  (∀ (s a : State) (r : Req) (t : Fin 16) (v : BitVec 32), WriteAdmitted s r (0x2460 + t) 2 v.toNat a → 1 ≤ bits v.toNat 31 24 →
    bits v.toNat 31 24 ≤ 3 → a.cellNow + 977 ≤ a.param (0x2460 + t) 1 →
    exec (.trigArm r t v) s = .next (writeOk (a.updTrigger t (fun _ =>
      { cell := a.param (0x2460 + t) 1, action := bits v.toNat 31 24, armed := true })) r (0x2460 + t) 2 v.toNat)) ∧
  (∀ (s a : State) (r : Req) (t : Fin 16) (arg : BitVec 24), WriteAdmitted s r (0x2460 + t) 2 arg.toNat a →
    exec (.trigDisarm r t arg) s = .next (writeOk (a.updTrigger t (fun x => { x with action := 0, armed := false })) r (0x2460 + t) 2
      arg.toNat)) ∧
  (∀ (s a : State) (r : Req) (h : Fin 16) (v : BitVec 64), WriteAdmitted s r 0x2453 (1 + h) v.toNat a → bits v.toNat 63 60 ≤ 6 →
    1 ≤ bits v.toNat 59 50 → bits v.toNat 59 50 ≤ 1000 →
    exec (.histCfgWrite r h v) s = .next (writeOk (
      { a.setParam 0x2453 (1 + h) (v.toNat - bits v.toNat 49 38 * 2 ^ 38 - bits v.toNat 21 16 * 2 ^ 16) with
        counters := a.counters.filter (fun e => e.1 / 256 ≠ 0x7600 + h.val) }) r 0x2453 (1 + h) v.toNat))

/-- R210, R211: SCHED_CMD's commands accepted. -/
def Obligations.ScheduleCommandsAccepted : Prop :=
  (∀ (s a : State) (r : Req) (arg : BitVec 24), WriteAdmitted s r 0x21F1 1 (2 ^ 24 + arg.toNat) a → arg.toNat < 65536 → a.mem.ink ≠ 0 →
    a.ductus.armed = false →
    exec (.schedBeginLoad r arg) s = .next (writeOk (((a.modDuctus (fun d =>
      { d with shadow := [], shadowValid := false, bootJoin := false, validating := false })).modCodex (fun c =>
        { c with loads := c.loads.put {} 0x21F2 { active := true } })).modDuctus (fun d => { d with lastTag := arg.toNat })) r 0x21F1 1
      (2 ^ 24 + arg.toNat))) ∧
  (∀ (s a : State) (r : Req) (arg : BitVec 24), WriteAdmitted s r 0x21F1 1 (2 * 2 ^ 24 + arg.toNat) a → arg.toNat < 65536 →
    a.mem.ink ≠ 0 → a.ductus.armed = false →
    exec (.schedValidate r arg) s = .next (writeOk (a.modDuctus (fun d => { d with validating := true, lastTag := arg.toNat })) r 0x21F1 1
      (2 * 2 ^ 24 + arg.toNat))) ∧
  (∀ s : State, s.ductus.validating = true → exec .schedValidateDone s = .next s.validateShadow) ∧
  (∀ (s a : State) (r : Req) (arg : BitVec 24), WriteAdmitted s r 0x21F1 1 (3 * 2 ^ 24 + arg.toNat) a → arg.toNat < 65536 →
    a.mem.ink ≠ 0 → a.ductus.shadowValid = true → a.ductus.armed = false → a.timeSet = true → a.swapAtOk (a.param 0x21F3 1) = true →
    exec (.schedArm r arg) s = .next (writeOk ((a.modDuctus (fun d =>
      { d with armed := true, armedAt := a.param 0x21F3 1, check := none, lastTag := arg.toNat })).sendSched 1 0 a.ductus.shadowId
        (a.param 0x21F3 1)) r 0x21F1 1 (3 * 2 ^ 24 + arg.toNat))) ∧
  (∀ (s a : State) (r : Req) (arg : BitVec 24), WriteAdmitted s r 0x21F1 1 (4 * 2 ^ 24 + arg.toNat) a → arg.toNat < 65536 →
    a.ductus.armed = true →
    exec (.schedDisarm r arg) s = .next (writeOk (a.modDuctus (fun d => { d with armed := false, check := none, lastTag := arg.toNat })) r
      0x21F1 1 (4 * 2 ^ 24 + arg.toNat))) ∧
  (∀ (s a : State) (r : Req) (arg : BitVec 24), WriteAdmitted s r 0x21F1 1 (5 * 2 ^ 24 + arg.toNat) a → arg.toNat < 65536 →
    exec (.schedDeactivate r arg) s = .next (writeOk (a.modDuctus (fun d =>
      { d with lastTag := arg.toNat, deactivating := some a.cellNow })) r 0x21F1 1
      (5 * 2 ^ 24 + arg.toNat))) ∧
  (∀ (s a : State) (r : Req) (arg : BitVec 24), WriteAdmitted s r 0x21F1 1 (6 * 2 ^ 24 + arg.toNat) a → arg.toNat < 65536 →
    a.mem.ink ≠ 0 → a.ductus.armed = false → (dataPayload a.flash 7).isSome = true →
    exec (.schedLoadBoot r arg) s = .next (writeOk (a.loadBootSchedule.modDuctus (fun d => { d with lastTag := arg.toNat })) r 0x21F1 1
      (6 * 2 ^ 24 + arg.toNat))) ∧
  (∀ (s a : State) (r : Req) (arg : BitVec 24), WriteAdmitted s r 0x21F1 1 (7 * 2 ^ 24 + arg.toNat) a → arg.toNat < 65536 →
    a.ductus.shadowValid = true →
    exec (.schedStoreBoot r arg) s = .next (writeOk ((a.storeData 7 a.ductus.shadow).modDuctus (fun d => { d with lastTag := arg.toNat })) r
      0x21F1 1 (7 * 2 ^ 24 + arg.toNat)))

/-- R259 to R262: NIB_PROG_CMD's commands accepted, and a load abandoned. -/
def Obligations.ProgramCommandsAccepted : Prop :=
  (∀ (s a : State) (r : Req) (arg : BitVec 24), WriteAdmitted s r 0x2302 1 (2 ^ 24 + arg.toNat) a → arg.toNat < 65536 →
    a.progs.state ≠ 2 →
    exec (.progBeginLoad r arg) s = .next (writeOk ((a.modCodex (fun c => { c with loads := c.loads.put {} 0x2303 { active := true } })).modProgs
      (fun x => { x with state := 1, buffer := [], lastTag := arg.toNat, lastTouch := a.now })) r 0x2302 1 (2 ^ 24 + arg.toNat))) ∧
  (∀ (s a : State) (r : Req) (arg : BitVec 24), WriteAdmitted s r 0x2302 1 (2 * 2 ^ 24 + arg.toNat) a → arg.toNat < 65536 →
    a.progs.state ≠ 2 → a.stacks ≠ 0 →
    exec (.progInstall r arg) s = .next (writeOk ((((a.installImage a.progs.buffer).modProgs (fun x => { x with state := 0 })).resumeInstalls).modProgs
      (fun x => { x with lastTag := arg.toNat, lastTouch := (((a.installImage a.progs.buffer).modProgs (fun x =>
        { x with state := 0 })).resumeInstalls).now })) r 0x2302 1 (2 * 2 ^ 24 + arg.toNat))) ∧
  (∀ (s a : State) (r : Req) (arg : BitVec 24), WriteAdmitted s r 0x2302 1 (3 * 2 ^ 24 + arg.toNat) a → a.progs.state = 0 →
    a.programBusy (bits arg.toNat 23 16) = false →
    exec (.progUninstall r arg) s = .next (writeOk ((a.uninstall (bits arg.toNat 23 16)).modProgs (fun x =>
      { x with lastTag := bits arg.toNat 15 0, lastTouch := (a.uninstall (bits arg.toNat 23 16)).now })) r 0x2302 1 (3 * 2 ^ 24 + arg.toNat))) ∧
  (∀ (s a : State) (r : Req) (arg : BitVec 24), WriteAdmitted s r 0x2302 1 (4 * 2 ^ 24 + arg.toNat) a → a.progs.state = 0 →
    (a.program (bits arg.toNat 23 16)).isSome = true → a.progs.pinned.contains (bits arg.toNat 23 16) = true →
    exec (.progPin r arg) s = .next (writeOk (a.modProgs (fun x => { x with lastTag := bits arg.toNat 15 0, lastTouch := a.now })) r 0x2302 1
      (4 * 2 ^ 24 + arg.toNat))) ∧
  (∀ (s a : State) (r : Req) (arg : BitVec 24), WriteAdmitted s r 0x2302 1 (5 * 2 ^ 24 + arg.toNat) a → a.progs.state = 0 →
    exec (.progUnpin r arg) s = .next (writeOk (a.modProgs (fun x =>
      { x with pinned := x.pinned.filter (· ≠ bits arg.toNat 23 16), lastTag := bits arg.toNat 15 0, lastTouch := a.now })) r 0x2302 1
      (5 * 2 ^ 24 + arg.toNat))) ∧
  (∀ s : State, s.progs.state = 1 → s.progs.lastTouch + 60 * 10 ^ 12 ≤ s.now →
    exec .progLoadAbandon s = .next (((s.modProgs (fun x => { x with state := 0, buffer := [] })).modCodex (fun c =>
      { c with loads := c.loads.put {} 0x2303 {} })).resumeInstalls))

/-- R376, R411, R426, R434, R435, R438, R464, R473: accepted writes of the snapshot, reset, credential, Chop, Blotter and Proof objects. -/
def Obligations.ServiceWritesAccepted : Prop :=
  (∀ (s a : State) (r : Req), WriteAdmitted s r 0x2451 1 (2 ^ 24) a → a.folio.armed = false →
    a.cellNow + 97657 ≤ a.param 0x2452 1 → a.param 0x2452 1 ≤ a.cellNow + 5859375000 →
    exec (.snapArm r 0) s = .next (writeOk (a.modFolio (fun f =>
      { f with armed := true, snapAt0 := a.param 0x2452 1, strobe := 0 })) r 0x2451 1 (2 ^ 24))) ∧
  (∀ (s a : State) (r : Req), WriteAdmitted s r 0x2451 1 (2 * 2 ^ 24) a → a.folio.armed = true →
    exec (.snapDisarm r 0) s = .next (writeOk (a.modFolio (fun f => { f with armed := false })) r 0x2451 1 (2 * 2 ^ 24))) ∧
  (∀ (s a : State) (r : Req) (arg : BitVec 24), WriteAdmitted s r 0x2451 1 (3 * 2 ^ 24 + arg.toNat) a → arg.toNat ≤ 1 →
    exec (.snapHold r arg) s = .next (writeOk (a.updBank arg.toNat (fun b => { b with held := true })) r 0x2451 1 (3 * 2 ^ 24 + arg.toNat))) ∧
  (∀ (s a : State) (r : Req) (arg : BitVec 24), WriteAdmitted s r 0x2451 1 (4 * 2 ^ 24 + arg.toNat) a → arg.toNat ≤ 1 →
    exec (.snapRelease r arg) s =
      .next (writeOk (a.updBank arg.toNat (fun b => { b with held := false })) r 0x2451 1 (4 * 2 ^ 24 + arg.toNat))) ∧
  (∀ (s a : State) (r : Req), WriteAdmitted s r 0x1E00 1 (2 ^ 24) a →
    exec (.warmResetCommand r 0) s = .next (writeOk (a.modCodex (fun c => { c with resetDue := true })) r 0x1E00 1 (2 ^ 24)).afterServe) ∧
  (∀ (s a : State) (r : Req) (k : Fin 8) (v : BitVec 320), WriteAdmitted s r 0x1020 (1 + k) v.toNat a →
    v.toNat / 2 ^ 256 % 256 ≤ 3 → v.toNat / 2 ^ 264 % 256 ≤ 1 → v.toNat / 2 ^ 272 = 0 →
    exec (.credWrite r k v) s = .next (match a.storeConfig 0x1020 (1 + k) v.toNat with
      | some u => writeOk (u.setParam 0x1020 (1 + k) v.toNat) r 0x1020 (1 + k) v.toNat
      | none => dopRespond a (writeReq r 0x1020 (1 + k) v.toNat) .range false [])) ∧
  (∀ (s a : State) (r : Req) (v : BitVec 8), WriteAdmitted s r 0x1102 1 v.toNat a → 1 ≤ v.toNat → v.toNat ≤ 60 → a.chop.unsealed = true →
    exec (.intervalMinWrite r v) s = .next (writeOk (a.modChop (fun c =>
      { c with newInterval := some v.toNat, audit := min (c.audit + 1) 0xFFFFFFFF })) r 0x1102 1 v.toNat)) ∧
  (∀ (s a : State) (r : Req) (v : BitVec 128) (k : Nat × Nat × Int × Int), WriteAdmitted s r 0x1102 2 v.toNat a →
    calOf (leBytes 16 v.toNat) = some k → a.chop.unsealed = true → a.chop.keyReady = true →
    exec (.calWrite r v) s = .next (writeOk ((a.modChop (fun c => { c.auditUp with cal := some k })).storeData 0x0012
      (leBytes 16 v.toNat ++ a.chop.pubKey ++ (Config.ed25519Sign 2 (leBytes 16 v.toNat ++ a.chop.pubKey)).toList)) r 0x1102 2 v.toNat)) ∧
  (∀ (s a : State) (r : Req) (p : Fin 1024) (v : BitVec 16), WriteAdmitted s r (0x1110 + p.val / 64) (1 + p.val % 64) v.toNat a →
    bits v.toNat 14 10 = 0 →
    exec (.accountMapWrite r p v) s = .next (writeOk (a.setParam (0x1110 + p.val / 64) (1 + p.val % 64) v.toNat) r (0x1110 + p.val / 64)
      (1 + p.val % 64) v.toNat)) ∧
  (∀ (s a : State) (r : Req), WriteAdmitted s r 0xA502 1 (2 ^ 24) a →
    exec (.blotterDumpNow r 0) s = .next (writeOk (a.startDump 3) r 0xA502 1 (2 ^ 24))) ∧
  (∀ (s a : State) (r : Req) (arg : BitVec 24), WriteAdmitted s r 0xA502 1 (2 * 2 ^ 24 + arg.toNat) a → arg.toNat < 16 →
    exec (.blotterSelect r arg) s =
      .next (writeOk (a.modFaults (fun x => { x with selected := arg.toNat })) r 0xA502 1 (2 * 2 ^ 24 + arg.toNat))) ∧
  (∀ (s a : State) (r : Req) (arg : BitVec 24), WriteAdmitted s r 0x2483 1 (2 ^ 24 + arg.toNat) a → isUnit arg.toNat = true →
    arg.toNat / 256 = 0x0A →
    exec (.proofTestNow r arg) s = .next (writeOk (a.askProof arg.toNat) r 0x2483 1 (2 ^ 24 + arg.toNat)))

/-- R113, R117 to R122, R217: the steps of a Hatch commit and what happens to the mesh between commits. -/
def Obligations.HatchCommitSteps : Prop :=
  (∀ (s : State) (w : WindowFor), exec (.windowRequest w) s = .next (s.decideWindow w).proofNext) ∧
  (∀ (s : State) (c : Commit) (x : List (List (Nat × Nat × Nat))), s.hatch.commit = some c → c.stage = 1 → c.route = none →
    s.hatch.plain (connsAfter s.hatch c) = true →
    exec (.hatchRouteDone x) s = .next (s.routeFound c (routeUnicast s.hatch (connsAfter s.hatch c)))) ∧
  (∀ (s : State) (c : Commit), s.hatch.commit = some c → c.stage = 1 → c.route = none → s.hatch.plain (connsAfter s.hatch c) = false →
    exec (.hatchRouteDone []) s = .next (s.commitEnds 2)) ∧
  (∀ (s : State) (c : Commit) (x : List (List (Nat × Nat × Nat))) (r : List (Nat × Elem)), s.hatch.commit = some c → c.stage = 1 →
    c.route = none → s.hatch.plain (connsAfter s.hatch c) = false →
    s.hatch.bestRoute c ((x.map (searchRoute s.hatch (connsAfter s.hatch c))).filter (s.hatch.routeOk c (connsAfter s.hatch c))) = some r →
    exec (.hatchRouteDone x) s = .next (s.routeFound c r)) ∧
  (∀ (s : State) (c : Commit), s.hatch.commit = some c → c.stage = 1 → c.route = none →
    exec .hatchDrainEnd s = .next (s.updCommit (fun c => { c with drainDue := true }))) ∧
  (∀ (s : State) (c : Commit), s.hatch.commit = some c → c.stage = 1 → c.route.isSome = true →
    exec .hatchDrainEnd s = .next (endDrain (s.updCommit (fun c => { c with drainDue := true })))) ∧
  (∀ (s : State) (c : Commit) (t : Nat × Nat), s.hatch.commit = some c → c.t = some t → c.noticed = false → c.stage = 2 →
    exec .circuitNoticeSend s = .next (((s.forEach (noticeSlots s c) (fun s x => sendSeq s x.1 0x0A (circuitPayload s c t x.1 x.2))).updCommit
      (fun d => { d with noticed := true, sent := true, awaiting := (noticeSlots s c).map (fun x => 16 * x.1 + x.2) })))) ∧
  (∀ (s : State) (c : Commit), s.hatch.commit = some c → c.noticed = true → c.awaiting ≠ [] → c.stage = 2 → c.abandoned < 2 →
    ∃ t, exec .circuitAckTimeout s = .next t ∧
      t.hatch.commit = some { c with abandoned := c.abandoned + 1, t := none, noticed := false, awaiting := [], requested := true }) ∧
  (∀ (s : State) (c : Commit), s.hatch.commit = some c → c.noticed = true → c.awaiting ≠ [] → c.stage = 2 → 2 ≤ c.abandoned →
    exec .circuitAckTimeout s = .next (s.commitEnds 7)) ∧
  (∀ (s : State) (c : Commit) (t : Nat × Nat), s.hatch.commit = some c → c.t = some t → c.noticed = true → c.awaiting = [] → c.stage = 2 →
    s.reached t = true →
    ∃ u, exec .hatchApply s = .next u ∧ u.hatch.commit = some { c with stage := 3 } ∧
      u.hatch.elems = (s.hatch.withRoute (c.route.getD [])).elems ∧ u.hatch.conns = s.hatch.conns ∧
      (c.disturbed ≠ [] → u.flag 0x63A1 2 = true)) ∧
  (∀ (s : State) (c : Commit), s.hatch.commit = some c → c.stage = 3 →
    ∃ t, exec .hatchSettled s = .next t ∧ t.hatch.commit = some { c with settled := true }) ∧
  (∀ (s : State) (c : Commit) (failed : List (Fin 256)), s.hatch.commit = some c → c.stage = 3 → c.settled = true →
    ∃ u : State, exec (.hatchCommitDone failed) s = .next u.runPendingWarm ∧ u.hatch.commit = none ∧ u.hatch.lastStatus = 0 ∧
      u.hatch.lastTag = c.tag ∧
      u.hatch.conns.map (fun x => (x.input, x.outs)) = (connsAfter s.hatch c).map (fun x => (x.input, x.outs))) ∧
  (∀ (s : State) (k : Fin 1920) (x : HatchTrim), s.boot.photonic = true →
    ∃ t, exec (.hatchTrimTick k x) s = .next t ∧ (t.hatch.elems.get {} k.val).heater = min x.power 40000 ∧
      t.hatch.conns = s.hatch.conns ∧
      (∀ o ∈ x.dark, ∀ c ∈ s.hatch.conns, c.outs.contains o.val = true → t.flag 0x63A1 3 = true)) ∧
  (∀ (s : State) (k : Fin 1920) (x : Nat), s.boot.photonic = true → (s.hatch.elems.get {} k.val).failed = false →
    ((s.hatch.elems.get {} k.val).heater = 0 ∨ (s.hatch.elems.get {} k.val).heater = 40000) →
    ∃ t, exec (.elementFailure k x) s = .next t ∧ (t.hatch.elems.get {} k.val).failed = true ∧
      (t.hatch.elems.get {} k.val).ratio = min x 63 ∧ t.flag 0x63A1 5 = true) ∧
  (∀ (s : State) (k : Fin 256) (c : Conn), s.hatch.conns.find? (fun c => c.input = k.val) = some c → c.muted = false →
    ∃ t, exec (.darkInput k false) s = .next t ∧ t.flag 0x63A1 4 = true ∧
      t.hatch.conns = s.hatch.conns.map (fun x => if x.input = k.val then { x with muted := true } else x))

/-- R130 to R135, R207: frames and control blocks of the data links. -/
def Obligations.DataLinks : Prop :=
  (∀ (s : State) (p : Fin 1024) (w : BitVec 48) (b : List Byte) (q tc seq : Nat), q = s.linkOfLane (p / 16) (p % 16) → s.linkUp q = true →
    (s.lane (p / 16) (p % 16)).state = .inn → s.inFarWindow (p / 16) = false → linkWordFields w.toNat = some (0, tc, seq) →
    fcsOk b = true →
    exec (.dataFrameReceive p w b) s = .next (s.sequenceRx q
      { seq := seq, tc := tc, lane := p % 16, bytes := b, maxFrame := s.param 0x21C0 2, udp := s.param 0x21C0 1 })) ∧
  (∀ (s : State) (p : Fin 1024) (w : BitVec 48) (b : List Byte) (q tc seq : Nat), q = s.linkOfLane (p / 16) (p % 16) → s.linkUp q = true →
    (s.lane (p / 16) (p % 16)).state = .inn → s.inFarWindow (p / 16) = false → linkWordFields w.toNat = some (0, tc, seq) →
    fcsOk b = false → 64 ≤ b.length → b.length ≤ s.param 0x21C0 2 →
    exec (.dataFrameReceive p w b) s = .next (s.countPort q 5)) ∧
  (∀ (s : State) (p : Fin 1024) (w : BitVec 48) (b : List Byte),
    (s.linkUp (s.linkOfLane (p / 16) (p % 16)) = false ∨ (s.lane (p / 16) (p % 16)).state ≠ .inn ∨ s.inFarWindow (p / 16) = true) →
    exec (.dataFrameReceive p w b) s = .next (s.countMisc .dataBadLink 1)) ∧
  (∀ (s : State) (p : Fin 1024) (b : List Byte) (ecc : Ecc), s.linkUp p = true → controlOk b = true →
    exec (.controlBlockReceive p b ecc) s = .next (onControlBlock s p b ecc)) ∧
  (∀ (s : State) (p : Fin 1024) (b : List Byte) (ecc : Ecc), s.linkUp p = true → controlOk b = false →
    exec (.controlBlockReceive p b ecc) s = .next (s.countMisc .controlBad 1)) ∧
  (∀ (s : State) (p : Fin 1024), exec (.controlBlockSend p) s = .next (sendControl s p)) ∧
  (∀ (s : State) (p : Fin 1024), (s.link p).rxHeld ≠ [] →
    exec (.reorderHoldExpiry p) s = .next (sendControl (((s.updLink p (fun x => { x with rxHeld := [], gap := true })).setFlag
      (0x6440 + p / 16) 3).countFibre (p / 16) 8) p)) ∧
  (∀ (s : State) (p : Fin 1024) (ecc : Ecc) (h : HeldFrame) (r : List HeldFrame), (s.link p).replay = h :: r → s.timersPaused (p.val / 16) = false →
    (s.link p).replaying s.now = false → exec (.replayTimeout p ecc) s = .next (readReplay s p ecc h.seq true)) ∧
  (∀ (s u : State) (p : Fin 1024) (c id turn : Nat) (f : Stored) (d : Tab Nat), u = s.refreshDue → u.linkUp p = true → u.lanesIn p ≠ [] →
    (u.fibre (p.val / 16)).suspended = false → egressPick u p = some (c, id, f, turn, d) → u.replayRoom p f.bytes.length = true →
    u.aged c f.arrival = false →
    exec (.egressSelect p) s = .next (startFrame (u.updLink p (fun x => { x with turn := turn, deficit := d })) p c id f)) ∧
  (∀ (s u : State) (p : Fin 1024), u = s.refreshDue → egressPick u p = none → exec (.egressSelect p) s = .next u) ∧
  (∀ (s : State) (p : Fin 1024), (s.refreshDue.linkUp p = false ∨ s.refreshDue.lanesIn p = [] ∨ (s.refreshDue.fibre (p.val / 16)).suspended = true) →
    exec (.egressSelect p) s = .next s.refreshDue)

/-- R160 to R175: the lookup pipelines, the learning engine and the table operations. -/
def Obligations.TablesAndLookup : Prop :=
  (∀ (s : State) (k : Fin 8) (x : RxFrame) (r : List RxFrame), s.tables.waiting.get [] k = x :: r →
    s.tables.bad = [] →
    exec (.frameLookup k []) s = .next (((((s.modTables (fun t => { t with waiting := t.waiting.put [] k r })).freeBelow (2 ^ 32)).2.count
      (0x7000 + 0x40 * 5 + k) 2 (s.freeBelow (2 ^ 32)).1)).pipeline (InPipe.of k x))) ∧
  (∀ (s : State) (k : Fin 8) (u : List (Nat × Nat)), s.tables.waiting.get [] k = [] → exec (.frameLookup k u) s = .next s) ∧
  (∀ (s : State) (q : LearnReq) (r : List LearnReq), s.tables.learn = q :: r →
    exec (.learnApply false) s = .next ((s.modTables (fun t => { t with learn := r })).applyLearn q)) ∧
  (∀ (s : State) (q : LearnReq) (r : List LearnReq), s.tables.learn = q :: r →
    exec (.learnApply true) s = .next (((s.modTables (fun t => { t with learn := r })).countPipe (q.link / 128) 10).tableFlag 4)) ∧
  (∀ s : State, exec .ageScan s = .next s.ageScan) ∧
  (∀ (s : State) (o : BitVec 8), exec (.checkBitRepair o) s = .next (s.repair o)) ∧
  (∀ (s : State) (v : Nat), s.nextOp 1 = some v → exec .tableInsertExact s = .next (State.opEnded (s.opInsert v))) ∧
  (∀ (s : State) (v : Nat), s.nextOp 2 = some v → exec .tableDeleteExact s = .next (State.opEnded (s.opDelete v))) ∧
  (∀ (s : State) (v : Nat), s.nextOp 3 = some v → exec .tableModifyResult s = .next (State.opEnded (s.opModify v))) ∧
  (∀ (s : State) (v : Nat), s.nextOp 4 = some v → exec .tableAddPrefix s = .next (State.opEnded (s.addPrefix (opPrefix v), s))) ∧
  (∀ (s : State) (v : Nat), s.nextOp 5 = some v → exec .tableDeletePrefix s =
    .next (State.opEnded (s.deletePrefix (opPrefix v).v6 (opPrefix v).len (opPrefix v).addr, s))) ∧
  (∀ (s : State) (v : Nat), s.nextOp 6 = some v → exec .tableWriteNextHop s = .next (State.opEnded (s.opNextHop v))) ∧
  (∀ (s : State) (v : Nat), s.nextOp 7 = some v → exec .tableWriteVlanQuarter s = .next (State.opEnded (s.opVlan v)))

/-- R14, R180 to R197: admission, matching, cells in transit, planes and coordinate tables. -/
def Obligations.SwitchCore : Prop :=
  (∀ (s : State) (src : Fin 164) (l : Nat) (tc : Fin 8) (o : Offer),
    s.core.offers.find? (fun o => o.src = src.val && o.link = l && o.tc = tc.val) = some o → o.tc ≠ 0 →
    s.admits (cellsOf o.bytes.length) o.tc o.dst.charge = true →
    exec (.frameAdmit src l tc) s = .next (((s.dropOffer o).store o).admitted o.origin)) ∧
  (∀ (s : State) (src : Fin 164) (l : Nat) (tc : Fin 8) (o : Offer),
    s.core.offers.find? (fun o => o.src = src.val && o.link = l && o.tc = tc.val) = some o → o.tc = 0 → s.tc0Ok o.src o.dst = false →
    exec (.frameAdmit src l tc) s = .next ((((s.dropOffer o).countUnit 7 0 5).setFlag 0x6501 4).admitted o.origin)) ∧
  (∀ s : State, s.core.lastMatch = none → exec .cellTimeMatch s = .next (s.cellTime s.cellNow).shaperWaits) ∧
  (∀ (s : State) (u : Nat), s.core.lastMatch = some u → u < s.cellNow → exec .cellTimeMatch s = .next (s.cellTime s.cellNow).shaperWaits) ∧
  (∀ (s : State) (u : Nat), s.core.lastMatch = some u → s.cellNow ≤ u → exec .cellTimeMatch s = .next s) ∧
  (∀ (s : State) (p : Fin 10) (d : Fin 164) (x : Transit), 
    s.core.transit.find? (fun x => x.plane = p.val && x.cell.dst = d.val && x.due ≤ s.cellNow) = some x →
    headerOk (BitVec.ofNat 128 x.cell.header).toNat = true →
    exec (.cellArrive p d 0 .good) s = .next ((s.modCore (fun c => { c with transit := c.transit.erase x })).resequence d
      (x.cell.received (BitVec.ofNat 128 x.cell.header).toNat))) ∧
  (∀ (s : State) (p : Fin 10) (d : Fin 164) (flip : BitVec 128) (x : Transit),
    s.core.transit.find? (fun x => x.plane = p.val && x.cell.dst = d.val && x.due ≤ s.cellNow) = some x →
    headerOk (BitVec.ofNat 128 x.cell.header ^^^ flip).toNat = false →
    exec (.cellArrive p d flip .good) s = .next ((s.modCore (fun c => { c with transit := c.transit.erase x })).badCell p x.cell)) ∧
  (∀ (s : State) (d r : Fin 164), (s.core.context d r).held ≠ [] → (s.core.context d r).timer + 2000000 ≤ s.now →
    exec (.reseqGapTimeout d r) s = .next (s.declareLoss d r)) ∧
  (∀ (s : State) (p : Fin 10), s.core.noMatch.getLsbD p = true → s.core.out_.getLsbD p = false →
    s.core.transit.any (fun x => x.plane = p.val) = false →
    ∃ u : State, exec (.planeDrained p) s = .next (if u.core.planeCount = 0 then u.moduleFault (unitId 6 p) else u) ∧
      u.core.out_.getLsbD p = true ∧ u.flag 0x64C1 1 = true) ∧
  (∀ (s : State), s.enabledLinks = [] → exec (.coordTableCommit []) s = .next (s.modCore (fun c => { c with pendingCoords := some [] }))) ∧
  (∀ (s : State) (t : Coords), s.core.pendingCoords = some t → s.core.frames = [] →
    exec .coordCommitApply s = .next (s.modCore (fun c =>
      { c with coordsOld := c.coords, coords := t, ctVer := !c.ctVer, pendingCoords := none })))

/-- R212 to R216, R219: what the schedule does at its own instants. -/
def Obligations.ScheduleInstants : Prop :=
  (∀ s : State, s.ductus.armed = true → s.ductus.check = none → s.cellNow < s.ductus.armedAt →
    s.ductus.armedAt * 1024 ≤ s.instant100 + 10 ^ 7 →
    exec .swapReadinessCheck s = .next (s.modDuctus (fun d => { d with check := some s.readiness }))) ∧
  (∀ s : State, s.ductus.check = some 0 → s.readiness = 0 → s.ductus.armed = true → s.ductus.armedAt ≤ s.cellNow →
    s.ductus.deactivating = none →
    exec .schedSwap s = .next (((s.activate true s.ductus.armedAt).ductusFlag 0).countDuctus 1)) ∧
  (∀ (s : State) (c : Nat), s.ductus.check = some c → c ≠ 0 → s.ductus.armed = true → s.ductus.armedAt ≤ s.cellNow →
    s.ductus.deactivating = none → exec .schedSwap s = .next (s.missSwap c)) ∧
  (∀ s : State, s.ductus.check = some 0 → s.readiness ≠ 0 → s.ductus.armed = true → s.ductus.armedAt ≤ s.cellNow →
    s.ductus.deactivating = none → exec .schedSwap s = .next (s.missSwap s.readiness)) ∧
  (∀ (s : State) (img : List Byte) (ex : Bool) (t : Nat), s.param 0x21F0 2 ≠ 0 → s.ductus.state ≠ 1 → s.ductus.deactivating = none →
    s.joinImage = some (ex, img) →
    s.ductus.settled = some t → s.timeSet = true → s.inTolerance = true → imgOffset img s.cellNow = some 0 →
    s.leadPassed t = true →
    exec .schedJoin s = .next ((((s.activate ex s.cellNow).ductusFlag 0).ductusFlag 3).countDuctus 3)) ∧
  (∀ s : State, s.ductus.state = 1 → s.timeSet = false →
    exec .syncLoss s = .next (((((s.ductusState 2).ductusFlag 2).countDuctus 4).sendSched 3 4
      (((s.ductusState 2).ductusFlag 2).countDuctus 4).ductus.activeId ((((s.ductusState 2).ductusFlag 2).countDuctus 4).param 0x21F3 1)).modDuctus
        (fun d => { d with lostSync := true }))) ∧
  (∀ s : State, s.ductus.state = 1 → exec .schedActiveRepeat s = .next (s.sendSched 2 0 s.ductus.activeId s.ductus.lastSwap)) ∧
  (∀ s : State, s.cellNow % 1024 = 0 → s.ductus.refreshedAt ≠ some s.cellNow →
    exec .bucketRefresh s = .next (s.refreshBuckets.modDuctus (fun d => { d with refreshedAt := some s.cellNow }))) ∧
  (∀ s : State, (s.cellNow % 1024 ≠ 0 ∨ s.ductus.refreshedAt = some s.cellNow) → exec .bucketRefresh s = .next s)

/-- R263, R266, R268: the register and branch instructions of a Nib program, and its accesses of scratch. -/
def Obligations.NibScalarInstructions : Prop :=
  (∀ (s t : State) (n : Fin 32) (c : Fin 64) (w : Nat) (k : Ctx), NibIssues s n c 0x02 w t k →
    ∃ u, exec (.jump n c) s = .next u ∧ u.ctx n c = some { k with pc := iA w }) ∧
  (∀ (s t : State) (n : Fin 32) (c : Fin 64) (w : Nat) (k : Ctx), NibIssues s n c 0x03 w t k →
    ∃ u, exec (.bz n c) s = .next u ∧ u.ctx n c = some { k with pc := if k.reg (iB w) = 0 then iA w else k.pc + 1 }) ∧
  (∀ (s t : State) (n : Fin 32) (c : Fin 64) (w : Nat) (k : Ctx), NibIssues s n c 0x04 w t k →
    ∃ u, exec (.bnz n c) s = .next u ∧ u.ctx n c = some { k with pc := if k.reg (iB w) ≠ 0 then iA w else k.pc + 1 }) ∧
  (∀ (s t : State) (n : Fin 32) (c : Fin 64) (w : Nat) (k : Ctx), NibIssues s n c 0x05 w t k →
    ∃ u, exec (.loop n c) s = .next u ∧ u.ctx n c = some { k.setReg (iB w) (k.reg (iB w) - 1) with
      pc := if k.reg (iB w) - 1 ≠ 0 then iA w else k.pc + 1 }) ∧
  (∀ (s t : State) (n : Fin 32) (c : Fin 64) (w : Nat) (k : Ctx), NibIssues s n c 0x08 w t k →
    ∃ u, exec (.movi n c) s = .next u ∧ u.ctx n c = some { k.setReg (iA w)
      (if bit (iD w) 0 then iImm w * 2 ^ 32 + k.reg (iA w) % 2 ^ 32 else iImm w) with pc := k.pc + 1 }) ∧
  (∀ (s t : State) (n : Fin 32) (c : Fin 64) (w : Nat) (k : Ctx), NibIssues s n c 0x09 w t k →
    ∃ u, exec (.add n c) s = .next u ∧
      u.ctx n c = some { k.setReg (iA w) (k.reg (iB w) + k.reg (iC w) + signedImm (iImm w)) with pc := k.pc + 1 }) ∧
  (∀ (s t : State) (n : Fin 32) (c : Fin 64) (w : Nat) (k : Ctx), NibIssues s n c 0x0A w t k →
    ∃ u, exec (.sub n c) s = .next u ∧
      u.ctx n c = some { k.setReg (iA w) (k.reg (iB w) + (2 ^ 64 - k.reg (iC w))) with pc := k.pc + 1 }) ∧
  (∀ (s t : State) (n : Fin 32) (c : Fin 64) (w : Nat) (k : Ctx), NibIssues s n c 0x0B w t k →
    ∃ u, exec (.mul n c) s = .next u ∧ u.ctx n c = some { k.setReg (iA w) (k.reg (iB w) * k.reg (iC w)) with pc := k.pc + 1 }) ∧
  (∀ (s t : State) (n : Fin 32) (c : Fin 64) (w : Nat) (k : Ctx), NibIssues s n c 0x0C w t k →
    ∃ u, exec (.shift n c) s = .next u ∧ u.ctx n c = some { k.setReg (iA w)
      (if bit (iD w) 0 then k.reg (iB w) * 2 ^ iImm w else k.reg (iB w) / 2 ^ iImm w) with pc := k.pc + 1 }) ∧
  (∀ (s t : State) (n : Fin 32) (c : Fin 64) (w : Nat) (k : Ctx), NibIssues s n c 0x0E w t k →
    k.inScratch ((k.reg (iB w) + signedImm (iImm w)) % 2 ^ 64) (4 + 4 * (iD w % 4)) = true →
    (k.reg (iB w) + signedImm (iImm w)) % 2 ^ 64 % (4 + 4 * (iD w % 4)) = 0 →
    ∃ u, exec (.ldx n c .good) s = .next u ∧ u.ctx n c = some { k.setReg (iA w)
      (if bit (iD w) 2 then beNat (k.read ((k.reg (iB w) + signedImm (iImm w)) % 2 ^ 64) (4 + 4 * (iD w % 4)))
        else leNat (k.read ((k.reg (iB w) + signedImm (iImm w)) % 2 ^ 64) (4 + 4 * (iD w % 4)))) with pc := k.pc + 1 }) ∧
  (∀ (s t : State) (n : Fin 32) (c : Fin 64) (w : Nat) (k : Ctx), NibIssues s n c 0x0F w t k →
    k.inScratch ((k.reg (iB w) + signedImm (iImm w)) % 2 ^ 64) (4 + 4 * (iD w % 4)) = true →
    (k.reg (iB w) + signedImm (iImm w)) % 2 ^ 64 % (4 + 4 * (iD w % 4)) = 0 →
    ∃ u, exec (.stx n c) s = .next u ∧ u.ctx n c = some { k.write ((k.reg (iB w) + signedImm (iImm w)) % 2 ^ 64)
      (if bit (iD w) 2 then beBytes (4 + 4 * (iD w % 4)) (k.reg (iA w) % 2 ^ (8 * (4 + 4 * (iD w % 4))))
        else leBytes (4 + 4 * (iD w % 4)) (k.reg (iA w) % 2 ^ (8 * (4 + 4 * (iD w % 4))))) with pc := k.pc + 1 })

/-- R263 to R268, R287: the instructions that run on, those of the semaphores, and HALT. -/
def Obligations.NibEngineInstructions : Prop :=
  (∀ (s t : State) (n : Fin 32) (c : Fin 64) (w : Nat) (k : Ctx), NibIssues s n c 0x01 w t k →
    exec (.halt n c) s = .next ((t.updCtx n c (fun y => { y with halting := true })).endHalt n c)) ∧
  (∀ (s t : State) (n : Fin 32) (c : Fin 64) (w : Nat) (k : Ctx), NibIssues s n c 0x10 w t k →
    exec (.recv n c) s = .next (t.doRecv n c k w)) ∧
  (∀ (s t : State) (n : Fin 32) (c : Fin 64) (w : Nat) (k : Ctx) (r : Range), NibIssues s n c 0x11 w t k → t.rangeOf k.thread = some r →
    r.setIdx (iD w % 4) ≠ 15 → k.elemCheck (iFout w) (k.reg (iC w)) (k.reg (iB w)) (k.reg (iA w)) = none →
    exec (.emit n c .good) s = .next (((t.goAsync n c k w .emit id).updCtx n c (fun y =>
      { y with emitted := y.emitted + ceilDiv (k.reg (iB w)) (fmtMaxN (iFout w)) })).emitFrames n c k.seq k.thread r (iD w % 4)
        (if bit (iD w) 2 then 5 else 2) (iFout w) (bit (iD w) 3) k.emitted (k.reg (iB w))
        (k.read (k.reg (iA w)) (fmtBytes (iFout w) (k.reg (iB w)))) (ceilDiv (k.reg (iB w)) (fmtMaxN (iFout w)) + 1))) ∧
  (∀ (s t : State) (n : Fin 32) (c : Fin 64) (w : Nat) (k : Ctx), NibIssues s n c 0x12 w t k → k.reg (iC w) ≠ 0 →
    k.inScratch (k.reg (iB w)) (k.reg (iC w)) = true → k.inScratch (k.reg (iA w)) (k.reg (iC w)) = true →
    exec (.nibCopy n c .good) s = .next ((t.goAsync n c k w .copy id).writeScratch n c (k.reg (iA w))
      (k.read (k.reg (iB w)) (k.reg (iC w))))) ∧
  (∀ (s t u : State) (n : Fin 32) (c : Fin 64) (w : Nat) (k : Ctx), NibIssues s n c 0x18 w t k →
    k.elemCheck (iFin w) (k.reg (iC w)) (k.reg (iB w)) (k.reg (iA w)) = none →
    t.rowsKindOk n k.thread (k.reg (iC w)) (k.reg (iB w)) (fastRows (iMode w) (iFin w)) = true →
    t.addTerms n k.thread (k.reg (iC w)) (decodeElems (iFin w) (k.reg (iB w)) (k.read (k.reg (iA w)) (fmtBytes (iFin w) (k.reg (iB w)))))
      (fastRows (iMode w) (iFin w)) (modeRound (iMode w) = 2 && isIntFmt (iFin w)) (.instr c k.pc) = .ok u →
    exec (.acc n c .good) s = .next (u.goAsync n c k w .acc id)) ∧
  (∀ (s t : State) (n : Fin 32) (c : Fin 64) (w : Nat) (k : Ctx), NibIssues s n c 0x19 w t k →
    exec (.round n c .good) s = .next (t.doRound n c .good k w)) ∧
  (∀ (s t : State) (n : Fin 32) (c : Fin 64) (w : Nat) (k : Ctx), NibIssues s n c 0x21 w t k →
    exec (.pass n c) s = .next (t.doPass n c k w)) ∧
  (∀ (s t : State) (n : Fin 32) (c : Fin 64) (w : Nat) (k : Ctx), NibIssues s n c 0x28 w t k →
    (t.semOperand k w).2 ≤ (t.countCp 14).sem (t.semOperand k w).1 →
    exec (.swait n c) s = .next (((t.countCp 14).goNext n c id).sampleEvent n c k.pc 7 0)) ∧
  (∀ (s t t' : State) (n : Fin 32) (c : Fin 64) (w : Nat) (k : Ctx), NibIssues s n c 0x29 w t k →
    t.semAdd (t.semOperand k w).1 (t.semOperand k w).2 = some t' → exec (.sadd n c) s = .next (t'.goNext n c id)) ∧
  (∀ (s t t' : State) (n : Fin 32) (c : Fin 64) (w : Nat) (k : Ctx), NibIssues s n c 0x2A w t k →
    t.semSub (t.semOperand k w).1 (t.semOperand k w).2 = some t' → exec (.ssub n c) s = .next (t'.goNext n c id)) ∧
  (∀ (s t : State) (n : Fin 32) (c : Fin 64) (w : Nat) (k : Ctx), NibIssues s n c 0x0E w t k →
    k.inScratch ((k.reg (iB w) + signedImm (iImm w)) % 2 ^ 64) (4 + 4 * (iD w % 4)) = true →
    (k.reg (iB w) + signedImm (iImm w)) % 2 ^ 64 % (4 + 4 * (iD w % 4)) = 0 →
    exec (.ldx n c .uncorrected) s = .next ((t.nibEcc n .uncorrected).progFault n c 44))

/-- R241 to R244, R264 to R270, R285 to R289: frames into a Nib, passes, invocations and completions. -/
def Obligations.NibWork : Prop :=
  (∀ (s : State) (n : Fin 32) (f : Stored) (r : List Stored), s.core.intake.get [] (128 + n.val) = f :: r → (s.nib n).window = false →
    exec (.nibFrameIntake n .good) s = .next ((s.modCore (fun c => { c with intake := c.intake.put [] (128 + n.val) r })).intakeFrame n f)) ∧
  (∀ (s : State) (r : Nat) (o : Fin 4194304), (s.rangeOf (threadNo r o)).isSome = true → (s.thread (threadNo r o)).state = .emitting →
    (s.thread (threadNo r o)).waiting = 0 → (s.thread (threadNo r o)).doneSent = true →
    exec (.chunkDoneAdmit r o) s = .next (s.finishChunk (threadNo r o))) ∧
  (∀ (s : State) (r : Nat) (o : Fin 4194304), (s.thread (threadNo r o)).state = .opened → (s.nib (s.nibOfThread (threadNo r o))).window = false →
    s.limitReached (s.nibOfThread (threadNo r o))
      (((s.rangeOf (threadNo r o)).map (fun r => recTimeout (s.slot (jobSlot r.job)).record.coll)).getD 0)
      (s.thread (threadNo r o)).opened (s.thread (threadNo r o)).base = true →
    exec (.chunkTimeout r o) s = .next (s.failChunk (threadNo r o) 1 0)) ∧
  (∀ (s : State) (n : Fin 32) (b : List PassReq), s.startable n = some b → exec (.passStart n) s = .next (s.runBatch n b)) ∧
  (∀ (s : State) (n : Fin 32) (p : PassReq), (s.nib n).leaving = some p → exec (.passComplete n .good) s = .next (s.passDone n p)) ∧
  (∀ (s u : State) (n : Fin 32) (p : PassReq) (b : List PassReq), (s.nib n).passes.find? (fun p => !p.started && p.thin) = some p →
    u = s.updNib n (fun x => { x with passes := x.passes.map (fun q => if q = p then { q with expired := true } else q) }) →
    u.startable n = some b → exec (.batchTimeout n) s = .next (u.runBatch n b)) ∧
  (∀ (s u : State) (r : Nat) (o : Fin 4194304) (x : Range), s.rangeOf (threadNo r o) = some x → x.isProgram = true →
    (s.thread (threadNo r o)).invoked = false → (s.thread (threadNo r o)).state = .reserved → o.val < x.count →
    u = s.updThread (threadNo r o) (fun t => { t with invoked := true }) → u.invokeCheck x = none →
    exec (.programInvoke r o) s = .next (u.updNib (x.nibOf o) (fun y =>
      { y with waiting := y.waiting ++ [{ thread := threadNo r o, program := x.program, arrived := s.now
                                          base := (u.nib (u.nibOfThread (threadNo r o))).windowTime s.now, scratchMax := s.param 0x2301 1
                                          stepLimit := s.param 0x2301 3 }] }))) ∧
  (∀ (s : State) (n : Fin 32), exec (.contextStart n) s = .next (s.startContext n)) ∧
  (∀ (s u : State) (n : Fin 32) (x : Invocation) (r : List Invocation), (s.nib n).waiting = x :: r → (s.nib n).resident x.program = false →
    (s.program x.program).isSome = true → s.fetchProgram n x.program 70 = some u → exec (.programFetch n .good) s = .next u) ∧
  (∀ (s : State) (n : Fin 32) (c : Fin 64) (k : Ctx) (x : SwaitSt), (s.nib n).window = false → s.ctx n c = some k → k.swait = some x →
    s.limitReached n (s.param 0x2301 2) x.issued x.base = true →
    exec (.waitLimitExpiry n (.context c)) s = .next (s.progFault n c 35)) ∧
  (∀ (s : State) (n : Fin 32) (c : Fin 64) (k : Ctx) (a : Async), (s.nib n).window = false → s.ctx n c = some k → k.swait = none →
    k.async.find? (fun a => a.op = .recv) = some a → s.limitReached n (s.param 0x2301 2) a.issued a.base = true →
    exec (.waitLimitExpiry n (.context c)) s = .next ((s.updCtx n c (fun y => { y with pc := a.pc })).progFault n c 35)) ∧
  (∀ (s : State) (n : Fin 32) (r : Nat) (o : Fin 4194304) (i : Invocation), (s.nib n).window = false →
    (s.nib n).waiting.find? (fun i => i.thread = threadNo r o) = some i →
    s.limitReached n (s.param 0x2301 2) i.arrived i.base = true → (∀ c, c < 64 → (s.ctx n c).isSome = true) →
    exec (.waitLimitExpiry n (.invocation r o)) s = .next ((s.updNib n (fun x =>
      { x with waiting := x.waiting.filter (fun j => j.thread ≠ threadNo r o) })).invokeFails n (threadNo r o) i.program 21)) ∧
  (∀ (s : State) (n : Fin 32) (c : Fin 64) (k : Ctx) (a : Async), s.ctx n c = some k → k.async.find? (fun a => a.op = .recv) = some a →
    exec (.recvComplete n c) s = .next (((s.recvDone n c a).endHalt n c).endFault n c)) ∧
  (∀ (s : State) (n : Fin 32) (c : Fin 64) (k : Ctx) (a : Async) (q : Nat), s.ctx n c = some k → k.async.find? (fun a => a.seq = q) = some a →
    (a.op = .copy ∨ a.op = .acc ∨ a.op = .round ∨ (a.op = .emit ∧ a.frames = 0)) →
    exec (.asyncInstrComplete n c q) s = .next (((s.updCtx n c (fun y => { y with async := y.async.filter (fun b => b.seq ≠ q) })).endHalt n
      c).endFault n c)) ∧
  (∀ (s : State) (n : Fin 32) (c : Fin 64) (k : Ctx) (x : SwaitSt), s.ctx n c = some k → k.swait = some x → x.met = true →
    (s.nib n).window = false →
    exec (.swaitMet n c) s = .next ((s.goNext n c (fun y => { y with swait := none })).sampleEvent n c k.pc 7 ((s.now - x.issued) / 640))) ∧
  (∀ (s : State) (n : Fin 32) (k : Fin 17), s.folio.skidding.get 0 n = 0 → exec (.skiddingSample n k) s = .next s) ∧
  (∀ (s : State) (n : Fin 32) (k : Fin 17) (r : List Byte), s.folio.skidding.get 0 n ≠ 0 → (s.nib n).lastIssue = some r →
    exec (.skiddingSample n k) s = .next (((s.storeSample n (r.take 22 ++ leBytes 1 k ++ r.drop 23)).modFolio (fun f =>
      { f with skidding := f.skidding.put 0 n 0 })).updNib n (fun x => { x with lastIssue := none })))

/-- R281, R294, R296, R297, R353 to R358, R445, R452, R455: what each descriptor of a command ring does at issue. -/
def Obligations.DescriptorsIssue : Prop :=
  (∀ (s t : State) (g : Fin 4096) (b : List Byte) (d : Desc), RingIssues s g 1 b d t →
    exec (.nop g) s = .next ((t.takeDesc g d 1).completeDesc g d.no (if leAt b 16 48 = 0 then 0 else 1) 0 0)) ∧
  (∀ (s t : State) (g : Fin 4096) (b : List Byte) (d : Desc), RingIssues s g 2 b d t →
    exec (.installProgram g) s = .next (t.issueInstall g d b)) ∧
  (∀ (s t : State) (g : Fin 4096) (b : List Byte) (d : Desc), RingIssues s g 3 b d t →
    exec (.copy g) s = .next (t.issueCopy g d b)) ∧
  (∀ (s t : State) (g : Fin 4096) (b : List Byte) (d : Desc), RingIssues s g 0x20 b d t →
    exec (.reduce g) s = .next (t.issueRange g d 1 b [])) ∧
  (∀ (s t : State) (g : Fin 4096) (b : List Byte) (d : Desc), RingIssues s g 0x21 b d t →
    exec (.program g) s = .next (t.issueRange g d 1 b [])) ∧
  (∀ (s t : State) (g : Fin 4096) (b : List Byte) (d : Desc), RingIssues s g 0x22 b d t →
    exec (.counts g) s = .next (t.issueRange g d 1 b [])) ∧
  (∀ (s t : State) (g : Fin 4096) (b : List Byte) (d : Desc), RingIssues s g 0x23 b d t → byteAt b 18 = 1 →
    exec (.semOpWait g) s = .next (t.issueSemOp g d b)) ∧
  (∀ (s t : State) (g : Fin 4096) (b : List Byte) (d : Desc), RingIssues s g 0x23 b d t → byteAt b 18 = 2 →
    exec (.semOpAdd g) s = .next (t.issueSemOp g d b)) ∧
  (∀ (s t : State) (g : Fin 4096) (b : List Byte) (d : Desc), RingIssues s g 0x23 b d t → byteAt b 18 = 3 →
    exec (.semOpSub g) s = .next (t.issueSemOp g d b)) ∧
  (∀ (s t : State) (g : Fin 4096) (b : List Byte) (d : Desc), RingIssues s g 0x24 b d t →
    exec (.semSave g) s = .next (t.issueSemSave g d b)) ∧
  (∀ (s t : State) (g : Fin 4096) (b : List Byte) (d : Desc), RingIssues s g 0x25 b d t →
    exec (.semRestore g) s = .next (t.issueSemRestore g d b)) ∧
  (∀ (s t : State) (g : Fin 4096) (b : List Byte) (d : Desc), RingIssues s g 0x40 b d t →
    exec (.jobPrepare g) s = .next ((t.takeDesc g d 1).jobPrepare g d.no (leAt b 2 2) (byteAt b 4) b)) ∧
  (∀ (s t : State) (g : Fin 4096) (b : List Byte) (d : Desc), RingIssues s g 0x41 b d t → byteAt b 16 < 4 → leAt b 17 47 = 0 →
    exec (.jobTeardown g) s = .next ((t.takeDesc g d 1).jobTeardown d.no (leAt b 2 2) (byteAt b 16))) ∧
  (∀ (s t : State) (g : Fin 4096) (b : List Byte) (d : Desc), RingIssues s g 0x42 b d t → leAt b 16 48 = 0 →
    exec (.jobAbort g) s = .next ((t.takeDesc g d 1).jobAbortOp d.no (leAt b 2 2))) ∧
  (∀ (s t : State) (g : Fin 4096) (b : List Byte) (d : Desc) (op : Nat), RingIssues s g op b d t →
    exec (.descriptorIssue g) s = .next (t.issueBody g d 1 b []))

/-- R283, R290, R296, R351: what holds a ring, and what ends that. -/
def Obligations.RingsHeld : Prop :=
  (∀ (s : State) (g : Fin 4096) (q : Register), s.heldRegister g = some q → s.rangeOverlaps q.range = false → s.fitsNow q.range = true →
    exec (.rangeRegister g) s = .next (s.rangeIssued q)) ∧
  (∀ (s : State) (g : Fin 4096) (q : Register), s.heldRegister g = some q → s.rangeOverlaps q.range = false → s.fitsNow q.range = false →
    exec (.rangeRegister g) s = .next s) ∧
  (∀ (s : State) (g : Fin 4096) (q : Register), s.heldRegister g = some q →
    q.since + recTimeout (s.slot (jobSlot q.range.job)).record.coll * 1000000 ≤ s.now →
    exec (.registerTimeout g) s = .next (s.rangeRefused q 7)) ∧
  (∀ (s : State) (g : Fin 4096) (q : Register), s.heldRegister g = some q →
    s.now < q.since + recTimeout (s.slot (jobSlot q.range.job)).record.coll * 1000000 →
    exec (.registerTimeout g) s = .next s) ∧
  (∀ (s : State) (g : Fin 4096) (w : SemWait), s.ringWait g = some w → w.value ≤ s.sem w.index →
    exec (.semWaitMet g) s = .next (s.endWait w 0)) ∧
  (∀ (s : State) (g : Fin 4096) (w : SemWait), s.ringWait g = some w → w.met = false → s.sem w.index < w.value →
    w.since + w.limit * 1000000 ≤ s.now → exec (.semWaitTimeout g) s = .next (s.endWait w 12)) ∧
  (∀ (s : State) (g : Fin 4096), (s.ring g).hold ≠ .none → exec (.descriptorIssue g) s = .next s) ∧
  (∀ (s : State) (g : Fin 4096), (s.ring g).enable = false → exec (.descriptorIssue g) s = .next s) ∧
  (∀ (s u : State) (g : Fin 4096), (s.ring g).mayIssue = true →
    s.dmaRead (s.ringDomain g) ((s.ring g).descBase + 64 * (s.ring g).sqHead) 64 = (none, u) →
    exec (.descriptorIssue g) s = .next (u.haltRing g 1))

/-- R304 to R336: requests and responses at Ligature, and accesses of the pool. -/
def Obligations.LigatureCommands : Prop :=
  (∀ (s : State) (f : Stored) (r : List Stored) (o : Nat), s.core.intake.get [] 160 = f :: r → vftOffset f.bytes = some o →
    vftType f.bytes o = 0x10 →
    exec .memRead s = .next ((s.modCore (fun c => { c with intake := c.intake.put [] 160 r })).ligRequest f o)) ∧
  (∀ (s : State) (f : Stored) (r : List Stored) (o : Nat), s.core.intake.get [] 160 = f :: r → vftOffset f.bytes = some o →
    vftType f.bytes o = 0x11 →
    exec .memWrite s = .next ((s.modCore (fun c => { c with intake := c.intake.put [] 160 r })).ligRequest f o)) ∧
  (∀ (s : State) (f : Stored) (r : List Stored) (o : Nat), s.core.intake.get [] 160 = f :: r → vftOffset f.bytes = some o →
    vftType f.bytes o = 0x12 →
    exec .memAtomic s = .next ((s.modCore (fun c => { c with intake := c.intake.put [] 160 r })).ligRequest f o)) ∧
  (∀ (s : State) (f : Stored) (r : List Stored) (o : Nat), s.core.intake.get [] 160 = f :: r → vftOffset f.bytes = some o →
    vftType f.bytes o = 0x13 →
    exec .memResponse s = .next ((s.modCore (fun c => { c with intake := c.intake.put [] 160 r })).homeResponse f o)) ∧
  (∀ (s : State) (f : Stored) (r : List Stored) (o : Nat), s.core.intake.get [] 160 = f :: r → vftOffset f.bytes = some o →
    vftType f.bytes o = 0x14 →
    exec .memRetryAfter s = .next ((s.modCore (fun c => { c with intake := c.intake.put [] 160 r })).homeRetry f o)) ∧
  (∀ (s : State) (i : Fin 65536) (a : LigAccess) (p : HomePart) (r : Nat), s.lig.partOf i = some (a, p) → p.retryAt = some r →
    r ≤ s.now →
    exec (.homeRetryResend i) s = .next ((s.updAcc a.no (fun x => { x with parts := x.parts.map (fun q =>
      if q.id = p.id then { q with retryAt := none } else q) })).sendPart a p)) ∧
  (∀ (s : State) (i : Fin 65536) (a : LigAccess) (p : HomePart), s.lig.partOf i = some (a, p) → a.dueAt p ≤ s.now →
    exec (.homeTimeout i) s = .next (((s.dropAcc a.no).answerAll (a.members.map (fun r => (r, []))) 7).ligRun)) ∧
  (∀ (s : State) (i : Fin 65536), s.lig.partOf i = none → exec (.homeTimeout i) s = .next s) ∧
  (∀ (s : State) (n : Nat) (a : LigAccess), s.lig.accs.find? (fun a => a.no = n && a.issued && a.home.isNone) = some a →
    s.lig.accs.find? (fun a => a.no = n) = some a → s.mem.zeroDone = true →
    exec (.poolAccessDone n [] .good) s = .next (s.performPool a false)) ∧
  (∀ (s : State) (n : Nat) (a : LigAccess), s.lig.accs.find? (fun a => a.no = n && a.issued && a.home.isNone) = some a →
    s.mem.fillPassed a.addr a.bytes = false → a.waited = false →
    exec (.poolAccessDone n [] .good) s = .next (s.fillWait.updAcc n (fun x => { x with waited := true }))) ∧
  (∀ s : State, s.boot.done.getLsbD 5 = true → s.mem.zeroDone = false →
    exec .zeroFillDone s = .next (s.modMem (fun m => { m with zeroDone := true })).quillWaited) ∧
  (∀ (s : State) (l : Nat), s.lpdPresent (64 * l) 64 = true → 64 * l < 2 ^ 39 → s.boot.done.getLsbD 5 = true →
    s.mem.poisoned.get false l = false → exec (.patrolRead (.lpddr l) .good) s = .next (s.countLpd (64 * l) 5 1))

/-- R346 to R351: the doorbells, ENABLE of a ring, and VF_ASSIGN. -/
def Obligations.RingRegisters : Prop :=
  (∀ (s t : State) (f : Fin 130) (r : Nat) (v : BitVec 32) (w : List (Nat × List Byte)) (p : List Nat) (g : Nat), t = s.ownerWrites f w p →
    t.reachRing f r = some g → (t.ring g).enable = true → v.toNat % 65536 < (t.ring g).size →
    exec (.sqTailDoorbell f r v w p) s = .next (t.updRing g (fun x => { x with sqTail := v.toNat % 65536 }))) ∧
  (∀ (s t : State) (f : Fin 130) (r : Nat) (v : BitVec 32) (w : List (Nat × List Byte)) (p : List Nat) (g : Nat), t = s.ownerWrites f w p →
    t.reachRing f r = some g → (t.ring g).enable = true → (t.ring g).size ≤ v.toNat % 65536 →
    exec (.sqTailDoorbell f r v w p) s = .next (t.haltRing g 2)) ∧
  (∀ (s : State) (f : Fin 130) (r : Nat) (v : BitVec 32) (g n : Nat), s.reachRing f r = some g → (s.ring g).enable = true →
    v.toNat % 65536 < (s.ring g).size → n = (v.toNat % 65536 + (s.ring g).size - (s.ring g).cqHead) % (s.ring g).size →
    n ≤ (s.ring g).entries.length →
    exec (.cqHeadDoorbell f r v) s = .next ((s.updRing g (fun x =>
      { x with cqHead := v.toNat % 65536, entries := x.entries.drop n })).reviewRing g)) ∧
  (∀ (s : State) (f : Fin 130) (r : Nat) (v : BitVec 32) (g : Nat), s.reachRing f r = some g → (s.ring g).enable = true →
    (s.ring g).size ≤ v.toNat % 65536 → exec (.cqHeadDoorbell f r v) s = .next (s.haltRing g 3)) ∧
  (∀ (s : State) (f : Fin 130) (r : Nat) (v : BitVec 32) (g : Nat), s.reachRing f r = some g → (s.ring g).enable = false →
    4 ≤ ctlSize v.toNat → ctlSize v.toNat ≤ 16 → ctlVector v.toNat < fnVectors f →
    ∃ t : State, exec (.ringEnable f r v) s = .next t ∧ (t.ring g).enable = true ∧ (t.ring g).halted = false ∧ (t.ring g).phase = true ∧
      (t.ring g).sqHead = 0 ∧ (t.ring g).sqTail = 0 ∧ (t.ring g).cqHead = 0 ∧ (t.ring g).cqTail = 0 ∧
      (t.ring g).sizeLog2 = ctlSize v.toNat ∧ (t.ring g).vector = ctlVector v.toNat ∧ (t.ring g).descBase = (s.ring g).descBase ∧
      t.mem = s.mem ∧ t.flags = s.flags) ∧
  (∀ (s : State) (f : Fin 130) (r : Nat) (v : BitVec 32) (g : Nat), s.reachRing f r = some g → (s.ring g).enable = false →
    (ctlSize v.toNat < 4 ∨ 16 < ctlSize v.toNat ∨ fnVectors f ≤ ctlVector v.toNat) →
    exec (.ringEnable f r v) s = .next ((s.updRing g (fun x =>
      { x with sizeLog2 := ctlSize v.toNat, vector := ctlVector v.toNat })).hostEvent f 4)) ∧
  (∀ (s : State) (f : Fin 130) (r : Nat) (v : BitVec 32) (g : Nat), s.reachRing f r = some g → (s.ring g).enable = true →
    (s.ring g).out_ = [] → ctlSize v.toNat = (s.ring g).sizeLog2 → ctlVector v.toNat = (s.ring g).vector →
    exec (.ringDisable f r v) s = .next ((s.dropHold g).updRing g (fun x => { x with enable := false, sqTail := x.sqHead }))) ∧
  (∀ (s : State) (f : Fin 130) (r : Nat) (v : BitVec 32) (g : Nat), s.reachRing f r = some g → (s.ring g).enable = true →
    (s.ring g).out_ ≠ [] → ctlSize v.toNat = (s.ring g).sizeLog2 → ctlVector v.toNat = (s.ring g).vector →
    exec (.ringDisable f r v) s = .next (s.hostEvent f 4)) ∧
  (∀ (s : State) (b : Bool) (x : Fin 64) (v : BitVec 64), x.val ≠ 0 → s.fnReaches (if b then 64 else 0) = true →
    s.assignOk (if b then .hostB else .hostA) (s.port b) x v.toNat = true →
    exec (.vfAssignWrite b x v) s = .next (s.updPort b (fun p => { p with assign := p.assign.put 0 x v.toNat }))) ∧
  (∀ (s : State) (b : Bool) (x : Fin 64) (v : BitVec 64), x.val ≠ 0 → s.fnReaches (if b then 64 else 0) = true →
    s.assignOk (if b then .hostB else .hostA) (s.port b) x v.toNat = false →
    exec (.vfAssignWrite b x v) s = .next (s.hostEvent (if b then 64 else 0) 4))

/-- R359 to R363, R460, R461: interrupts, mailboxes, resets and claims of the functions of the host ports and of the partitions. -/
def Obligations.HostFunctions : Prop :=
  (∀ (s : State) (f : Fin 130) (v : BitVec 32), s.fnReaches f = true → v.toNat % 1024 < fnVectors f →
    exec (.intAck f v) s = .next ((s.updFunc f (fun x =>
      { x with inService := x.inService.filter (· ≠ v.toNat % 1024) })).reviewVector f (v.toNat % 1024))) ∧
  (∀ (s : State) (f : Fin 130) (v : Fin 513), s.fnReaches f = true → v.val < fnVectors f → (s.func f).unmasked.contains v.val = false →
    exec (.msixUnmask f v) s = .next ((s.updFunc f (fun x =>
      { x with unmasked := if x.unmasked.contains v.val then x.unmasked else x.unmasked ++ [v.val] })).reviewVector f v)) ∧
  (∀ (s : State) (f : Fin 130) (v : BitVec 32) (b : List Byte), s.fnPresent f = true →
    exec (.mboxGo f v b false) s = .next ((s.updFunc f (fun x => { x with req := writeBytes x.req 0 (b.take 2048) })).mailbox f v.toNat false)) ∧
  (∀ (s : State) (f : Fin 128), fnVf f = 0 → exec (.functionLevelReset f) s = .next (s.resetPf (64 ≤ f.val))) ∧
  (∀ (s : State) (f : Fin 128), fnVf f ≠ 0 → (s.port (64 ≤ f.val)).enabled.contains (fnVf f) = true →
    exec (.functionLevelReset f) s = .next (s.resetFunction f)) ∧
  (∀ (s : State) (f : Fin 128), fnVf f ≠ 0 → (s.port (64 ≤ f.val)).enabled.contains (fnVf f) = false →
    exec (.functionLevelReset f) s = .next s) ∧
  (∀ (s : State) (b : Bool), (s.port b).up = true → exec (.pcieLinkDown b) s =
    .next ((s.portLinkDown b).updPort b (fun p => { p with training := !p.perst && !p.held }))) ∧
  (∀ s : State, s.boot.done.getLsbD 2 = true →
    exec .heartbeatTick s = .next (s.modFaults (fun x => { x with heartbeat := (x.heartbeat + 1) % 2 ^ 32 }))) ∧
  (∀ (s : State) (f : Fin 130) (v : BitVec 32), fnVf f = 0 → s.fnReaches f = true → (v.toNat = 0x52560000 ∨ v.toNat = 0x52560001) →
    domNo (fnDomain f) = s.param 0x2480 3 →
    exec (.recoverWrite f v) s = .next (((s.setFlag 0x6121 7).modFaults (fun x =>
      { x with claimMerged := x.claimMerged + x.claims.length, claims := [] })).claimActs (v.toNat = 0x52560001))) ∧
  (∀ (s : State) (f : Fin 130) (v : BitVec 32), fnVf f = 0 → s.fnReaches f = true → (v.toNat = 0x52560000 ∨ v.toNat = 0x52560001) →
    domNo (fnDomain f) ≠ s.param 0x2480 3 → s.inWarm = false →
    exec (.recoverWrite f v) s = .next ((s.setFlag 0x6121 7).modFaults (fun x =>
      { x with claims := x.claims ++ [(fnDomain f, decide (v.toNat = 0x52560001),
        s.now + s.param 0x2480 4 * 10 ^ 9)] }))) ∧
  (∀ (s : State) (f : Fin 130) (v : BitVec 32), fnVf f = 0 → s.fnReaches f = true → v.toNat / 65536 ≠ 0x5256 →
    exec (.recoverWrite f v) s = .next (s.modFaults (fun x => { x with recoverIgnored := x.recoverIgnored + 1 }))) ∧
  (∀ (s : State) (c : Domain × Bool × Nat) (r : List (Domain × Bool × Nat)), s.faults.claims = c :: r → c.2.2 ≤ s.now →
    exec .claimWindowExpiry s = .next ((s.modFaults (fun x => { x with claims := r })).claimActs c.2.1)) ∧
  (∀ (s : State) (c : Domain × Bool × Nat) (r : List (Domain × Bool × Nat)), s.faults.claims = c :: r → s.now < c.2.2 →
    exec .claimWindowExpiry s = .next s)

/-- R364 to R366: the servo takes an offset sample, loses its estimate, its source, and its holdover. -/
def Obligations.ServoStates : Prop :=
  (∀ (s : State) (o : Int) (r : List Int), s.time.offsets = o :: r →
    exec .offsetSample s = .next ((s.modTime (fun t => { t with offsets := r })).offsetSample o).reviewSettled) ∧
  (∀ s : State, s.time.servo = .track → s.timeSet = true → s.param 0x2440 6 < s.timeErr →
    exec .estimateLoss s = .next ((((s.timeLocked false).setFlag 0x6641 1).countUnit 0x11 0 4).modTime (fun t =>
      { t with servo := .acquire, samples := [], lockCount := 0 })).reviewSettled) ∧
  (∀ s t : State, s.reselect.time.source = 255 → (s.reselect.time.servo = .track ∨ s.reselect.time.servo = .acquire) →
    t = (s.reselect.modTime (fun t => { t with servo := .holdover, samples := [], lockCount := 0 })).setFlag 0x6641 2 →
    exec .sourceUnusable s = .next (if (t.timeSet && t.param 0x2440 7 = 0) = true then t.timeLocked false else t).reviewSettled) ∧
  (∀ s : State, s.time.servo = .holdover → s.timeSet = true →
    exec .holdoverExpiry s = .next (s.timeLocked false).reviewSettled) ∧
  (∀ s : State, s.time.servo ≠ .holdover → exec .holdoverExpiry s = .next s)

/-- R368: what a port of PTP sends, and the loss of its master. -/
def Obligations.PtpSends : Prop :=
  (∀ (s : State) (f : Fin 64), (s.ptp f).master.isSome = true →
    exec (.announceReceiptTimeout f) s = .next (s.updPtp f (fun p =>
      { p with master := none, announces := 0, syncDiff := none, delayT3 := none })).reselect) ∧
  (∀ (s : State) (f : Fin 64), s.timeRuns = true → s.ptpMaster f = true →
    exec (.ptpSyncSend f) s = .next (sendPlain (s.updPtp f (fun p => { p with txSync := (p.txSync + 1) % 65536 })) f 0x11
      (s.ptpHeader f 0 44 (s.ptp f).txSync s.stampNow.2 0 (-10) ++ s.stampNow.1))) ∧
  (∀ (s : State) (f : Fin 64), s.ptpMaster f = false → exec (.ptpSyncSend f) s = .next s) ∧
  (∀ (s : State) (f : Fin 64), s.timeRuns = true → s.ptpMaster f = true →
    ∃ (t : State) (b : List Byte), exec (.ptpAnnounceSend f) s =
      .next (sendPlain (t.updPtp f (fun p => { p with txAnnounce := (p.txAnnounce + 1) % 65536 })) f 0x11 b) ∧ b.length = 64 ∧
      t.time = s.time ∧ t.flags = s.flags ∧ t.mem = s.mem) ∧
  (∀ (s : State) (f : Fin 64), s.time.source = f.val → (s.fibre f).marginState = .up →
    ∃ (t : State) (b : List Byte), exec (.ptpDelayReqSend f) s =
      .next (sendPlain (t.updPtp f (fun p =>
        { p with delaySeq := (p.delaySeq + 1) % 65536, delayT3 := some t.timeUnits })) f 0x11 b) ∧ b.length = 44 ∧
      t.time = s.time ∧ t.flags = s.flags ∧ t.mem = s.mem)

/-- R39, R370 to R372: the pulse input and its messages, the pulse output, and the triggers. -/
def Obligations.PulsesAndTriggers : Prop :=
  (∀ (s : State) (w : Nat), s.timeRuns = true → (w < 100 ∨ 500000000 < w) →
    exec (.ppsInEdge w) s = .next (s.countMisc .ppsWidth 1).ppsDiscard) ∧
  (∀ (s : State) (w sec st utc at_ : Nat), s.timeRuns = true → 100 ≤ w → w ≤ 500000000 → s.time.ppsTod = some (sec, st, utc, at_) →
    s.time.ppsLast = none → 10 ^ 10 ≤ s.now - at_ → s.now - at_ ≤ 99 * 10 ^ 10 →
    exec (.ppsInEdge w) s = .next (s.ppsAccept sec st utc)) ∧
  (∀ (s : State) (w sec st utc at_ : Nat), s.timeRuns = true → 100 ≤ w → w ≤ 500000000 → s.time.ppsTod = some (sec, st, utc, at_) →
    s.now - at_ < 10 ^ 10 → exec (.ppsInEdge w) s = .next s.todBad.ppsDiscard) ∧
  (∀ (s : State) (b : List Byte), s.timeRuns = true → b.length = 20 → beAt b 0 2 = 0x5654 → byteAt b 2 = 1 → byteAt b 3 < 3 →
    beAt b 14 4 = 0 → beAt b 18 2 = todCheck (b.take 18) →
    exec (.todInMessage b) s = .next (s.modTime (fun t =>
      { t with ppsTod := some (beAt b 4 8, byteAt b 3, beAt b 12 2, s.now) }))) ∧
  (∀ (s : State) (b : List Byte), s.timeRuns = true → b.length ≠ 20 → exec (.todInMessage b) s = .next s.todBad) ∧
  (∀ (s : State) (b : List Byte), s.timeRuns = true → beAt b 18 2 ≠ todCheck (b.take 18) → exec (.todInMessage b) s = .next s.todBad) ∧
  (∀ s : State, s.time.ppsUsable = true → exec .ppsMissing s = .next s.ppsLost) ∧
  (∀ s : State, s.timeSet = true → s.ppsPhase < s.time.inc → exec .ppsOutEdge s = .next (s.modTime (fun t => { t with ppsOutAt := some s.now }))) ∧
  (∀ s : State, s.timeSet = false → exec .ppsOutEdge s = .next s ∧ exec .todOutSend s = .next s) ∧
  (∀ s : State, s.timeSet = true → 490000000 * 2 ^ 32 ≤ s.ppsPhase → s.ppsPhase ≤ 510000000 * 2 ^ 32 → ∃ b, exec .todOutSend s = .next (s.emit (.tod b)) ∧ b.length = 20 ∧ beAt b 0 2 = 0x5654 ∧
    beAt b 14 4 = 0 ∧ beAt b 18 2 = todCheck (b.take 18) ∧
    beAt b 4 8 = ((addNs (s.time.sec, s.time.ns) (s.param 0x2440 10)).1 + 1) % 2 ^ 64) ∧
  (∀ (s : State) (t : Fin 16), (s.trigger t).armed = true → (s.trigger t).cell ≤ s.cellNow → (s.trigger t).action = 3 →
    ∃ u : State, exec (.triggerFire t) s = .next u ∧ (u.trigger t).armed = false ∧ u.folio.stopped = true ∧ u.flag 0x6641 8 = true ∧
      u.mem = s.mem) ∧
  (∀ (s : State) (t : Fin 16), (s.trigger t).armed = true → (s.trigger t).cell ≤ s.cellNow → (s.trigger t).action = 2 →
    ∃ u : State, exec (.triggerFire t) s = .next u ∧ (u.trigger t).armed = false ∧ u.folio.stopped = false ∧ u.flag 0x6641 8 = true ∧
      u.mem = s.mem) ∧
  (∀ (s : State) (t : Fin 16), s.cellNow < (s.trigger t).cell → exec (.triggerFire t) s = .next s)

/-- R275, R376, R381: the strobe of the snapshot banks, and the drain of a precise buffer. -/
def Obligations.FolioStrobes : Prop :=
  (∀ s : State, s.folio.armed = true → s.param 0x2452 1 ≤ s.cellNow → s.boot.recovery = false → s.param 0x2452 3 = 0 →
    exec .snapStrobe s = .next ((s.latchBank (s.param 0x2452 2 % 2)).modFolio (fun f => { f with armed := false }))) ∧
  (∀ s : State, s.folio.armed = true → s.param 0x2452 1 ≤ s.cellNow → s.boot.recovery = false → 0 < s.param 0x2452 3 →
    ∃ t u : State, t = s.latchBank (s.param 0x2452 2 % 2) ∧ exec .snapStrobe s = .next u ∧ u.folio.armed = t.folio.armed ∧
      u.folio.strobe = t.folio.strobe + 1 ∧ u.param 0x2452 2 = (s.param 0x2452 2 + 1) % 2 ^ 32 ∧
      u.param 0x2452 1 = strobeCell t.folio.snapAt0 (t.folio.strobe + 1) (s.param 0x2452 3) % 2 ^ 64) ∧
  (∀ s : State, s.folio.armed = false → exec .snapStrobe s = .next s) ∧
  (∀ s : State, s.cellNow < s.param 0x2452 1 → exec .snapStrobe s = .next s) ∧
  (∀ (s : State) (n : Fin 32) (x : List Byte) (r : List (List Byte)), (s.nib n).precise = x :: r →
    exec (.sampleDrain n) s = .next ((s.updNib n (fun y => { y with precise := r })).storeSample n x)) ∧
  (∀ (s : State) (n : Fin 32), (s.nib n).precise = [] → exec (.sampleDrain n) s = .next s)

/-- R397 to R400, R404 to R407: READ, WRITE, SEG_READ, SEG_WRITE, OCCURRENCE and DESCRIBE of an object. -/
def Obligations.DopRequests : Prop :=
  (∀ (s a u : State) (r : Req) (i : BitVec 16) (k : BitVec 8) (role v : Nat), ReqAdmitted s (dopReq r 1 i.toNat k.toNat) role a →
    objExists i.toNat k.toNat = true → readRole i.toNat ≤ role → (∀ n, objType i.toNat k.toNat ≠ .domain n) →
    a.takeRead r.src i.toNat k.toNat = some (v, u) →
    exec (.dopRead r i k) s =
      .next (dopRespond u (dopReq r 1 i.toNat k.toNat) .ok false (wireValue (objType i.toNat k.toNat) v)).afterServe) ∧
  (∀ (s a : State) (r : Req) (i : BitVec 16) (k : BitVec 8) (role : Nat), ReqAdmitted s (dopReq r 1 i.toNat k.toNat) role a →
    objExists i.toNat k.toNat = true → role < readRole i.toNat →
    exec (.dopRead r i k) s = .next (dopRespond a (dopReq r 1 i.toNat k.toNat) .accessDenied false []).afterServe) ∧
  (∀ (s a : State) (r : Req) (i : BitVec 16) (k : BitVec 8) (role : Nat), ReqAdmitted s (dopReq r 1 i.toNat k.toNat) role a →
    objExists i.toNat k.toNat = false →
    exec (.dopRead r i k) s = .next (dopRespond a (dopReq r 1 i.toNat k.toNat) .noObject false []).afterServe) ∧
  (∀ (s a u : State) (r : Req) (i : BitVec 16) (k : BitVec 8) (d : List Byte) (q : DopReq) (role : Nat) (row : ObjRow),
    q = { dopReq r 2 i.toNat k.toNat with data := d } → ReqAdmitted s q role a → i.toNat ≠ 0x1040 →
    dopWriteAllowed q role = .ok row → writeObj r.src i.toNat k.toNat a (writtenValue row.typ d) = .ok u →
    exec (.registerWrite (.object r i k d)) s = .next (dopRespond u q .ok false []).afterServe) ∧
  (∀ (s a : State) (r : Req) (i : BitVec 16) (k : BitVec 8) (d : List Byte) (q : DopReq) (role : Nat) (e : DopStatus),
    q = { dopReq r 2 i.toNat k.toNat with data := d } → ReqAdmitted s q role a → i.toNat ≠ 0x1040 → dopWriteAllowed q role = .error e →
    exec (.registerWrite (.object r i k d)) s = .next (dopRespond a q e false []).afterServe) ∧
  (∀ (s a : State) (r : Req) (i : BitVec 16) (v : BitVec 32) (q : DopReq) (role : Nat) (row : ObjRow),
    q = { dopReq r 2 i.toNat 1 with data := beBytes 4 v.toNat } → ReqAdmitted s q role a → i.toNat ≠ 0x1040 →
    dopWriteAllowed q role = .ok row → objType i.toNat 1 = .flags32 → row.typ = .flags32 →
    exec (.flagClear (.object r i v)) s = .next (dopRespond (a.clearFlags i.toNat v) q .ok false []).afterServe) ∧
  (∀ (s a : State) (r : Req) (role : Nat), ReqAdmitted s (dopReq r 3 0xA110 1) role a → readRole 0xA110 ≤ role →
    exec (.sampleDataRead r) s = .next (dopRespond (a.modFolio (fun f => { f with store := f.store.drop 63 })) (dopReq r 3 0xA110 1) .ok
      (decide (a.folio.store.length ≤ 63)) (a.folio.store.take 63).flatten).afterServe) ∧
  (∀ (s a : State) (r : Req) (i : BitVec 16) (k : BitVec 8) (o : BitVec 32) (q : DopReq) (role n : Nat),
    q = { dopReq r 3 i.toNat k.toNat with offset := o.toNat } → ReqAdmitted s q role a → objExists i.toNat k.toNat = true →
    readRole i.toNat ≤ role → objType i.toNat k.toNat = .domain n → i.toNat ≠ 0xA110 →
    exec (.dopSegRead r i k o) s = .next (dopRespond a q .ok
      (decide ((a.domainSegment i.toNat o.toNat).1 ≤ o.toNat + (a.domainSegment i.toNat o.toNat).2.length))
      (a.domainSegment i.toNat o.toNat).2).afterServe) ∧
  (∀ (s a : State) (r : Req) (i : BitVec 16) (o : BitVec 32) (x : Bool) (d : List Byte) (q : DopReq) (role n : Nat) (row : ObjRow),
    q = { dopReq r 4 i.toNat 1 with offset := o.toNat, flags := 2 * ofBool x, data := d } → ReqAdmitted s q role a →
    objRow i.toNat 1 = some row → row.typ = .domain n → (row.acc = .rw ∨ row.acc = .wo) → writeRole i.toNat ≤ role → a.loadOpen i.toNat = true →
    ((a.codex.loads.get {} i.toNat).owner = none ∨ (a.codex.loads.get {} i.toNat).owner = some r.src) → o.toNat = (a.codex.loads.get {} i.toNat).bytes.length → o.toNat + d.length ≤ n →
    exec (.dopSegWrite r i 1 o x d) s = .next (dopRespond (a.storeSegment i.toNat r.src d x) q .ok false []).afterServe) ∧
  (∀ (s a : State) (r : Req) (i : BitVec 16) (q : DopReq) (role : Nat), q = { dopReq r 5 i.toNat 1 with flags := 0 } →
    i.toNat ≠ 0 → ReqAdmitted s q role a → objExists i.toNat 1 = true → objType i.toNat 1 = .flags32 → readRole i.toNat ≤ role →
    exec (.dopOccurrence r i 1 false) s = .next (dopRespond a q .ok false (occurrenceBytes (a.flagObj i.toNat))).afterServe) ∧
  (∀ (s a : State) (r : Req) (i : BitVec 16) (k : BitVec 8) (role : Nat), ReqAdmitted s (dopReq r 6 i.toNat k.toNat) role a →
    objExists i.toNat k.toNat = true → readRole i.toNat ≤ role →
    exec (.dopDescribe r i k) s =
      .next (dopRespond a (dopReq r 6 i.toNat k.toNat) .ok false (describeBytes i.toNat k.toNat)).afterServe)

/-- R345, R401, R406, R408: subscriptions and their NOTIFY frames, the registers of BAR0, and the management Ethernet. -/
def Obligations.DopOtherPaths : Prop :=
  (∀ (s a : State) (r : Req) (ms : BitVec 16) (q : DopReq) (role : Nat), q = { dopReq r 7 0 0 with data := beBytes 2 ms.toNat } →
    ReqAdmitted s q role a → 10 ≤ ms.toNat → ms.toNat ≤ 10000 → srcFunction r.src = none →
    (a.codex.subs.filter (fun x => x.src ≠ r.src)).length < 4 →
    exec (.dopSubscribe r ms) s = .next (dopRespond (a.modCodex (fun c =>
      { c with subs := a.codex.subs.filter (fun x => x.src ≠ r.src) ++ [{ src := r.src, notifyMs := ms.toNat }] })) q .ok false
      []).afterServe) ∧
  (∀ (s a : State) (r : Req) (q : DopReq) (role : Nat), q = { dopReq r 7 0 0 with data := beBytes 2 0 } →
    ReqAdmitted s q role a → srcFunction r.src = none →
    exec (.dopSubscribe r 0) s = .next (dopRespond (a.modCodex (fun c => { c with subs := a.codex.subs.filter (fun x => x.src ≠ r.src) })) q
      .ok false []).afterServe) ∧
  (∀ (s : State) (src : DopSrc) (x : Subscription), s.scribeUp = true → x ∈ s.codex.subs → x.src = src → s.notifyEntries ≠ [] →
    exec (.notifySend src) s = .next (dopSend s src (notifyFrame s.notifyEntries))) ∧
  (∀ (s : State) (src : DopSrc), s.notifyEntries = [] → exec (.notifySend src) s = .next s) ∧
  (∀ (s : State) (src : DopSrc) (x : Subscription), x ∈ s.codex.subs → x.src = src →
    exec (.subscriptionExpiry src) s =
      .next ((s.modCodex (fun c => { c with subs := c.subs.filter (fun x => x.src ≠ src) })).setFlag 0x6001 4)) ∧
  (∀ (s : State) (f : Fin 130) (v : BitVec 32), s.fnPresent f = true → s.fnReaches f = true →
    exec (.flagClear (.events f v)) s = .next ((s.updFunc f (fun x =>
      { x with events := { x.events with val := x.events.val &&& ~~~v } })).reviewVector f 0)) ∧
  (∀ (s : State) (f : Fin 130) (v : BitVec 64), s.fnPresent f = true → s.fnReaches f = true →
    exec (.registerWrite (.bar f 0x24 v false)) s = .next ((s.updFunc f (fun x => { x with eventEn := v.toNat % 32 })).reviewVector f 0)) ∧
  (∀ (s : State) (f : Fin 130) (o : BitVec 20), s.fnPresent f = true → barHas f o.toNat true = true →
    exec (.lowWordRead f o true) s = .next (s.emit (.readData (fnSrc f) (s.barRead64 f o.toNat)))) ∧
  (∀ (s : State) (f : Fin 130) (o : BitVec 20) (v : Nat), s.fnPresent f = true → barHas f o.toNat false = true →
    s.barReg64 f o.toNat = some v →
    exec (.lowWordRead f o false) s =
      .next ((s.latchHigh (fnSrc f) (o.toNat + 4) (v / 2 ^ 32)).emit (.readData (fnSrc f) (v % 2 ^ 32)))) ∧
  (∀ (s : State) (f : Fin 130) (o : BitVec 20) (w : Bool), s.fnPresent f = false → exec (.lowWordRead f o w) s = .next s) ∧
  (∀ (s : State) (b : List Byte) (x : Bool), s.scribeUp = true → 64 ≤ b.length → b.length ≤ 2200 → fcsOk b = true →
    s.mgmtTakes (macDst b) = true → (parseFrame b).tags ≤ 1 → etherType (b.take (b.length - 4)) = 0x0806 →
    exec (.mgmtFrameReceive b x) s = .next (s.onArp (b.take (b.length - 4)) ((parseFrame b).off + 2))) ∧
  (∀ (s : State) (b : List Byte) (x : Bool), s.scribeUp = true → 64 ≤ b.length → b.length ≤ 2200 → fcsOk b = true →
    s.mgmtTakes (macDst b) = true → (parseFrame b).tags ≤ 1 → etherType (b.take (b.length - 4)) = 0x0800 →
    exec (.mgmtFrameReceive b x) s = .next (s.onIpv4 (b.take (b.length - 4)) ((parseFrame b).off + 2) x)) ∧
  (∀ (s : State) (b : List Byte) (x : Bool), fcsOk b = false → exec (.mgmtFrameReceive b x) s = .next s)

/-- R422, R424, R425, R428: sessions, MCTP packets, and a debug unlock. Nonces and session identifiers are free values of the model. -/
def Obligations.SessionsAndUnlock : Prop :=
  (∀ (s a t u : State) (r : Req) (c : BitVec 8) (n : BitVec 256) (q : DopReq) (role x : Nat) (m : List Byte),
    q = opReq r 0x10 (beBytes 1 c.toNat ++ zeros 3 ++ leBytes 32 n.toNat) → ReqAdmitted s q role a → r.session = 0 → a.aliasKey = true →
    1 ≤ c.toNat → c.toNat ≤ 8 → a.credEnabled c.toNat = true → a.codex.sessions.length < 8 → a.freeBelow 65535 = (x, t) →
    t.drawNonce = (m, u) →
    exec (.sessionOpen r c n) s = .next (dopRespond (u.modCodex (fun y => { y with sessions := y.sessions ++
      [{ id := x + 1, src := r.src, cred := c.toNat, reqNonce := slice q.data 4 32, modNonce := m }] })) q .ok false
      (beBytes 2 (x + 1) ++ zeros 2 ++ m ++ (Config.ed25519Sign 1 (u.sessionMessage (slice q.data 4 32) m (x + 1))).toList))) ∧
  (∀ (s a : State) (r : Req) (c : BitVec 8) (n : BitVec 256) (q : DopReq) (role : Nat),
    q = opReq r 0x10 (beBytes 1 c.toNat ++ zeros 3 ++ leBytes 32 n.toNat) → ReqAdmitted s q role a → r.session = 0 → a.aliasKey = true →
    1 ≤ c.toNat → c.toNat ≤ 8 → a.credEnabled c.toNat = false →
    exec (.sessionOpen r c n) s = .next (dopRespond a q .accessDenied false [])) ∧
  (∀ (s a : State) (r : Req) (g : BitVec 512) (q : DopReq) (role : Nat) (x : Session), q = opReq r 0x11 (leBytes 64 g.toNat) →
    ReqAdmitted s q role a → pendingSession q a = some x →
    exec (.sessionAuth r g) s = .next (
      if Config.ed25519Verify (a.credKey x.cred) (a.sessionMessage x.modNonce x.reqNonce x.id) q.data = true then
        dopRespond (a.modCodex (fun y => { y with sessions := y.sessions.map (fun z =>
          if z = x then { z with isOpen := true, role := a.credRole x.cred } else z) })) q .ok false (beBytes 1 (a.credRole x.cred))
      else dopRespond (a.dropSession x.id x.src).authFailed q .accessDenied false [])) ∧
  (∀ (s a : State) (r : Req) (role : Nat) (x : Session), ReqAdmitted s (opReq r 0x12 []) role a →
    sessionOf a (opReq r 0x12 []) = some x →
    exec (.sessionClose r) s = .next (dopRespond (a.dropSession x.id x.src) (opReq r 0x12 []) .ok false [])) ∧
  (∀ (s : State) (src : DopSrc) (i : BitVec 16), exec (.sessionTimeout src i) s = .next (s.modCodex (fun c =>
    { c with sessions := c.sessions.filter (fun x => !(x.id = i.toNat && x.src = src)) }))) ∧
  (∀ (s a : State) (r : Req) (p : List Byte) (role : Nat), ReqAdmitted s (opReq r 0x18 p) role a → p.length = 4 →
    exec (.mctpPacket r p) s = .next (dopRespond a.nextPacket.st (opReq r 0x18 p) .ok false a.nextPacket.data)) ∧
  (∀ (s a : State) (r : Req) (p : List Byte) (role : Nat), ReqAdmitted s (opReq r 0x18 p) role a → 68 < p.length →
    exec (.mctpPacket r p) s = .next (dopRespond a (opReq r 0x18 p) .size false [])) ∧
  (∀ (s a : State) (r : Req) (g : BitVec 512) (role : Nat), ReqAdmitted s (writeReq r 0x1040 2 g.toNat) role a →
    writeRole 0x1040 ≤ role → a.chop.unsealed = true →
    exec (.debugUnlock r g) s = .next (
      if ((List.range 4).any (fun k => Config.ed25519Verify (Config.releaseKey k).toList
        ((Config.publicKey 0 a.helperData).toList ++ leBytes 8 a.sec.nonce) (leBytes 64 g.toNat))) = true then
        dopRespond (a.eraseKeys.modSec (fun x => { x with unlocked := true })) (writeReq r 0x1040 2 g.toNat) .ok false []
      else dopRespond a.authFailed (writeReq r 0x1040 2 g.toNat) .range false [])) ∧
  (∀ (s a : State) (r : Req) (g : BitVec 512) (role : Nat), ReqAdmitted s (writeReq r 0x1040 2 g.toNat) role a →
    writeRole 0x1040 ≤ role → a.chop.unsealed = false →
    exec (.debugUnlock r g) s = .next (dopRespond a.authFailed (writeReq r 0x1040 2 g.toNat) .range false []))

/-- R421, R423: the SPDM exchanges of a connection, in their order. A message's bytes are DMTF's; an answer is what it says. -/
def Obligations.SpdmExchanges : Prop :=
  (∀ (s : State) (c : Fin 3), s.boot.done.getLsbD 2 = true →
    exec (.getVersion c) s = .next ((s.updSpdm c (fun _ => { stage := 1 })).emit (.spdm c (.version [0x12, 0x13])))) ∧
  (∀ (s : State) (c : Fin 3) (v : BitVec 8), s.boot.done.getLsbD 2 = true → (s.sec.spdm.get {} c).stage ≠ 0 →
    (v.toNat = 0x12 ∨ v.toNat = 0x13) →
    exec (.getCapabilities c v) s = .next ((s.updSpdm c (fun _ => { stage := 2, version := v.toNat })).emit (.spdm c .capabilities))) ∧
  (∀ (s : State) (c : Fin 3) (v : BitVec 8), s.boot.done.getLsbD 2 = true → (s.sec.spdm.get {} c).stage = 0 →
    exec (.getCapabilities c v) s = .next (s.emit (.spdm c .unexpected))) ∧
  (∀ (s : State) (c : Fin 3) (e h : Bool), s.boot.done.getLsbD 2 = true → 2 ≤ (s.sec.spdm.get {} c).stage → (e || h) = true →
    exec (.negotiateAlgorithms c e h) s = .next ((s.updSpdm c (fun x => { x with stage := 3 })).emit (.spdm c .algorithms))) ∧
  (∀ (s : State) (c : Fin 3) (x : List Byte), s.boot.done.getLsbD 2 = true → 3 ≤ (s.sec.spdm.get {} c).stage → s.slotChain = some x →
    exec (.getDigests c) s = .next (s.emit (.spdm c (.digests [sha x])))) ∧
  (∀ (s : State) (c : Fin 3) (o n : BitVec 16) (x p : List Byte), s.boot.done.getLsbD 2 = true → 3 ≤ (s.sec.spdm.get {} c).stage →
    s.slotChain = some x → o.toNat < x.length → p = slice x o.toNat (min n.toNat 1024) →
    exec (.getCertificate c 0 o n) s = .next (s.emit (.spdm c (.certificate p (x.length - o.toNat - p.length))))) ∧
  (∀ (s : State) (c : Fin 3) (n : List Byte), s.boot.done.getLsbD 2 = true → 3 ≤ (s.sec.spdm.get {} c).stage → s.slotChain.isSome = true →
    exec (.challenge c 0 n) s = .next (({ s with freeCount := s.freeCount + 1 } : State).emit (.spdm c (.challengeAuth
      (Config.ed25519Sign 1 (Config.spdmTranscript s.freeCount n)).toList)))) ∧
  (∀ (s : State) (c : Fin 3), s.boot.done.getLsbD 2 = true → 3 ≤ (s.sec.spdm.get {} c).stage →
    exec (.getMeasurements c 0 none) s = .next (s.emit (.spdm c (.measurements 7 [] none)))) ∧
  (∀ (s : State) (c : Fin 3) (o : BitVec 8), s.boot.done.getLsbD 2 = true → 3 ≤ (s.sec.spdm.get {} c).stage → 1 ≤ o.toNat → o.toNat ≤ 7 →
    exec (.getMeasurements c o none) s = .next (s.emit (.spdm c (.measurements 7 [(o.toNat, s.measurement o.toNat)] none)))) ∧
  (∀ (s : State) (c : Fin 3), s.boot.done.getLsbD 2 = false → exec (.getVersion c) s = .next s ∧ exec (.getDigests c) s = .next s)

/-- R427 to R440: the boundary scan, the tamper sensors, the seal, and the records of Chop. -/
def Obligations.SensorsAndChop : Prop :=
  (∀ s : State, s.powered = true → exec .tapExtest s = .next ((s.modSec (fun x => { x with boundary := true })).sensorFires 4)) ∧
  (∀ s : State, s.sec.boundary = true → exec .tapReset s = .next (s.modSec (fun x => { x with boundary := false })).warmRequest) ∧
  (∀ (s : State) (k : Fin 7), s.powered = true → s.boot.done.getLsbD 3 = true → s.param 0x1030 (1 + k.val) = 0 →
    ∃ u : State, exec (.tamperSensorFire k) s = .next u ∧ u.flag 0x6181 k = true ∧
      u.sec.sensorCount.get 0 (1 + k.val) = s.sec.sensorCount.get 0 (1 + k.val) + 1 ∧ u.codex.sessions = s.codex.sessions ∧
      u.boot.identity = s.boot.identity ∧ u.mem = s.mem) ∧
  (∀ (s : State) (k : Fin 7), s.powered = true → s.boot.done.getLsbD 3 = true → s.param 0x1030 (1 + k.val) = 1 →
    ∃ u : State, exec (.tamperSensorFire k) s = .next u ∧ u.flag 0x6181 k = true ∧
      u.sec.sensorCount.get 0 (1 + k.val) = s.sec.sensorCount.get 0 (1 + k.val) + 1 ∧ u.codex.sessions = [] ∧
      u.boot.identity = false ∧ u.sec.erased = true ∧ u.sec.unlocked = false ∧ u.mem = s.mem) ∧
  (∀ (s : State) (k : Fin 7), s.powered = true → s.boot.done.getLsbD 3 = false →
    exec (.tamperSensorFire k) s = .next (s.modSec (fun x => { x with deferred := x.deferred ++ [1 + k.val] }))) ∧
  (∀ (s : State) (m : Metered), s.chop.running = true → s.chop.unsealed = true →
    ∃ u : State, exec (.sealChange false m) s = .next u ∧ u.sec.unlocked = false ∧ u.chop.unsealed = false ∧ u.flag 0x1103 5 = true) ∧
  (∀ (s : State) (m : Metered), s.chop.running = true → s.chop.unsealed = false →
    ∃ u : State, exec (.sealChange true m) s = .next u ∧ u.sec.unlocked = s.sec.unlocked ∧ u.chop.unsealed = true ∧
      u.chop.openPart = true ∧ u.flag 0x1103 5 = true) ∧
  (∀ (s : State) (x : Bool) (m : Metered), s.chop.unsealed = x → exec (.sealChange x m) s = .next s) ∧
  (∀ (s : State) (h : List Byte), s.chop.running = true → s.boot.done.getLsbD 2 = true → s.chop.ready = false →
    dataPayload s.flash 0x0013 = some h →
    exec .chopStartupData s = .next (if Config.chopReconstructs h = true then
      ((s.modChop (fun c => { c with keyReady := true, helper := h })).modChop (fun c =>
        { c with cal := c.cal <|> (dataPayload s.flash 0x0012).bind (calRecord c.pubKey) })).judgeRecord else s)) ∧
  (∀ (s : State) (x : Bool), s.coreUp = true → exec (.accountFeed x) s = .next (s.feedAccounts x)) ∧
  (∀ (s : State) (m : Metered), s.atBoundary = true → exec (.recordBoundary m) s = .next (s.closeRecord false m)) ∧
  (∀ (s : State) (m : Metered), s.atBoundary = false → exec (.recordBoundary m) s = .next s) ∧
  (∀ (s : State) (n : BitVec 32) (x : ChopRecord), s.chop.held.find? (fun y => y.no = n.toNat) = some x → s.boot.done.getLsbD 2 = true →
    ∃ u : State, exec (.recordStoreConfirm n) s = .next u ∧ u.chop.held = s.chop.held.filter (fun y => y.no ≠ x.no) ∧ u.mem = s.mem)

/-- R445 to R456: what the instants of a job slot do, and the scrub of a torn down job's memory. -/
def Obligations.JobInstants : Prop :=
  (∀ (s : State) (j : Fin 4096), (s.slot j).state = .prepared → (s.slot j).coordinator = true → (s.slot j).commitHeld = false →
    (s.slot j).ackDeadline ≤ s.cellNow → exec (.commitDecision j) s = .next (s.decideCommit j)) ∧
  (∀ (s : State) (j : Fin 4096), (s.slot j).state = .prepared → (s.slot j).commitHeld = true → (s.slot j).startCell ≤ s.cellNow →
    exec (.jobGoLive j) s = .next (s.goLive j)) ∧
  (∀ (s : State) (j : Fin 4096), (s.slot j).state ≠ .prepared → exec (.jobGoLive j) s = .next s ∧ exec (.prepareTimeout j) s = .next s) ∧
  (∀ (s : State) (j : Fin 4096), (s.slot j).state = .prepared → (s.slot j).commitHeld = false →
    (s.slot j).startCell ≤ s.cellNow + s.guardCells → (s.slot j).coordinator = false →
    exec (.prepareTimeout j) s =
      .next (((s.jobToSet j 7 7 s.cellNow 0 []).jobToMac j 7 7 (s.slot j).coordMac (s.jobToSet j 7 7 s.cellNow 0 []).cellNow 0
        ).prepareEnds j 7 2)) ∧
  (∀ (s : State) (j : Fin 4096), (s.slot j).state = .draining → s.drained j = true → exec (.drainEnd j) s = .next (s.endDrainJob j)) ∧
  (∀ (s : State) (j : Fin 4096), s.drained j = false → exec (.drainEnd j) s = .next s) ∧
  (∀ (s : State) (j : Fin 4096), (s.slot j).state = .quarantine → s.service = true →
    (s.slot j).quarantineAt + s.quarantineCells ≤ s.cellNow →
    ∃ u : State, exec (.quarantineEnd j) s = .next u ∧ (u.slot j).state = .free ∧ (u.slot j).generation = (s.slot j).generation ∧
      (u.slot j).endReason = (s.slot j).endReason ∧ u.mem = s.mem ∧ u.flags = s.flags) ∧
  (∀ (s : State) (j : Fin 4096), s.cellNow < (s.slot j).quarantineAt + s.quarantineCells → exec (.quarantineEnd j) s = .next s) ∧
  (∀ (s : State) (r : Nat × Nat × Nat) (l : List (Nat × Nat × Nat)), s.faults.scrubList = r :: l → s.boot.done.getLsbD 5 = true →
    r.2.2 * 1000 ≤ s.faults.scrubbed →
    ∃ u : State, exec .scrubRangeDone s = .next u ∧ u.faults.scrubList = l ∧
      (∀ a, s.poolBase + r.2.1 ≤ a → a < s.poolBase + r.2.1 + r.2.2 → u.mem.byte a = 0) ∧
      (∀ a, (a < s.poolBase + r.2.1 ∨ s.poolBase + r.2.1 + r.2.2 ≤ a) → u.mem.byte a = s.mem.byte a)) ∧
  (∀ s : State, s.faults.scrubList = [] → exec .scrubRangeDone s = .next s) ∧
  (∀ (s : State) (j : Fin 4096), (s.slot j).state = .prepared → (s.slot j).shareOwed = true → (s.slot j).coordinator = false →
    (s.slot j).shareSpaced s.now = true → exec (.jobShareSend j) s = .next (s.sendShare j))

/-- R457 to R473: unit faults, dumps, Proof tests, the fault history, and digests that time out. -/
def Obligations.FaultHandling : Prop :=
  (∀ (s : State) (u : BitVec 16) (c : Fin 12) (d : BitVec 64), isUnit u.toNat = true → s.boot.phase ≠ .off →
    exec (.unitFault u c d) s = .next (s.unitFault u.toNat c d.toNat false)) ∧
  (∀ (s : State) (u : BitVec 16) (c : Fin 12) (d : BitVec 64), isUnit u.toNat = false → exec (.unitFault u c d) s = .next s) ∧
  (∀ (s : State) (r : DumpRun), s.faults.dumping = some r → s.faults.warmAfterDump = false →
    ∃ u : State, exec (.blotterDumpEnd [] [] []) s = .next u ∧ u.faults.dumping = none ∧ u.faults.dumpNo = (s.faults.dumpNo + 1) % 2 ^ 32 ∧
      u.faults.selected = r.slot ∧
      ∃ b : List Byte, u.faults.dumps.get none r.slot = some { number := s.faults.dumpNo, ended := true, size := b.length } ∧
        leAt b 0 4 = 0x54544C42) ∧
  (∀ s : State, s.faults.dumping = none → exec (.blotterDumpEnd [] [] []) s = .next s) ∧
  (∀ s : State, s.param 0x2481 1 ≠ 0 → s.boot.done.getLsbD 2 = true →
    exec .proofPeriodStart s = .next ((s.modFaults (fun x => { x with proofNext := (x.proofNext + 1) % 42 })).askProof
      ((proofUnits[s.faults.proofNext % 42]?).getD 0))) ∧
  (∀ s : State, s.param 0x2481 1 = 0 → exec .proofPeriodStart s = .next s) ∧
  (∀ (s : State) (k : Fin 32), s.faults.proofUnit = some (0x0A00 + k.val) → s.faults.proofOpen = true →
    (s.nib k).passes.any (·.started) = false → exec (.proofResult true) s = .next ((s.proofPassed (0x0A00 + k.val)).modFaults (fun x => { x with proofOpen := false })).proofNext) ∧
  (∀ s : State, s.faults.proofUnit = none → exec (.proofResult true) s = .next s ∧ exec (.proofResult false) s = .next s) ∧
  (∀ s : State, s.boot.done.getLsbD 2 = true → s.faults.historyDirty = true →
    (s.faults.historyAt = none ∨ ∃ t, s.faults.historyAt = some t ∧ t + 60 * 10 ^ 12 ≤ s.now) →
    exec .faultHistoryWrite s = .next (s.writeHistory.modFaults (fun x => { x with historyAt := some s.now }))) ∧
  (∀ (s : State) (t : Nat), s.faults.historyAt = some t → s.now < t + 60 * 10 ^ 12 → exec .faultHistoryWrite s = .next s) ∧
  (∀ s : State, s.faults.historyDirty = false → exec .faultHistoryWrite s = .next s) ∧
  (∀ s t : State, s.faultSeconds % 86400 = 0 → s.faultSeconds / 86400 ≠ s.faults.decayedDay →
    t = s.modFaults (fun x => { x with decayedDay := s.faultSeconds / 86400 }) →
    exec .healthDecay s = .next (t.forEach t.faults.units.keys (fun s u =>
    (s.updUnit u (fun x => { x with wT := decayed x.wT, wP := decayed x.wP, wF := decayed x.wF, wC := decayed x.wC })).reviewHealth u))) ∧
  (∀ (s : State) (h : BitVec 24) (c : BitVec 32) (x : Nat × Nat × Nat), s.faults.ownDigests.find? (fun x => x.1 = h.toNat * 2 ^ 32 +
      c.toNat) = some x → x.2.2 + recTimeout (s.slot (jobSlot h.toNat)).record.coll * 1000000 ≤ s.now →
    exec (.digestTimeout true h c) s = .next (s.modFaults (fun y => { y with ownDigests := y.ownDigests.erase x })).digestMissed) ∧
  (∀ (s : State) (u : Nat) (t : Nat × Nat) (k : Fin 10), u = 0x0B00 + k.val → s.faults.proofUnit = some u → s.faults.proofT = some t →
    s.faults.proofOpen = false → toNs t ≤ toNs (s.time.sec, s.time.ns) → (s.unit u).state = 3 → u / 256 ≠ 0x0A →
    exec .proofWindowOpen s = .next ((s.modFaults (fun x => { x with proofOpen := true })).modCore (fun c =>
      { c with noMatch := c.noMatch ||| BitVec.ofNat 10 (2 ^ (u % 256)),
               restoring := c.restoring &&& ~~~(BitVec.ofNat 10 (2 ^ (u % 256))) }))) ∧
  (∀ (s : State) (t : Nat × Nat), s.faults.proofT = some t → toNs (s.time.sec, s.time.ns) < toNs t → exec .proofWindowOpen s = .next s) ∧
  (∀ (s : State) (k : Fin 32), s.faults.proofUnit = some (0x0A00 + k.val) → (s.nib k).window = true →
    exec .proofWindowEnd s = .next (((s.updNib k (fun x => { x with window := false, windowed := x.windowTime s.now })).updUnit (0x0A00 + k.val) (fun x =>
      { x with state := if x.state = 2 then 0 else x.state })).modFaults (fun x =>
      { x with proofUnit := none, proofT := none, proofOpen := false })).proofNext)

/-- R29, R55, R57, R323 to R335: a partition's access of its memory, the start of the power stage, and what Scribe stores in flash. -/
def Obligations.StoredData : Prop :=
  (∀ (s : State) (p : Bool) (a : Nat) (l : List Byte), s.boot.done.getLsbD 7 = true → l ≠ [] → (s.quillRegion p).1 ≤ a →
    a + l.length ≤ (s.quillRegion p).1 + (s.quillRegion p).2 → s.lpdPresent a l.length = true → s.mem.zeroDone = true →
    exec (.quillMemoryAccess p a l .good false .good) s = .next (s.writeMem a l)) ∧
  (∀ (s : State) (p : Bool) (a : Nat) (l : List Byte), s.boot.done.getLsbD 7 = true → (s.quillRegion p).1 ≤ a → l ≠ [] →
    a + l.length ≤ (s.quillRegion p).1 + (s.quillRegion p).2 → s.lpdPresent a l.length = true → s.mem.fillPassed a l.length = false →
    exec (.quillMemoryAccess p a l .good false .good) s = .next (s.fillWait.modMem (fun m =>
      { m with quillWait := m.quillWait ++ [{ p1 := p, addr := a, store := l, l3 := .good, dirty := false, ecc := .good }] }))) ∧
  (∀ (s : State) (p : Bool) (a : Nat) (l : List Byte) (e d : Ecc) (x : Bool), a < (s.quillRegion p).1 →
    exec (.quillMemoryAccess p a l e x d) s = .next s) ∧
  (∀ (s : State) (t : BitVec 16) (l : List Byte), s.boot.done.getLsbD 2 = true → t.toNat ≠ 1 → t.toNat ≠ 5 →
    exec (.dataRecordWrite t l) s = .next (s.storeData t.toNat l)) ∧
  (∀ (s : State) (l : List Byte), s.boot.done.getLsbD 2 = true →
    exec (.dataRecordWrite 5 l) s = .next (reloadCalibration (s.storeData 5 l))) ∧
  (∀ (s : State) (l : List Byte), s.boot.done.getLsbD 2 = true → exec (.dataRecordWrite 1 l) s = .next (s.installBootSet l)) ∧
  (∀ (s : State) (t : BitVec 16) (l : List Byte), s.boot.done.getLsbD 2 = false → exec (.dataRecordWrite t l) s = .next s) ∧
  (∀ s : State, (s.power.lastOff = 0 ∨ s.power.lastOff = 1 ∨ s.power.lastOff = 4 ∨ s.power.lastOff = 5 ∨ s.power.lastOff = 8) →
    exec .vinStartThreshold s = .next (s.modPower (fun p => { p with vinOk := true })).railsStart) ∧
  (∀ s : State, (s.power.lastOff = 2 ∨ s.power.lastOff = 3 ∨ s.power.lastOff = 6 ∨ s.power.lastOff = 7) →
    exec .vinStartThreshold s = .next (s.modPower (fun p => { p with vinOk := true })))
end

