-- ==== Sys2Proof/Laws/Dop.lean ====
section
/-!
SUPPORT. What serving a DOP request can do: the numbers that byte strings spell, and a WRITE that passes every check.
-/

set_option Elab.async false

namespace Sys2Proof.Machine

@[simp] theorem leBytes_length (n v : Nat) : (leBytes n v).length = n := by
  induction n generalizing v with
  | zero => rfl
  | succ n ih => exact congrArg (· + 1) (ih _)

@[simp] theorem beBytes_length (n v : Nat) : (beBytes n v).length = n := by simp [beBytes]

/-- A number written least significant byte first reads back, modulo its size. -/
theorem leNat_leBytes (n v : Nat) : leNat (leBytes n v) = v % 256 ^ n := by
  induction n generalizing v with
  | zero => simp [leBytes, leNat, Nat.mod_one]
  | succ n ih =>
    show (BitVec.ofNat 8 v).toNat + 256 * leNat (leBytes n (v / 256)) = _
    have e : v % 256 ^ (n + 1) = v % 256 + 256 * (v / 256 % 256 ^ n) := by rw [pow_succ', Nat.mod_mul]
    rw [ih, BitVec.toNat_ofNat, e]

theorem beNat_reverse (l : List Byte) : beNat l.reverse = leNat l := by
  unfold beNat
  rw [List.foldl_reverse]
  induction l with
  | nil => rfl
  | cons b r ih =>
    show List.foldr _ 0 r * 256 + b.toNat = b.toNat + 256 * leNat r
    rw [ih]; omega

/-- A number in network byte order reads back, modulo its size. -/
theorem beNat_beBytes (n v : Nat) : beNat (beBytes n v) = v % 256 ^ n := (beNat_reverse _).trans (leNat_leBytes n v)

/-- The data of a typed write spell its value. -/
theorem writtenValue_writeReq (r : Req) (idx sub v : Nat) (row : ObjRow) (h : objRow idx sub = some row) (hd : ∀ n, row.typ ≠ .domain n)
    (hv : v < 256 ^ row.typ.size) :
    (writeReq r idx sub v).data.length = row.typ.size ∧ writtenValue row.typ (writeReq r idx sub v).data = v := by
  have key : ∀ (n : Nat), v < 256 ^ n → beNat (beBytes n v) = v := fun n h => (beNat_beBytes n v).trans (Nat.mod_eq_of_lt h)
  cases ht : row.typ with
  | bytes n =>
    rw [ht] at hv
    simp only [writeReq, h, Option.map_some, ht]
    exact ⟨leBytes_length n v, (leNat_leBytes n v).trans (Nat.mod_eq_of_lt hv)⟩
  | domain n => exact absurd ht (hd n)
  | _ =>
    rw [ht] at hv
    simp only [writeReq, h, Option.map_some, ht]
    exact ⟨beBytes_length _ v, key _ hv⟩

/-- A WRITE that passes the checks of R400 and whose object takes the value: the response is OK, and nothing else is done. -/
theorem serveWrite_ok {s u : State} {r : Req} {idx sub v role : Nat} {row : ObjRow} {act : State → Nat → Except DopStatus State}
    (up : (s.dopArrives r.src).scribeUp = true) (reach : (s.dopArrives r.src).srcReaches r.src = true)
    (new : ∀ x ∈ (s.dopArrives r.src).codex.responses, ¬ (x.src = r.src ∧ x.key = (writeReq r idx sub v).key))
    (adm : dopAdmit (s.dopArrives r.src) (writeReq r idx sub v) = .ok role) (hrole : writeRole idx ≤ role)
    (hrow : objRow idx sub = some row) (hsub : sub ≠ 0) (hacc : row.acc ≠ .ro ∧ row.acc ≠ .const) (hd : ∀ n, row.typ ≠ .domain n)
    (hv : v < 256 ^ row.typ.size) (hact : act (s.dopArrives r.src) v = .ok u) :
    serveWrite s r idx sub v act = dopRespond u (writeReq r idx sub v) .ok false [] := by
  have find : (s.dopArrives r.src).codex.responses.find? (fun x => x.src = (writeReq r idx sub v).src &&
      x.key = (writeReq r idx sub v).key) = none := by
    rw [List.find?_eq_none]
    intro x hx
    by_cases a : x.src = r.src
    · by_cases b : x.key = (writeReq r idx sub v).key
      · exact absurd ⟨a, b⟩ (new x hx)
      · simp [b]
    · rw [show (writeReq r idx sub v).src = r.src from rfl]
      simp [a]
  obtain ⟨hl, hw⟩ := writtenValue_writeReq r idx sub v row hrow hd hv
  have allowed : dopWriteAllowed (writeReq r idx sub v) role = .ok row := by
    have e1 : (writeReq r idx sub v).idx = idx := rfl
    have e2 : (writeReq r idx sub v).sub = sub := rfl
    unfold dopWriteAllowed
    rw [e1, e2, hrow]
    simp only [hsub, decide_false, Bool.false_and, Bool.false_eq_true, if_false, hl]
    have : ¬ role < writeRole idx := by omega
    cases ha : row.acc <;> simp_all
  have flags : bit (writeReq r idx sub v).flags 0 = false := by simp [writeReq, bit]
  have op : (writeReq r idx sub v).op = 2 := rfl
  have src : (writeReq r idx sub v).src = r.src := rfl
  unfold serveWrite
  simp only [dopServe, src, up, reach, flags, op, adm, dopWriteAct, allowed, hw, hact]
  simp only [src] at find
  rw [find]
  simp

end Sys2Proof.Machine
end

