-- ==== Sys2Proof/Laws/Tab.lean ====
section
/-!
SUPPORT. The laws of sparse tables: a read after a write, and that every operation keeps the canonical form.
-/

set_option Elab.async false

namespace Sys2Proof.Machine

variable {α : Type}

theorem Tab.mem_ins {k : Nat} {v : α} {e : Nat × α} : ∀ {t : Tab α}, e ∈ Tab.ins k v t ↔ e = (k, v) ∨ e ∈ t
  | [] => by simp [Tab.ins]
  | x :: r => by
    unfold Tab.ins
    split
    · simp
    · rw [List.mem_cons, Tab.mem_ins, List.mem_cons]
      tauto

/-- The canonical form, said by membership. -/
theorem Tab.wf_cons [DecidableEq α] {d v : α} {k : Nat} {r : Tab α} :
    Tab.wf d ((k, v) :: r) = true ↔ v ≠ d ∧ (∀ e ∈ r, k < e.1) ∧ Tab.wf d r = true := by
  simp [Tab.wf, List.all_eq_true, and_assoc]

theorem Tab.wf_filter [DecidableEq α] {d : α} (p : Nat × α → Bool) : ∀ {t : Tab α}, Tab.wf d t = true → Tab.wf d (t.filter p) = true
  | [], _ => rfl
  | (k, v) :: r, h => by
    obtain ⟨hv, hk, hr⟩ := Tab.wf_cons.1 h
    rw [List.filter_cons]
    split
    · exact Tab.wf_cons.2 ⟨hv, fun e he => hk e (List.mem_of_mem_filter he), Tab.wf_filter p hr⟩
    · exact Tab.wf_filter p hr

theorem Tab.wf_drop [DecidableEq α] {d : α} {t : Tab α} (k : Nat) (h : Tab.wf d t = true) : Tab.wf d (t.drop k) = true :=
  Tab.wf_filter _ h

theorem Tab.wf_ins [DecidableEq α] {d v : α} {k : Nat} (hv : v ≠ d) :
    ∀ {t : Tab α}, Tab.wf d t = true → (∀ e ∈ t, e.1 ≠ k) → Tab.wf d (Tab.ins k v t) = true
  | [], _, _ => Tab.wf_cons.2 ⟨hv, by simp, rfl⟩
  | (k', v') :: r, h, hk => by
    obtain ⟨h1, h2, h3⟩ := Tab.wf_cons.1 h
    have hne : k' ≠ k := hk (k', v') List.mem_cons_self
    unfold Tab.ins
    split
    next hlt =>
      refine Tab.wf_cons.2 ⟨hv, fun e he => ?_, h⟩
      rcases List.mem_cons.1 he with rfl | he
      · exact hlt
      · exact Nat.lt_trans hlt (h2 e he)
    next hge =>
      refine Tab.wf_cons.2 ⟨h1, fun e he => ?_, Tab.wf_ins hv h3 (fun e he => hk e (by simp [he]))⟩
      rcases Tab.mem_ins.1 he with rfl | he
      · exact Nat.lt_of_le_of_ne (Nat.le_of_not_lt hge) hne
      · exact h2 e he

/-- A write keeps the canonical form. -/
theorem Tab.wf_put [DecidableEq α] {d : α} {t : Tab α} (k : Nat) (v : α) (h : Tab.wf d t = true) : Tab.wf d (t.put d k v) = true := by
  unfold Tab.put
  split
  · exact Tab.wf_drop k h
  next hv => exact Tab.wf_ins hv (Tab.wf_drop k h) (fun e he => by simpa using (List.mem_filter.1 he).2)

theorem Tab.wf_upd [DecidableEq α] {d : α} {t : Tab α} (k : Nat) (g : α → α) (h : Tab.wf d t = true) : Tab.wf d (t.upd d k g) = true :=
  Tab.wf_put k _ h

/-- What a write leaves in a table is the new entry or an old one. -/
theorem Tab.mem_put [DecidableEq α] {d v : α} {k : Nat} {e : Nat × α} {t : Tab α} (h : e ∈ t.put d k v) : e = (k, v) ∨ e ∈ t := by
  unfold Tab.put at h
  split at h
  · exact .inr (List.mem_of_mem_filter h)
  · exact (Tab.mem_ins.1 h).imp_right List.mem_of_mem_filter

/-- A property of every entry is kept by a write of an entry that has it. -/
theorem Tab.all_put [DecidableEq α] {P : α → Prop} {d v : α} {k : Nat} {t : Tab α} (h : ∀ e ∈ t, P e.2) (hv : P v) :
    ∀ e ∈ t.put d k v, P e.2 := fun e he => by
  rcases Tab.mem_put he with rfl | he
  · exact hv
  · exact h e he

theorem Tab.get_all {P : α → Prop} {d : α} {k : Nat} (hd : P d) : ∀ {t : Tab α}, (∀ e ∈ t, P e.2) → P (t.get d k)
  | [], _ => hd
  | x :: r, h => by
    unfold Tab.get
    split
    · exact h x (by simp)
    · exact Tab.get_all hd (fun e he => h e (by simp [he]))

/-- A property of every entry, which the default has as well, is kept by a change that keeps it. -/
theorem Tab.all_upd [DecidableEq α] {P : α → Prop} {d : α} {k : Nat} {g : α → α} {t : Tab α} (h : ∀ e ∈ t, P e.2)
    (hg : ∀ x, P x → P (g x)) (hd : P d) : ∀ e ∈ t.upd d k g, P e.2 :=
  Tab.all_put h (hg _ (Tab.get_all hd h))

/-! ### Reading -/

@[simp] theorem Tab.get_nil {d : α} (k : Nat) : Tab.get d [] k = d := rfl

theorem Tab.get_absent {d : α} {k : Nat} : ∀ {t : Tab α}, (∀ e ∈ t, e.1 ≠ k) → t.get d k = d
  | [], _ => rfl
  | x :: r, h => by
    have hx : x.1 ≠ k := h x (by simp)
    unfold Tab.get
    rw [if_neg hx]
    exact Tab.get_absent (fun e he => h e (by simp [he]))

theorem Tab.get_ins_same {d v : α} {k : Nat} : ∀ {t : Tab α}, (∀ e ∈ t, e.1 ≠ k) → (Tab.ins k v t).get d k = v
  | [], _ => by simp [Tab.ins, Tab.get]
  | x :: r, h => by
    have hx : x.1 ≠ k := h x (by simp)
    unfold Tab.ins
    split
    · simp [Tab.get]
    · simp only [Tab.get]
      rw [if_neg hx]
      exact Tab.get_ins_same (fun e he => h e (by simp [he]))

theorem Tab.get_ins_other {d v : α} {k j : Nat} (hj : j ≠ k) : ∀ {t : Tab α}, (Tab.ins k v t).get d j = t.get d j
  | [] => by simp [Tab.ins, Tab.get, hj.symm]
  | x :: r => by
    unfold Tab.ins
    split
    · simp [Tab.get, hj.symm]
    · simp only [Tab.get]
      rw [Tab.get_ins_other hj]

theorem Tab.get_drop_same {d : α} {k : Nat} (t : Tab α) : (t.drop k).get d k = d :=
  Tab.get_absent (fun e he => by simpa using (List.mem_filter.1 he).2)

theorem Tab.get_drop_other {d : α} {k j : Nat} (hj : j ≠ k) : ∀ (t : Tab α), (t.drop k).get d j = t.get d j
  | [] => rfl
  | x :: r => by
    have ih : (Tab.drop r k).get d j = Tab.get d r j := Tab.get_drop_other hj r
    unfold Tab.drop at ih ⊢
    rw [List.filter_cons]
    split
    · simp only [Tab.get]
      rw [ih]
    next h =>
      have hx : x.1 = k := by simpa using h
      simp only [Tab.get]
      rw [ih, if_neg (by rw [hx]; exact hj.symm)]

/-- A read after a write to the same key gives the value written. -/
@[simp] theorem Tab.get_put_same [DecidableEq α] {d v : α} {k : Nat} (t : Tab α) : (t.put d k v).get d k = v := by
  unfold Tab.put
  split
  next h => rw [h]; exact Tab.get_drop_same t
  · exact Tab.get_ins_same (fun e he => by simpa using (List.mem_filter.1 he).2)

/-- A write leaves every other key alone. -/
theorem Tab.get_put_other [DecidableEq α] {d v : α} {k j : Nat} (hj : j ≠ k) (t : Tab α) : (t.put d k v).get d j = t.get d j := by
  unfold Tab.put
  split
  · exact Tab.get_drop_other hj t
  · rw [Tab.get_ins_other hj]; exact Tab.get_drop_other hj t

@[simp] theorem Tab.get_upd_same [DecidableEq α] {d : α} {k : Nat} (t : Tab α) (g : α → α) :
    (t.upd d k g).get d k = g (t.get d k) := Tab.get_put_same t

theorem Tab.get_upd_other [DecidableEq α] {d : α} {k j : Nat} (hj : j ≠ k) (t : Tab α) (g : α → α) :
    (t.upd d k g).get d j = t.get d j := Tab.get_put_other hj t

/-- A read at any key after a write. -/
theorem Tab.get_put [DecidableEq α] {d v : α} {k j : Nat} (t : Tab α) : (t.put d k v).get d j = if j = k then v else t.get d j := by
  split
  next h => rw [h]; exact Tab.get_put_same t
  next h => exact Tab.get_put_other h t

theorem Tab.get_upd [DecidableEq α] {d : α} {k j : Nat} (t : Tab α) (g : α → α) :
    (t.upd d k g).get d j = if j = k then g (t.get d k) else t.get d j := Tab.get_put t

end Sys2Proof.Machine
end

