-- ==== Sys2Proof/Laws/Memory.lean ====
section
/-!
SUPPORT. The laws of the byte memories: LPDDR6 and the owner memories keep their canonical form under every operation, a byte
string written reads back, and a write leaves every other byte alone.
-/

set_option Elab.async false

namespace Sys2Proof.Machine

theorem writeBytes_wf {t : Tab Byte} {a : Nat} {b : List Byte} (h : Tab.wf (0 : Byte) t = true) :
    Tab.wf (0 : Byte) (writeBytes t a b) = true := by
  induction b generalizing t a with
  | nil => exact h
  | cons x r ih => exact ih (Tab.wf_put a x h)

/-- A write leaves every byte outside it alone. -/
theorem writeBytes_other {t : Tab Byte} {a j : Nat} {b : List Byte} (h : j < a ∨ a + b.length ≤ j) :
    (writeBytes t a b).get 0 j = t.get 0 j := by
  induction b generalizing t a with
  | nil => rfl
  | cons x r ih =>
    rw [List.length_cons] at h
    rw [writeBytes, ih (by omega), Tab.get_put_other (by omega)]

/-- A write gives each byte of it its value. -/
theorem writeBytes_inside {t : Tab Byte} {a k : Nat} {b : List Byte} (h : k < b.length) :
    (writeBytes t a b).get 0 (a + k) = (b[k]?).getD 0 := by
  induction b generalizing t a k with
  | nil => simp at h
  | cons x r ih =>
    rw [writeBytes]
    cases k with
    | zero => rw [writeBytes_other (by omega)]; simp
    | succ n =>
      have e : a + (n + 1) = a + 1 + n := by omega
      rw [e, ih (by simpa using h)]
      simp

theorem writeBytes_fold_wf {l : List (Nat × List Byte)} {t : Tab Byte} (h : Tab.wf (0 : Byte) t = true) :
    Tab.wf (0 : Byte) (l.foldl (fun t w => writeBytes t w.1 w.2) t) = true := by
  induction l generalizing t with
  | nil => exact h
  | cons x r ih => exact ih (writeBytes_wf h)

/-- A store to LPDDR6 leaves every byte outside it alone. -/
theorem MemSt.byte_writeLpd_other {m : MemSt} {a j : Nat} {b : List Byte} (h : j < a ∨ a + b.length ≤ j) :
    (m.writeLpd a b).byte j = m.byte j := by
  show (writeBytes m.bytes a _).get 0 j ^^^ m.rest j = m.bytes.get 0 j ^^^ m.rest j
  rw [writeBytes_other (by simpa using h)]

/-- A store to LPDDR6 gives each byte of it its value, whatever was at rest there. -/
theorem MemSt.byte_writeLpd_inside {m : MemSt} {a k : Nat} {b : List Byte} (h : k < b.length) :
    (m.writeLpd a b).byte (a + k) = b[k] := by
  show (writeBytes m.bytes a _).get 0 (a + k) ^^^ m.rest (a + k) = b[k]
  rw [writeBytes_inside (by simpa using h)]
  simp [h]

/-- A filter by key leaves an entry it keeps as it was. -/
theorem Tab.get_filter {t : Tab Byte} (p : Nat → Bool) {k : Nat} (h : p k = true) :
    Tab.get 0 (t.filter (fun e => p e.1)) k = t.get 0 k := by
  induction t with
  | nil => rfl
  | cons x r ih =>
    by_cases hx : p x.1
    · simp only [List.filter, hx, Tab.get, ih]
    · have n : x.1 ≠ k := fun e => hx (e ▸ h)
      simp only [List.filter, hx, Tab.get, n, if_false, ih]

/-- A filter by key removes an entry it does not keep. -/
theorem Tab.get_filter_out {t : Tab Byte} (p : Nat → Bool) {k : Nat} (h : p k = false) :
    Tab.get 0 (t.filter (fun e => p e.1)) k = 0 := by
  induction t with
  | nil => rfl
  | cons x r ih =>
    by_cases hx : p x.1
    · have n : x.1 ≠ k := fun e => by rw [e, h] at hx; cases hx
      simp only [List.filter, hx, Tab.get, n, if_false, ih]
    · simp only [List.filter, hx, ih]

/-- A range zeroed reads 0, whatever was at rest there. -/
theorem MemSt.byte_zeroLpd_inside {m : MemSt} {a n j : Nat} (h1 : a ≤ j) (h2 : j < a + n) : (m.zeroLpd a n).byte j = 0 := by
  have e1 : (m.zeroLpd a n).bytes.get 0 j = 0 := Tab.get_filter_out (fun x => x < a || a + n ≤ x) (by simp; omega)
  have e2 : (m.zeroLpd a n).rest j = 0 := by
    unfold MemSt.rest
    rw [if_neg]
    simp only [MemSt.zeroLpd, List.any_filter, List.any_flatMap, List.any_eq_true, not_exists]
    intro x hx
    simp at hx
    omega
  unfold MemSt.byte
  rw [e1, e2]
  rfl

/-- Zeroing a range leaves every byte outside it alone. -/
theorem MemSt.byte_zeroLpd_other {m : MemSt} {a n j : Nat} (h : j < a ∨ a + n ≤ j) : (m.zeroLpd a n).byte j = m.byte j := by
  have e1 : (m.zeroLpd a n).bytes.get 0 j = m.bytes.get 0 j := Tab.get_filter (fun x => x < a || a + n ≤ x) (by simp; omega)
  have e2 : (m.zeroLpd a n).rest j = m.rest j := by
    have e : (m.zeroLpd a n).lost.any (fun r => r.1 ≤ j && j < r.2) = m.lost.any (fun r => r.1 ≤ j && j < r.2) := by
      simp only [MemSt.zeroLpd, List.any_filter, List.any_flatMap]
      congr 1
      funext x
      rw [Bool.eq_iff_iff]
      simp
      omega
    unfold MemSt.rest
    rw [e]
    rfl
  unfold MemSt.byte
  rw [e1, e2]

theorem MemSt.wf_iff {m : MemSt} : m.wf = true ↔
    Tab.wf (0 : Byte) m.bytes = true ∧ Tab.wf (0 : Byte) m.hostA = true ∧ Tab.wf (0 : Byte) m.hostB = true := by
  simp [MemSt.wf, and_assoc]

end Sys2Proof.Machine
end

