-- ==== Sys2Proof/Laws/Kept.lean ====
section
/-!
SUPPORT. What every operation keeps. `State.Good` is the well-formedness that holds after reset and that every command keeps; `Kept r s`
says of a state `s` that came from `r`: the queue of commands is untouched, nothing that left the module is taken back, and `Good`
carries over. One lemma for each operation that changes the state stands in the files beside this one; a proof about a command cites
them and unfolds nothing.
-/

set_option Elab.async false

namespace Sys2Proof.Machine

/-- The relation. -/
def Kept (r s : State) : Prop :=
  s.pending = r.pending ∧ (∃ l, s.out = l ++ r.out) ∧ (r.Good → s.Good)

def KeptO (r : State) (o : Option State) : Prop := ∀ t, o = some t → Kept r t
def KeptE {ε : Type} (r : State) (o : Except ε State) : Prop := ∀ t, o = .ok t → Kept r t
def KeptP {α : Type} (r : State) (p : α × State) : Prop := Kept r p.2
def KeptQ {α : Type} (r : State) (p : State × α) : Prop := Kept r p.1
def KeptT (r : State) (o : Out) : Prop := ∀ t, o = .next t → Kept r t
def KeptOQ {α : Type} (r : State) (o : Option (State × α)) : Prop := ∀ t, o = some t → Kept r t.1
def KeptOP {α : Type} (r : State) (o : Option (α × State)) : Prop := ∀ t, o = some t → Kept r t.2
def KeptEP {ε : Type} (r : State) (p : Except ε State × State) : Prop := Kept r p.2 ∧ ∀ t, p.1 = .ok t → Kept r t

theorem Kept.self (s : State) : Kept s s := ⟨rfl, ⟨[], rfl⟩, id⟩
theorem ite_of {α : Type} (P : α → Prop) {a b : α} {c : Prop} [Decidable c] (ha : P a) (hb : P b) : P (if c then a else b) := by
  split <;> assumption
theorem Kept.ite {r a b : State} {c : Prop} [Decidable c] (ha : Kept r a) (hb : Kept r b) : Kept r (if c then a else b) := ite_of (Kept r) ha hb
theorem KeptO.none {r : State} : KeptO r .none := fun _ h => nomatch h
theorem KeptO.some {r s : State} (h : Kept r s) : KeptO r (some s) := fun _ e => by cases e; exact h
theorem KeptE.ok {ε : Type} {r s : State} (h : Kept r s) : KeptE (ε := ε) r (.ok s) := fun _ e => by cases e; exact h
theorem KeptE.error {ε : Type} {r : State} {x : ε} : KeptE r (.error x) := fun _ h => nomatch h
theorem KeptP.mk {α : Type} {r s : State} {a : α} (h : Kept r s) : KeptP r (a, s) := h
theorem KeptQ.mk {α : Type} {r s : State} {a : α} (h : Kept r s) : KeptQ r (s, a) := h
theorem KeptT.next {r s : State} (h : Kept r s) : KeptT r (.next s) := fun _ e => by cases e; exact h
theorem KeptOQ.none {α : Type} {r : State} : KeptOQ (α := α) r .none := fun _ h => nomatch h
theorem KeptOQ.some {α : Type} {r s : State} {a : α} (h : Kept r s) : KeptOQ r (some (s, a)) := fun _ e => by cases e; exact h
theorem KeptOP.none {α : Type} {r : State} : KeptOP (α := α) r .none := fun _ h => nomatch h
theorem KeptOP.some {α : Type} {r s : State} {a : α} (h : Kept r s) : KeptOP r (some (a, s)) := fun _ e => by cases e; exact h
theorem KeptEP.ok {ε : Type} {r s t : State} (h : Kept r t) (k : Kept r s) : KeptEP (ε := ε) r (.ok t, s) := ⟨k, fun _ e => by cases e; exact h⟩
theorem KeptEP.error {ε : Type} {r s : State} {x : ε} (k : Kept r s) : KeptEP r (.error x, s) := ⟨k, fun _ e => nomatch e⟩
theorem KeptO.ite {r : State} {a b : Option State} {c : Prop} [Decidable c] (ha : KeptO r a) (hb : KeptO r b) : KeptO r (if c then a else b) := ite_of (KeptO r) ha hb
theorem KeptE.ite {ε : Type} {r : State} {a b : Except ε State} {c : Prop} [Decidable c] (ha : KeptE r a) (hb : KeptE r b) : KeptE r (if c then a else b) := ite_of (KeptE r) ha hb
theorem KeptP.ite {α : Type} {r : State} {a b : α × State} {c : Prop} [Decidable c] (ha : KeptP r a) (hb : KeptP r b) : KeptP r (if c then a else b) := ite_of (KeptP r) ha hb
theorem KeptQ.ite {α : Type} {r : State} {a b : State × α} {c : Prop} [Decidable c] (ha : KeptQ r a) (hb : KeptQ r b) : KeptQ r (if c then a else b) := ite_of (KeptQ r) ha hb
theorem KeptT.ite {r : State} {a b : Out} {c : Prop} [Decidable c] (ha : KeptT r a) (hb : KeptT r b) : KeptT r (if c then a else b) := ite_of (KeptT r) ha hb
theorem KeptOQ.ite {α : Type} {r : State} {a b : Option (State × α)} {c : Prop} [Decidable c] (ha : KeptOQ r a) (hb : KeptOQ r b) : KeptOQ r (if c then a else b) := ite_of (KeptOQ r) ha hb
theorem KeptOP.ite {α : Type} {r : State} {a b : Option (α × State)} {c : Prop} [Decidable c] (ha : KeptOP r a) (hb : KeptOP r b) : KeptOP r (if c then a else b) := ite_of (KeptOP r) ha hb
theorem KeptEP.ite {ε : Type} {r : State} {a b : Except ε State × State} {c : Prop} [Decidable c] (ha : KeptEP r a) (hb : KeptEP r b) : KeptEP r (if c then a else b) := ite_of (KeptEP r) ha hb
theorem KeptO.elim {r t : State} {o : Option State} (h : KeptO r o) (e : o = Option.some t) : Kept r t := h t e
theorem KeptE.elim {ε : Type} {r t : State} {o : Except ε State} (h : KeptE r o) (e : o = .ok t) : Kept r t := h t e
theorem KeptP.elim {α : Type} {r t : State} {a : α} {p : α × State} (h : KeptP r p) (e : p = (a, t)) : Kept r t := by subst e; exact h
theorem KeptQ.elim {α : Type} {r t : State} {a : α} {p : State × α} (h : KeptQ r p) (e : p = (t, a)) : Kept r t := by subst e; exact h
theorem KeptOQ.elim {α : Type} {r t : State} {a : α} {p : Option (State × α)} (h : KeptOQ r p) (e : p = Option.some (t, a)) : Kept r t := h _ e
theorem KeptOP.elim {α : Type} {r t : State} {a : α} {p : Option (α × State)} (h : KeptOP r p) (e : p = Option.some (a, t)) : Kept r t := h _ e
theorem KeptEP.elim {ε : Type} {r t : State} {a : Except ε State} {p : Except ε State × State} (h : KeptEP r p) (e : p = (a, t)) : Kept r t := by subst e; exact h.1
theorem KeptEP.elimOk {ε : Type} {r t u : State} {p : Except ε State × State} (h : KeptEP r p) (e : p = (.ok u, t)) : Kept r u := by subst e; exact h.2 _ rfl
theorem KeptP.out {α : Type} {r : State} {p : α × State} (h : KeptP r p) : Kept r p.2 := h
theorem KeptQ.out {α : Type} {r : State} {p : State × α} (h : KeptQ r p) : Kept r p.1 := h
theorem KeptEP.out {ε : Type} {r : State} {p : Except ε State × State} (h : KeptEP r p) : Kept r p.2 := h.1
theorem Kept.getD {r s : State} {o : Option State} (h : KeptO r o) (k : Kept r s) : Kept r (o.getD s) := by
  cases o with
  | none => exact k
  | some t => exact h t rfl
theorem Kept.foldl {α : Type} {r s : State} {l : List α} {g : State → α → State} (h : Kept r s)
    (hg : ∀ s a, Kept r s → Kept r (g s a)) : Kept r (l.foldl g s) := by
  induction l generalizing s with
  | nil => exact h
  | cons a l ih => exact ih (hg s a h)
theorem State.forEach_kept {α : Type} {r s : State} {l : List α} {g : State → α → State} (h : Kept r s)
    (hg : ∀ s a, Kept r s → Kept r (g s a)) : Kept r (s.forEach l g) := Kept.foldl h hg
theorem KeptQ.foldl {α β : Type} {r : State} {p : State × β} {l : List α} {g : State × β → α → State × β} (h : KeptQ r p)
    (hg : ∀ p a, KeptQ r p → KeptQ r (g p a)) : KeptQ r (l.foldl g p) := by
  induction l generalizing p with
  | nil => exact h
  | cons a l ih => exact ih (hg p a h)
theorem KeptP.foldl {α β : Type} {r : State} {p : β × State} {l : List α} {g : β × State → α → β × State} (h : KeptP r p)
    (hg : ∀ p a, KeptP r p → KeptP r (g p a)) : KeptP r (l.foldl g p) := by
  induction l generalizing p with
  | nil => exact h
  | cons a l ih => exact ih (hg p a h)
theorem KeptO.map {α : Type} {r : State} {o : Option α} {f : α → State} (h : ∀ p, o = Option.some p → Kept r (f p)) : KeptO r (o.map f) := by
  cases o with
  | none => exact KeptO.none
  | some p => exact KeptO.some (h p rfl)
theorem KeptOQ.map {α β : Type} {r : State} {o : Option α} {f : α → State × β} (h : ∀ p, o = Option.some p → KeptQ r (f p)) : KeptOQ r (o.map f) := by
  cases o with
  | none => exact KeptOQ.none
  | some p => exact fun t e => by cases e; exact h p rfl
theorem KeptOQ.at {α : Type} {r : State} {p : State × α} {o : Option (State × α)} (h : KeptOQ r o) (e : o = Option.some p) : Kept r p.1 := h _ e
theorem KeptOP.at {α : Type} {r : State} {p : α × State} {o : Option (α × State)} (h : KeptOP r o) (e : o = Option.some p) : Kept r p.2 := h _ e

def KeptD (r : State) (a : DopAnswer) : Prop := Kept r a.st
def KeptDE (r : State) (x : Except DopStatus DopAnswer) : Prop := ∀ a, x = .ok a → KeptD r a
theorem KeptD.out {r : State} {a : DopAnswer} (h : KeptD r a) : Kept r a.st := h
theorem KeptD.mk {r s : State} {a : DopStatus} {b : List Byte} {c : Bool} (h : Kept r s) : KeptD r { status := a, data := b, last := c, st := s } := h
theorem KeptD.ite {r : State} {a b : DopAnswer} {c : Prop} [Decidable c] (ha : KeptD r a) (hb : KeptD r b) : KeptD r (if c then a else b) := ite_of (KeptD r) ha hb
theorem KeptDE.ite {r : State} {a b : Except DopStatus DopAnswer} {c : Prop} [Decidable c] (ha : KeptDE r a) (hb : KeptDE r b) : KeptDE r (if c then a else b) := ite_of (KeptDE r) ha hb
theorem KeptDE.ok {r : State} {a : DopAnswer} (h : KeptD r a) : KeptDE r (.ok a) := fun _ e => by cases e; exact h
theorem KeptDE.error {r : State} {x : DopStatus} : KeptDE r (.error x) := fun _ h => nomatch h
theorem KeptDE.elim {r : State} {a : DopAnswer} {x : Except DopStatus DopAnswer} (h : KeptDE r x) (e : x = .ok a) : KeptD r a := h a e
theorem KeptO.foldl {α : Type} {r : State} {p : Option State} {l : List α} {g : Option State → α → Option State} (h : KeptO r p)
    (hg : ∀ p a, KeptO r p → KeptO r (g p a)) : KeptO r (l.foldl g p) := by
  induction l generalizing p with
  | nil => exact h
  | cons a l ih => exact ih (hg p a h)
theorem KeptEP.pair {ε : Type} {r s : State} {x : Except ε State} (h : KeptE r x) (k : Kept r s) : KeptEP r (x, s) := ⟨k, h⟩

end Sys2Proof.Machine
end

