-- ==== Sys2Proof/Laws/Kept1.lean ====
section
/-!
SUPPORT. What the operations and commands of these files keep: Ops, MemOps, MarginTx, FolioOps, CoreOps, NibOps.
-/

set_option Elab.async false

namespace Sys2Proof.Machine

/-! ### Ops -/

theorem State.modPower_kept {r0 : State} {a0 : State} {a1 : Power → Power} (ha0 : Kept r0 a0) : Kept r0 (State.modPower a0 a1) := by
  unfold State.modPower
  exact ha0

theorem State.modBoot_kept {r0 : State} {a0 : State} {a1 : Boot → Boot} (ha0 : Kept r0 a0) : Kept r0 (State.modBoot a0 a1) := by
  unfold State.modBoot
  exact ha0

theorem State.modTime_kept {r0 a0 : State} {a1 : TimeSt → TimeSt} (ha0 : Kept r0 a0)
    (h : ∀ t, t.ns < 1000000000 → (a1 t).ns < 1000000000) : Kept r0 (a0.modTime a1) :=
  ⟨ha0.1, ha0.2.1, fun g => let k := ha0.2.2 g; ⟨k.1, k.2.1, k.2.2.1, k.2.2.2.1, h _ k.2.2.2.2⟩⟩

theorem State.modFolio_kept {r0 : State} {a0 : State} {a1 : FolioSt → FolioSt} (ha0 : Kept r0 a0) : Kept r0 (State.modFolio a0 a1) := by
  unfold State.modFolio
  exact ha0

theorem State.modCodex_kept {r0 : State} {a0 : State} {a1 : CodexSt → CodexSt} (ha0 : Kept r0 a0) : Kept r0 (State.modCodex a0 a1) := by
  unfold State.modCodex
  exact ha0

theorem State.modFaults_kept {r0 a0 : State} {a1 : FaultSt → FaultSt} (ha0 : Kept r0 a0)
    (h : ∀ x, x.events.length ≤ 256 → (a1 x).events.length ≤ 256) : Kept r0 (a0.modFaults a1) :=
  ⟨ha0.1, ha0.2.1, fun g => let k := ha0.2.2 g; ⟨k.1, h _ k.2.1, k.2.2⟩⟩

theorem State.modHatch_kept {r0 : State} {a0 : State} {a1 : HatchSt → HatchSt} (ha0 : Kept r0 a0) : Kept r0 (State.modHatch a0 a1) := by
  unfold State.modHatch
  exact ha0

theorem State.modMem_kept {r0 a0 : State} {a1 : MemSt → MemSt} (ha0 : Kept r0 a0)
    (h : ∀ m, m.wf = true → (a1 m).wf = true) : Kept r0 (a0.modMem a1) :=
  ⟨ha0.1, ha0.2.1, fun g => let k := ha0.2.2 g; ⟨h _ k.1, k.2⟩⟩

theorem State.updFibre_kept {r0 : State} {a0 : State} {a1 : ℕ} {a2 : Fibre → Fibre} (ha0 : Kept r0 a0) : Kept r0 (State.updFibre a0 a1 a2) := by
  unfold State.updFibre
  exact ha0

theorem State.updLane_kept {r0 : State} {a0 : State} {a1 : ℕ} {a2 : ℕ} {a3 : Lane → Lane} (ha0 : Kept r0 a0) : Kept r0 (State.updLane a0 a1 a2 a3) := by
  unfold State.updLane
  refine State.updFibre_kept ?_
  with_reducible assumption

theorem State.updLink_kept {r0 : State} {a0 : State} {a1 : ℕ} {a2 : LinkSt → LinkSt} (ha0 : Kept r0 a0) : Kept r0 (State.updLink a0 a1 a2) := by
  unfold State.updLink
  exact ha0

theorem State.updEngine_kept {r0 : State} {a0 : State} {a1 : ℕ} {a2 : Engine → Engine} (ha0 : Kept r0 a0) : Kept r0 (State.updEngine a0 a1 a2) := by
  unfold State.updEngine
  exact ha0

theorem State.updSource_kept {r0 : State} {a0 : State} {a1 : ℕ} {a2 : ℕ} {a3 : Source → Source} (ha0 : Kept r0 a0) : Kept r0 (State.updSource a0 a1 a2 a3) := by
  unfold State.updSource
  refine State.updEngine_kept ?_
  with_reducible assumption

theorem State.updSlot_kept {r0 : State} {a0 : State} {a1 : ℕ} {a2 : Slot → Slot} (ha0 : Kept r0 a0) : Kept r0 (State.updSlot a0 a1 a2) := by
  unfold State.updSlot
  exact ha0

theorem State.setParam_kept {r0 : State} {a0 : State} {a1 : ℕ} {a2 : ℕ} {a3 : ℕ} (ha0 : Kept r0 a0) : Kept r0 (State.setParam a0 a1 a2 a3) := by
  unfold State.setParam
  exact ha0

theorem State.resetParam_kept {r0 : State} {a0 : State} {a1 : ℕ} {a2 : ℕ} (ha0 : Kept r0 a0) : Kept r0 (State.resetParam a0 a1 a2) := by
  unfold State.resetParam
  refine State.setParam_kept ?_
  with_reducible assumption

theorem State.setFlag_kept {r0 a0 : State} {a1 a2 : Nat} (ha0 : Kept r0 a0) : Kept r0 (a0.setFlag a1 a2) := by
  refine ⟨ha0.1, ha0.2.1, fun g => ?_⟩
  have k := ha0.2.2 g
  refine ⟨k.1, k.2.1, k.2.2.1, ?_, k.2.2.2.2⟩
  show ∀ e ∈ Tab.upd {} a0.flags (objKey a1 1) (fun x => x.set a2), ∀ c ∈ e.2.counts, c.2 ≤ 65535
  refine Tab.all_upd (P := fun x : FlagObj => ∀ c ∈ x.counts, c.2 ≤ 65535) k.2.2.2.1 (fun x hx => ?_) (by intro c h; cases h)
  refine Tab.all_upd (P := fun n => n ≤ 65535) hx (fun n hn => ?_) (Nat.zero_le _)
  split <;> omega

theorem State.setFlagIf_kept {r0 : State} {a0 : State} {a1 : Bool} {a2 : ℕ} {a3 : ℕ} (ha0 : Kept r0 a0) : Kept r0 (State.setFlagIf a0 a1 a2 a3) := by
  unfold State.setFlagIf
  refine Kept.ite ?_ ?_
  · refine State.setFlag_kept ?_
    with_reducible assumption
  · with_reducible assumption

theorem State.clearFlags_kept {r0 a0 : State} {a1 : Nat} {a2 : Word32} (ha0 : Kept r0 a0) : Kept r0 (a0.clearFlags a1 a2) := by
  refine ⟨ha0.1, ha0.2.1, fun g => ?_⟩
  have k := ha0.2.2 g
  refine ⟨k.1, k.2.1, k.2.2.1, ?_, k.2.2.2.2⟩
  show ∀ e ∈ Tab.upd {} a0.flags (objKey a1 1) (fun x => { x with val := x.val &&& ~~~a2 }), ∀ c ∈ e.2.counts, c.2 ≤ 65535
  exact Tab.all_upd (P := fun x : FlagObj => ∀ c ∈ x.counts, c.2 ≤ 65535) k.2.2.2.1 (fun x hx => hx) (by intro c h; cases h)

theorem State.count_kept {r0 a0 : State} {a1 a2 a3 : Nat} (ha0 : Kept r0 a0) : Kept r0 (a0.count a1 a2 a3) := by
  refine ⟨ha0.1, ha0.2.1, fun g => ?_⟩
  have k := ha0.2.2 g
  refine ⟨k.1, k.2.1, ?_, k.2.2.2⟩
  exact Tab.all_upd (P := fun v => v < 2 ^ 64) k.2.2.1 (fun _ _ => Nat.mod_lt _ (by decide)) (by decide)

theorem State.countPort_kept {r0 : State} {a0 : State} {a1 : ℕ} {a2 : ℕ} (ha0 : Kept r0 a0) : Kept r0 (State.countPort a0 a1 a2) := by
  unfold State.countPort
  refine State.count_kept ?_
  with_reducible assumption

theorem State.countFibre_kept {r0 : State} {a0 : State} {a1 : ℕ} {a2 : ℕ} (ha0 : Kept r0 a0) : Kept r0 (State.countFibre a0 a1 a2) := by
  unfold State.countFibre
  refine State.count_kept ?_
  with_reducible assumption

theorem State.countUnit_kept {r0 : State} {a0 : State} {a1 : ℕ} {a2 : ℕ} {a3 : ℕ} (ha0 : Kept r0 a0) : Kept r0 (State.countUnit a0 a1 a2 a3) := by
  unfold State.countUnit
  refine State.count_kept ?_
  with_reducible assumption

theorem State.countMem_kept {r0 : State} {a0 : State} {a1 : ℕ} {a2 : ℕ} (ha0 : Kept r0 a0) : Kept r0 (State.countMem a0 a1 a2) := by
  unfold State.countMem
  refine State.count_kept ?_
  with_reducible assumption

theorem State.countMisc_kept {r0 : State} {a0 : State} {a1 : Misc} {a2 : ℕ} (ha0 : Kept r0 a0) : Kept r0 (State.countMisc a0 a1 a2) := by
  unfold State.countMisc
  exact ha0

theorem State.emit_kept {r0 a0 : State} {a1 : Output} (ha0 : Kept r0 a0) : Kept r0 (a0.emit a1) :=
  ⟨ha0.1, let ⟨l, e⟩ := ha0.2.1; ⟨a1 :: l, by simp [State.emit, e]⟩, ha0.2.2⟩

theorem State.freeBelow_kept {r0 : State} {a0 : State} {a1 : ℕ} (ha0 : Kept r0 a0) : KeptP r0 (State.freeBelow a0 a1) := by
  unfold State.freeBelow
  refine KeptP.mk ?_
  exact ha0

theorem State.free64_kept {r0 : State} {a0 : State} (ha0 : Kept r0 a0) : KeptP r0 (State.free64 a0) := by
  unfold State.free64
  refine State.freeBelow_kept ?_
  with_reducible assumption

theorem State.setDone_kept {r0 : State} {a0 : State} {a1 : ℕ} {a2 : Bool} (ha0 : Kept r0 a0) : Kept r0 (State.setDone a0 a1 a2) := by
  unfold State.setDone
  refine State.modBoot_kept ?_
  with_reducible assumption

theorem State.failCode_kept {r0 : State} {a0 : State} {a1 : ℕ} (ha0 : Kept r0 a0) : Kept r0 (State.failCode a0 a1) := by
  unfold State.failCode
  refine State.modBoot_kept ?_
  with_reducible assumption

theorem State.updUnit_kept {r0 : State} {a0 : State} {a1 : ℕ} {a2 : UnitEntry → UnitEntry} (ha0 : Kept r0 a0) : Kept r0 (State.updUnit a0 a1 a2) := by
  unfold State.updUnit
  refine State.modFaults_kept ?_ ?_
  · with_reducible assumption
  · exact fun _ h => h

theorem State.logEvent_kept {r0 a0 : State} {a1 a2 a3 a4 : Nat} (ha0 : Kept r0 a0) : Kept r0 (a0.logEvent a1 a2 a3 a4) :=
  State.modFaults_kept ha0 (fun x _ => by simp only [List.length_drop, List.length_append, List.length_cons, List.length_nil]; omega)

theorem State.logOpenEvent_kept {r0 : State} {a0 : State} {a1 : ℕ} {a2 : ℕ} {a3 : ℕ} (ha0 : Kept r0 a0) : Kept r0 (State.logOpenEvent a0 a1 a2 a3) := by
  unfold State.logOpenEvent
  split
  refine State.logEvent_kept ?_
  refine KeptP.elim ?_ (by with_reducible assumption)
  refine State.freeBelow_kept ?_
  with_reducible assumption

theorem State.sramEcc_kept {r0 : State} {a0 : State} {a1 : Ecc} {a2 : ℕ} (ha0 : Kept r0 a0) : Kept r0 (State.sramEcc a0 a1 a2) := by
  unfold State.sramEcc
  split
  · with_reducible assumption
  · refine State.updUnit_kept ?_
    refine State.setFlag_kept ?_
    refine State.countMem_kept ?_
    with_reducible assumption
  · split
    refine State.logEvent_kept ?_
    refine State.setFlag_kept ?_
    refine State.countMem_kept ?_
    refine KeptP.elim ?_ (by with_reducible assumption)
    refine State.free64_kept ?_
    with_reducible assumption

/-! ### MemOps -/

theorem State.inkEccAt_kept {r0 : State} {a0 : State} {a1 : ℕ} {a2 : Ecc} (ha0 : Kept r0 a0) : Kept r0 (State.inkEccAt a0 a1 a2) := by
  unfold State.inkEccAt
  extract_lets x0
  split
  · with_reducible assumption
  · refine State.updUnit_kept ?_
    refine State.setFlag_kept ?_
    refine State.countUnit_kept ?_
    with_reducible assumption
  · refine State.logEvent_kept ?_
    refine State.setFlag_kept ?_
    refine State.countUnit_kept ?_
    with_reducible assumption

theorem State.inkEcc_kept {r0 : State} {a0 : State} {a1 : Ecc} {a2 : InkItem} {a3 : ℕ} (ha0 : Kept r0 a0) : Kept r0 (State.inkEcc a0 a1 a2 a3) := by
  unfold State.inkEcc
  extract_lets x0
  refine Kept.ite ?_ ?_
  · with_reducible assumption
  · split
    refine State.inkEccAt_kept ?_
    refine KeptP.elim ?_ (by with_reducible assumption)
    refine State.freeBelow_kept ?_
    with_reducible assumption

theorem State.countLpd_kept {r0 : State} {a0 : State} {a1 : ℕ} {a2 : ℕ} {a3 : ℕ} (ha0 : Kept r0 a0) : Kept r0 (State.countLpd a0 a1 a2 a3) := by
  unfold State.countLpd
  refine State.count_kept ?_
  with_reducible assumption

theorem State.countPages_kept {r0 : State} {a0 : State} {a1 : ℕ} {a2 : ℕ} {a3 : ℕ} (ha0 : Kept r0 a0) : Kept r0 (State.countPages a0 a1 a2 a3) := by
  unfold State.countPages
  refine Kept.foldl ?_ ?_
  · with_reducible assumption
  · intro a0 a1 h2
    extract_lets x3
    refine State.countLpd_kept ?_
    with_reducible assumption

theorem State.lpdUncorrected_kept {r0 : State} {a0 : State} {a1 : ℕ} (ha0 : Kept r0 a0) : Kept r0 (State.lpdUncorrected a0 a1) := by
  unfold State.lpdUncorrected
  refine State.logEvent_kept ?_
  refine State.setFlag_kept ?_
  refine State.countLpd_kept ?_
  with_reducible assumption

theorem State.lpdCorrected_kept {r0 : State} {a0 : State} {a1 : ℕ} (ha0 : Kept r0 a0) : Kept r0 (State.lpdCorrected a0 a1) := by
  unfold State.lpdCorrected
  refine State.updUnit_kept ?_
  refine State.setFlag_kept ?_
  refine State.countLpd_kept ?_
  with_reducible assumption

theorem State.readMem_kept {r0 : State} {a0 : State} {a1 : ℕ} {a2 : ℕ} (ha0 : Kept r0 a0) : KeptP r0 (State.readMem a0 a1 a2) := by
  unfold State.readMem
  extract_lets x0
  have hx0 : Kept r0 x0 := by
    unfold x0
    refine State.countPages_kept ?_
    with_reducible assumption
  refine KeptP.ite ?_ ?_
  · refine KeptP.mk ?_
    with_reducible assumption
  · split
    · refine KeptP.mk ?_
      refine State.lpdUncorrected_kept ?_
      with_reducible assumption
    · refine KeptP.mk ?_
      with_reducible assumption

theorem State.writeMem_kept {r0 a0 : State} {a1 : Nat} {a2 : List Byte} (ha0 : Kept r0 a0) : Kept r0 (a0.writeMem a1 a2) := by
  refine State.modMem_kept (State.countPages_kept ha0) (fun m h => ?_)
  have k := MemSt.wf_iff.1 h
  exact MemSt.wf_iff.2 ⟨writeBytes_wf k.1, k.2⟩

theorem State.fillWait_kept {r0 : State} {a0 : State} (ha0 : Kept r0 a0) : Kept r0 (State.fillWait a0) := by
  unfold State.fillWait
  refine State.setFlag_kept ?_
  refine State.countMem_kept ?_
  with_reducible assumption

theorem State.dmaRead_kept {r0 : State} {a0 : State} {a1 : Domain} {a2 : ℕ} {a3 : ℕ} (ha0 : Kept r0 a0) : KeptP r0 (State.dmaRead a0 a1 a2 a3) := by
  unfold State.dmaRead
  extract_lets x0
  have hx0 : ∀ v1, KeptP r0 (x0 v1) := by
    unfold x0
    intro a2
    split
    · refine KeptP.mk ?_
      refine KeptP.elim ?_ (by with_reducible assumption)
      refine State.readMem_kept ?_
      with_reducible assumption
    · refine KeptP.mk ?_
      refine State.emit_kept ?_
      refine KeptP.elim ?_ (by with_reducible assumption)
      refine State.readMem_kept ?_
      with_reducible assumption
  refine KeptP.ite ?_ ?_
  · refine KeptP.mk ?_
    with_reducible assumption
  · split
    · refine KeptP.mk ?_
      with_reducible assumption
    · refine KeptP.mk ?_
      with_reducible assumption
    · unfold x0
      split
      · refine KeptP.mk ?_
        refine KeptP.elim ?_ (by with_reducible assumption)
        refine State.readMem_kept ?_
        with_reducible assumption
      · refine KeptP.mk ?_
        refine State.emit_kept ?_
        refine KeptP.elim ?_ (by with_reducible assumption)
        refine State.readMem_kept ?_
        with_reducible assumption
    · unfold x0
      split
      · refine KeptP.mk ?_
        refine KeptP.elim ?_ (by with_reducible assumption)
        refine State.readMem_kept ?_
        with_reducible assumption
      · refine KeptP.mk ?_
        refine State.emit_kept ?_
        refine KeptP.elim ?_ (by with_reducible assumption)
        refine State.readMem_kept ?_
        with_reducible assumption

theorem State.dmaWrite_kept {r0 a0 : State} {a1 : Domain} {a2 : Nat} {a3 : List Byte} (ha0 : Kept r0 a0) :
    KeptO r0 (a0.dmaWrite a1 a2 a3) := by
  unfold State.dmaWrite
  refine KeptO.ite KeptO.none ?_
  split
  · refine KeptO.some (State.modMem_kept ha0 (fun m h => ?_))
    have k := MemSt.wf_iff.1 h
    exact MemSt.wf_iff.2 ⟨k.1, writeBytes_wf k.2.1, k.2.2⟩
  · refine KeptO.some (State.modMem_kept ha0 (fun m h => ?_))
    have k := MemSt.wf_iff.1 h
    exact MemSt.wf_iff.2 ⟨k.1, k.2.1, writeBytes_wf k.2.2⟩
  · exact KeptO.some (State.writeMem_kept ha0)

theorem State.quillAccess_kept {r0 : State} {a0 : State} {a1 : QuillAccess} (ha0 : Kept r0 a0) : Kept r0 (State.quillAccess a0 a1) := by
  unfold State.quillAccess
  extract_lets x0 x1
  have hx0 : Kept r0 x0 := by
    unfold x0
    refine State.sramEcc_kept ?_
    with_reducible assumption
  have hx1 : Kept r0 x1 := by
    unfold x1
    refine Kept.ite ?_ ?_
    · refine State.lpdCorrected_kept ?_
      with_reducible assumption
    · with_reducible assumption
  refine Kept.ite ?_ ?_
  · refine State.emit_kept ?_
    with_reducible assumption
  · refine Kept.ite ?_ ?_
    · refine State.writeMem_kept ?_
      with_reducible assumption
    · refine Kept.ite ?_ ?_
      · refine State.emit_kept ?_
        refine State.lpdUncorrected_kept ?_
        with_reducible assumption
      · split
        · refine KeptP.elim ?_ (by with_reducible assumption)
          refine State.readMem_kept ?_
          with_reducible assumption
        · refine State.emit_kept ?_
          refine KeptP.elim ?_ (by with_reducible assumption)
          refine State.readMem_kept ?_
          with_reducible assumption

theorem State.quillWaited_kept {r0 : State} {a0 : State} (ha0 : Kept r0 a0) : Kept r0 (State.quillWaited a0) := by
  unfold State.quillWaited
  extract_lets x0 x1
  refine State.forEach_kept ?_ ?_
  · refine State.modMem_kept ?_ ?_
    · with_reducible assumption
    · exact fun _ h => h
  · intro a2 a3 h4
    refine State.quillAccess_kept ?_
    with_reducible assumption

theorem State.scrubTick_kept {r0 : State} {a0 : State} (ha0 : Kept r0 a0) : Kept r0 (State.scrubTick a0) := by
  unfold State.scrubTick
  refine Kept.ite ?_ ?_
  · refine State.modFaults_kept ?_ ?_
    · with_reducible assumption
    · exact fun _ h => h
  · with_reducible assumption

theorem State.fillTick_kept {r0 : State} {a0 : State} (ha0 : Kept r0 a0) : Kept r0 (State.fillTick a0) := by
  unfold State.fillTick
  refine Kept.ite ?_ ?_
  · refine State.quillWaited_kept ?_
    refine State.modMem_kept ?_ ?_
    · with_reducible assumption
    · exact fun _ h => h
  · with_reducible assumption

/-! ### MarginTx -/

theorem payBack_kept {r0 : State} {a0 : State} {a1 : MarginFrame} (ha0 : Kept r0 a0) : Kept r0 (payBack a0 a1) := by
  unfold payBack
  split
  · with_reducible assumption
  · refine State.updFibre_kept ?_
    with_reducible assumption

theorem relayLost_kept {r0 : State} {a0 : State} {a1 : ℕ} {a2 : MarginFrame} (ha0 : Kept r0 a0) : Kept r0 (relayLost a0 a1 a2) := by
  unfold relayLost
  refine Kept.ite ?_ ?_
  · refine State.countFibre_kept ?_
    refine State.setFlag_kept ?_
    with_reducible assumption
  · with_reducible assumption

theorem transmitMargin_kept {r0 : State} {a0 : State} {a1 : ℕ} {a2 : MarginFrame} (ha0 : Kept r0 a0) : Kept r0 (transmitMargin a0 a1 a2) := by
  unfold transmitMargin
  extract_lets x0 x1 x2
  have hx0 : Kept r0 x0 := by
    unfold x0
    refine payBack_kept ?_
    with_reducible assumption
  have hx2 : Kept r0 x2 := by
    unfold x2
    refine State.updFibre_kept ?_
    with_reducible assumption
  refine State.countFibre_kept ?_
  refine State.emit_kept ?_
  with_reducible assumption

theorem pumpList_kept {r0 : State} {a0 : Nat} {a1 : List MarginFrame} {a2 : State} {a3 : List MarginFrame} (ha2 : Kept r0 a2) :
    KeptQ r0 (pumpList a0 a1 a2 a3) := by
  induction a1 generalizing a2 a3 with
  | nil => exact ha2
  | cons x r ih => exact KeptQ.ite (ih (transmitMargin_kept ha2)) (ih ha2)

theorem pumpMargin_kept {r0 : State} {a0 : State} {a1 : ℕ} (ha0 : Kept r0 a0) : Kept r0 (pumpMargin a0 a1) := by
  unfold pumpMargin
  extract_lets x0
  refine Kept.ite ?_ ?_
  · with_reducible assumption
  · split
    refine State.updFibre_kept ?_
    refine KeptQ.elim ?_ (by with_reducible assumption)
    refine pumpList_kept ?_
    with_reducible assumption

theorem sendMarginFrame_kept {r0 : State} {a0 : State} {a1 : ℕ} {a2 : MarginFrame} (ha0 : Kept r0 a0) : Kept r0 (sendMarginFrame a0 a1 a2) := by
  unfold sendMarginFrame
  extract_lets x0
  refine Kept.ite ?_ ?_
  · refine pumpMargin_kept ?_
    refine State.updFibre_kept ?_
    with_reducible assumption
  · refine Kept.ite ?_ ?_
    · refine transmitMargin_kept ?_
      with_reducible assumption
    · refine relayLost_kept ?_
      refine payBack_kept ?_
      refine State.countMisc_kept ?_
      with_reducible assumption

theorem sendPlain_kept {r0 : State} {a0 : State} {a1 : ℕ} {a2 : ℕ} {a3 : List Byte} (ha0 : Kept r0 a0) : Kept r0 (sendPlain a0 a1 a2 a3) := by
  unfold sendPlain
  refine sendMarginFrame_kept ?_
  with_reducible assumption

theorem sendSeq_kept {r0 : State} {a0 : State} {a1 : ℕ} {a2 : ℕ} {a3 : List Byte} (ha0 : Kept r0 a0) : Kept r0 (sendSeq a0 a1 a2 a3) := by
  unfold sendSeq
  refine sendMarginFrame_kept ?_
  with_reducible assumption

theorem sendAbort_kept {r0 : State} {a0 : State} {a1 : ℕ} {a2 : ℕ} (ha0 : Kept r0 a0) : Kept r0 (sendAbort a0 a1 a2) := by
  unfold sendAbort
  extract_lets x0 x1
  refine State.count_kept ?_
  refine State.emit_kept ?_
  with_reducible assumption

theorem abortAll_kept {r0 : State} {a0 : State} {a1 : ℕ} (ha0 : Kept r0 a0) : Kept r0 (abortAll a0 a1) := by
  unfold abortAll
  refine State.forEach_kept ?_ ?_
  · with_reducible assumption
  · intro a0 a1 h2
    refine sendAbort_kept ?_
    with_reducible assumption

theorem resetMargin_kept {r0 : State} {a0 : State} {a1 : ℕ} (ha0 : Kept r0 a0) : Kept r0 (resetMargin a0 a1) := by
  unfold resetMargin
  extract_lets x0
  refine State.updFibre_kept ?_
  refine State.countMisc_kept ?_
  refine State.forEach_kept ?_ ?_
  · with_reducible assumption
  · intro a1 a2 h3
    refine relayLost_kept ?_
    refine payBack_kept ?_
    with_reducible assumption

/-! ### FolioOps -/

theorem State.updThread_kept {r0 : State} {a0 : State} {a1 : ℕ} {a2 : Thread → Thread} (ha0 : Kept r0 a0) : Kept r0 (State.updThread a0 a1 a2) := by
  unfold State.updThread
  extract_lets x0
  exact ha0

theorem State.updNib_kept {r0 : State} {a0 : State} {a1 : ℕ} {a2 : Nib → Nib} (ha0 : Kept r0 a0) : Kept r0 (State.updNib a0 a1 a2) := by
  unfold State.updNib
  exact ha0

theorem State.updCtx_kept {r0 : State} {a0 : State} {a1 : ℕ} {a2 : ℕ} {a3 : Ctx → Ctx} (ha0 : Kept r0 a0) : Kept r0 (State.updCtx a0 a1 a2 a3) := by
  unfold State.updCtx
  refine State.updNib_kept ?_
  with_reducible assumption

theorem State.countNib_kept {r0 : State} {a0 : State} {a1 : ℕ} {a2 : ℕ} {a3 : ℕ} (ha0 : Kept r0 a0) : Kept r0 (State.countNib a0 a1 a2 a3) := by
  unfold State.countNib
  refine State.count_kept ?_
  with_reducible assumption

theorem State.hist_kept {r0 a0 : State} {a1 : Nat} {a2 a3 a4 : Option Nat} {a5 : Nat} (ha0 : Kept r0 a0) :
    Kept r0 (a0.hist a1 a2 a3 a4 a5) := by
  unfold State.hist
  refine State.forEach_kept ha0 (fun s h hs => ?_)
  dsimp only
  refine Kept.ite ?_ hs
  have hc := State.count_kept (a1 := 0x7600 + h) (a2 := 0x22) (a3 := a5) (State.count_kept (a1 := 0x7600 + h) (a2 := 0x21) (a3 := 1)
    (State.count_kept (a1 := 0x7600 + h) (a2 := 1 + histBin (bits (s.param 0x2453 (1 + h)) 59 50) a5) (a3 := 1) hs))
  refine Kept.ite ⟨hc.1, hc.2.1, fun g => let k := hc.2.2 g; ⟨k.1, k.2.1, ?_, k.2.2.2⟩⟩ hc
  exact Tab.all_put (P := fun v => v < 2 ^ 64) k.2.2.1 (Nat.lt_of_le_of_lt (Nat.min_le_right _ _) (by decide))

theorem State.storeSample_kept {r0 : State} {a0 : State} {a1 : ℕ} {a2 : List Byte} (ha0 : Kept r0 a0) : Kept r0 (State.storeSample a0 a1 a2) := by
  unfold State.storeSample
  refine Kept.ite ?_ ?_
  · refine State.modFolio_kept ?_
    with_reducible assumption
  · refine State.setFlag_kept ?_
    refine State.countNib_kept ?_
    with_reducible assumption

theorem State.sampleAs_kept {r0 : State} {a0 : State} {a1 : ℕ} {a2 : ℕ} {a3 : ℕ} {a4 : List Byte} (ha0 : Kept r0 a0) : Kept r0 (State.sampleAs a0 a1 a2 a3 a4) := by
  unfold State.sampleAs
  extract_lets x0 x1
  refine Kept.ite ?_ ?_
  · with_reducible assumption
  · refine Kept.ite ?_ ?_
    · refine Kept.ite ?_ ?_
      · refine State.updNib_kept ?_
        with_reducible assumption
      · refine State.countNib_kept ?_
        with_reducible assumption
    · refine Kept.ite ?_ ?_
      · refine Kept.ite ?_ ?_
        · refine State.updNib_kept ?_
          refine State.modFolio_kept ?_
          with_reducible assumption
        · refine State.modFolio_kept ?_
          with_reducible assumption
      · with_reducible assumption

theorem State.sampleEvent_kept {r0 : State} {a0 : State} {a1 : ℕ} {a2 : ℕ} {a3 : ℕ} {a4 : ℕ} {a5 : ℕ} (ha0 : Kept r0 a0) : Kept r0 (State.sampleEvent a0 a1 a2 a3 a4 a5) := by
  unfold State.sampleEvent
  refine State.sampleAs_kept ?_
  with_reducible assumption

theorem State.sampleChunk_kept {r0 : State} {a0 : State} {a1 : ℕ} {a2 : ℕ} {a3 : ℕ} {a4 : ℕ} (ha0 : Kept r0 a0) : Kept r0 (State.sampleChunk a0 a1 a2 a3 a4) := by
  unfold State.sampleChunk
  refine Kept.ite ?_ ?_
  · with_reducible assumption
  · split
    split
    split
    refine State.sampleAs_kept ?_
    refine KeptP.elim ?_ (by with_reducible assumption)
    refine State.freeBelow_kept ?_
    refine KeptP.elim ?_ (by with_reducible assumption)
    refine State.freeBelow_kept ?_
    refine KeptP.elim ?_ (by with_reducible assumption)
    refine State.freeBelow_kept ?_
    with_reducible assumption

theorem State.sampleRow_kept {r0 : State} {a0 : State} {a1 : ℕ} {a2 : RowCause} {a3 : ℕ} {a4 : ℕ} (ha0 : Kept r0 a0) : Kept r0 (State.sampleRow a0 a1 a2 a3 a4) := by
  unfold State.sampleRow
  split
  · refine State.sampleEvent_kept ?_
    with_reducible assumption
  · refine State.sampleChunk_kept ?_
    with_reducible assumption
  · with_reducible assumption

theorem State.samplePeriod_kept {r0 : State} {a0 : State} {a1 : ℕ} (ha0 : Kept r0 a0) : Kept r0 (State.samplePeriod a0 a1) := by
  unfold State.samplePeriod
  extract_lets x0 x1
  refine Kept.ite ?_ ?_
  · with_reducible assumption
  · refine Kept.ite ?_ ?_
    · refine State.updNib_kept ?_
      refine State.modFolio_kept ?_
      with_reducible assumption
    · refine State.modFolio_kept ?_
      with_reducible assumption

/-! ### CoreOps -/

theorem State.modCore_kept {r0 : State} {a0 : State} {a1 : CoreSt → CoreSt} (ha0 : Kept r0 a0) : Kept r0 (State.modCore a0 a1) := by
  unfold State.modCore
  exact ha0

theorem State.modDuctus_kept {r0 : State} {a0 : State} {a1 : DuctusSt → DuctusSt} (ha0 : Kept r0 a0) : Kept r0 (State.modDuctus a0 a1) := by
  unfold State.modDuctus
  exact ha0

theorem State.modTables_kept {r0 : State} {a0 : State} {a1 : TablesSt → TablesSt} (ha0 : Kept r0 a0) : Kept r0 (State.modTables a0 a1) := by
  unfold State.modTables
  exact ha0

theorem State.offer_kept {r0 : State} {a0 : State} {a1 : Offer} (ha0 : Kept r0 a0) : Kept r0 (State.offer a0 a1) := by
  unfold State.offer
  refine State.modCore_kept ?_
  with_reducible assumption

theorem State.returnCredit_kept {r0 : State} {a0 : State} {a1 : ℕ} {a2 : Option (ℕ × ℕ)} (ha0 : Kept r0 a0) : Kept r0 (State.returnCredit a0 a1 a2) := by
  unfold State.returnCredit
  split
  · refine Kept.ite ?_ ?_
    · refine State.updFibre_kept ?_
      with_reducible assumption
    · refine State.updLink_kept ?_
      with_reducible assumption
  · with_reducible assumption

theorem State.admitted_kept {r0 : State} {a0 : State} {a1 : Origin} (ha0 : Kept r0 a0) : Kept r0 (State.admitted a0 a1) := by
  unfold State.admitted
  extract_lets x0
  split
  · with_reducible assumption
  · exact ha0
  · exact ha0
  · refine State.hist_kept ?_
    with_reducible assumption

theorem State.endCopy_kept {r0 : State} {a0 : State} {a1 : ℕ} {a2 : ℕ} (ha0 : Kept r0 a0) : Kept r0 (State.endCopy a0 a1 a2) := by
  unfold State.endCopy
  refine State.modCore_kept ?_
  with_reducible assumption

theorem State.pounced_kept {r0 : State} {a0 : State} {a1 : ℕ} (ha0 : Kept r0 a0) : Kept r0 (State.pounced a0 a1) := by
  unfold State.pounced
  refine State.setFlag_kept ?_
  refine State.countMem_kept ?_
  with_reducible assumption

theorem State.destDown_kept {r0 : State} {a0 : State} (ha0 : Kept r0 a0) : Kept r0 (State.destDown a0) := by
  unfold State.destDown
  refine State.setFlag_kept ?_
  refine State.countMem_kept ?_
  with_reducible assumption

theorem State.dropOffer_kept {r0 : State} {a0 : State} {a1 : Offer} (ha0 : Kept r0 a0) : Kept r0 (State.dropOffer a0 a1) := by
  unfold State.dropOffer
  refine State.returnCredit_kept ?_
  refine State.modCore_kept ?_
  with_reducible assumption

theorem State.store_kept {r0 : State} {a0 : State} {a1 : Offer} (ha0 : Kept r0 a0) : Kept r0 (State.store a0 a1) := by
  unfold State.store
  extract_lets x0 x1 x2 x3 x4 x5
  refine Kept.ite ?_ ?_
  · refine State.setFlag_kept ?_
    refine State.countMem_kept ?_
    with_reducible assumption
  · refine Kept.ite ?_ ?_
    · refine State.destDown_kept ?_
      with_reducible assumption
    · refine State.modCore_kept ?_
      with_reducible assumption

theorem State.dropVoq_kept {r0 : State} {a0 : State} {a1 : Voq} (ha0 : Kept r0 a0) : Kept r0 (State.dropVoq a0 a1) := by
  unfold State.dropVoq
  refine State.endCopy_kept ?_
  refine State.modCore_kept ?_
  with_reducible assumption

theorem State.dropQueued_kept {r0 : State} {a0 : State} {a1 : ℕ} (ha0 : Kept r0 a0) : Kept r0 (State.dropQueued a0 a1) := by
  unfold State.dropQueued
  refine State.modCore_kept ?_
  with_reducible assumption

theorem State.pounceSources_kept {r0 a0 : State} {a1 : Nat} (ha0 : Kept r0 a0) : Kept r0 (a0.pounceSources a1) := by
  induction a1 generalizing a0 with
  | zero => exact ha0
  | succ n ih =>
    unfold State.pounceSources
    split
    · exact ih (State.pounced_kept (State.dropQueued_kept ha0))
    · exact ha0

theorem State.reviewReady_kept {r0 : State} {a0 : State} {a1 : ℕ} {a2 : ℕ} (ha0 : Kept r0 a0) : Kept r0 (State.reviewReady a0 a1 a2) := by
  unfold State.reviewReady
  extract_lets x0
  refine State.modCore_kept ?_
  with_reducible assumption

theorem State.reviewUnit_kept {r0 : State} {a0 : State} {a1 : ℕ} (ha0 : Kept r0 a0) : Kept r0 (State.reviewUnit a0 a1) := by
  unfold State.reviewUnit
  extract_lets x0
  refine State.modCore_kept ?_
  with_reducible assumption

theorem State.sendCell_kept {r0 : State} {a0 : State} {a1 : Voq} {a2 : ℕ} {a3 : ℕ} (ha0 : Kept r0 a0) : Kept r0 (State.sendCell a0 a1 a2 a3) := by
  unfold State.sendCell
  extract_lets x0 x1 x2 x3 x4 x5 x6 x7
  have hx4 : Kept r0 x4 := by
    unfold x4
    refine Kept.ite ?_ ?_
    · refine State.hist_kept ?_
      with_reducible assumption
    · with_reducible assumption
  have hx5 : Kept r0 x5 := by
    unfold x5
    refine State.modCore_kept ?_
    with_reducible assumption
  have hx6 : Kept r0 x6 := by
    unfold x6
    refine State.countUnit_kept ?_
    with_reducible assumption
  have hx7 : Kept r0 x7 := by
    unfold x7
    refine Kept.ite ?_ ?_
    · refine State.countUnit_kept ?_
      with_reducible assumption
    · with_reducible assumption
  refine Kept.ite ?_ ?_
  · refine State.pounceSources_kept ?_
    with_reducible assumption
  · with_reducible assumption

theorem slotPass_kept {r0 : State} {a0 : ℕ} {a1 : ℕ} {a2 : List SlotRec} {a3 : State} {a4 : Lanes} (ha3 : Kept r0 a3) : KeptQ r0 (slotPass a0 a1 a2 a3 a4) := by
  unfold slotPass
  refine KeptQ.foldl ?_ ?_
  · refine KeptQ.mk ?_
    with_reducible assumption
  · intro a0 a1 h2
    split
    split
    · refine KeptQ.mk ?_
      refine State.sendCell_kept ?_
      exact h2
    · refine KeptQ.mk ?_
      exact h2

theorem drrNext_kept {r0 : State} {a0 : State} {a1 : ℕ} {a2 : List ℕ} (ha0 : Kept r0 a0) : KeptP r0 (drrNext a0 a1 a2) := by
  unfold drrNext
  extract_lets x0 x1 x2 x3
  refine KeptP.ite ?_ ?_
  · refine KeptP.mk ?_
    with_reducible assumption
  · refine KeptP.mk ?_
    refine State.modCore_kept ?_
    with_reducible assumption

theorem grantsOf_kept {r0 : State} {a0 : Nat → Nat} {a1 : Nat} {a2 : List Grant} {a3 : Nat} {a4 a5 : List Grant} {a6 : State}
    (ha6 : Kept r0 a6) : KeptP r0 (grantsOf a0 a1 a2 a3 a4 a5 a6) := by
  induction a3 generalizing a5 a6 with
  | zero => exact ha6
  | succ n ih =>
    unfold grantsOf
    dsimp only
    refine KeptP.ite ha6 ?_
    have hp (q : List Nat) : Kept r0 (if q.contains 0 then (0, a6) else if q.contains 7 then (7, a6) else drrNext a6 a1 q).2 :=
      KeptP.ite (KeptP.mk ha6) (KeptP.ite (KeptP.mk ha6) (drrNext_kept ha6))
    split
    · exact ih (Kept.ite (State.modCore_kept (hp _)) (hp _))
    · exact hp _

theorem matchIter_kept {r0 : State} {a0 : ℕ} {a1 : ℕ} {a2 : List ℕ} {a3 : Tab ℕ} {a4 : Bool} {a5 : State} {a6 : Lanes} (ha5 : Kept r0 a5) : KeptQ r0 (matchIter a0 a1 a2 a3 a4 a5 a6) := by
  unfold matchIter
  extract_lets x0 x1 x2 x3 x4
  split
  extract_lets x5 x6
  refine KeptQ.foldl ?_ ?_
  · refine KeptQ.mk ?_
    refine KeptP.elim ?_ (by with_reducible assumption)
    refine KeptP.foldl ?_ ?_
    · refine KeptP.mk ?_
      with_reducible assumption
    · intro a7 a8 h9
      split
      split
      refine KeptP.mk ?_
      refine KeptP.elim ?_ (by with_reducible assumption)
      refine grantsOf_kept ?_
      exact h9
  · intro a10 a11 h12
    extract_lets x13
    split
    split
    · extract_lets x14 x15
      have hx14 : Kept r0 x14 := by
        unfold x14
        refine State.sendCell_kept ?_
        exact h12
      have hx15 : Kept r0 x15 := by
        unfold x15
        refine Kept.ite ?_ ?_
        · refine State.modCore_kept ?_
          with_reducible assumption
        · with_reducible assumption
      refine KeptQ.ite ?_ ?_
      · refine KeptQ.mk ?_
        refine State.setFlag_kept ?_
        refine State.countMem_kept ?_
        with_reducible assumption
      · refine KeptQ.mk ?_
        with_reducible assumption
    · refine KeptQ.mk ?_
      exact h12

theorem planeMatch_kept {r0 : State} {a0 : ℕ} {a1 : ℕ} {a2 : List SlotRec} {a3 : State} {a4 : Tab ℕ} (ha3 : Kept r0 a3) : KeptQ r0 (planeMatch a0 a1 a2 a3 a4) := by
  unfold planeMatch
  extract_lets x0
  split
  split
  split
  split
  refine KeptQ.mk ?_
  refine KeptQ.elim ?_ (by with_reducible assumption)
  refine matchIter_kept ?_
  refine KeptQ.elim ?_ (by with_reducible assumption)
  refine matchIter_kept ?_
  refine KeptQ.elim ?_ (by with_reducible assumption)
  refine matchIter_kept ?_
  refine KeptQ.elim ?_ (by with_reducible assumption)
  refine slotPass_kept ?_
  with_reducible assumption

theorem State.restorePlanes_kept {r0 : State} {a0 : State} {a1 : ℕ} (ha0 : Kept r0 a0) : Kept r0 (State.restorePlanes a0 a1) := by
  unfold State.restorePlanes
  refine Kept.ite ?_ ?_
  · refine State.modCore_kept ?_
    with_reducible assumption
  · with_reducible assumption

theorem State.creditWaits_kept {r0 : State} {a0 : State} (ha0 : Kept r0 a0) : Kept r0 (State.creditWaits a0) := by
  unfold State.creditWaits
  refine State.forEach_kept ?_ ?_
  · with_reducible assumption
  · intro a0 a1 h2
    refine Kept.ite ?_ ?_
    · refine State.countPort_kept ?_
      with_reducible assumption
    · with_reducible assumption

theorem State.taken_kept {r0 : State} {a0 : State} {a1 : ℕ} {a2 : Stored} (ha0 : Kept r0 a0) : Kept r0 (State.taken a0 a1 a2) := by
  unfold State.taken
  refine Kept.ite ?_ ?_
  · refine State.emit_kept ?_
    with_reducible assumption
  · with_reducible assumption

theorem State.unitsTake_kept {r0 : State} {a0 : State} {a1 : ℕ} (ha0 : Kept r0 a0) : Kept r0 (State.unitsTake a0 a1) := by
  unfold State.unitsTake
  refine State.forEach_kept ?_ ?_
  · with_reducible assumption
  · intro a0 a1 h2
    extract_lets x3
    split
    · with_reducible assumption
    · extract_lets x4
      have hx4 : Kept r0 x4 := by
        unfold x4
        refine State.modCore_kept ?_
        with_reducible assumption
      refine State.reviewUnit_kept ?_
      refine Kept.foldl ?_ ?_
      · with_reducible assumption
      · intro a5 a6 h7
        refine State.taken_kept ?_
        with_reducible assumption

theorem State.cellTime_kept {r0 : State} {a0 : State} {a1 : ℕ} (ha0 : Kept r0 a0) : Kept r0 (State.cellTime a0 a1) := by
  unfold State.cellTime
  extract_lets x0 x1 x2 x3
  have hx0 : Kept r0 x0 := by
    unfold x0
    refine State.pounceSources_kept ?_
    refine State.unitsTake_kept ?_
    refine State.restorePlanes_kept ?_
    with_reducible assumption
  have hx3 : KeptQ r0 x3 := by
    unfold x3
    refine KeptQ.foldl ?_ ?_
    · refine KeptQ.mk ?_
      with_reducible assumption
    · intro a4 a5 h6
      refine KeptQ.ite ?_ ?_
      · with_reducible assumption
      · refine planeMatch_kept ?_
        refine KeptQ.out (p := ?_) ?_
        with_reducible assumption
  refine State.creditWaits_kept ?_
  refine State.modCore_kept ?_
  refine KeptQ.out (p := ?_) ?_
  with_reducible assumption

theorem State.updContext_kept {r0 : State} {a0 : State} {a1 : ℕ} {a2 : ℕ} {a3 : Reseq → Reseq} (ha0 : Kept r0 a0) : Kept r0 (State.updContext a0 a1 a2 a3) := by
  unfold State.updContext
  refine State.modCore_kept ?_
  with_reducible assumption

theorem State.carryOut_kept {r0 : State} {a0 : State} {a1 : Stored} {a2 : ℕ} (ha0 : Kept r0 a0) : Kept r0 (State.carryOut a0 a1 a2) := by
  unfold State.carryOut
  refine sendSeq_kept ?_
  with_reducible assumption

theorem State.handOn_kept {r0 : State} {a0 : State} {a1 : ℕ} {a2 : ℕ} (ha0 : Kept r0 a0) : Kept r0 (State.handOn a0 a1 a2) := by
  unfold State.handOn
  extract_lets x0
  have hx0 : Kept r0 x0 := by
    unfold x0
    refine State.endCopy_kept ?_
    with_reducible assumption
  split
  · with_reducible assumption
  · extract_lets x1 x2 x3 x4 x5 x6
    have hx1 : Kept r0 x1 := by
      unfold x1
      refine State.modCore_kept ?_
      with_reducible assumption
    have hx4 : Kept r0 x4 := by
      unfold x4
      refine Kept.ite ?_ ?_
      · refine State.destDown_kept ?_
        with_reducible assumption
      · with_reducible assumption
    have hx5 : Kept r0 x5 := by
      unfold x5
      refine State.modCore_kept ?_
      with_reducible assumption
    have hx6 : Kept r0 x6 := by
      unfold x6
      refine Kept.foldl ?_ ?_
      · with_reducible assumption
      · intro a7 a8 h9
        refine State.reviewReady_kept ?_
        with_reducible assumption
    refine Kept.ite ?_ ?_
    · refine Kept.ite ?_ ?_
      · refine State.pounced_kept ?_
        with_reducible assumption
      · refine Kept.ite ?_ ?_
        · refine State.reviewUnit_kept ?_
          with_reducible assumption
        · with_reducible assumption
    · refine Kept.ite ?_ ?_
      · refine State.endCopy_kept ?_
        refine State.carryOut_kept ?_
        with_reducible assumption
      · refine State.endCopy_kept ?_
        with_reducible assumption

theorem State.loseFrame_kept {r0 : State} {a0 : State} {a1 : ℕ} {a2 : ℕ} {a3 : ℕ} (ha0 : Kept r0 a0) : Kept r0 (State.loseFrame a0 a1 a2 a3) := by
  unfold State.loseFrame
  refine State.endCopy_kept ?_
  refine State.updContext_kept ?_
  with_reducible assumption

theorem State.deliverCell_kept {r0 : State} {a0 : State} {a1 : ℕ} {a2 : ℕ} {a3 : Cell} (ha0 : Kept r0 a0) : Kept r0 (State.deliverCell a0 a1 a2 a3) := by
  unfold State.deliverCell
  extract_lets x0 x1 x2 x3
  have hx3 : Kept r0 x3 := by
    unfold x3
    refine State.updContext_kept ?_
    with_reducible assumption
  clear_value x2
  split
  · refine State.loseFrame_kept ?_
    with_reducible assumption
  · refine Kept.ite ?_ ?_
    · split
      · refine Kept.ite ?_ ?_
        · refine State.handOn_kept ?_
          with_reducible assumption
        · refine State.endCopy_kept ?_
          with_reducible assumption
      · with_reducible assumption
    · refine State.updContext_kept ?_
      with_reducible assumption

theorem State.deliverHeld_kept {r0 a0 : State} {a1 a2 a3 : Nat} (ha0 : Kept r0 a0) : Kept r0 (a0.deliverHeld a1 a2 a3) := by
  induction a3 generalizing a0 with
  | zero => exact ha0
  | succ n ih =>
    unfold State.deliverHeld
    dsimp only
    split
    · exact State.updContext_kept ha0
    · exact ih (State.deliverCell_kept (State.updContext_kept ha0))

theorem State.loseCell_kept {r0 : State} {a0 : State} {a1 : Cell} (ha0 : Kept r0 a0) : Kept r0 (State.loseCell a0 a1) := by
  unfold State.loseCell
  refine State.modCore_kept ?_
  with_reducible assumption

theorem State.passGone_kept {r0 : State} {a0 : State} {a1 : ℕ} {a2 : ℕ} {a3 : ℕ} (ha0 : Kept r0 a0) : Kept r0 (State.passGone a0 a1 a2 a3) := by
  unfold State.passGone
  extract_lets x0 x1 x2 x3
  have hx3 : Kept r0 x3 := by
    unfold x3
    refine State.modCore_kept ?_
    with_reducible assumption
  refine Kept.foldl ?_ ?_
  · with_reducible assumption
  · intro a4 a5 h6
    refine State.loseFrame_kept ?_
    with_reducible assumption

theorem State.declareLoss_kept {r0 : State} {a0 : State} {a1 : ℕ} {a2 : ℕ} (ha0 : Kept r0 a0) : Kept r0 (State.declareLoss a0 a1 a2) := by
  unfold State.declareLoss
  extract_lets x0
  split
  · with_reducible assumption
  · extract_lets x1 x2 x3
    have hx1 : Kept r0 x1 := by
      unfold x1
      refine State.setFlag_kept ?_
      refine State.countMem_kept ?_
      with_reducible assumption
    have hx2 : Kept r0 x2 := by
      unfold x2
      refine State.passGone_kept ?_
      refine Kept.foldl ?_ ?_
      · with_reducible assumption
      · intro a4 a5 h6
        refine State.loseFrame_kept ?_
        with_reducible assumption
    have hx3 : Kept r0 x3 := by
      unfold x3
      refine State.updContext_kept ?_
      with_reducible assumption
    refine State.deliverHeld_kept ?_
    with_reducible assumption

theorem State.resequence_kept {r0 : State} {a0 : State} {a1 : ℕ} {a2 : Cell} (ha0 : Kept r0 a0) : Kept r0 (State.resequence a0 a1 a2) := by
  unfold State.resequence
  extract_lets x0 x1 x2 x3 x4 x5
  have hx3 : Kept r0 x3 := by
    unfold x3
    refine State.updContext_kept ?_
    with_reducible assumption
  have hx4 : Kept r0 x4 := by
    unfold x4
    refine State.updContext_kept ?_
    with_reducible assumption
  have hx5 : Kept r0 x5 := by
    unfold x5
    refine State.setFlag_kept ?_
    refine State.countMem_kept ?_
    with_reducible assumption
  refine Kept.ite ?_ ?_
  · refine State.deliverHeld_kept ?_
    refine State.deliverCell_kept ?_
    with_reducible assumption
  · refine Kept.ite ?_ ?_
    · refine Kept.ite ?_ ?_
      · split
        · refine State.declareLoss_kept ?_
          with_reducible assumption
        · with_reducible assumption
      · with_reducible assumption
    · refine Kept.ite ?_ ?_
      · refine State.loseCell_kept ?_
        with_reducible assumption
      · refine State.loseFrame_kept ?_
        with_reducible assumption

theorem State.planeOut_kept {r0 : State} {a0 : State} {a1 : ℕ} (ha0 : Kept r0 a0) : Kept r0 (State.planeOut a0 a1) := by
  unfold State.planeOut
  extract_lets x0 x1 x2 x3
  have hx2 : Kept r0 x2 := by
    unfold x2
    refine State.setFlag_kept ?_
    refine State.setFlag_kept ?_
    with_reducible assumption
  refine State.modCore_kept ?_
  with_reducible assumption

theorem dropLinkQueues_kept {r0 : State} {a0 : State} {a1 : ℕ} (ha0 : Kept r0 a0) : Kept r0 (dropLinkQueues a0 a1) := by
  unfold dropLinkQueues
  extract_lets x0 x1 x2 x3
  have hx1 : Kept r0 x1 := by
    unfold x1
    refine Kept.foldl ?_ ?_
    · with_reducible assumption
    · intro a4 a5 h6
      refine State.destDown_kept ?_
      refine State.dropVoq_kept ?_
      with_reducible assumption
  have hx3 : Kept r0 x3 := by
    unfold x3
    refine State.modCore_kept ?_
    with_reducible assumption
  refine Kept.foldl ?_ ?_
  · with_reducible assumption
  · intro a7 a8 h9
    refine State.destDown_kept ?_
    refine State.endCopy_kept ?_
    with_reducible assumption

theorem dropTc0_kept {r0 : State} {a0 : State} {a1 : Bool} (ha0 : Kept r0 a0) : Kept r0 (dropTc0 a0 a1) := by
  unfold dropTc0
  extract_lets x0
  refine Kept.foldl ?_ ?_
  · with_reducible assumption
  · intro a1 a2 h3
    refine State.setFlag_kept ?_
    refine State.countUnit_kept ?_
    refine State.dropVoq_kept ?_
    with_reducible assumption

/-! ### NibOps -/

theorem State.nibFlag_kept {r0 : State} {a0 : State} {a1 : ℕ} {a2 : ℕ} (ha0 : Kept r0 a0) : Kept r0 (State.nibFlag a0 a1 a2) := by
  unfold State.nibFlag
  refine State.setFlag_kept ?_
  with_reducible assumption

theorem State.updRow_kept {r0 : State} {a0 : State} {a1 : ℕ} {a2 : ℕ} {a3 : ℕ} {a4 : Row → Row} (ha0 : Kept r0 a0) : Kept r0 (State.updRow a0 a1 a2 a3 a4) := by
  unfold State.updRow
  refine State.updNib_kept ?_
  with_reducible assumption

theorem State.evictRow_kept {r0 : State} {a0 : State} {a1 : ℕ} {a2 : RowCause} {a3 : Row} (ha0 : Kept r0 a0) : KeptO r0 (State.evictRow a0 a1 a2 a3) := by
  unfold State.evictRow
  extract_lets x0
  have hx0 : Kept r0 x0 := by
    unfold x0
    refine State.countNib_kept ?_
    refine State.nibFlag_kept ?_
    refine State.updRow_kept ?_
    with_reducible assumption
  refine KeptO.ite ?_ ?_
  · refine KeptO.some ?_
    refine State.sampleRow_kept ?_
    with_reducible assumption
  · refine KeptO.none

theorem State.getBlocks_kept {r0 a0 : State} {a1 : Nat} {a2 : RowCause} {a3 a4 a5 a6 : Nat} (ha0 : Kept r0 a0) :
    KeptOQ r0 (a0.getBlocks a1 a2 a3 a4 a5 a6) := by
  induction a6 generalizing a0 with
  | zero => exact KeptOQ.none
  | succ n ih =>
    unfold State.getBlocks
    split
    · exact KeptOQ.some ha0
    · split
      · exact KeptOQ.none
      · split
        · exact ih (KeptO.elim (State.evictRow_kept ha0) (by assumption))
        · exact KeptOQ.none

theorem State.getQuarter_kept {r0 a0 : State} {a1 : Nat} {a2 : RowCause} {a3 a4 a5 : Nat} (ha0 : Kept r0 a0) :
    KeptOQ r0 (a0.getQuarter a1 a2 a3 a4 a5) := by
  induction a5 generalizing a0 with
  | zero => exact KeptOQ.none
  | succ n ih =>
    unfold State.getQuarter
    split
    · exact KeptOQ.some ha0
    · exact KeptOQ.some ha0
    · split
      · exact KeptOQ.none
      · split
        · exact ih (KeptO.elim (State.evictRow_kept ha0) (by assumption))
        · exact KeptOQ.none

theorem State.rowBlocks_kept {r0 : State} {a0 : State} {a1 : ℕ} {a2 : RowCause} {a3 : Row} (ha0 : Kept r0 a0) : KeptOQ r0 (State.rowBlocks a0 a1 a2 a3) := by
  unfold State.rowBlocks
  refine KeptOQ.ite ?_ ?_
  · refine State.getQuarter_kept ?_
    with_reducible assumption
  · refine KeptOQ.map ?_
    intro a0 h1
    refine KeptQ.mk ?_
    refine KeptQ.out (p := ?_) ?_
    refine KeptOQ.elim ?_ (by with_reducible assumption)
    refine State.getBlocks_kept ?_
    with_reducible assumption

theorem State.bringRow_kept {r0 : State} {a0 : State} {a1 : ℕ} {a2 : RowCause} {a3 : Row} (ha0 : Kept r0 a0) : KeptO r0 (State.bringRow a0 a1 a2 a3) := by
  unfold State.bringRow
  split
  · refine KeptO.ite ?_ ?_
    · refine KeptO.some ?_
      with_reducible assumption
    · refine KeptO.map ?_
      intro a0 h1
      refine State.countNib_kept ?_
      refine State.nibFlag_kept ?_
      refine State.updRow_kept ?_
      refine KeptQ.out (p := ?_) ?_
      refine KeptOQ.elim ?_ (by with_reducible assumption)
      refine State.rowBlocks_kept ?_
      with_reducible assumption
  · refine KeptO.map ?_
    intro a2 h3
    refine State.updNib_kept ?_
    refine KeptQ.out (p := ?_) ?_
    refine KeptOQ.elim ?_ (by with_reducible assumption)
    refine State.rowBlocks_kept ?_
    with_reducible assumption

theorem State.widen_kept {r0 : State} {a0 : State} {a1 : ℕ} {a2 : RowCause} {a3 : ℕ} {a4 : ℕ} (ha0 : Kept r0 a0) : KeptO r0 (State.widen a0 a1 a2 a3 a4) := by
  unfold State.widen
  refine KeptO.map ?_
  intro a0 h1
  extract_lets x2
  have hx2 : Kept r0 x2 := by
    unfold x2
    refine State.nibFlag_kept ?_
    refine State.updRow_kept ?_
    refine KeptQ.out (p := ?_) ?_
    refine KeptOQ.elim ?_ (by with_reducible assumption)
    refine State.getBlocks_kept ?_
    with_reducible assumption
  refine State.sampleRow_kept ?_
  refine State.countNib_kept ?_
  with_reducible assumption

theorem State.addRow_kept {r0 : State} {a0 : State} {a1 : ℕ} {a2 : RowCause} {a3 : Row} {a4 : List (ℕ × Num)} (ha0 : Kept r0 a0) : KeptO r0 (State.addRow a0 a1 a2 a3 a4) := by
  unfold State.addRow
  split
  · refine KeptO.none
  · split
    · refine KeptO.none
    · extract_lets x0 x1 x2
      have hx2 : Kept r0 x2 := by
        unfold x2
        refine State.updRow_kept ?_
        refine KeptO.elim ?_ (by with_reducible assumption)
        refine State.bringRow_kept ?_
        with_reducible assumption
      split
      · refine KeptO.none
      · extract_lets x3
        refine KeptO.some ?_
        refine State.countNib_kept ?_
        refine State.updRow_kept ?_
        refine KeptO.elim ?_ (by with_reducible assumption)
        refine KeptO.ite ?_ ?_
        · refine KeptO.some ?_
          with_reducible assumption
        · refine State.widen_kept ?_
          with_reducible assumption

theorem State.addTerms_kept {r0 a0 : State} {a1 a2 a3 : Nat} {a4 : List Num} {a5 a6 : Bool} {a7 : RowCause} (ha0 : Kept r0 a0) :
    KeptE r0 (a0.addTerms a1 a2 a3 a4 a5 a6 a7) := by
  unfold State.addTerms
  refine KeptE.ite KeptE.error ?_
  dsimp only
  split
  next e =>
    refine KeptE.ok (KeptO.elim (KeptO.foldl (KeptO.some (State.updNib_kept ha0)) (fun p r h => ?_)) e)
    split
    · exact KeptO.none
    · exact State.addRow_kept (KeptO.elim h rfl)
  · exact KeptE.error

theorem State.freeRows_kept {r0 : State} {a0 : State} {a1 : ℕ} {a2 : ℕ} (ha0 : Kept r0 a0) : Kept r0 (State.freeRows a0 a1 a2) := by
  unfold State.freeRows
  refine State.updNib_kept ?_
  with_reducible assumption

theorem State.elemValues_kept {r0 : State} {a0 : State} {a1 : ℕ} {a2 : ℕ} {a3 : ℕ} {a4 : ℕ} (ha0 : Kept r0 a0) : KeptP r0 (State.elemValues a0 a1 a2 a3 a4) := by
  unfold State.elemValues
  refine KeptP.foldl ?_ ?_
  · refine KeptP.mk ?_
    with_reducible assumption
  · intro a0 a1 h2
    extract_lets x3
    split
    · extract_lets x4
      refine KeptP.ite ?_ ?_
      · split
        refine KeptP.mk ?_
        refine KeptP.elim ?_ (by with_reducible assumption)
        refine State.freeBelow_kept ?_
        refine KeptP.out (p := ?_) ?_
        with_reducible assumption
      · refine KeptP.mk ?_
        refine KeptP.out (p := ?_) ?_
        with_reducible assumption
    · refine KeptP.mk ?_
      refine KeptP.out (p := ?_) ?_
      with_reducible assumption

theorem State.convFlags_kept {r0 : State} {a0 : State} {a1 : ℕ} {a2 : ℕ} {a3 : ℕ} (ha0 : Kept r0 a0) : Kept r0 (State.convFlags a0 a1 a2 a3) := by
  unfold State.convFlags
  extract_lets x0
  have hx0 : Kept r0 x0 := by
    unfold x0
    refine Kept.ite ?_ ?_
    · with_reducible assumption
    · refine State.nibFlag_kept ?_
      refine State.countNib_kept ?_
      with_reducible assumption
  refine Kept.ite ?_ ?_
  · with_reducible assumption
  · refine State.nibFlag_kept ?_
    refine State.countNib_kept ?_
    with_reducible assumption

end Sys2Proof.Machine
end

