-- ==== Sys2Proof/Laws/Kept2.lean ====
section
/-!
SUPPORT. What the operations and commands of these files keep: RingOps, Frames, Dop, TableOps, CollOps.
-/

set_option Elab.async false

namespace Sys2Proof.Machine

/-! ### RingOps -/

theorem State.modHost_kept {r0 : State} {a0 : State} {a1 : HostSt → HostSt} (ha0 : Kept r0 a0) : Kept r0 (State.modHost a0 a1) := by
  unfold State.modHost
  exact ha0

theorem State.updRing_kept {r0 : State} {a0 : State} {a1 : ℕ} {a2 : CmdRing → CmdRing} (ha0 : Kept r0 a0) : Kept r0 (State.updRing a0 a1 a2) := by
  unfold State.updRing
  refine State.modHost_kept ?_
  with_reducible assumption

theorem State.updFunc_kept {r0 : State} {a0 : State} {a1 : ℕ} {a2 : Function → Function} (ha0 : Kept r0 a0) : Kept r0 (State.updFunc a0 a1 a2) := by
  unfold State.updFunc
  refine State.modHost_kept ?_
  with_reducible assumption

theorem State.updPort_kept {r0 : State} {a0 : State} {a1 : Bool} {a2 : Port → Port} (ha0 : Kept r0 a0) : Kept r0 (State.updPort a0 a1 a2) := by
  unfold State.updPort
  refine State.modHost_kept ?_
  with_reducible assumption

theorem State.countHost_kept {r0 : State} {a0 : State} {a1 : Domain} {a2 : ℕ} (ha0 : Kept r0 a0) : Kept r0 (State.countHost a0 a1 a2) := by
  unfold State.countHost
  split
  · refine State.countUnit_kept ?_
    with_reducible assumption
  · refine State.countUnit_kept ?_
    with_reducible assumption
  · with_reducible assumption

theorem State.reviewVector_kept {r0 : State} {a0 : State} {a1 : ℕ} {a2 : ℕ} (ha0 : Kept r0 a0) : Kept r0 (State.reviewVector a0 a1 a2) := by
  unfold State.reviewVector
  extract_lets x0
  refine Kept.ite ?_ ?_
  · refine State.countHost_kept ?_
    refine State.updFunc_kept ?_
    refine State.emit_kept ?_
    with_reducible assumption
  · with_reducible assumption

theorem State.hostEvent_kept {r0 : State} {a0 : State} {a1 : ℕ} {a2 : ℕ} (ha0 : Kept r0 a0) : Kept r0 (State.hostEvent a0 a1 a2) := by
  unfold State.hostEvent
  refine State.reviewVector_kept ?_
  refine State.updFunc_kept ?_
  with_reducible assumption

theorem State.reviewRing_kept {r0 : State} {a0 : State} {a1 : ℕ} (ha0 : Kept r0 a0) : Kept r0 (State.reviewRing a0 a1) := by
  unfold State.reviewRing
  extract_lets x0
  refine Kept.ite ?_ ?_
  · with_reducible assumption
  · refine State.reviewVector_kept ?_
    with_reducible assumption

theorem State.haltRing_kept {r0 : State} {a0 : State} {a1 : ℕ} {a2 : ℕ} (ha0 : Kept r0 a0) : Kept r0 (State.haltRing a0 a1 a2) := by
  unfold State.haltRing
  extract_lets x0 x1
  have hx0 : Kept r0 x0 := by
    unfold x0
    refine State.updRing_kept ?_
    with_reducible assumption
  refine Kept.ite ?_ ?_
  · with_reducible assumption
  · refine State.reviewRing_kept ?_
    refine Kept.ite ?_ ?_
    · refine State.countHost_kept ?_
      refine State.hostEvent_kept ?_
      with_reducible assumption
    · refine State.hostEvent_kept ?_
      with_reducible assumption

theorem State.dmaError_kept {r0 : State} {a0 : State} {a1 : ℕ} (ha0 : Kept r0 a0) : Kept r0 (State.dmaError a0 a1) := by
  unfold State.dmaError
  extract_lets x0
  refine State.countHost_kept ?_
  refine State.hostEvent_kept ?_
  with_reducible assumption

theorem State.countCp_kept {r0 : State} {a0 : State} {a1 : ℕ} (ha0 : Kept r0 a0) : Kept r0 (State.countCp a0 a1) := by
  unfold State.countCp
  refine State.countUnit_kept ?_
  with_reducible assumption

theorem State.completeDesc_kept {r0 : State} {a0 : State} {a1 : ℕ} {a2 : ℕ} {a3 : ℕ} {a4 : ℕ} {a5 : ℕ} (ha0 : Kept r0 a0) : Kept r0 (State.completeDesc a0 a1 a2 a3 a4 a5) := by
  unfold State.completeDesc
  extract_lets x0 x1
  have hx0 : Kept r0 x0 := by
    unfold x0
    refine State.updRing_kept ?_
    with_reducible assumption
  split
  · with_reducible assumption
  · extract_lets x2 x3 x4
    have hx3 : Kept r0 x3 := by
      unfold x3
      split
      · refine KeptO.elim ?_ (by with_reducible assumption)
        refine State.dmaWrite_kept ?_
        with_reducible assumption
      · refine State.dmaError_kept ?_
        with_reducible assumption
    have hx4 : Kept r0 x4 := by
      unfold x4
      refine State.updRing_kept ?_
      with_reducible assumption
    refine Kept.ite ?_ ?_
    · with_reducible assumption
    · refine State.reviewRing_kept ?_
      refine State.countHost_kept ?_
      refine State.countCp_kept ?_
      with_reducible assumption

theorem State.completeAny_kept {r0 : State} {a0 : State} {a1 : ℕ} {a2 : ℕ} {a3 : ℕ} (ha0 : Kept r0 a0) : Kept r0 (State.completeAny a0 a1 a2 a3) := by
  unfold State.completeAny
  split
  · refine State.completeDesc_kept ?_
    with_reducible assumption
  · with_reducible assumption

/-! ### Frames -/

theorem State.vftRejected_kept {r0 : State} {a0 : State} {a1 : ℕ} {a2 : ℕ} (ha0 : Kept r0 a0) : Kept r0 (State.vftRejected a0 a1 a2) := by
  unfold State.vftRejected
  extract_lets x0 x1
  have hx0 : Kept r0 x0 := by
    unfold x0
    refine State.setFlag_kept ?_
    refine State.countFibre_kept ?_
    refine State.countFibre_kept ?_
    with_reducible assumption
  have hx1 : Kept r0 x1 := by
    unfold x1
    refine State.modTables_kept ?_
    with_reducible assumption
  refine State.setFlagIf_kept ?_
  with_reducible assumption

/-! ### Dop -/

theorem dopFlags_kept {r0 : State} {a0 : State} {a1 : DopStatus} (ha0 : Kept r0 a0) : Kept r0 (dopFlags a0 a1) := by
  unfold dopFlags
  split
  · refine State.setFlag_kept ?_
    with_reducible assumption
  · refine State.setFlag_kept ?_
    with_reducible assumption
  · refine State.setFlag_kept ?_
    with_reducible assumption
  · refine State.setFlag_kept ?_
    with_reducible assumption
  · with_reducible assumption

theorem dopSend_kept {r0 : State} {a0 : State} {a1 : DopSrc} {a2 : List Byte} (ha0 : Kept r0 a0) : Kept r0 (dopSend a0 a1 a2) := by
  unfold dopSend
  split
  · refine sendSeq_kept ?_
    with_reducible assumption
  · split
    · extract_lets x0
      have hx0 : Kept r0 x0 := by
        unfold x0
        refine State.updFunc_kept ?_
        with_reducible assumption
      refine State.hostEvent_kept ?_
      refine State.emit_kept ?_
      with_reducible assumption
    · refine State.emit_kept ?_
      with_reducible assumption

theorem dopRespond_kept {r0 : State} {a0 : State} {a1 : DopReq} {a2 : DopStatus} {a3 : Bool} {a4 : List Byte} (ha0 : Kept r0 a0) : Kept r0 (dopRespond a0 a1 a2 a3 a4) := by
  unfold dopRespond
  extract_lets x0 x1 x2
  have hx1 : Kept r0 x1 := by
    unfold x1
    refine dopFlags_kept ?_
    with_reducible assumption
  have hx2 : Kept r0 x2 := by
    unfold x2
    refine dopSend_kept ?_
    with_reducible assumption
  refine Kept.ite ?_ ?_
  · refine State.modCodex_kept ?_
    with_reducible assumption
  · with_reducible assumption

theorem State.dopArrives_kept {r0 : State} {a0 : State} {a1 : DopSrc} (ha0 : Kept r0 a0) : Kept r0 (State.dopArrives a0 a1) := by
  unfold State.dopArrives
  split
  · refine Kept.ite ?_ ?_
    · with_reducible assumption
    · refine State.countFibre_kept ?_
      refine State.updFibre_kept ?_
      with_reducible assumption
  · with_reducible assumption

theorem dopServe_kept {r0 : State} {a0 : State} {a1 : DopReq} {a2 : ℕ → Except DopStatus DopAnswer} (ha0 : Kept r0 a0) (ha2 : ∀ v0, KeptDE r0 (a2 v0)) : Kept r0 (dopServe a0 a1 a2) := by
  unfold dopServe
  refine Kept.ite ?_ ?_
  · with_reducible assumption
  · refine Kept.ite ?_ ?_
    · refine State.setFlag_kept ?_
      with_reducible assumption
    · split
      · refine State.setFlag_kept ?_
        refine State.emit_kept ?_
        with_reducible assumption
      · split
        · refine dopRespond_kept ?_
          with_reducible assumption
        · split
          · refine dopRespond_kept ?_
            with_reducible assumption
          · refine dopRespond_kept ?_
            refine KeptD.out ?_
            refine KeptDE.elim ?_ (by with_reducible assumption)
            refine ha2 _

theorem dopWriteAct_kept {r0 : State} {a0 : DopReq} {a1 : ℕ → Except DopStatus State} {a2 : ℕ} (ha1 : ∀ v0, KeptE r0 (a1 v0)) : KeptDE r0 (dopWriteAct a0 a1 a2) := by
  unfold dopWriteAct
  split
  · refine KeptDE.error
  · split
    · refine KeptDE.error
    · refine KeptDE.ok ?_
      refine KeptD.mk ?_
      refine KeptE.elim ?_ (by with_reducible assumption)
      refine ha1 _

theorem serveWrite_kept {r0 : State} {a0 : State} {a1 : Req} {a2 : ℕ} {a3 : ℕ} {a4 : ℕ} {a5 : State → ℕ → Except DopStatus State} (ha0 : Kept r0 a0) (ha5 : ∀ v0 v1, Kept r0 v0 → KeptE r0 (a5 v0 v1)) : Kept r0 (serveWrite a0 a1 a2 a3 a4 a5) := by
  unfold serveWrite
  extract_lets x0 x1
  have hx1 : Kept r0 x1 := by
    unfold x1
    refine State.dopArrives_kept ?_
    with_reducible assumption
  refine dopServe_kept ?_ ?_
  · with_reducible assumption
  · intro a2
    refine dopWriteAct_kept ?_
    intro a3
    refine ha5 _ _ ?_
    with_reducible assumption

/-! ### TableOps -/

theorem State.countPipe_kept {r0 : State} {a0 : State} {a1 : ℕ} {a2 : ℕ} (ha0 : Kept r0 a0) : Kept r0 (State.countPipe a0 a1 a2) := by
  unfold State.countPipe
  refine State.countUnit_kept ?_
  with_reducible assumption

theorem State.tableFlag_kept {r0 : State} {a0 : State} {a1 : ℕ} (ha0 : Kept r0 a0) : Kept r0 (State.tableFlag a0 a1) := by
  unfold State.tableFlag
  refine State.setFlag_kept ?_
  with_reducible assumption

theorem State.writeLoc_kept {r0 : State} {a0 : State} {a1 : ℕ} {a2 : ℕ} (ha0 : Kept r0 a0) : Kept r0 (State.writeLoc a0 a1 a2) := by
  unfold State.writeLoc
  refine State.modTables_kept ?_
  with_reducible assumption

theorem State.parity_kept {r0 : State} {a0 : State} {a1 : ℕ} {a2 : ℕ} {a3 : ℕ} (ha0 : Kept r0 a0) : Kept r0 (State.parity a0 a1 a2 a3) := by
  unfold State.parity
  extract_lets x0
  have hx0 : Kept r0 x0 := by
    unfold x0
    refine State.sramEcc_kept ?_
    refine State.tableFlag_kept ?_
    refine State.countPipe_kept ?_
    with_reducible assumption
  refine State.modTables_kept ?_
  with_reducible assumption

theorem State.setExact_kept {r0 : State} {a0 : State} {a1 : ℕ} {a2 : Option Exact} (ha0 : Kept r0 a0) : Kept r0 (State.setExact a0 a1 a2) := by
  unfold State.setExact
  refine State.writeLoc_kept ?_
  refine State.modTables_kept ?_
  with_reducible assumption

theorem State.lostLoc_kept {r0 : State} {a0 : State} {a1 : ℕ} {a2 : ℕ} {a3 : ℕ} (ha0 : Kept r0 a0) : Kept r0 (State.lostLoc a0 a1 a2 a3) := by
  unfold State.lostLoc
  extract_lets x0 x1 x2
  have hx0 : Kept r0 x0 := by
    unfold x0
    refine State.logEvent_kept ?_
    refine State.tableFlag_kept ?_
    refine State.countPipe_kept ?_
    with_reducible assumption
  have hx2 : Kept r0 x2 := by
    unfold x2
    split
    · refine State.setExact_kept ?_
      refine Kept.ite ?_ ?_
      · split
        refine State.logEvent_kept ?_
        refine KeptP.elim ?_ (by with_reducible assumption)
        refine State.free64_kept ?_
        with_reducible assumption
      · with_reducible assumption
    · refine State.modTables_kept ?_
      with_reducible assumption
    · refine State.modTables_kept ?_
      with_reducible assumption
    · with_reducible assumption
  refine State.writeLoc_kept ?_
  with_reducible assumption

theorem State.repairLoc_kept {r0 : State} {a0 : State} {a1 : ℕ} {a2 : ℕ} {a3 : ℕ} {a4 : BitVec 8} (ha0 : Kept r0 a0) : Kept r0 (State.repairLoc a0 a1 a2 a3 a4) := by
  unfold State.repairLoc
  extract_lets x0 x1
  have hx0 : Kept r0 x0 := by
    unfold x0
    refine State.modTables_kept ?_
    with_reducible assumption
  refine Kept.ite ?_ ?_
  · refine State.modTables_kept ?_
    with_reducible assumption
  · refine State.lostLoc_kept ?_
    with_reducible assumption

theorem State.repair_kept {r0 : State} {a0 : State} {a1 : BitVec 8} (ha0 : Kept r0 a0) : Kept r0 (State.repair a0 a1) := by
  unfold State.repair
  split
  · with_reducible assumption
  · refine State.repairLoc_kept ?_
    with_reducible assumption

theorem State.repairFirst_kept {r0 : State} {a0 : State} {a1 : ℕ} {a2 : ℕ} (ha0 : Kept r0 a0) : Kept r0 (State.repairFirst a0 a1 a2) := by
  unfold State.repairFirst
  refine State.forEach_kept ?_ ?_
  · with_reducible assumption
  · intro a0 a1 h2
    refine State.repairLoc_kept ?_
    with_reducible assumption

theorem State.putExact_kept {r0 : State} {a0 : State} {a1 : ℕ} {a2 : Option Exact} (ha0 : Kept r0 a0) : Kept r0 (State.putExact a0 a1 a2) := by
  unfold State.putExact
  refine State.setExact_kept ?_
  refine State.repairFirst_kept ?_
  with_reducible assumption

theorem State.stepLfsr_kept {r0 : State} {a0 : State} (ha0 : Kept r0 a0) : Kept r0 (State.stepLfsr a0) := by
  unfold State.stepLfsr
  split
  refine State.modTables_kept ?_
  refine KeptP.elim ?_ (by with_reducible assumption)
  refine State.freeBelow_kept ?_
  with_reducible assumption

theorem relocate_kept {r0 : State} {a0 a1 : Nat} {a2 a3 : List Nat} {a4 : State} (ha4 : Kept r0 a4) :
    KeptP r0 (relocate a0 a1 a2 a3 a4) := by
  induction a0 generalizing a1 a2 a3 a4 with
  | zero => exact ha4
  | succ n ih =>
    unfold relocate
    dsimp only
    have h := State.stepLfsr_kept ha4
    split
    · exact h
    · split
      · exact h
      · exact ih h

theorem runPath_kept {r0 a0 : State} {a1 : List Nat} {a2 : Nat} (ha0 : Kept r0 a0) : Kept r0 (runPath a0 a1 a2) := by
  induction a1 with
  | nil => exact ha0
  | cons x r ih => exact State.putExact_kept (State.putExact_kept ih)

theorem State.evict_kept {r0 : State} {a0 : State} {a1 : ℕ} {a2 : ℕ} (ha0 : Kept r0 a0) : Kept r0 (State.evict a0 a1 a2) := by
  unfold State.evict
  extract_lets x0
  have hx0 : Kept r0 x0 := by
    unfold x0
    refine State.putExact_kept ?_
    with_reducible assumption
  split
  · with_reducible assumption
  · extract_lets x1
    have hx1 : Kept r0 x1 := by
      unfold x1
      refine State.modTables_kept ?_
      with_reducible assumption
    refine State.tableFlag_kept ?_
    refine State.countPipe_kept ?_
    with_reducible assumption

theorem State.victim_kept {r0 : State} {a0 : State} {a1 : ℕ} (ha0 : Kept r0 a0) : KeptP r0 (State.victim a0 a1) := by
  unfold State.victim
  extract_lets x0 x1 x2
  refine KeptP.ite ?_ ?_
  · refine KeptP.mk ?_
    with_reducible assumption
  · refine KeptP.ite ?_ ?_
    · refine KeptP.mk ?_
      refine State.stepLfsr_kept ?_
      with_reducible assumption
    · refine KeptP.mk ?_
      with_reducible assumption

theorem State.insertExact_kept {r0 : State} {a0 : State} {a1 : ℕ} {a2 : Exact} {a3 : Bool} (ha0 : Kept r0 a0) : KeptEP r0 (State.insertExact a0 a1 a2 a3) := by
  unfold State.insertExact
  split
  · refine KeptEP.ok ?_ ?_
    · refine State.putExact_kept ?_
      with_reducible assumption
    · with_reducible assumption
  · split
    split
    · extract_lets x0
      have hx0 : Kept r0 x0 := by
        unfold x0
        refine runPath_kept ?_
        refine KeptP.elim ?_ (by with_reducible assumption)
        refine relocate_kept ?_
        with_reducible assumption
      refine KeptEP.ok ?_ ?_
      · refine State.putExact_kept ?_
        with_reducible assumption
      · refine KeptP.elim ?_ (by with_reducible assumption)
        refine relocate_kept ?_
        with_reducible assumption
    · refine KeptEP.ite ?_ ?_
      · refine KeptEP.error ?_
        refine KeptP.elim ?_ (by with_reducible assumption)
        refine relocate_kept ?_
        with_reducible assumption
      · split
        split
        · refine KeptEP.ok ?_ ?_
          · refine State.putExact_kept ?_
            refine State.evict_kept ?_
            refine KeptP.elim ?_ (by with_reducible assumption)
            refine State.victim_kept ?_
            refine KeptP.elim ?_ (by with_reducible assumption)
            refine relocate_kept ?_
            with_reducible assumption
          · refine KeptP.elim ?_ (by with_reducible assumption)
            refine State.victim_kept ?_
            refine KeptP.elim ?_ (by with_reducible assumption)
            refine relocate_kept ?_
            with_reducible assumption
        · refine KeptEP.error ?_
          refine KeptP.elim ?_ (by with_reducible assumption)
          refine State.victim_kept ?_
          refine KeptP.elim ?_ (by with_reducible assumption)
          refine relocate_kept ?_
          with_reducible assumption

theorem State.writeTrie_kept {r0 : State} {a0 : State} {a1 : TablesSt → TablesSt} (ha0 : Kept r0 a0) : Kept r0 (State.writeTrie a0 a1) := by
  unfold State.writeTrie
  extract_lets x0 x1 x2
  have hx2 : Kept r0 x2 := by
    unfold x2
    refine State.forEach_kept ?_ ?_
    · with_reducible assumption
    · intro a3 a4 h5
      refine State.repairFirst_kept ?_
      with_reducible assumption
  refine State.forEach_kept ?_ ?_
  · refine State.modTables_kept ?_
    with_reducible assumption
  · intro a6 a7 h8
    refine State.writeLoc_kept ?_
    with_reducible assumption

theorem State.addPrefix_kept {r0 : State} {a0 : State} {a1 : Prefix} (ha0 : Kept r0 a0) : KeptE r0 (State.addPrefix a0 a1) := by
  unfold State.addPrefix
  extract_lets x0 x1 x2
  refine KeptE.ite ?_ ?_
  · refine KeptE.error
  · refine KeptE.ite ?_ ?_
    · refine KeptE.ok ?_
      refine State.writeTrie_kept ?_
      with_reducible assumption
    · refine KeptE.ite ?_ ?_
      · refine KeptE.error
      · refine KeptE.ok ?_
        refine State.writeTrie_kept ?_
        with_reducible assumption

theorem State.deletePrefix_kept {r0 : State} {a0 : State} {a1 : Bool} {a2 : ℕ} {a3 : ℕ} (ha0 : Kept r0 a0) : KeptE r0 (State.deletePrefix a0 a1 a2 a3) := by
  unfold State.deletePrefix
  extract_lets x0
  refine KeptE.ite ?_ ?_
  · refine KeptE.ok ?_
    refine State.writeTrie_kept ?_
    with_reducible assumption
  · refine KeptE.error

theorem State.repairKey_kept {r0 : State} {a0 : State} {a1 : ℕ} (ha0 : Kept r0 a0) : Kept r0 (State.repairKey a0 a1) := by
  unfold State.repairKey
  refine State.forEach_kept ?_ ?_
  · with_reducible assumption
  · intro a0 a1 h2
    refine State.repairFirst_kept ?_
    with_reducible assumption

theorem State.opInsert_kept {r0 : State} {a0 : State} {a1 : ℕ} (ha0 : Kept r0 a0) : KeptEP r0 (State.opInsert a0 a1) := by
  unfold State.opInsert
  extract_lets x0 x1 x2
  have hx1 : Kept r0 x1 := by
    unfold x1
    refine State.repairKey_kept ?_
    with_reducible assumption
  split
  · refine KeptEP.ite ?_ ?_
    · refine KeptEP.ok ?_ ?_
      · refine State.putExact_kept ?_
        with_reducible assumption
      · with_reducible assumption
    · refine KeptEP.error ?_
      with_reducible assumption
  · refine State.insertExact_kept ?_
    with_reducible assumption

theorem State.opDelete_kept {r0 : State} {a0 : State} {a1 : ℕ} (ha0 : Kept r0 a0) : KeptEP r0 (State.opDelete a0 a1) := by
  unfold State.opDelete
  extract_lets x0
  have hx0 : Kept r0 x0 := by
    unfold x0
    refine State.repairKey_kept ?_
    with_reducible assumption
  split
  · refine KeptEP.ok ?_ ?_
    · refine State.putExact_kept ?_
      with_reducible assumption
    · with_reducible assumption
  · refine KeptEP.error ?_
    with_reducible assumption

theorem State.opModify_kept {r0 : State} {a0 : State} {a1 : ℕ} (ha0 : Kept r0 a0) : KeptEP r0 (State.opModify a0 a1) := by
  unfold State.opModify
  extract_lets x0
  have hx0 : Kept r0 x0 := by
    unfold x0
    refine State.repairKey_kept ?_
    with_reducible assumption
  split
  · refine KeptEP.ok ?_ ?_
    · refine State.putExact_kept ?_
      with_reducible assumption
    · with_reducible assumption
  · refine KeptEP.error ?_
    with_reducible assumption

theorem State.opNextHop_kept {r0 : State} {a0 : State} {a1 : ℕ} (ha0 : Kept r0 a0) : KeptEP r0 (State.opNextHop a0 a1) := by
  unfold State.opNextHop
  extract_lets x0 x1
  refine KeptEP.ok ?_ ?_
  · refine State.writeLoc_kept ?_
    refine State.modTables_kept ?_
    refine State.repairFirst_kept ?_
    with_reducible assumption
  · with_reducible assumption

theorem State.opVlan_kept {r0 : State} {a0 : State} {a1 : ℕ} (ha0 : Kept r0 a0) : KeptEP r0 (State.opVlan a0 a1) := by
  unfold State.opVlan
  extract_lets x0 x1 x2 x3 x4
  have hx2 : Kept r0 x2 := by
    unfold x2
    refine State.repairFirst_kept ?_
    with_reducible assumption
  refine KeptEP.ok ?_ ?_
  · refine State.writeLoc_kept ?_
    refine State.modTables_kept ?_
    with_reducible assumption
  · with_reducible assumption

theorem State.opEnded_kept {r0 : State} {a0 : Except TableErr State × State} (ha0 : KeptEP r0 a0) : Kept r0 (State.opEnded a0) := by
  unfold State.opEnded
  split
  · exact State.modTables_kept (ha0.2 _ (by assumption))
  · exact State.modTables_kept ha0.1

theorem tableCommand_kept {r0 : State} {a0 : State} {a1 : ℕ} (ha0 : Kept r0 a0) : KeptE r0 (tableCommand a0 a1) := by
  unfold tableCommand
  extract_lets x0 x1 x2 x3
  refine KeptE.ite ?_ ?_
  · refine KeptE.error
  · refine KeptE.ite ?_ ?_
    · refine KeptE.error
    · refine KeptE.ite ?_ ?_
      · refine KeptE.ok ?_
        refine State.modTables_kept ?_
        with_reducible assumption
      · refine KeptE.ite ?_ ?_
        · refine KeptE.error
        · refine KeptE.ok ?_
          refine State.modTables_kept ?_
          with_reducible assumption

theorem State.applyLearn_kept {r0 : State} {a0 : State} {a1 : LearnReq} (ha0 : Kept r0 a0) : Kept r0 (State.applyLearn a0 a1) := by
  unfold State.applyLearn
  split
  · refine Kept.ite ?_ ?_
    · refine Kept.ite ?_ ?_
      · with_reducible assumption
      · refine State.putExact_kept ?_
        with_reducible assumption
    · refine Kept.ite ?_ ?_
      · refine State.tableFlag_kept ?_
        refine State.countPipe_kept ?_
        with_reducible assumption
      · refine Kept.ite ?_ ?_
        · refine State.tableFlag_kept ?_
          refine State.countPipe_kept ?_
          refine State.putExact_kept ?_
          with_reducible assumption
        · with_reducible assumption
  · split
    · split
      · refine KeptEP.elimOk ?_ (by with_reducible assumption)
        refine State.insertExact_kept ?_
        with_reducible assumption
      · refine KeptEP.elim ?_ (by with_reducible assumption)
        refine State.insertExact_kept ?_
        with_reducible assumption
    · with_reducible assumption

theorem State.ageScan_kept {r0 : State} {a0 : State} (ha0 : Kept r0 a0) : Kept r0 (State.ageScan a0) := by
  unfold State.ageScan
  extract_lets x0 x1 x2
  have hx2 : Kept r0 x2 := by
    unfold x2
    refine Kept.foldl ?_ ?_
    · with_reducible assumption
    · intro a3 a4 h5
      refine State.putExact_kept ?_
      with_reducible assumption
  refine State.modTables_kept ?_
  with_reducible assumption

/-! ### CollOps -/

theorem State.modColl_kept {r0 : State} {a0 : State} {a1 : CollSt → CollSt} (ha0 : Kept r0 a0) : Kept r0 (State.modColl a0 a1) := by
  unfold State.modColl
  exact ha0

theorem State.markWaits_kept {r0 : State} {a0 : State} {a1 : ℕ} {a2 : ℕ} (ha0 : Kept r0 a0) : Kept r0 (State.markWaits a0 a1 a2) := by
  unfold State.markWaits
  extract_lets x0
  have hx0 : Kept r0 x0 := by
    unfold x0
    refine State.modColl_kept ?_
    with_reducible assumption
  exact hx0

theorem State.setSem_kept {r0 : State} {a0 : State} {a1 : ℕ} {a2 : ℕ} (ha0 : Kept r0 a0) : Kept r0 (State.setSem a0 a1 a2) := by
  unfold State.setSem
  refine State.markWaits_kept ?_
  refine State.modColl_kept ?_
  with_reducible assumption

theorem State.semAdd_kept {r0 : State} {a0 : State} {a1 : ℕ} {a2 : ℕ} (ha0 : Kept r0 a0) : KeptO r0 (State.semAdd a0 a1 a2) := by
  unfold State.semAdd
  refine KeptO.ite ?_ ?_
  · refine KeptO.some ?_
    refine State.countCp_kept ?_
    refine State.setSem_kept ?_
    with_reducible assumption
  · refine KeptO.none

theorem State.semSub_kept {r0 : State} {a0 : State} {a1 : ℕ} {a2 : ℕ} (ha0 : Kept r0 a0) : KeptO r0 (State.semSub a0 a1 a2) := by
  unfold State.semSub
  refine KeptO.ite ?_ ?_
  · refine KeptO.some ?_
    refine State.countCp_kept ?_
    refine State.setSem_kept ?_
    with_reducible assumption
  · refine KeptO.none

theorem State.semSignal_kept {r0 : State} {a0 : State} {a1 : ℕ} {a2 : ℕ} (ha0 : Kept r0 a0) : Kept r0 (State.semSignal a0 a1 a2) := by
  unfold State.semSignal
  refine Kept.ite ?_ ?_
  · with_reducible assumption
  · split
    · refine KeptO.elim ?_ (by with_reducible assumption)
      refine State.semAdd_kept ?_
      with_reducible assumption
    · refine State.setFlag_kept ?_
      refine State.countCp_kept ?_
      with_reducible assumption

theorem State.registerRange_kept {r0 : State} {a0 : State} {a1 : Range} (ha0 : Kept r0 a0) : Kept r0 (State.registerRange a0 a1) := by
  unfold State.registerRange
  refine State.modColl_kept ?_
  with_reducible assumption

theorem State.dropChunkOffers_kept {r0 : State} {a0 : State} {a1 : ℕ} {a2 : ℕ} {a3 : List ℕ} (ha0 : Kept r0 a0) : Kept r0 (State.dropChunkOffers a0 a1 a2 a3) := by
  unfold State.dropChunkOffers
  extract_lets x0 x1
  have hx1 : Kept r0 x1 := by
    unfold x1
    refine State.modCore_kept ?_
    with_reducible assumption
  refine State.updThread_kept ?_
  with_reducible assumption

theorem State.sendToSet_kept {r0 : State} {a0 : State} {a1 : Range} {a2 : ℕ} {a3 : ℕ} {a4 : List Byte} {a5 : List Byte} {a6 : Origin} (ha0 : Kept r0 a0) : Kept r0 (State.sendToSet a0 a1 a2 a3 a4 a5 a6) := by
  unfold State.sendToSet
  extract_lets x0
  refine State.offer_kept ?_
  with_reducible assumption

theorem State.resultFrame_kept {r0 : State} {a0 : State} {a1 : ℕ} {a2 : ℕ} {a3 : Range} {a4 : ℕ} {a5 : ℕ} {a6 : ℕ} {a7 : ℕ} {a8 : Bool} {a9 : List Byte} (ha0 : Kept r0 a0) : Kept r0 (State.resultFrame a0 a1 a2 a3 a4 a5 a6 a7 a8 a9) := by
  unfold State.resultFrame
  extract_lets x0 x1
  have hx0 : Kept r0 x0 := by
    unfold x0
    refine State.updThread_kept ?_
    with_reducible assumption
  have hx1 : Kept r0 x1 := by
    unfold x1
    refine State.updThread_kept ?_
    with_reducible assumption
  refine Kept.ite ?_ ?_
  · with_reducible assumption
  · refine State.sendToSet_kept ?_
    with_reducible assumption

theorem State.doneFrame_kept {r0 : State} {a0 : State} {a1 : ℕ} {a2 : ℕ} {a3 : Range} {a4 : ℕ} {a5 : ℕ} {a6 : ℕ} {a7 : ℕ} {a8 : Origin} (ha0 : Kept r0 a0) : Kept r0 (State.doneFrame a0 a1 a2 a3 a4 a5 a6 a7 a8) := by
  unfold State.doneFrame
  extract_lets x0 x1 x2 x3
  have hx3 : Kept r0 x3 := by
    unfold x3
    refine Kept.ite ?_ ?_
    · with_reducible assumption
    · refine State.updThread_kept ?_
      with_reducible assumption
  refine State.sendToSet_kept ?_
  with_reducible assumption

theorem State.sendDone_kept {r0 : State} {a0 : State} {a1 : ℕ} {a2 : ℕ} {a3 : Range} (ha0 : Kept r0 a0) : Kept r0 (State.sendDone a0 a1 a2 a3) := by
  unfold State.sendDone
  extract_lets x0
  have hx0 : Kept r0 x0 := by
    unfold x0
    refine State.updThread_kept ?_
    with_reducible assumption
  refine Kept.ite ?_ ?_
  · with_reducible assumption
  · refine State.forEach_kept ?_ ?_
    · with_reducible assumption
    · intro a1 a2 h3
      refine State.doneFrame_kept ?_
      with_reducible assumption

theorem State.emitResults_kept {r0 a0 : State} {a1 a2 : Nat} {a3 : Range} {a4 : Nat} {a5 : Bool} {a6 : Nat → Option Nat}
    {a7 : List Num} {a8 a9 : Nat} (ha0 : Kept r0 a0) : Kept r0 (a0.emitResults a1 a2 a3 a4 a5 a6 a7 a8 a9) := by
  induction a9 generalizing a0 a7 a8 with
  | zero => cases a7 <;> exact ha0
  | succ k ih =>
    cases a7 with
    | nil => exact ha0
    | cons v vs =>
      unfold State.emitResults
      dsimp only
      refine ih (State.forEach_kept ?_ (fun s a h => State.resultFrame_kept h))
      exact Kept.ite (State.sampleChunk_kept (State.convFlags_kept ha0)) (State.convFlags_kept ha0)

theorem State.completeReduce_kept {r0 : State} {a0 : State} {a1 : ℕ} {a2 : ℕ} {a3 : Range} (ha0 : Kept r0 a0) : Kept r0 (State.completeReduce a0 a1 a2 a3) := by
  unfold State.completeReduce
  extract_lets x0 x1 x2 x3
  have hx1 : Kept r0 x1 := by
    unfold x1
    refine State.updThread_kept ?_
    with_reducible assumption
  split
  extract_lets x4 x5
  have hx5 : Kept r0 x5 := by
    unfold x5
    refine State.emitResults_kept ?_
    refine KeptP.elim ?_ (by with_reducible assumption)
    refine State.elemValues_kept ?_
    with_reducible assumption
  refine State.sendDone_kept ?_
  refine State.freeRows_kept ?_
  with_reducible assumption

theorem State.nibEcc_kept {r0 : State} {a0 : State} {a1 : ℕ} {a2 : Ecc} (ha0 : Kept r0 a0) : Kept r0 (State.nibEcc a0 a1 a2) := by
  unfold State.nibEcc
  split
  · with_reducible assumption
  · refine State.nibFlag_kept ?_
    refine State.countNib_kept ?_
    refine State.sramEcc_kept ?_
    with_reducible assumption
  · refine State.nibFlag_kept ?_
    refine State.countNib_kept ?_
    refine State.sramEcc_kept ?_
    with_reducible assumption

theorem State.endContexts_kept {r0 : State} {a0 : State} {a1 : ℕ} {a2 : ℕ} (ha0 : Kept r0 a0) : Kept r0 (State.endContexts a0 a1 a2) := by
  unfold State.endContexts
  extract_lets x0
  refine State.updNib_kept ?_
  with_reducible assumption

theorem State.reviewRange_kept {r0 : State} {a0 : State} {a1 : ℕ} (ha0 : Kept r0 a0) : Kept r0 (State.reviewRange a0 a1) := by
  unfold State.reviewRange
  split
  · with_reducible assumption
  · extract_lets x0 x1
    have hx0 : Kept r0 x0 := by
      unfold x0
      refine Kept.ite ?_ ?_
      · with_reducible assumption
      · refine State.semSignal_kept ?_
        with_reducible assumption
    have hx1 : Kept r0 x1 := by
      unfold x1
      refine State.modColl_kept ?_
      with_reducible assumption
    refine Kept.ite ?_ ?_
    · with_reducible assumption
    · refine State.completeDesc_kept ?_
      with_reducible assumption

theorem State.endChunk_kept {r0 : State} {a0 : State} {a1 : ℕ} {a2 : Bool} (ha0 : Kept r0 a0) : Kept r0 (State.endChunk a0 a1 a2) := by
  unfold State.endChunk
  refine State.reviewRange_kept ?_
  refine State.modColl_kept ?_
  with_reducible assumption

theorem State.failChunkRecord_kept {r0 : State} {a0 : State} {a1 : ℕ} {a2 : ℕ} {a3 : ℕ} (ha0 : Kept r0 a0) : Kept r0 (State.failChunkRecord a0 a1 a2 a3) := by
  unfold State.failChunkRecord
  split
  · with_reducible assumption
  · extract_lets x0 x1 x2 x3 x4 x5
    have hx1 : Kept r0 x1 := by
      unfold x1
      refine State.endContexts_kept ?_
      refine State.freeRows_kept ?_
      refine State.dropChunkOffers_kept ?_
      with_reducible assumption
    have hx2 : Kept r0 x2 := by
      unfold x2
      refine State.modColl_kept ?_
      with_reducible assumption
    have hx3 : Kept r0 x3 := by
      unfold x3
      refine State.setFlagIf_kept ?_
      refine State.setFlag_kept ?_
      refine State.countCp_kept ?_
      with_reducible assumption
    have hx4 : Kept r0 x4 := by
      unfold x4
      refine Kept.ite ?_ ?_
      · refine State.modFaults_kept ?_ ?_
        · with_reducible assumption
        · exact fun _ h => h
      · with_reducible assumption
    have hx5 : Kept r0 x5 := by
      unfold x5
      refine Kept.ite ?_ ?_
      · with_reducible assumption
      · refine State.forEach_kept ?_ ?_
        · with_reducible assumption
        · intro a6 a7 h8
          refine State.doneFrame_kept ?_
          with_reducible assumption
    refine State.updThread_kept ?_
    with_reducible assumption

theorem State.failChunk_kept {r0 : State} {a0 : State} {a1 : ℕ} {a2 : ℕ} {a3 : ℕ} (ha0 : Kept r0 a0) : Kept r0 (State.failChunk a0 a1 a2 a3) := by
  unfold State.failChunk
  refine Kept.ite ?_ ?_
  · with_reducible assumption
  · refine State.endChunk_kept ?_
    refine State.failChunkRecord_kept ?_
    with_reducible assumption

theorem State.completeCounts_kept {r0 : State} {a0 : State} {a1 : ℕ} {a2 : ℕ} {a3 : Range} (ha0 : Kept r0 a0) : Kept r0 (State.completeCounts a0 a1 a2 a3) := by
  unfold State.completeCounts
  extract_lets x0 x1 x2
  have hx1 : Kept r0 x1 := by
    unfold x1
    refine State.updThread_kept ?_
    with_reducible assumption
  have hx2 : Kept r0 x2 := by
    unfold x2
    refine State.emitResults_kept ?_
    with_reducible assumption
  refine Kept.ite ?_ ?_
  · refine State.failChunk_kept ?_
    with_reducible assumption
  · refine State.sendDone_kept ?_
    with_reducible assumption

theorem State.sendDigest_kept {r0 : State} {a0 : State} {a1 : Range} {a2 : ℕ} (ha0 : Kept r0 a0) : Kept r0 (State.sendDigest a0 a1 a2) := by
  unfold State.sendDigest
  extract_lets x0 x1 x2 x3
  refine Kept.ite ?_ ?_
  · refine Kept.ite ?_ ?_
    · with_reducible assumption
    · split
      refine sendSeq_kept ?_
      refine KeptP.elim ?_ (by with_reducible assumption)
      refine State.freeBelow_kept ?_
      with_reducible assumption
  · with_reducible assumption

theorem State.digestPair_kept {r0 : State} {a0 : State} {a1 : ℕ} {a2 : ℕ} (ha0 : Kept r0 a0) : Kept r0 (State.digestPair a0 a1 a2) := by
  unfold State.digestPair
  extract_lets x0
  refine Kept.ite ?_ ?_
  · refine State.setFlagIf_kept ?_
    refine State.modFaults_kept ?_ ?_
    · with_reducible assumption
    · exact fun _ h => h
  · refine State.logEvent_kept ?_
    refine State.setFlag_kept ?_
    refine State.modFaults_kept ?_ ?_
    · with_reducible assumption
    · exact fun _ h => h

theorem State.ownDigest_kept {r0 : State} {a0 : State} {a1 : ℕ} {a2 : ℕ} {a3 : ℕ} (ha0 : Kept r0 a0) : Kept r0 (State.ownDigest a0 a1 a2 a3) := by
  unfold State.ownDigest
  split
  · refine State.digestPair_kept ?_
    refine State.modFaults_kept ?_ ?_
    · with_reducible assumption
    · exact fun _ h => h
  · refine Kept.ite ?_ ?_
    · refine State.modFaults_kept ?_ ?_
      · with_reducible assumption
      · exact fun _ h => h
    · refine State.modFaults_kept ?_ ?_
      · with_reducible assumption
      · exact fun _ h => h

theorem State.finishChunk_kept {r0 : State} {a0 : State} {a1 : ℕ} (ha0 : Kept r0 a0) : Kept r0 (State.finishChunk a0 a1) := by
  unfold State.finishChunk
  extract_lets x0
  split
  · with_reducible assumption
  · extract_lets x1 x2 x3
    have hx1 : Kept r0 x1 := by
      unfold x1
      refine State.hist_kept ?_
      with_reducible assumption
    have hx2 : Kept r0 x2 := by
      unfold x2
      refine State.semSignal_kept ?_
      refine State.countCp_kept ?_
      with_reducible assumption
    have hx3 : Kept r0 x3 := by
      unfold x3
      refine Kept.ite ?_ ?_
      · refine State.ownDigest_kept ?_
        with_reducible assumption
      · refine State.sendDigest_kept ?_
        with_reducible assumption
    refine State.endChunk_kept ?_
    refine State.updThread_kept ?_
    with_reducible assumption

theorem State.openThread_kept {r0 : State} {a0 : State} {a1 : ℕ} {a2 : Range} (ha0 : Kept r0 a0) : Kept r0 (State.openThread a0 a1 a2) := by
  unfold State.openThread
  refine Kept.ite ?_ ?_
  · with_reducible assumption
  · refine State.updThread_kept ?_
    with_reducible assumption

theorem State.intakeRows_kept {r0 : State} {a0 : State} {a1 : ℕ} {a2 : ℕ} {a3 : Range} {a4 : List Byte} {a5 : ℕ} (ha0 : Kept r0 a0) : Kept r0 (State.intakeRows a0 a1 a2 a3 a4 a5) := by
  unfold State.intakeRows
  extract_lets x0 x1 x2
  split
  · refine State.failChunk_kept ?_
    refine State.nibFlag_kept ?_
    refine State.countNib_kept ?_
    with_reducible assumption
  · extract_lets x3 x4 x5
    have hx3 : Kept r0 x3 := by
      unfold x3
      refine State.updThread_kept ?_
      refine KeptE.elim ?_ (by with_reducible assumption)
      refine State.addTerms_kept ?_
      with_reducible assumption
    have hx5 : Kept r0 x5 := by
      unfold x5
      refine Kept.ite ?_ ?_
      · with_reducible assumption
      · refine State.countNib_kept ?_
        with_reducible assumption
    refine Kept.ite ?_ ?_
    · refine State.completeReduce_kept ?_
      with_reducible assumption
    · with_reducible assumption

theorem State.intakeQueue_kept {r0 : State} {a0 : State} {a1 : ℕ} {a2 : List Byte} {a3 : ℕ} (ha0 : Kept r0 a0) : Kept r0 (State.intakeQueue a0 a1 a2 a3) := by
  unfold State.intakeQueue
  extract_lets x0
  refine Kept.ite ?_ ?_
  · refine State.failChunk_kept ?_
    with_reducible assumption
  · refine State.updThread_kept ?_
    with_reducible assumption

theorem State.intakeCount_kept {r0 : State} {a0 : State} {a1 : ℕ} {a2 : ℕ} {a3 : Range} {a4 : List Byte} {a5 : ℕ} (ha0 : Kept r0 a0) : Kept r0 (State.intakeCount a0 a1 a2 a3 a4 a5) := by
  unfold State.intakeCount
  extract_lets x0 x1
  have hx1 : Kept r0 x1 := by
    unfold x1
    refine State.updThread_kept ?_
    with_reducible assumption
  refine Kept.ite ?_ ?_
  · refine State.completeCounts_kept ?_
    with_reducible assumption
  · with_reducible assumption

theorem State.mirror_kept {r0 : State} {a0 : State} {a1 : ℕ} {a2 : ℕ} {a3 : List Byte} (ha0 : Kept r0 a0) : Kept r0 (State.mirror a0 a1 a2 a3) := by
  unfold State.mirror
  extract_lets x0 x1 x2 x3
  refine Kept.ite ?_ ?_
  · split
    · extract_lets x4
      refine Kept.ite ?_ ?_
      · refine State.store_kept ?_
        with_reducible assumption
      · refine State.countMisc_kept ?_
        with_reducible assumption
    · refine State.countMisc_kept ?_
      with_reducible assumption
  · with_reducible assumption

theorem State.intakeFrame_kept {r0 : State} {a0 : State} {a1 : ℕ} {a2 : Stored} (ha0 : Kept r0 a0) : Kept r0 (State.intakeFrame a0 a1 a2) := by
  unfold State.intakeFrame
  extract_lets x0 x1
  split
  · with_reducible assumption
  · extract_lets x2
    split
    · refine State.setFlag_kept ?_
      refine State.vftRejected_kept ?_
      with_reducible assumption
    · split
      · with_reducible assumption
      · extract_lets x3
        have hx3 : Kept r0 x3 := by
          unfold x3
          refine State.openThread_kept ?_
          refine State.mirror_kept ?_
          with_reducible assumption
        split
        · extract_lets x4
          have hx4 : Kept r0 x4 := by
            unfold x4
            refine State.setFlagIf_kept ?_
            refine State.vftRejected_kept ?_
            with_reducible assumption
          refine Kept.ite ?_ ?_
          · with_reducible assumption
          · refine State.failChunk_kept ?_
            with_reducible assumption
        · refine Kept.ite ?_ ?_
          · refine State.intakeRows_kept ?_
            with_reducible assumption
          · refine Kept.ite ?_ ?_
            · refine State.intakeCount_kept ?_
              with_reducible assumption
            · refine State.intakeQueue_kept ?_
              with_reducible assumption

theorem State.teardownRanges_kept {r0 : State} {a0 : State} {a1 : ℕ} (ha0 : Kept r0 a0) : Kept r0 (State.teardownRanges a0 a1) := by
  unfold State.teardownRanges
  refine State.forEach_kept ?_ ?_
  · with_reducible assumption
  · intro a0 a1 h2
    extract_lets x3 x4 x5 x6 x7 x8 x9
    have hx4 : Kept r0 x4 := by
      unfold x4
      refine State.forEach_kept ?_ ?_
      · with_reducible assumption
      · intro a10 a11 h12
        refine State.failChunkRecord_kept ?_
        with_reducible assumption
    have hx6 : Kept r0 x6 := by
      unfold x6
      refine State.setFlag_kept ?_
      refine State.count_kept ?_
      with_reducible assumption
    have hx7 : Kept r0 x7 := by
      unfold x7
      refine Kept.ite ?_ ?_
      · with_reducible assumption
      · refine State.modColl_kept ?_
        with_reducible assumption
    have hx8 : Kept r0 x8 := by
      unfold x8
      refine State.forEach_kept ?_ ?_
      · with_reducible assumption
      · intro a13 a14 h15
        refine State.updNib_kept ?_
        with_reducible assumption
    have hx9 : Kept r0 x9 := by
      unfold x9
      refine State.modColl_kept ?_
      with_reducible assumption
    refine State.completeDesc_kept ?_
    with_reducible assumption

end Sys2Proof.Machine
end

