-- ==== Sys2Proof/Laws/Kept3.lean ====
section
/-!
SUPPORT. What the operations and commands of these files keep: LigOps, JobOps, NibProg.
-/

set_option Elab.async false

namespace Sys2Proof.Machine

/-! ### LigOps -/

theorem State.modLig_kept {r0 : State} {a0 : State} {a1 : LigSt → LigSt} (ha0 : Kept r0 a0) : Kept r0 (State.modLig a0 a1) := by
  unfold State.modLig
  exact ha0

theorem State.countLig_kept {r0 : State} {a0 : State} {a1 : ℕ} (ha0 : Kept r0 a0) : Kept r0 (State.countLig a0 a1) := by
  unfold State.countLig
  refine State.countUnit_kept ?_
  with_reducible assumption

theorem State.ligFlag_kept {r0 : State} {a0 : State} {a1 : ℕ} (ha0 : Kept r0 a0) : Kept r0 (State.ligFlag a0 a1) := by
  unfold State.ligFlag
  refine State.setFlag_kept ?_
  with_reducible assumption

theorem State.responseFrame_kept {r0 : State} {a0 : State} {a1 : LigReq} {a2 : ℕ} {a3 : ℕ} {a4 : List Byte} (ha0 : Kept r0 a0) : KeptP r0 (State.responseFrame a0 a1 a2 a3 a4) := by
  unfold State.responseFrame
  extract_lets x0 x1 x2 x3 x4 x5 x6 x7
  refine KeptP.ite ?_ ?_
  · refine KeptP.mk ?_
    with_reducible assumption
  · split
    split
    extract_lets x8 x9 x10 x11
    refine KeptP.mk ?_
    refine KeptP.elim ?_ (by with_reducible assumption)
    refine State.freeBelow_kept ?_
    refine KeptP.elim ?_ (by with_reducible assumption)
    refine State.freeBelow_kept ?_
    with_reducible assumption

theorem State.respond_kept {r0 : State} {a0 : State} {a1 : LigReq} {a2 : ℕ} {a3 : ℕ} {a4 : List Byte} (ha0 : Kept r0 a0) : Kept r0 (State.respond a0 a1 a2 a3 a4) := by
  unfold State.respond
  refine Kept.ite ?_ ?_
  · split
    refine State.offer_kept ?_
    refine KeptP.elim ?_ (by with_reducible assumption)
    refine State.responseFrame_kept ?_
    with_reducible assumption
  · refine State.ligFlag_kept ?_
    refine State.countLig_kept ?_
    with_reducible assumption

theorem State.ligStatus_kept {r0 : State} {a0 : State} {a1 : ℕ} {a2 : ℕ} (ha0 : Kept r0 a0) : Kept r0 (State.ligStatus a0 a1 a2) := by
  unfold State.ligStatus
  extract_lets x0
  have hx0 : Kept r0 x0 := by
    unfold x0
    refine State.modLig_kept ?_
    refine State.countLig_kept ?_
    with_reducible assumption
  refine Kept.ite ?_ ?_
  · with_reducible assumption
  · refine Kept.ite ?_ ?_
    · refine State.ligFlag_kept ?_
      with_reducible assumption
    · refine Kept.ite ?_ ?_
      · refine State.ligFlag_kept ?_
        with_reducible assumption
      · refine Kept.ite ?_ ?_
        · refine State.ligFlag_kept ?_
          with_reducible assumption
        · refine Kept.ite ?_ ?_
          · refine State.ligFlag_kept ?_
            with_reducible assumption
          · with_reducible assumption

theorem State.reviewCopy_kept {r0 : State} {a0 : State} {a1 : ℕ} (ha0 : Kept r0 a0) : Kept r0 (State.reviewCopy a0 a1) := by
  unfold State.reviewCopy
  split
  · refine Kept.ite ?_ ?_
    · refine State.completeDesc_kept ?_
      refine State.modHost_kept ?_
      with_reducible assumption
    · with_reducible assumption
  · with_reducible assumption

theorem State.copyLine_kept {r0 : State} {a0 : State} {a1 : ℕ} {a2 : ℕ} {a3 : ℕ} {a4 : List Byte} (ha0 : Kept r0 a0) : Kept r0 (State.copyLine a0 a1 a2 a3 a4) := by
  unfold State.copyLine
  extract_lets x0
  split
  · with_reducible assumption
  · extract_lets x1
    split
    extract_lets x2 x3 x4
    have hx2 : Kept r0 x2 := by
      unfold x2
      refine State.modHost_kept ?_
      refine KeptQ.elim ?_ (by with_reducible assumption)
      refine KeptQ.ite ?_ ?_
      · split
        · refine KeptQ.mk ?_
          refine KeptO.elim ?_ (by with_reducible assumption)
          refine State.dmaWrite_kept ?_
          with_reducible assumption
        · refine KeptQ.mk ?_
          refine State.dmaError_kept ?_
          with_reducible assumption
      · refine KeptQ.mk ?_
        with_reducible assumption
    have hx4 : Kept r0 x4 := by
      unfold x4
      refine Kept.ite ?_ ?_
      · with_reducible assumption
      · refine State.modHost_kept ?_
        refine State.modLig_kept ?_
        with_reducible assumption
    refine State.reviewCopy_kept ?_
    with_reducible assumption

theorem State.answer_kept {r0 : State} {a0 : State} {a1 : LigReq} {a2 : ℕ} {a3 : List Byte} (ha0 : Kept r0 a0) : Kept r0 (State.answer a0 a1 a2 a3) := by
  unfold State.answer
  split
  · refine State.copyLine_kept ?_
    with_reducible assumption
  · refine State.respond_kept ?_
    refine State.ligStatus_kept ?_
    with_reducible assumption

theorem State.answerAll_kept {r0 : State} {a0 : State} {a1 : List (LigReq × List Byte)} {a2 : ℕ} (ha0 : Kept r0 a0) : Kept r0 (State.answerAll a0 a1 a2) := by
  unfold State.answerAll
  refine State.forEach_kept ?_ ?_
  · with_reducible assumption
  · intro a0 a1 h2
    refine Kept.ite ?_ ?_
    · with_reducible assumption
    · refine State.answer_kept ?_
      with_reducible assumption

theorem State.sendPart_kept {r0 : State} {a0 : State} {a1 : LigAccess} {a2 : HomePart} (ha0 : Kept r0 a0) : Kept r0 (State.sendPart a0 a1 a2) := by
  unfold State.sendPart
  extract_lets x0 x1 x2
  split
  · refine State.offer_kept ?_
    with_reducible assumption
  · with_reducible assumption

theorem State.updAcc_kept {r0 : State} {a0 : State} {a1 : ℕ} {a2 : LigAccess → LigAccess} (ha0 : Kept r0 a0) : Kept r0 (State.updAcc a0 a1 a2) := by
  unfold State.updAcc
  refine State.modLig_kept ?_
  with_reducible assumption

theorem State.issueAcc_kept {r0 : State} {a0 : State} {a1 : LigAccess} (ha0 : Kept r0 a0) : KeptO r0 (State.issueAcc a0 a1) := by
  unfold State.issueAcc
  extract_lets x0
  split
  · refine KeptO.some ?_
    refine State.updAcc_kept ?_
    with_reducible assumption
  · split
    · refine KeptO.none
    · extract_lets x1 x2
      have hx2 : Kept r0 x2 := by
        unfold x2
        refine State.updAcc_kept ?_
        with_reducible assumption
      refine KeptO.some ?_
      refine State.forEach_kept ?_ ?_
      · with_reducible assumption
      · intro a3 a4 h5
        refine State.sendPart_kept ?_
        refine State.countLig_kept ?_
        with_reducible assumption

theorem State.issueAll_kept {r0 a0 : State} {a1 : Nat} (ha0 : Kept r0 a0) : Kept r0 (a0.issueAll a1) := by
  induction a1 generalizing a0 with
  | zero => exact ha0
  | succ n ih =>
    unfold State.issueAll
    split
    next e =>
      obtain ⟨a, _, h⟩ := List.exists_of_findSome?_eq_some e
      split at h
      · exact ih (KeptO.elim (State.issueAcc_kept ha0) h)
      · cases h
    · exact ha0

theorem State.reviewData_kept {r0 : State} {a0 : State} (ha0 : Kept r0 a0) : Kept r0 (State.reviewData a0) := by
  unfold State.reviewData
  extract_lets x0
  refine State.modLig_kept ?_
  refine State.setFlagIf_kept ?_
  with_reducible assumption

theorem State.ligRun_kept {r0 : State} {a0 : State} (ha0 : Kept r0 a0) : Kept r0 (State.ligRun a0) := by
  unfold State.ligRun
  refine State.reviewData_kept ?_
  refine State.issueAll_kept ?_
  with_reducible assumption

theorem State.addAcc_kept {r0 : State} {a0 : State} {a1 : LigAccess} (ha0 : Kept r0 a0) : Kept r0 (State.addAcc a0 a1) := by
  unfold State.addAcc
  refine State.modLig_kept ?_
  with_reducible assumption

theorem State.placeRead_kept {r0 : State} {a0 : State} {a1 : LigReq} (ha0 : Kept r0 a0) : Kept r0 (State.placeRead a0 a1) := by
  unfold State.placeRead
  split
  · refine State.updAcc_kept ?_
    refine State.countLig_kept ?_
    with_reducible assumption
  · refine State.addAcc_kept ?_
    with_reducible assumption

theorem State.placeAtomic_kept {r0 : State} {a0 : State} {a1 : LigReq} (ha0 : Kept r0 a0) : Kept r0 (State.placeAtomic a0 a1) := by
  unfold State.placeAtomic
  refine Kept.ite ?_ ?_
  · refine State.addAcc_kept ?_
    with_reducible assumption
  · split
    · refine State.updAcc_kept ?_
      refine State.countLig_kept ?_
      with_reducible assumption
    · refine State.addAcc_kept ?_
      with_reducible assumption

theorem State.placeImage_kept {r0 : State} {a0 : State} {a1 : LigReq} {a2 : ℕ} (ha0 : Kept r0 a0) : Kept r0 (State.placeImage a0 a1 a2) := by
  unfold State.placeImage
  extract_lets x0 x1 x2
  split
  · refine State.updAcc_kept ?_
    refine State.countLig_kept ?_
    with_reducible assumption
  · refine State.addAcc_kept ?_
    with_reducible assumption

theorem State.placeStore_kept {r0 : State} {a0 : State} {a1 : LigReq} (ha0 : Kept r0 a0) : Kept r0 (State.placeStore a0 a1) := by
  unfold State.placeStore
  extract_lets x0 x1 x2
  refine Kept.ite ?_ ?_
  · refine State.forEach_kept ?_ ?_
    · with_reducible assumption
    · intro a3 a4 h5
      refine State.placeImage_kept ?_
      with_reducible assumption
  · refine State.addAcc_kept ?_
    with_reducible assumption

theorem State.placeReq_kept {r0 : State} {a0 : State} {a1 : LigReq} (ha0 : Kept r0 a0) : Kept r0 (State.placeReq a0 a1) := by
  unfold State.placeReq
  extract_lets x0
  have hx0 : Kept r0 x0 := by
    unfold x0
    refine State.modLig_kept ?_
    with_reducible assumption
  refine State.ligRun_kept ?_
  split
  · refine State.placeRead_kept ?_
    with_reducible assumption
  · refine State.placeStore_kept ?_
    with_reducible assumption
  · refine State.placeAtomic_kept ?_
    with_reducible assumption

theorem State.ligRequest_kept {r0 : State} {a0 : State} {a1 : Stored} {a2 : ℕ} (ha0 : Kept r0 a0) : Kept r0 (State.ligRequest a0 a1 a2) := by
  unfold State.ligRequest
  extract_lets x0 x1 x2 x3
  have hx1 : Kept r0 x1 := by
    unfold x1
    refine State.countLig_kept ?_
    with_reducible assumption
  refine Kept.ite ?_ ?_
  · refine State.answer_kept ?_
    with_reducible assumption
  · split
    · extract_lets x4
      have hx4 : Kept r0 x4 := by
        unfold x4
        refine State.setFlagIf_kept ?_
        refine State.ligFlag_kept ?_
        refine State.countLig_kept ?_
        with_reducible assumption
      refine State.respond_kept ?_
      with_reducible assumption
    · refine State.placeReq_kept ?_
      with_reducible assumption

theorem State.dropAcc_kept {r0 : State} {a0 : State} {a1 : ℕ} (ha0 : Kept r0 a0) : Kept r0 (State.dropAcc a0 a1) := by
  unfold State.dropAcc
  refine State.modLig_kept ?_
  with_reducible assumption

theorem State.writeImage_kept {r0 : State} {a0 : State} {a1 : LigAccess} (ha0 : Kept r0 a0) : Kept r0 (State.writeImage a0 a1) := by
  unfold State.writeImage
  extract_lets x0
  refine Kept.ite ?_ ?_
  · refine State.writeMem_kept ?_
    with_reducible assumption
  · refine State.forEach_kept ?_ ?_
    · with_reducible assumption
    · intro a1 a2 h3
      refine State.writeMem_kept ?_
      with_reducible assumption

theorem State.performPool_kept {r0 : State} {a0 : State} {a1 : LigAccess} {a2 : Bool} (ha0 : Kept r0 a0) : Kept r0 (State.performPool a0 a1 a2) := by
  unfold State.performPool
  extract_lets x0 x1 x2
  have hx1 : Kept r0 x1 := by
    unfold x1
    refine State.dropAcc_kept ?_
    with_reducible assumption
  have hx2 : Kept r0 x2 := by
    unfold x2
    split
    · split
      extract_lets x3
      have hx3 : Kept r0 x3 := by
        unfold x3
        refine Kept.ite ?_ ?_
        · refine State.lpdUncorrected_kept ?_
          refine KeptP.elim ?_ (by with_reducible assumption)
          refine State.readMem_kept ?_
          with_reducible assumption
        · refine KeptP.elim ?_ (by with_reducible assumption)
          refine State.readMem_kept ?_
          with_reducible assumption
      split
      · refine State.answerAll_kept ?_
        with_reducible assumption
      · refine State.answerAll_kept ?_
        with_reducible assumption
      · refine State.answerAll_kept ?_
        with_reducible assumption
    · split
      extract_lets x4
      have hx4 : Kept r0 x4 := by
        unfold x4
        refine Kept.ite ?_ ?_
        · refine State.lpdUncorrected_kept ?_
          refine KeptP.elim ?_ (by with_reducible assumption)
          refine State.readMem_kept ?_
          with_reducible assumption
        · refine KeptP.elim ?_ (by with_reducible assumption)
          refine State.readMem_kept ?_
          with_reducible assumption
      split
      · split
        refine State.answerAll_kept ?_
        refine State.writeMem_kept ?_
        with_reducible assumption
      · refine State.answerAll_kept ?_
        with_reducible assumption
      · refine State.answerAll_kept ?_
        with_reducible assumption
    · split
      extract_lets x5
      have hx5 : Kept r0 x5 := by
        unfold x5
        refine Kept.ite ?_ ?_
        · refine State.lpdUncorrected_kept ?_
          refine KeptP.elim ?_ (by with_reducible assumption)
          refine State.readMem_kept ?_
          with_reducible assumption
        · refine KeptP.elim ?_ (by with_reducible assumption)
          refine State.readMem_kept ?_
          with_reducible assumption
      split
      · split
        refine State.answerAll_kept ?_
        refine State.writeMem_kept ?_
        with_reducible assumption
      · refine State.answerAll_kept ?_
        with_reducible assumption
      · refine State.answerAll_kept ?_
        with_reducible assumption
    · refine State.answerAll_kept ?_
      refine State.writeImage_kept ?_
      with_reducible assumption
    · refine State.answerAll_kept ?_
      refine State.writeMem_kept ?_
      with_reducible assumption
  refine State.ligRun_kept ?_
  with_reducible assumption

theorem State.finishHome_kept {r0 : State} {a0 : State} {a1 : LigAccess} (ha0 : Kept r0 a0) : Kept r0 (State.finishHome a0 a1) := by
  unfold State.finishHome
  extract_lets x0 x1 x2
  have hx0 : Kept r0 x0 := by
    unfold x0
    refine State.dropAcc_kept ?_
    with_reducible assumption
  have hx2 : Kept r0 x2 := by
    unfold x2
    refine Kept.ite ?_ ?_
    · refine State.answerAll_kept ?_
      with_reducible assumption
    · split
      · refine State.answerAll_kept ?_
        with_reducible assumption
      · refine State.answerAll_kept ?_
        with_reducible assumption
      · refine State.answerAll_kept ?_
        with_reducible assumption
      · refine State.answerAll_kept ?_
        with_reducible assumption
  refine State.ligRun_kept ?_
  with_reducible assumption

theorem State.unmatched_kept {r0 : State} {a0 : State} (ha0 : Kept r0 a0) : Kept r0 (State.unmatched a0) := by
  unfold State.unmatched
  refine State.ligFlag_kept ?_
  refine State.countLig_kept ?_
  with_reducible assumption

theorem State.homeResponse_kept {r0 : State} {a0 : State} {a1 : Stored} {a2 : ℕ} (ha0 : Kept r0 a0) : Kept r0 (State.homeResponse a0 a1 a2) := by
  unfold State.homeResponse
  extract_lets x0 x1 x2
  split
  · refine State.unmatched_kept ?_
    with_reducible assumption
  · extract_lets x3 x4
    have hx4 : Kept r0 x4 := by
      unfold x4
      refine State.updAcc_kept ?_
      with_reducible assumption
    refine Kept.ite ?_ ?_
    · refine State.vftRejected_kept ?_
      with_reducible assumption
    · split
      · refine Kept.ite ?_ ?_
        · refine State.finishHome_kept ?_
          with_reducible assumption
        · refine State.ligRun_kept ?_
          with_reducible assumption
      · with_reducible assumption

theorem State.homeRetry_kept {r0 : State} {a0 : State} {a1 : Stored} {a2 : ℕ} (ha0 : Kept r0 a0) : Kept r0 (State.homeRetry a0 a1 a2) := by
  unfold State.homeRetry
  extract_lets x0 x1 x2 x3
  have hx3 : Kept r0 x3 := by
    unfold x3
    refine Kept.ite ?_ ?_
    · with_reducible assumption
    · refine State.countMisc_kept ?_
      with_reducible assumption
  split
  · refine State.unmatched_kept ?_
    with_reducible assumption
  · refine State.updAcc_kept ?_
    with_reducible assumption

theorem State.teardownLig_kept {r0 : State} {a0 : State} {a1 : ℕ} (ha0 : Kept r0 a0) : Kept r0 (State.teardownLig a0 a1) := by
  unfold State.teardownLig
  extract_lets x0 x1 x2 x3
  have hx2 : Kept r0 x2 := by
    unfold x2
    refine State.modLig_kept ?_
    with_reducible assumption
  refine State.ligRun_kept ?_
  refine State.answerAll_kept ?_
  with_reducible assumption

/-! ### JobOps -/

theorem State.jobToSet_kept {r0 : State} {a0 : State} {a1 : ℕ} {a2 : ℕ} {a3 : ℕ} {a4 : ℕ} {a5 : ℕ} {a6 : List ℕ} (ha0 : Kept r0 a0) : Kept r0 (State.jobToSet a0 a1 a2 a3 a4 a5 a6) := by
  unfold State.jobToSet
  refine State.forEach_kept ?_ ?_
  · with_reducible assumption
  · intro a0 a1 h2
    refine sendSeq_kept ?_
    with_reducible assumption

theorem State.jobToMac_kept {r0 : State} {a0 : State} {a1 : ℕ} {a2 : ℕ} {a3 : ℕ} {a4 : ℕ} {a5 : ℕ} {a6 : ℕ} (ha0 : Kept r0 a0) : Kept r0 (State.jobToMac a0 a1 a2 a3 a4 a5 a6) := by
  unfold State.jobToMac
  extract_lets x0
  refine Kept.ite ?_ ?_
  · refine State.countMisc_kept ?_
    with_reducible assumption
  · split
    refine sendSeq_kept ?_
    refine KeptP.elim ?_ (by with_reducible assumption)
    refine State.freeBelow_kept ?_
    with_reducible assumption

theorem State.sendShare_kept {r0 : State} {a0 : State} {a1 : ℕ} (ha0 : Kept r0 a0) : Kept r0 (State.sendShare a0 a1) := by
  unfold State.sendShare
  extract_lets x0
  refine State.updSlot_kept ?_
  refine State.jobToMac_kept ?_
  with_reducible assumption

theorem State.endPrepare_kept {r0 : State} {a0 : State} {a1 : ℕ} {a2 : ℕ} {a3 : ℕ} (ha0 : Kept r0 a0) : Kept r0 (State.endPrepare a0 a1 a2 a3) := by
  unfold State.endPrepare
  split
  · refine State.completeAny_kept ?_
    refine State.updSlot_kept ?_
    with_reducible assumption
  · with_reducible assumption

theorem State.endJobContexts_kept {r0 : State} {a0 : State} {a1 : ℕ} (ha0 : Kept r0 a0) : Kept r0 (State.endJobContexts a0 a1) := by
  unfold State.endJobContexts
  refine State.forEach_kept ?_ ?_
  · with_reducible assumption
  · intro a0 a1 h2
    refine Kept.foldl ?_ ?_
    · with_reducible assumption
    · intro a3 a4 h5
      split
      · refine Kept.ite ?_ ?_
        · refine State.updNib_kept ?_
          with_reducible assumption
        · with_reducible assumption
      · with_reducible assumption

theorem State.cancelWaits_kept {r0 : State} {a0 : State} {a1 : ℕ} (ha0 : Kept r0 a0) : Kept r0 (State.cancelWaits a0 a1) := by
  unfold State.cancelWaits
  extract_lets x0 x1 x2 x3 x4
  have hx1 : Kept r0 x1 := by
    unfold x1
    refine State.modColl_kept ?_
    with_reducible assumption
  have hx2 : Kept r0 x2 := by
    unfold x2
    refine State.forEach_kept ?_ ?_
    · with_reducible assumption
    · intro a5 a6 h7
      refine State.completeDesc_kept ?_
      refine State.updRing_kept ?_
      with_reducible assumption
  have hx4 : Kept r0 x4 := by
    unfold x4
    refine State.modColl_kept ?_
    with_reducible assumption
  refine State.forEach_kept ?_ ?_
  · with_reducible assumption
  · intro a8 a9 h10
    refine State.completeDesc_kept ?_
    refine State.countCp_kept ?_
    refine State.updRing_kept ?_
    with_reducible assumption

theorem State.cancelCopies_kept {r0 : State} {a0 : State} {a1 : ℕ} (ha0 : Kept r0 a0) : Kept r0 (State.cancelCopies a0 a1) := by
  unfold State.cancelCopies
  refine State.modHost_kept ?_
  with_reducible assumption

theorem State.drainJob_kept {r0 : State} {a0 : State} {a1 : ℕ} (ha0 : Kept r0 a0) : Kept r0 (State.drainJob a0 a1) := by
  unfold State.drainJob
  extract_lets x0
  refine State.cancelWaits_kept ?_
  refine State.teardownLig_kept ?_
  refine State.cancelCopies_kept ?_
  refine State.teardownRanges_kept ?_
  refine State.endJobContexts_kept ?_
  with_reducible assumption

theorem State.startDrain_kept {r0 : State} {a0 : State} {a1 : ℕ} {a2 : ℕ} (ha0 : Kept r0 a0) : Kept r0 (State.startDrain a0 a1 a2) := by
  unfold State.startDrain
  refine State.drainJob_kept ?_
  refine State.updSlot_kept ?_
  with_reducible assumption

theorem State.abortJob_kept {r0 : State} {a0 : State} {a1 : ℕ} {a2 : ℕ} {a3 : List ℕ} (ha0 : Kept r0 a0) : Kept r0 (State.abortJob a0 a1 a2 a3) := by
  unfold State.abortJob
  extract_lets x0 x1 x2 x3 x4 x5
  have hx1 : Kept r0 x1 := by
    unfold x1
    refine State.setFlag_kept ?_
    with_reducible assumption
  have hx2 : Kept r0 x2 := by
    unfold x2
    refine State.jobToSet_kept ?_
    with_reducible assumption
  have hx3 : Kept r0 x3 := by
    unfold x3
    refine Kept.ite ?_ ?_
    · refine State.forEach_kept ?_ ?_
      · with_reducible assumption
      · intro a6 a7 h8
        refine State.jobToMac_kept ?_
        with_reducible assumption
    · refine State.jobToMac_kept ?_
      with_reducible assumption
  have hx4 : Kept r0 x4 := by
    unfold x4
    refine Kept.ite ?_ ?_
    · with_reducible assumption
    · refine State.updSlot_kept ?_
      with_reducible assumption
  have hx5 : Kept r0 x5 := by
    unfold x5
    refine State.startDrain_kept ?_
    with_reducible assumption
  refine Kept.ite ?_ ?_
  · with_reducible assumption
  · refine Kept.ite ?_ ?_
    · refine State.endPrepare_kept ?_
      with_reducible assumption
    · with_reducible assumption

theorem abortJobsOnLink_kept {r0 : State} {a0 : State} {a1 : ℕ} {a2 : ℕ} (ha0 : Kept r0 a0) : Kept r0 (abortJobsOnLink a0 a1 a2) := by
  unfold abortJobsOnLink
  refine State.forEach_kept ?_ ?_
  · with_reducible assumption
  · intro a0 a1 h2
    refine Kept.ite ?_ ?_
    · refine State.abortJob_kept ?_
      with_reducible assumption
    · with_reducible assumption

theorem abortJobsOnFibre_kept {r0 : State} {a0 : State} {a1 : ℕ} {a2 : ℕ} (ha0 : Kept r0 a0) : Kept r0 (abortJobsOnFibre a0 a1 a2) := by
  unfold abortJobsOnFibre
  refine State.forEach_kept ?_ ?_
  · with_reducible assumption
  · intro a0 a1 h2
    refine Kept.ite ?_ ?_
    · refine State.abortJob_kept ?_
      with_reducible assumption
    · with_reducible assumption

theorem abortAllJobs_kept {r0 : State} {a0 : State} {a1 : ℕ} (ha0 : Kept r0 a0) : Kept r0 (abortAllJobs a0 a1) := by
  unfold abortAllJobs
  refine State.forEach_kept ?_ ?_
  · with_reducible assumption
  · intro a0 a1 h2
    refine State.abortJob_kept ?_
    with_reducible assumption

theorem State.jobPrepare_kept {r0 : State} {a0 : State} {a1 : ℕ} {a2 : ℕ} {a3 : ℕ} {a4 : ℕ} {a5 : List Byte} (ha0 : Kept r0 a0) : Kept r0 (State.jobPrepare a0 a1 a2 a3 a4 a5) := by
  unfold State.jobPrepare
  extract_lets x0 x1 x2 x3 x4
  have hx0 : ∀ v5 v6 v7, Kept r0 v5 → Kept r0 (x0 v5 v6 v7) := by
    unfold x0
    intro a8 a9 a10 h11
    refine State.completeDesc_kept ?_
    with_reducible assumption
  refine Kept.ite ?_ ?_
  · unfold x0
    refine State.completeDesc_kept ?_
    with_reducible assumption
  · refine Kept.ite ?_ ?_
    · unfold x0
      refine State.completeDesc_kept ?_
      with_reducible assumption
    · split
      · unfold x0
        refine State.completeDesc_kept ?_
        refine State.dmaError_kept ?_
        refine KeptP.elim ?_ (by with_reducible assumption)
        refine State.dmaRead_kept ?_
        with_reducible assumption
      · extract_lets x12 x13 x14 x15
        have hx14 : Kept r0 x14 := by
          unfold x14
          refine State.updSlot_kept ?_
          refine KeptP.elim ?_ (by with_reducible assumption)
          refine State.dmaRead_kept ?_
          with_reducible assumption
        have hx15 : Kept r0 x15 := by
          unfold x15
          refine State.jobToSet_kept ?_
          with_reducible assumption
        refine Kept.ite ?_ ?_
        · unfold x0
          refine State.completeDesc_kept ?_
          refine KeptP.elim ?_ (by with_reducible assumption)
          refine State.dmaRead_kept ?_
          with_reducible assumption
        · refine Kept.ite ?_ ?_
          · unfold x0
            refine State.completeDesc_kept ?_
            refine KeptP.elim ?_ (by with_reducible assumption)
            refine State.dmaRead_kept ?_
            with_reducible assumption
          · refine Kept.ite ?_ ?_
            · with_reducible assumption
            · refine Kept.ite ?_ ?_
              · with_reducible assumption
              · refine State.sendShare_kept ?_
                with_reducible assumption

theorem State.prepareEnds_kept {r0 : State} {a0 : State} {a1 : ℕ} {a2 : ℕ} {a3 : ℕ} (ha0 : Kept r0 a0) : Kept r0 (State.prepareEnds a0 a1 a2 a3) := by
  unfold State.prepareEnds
  refine State.endPrepare_kept ?_
  refine State.setFlag_kept ?_
  refine State.updSlot_kept ?_
  with_reducible assumption

theorem State.goLive_kept {r0 : State} {a0 : State} {a1 : ℕ} (ha0 : Kept r0 a0) : Kept r0 (State.goLive a0 a1) := by
  unfold State.goLive
  extract_lets x0 x1 x2
  have hx1 : Kept r0 x1 := by
    unfold x1
    refine State.updSlot_kept ?_
    with_reducible assumption
  have hx2 : Kept r0 x2 := by
    unfold x2
    refine State.modColl_kept ?_
    with_reducible assumption
  refine State.endPrepare_kept ?_
  with_reducible assumption

theorem State.decideCommit_kept {r0 : State} {a0 : State} {a1 : ℕ} (ha0 : Kept r0 a0) : Kept r0 (State.decideCommit a0 a1) := by
  unfold State.decideCommit
  extract_lets x0 x1 x2 x3 x4 x5 x6 x7
  have hx6 : Kept r0 x6 := by
    unfold x6
    refine State.forEach_kept ?_ ?_
    · with_reducible assumption
    · intro a8 a9 h10
      refine State.jobToMac_kept ?_
      with_reducible assumption
  have hx7 : Kept r0 x7 := by
    unfold x7
    refine State.jobToSet_kept ?_
    with_reducible assumption
  refine Kept.ite ?_ ?_
  · refine State.updSlot_kept ?_
    with_reducible assumption
  · refine State.prepareEnds_kept ?_
    with_reducible assumption

theorem State.jobTeardown_kept {r0 : State} {a0 : State} {a1 : ℕ} {a2 : ℕ} {a3 : ℕ} (ha0 : Kept r0 a0) : Kept r0 (State.jobTeardown a0 a1 a2 a3) := by
  unfold State.jobTeardown
  extract_lets x0 x1 x2 x3
  have hx1 : Kept r0 x1 := by
    unfold x1
    refine State.updSlot_kept ?_
    with_reducible assumption
  have hx2 : Kept r0 x2 := by
    unfold x2
    refine Kept.ite ?_ ?_
    · refine State.jobToSet_kept ?_
      with_reducible assumption
    · with_reducible assumption
  have hx3 : Kept r0 x3 := by
    unfold x3
    refine State.startDrain_kept ?_
    refine State.updSlot_kept ?_
    with_reducible assumption
  refine Kept.ite ?_ ?_
  · with_reducible assumption
  · refine Kept.ite ?_ ?_
    · refine State.endPrepare_kept ?_
      with_reducible assumption
    · with_reducible assumption

theorem State.jobAbortOp_kept {r0 : State} {a0 : State} {a1 : ℕ} {a2 : ℕ} (ha0 : Kept r0 a0) : Kept r0 (State.jobAbortOp a0 a1 a2) := by
  unfold State.jobAbortOp
  extract_lets x0
  have hx0 : Kept r0 x0 := by
    unfold x0
    refine State.updSlot_kept ?_
    with_reducible assumption
  refine State.abortJob_kept ?_
  with_reducible assumption

theorem State.endDrainJob_kept {r0 : State} {a0 : State} {a1 : ℕ} (ha0 : Kept r0 a0) : Kept r0 (State.endDrainJob a0 a1) := by
  unfold State.endDrainJob
  extract_lets x0 x1 x2
  have hx1 : Kept r0 x1 := by
    unfold x1
    refine State.updSlot_kept ?_
    with_reducible assumption
  have hx2 : Kept r0 x2 := by
    unfold x2
    refine Kept.ite ?_ ?_
    · refine State.modFaults_kept ?_ ?_
      · with_reducible assumption
      · exact fun _ h => h
    · with_reducible assumption
  refine State.forEach_kept ?_ ?_
  · with_reducible assumption
  · intro a3 a4 h5
    refine State.completeAny_kept ?_
    with_reducible assumption

theorem State.onJobAck_kept {r0 : State} {a0 : State} {a1 : List Byte} (ha0 : Kept r0 a0) : Kept r0 (State.onJobAck a0 a1) := by
  unfold State.onJobAck
  split
  · refine State.countMisc_kept ?_
    with_reducible assumption
  · extract_lets x0 x1
    have hx1 : Kept r0 x1 := by
      unfold x1
      refine State.updSlot_kept ?_
      with_reducible assumption
    refine Kept.ite ?_ ?_
    · refine State.countMisc_kept ?_
      with_reducible assumption
    · refine Kept.ite ?_ ?_
      · with_reducible assumption
      · refine Kept.ite ?_ ?_
        · refine State.sendShare_kept ?_
          with_reducible assumption
        · refine State.updSlot_kept ?_
          with_reducible assumption

theorem State.onJobShare_kept {r0 : State} {a0 : State} {a1 : List Byte} (ha0 : Kept r0 a0) : Kept r0 (State.onJobShare a0 a1) := by
  unfold State.onJobShare
  extract_lets x0
  split
  · refine State.countMisc_kept ?_
    with_reducible assumption
  · extract_lets x1
    refine Kept.ite ?_ ?_
    · refine State.countMisc_kept ?_
      with_reducible assumption
    · refine Kept.ite ?_ ?_
      · refine State.countMisc_kept ?_
        with_reducible assumption
      · refine State.updSlot_kept ?_
        with_reducible assumption

theorem State.onJobCommit_kept {r0 : State} {a0 : State} {a1 : List Byte} (ha0 : Kept r0 a0) : Kept r0 (State.onJobCommit a0 a1) := by
  unfold State.onJobCommit
  split
  · with_reducible assumption
  · refine Kept.ite ?_ ?_
    · with_reducible assumption
    · refine State.updSlot_kept ?_
      refine State.jobToSet_kept ?_
      with_reducible assumption

theorem State.onJobCancel_kept {r0 : State} {a0 : State} {a1 : List Byte} (ha0 : Kept r0 a0) : Kept r0 (State.onJobCancel a0 a1) := by
  unfold State.onJobCancel
  split
  · with_reducible assumption
  · refine Kept.ite ?_ ?_
    · with_reducible assumption
    · refine State.prepareEnds_kept ?_
      refine State.jobToSet_kept ?_
      with_reducible assumption

theorem State.onJobTeardown_kept {r0 : State} {a0 : State} {a1 : ℕ} {a2 : List Byte} (ha0 : Kept r0 a0) : Kept r0 (State.onJobTeardown a0 a1 a2) := by
  unfold State.onJobTeardown
  split
  · with_reducible assumption
  · refine State.jobToSet_kept ?_
    with_reducible assumption

theorem State.onJobAbort_kept {r0 : State} {a0 : State} {a1 : ℕ} {a2 : List Byte} (ha0 : Kept r0 a0) : Kept r0 (State.onJobAbort a0 a1 a2) := by
  unfold State.onJobAbort
  split
  · with_reducible assumption
  · refine State.abortJob_kept ?_
    with_reducible assumption

theorem onJob_kept {r0 : State} {a0 : State} {a1 : ℕ} {a2 : List Byte} (ha0 : Kept r0 a0) : Kept r0 (onJob a0 a1 a2) := by
  unfold onJob
  refine Kept.ite ?_ ?_
  · refine State.countMisc_kept ?_
    refine State.setFlag_kept ?_
    refine State.countFibre_kept ?_
    with_reducible assumption
  · refine Kept.ite ?_ ?_
    · with_reducible assumption
    · split
      · refine State.onJobAck_kept ?_
        with_reducible assumption
      · refine State.onJobShare_kept ?_
        with_reducible assumption
      · refine State.onJobCommit_kept ?_
        with_reducible assumption
      · refine State.onJobCancel_kept ?_
        with_reducible assumption
      · refine State.onJobTeardown_kept ?_
        with_reducible assumption
      · refine State.onJobAbort_kept ?_
        with_reducible assumption
      · with_reducible assumption

/-! ### NibProg -/

theorem State.modProgs_kept {r0 : State} {a0 : State} {a1 : ProgsSt → ProgsSt} (ha0 : Kept r0 a0) : Kept r0 (State.modProgs a0 a1) := by
  unfold State.modProgs
  exact ha0

theorem State.fetchProgram_kept {r0 a0 : State} {a1 a2 a3 : Nat} (ha0 : Kept r0 a0) : KeptO r0 (a0.fetchProgram a1 a2 a3) := by
  induction a3 generalizing a0 with
  | zero => exact KeptO.none
  | succ n ih =>
    unfold State.fetchProgram
    dsimp only
    refine KeptO.ite (KeptO.some (State.updNib_kept ha0)) ?_
    split
    · exact KeptO.none
    · exact ih (State.updNib_kept ha0)

theorem State.fetchPinned_kept {r0 : State} {a0 : State} {a1 : ℕ} (ha0 : Kept r0 a0) : Kept r0 (State.fetchPinned a0 a1) := by
  unfold State.fetchPinned
  refine State.forEach_kept ?_ ?_
  · with_reducible assumption
  · intro a0 a1 h2
    refine Kept.ite ?_ ?_
    · with_reducible assumption
    · split
      · refine KeptO.elim ?_ (by with_reducible assumption)
        refine State.fetchProgram_kept ?_
        with_reducible assumption
      · with_reducible assumption

theorem State.installImage_kept {r0 : State} {a0 : State} {a1 : List Byte} (ha0 : Kept r0 a0) : Kept r0 (State.installImage a0 a1) := by
  unfold State.installImage
  extract_lets x0 x1 x2
  split
  extract_lets x3 x4 x5 x6
  have hx4 : Kept r0 x4 := by
    unfold x4
    refine State.modProgs_kept ?_
    with_reducible assumption
  have hx5 : Kept r0 x5 := by
    unfold x5
    refine State.modProgs_kept ?_
    with_reducible assumption
  have hx6 : Kept r0 x6 := by
    unfold x6
    exact hx5
  refine Kept.ite ?_ ?_
  · with_reducible assumption
  · refine Kept.ite ?_ ?_
    · refine State.fetchPinned_kept ?_
      with_reducible assumption
    · with_reducible assumption

theorem State.nibFault_kept {r0 : State} {a0 : State} {a1 : ℕ} {a2 : ℕ} {a3 : ℕ} {a4 : ℕ} {a5 : ℕ} (ha0 : Kept r0 a0) : Kept r0 (State.nibFault a0 a1 a2 a3 a4 a5) := by
  unfold State.nibFault
  refine State.updNib_kept ?_
  refine State.countNib_kept ?_
  with_reducible assumption

theorem State.invokeFails_kept {r0 : State} {a0 : State} {a1 : ℕ} {a2 : ℕ} {a3 : ℕ} {a4 : ℕ} (ha0 : Kept r0 a0) : Kept r0 (State.invokeFails a0 a1 a2 a3 a4) := by
  unfold State.invokeFails
  extract_lets x0
  have hx0 : Kept r0 x0 := by
    unfold x0
    refine State.updNib_kept ?_
    with_reducible assumption
  refine State.failChunk_kept ?_
  refine State.sampleEvent_kept ?_
  with_reducible assumption

theorem State.startContext_kept {r0 : State} {a0 : State} {a1 : ℕ} (ha0 : Kept r0 a0) : Kept r0 (State.startContext a0 a1) := by
  unfold State.startContext
  extract_lets x0
  split
  · with_reducible assumption
  · split
    · extract_lets x1 x2
      refine Kept.ite ?_ ?_
      · with_reducible assumption
      · split
        · with_reducible assumption
        · extract_lets x3 x4
          have hx4 : Kept r0 x4 := by
            unfold x4
            refine State.updNib_kept ?_
            refine KeptOQ.elim ?_ (by with_reducible assumption)
            refine State.getBlocks_kept ?_
            with_reducible assumption
          refine State.updThread_kept ?_
          with_reducible assumption
    · with_reducible assumption

theorem State.writeScratch_kept {r0 : State} {a0 : State} {a1 : ℕ} {a2 : ℕ} {a3 : ℕ} {a4 : List Byte} (ha0 : Kept r0 a0) : Kept r0 (State.writeScratch a0 a1 a2 a3 a4) := by
  unfold State.writeScratch
  refine State.updNib_kept ?_
  refine State.updCtx_kept ?_
  with_reducible assumption

theorem State.endFault_kept {r0 : State} {a0 : State} {a1 : ℕ} {a2 : ℕ} (ha0 : Kept r0 a0) : Kept r0 (State.endFault a0 a1 a2) := by
  unfold State.endFault
  split
  · split
    · refine Kept.ite ?_ ?_
      · refine State.failChunk_kept ?_
        refine State.sampleEvent_kept ?_
        refine State.nibFault_kept ?_
        with_reducible assumption
      · with_reducible assumption
    · with_reducible assumption
  · with_reducible assumption

theorem State.progFault_kept {r0 : State} {a0 : State} {a1 : ℕ} {a2 : ℕ} {a3 : ℕ} (ha0 : Kept r0 a0) : Kept r0 (State.progFault a0 a1 a2 a3) := by
  unfold State.progFault
  refine State.endFault_kept ?_
  refine State.updCtx_kept ?_
  with_reducible assumption

theorem State.endHalt_kept {r0 : State} {a0 : State} {a1 : ℕ} {a2 : ℕ} (ha0 : Kept r0 a0) : Kept r0 (State.endHalt a0 a1 a2) := by
  unfold State.endHalt
  split
  · extract_lets x0 x1
    have hx1 : Kept r0 x1 := by
      unfold x1
      refine State.endContexts_kept ?_
      refine State.freeRows_kept ?_
      with_reducible assumption
    refine Kept.ite ?_ ?_
    · split
      · refine State.sendDone_kept ?_
        refine State.updThread_kept ?_
        with_reducible assumption
      · with_reducible assumption
    · with_reducible assumption
  · with_reducible assumption

theorem State.skidIssue_kept {r0 : State} {a0 : State} {a1 : ℕ} {a2 : ℕ} (ha0 : Kept r0 a0) : Kept r0 (State.skidIssue a0 a1 a2) := by
  unfold State.skidIssue
  extract_lets x0
  split
  · extract_lets x1
    refine Kept.ite ?_ ?_
    · with_reducible assumption
    · refine State.updNib_kept ?_
      with_reducible assumption
  · with_reducible assumption

theorem State.issueInstr_kept {r0 : State} {a0 : State} {a1 : ℕ} {a2 : ℕ} {a3 : ℕ} {a4 : State → Ctx → ℕ → State} (ha0 : Kept r0 a0) (ha4 : ∀ v0 v1 v2, Kept r0 v0 → Kept r0 (a4 v0 v1 v2)) : Kept r0 (State.issueInstr a0 a1 a2 a3 a4) := by
  unfold State.issueInstr
  extract_lets x0 x1 x2 x3
  have hx0 : Kept r0 x0 := by
    unfold x0
    refine State.updNib_kept ?_
    refine State.countNib_kept ?_
    with_reducible assumption
  have hx2 : Kept r0 x2 := by
    unfold x2
    refine State.updCtx_kept ?_
    with_reducible assumption
  have hx3 : Kept r0 x3 := by
    unfold x3
    refine State.samplePeriod_kept ?_
    refine State.skidIssue_kept ?_
    with_reducible assumption
  split
  · with_reducible assumption
  · extract_lets x4
    refine Kept.ite ?_ ?_
    · with_reducible assumption
    · refine Kept.ite ?_ ?_
      · refine State.progFault_kept ?_
        with_reducible assumption
      · split
        · refine ha4 _ _ _ ?_
          with_reducible assumption
        · with_reducible assumption

theorem State.goTo_kept {r0 : State} {a0 : State} {a1 : ℕ} {a2 : ℕ} {a3 : ℕ} (ha0 : Kept r0 a0) : Kept r0 (State.goTo a0 a1 a2 a3) := by
  unfold State.goTo
  refine State.updCtx_kept ?_
  with_reducible assumption

theorem State.goNext_kept {r0 : State} {a0 : State} {a1 : ℕ} {a2 : ℕ} {a3 : Ctx → Ctx} (ha0 : Kept r0 a0) : Kept r0 (State.goNext a0 a1 a2 a3) := by
  unfold State.goNext
  refine State.updCtx_kept ?_
  with_reducible assumption

theorem State.goAsync_kept {r0 : State} {a0 : State} {a1 : ℕ} {a2 : ℕ} {a3 : Ctx} {a4 : ℕ} {a5 : AsyncOp} {a6 : Async → Async} (ha0 : Kept r0 a0) : Kept r0 (State.goAsync a0 a1 a2 a3 a4 a5 a6) := by
  unfold State.goAsync
  extract_lets x0 x1
  refine State.goNext_kept ?_
  with_reducible assumption

theorem State.branchIf_kept {r0 : State} {a0 : State} {a1 : ℕ} {a2 : ℕ} {a3 : ℕ} {a4 : Bool} {a5 : Ctx → Ctx} (ha0 : Kept r0 a0) : Kept r0 (State.branchIf a0 a1 a2 a3 a4 a5) := by
  unfold State.branchIf
  refine Kept.ite ?_ ?_
  · refine State.updCtx_kept ?_
    with_reducible assumption
  · refine State.goNext_kept ?_
    with_reducible assumption

theorem State.eccGuard_kept {r0 : State} {a0 : State} {a1 : ℕ} {a2 : ℕ} {a3 : Ecc} {a4 : State → State} (ha0 : Kept r0 a0) (ha4 : ∀ v0, Kept r0 v0 → Kept r0 (a4 v0)) : Kept r0 (State.eccGuard a0 a1 a2 a3 a4) := by
  unfold State.eccGuard
  extract_lets x0
  have hx0 : Kept r0 x0 := by
    unfold x0
    refine State.nibEcc_kept ?_
    with_reducible assumption
  refine Kept.ite ?_ ?_
  · refine State.progFault_kept ?_
    with_reducible assumption
  · refine ha4 _ ?_
    with_reducible assumption

theorem State.doLdx_kept {r0 : State} {a0 : State} {a1 : ℕ} {a2 : ℕ} {a3 : Ecc} {a4 : Ctx} {a5 : ℕ} (ha0 : Kept r0 a0) : Kept r0 (State.doLdx a0 a1 a2 a3 a4 a5) := by
  unfold State.doLdx
  extract_lets x0 x1 x2
  refine Kept.ite ?_ ?_
  · refine State.progFault_kept ?_
    with_reducible assumption
  · refine Kept.ite ?_ ?_
    · refine State.progFault_kept ?_
      with_reducible assumption
    · refine State.eccGuard_kept ?_ ?_
      · with_reducible assumption
      · exact fun _ h => h

theorem State.doStx_kept {r0 : State} {a0 : State} {a1 : ℕ} {a2 : ℕ} {a3 : Ctx} {a4 : ℕ} (ha0 : Kept r0 a0) : Kept r0 (State.doStx a0 a1 a2 a3 a4) := by
  unfold State.doStx
  extract_lets x0 x1 x2
  refine Kept.ite ?_ ?_
  · refine State.progFault_kept ?_
    with_reducible assumption
  · refine Kept.ite ?_ ?_
    · refine State.progFault_kept ?_
      with_reducible assumption
    · refine State.writeScratch_kept ?_
      refine State.goNext_kept ?_
      with_reducible assumption

theorem State.recvDone_kept {r0 : State} {a0 : State} {a1 : ℕ} {a2 : ℕ} {a3 : Async} (ha0 : Kept r0 a0) : Kept r0 (State.recvDone a0 a1 a2 a3) := by
  unfold State.recvDone
  extract_lets x0 x1 x2 x3
  have hx2 : ∀ v4 v5, Kept r0 v4 → Kept r0 (x2 v4 v5) := by
    unfold x2
    intro a6 a7 h8
    refine State.progFault_kept ?_
    refine State.updCtx_kept ?_
    with_reducible assumption
  have hx3 : Kept r0 x3 := by
    unfold x3
    refine State.updCtx_kept ?_
    with_reducible assumption
  split
  · with_reducible assumption
  · extract_lets x9
    have hx9 : Kept r0 x9 := by
      unfold x9
      refine State.updThread_kept ?_
      with_reducible assumption
    split
    · with_reducible assumption
    · refine State.sampleEvent_kept ?_
      with_reducible assumption
    · extract_lets x10 x11 x12
      have hx12 : Kept r0 x12 := by
        unfold x12
        refine State.writeScratch_kept ?_
        refine State.updCtx_kept ?_
        with_reducible assumption
      refine Kept.ite ?_ ?_
      · unfold x2
        refine State.progFault_kept ?_
        refine State.updCtx_kept ?_
        with_reducible assumption
      · refine Kept.ite ?_ ?_
        · unfold x2
          refine State.progFault_kept ?_
          refine State.updCtx_kept ?_
          with_reducible assumption
        · refine State.sampleEvent_kept ?_
          with_reducible assumption

theorem State.doRecv_kept {r0 : State} {a0 : State} {a1 : ℕ} {a2 : ℕ} {a3 : Ctx} {a4 : ℕ} (ha0 : Kept r0 a0) : Kept r0 (State.doRecv a0 a1 a2 a3 a4) := by
  unfold State.doRecv
  extract_lets x0 x1 x2 x3 x4
  have hx2 : Kept r0 x2 := by
    unfold x2
    refine State.updCtx_kept ?_
    with_reducible assumption
  have hx4 : Kept r0 x4 := by
    unfold x4
    refine State.goNext_kept ?_
    with_reducible assumption
  refine Kept.ite ?_ ?_
  · with_reducible assumption
  · refine State.recvDone_kept ?_
    with_reducible assumption

theorem State.emitFrame_kept {r0 : State} {a0 : State} {a1 : ℕ} {a2 : ℕ} {a3 : ℕ} {a4 : ℕ} {a5 : Range} {a6 : ℕ} {a7 : ℕ} {a8 : ℕ} {a9 : ℕ} {a10 : ℕ} {a11 : Bool} {a12 : List Byte} (ha0 : Kept r0 a0) : Kept r0 (State.emitFrame a0 a1 a2 a3 a4 a5 a6 a7 a8 a9 a10 a11 a12) := by
  unfold State.emitFrame
  extract_lets x0 x1
  have hx0 : Kept r0 x0 := by
    unfold x0
    refine Kept.ite ?_ ?_
    · refine State.updThread_kept ?_
      with_reducible assumption
    · with_reducible assumption
  have hx1 : Kept r0 x1 := by
    unfold x1
    refine State.updCtx_kept ?_
    with_reducible assumption
  refine Kept.ite ?_ ?_
  · with_reducible assumption
  · refine State.sendToSet_kept ?_
    with_reducible assumption

theorem State.emitFrames_kept {r0 a0 : State} {a1 a2 a3 a4 : Nat} {a5 : Range} {a6 a7 a8 : Nat} {a9 : Bool} {a10 a11 : Nat}
    {a12 : List Byte} {a13 : Nat} (ha0 : Kept r0 a0) : Kept r0 (a0.emitFrames a1 a2 a3 a4 a5 a6 a7 a8 a9 a10 a11 a12 a13) := by
  induction a13 generalizing a0 a10 a11 a12 with
  | zero => exact ha0
  | succ n ih =>
    unfold State.emitFrames
    exact Kept.ite ha0 (ih (State.emitFrame_kept ha0))

theorem State.doEmit_kept {r0 : State} {a0 : State} {a1 : ℕ} {a2 : ℕ} {a3 : Ecc} {a4 : Ctx} {a5 : ℕ} (ha0 : Kept r0 a0) : Kept r0 (State.doEmit a0 a1 a2 a3 a4 a5) := by
  unfold State.doEmit
  extract_lets x0 x1 x2 x3 x4 x5 x6
  split
  · with_reducible assumption
  · refine Kept.ite ?_ ?_
    · refine State.progFault_kept ?_
      with_reducible assumption
    · refine Kept.ite ?_ ?_
      · refine State.progFault_kept ?_
        with_reducible assumption
      · refine Kept.ite ?_ ?_
        · refine State.progFault_kept ?_
          with_reducible assumption
        · refine Kept.ite ?_ ?_
          · refine State.progFault_kept ?_
            with_reducible assumption
          · refine Kept.ite ?_ ?_
            · refine State.progFault_kept ?_
              with_reducible assumption
            · refine State.eccGuard_kept ?_ ?_
              · with_reducible assumption
              · intro a7 h8
                extract_lets x9 x10
                have hx9 : Kept r0 x9 := by
                  unfold x9
                  refine State.goAsync_kept ?_
                  with_reducible assumption
                have hx10 : Kept r0 x10 := by
                  unfold x10
                  refine State.updCtx_kept ?_
                  with_reducible assumption
                refine State.emitFrames_kept ?_
                with_reducible assumption

theorem State.doCopy_kept {r0 a0 : State} {a1 a2 : Nat} {a3 : Ecc} {a4 : Ctx} {a5 : Nat} (ha0 : Kept r0 a0) :
    Kept r0 (State.doCopy a0 a1 a2 a3 a4 a5) := by
  unfold State.doCopy
  exact Kept.ite (State.progFault_kept ha0) (Kept.ite (State.progFault_kept ha0) (State.eccGuard_kept ha0
    (fun _ h => State.writeScratch_kept (State.goAsync_kept h))))

theorem State.doAcc_kept {r0 : State} {a0 : State} {a1 : ℕ} {a2 : ℕ} {a3 : Ecc} {a4 : Ctx} {a5 : ℕ} (ha0 : Kept r0 a0) : Kept r0 (State.doAcc a0 a1 a2 a3 a4 a5) := by
  unfold State.doAcc
  extract_lets x0 x1 x2 x3 x4
  split
  · refine State.progFault_kept ?_
    with_reducible assumption
  · refine Kept.ite ?_ ?_
    · refine State.progFault_kept ?_
      with_reducible assumption
    · refine State.eccGuard_kept ?_ ?_
      · with_reducible assumption
      · intro a5 h6
        split
        · refine State.progFault_kept ?_
          with_reducible assumption
        · refine State.progFault_kept ?_
          refine State.nibFlag_kept ?_
          with_reducible assumption
        · refine State.goAsync_kept ?_
          refine KeptE.elim ?_ (by with_reducible assumption)
          refine State.addTerms_kept ?_
          with_reducible assumption

theorem State.markRounded_kept {r0 : State} {a0 : State} {a1 : ℕ} {a2 : ℕ} {a3 : ℕ} {a4 : ℕ} {a5 : ℕ} {a6 : Bool} (ha0 : Kept r0 a0) : Kept r0 (State.markRounded a0 a1 a2 a3 a4 a5 a6) := by
  unfold State.markRounded
  extract_lets x0
  have hx0 : Kept r0 x0 := by
    unfold x0
    refine State.forEach_kept ?_ ?_
    · with_reducible assumption
    · intro a1 a2 h3
      extract_lets x4
      refine State.updRow_kept ?_
      with_reducible assumption
  refine Kept.ite ?_ ?_
  · refine State.updNib_kept ?_
    with_reducible assumption
  · with_reducible assumption

theorem State.doRound_kept {r0 : State} {a0 : State} {a1 : ℕ} {a2 : ℕ} {a3 : Ecc} {a4 : Ctx} {a5 : ℕ} (ha0 : Kept r0 a0) : Kept r0 (State.doRound a0 a1 a2 a3 a4 a5) := by
  unfold State.doRound
  extract_lets x0 x1 x2 x3 x4 x5
  have hx4 : Kept r0 x4 := by
    unfold x4
    refine State.nibEcc_kept ?_
    with_reducible assumption
  split
  · refine State.progFault_kept ?_
    with_reducible assumption
  · refine Kept.ite ?_ ?_
    · refine State.progFault_kept ?_
      with_reducible assumption
    · refine Kept.ite ?_ ?_
      · refine State.failChunk_kept ?_
        refine State.nibEcc_kept ?_
        with_reducible assumption
      · split
        split
        extract_lets x6 x7 x8
        have hx6 : Kept r0 x6 := by
          unfold x6
          refine State.convFlags_kept ?_
          refine KeptP.elim ?_ (by with_reducible assumption)
          refine State.elemValues_kept ?_
          with_reducible assumption
        have hx7 : Kept r0 x7 := by
          unfold x7
          refine Kept.ite ?_ ?_
          · refine State.sampleEvent_kept ?_
            with_reducible assumption
          · with_reducible assumption
        have hx8 : Kept r0 x8 := by
          unfold x8
          refine State.writeScratch_kept ?_
          refine State.goAsync_kept ?_
          with_reducible assumption
        refine State.markRounded_kept ?_
        with_reducible assumption

end Sys2Proof.Machine
end

