-- ==== Sys2Proof/Laws/Kept4.lean ====
section
/-!
SUPPORT. What the operations and commands of these files keep: RingIssue, HostOps, LinkOps, FlashOps, FaultOps, ChopOps, SecOps.
-/

set_option Elab.async false

namespace Sys2Proof.Machine

/-! ### RingIssue -/

theorem State.takeDesc_kept {r0 : State} {a0 : State} {a1 : ℕ} {a2 : Desc} {a3 : ℕ} (ha0 : Kept r0 a0) : Kept r0 (State.takeDesc a0 a1 a2 a3) := by
  unfold State.takeDesc
  refine State.countCp_kept ?_
  refine State.updRing_kept ?_
  with_reducible assumption

theorem State.rangeIssued_kept {r0 : State} {a0 : State} {a1 : Register} (ha0 : Kept r0 a0) : Kept r0 (State.rangeIssued a0 a1) := by
  unfold State.rangeIssued
  extract_lets x0 x1
  have hx0 : Kept r0 x0 := by
    unfold x0
    refine State.modColl_kept ?_
    with_reducible assumption
  refine State.registerRange_kept ?_
  refine State.takeDesc_kept ?_
  refine State.updRing_kept ?_
  with_reducible assumption

theorem State.rangeRefused_kept {r0 : State} {a0 : State} {a1 : Register} {a2 : ℕ} (ha0 : Kept r0 a0) : Kept r0 (State.rangeRefused a0 a1 a2) := by
  unfold State.rangeRefused
  extract_lets x0 x1
  have hx0 : Kept r0 x0 := by
    unfold x0
    refine State.modColl_kept ?_
    with_reducible assumption
  refine State.completeDesc_kept ?_
  refine State.takeDesc_kept ?_
  refine State.updRing_kept ?_
  with_reducible assumption

theorem State.issueRange_kept {r0 : State} {a0 : State} {a1 : ℕ} {a2 : Desc} {a3 : ℕ} {a4 : List Byte} {a5 : List ℕ} (ha0 : Kept r0 a0) : Kept r0 (State.issueRange a0 a1 a2 a3 a4 a5) := by
  unfold State.issueRange
  extract_lets x0 x1 x2
  have hx2 : Kept r0 x2 := by
    unfold x2
    refine State.setFlag_kept ?_
    refine State.countCp_kept ?_
    with_reducible assumption
  split
  · extract_lets x3
    refine State.completeDesc_kept ?_
    refine State.takeDesc_kept ?_
    with_reducible assumption
  · refine Kept.ite ?_ ?_
    · refine State.rangeIssued_kept ?_
      with_reducible assumption
    · refine State.updRing_kept ?_
      refine State.modColl_kept ?_
      with_reducible assumption

theorem State.issueSemOp_kept {r0 : State} {a0 : State} {a1 : ℕ} {a2 : Desc} {a3 : List Byte} (ha0 : Kept r0 a0) : Kept r0 (State.issueSemOp a0 a1 a2 a3) := by
  unfold State.issueSemOp
  extract_lets x0 x1 x2 x3 x4 x5 x6 x7 x8
  have hx2 : ∀ v9 v10, Kept r0 v9 → Kept r0 (x2 v9 v10) := by
    unfold x2
    intro a11 a12 h13
    refine State.completeDesc_kept ?_
    with_reducible assumption
  have hx8 : Kept r0 x8 := by
    unfold x8
    refine State.takeDesc_kept ?_
    with_reducible assumption
  refine Kept.ite ?_ ?_
  · unfold x2
    refine State.completeDesc_kept ?_
    with_reducible assumption
  · refine Kept.ite ?_ ?_
    · unfold x2
      refine State.completeDesc_kept ?_
      with_reducible assumption
    · refine Kept.ite ?_ ?_
      · unfold x2
        refine State.completeDesc_kept ?_
        with_reducible assumption
      · refine Kept.ite ?_ ?_
        · unfold x2
          refine State.completeDesc_kept ?_
          with_reducible assumption
        · refine Kept.ite ?_ ?_
          · unfold x2
            refine State.completeDesc_kept ?_
            with_reducible assumption
          · refine Kept.ite ?_ ?_
            · refine Kept.ite ?_ ?_
              · unfold x2
                refine State.completeDesc_kept ?_
                refine State.countCp_kept ?_
                with_reducible assumption
              · refine State.updRing_kept ?_
                refine State.modColl_kept ?_
                refine State.countCp_kept ?_
                with_reducible assumption
            · split
              · unfold x2
                refine State.completeDesc_kept ?_
                refine KeptO.elim ?_ (by with_reducible assumption)
                refine KeptO.ite ?_ ?_
                · refine State.semAdd_kept ?_
                  with_reducible assumption
                · refine State.semSub_kept ?_
                  with_reducible assumption
              · unfold x2
                refine State.completeDesc_kept ?_
                with_reducible assumption

theorem State.issueSemSave_kept {r0 : State} {a0 : State} {a1 : ℕ} {a2 : Desc} {a3 : List Byte} (ha0 : Kept r0 a0) : Kept r0 (State.issueSemSave a0 a1 a2 a3) := by
  unfold State.issueSemSave
  extract_lets x0 x1 x2
  have hx1 : Kept r0 x1 := by
    unfold x1
    refine State.takeDesc_kept ?_
    with_reducible assumption
  have hx2 : ∀ v3 v4, Kept r0 v3 → Kept r0 (x2 v3 v4) := by
    unfold x2
    intro a5 a6 h7
    refine State.completeDesc_kept ?_
    with_reducible assumption
  split
  · unfold x2
    refine State.completeDesc_kept ?_
    refine Kept.ite ?_ ?_
    · refine State.dmaError_kept ?_
      with_reducible assumption
    · with_reducible assumption
  · split
    · unfold x2
      refine State.completeDesc_kept ?_
      refine State.countCp_kept ?_
      refine KeptO.elim ?_ (by with_reducible assumption)
      refine State.dmaWrite_kept ?_
      with_reducible assumption
    · unfold x2
      refine State.completeDesc_kept ?_
      refine State.dmaError_kept ?_
      with_reducible assumption

theorem State.issueSemRestore_kept {r0 : State} {a0 : State} {a1 : ℕ} {a2 : Desc} {a3 : List Byte} (ha0 : Kept r0 a0) : Kept r0 (State.issueSemRestore a0 a1 a2 a3) := by
  unfold State.issueSemRestore
  extract_lets x0 x1 x2 x3 x4 x5 x6
  have hx2 : Kept r0 x2 := by
    unfold x2
    refine State.takeDesc_kept ?_
    with_reducible assumption
  have hx3 : ∀ v7 v8, Kept r0 v7 → Kept r0 (x3 v7 v8) := by
    unfold x3
    intro a9 a10 h11
    refine State.completeDesc_kept ?_
    with_reducible assumption
  split
  · unfold x3
    refine State.completeDesc_kept ?_
    with_reducible assumption
  · split
    · unfold x3
      refine State.completeDesc_kept ?_
      refine State.dmaError_kept ?_
      refine KeptP.elim ?_ (by with_reducible assumption)
      refine State.dmaRead_kept ?_
      with_reducible assumption
    · extract_lets x12 x13 x14 x15
      have hx15 : Kept r0 x15 := by
        unfold x15
        refine State.countCp_kept ?_
        refine State.modColl_kept ?_
        refine KeptP.elim ?_ (by with_reducible assumption)
        refine State.dmaRead_kept ?_
        with_reducible assumption
      refine Kept.ite ?_ ?_
      · unfold x3
        refine State.completeDesc_kept ?_
        refine KeptP.elim ?_ (by with_reducible assumption)
        refine State.dmaRead_kept ?_
        with_reducible assumption
      · refine Kept.ite ?_ ?_
        · unfold x3
          refine State.completeDesc_kept ?_
          refine State.setFlag_kept ?_
          refine KeptP.elim ?_ (by with_reducible assumption)
          refine State.dmaRead_kept ?_
          with_reducible assumption
        · unfold x3
          refine State.completeDesc_kept ?_
          with_reducible assumption

theorem State.installNow_kept {r0 : State} {a0 : State} {a1 : ℕ} {a2 : ℕ} {a3 : ℕ} {a4 : ℕ} (ha0 : Kept r0 a0) : Kept r0 (State.installNow a0 a1 a2 a3 a4) := by
  unfold State.installNow
  split
  · refine State.completeDesc_kept ?_
    refine State.dmaError_kept ?_
    refine KeptP.elim ?_ (by with_reducible assumption)
    refine State.dmaRead_kept ?_
    with_reducible assumption
  · extract_lets x0 x1
    have hx0 : Kept r0 x0 := by
      unfold x0
      refine State.installImage_kept ?_
      refine KeptP.elim ?_ (by with_reducible assumption)
      refine State.dmaRead_kept ?_
      with_reducible assumption
    refine State.completeDesc_kept ?_
    with_reducible assumption

theorem State.issueInstall_kept {r0 : State} {a0 : State} {a1 : ℕ} {a2 : Desc} {a3 : List Byte} (ha0 : Kept r0 a0) : Kept r0 (State.issueInstall a0 a1 a2 a3) := by
  unfold State.issueInstall
  extract_lets x0 x1 x2
  have hx2 : Kept r0 x2 := by
    unfold x2
    refine State.takeDesc_kept ?_
    with_reducible assumption
  refine Kept.ite ?_ ?_
  · refine State.completeDesc_kept ?_
    with_reducible assumption
  · refine Kept.ite ?_ ?_
    · refine State.updRing_kept ?_
      with_reducible assumption
    · refine State.installNow_kept ?_
      with_reducible assumption

theorem State.resumeInstalls_kept {r0 : State} {a0 : State} (ha0 : Kept r0 a0) : Kept r0 (State.resumeInstalls a0) := by
  unfold State.resumeInstalls
  refine Kept.ite ?_ ?_
  · with_reducible assumption
  · refine State.forEach_kept ?_ ?_
    · with_reducible assumption
    · intro a0 a1 h2
      refine State.installNow_kept ?_
      refine State.updRing_kept ?_
      with_reducible assumption

theorem State.copyLines_kept {r0 a0 : State} {a1 : Nat} {a2 : CopyJob} {a3 : Nat × Window} {a4 a5 : Nat} (ha0 : Kept r0 a0) :
    Kept r0 (a0.copyLines a1 a2 a3 a4 a5) := by
  induction a5 generalizing a0 a4 with
  | zero => exact ha0
  | succ n ih =>
    unfold State.copyLines
    dsimp only
    refine Kept.ite ha0 ?_
    have hr : KeptP r0 (if a2.dir then (some [], a0) else a0.dmaRead (a0.ringDomain a1) (a2.hostAddr + 64 * a4) 64) :=
      KeptP.ite (KeptP.mk ha0) (State.dmaRead_kept ha0)
    split
    · exact State.reviewCopy_kept (State.modHost_kept (State.dmaError_kept (KeptP.elim hr (by assumption))))
    · have hs := KeptP.elim hr (by assumption)
      exact Kept.ite (State.reviewCopy_kept (State.modHost_kept hs)) (ih (State.placeReq_kept hs))

theorem State.issueCopy_kept {r0 : State} {a0 : State} {a1 : ℕ} {a2 : Desc} {a3 : List Byte} (ha0 : Kept r0 a0) : Kept r0 (State.issueCopy a0 a1 a2 a3) := by
  unfold State.issueCopy
  extract_lets x0 x1 x2 x3 x4 x5 x6 x7 x8
  have hx5 : Kept r0 x5 := by
    unfold x5
    refine State.takeDesc_kept ?_
    with_reducible assumption
  have hx6 : ∀ v9 v10, Kept r0 v9 → Kept r0 (x6 v9 v10) := by
    unfold x6
    intro a11 a12 h13
    refine State.completeDesc_kept ?_
    with_reducible assumption
  refine Kept.ite ?_ ?_
  · unfold x6
    refine State.completeDesc_kept ?_
    with_reducible assumption
  · split
    · unfold x6
      refine State.completeDesc_kept ?_
      with_reducible assumption
    · refine State.copyLines_kept ?_
      refine State.modHost_kept ?_
      with_reducible assumption

theorem State.issueBody_kept {r0 : State} {a0 : State} {a1 : ℕ} {a2 : Desc} {a3 : ℕ} {a4 : List Byte} {a5 : List ℕ} (ha0 : Kept r0 a0) : Kept r0 (State.issueBody a0 a1 a2 a3 a4 a5) := by
  unfold State.issueBody
  extract_lets x0 x1 x2
  have hx1 : ∀ v3 v4, Kept r0 v3 → Kept r0 (x1 v3 v4) := by
    unfold x1
    intro a5 a6 h7
    refine State.completeDesc_kept ?_
    with_reducible assumption
  have hx2 : Kept r0 x2 := by
    unfold x2
    refine State.takeDesc_kept ?_
    with_reducible assumption
  split
  · unfold x1
    refine State.completeDesc_kept ?_
    refine State.takeDesc_kept ?_
    with_reducible assumption
  · refine State.issueInstall_kept ?_
    with_reducible assumption
  · refine State.issueCopy_kept ?_
    with_reducible assumption
  · refine State.issueSemOp_kept ?_
    with_reducible assumption
  · refine State.issueSemSave_kept ?_
    with_reducible assumption
  · refine State.issueSemRestore_kept ?_
    with_reducible assumption
  · refine State.jobPrepare_kept ?_
    refine State.takeDesc_kept ?_
    with_reducible assumption
  · refine Kept.ite ?_ ?_
    · unfold x1
      refine State.completeDesc_kept ?_
      with_reducible assumption
    · refine State.jobTeardown_kept ?_
      with_reducible assumption
  · refine Kept.ite ?_ ?_
    · unfold x1
      refine State.completeDesc_kept ?_
      with_reducible assumption
    · refine State.jobAbortOp_kept ?_
      with_reducible assumption
  · refine State.issueRange_kept ?_
    with_reducible assumption

theorem State.issueHead_kept {r0 : State} {a0 : State} {a1 : ℕ} {a2 : List ℕ} {a3 : List Byte → Bool} (ha0 : Kept r0 a0) : Kept r0 (State.issueHead a0 a1 a2 a3) := by
  unfold State.issueHead
  extract_lets x0
  refine Kept.ite ?_ ?_
  · with_reducible assumption
  · split
    · refine Kept.ite ?_ ?_
      · refine State.haltRing_kept ?_
        refine KeptP.elim ?_ (by with_reducible assumption)
        refine State.dmaRead_kept ?_
        with_reducible assumption
      · with_reducible assumption
    · extract_lets x1 x2 x3 x4
      refine Kept.ite ?_ ?_
      · with_reducible assumption
      · split
        · refine State.haltRing_kept ?_
          refine KeptP.elim ?_ (by with_reducible assumption)
          refine KeptP.ite ?_ ?_
          · refine State.dmaRead_kept ?_
            refine KeptP.elim ?_ (by with_reducible assumption)
            refine State.dmaRead_kept ?_
            with_reducible assumption
          · refine KeptP.mk ?_
            refine KeptP.elim ?_ (by with_reducible assumption)
            refine State.dmaRead_kept ?_
            with_reducible assumption
        · extract_lets x5 x6
          have hx6 : Kept r0 x6 := by
            unfold x6
            refine State.countHost_kept ?_
            refine State.modHost_kept ?_
            refine KeptP.elim ?_ (by with_reducible assumption)
            refine KeptP.ite ?_ ?_
            · refine State.dmaRead_kept ?_
              refine KeptP.elim ?_ (by with_reducible assumption)
              refine State.dmaRead_kept ?_
              with_reducible assumption
            · refine KeptP.mk ?_
              refine KeptP.elim ?_ (by with_reducible assumption)
              refine State.dmaRead_kept ?_
              with_reducible assumption
          split
          · refine State.completeDesc_kept ?_
            refine State.takeDesc_kept ?_
            with_reducible assumption
          · refine State.issueBody_kept ?_
            with_reducible assumption

/-! ### HostOps -/

theorem State.bootChanged_kept {r0 : State} {a0 : State} (ha0 : Kept r0 a0) : Kept r0 (State.bootChanged a0) := by
  unfold State.bootChanged
  refine State.forEach_kept ?_ ?_
  · with_reducible assumption
  · intro a0 a1 h2
    refine State.hostEvent_kept ?_
    with_reducible assumption

theorem State.markDone_kept {r0 : State} {a0 : State} {a1 : ℕ} {a2 : Bool} (ha0 : Kept r0 a0) : Kept r0 (State.markDone a0 a1 a2) := by
  unfold State.markDone
  refine Kept.ite ?_ ?_
  · with_reducible assumption
  · refine State.bootChanged_kept ?_
    refine State.setDone_kept ?_
    with_reducible assumption

theorem State.dropHold_kept {r0 : State} {a0 : State} {a1 : ℕ} (ha0 : Kept r0 a0) : Kept r0 (State.dropHold a0 a1) := by
  unfold State.dropHold
  extract_lets x0
  have hx0 : Kept r0 x0 := by
    unfold x0
    refine State.modColl_kept ?_
    with_reducible assumption
  refine State.updRing_kept ?_
  with_reducible assumption

theorem State.resetRing_kept {r0 : State} {a0 : State} {a1 : ℕ} (ha0 : Kept r0 a0) : Kept r0 (State.resetRing a0 a1) := by
  unfold State.resetRing
  extract_lets x0
  refine State.updRing_kept ?_
  refine State.dropHold_kept ?_
  with_reducible assumption

theorem State.resetFunction_kept {r0 : State} {a0 : State} {a1 : ℕ} (ha0 : Kept r0 a0) : Kept r0 (State.resetFunction a0 a1) := by
  unfold State.resetFunction
  extract_lets x0
  have hx0 : Kept r0 x0 := by
    unfold x0
    refine State.forEach_kept ?_ ?_
    · with_reducible assumption
    · intro a1 a2 h3
      refine State.resetRing_kept ?_
      with_reducible assumption
  refine State.updFunc_kept ?_
  with_reducible assumption

theorem State.resetPf_kept {r0 : State} {a0 : State} {a1 : Bool} (ha0 : Kept r0 a0) : Kept r0 (State.resetPf a0 a1) := by
  unfold State.resetPf
  refine State.updPort_kept ?_
  refine State.forEach_kept ?_ ?_
  · with_reducible assumption
  · intro a0 a1 h2
    refine State.resetFunction_kept ?_
    with_reducible assumption

theorem State.portLinkDown_kept {r0 : State} {a0 : State} {a1 : Bool} (ha0 : Kept r0 a0) : Kept r0 (State.portLinkDown a0 a1) := by
  unfold State.portLinkDown
  extract_lets x0 x1 x2
  have hx2 : Kept r0 x2 := by
    unfold x2
    refine State.modHost_kept ?_
    with_reducible assumption
  refine State.updPort_kept ?_
  refine State.resetPf_kept ?_
  with_reducible assumption

/-! ### LinkOps -/

theorem linkDown_kept {r0 : State} {a0 : State} {a1 : ℕ} {a2 : LinkState} (ha0 : Kept r0 a0) : Kept r0 (linkDown a0 a1 a2) := by
  unfold linkDown
  extract_lets x0 x1 x2 x3
  have hx1 : Kept r0 x1 := by
    unfold x1
    refine State.updLink_kept ?_
    with_reducible assumption
  have hx2 : Kept r0 x2 := by
    unfold x2
    refine State.countMisc_kept ?_
    with_reducible assumption
  have hx3 : Kept r0 x3 := by
    unfold x3
    refine State.countFibre_kept ?_
    refine State.setFlag_kept ?_
    with_reducible assumption
  refine Kept.ite ?_ ?_
  · refine abortJobsOnLink_kept ?_
    refine dropLinkQueues_kept ?_
    with_reducible assumption
  · with_reducible assumption

theorem linkComesUp_kept {r0 : State} {a0 : State} {a1 : ℕ} {a2 : LinkState} (ha0 : Kept r0 a0) : Kept r0 (linkComesUp a0 a1 a2) := by
  unfold linkComesUp
  refine State.updLink_kept ?_
  with_reducible assumption

theorem reviewLink_kept {r0 : State} {a0 : State} {a1 : ℕ} (ha0 : Kept r0 a0) : Kept r0 (reviewLink a0 a1) := by
  unfold reviewLink
  extract_lets x0 x1 x2
  split
  · refine Kept.ite ?_ ?_
    · refine linkComesUp_kept ?_
      with_reducible assumption
    · with_reducible assumption
  · refine Kept.ite ?_ ?_
    · refine State.updLink_kept ?_
      with_reducible assumption
    · refine linkDown_kept ?_
      with_reducible assumption
  · refine Kept.ite ?_ ?_
    · refine State.updLink_kept ?_
      with_reducible assumption
    · refine linkDown_kept ?_
      with_reducible assumption
  · with_reducible assumption

theorem replayFrom_kept {r0 : State} {a0 : State} {a1 : ℕ} {a2 : ℕ} {a3 : Bool} (ha0 : Kept r0 a0) : Kept r0 (replayFrom a0 a1 a2 a3) := by
  unfold replayFrom
  extract_lets x0 x1 x2 x3 x4 x5 x6
  have hx4 : Kept r0 x4 := by
    unfold x4
    refine Kept.foldl ?_ ?_
    · with_reducible assumption
    · intro a7 a8 h9
      split
      refine State.emit_kept ?_
      with_reducible assumption
  have hx5 : Kept r0 x5 := by
    unfold x5
    refine State.updLink_kept ?_
    with_reducible assumption
  have hx6 : Kept r0 x6 := by
    unfold x6
    refine State.setFlag_kept ?_
    with_reducible assumption
  refine Kept.ite ?_ ?_
  · with_reducible assumption
  · refine State.countFibre_kept ?_
    refine State.count_kept ?_
    with_reducible assumption

theorem abandonTrial_kept {r0 : State} {a0 : State} {a1 : ℕ} (ha0 : Kept r0 a0) : Kept r0 (abandonTrial a0 a1) := by
  unfold abandonTrial
  split
  · refine State.updFibre_kept ?_
    refine State.updLane_kept ?_
    with_reducible assumption
  · with_reducible assumption

theorem laneExit_kept {r0 : State} {a0 : State} {a1 : ℕ} {a2 : ℕ} {a3 : Lane → Lane} (ha0 : Kept r0 a0) : Kept r0 (laneExit a0 a1 a2 a3) := by
  unfold laneExit
  extract_lets x0 x1 x2 x3
  have hx2 : Kept r0 x2 := by
    unfold x2
    refine Kept.ite ?_ ?_
    · refine abandonTrial_kept ?_
      with_reducible assumption
    · with_reducible assumption
  have hx3 : Kept r0 x3 := by
    unfold x3
    refine State.countFibre_kept ?_
    refine State.setFlag_kept ?_
    with_reducible assumption
  refine Kept.ite ?_ ?_
  · refine State.updLane_kept ?_
    with_reducible assumption
  · refine State.updLane_kept ?_
    with_reducible assumption

theorem laneRestart_kept {r0 : State} {a0 : State} {a1 : ℕ} {a2 : ℕ} (ha0 : Kept r0 a0) : Kept r0 (laneRestart a0 a1 a2) := by
  unfold laneRestart
  refine laneExit_kept ?_
  with_reducible assumption

theorem laneOut_kept {r0 : State} {a0 : State} {a1 : ℕ} {a2 : ℕ} {a3 : Hold} (ha0 : Kept r0 a0) : Kept r0 (laneOut a0 a1 a2 a3) := by
  unfold laneOut
  refine laneExit_kept ?_
  with_reducible assumption

theorem laneHoldOwn_kept {r0 : State} {a0 : State} {a1 : ℕ} {a2 : ℕ} {a3 : Hold} (ha0 : Kept r0 a0) : Kept r0 (laneHoldOwn a0 a1 a2 a3) := by
  unfold laneHoldOwn
  extract_lets x0
  refine Kept.ite ?_ ?_
  · refine State.updLane_kept ?_
    with_reducible assumption
  · refine laneRestart_kept ?_
    refine State.updLane_kept ?_
    with_reducible assumption

theorem releaseOwn_kept {r0 : State} {a0 : State} {a1 : ℕ} {a2 : ℕ} {a3 : Hold} (ha0 : Kept r0 a0) : Kept r0 (releaseOwn a0 a1 a2 a3) := by
  unfold releaseOwn
  extract_lets x0 x1
  have hx1 : Kept r0 x1 := by
    unfold x1
    refine State.updLane_kept ?_
    with_reducible assumption
  refine Kept.ite ?_ ?_
  · refine laneRestart_kept ?_
    with_reducible assumption
  · with_reducible assumption

theorem laneLeaves_kept {r0 : State} {a0 : State} {a1 : ℕ} {a2 : ℕ} {a3 : State → State} (ha0 : Kept r0 a0) (ha3 : ∀ v0, Kept r0 v0 → Kept r0 (a3 v0)) : Kept r0 (laneLeaves a0 a1 a2 a3) := by
  unfold laneLeaves
  extract_lets x0 x1 x2 x3 x4
  have hx3 : Kept r0 x3 := by
    unfold x3
    refine State.updLink_kept ?_
    refine ha3 _ ?_
    with_reducible assumption
  have hx4 : Kept r0 x4 := by
    unfold x4
    refine reviewLink_kept ?_
    with_reducible assumption
  refine Kept.ite ?_ ?_
  · clear_value x2
    split
    · refine replayFrom_kept ?_
      with_reducible assumption
    · with_reducible assumption
  · refine linkDown_kept ?_
    with_reducible assumption

theorem laneFault_kept {r0 : State} {a0 : State} {a1 : ℕ} {a2 : ℕ} {a3 : LaneFault} (ha0 : Kept r0 a0) : Kept r0 (laneFault a0 a1 a2 a3) := by
  unfold laneFault
  refine Kept.ite ?_ ?_
  · with_reducible assumption
  · split
    · refine Kept.ite ?_ ?_
      · refine laneRestart_kept ?_
        with_reducible assumption
      · refine laneLeaves_kept ?_ ?_
        · with_reducible assumption
        · intro a0 h1
          extract_lets x2
          have hx2 : Kept r0 x2 := by
            unfold x2
            refine laneRestart_kept ?_
            with_reducible assumption
          refine Kept.ite ?_ ?_
          · refine sendSeq_kept ?_
            with_reducible assumption
          · with_reducible assumption
    · refine laneRestart_kept ?_
      with_reducible assumption
    · refine laneRestart_kept ?_
      with_reducible assumption
    · with_reducible assumption

theorem laneStart_kept {r0 : State} {a0 : State} {a1 : ℕ} {a2 : ℕ} (ha0 : Kept r0 a0) : Kept r0 (laneStart a0 a1 a2) := by
  unfold laneStart
  extract_lets x0
  refine Kept.ite ?_ ?_
  · with_reducible assumption
  · refine Kept.ite ?_ ?_
    · refine laneRestart_kept ?_
      with_reducible assumption
    · refine Kept.ite ?_ ?_
      · refine State.updLane_kept ?_
        with_reducible assumption
      · with_reducible assumption

theorem linkRestart_kept {r0 : State} {a0 : State} {a1 : ℕ} (ha0 : Kept r0 a0) : Kept r0 (linkRestart a0 a1) := by
  unfold linkRestart
  extract_lets x0
  have hx0 : Kept r0 x0 := by
    unfold x0
    refine linkDown_kept ?_
    with_reducible assumption
  refine State.updLink_kept ?_
  with_reducible assumption

theorem restartFibre_kept {r0 : State} {a0 : State} {a1 : ℕ} (ha0 : Kept r0 a0) : Kept r0 (restartFibre a0 a1) := by
  unfold restartFibre
  extract_lets x0
  have hx0 : Kept r0 x0 := by
    unfold x0
    refine State.forEach_kept ?_ ?_
    · with_reducible assumption
    · intro a1 a2 h3
      refine laneStart_kept ?_
      with_reducible assumption
  refine State.forEach_kept ?_ ?_
  · with_reducible assumption
  · intro a4 a5 h6
    refine linkRestart_kept ?_
    with_reducible assumption

theorem holdFibre_kept {r0 : State} {a0 : State} {a1 : ℕ} {a2 : Hold} (ha0 : Kept r0 a0) : Kept r0 (holdFibre a0 a1 a2) := by
  unfold holdFibre
  extract_lets x0 x1
  have hx0 : Kept r0 x0 := by
    unfold x0
    refine State.updFibre_kept ?_
    with_reducible assumption
  have hx1 : Kept r0 x1 := by
    unfold x1
    refine State.forEach_kept ?_ ?_
    · with_reducible assumption
    · intro a2 a3 h4
      refine Kept.ite ?_ ?_
      · refine laneStart_kept ?_
        with_reducible assumption
      · refine laneRestart_kept ?_
        with_reducible assumption
  refine State.forEach_kept ?_ ?_
  · with_reducible assumption
  · intro a5 a6 h7
    refine State.updLink_kept ?_
    refine linkDown_kept ?_
    with_reducible assumption

theorem releaseFibre_kept {r0 : State} {a0 : State} {a1 : ℕ} (ha0 : Kept r0 a0) : Kept r0 (releaseFibre a0 a1) := by
  unfold releaseFibre
  extract_lets x0 x1 x2
  have hx1 : Kept r0 x1 := by
    unfold x1
    refine State.updFibre_kept ?_
    with_reducible assumption
  have hx2 : Kept r0 x2 := by
    unfold x2
    refine State.forEach_kept ?_ ?_
    · with_reducible assumption
    · intro a3 a4 h5
      refine Kept.ite ?_ ?_
      · refine laneRestart_kept ?_
        with_reducible assumption
      · with_reducible assumption
  refine State.forEach_kept ?_ ?_
  · with_reducible assumption
  · intro a6 a7 h8
    refine linkRestart_kept ?_
    with_reducible assumption

theorem compareEnds_kept {r0 : State} {a0 : State} {a1 : ℕ} (ha0 : Kept r0 a0) : Kept r0 (compareEnds a0 a1) := by
  unfold compareEnds
  extract_lets x0
  split
  · with_reducible assumption
  · extract_lets x1
    refine Kept.ite ?_ ?_
    · refine Kept.ite ?_ ?_
      · refine holdFibre_kept ?_
        refine State.setFlag_kept ?_
        with_reducible assumption
      · with_reducible assumption
    · refine Kept.ite ?_ ?_
      · refine releaseFibre_kept ?_
        with_reducible assumption
      · with_reducible assumption

theorem reviewReach_kept {r0 : State} {a0 : State} {a1 : ℕ} (ha0 : Kept r0 a0) : Kept r0 (reviewReach a0 a1) := by
  unfold reviewReach
  extract_lets x0 x1 x2
  refine Kept.ite ?_ ?_
  · refine Kept.ite ?_ ?_
    · refine holdFibre_kept ?_
      refine State.setFlagIf_kept ?_
      with_reducible assumption
    · with_reducible assumption
  · refine Kept.ite ?_ ?_
    · refine releaseFibre_kept ?_
      with_reducible assumption
    · with_reducible assumption

theorem reviewFarLanes_kept {r0 : State} {a0 : State} {a1 : ℕ} (ha0 : Kept r0 a0) : Kept r0 (reviewFarLanes a0 a1) := by
  unfold reviewFarLanes
  refine State.forEach_kept ?_ ?_
  · with_reducible assumption
  · intro a0 a1 h2
    refine Kept.ite ?_ ?_
    · refine laneStart_kept ?_
      with_reducible assumption
    · refine Kept.ite ?_ ?_
      · refine laneLeaves_kept ?_ ?_
        · with_reducible assumption
        · intro a3 h4
          refine laneOut_kept ?_
          with_reducible assumption
      · refine laneOut_kept ?_
        with_reducible assumption

theorem marginLost_kept {r0 : State} {a0 : State} {a1 : ℕ} (ha0 : Kept r0 a0) : Kept r0 (marginLost a0 a1) := by
  unfold marginLost
  extract_lets x0
  have hx0 : Kept r0 x0 := by
    unfold x0
    refine resetMargin_kept ?_
    with_reducible assumption
  refine State.updFibre_kept ?_
  with_reducible assumption

theorem fibreLinksDown_kept {r0 : State} {a0 : State} {a1 : ℕ} {a2 : LinkState} (ha0 : Kept r0 a0) : Kept r0 (fibreLinksDown a0 a1 a2) := by
  unfold fibreLinksDown
  refine State.forEach_kept ?_ ?_
  · with_reducible assumption
  · intro a0 a1 h2
    extract_lets x3
    refine Kept.ite ?_ ?_
    · with_reducible assumption
    · refine linkDown_kept ?_
      with_reducible assumption

theorem rxLos_kept {r0 : State} {a0 : State} {a1 : ℕ} (ha0 : Kept r0 a0) : Kept r0 (rxLos a0 a1) := by
  unfold rxLos
  extract_lets x0 x1 x2 x3
  have hx0 : Kept r0 x0 := by
    unfold x0
    refine State.countFibre_kept ?_
    refine State.setFlag_kept ?_
    with_reducible assumption
  have hx1 : Kept r0 x1 := by
    unfold x1
    refine marginLost_kept ?_
    with_reducible assumption
  have hx2 : Kept r0 x2 := by
    unfold x2
    refine State.updFibre_kept ?_
    with_reducible assumption
  have hx3 : Kept r0 x3 := by
    unfold x3
    refine fibreLinksDown_kept ?_
    with_reducible assumption
  refine State.forEach_kept ?_ ?_
  · with_reducible assumption
  · intro a4 a5 h6
    refine Kept.ite ?_ ?_
    · with_reducible assumption
    · refine Kept.ite ?_ ?_
      · refine laneRestart_kept ?_
        with_reducible assumption
      · refine laneOut_kept ?_
        with_reducible assumption

/-! ### FlashOps -/

theorem State.storeData_kept {r0 : State} {a0 : State} {a1 : ℕ} {a2 : List Byte} (ha0 : Kept r0 a0) : Kept r0 (State.storeData a0 a1 a2) := by
  unfold State.storeData
  split
  · exact ha0
  · with_reducible assumption

theorem State.storeConfig_kept {r0 : State} {a0 : State} {a1 : ℕ} {a2 : ℕ} {a3 : ℕ} (ha0 : Kept r0 a0) : KeptO r0 (State.storeConfig a0 a1 a2 a3) := by
  unfold State.storeConfig
  refine KeptO.map ?_
  intro a0 h1
  exact ha0

/-! ### FaultOps -/

theorem State.reviewHealth_kept {r0 : State} {a0 : State} {a1 : ℕ} (ha0 : Kept r0 a0) : Kept r0 (State.reviewHealth a0 a1) := by
  unfold State.reviewHealth
  extract_lets x0
  refine State.setFlagIf_kept ?_
  refine State.updUnit_kept ?_
  with_reducible assumption

theorem State.logFault_kept {r0 : State} {a0 : State} {a1 : ℕ} {a2 : ℕ} (ha0 : Kept r0 a0) : Kept r0 (State.logFault a0 a1 a2) := by
  unfold State.logFault
  extract_lets x0
  refine State.reviewHealth_kept ?_
  refine State.updUnit_kept ?_
  with_reducible assumption

theorem State.writeHistory_kept {r0 : State} {a0 : State} (ha0 : Kept r0 a0) : Kept r0 (State.writeHistory a0) := by
  unfold State.writeHistory
  extract_lets x0
  have hx0 : Kept r0 x0 := by
    unfold x0
    refine State.modFaults_kept ?_ ?_
    · with_reducible assumption
    · exact fun _ h => h
  refine State.modFaults_kept ?_ ?_
  · refine State.storeData_kept ?_
    with_reducible assumption
  · exact fun _ h => h

theorem State.readHistory_kept {r0 a0 : State} (ha0 : Kept r0 a0) : Kept r0 a0.readHistory := by
  unfold State.readHistory
  dsimp only
  refine State.modFaults_kept ?_ (fun _ h => h)
  split
  · refine Kept.ite (State.modFaults_kept ha0 (fun _ _ => ?_)) ha0
    simp only [List.length_drop, List.length_append, List.length_map, List.length_range]
    omega
  · exact ha0

theorem State.startDump_kept {r0 : State} {a0 : State} {a1 : ℕ} (ha0 : Kept r0 a0) : Kept r0 (State.startDump a0 a1) := by
  unfold State.startDump
  extract_lets x0
  split
  · with_reducible assumption
  · refine State.modFaults_kept ?_ ?_
    · with_reducible assumption
    · exact fun _ h => h

theorem State.moduleFault_kept {r0 : State} {a0 : State} {a1 : ℕ} (ha0 : Kept r0 a0) : Kept r0 (State.moduleFault a0 a1) := by
  unfold State.moduleFault
  extract_lets x0 x1 x2
  have hx0 : Kept r0 x0 := by
    unfold x0
    refine abortAllJobs_kept ?_
    refine abortAll_kept ?_
    with_reducible assumption
  have hx1 : Kept r0 x1 := by
    unfold x1
    refine State.modPower_kept ?_
    with_reducible assumption
  have hx2 : Kept r0 x2 := by
    unfold x2
    refine State.logEvent_kept ?_
    refine State.setFlag_kept ?_
    with_reducible assumption
  refine State.startDump_kept ?_
  refine State.modFaults_kept ?_ ?_
  · with_reducible assumption
  · exact fun _ h => h

theorem State.holdUnit_kept {r0 : State} {a0 : State} {a1 : ℕ} (ha0 : Kept r0 a0) : Kept r0 (State.holdUnit a0 a1) := by
  unfold State.holdUnit
  refine holdFibre_kept ?_
  with_reducible assumption

theorem State.failNib_kept {r0 : State} {a0 : State} {a1 : ℕ} (ha0 : Kept r0 a0) : Kept r0 (State.failNib a0 a1) := by
  unfold State.failNib
  extract_lets x0 x1
  have hx1 : Kept r0 x1 := by
    unfold x1
    refine State.updUnit_kept ?_
    with_reducible assumption
  refine State.forEach_kept ?_ ?_
  · with_reducible assumption
  · intro a2 a3 h4
    refine State.failChunk_kept ?_
    with_reducible assumption

theorem State.proofNext_kept {r0 : State} {a0 : State} (ha0 : Kept r0 a0) : Kept r0 (State.proofNext a0) := by
  unfold State.proofNext
  split
  · extract_lets x0 x1
    have hx1 : Kept r0 x1 := by
      unfold x1
      refine State.modFaults_kept ?_ ?_
      · with_reducible assumption
      · exact fun _ h => h
    refine Kept.ite ?_ ?_
    · refine State.updUnit_kept ?_
      refine State.emit_kept ?_
      with_reducible assumption
    · with_reducible assumption
  · with_reducible assumption

theorem State.askProof_kept {r0 : State} {a0 : State} {a1 : ℕ} (ha0 : Kept r0 a0) : Kept r0 (State.askProof a0 a1) := by
  unfold State.askProof
  refine Kept.ite ?_ ?_
  · with_reducible assumption
  · refine State.proofNext_kept ?_
    refine State.modFaults_kept ?_ ?_
    · with_reducible assumption
    · exact fun _ h => h

theorem State.planeFault_kept {r0 : State} {a0 : State} {a1 : ℕ} (ha0 : Kept r0 a0) : Kept r0 (State.planeFault a0 a1) := by
  unfold State.planeFault
  extract_lets x0 x1 x2
  have hx1 : Kept r0 x1 := by
    unfold x1
    refine State.updUnit_kept ?_
    refine State.planeOut_kept ?_
    with_reducible assumption
  have hx2 : Kept r0 x2 := by
    unfold x2
    refine State.askProof_kept ?_
    with_reducible assumption
  refine Kept.ite ?_ ?_
  · refine State.moduleFault_kept ?_
    with_reducible assumption
  · with_reducible assumption

theorem State.coreFault_kept {r0 : State} {a0 : State} {a1 : ℕ} (ha0 : Kept r0 a0) : Kept r0 (State.coreFault a0 a1) := by
  unfold State.coreFault
  refine State.updUnit_kept ?_
  refine State.emit_kept ?_
  refine State.emit_kept ?_
  with_reducible assumption

theorem State.unitAction_kept {r0 : State} {a0 : State} {a1 : ℕ} {a2 : Bool} (ha0 : Kept r0 a0) : Kept r0 (State.unitAction a0 a1 a2) := by
  unfold State.unitAction
  extract_lets x0 x1 x2 x3
  have hx2 : Kept r0 x2 := by
    unfold x2
    refine State.updUnit_kept ?_
    with_reducible assumption
  split
  · refine Kept.ite ?_ ?_
    · refine State.failNib_kept ?_
      with_reducible assumption
    · with_reducible assumption
  · refine State.planeFault_kept ?_
    with_reducible assumption
  · refine State.updUnit_kept ?_
    refine State.forEach_kept ?_ ?_
    · with_reducible assumption
    · intro a4 a5 h6
      refine State.holdUnit_kept ?_
      with_reducible assumption
  · refine State.updUnit_kept ?_
    refine State.forEach_kept ?_ ?_
    · with_reducible assumption
    · intro a7 a8 h9
      refine State.holdUnit_kept ?_
      with_reducible assumption
  · refine State.updUnit_kept ?_
    refine State.forEach_kept ?_ ?_
    · with_reducible assumption
    · intro a10 a11 h12
      refine State.holdUnit_kept ?_
      with_reducible assumption
  · refine State.updUnit_kept ?_
    with_reducible assumption
  · refine State.updUnit_kept ?_
    with_reducible assumption
  · refine State.coreFault_kept ?_
    with_reducible assumption
  · refine State.updUnit_kept ?_
    refine State.updPort_kept ?_
    refine State.portLinkDown_kept ?_
    with_reducible assumption
  · with_reducible assumption
  · refine State.moduleFault_kept ?_
    with_reducible assumption

theorem State.unitFault_kept {r0 : State} {a0 : State} {a1 : ℕ} {a2 : ℕ} {a3 : ℕ} {a4 : Bool} (ha0 : Kept r0 a0) : Kept r0 (State.unitFault a0 a1 a2 a3 a4) := by
  unfold State.unitFault
  refine Kept.ite ?_ ?_
  · with_reducible assumption
  · refine State.unitAction_kept ?_
    refine State.setFlag_kept ?_
    refine State.logEvent_kept ?_
    refine State.logFault_kept ?_
    with_reducible assumption

/-! ### ChopOps -/

theorem State.modChop_kept {r0 : State} {a0 : State} {a1 : ChopSt → ChopSt} (ha0 : Kept r0 a0) : Kept r0 (State.modChop a0 a1) := by
  unfold State.modChop
  exact ha0

theorem State.chopFlag_kept {r0 : State} {a0 : State} {a1 : ℕ} (ha0 : Kept r0 a0) : Kept r0 (State.chopFlag a0 a1) := by
  unfold State.chopFlag
  refine State.setFlag_kept ?_
  with_reducible assumption

theorem State.tallyFrame_kept {r0 : State} {a0 : State} {a1 : ℕ} {a2 : ℕ} {a3 : ℕ} (ha0 : Kept r0 a0) : Kept r0 (State.tallyFrame a0 a1 a2 a3) := by
  unfold State.tallyFrame
  extract_lets x0
  refine Kept.ite ?_ ?_
  · refine State.modChop_kept ?_
    with_reducible assumption
  · with_reducible assumption

theorem State.feedAccounts_kept {r0 : State} {a0 : State} {a1 : Bool} (ha0 : Kept r0 a0) : Kept r0 (State.feedAccounts a0 a1) := by
  unfold State.feedAccounts
  extract_lets x0 x1 x2
  have hx1 : Kept r0 x1 := by
    unfold x1
    refine State.modChop_kept ?_
    with_reducible assumption
  have hx2 : Kept r0 x2 := by
    unfold x2
    refine Kept.ite ?_ ?_
    · refine State.chopFlag_kept ?_
      refine State.modChop_kept ?_
      with_reducible assumption
    · with_reducible assumption
  refine Kept.ite ?_ ?_
  · with_reducible assumption
  · refine Kept.ite ?_ ?_
    · with_reducible assumption
    · refine State.modChop_kept ?_
      with_reducible assumption

theorem State.closeRecord_kept {r0 : State} {a0 : State} {a1 : Bool} {a2 : Metered} (ha0 : Kept r0 a0) : Kept r0 (State.closeRecord a0 a1 a2) := by
  unfold State.closeRecord
  extract_lets x0 x1 x2 x3 x4 x5 x6 x7 x8 x9 x10 x11 x12 x13 x14 x15 x16
  have hx9 : Kept r0 x9 := by
    unfold x9
    refine State.setFlagIf_kept ?_
    with_reducible assumption
  have hx10 : Kept r0 x10 := by
    unfold x10
    refine State.setFlagIf_kept ?_
    with_reducible assumption
  have hx11 : Kept r0 x11 := by
    unfold x11
    refine State.setFlagIf_kept ?_
    with_reducible assumption
  have hx12 : Kept r0 x12 := by
    unfold x12
    refine State.setFlagIf_kept ?_
    with_reducible assumption
  have hx13 : Kept r0 x13 := by
    unfold x13
    refine State.setFlagIf_kept ?_
    with_reducible assumption
  have hx14 : Kept r0 x14 := by
    unfold x14
    refine State.setFlagIf_kept ?_
    with_reducible assumption
  have hx16 : Kept r0 x16 := by
    unfold x16
    refine State.modChop_kept ?_
    with_reducible assumption
  refine Kept.ite ?_ ?_
  · with_reducible assumption
  · with_reducible assumption

theorem State.storeChop_kept {r0 : State} {a0 : State} {a1 : ChopRecord} (ha0 : Kept r0 a0) : Kept r0 (State.storeChop a0 a1) := by
  unfold State.storeChop
  extract_lets x0
  split
  extract_lets x1
  exact ha0

theorem State.confirmRecord_kept {r0 : State} {a0 : State} {a1 : ℕ} (ha0 : Kept r0 a0) : Kept r0 (State.confirmRecord a0 a1) := by
  unfold State.confirmRecord
  refine State.modChop_kept ?_
  with_reducible assumption

theorem State.judgeRecord_kept {r0 : State} {a0 : State} (ha0 : Kept r0 a0) : Kept r0 (State.judgeRecord a0) := by
  unfold State.judgeRecord
  extract_lets x0
  split
  · extract_lets x1 x2 x3 x4 x5 x6
    have hx4 : Kept r0 x4 := by
      unfold x4
      refine State.setFlagIf_kept ?_
      with_reducible assumption
    refine State.modChop_kept ?_
    with_reducible assumption
  · refine State.modChop_kept ?_
    refine State.chopFlag_kept ?_
    with_reducible assumption

theorem State.chopAdopt_kept {r0 : State} {a0 : State} (ha0 : Kept r0 a0) : Kept r0 (State.chopAdopt a0) := by
  unfold State.chopAdopt
  refine Kept.ite ?_ ?_
  · refine State.setFlagIf_kept ?_
    with_reducible assumption
  · refine Kept.ite ?_ ?_
    · refine State.modChop_kept ?_
      with_reducible assumption
    · with_reducible assumption

theorem State.chopStart_kept {r0 : State} {a0 : State} {a1 : Bool} (ha0 : Kept r0 a0) : Kept r0 (State.chopStart a0 a1) := by
  unfold State.chopStart
  refine Kept.ite ?_ ?_
  · with_reducible assumption
  · exact ha0

/-! ### SecOps -/

theorem State.modSec_kept {r0 : State} {a0 : State} {a1 : SecSt → SecSt} (ha0 : Kept r0 a0) : Kept r0 (State.modSec a0 a1) := by
  unfold State.modSec
  exact ha0

theorem State.eraseKeys_kept {r0 : State} {a0 : State} (ha0 : Kept r0 a0) : Kept r0 (State.eraseKeys a0) := by
  unfold State.eraseKeys
  refine State.modCodex_kept ?_
  refine State.modSec_kept ?_
  refine State.modBoot_kept ?_
  with_reducible assumption

theorem State.coreLost_kept {r0 a0 : State} (ha0 : Kept r0 a0) : Kept r0 a0.coreLost := by
  refine ⟨ha0.1, ha0.2.1, fun g => ?_⟩
  refine ⟨MemSt.wf_iff.2 ⟨rfl, (MemSt.wf_iff.1 (ha0.2.2 g).1).2⟩, Nat.zero_le _, fun _ h => (nomatch h), fun _ h => (nomatch h), ?_⟩
  show 0 < 1000000000
  omega

theorem State.holdCore_kept {r0 : State} {a0 : State} (ha0 : Kept r0 a0) : Kept r0 (State.holdCore a0) := by
  unfold State.holdCore
  refine State.modPower_kept ?_
  refine State.coreLost_kept ?_
  with_reducible assumption

theorem State.sensorActs_kept {r0 : State} {a0 : State} {a1 : ℕ} (ha0 : Kept r0 a0) : Kept r0 (State.sensorActs a0 a1) := by
  unfold State.sensorActs
  extract_lets x0 x1
  have hx0 : Kept r0 x0 := by
    unfold x0
    refine State.setFlag_kept ?_
    refine State.logEvent_kept ?_
    with_reducible assumption
  have hx1 : Kept r0 x1 := by
    unfold x1
    refine State.modSec_kept ?_
    with_reducible assumption
  split
  · with_reducible assumption
  · refine State.eraseKeys_kept ?_
    with_reducible assumption
  · refine State.modPower_kept ?_
    refine State.holdCore_kept ?_
    refine State.writeHistory_kept ?_
    refine abortAll_kept ?_
    refine State.eraseKeys_kept ?_
    with_reducible assumption

theorem State.sensorFires_kept {r0 : State} {a0 : State} {a1 : ℕ} (ha0 : Kept r0 a0) : Kept r0 (State.sensorFires a0 a1) := by
  unfold State.sensorFires
  refine Kept.ite ?_ ?_
  · refine State.sensorActs_kept ?_
    with_reducible assumption
  · refine State.modSec_kept ?_
    with_reducible assumption

end Sys2Proof.Machine
end

