-- ==== Sys2Proof/Laws/Kept5.lean ====
section
/-!
SUPPORT. What the operations and commands of these files keep: Links, Wave, HatchOps, DuctusOps.
-/

set_option Elab.async false

namespace Sys2Proof.Machine

/-! ### Links -/

theorem execMarginLightDetect_kept {r0 : State} {a0 : Fin 64} {a1 : State} (ha1 : Kept r0 a1) : KeptT r0 (execMarginLightDetect a0 a1) := by
  unfold execMarginLightDetect
  extract_lets x0
  refine KeptT.ite ?_ ?_
  · split
    extract_lets x1 x2 x3
    have hx1 : Kept r0 x1 := by
      unfold x1
      refine State.updFibre_kept ?_
      refine KeptP.elim ?_ (by with_reducible assumption)
      refine State.free64_kept ?_
      with_reducible assumption
    have hx2 : Kept r0 x2 := by
      unfold x2
      refine State.forEach_kept ?_ ?_
      · with_reducible assumption
      · intro a4 a5 h6
        refine laneStart_kept ?_
        with_reducible assumption
    have hx3 : Kept r0 x3 := by
      unfold x3
      refine Kept.ite ?_ ?_
      · refine laneRestart_kept ?_
        with_reducible assumption
      · with_reducible assumption
    refine KeptT.next ?_
    refine State.forEach_kept ?_ ?_
    · with_reducible assumption
    · intro a7 a8 h9
      refine Kept.ite ?_ ?_
      · refine State.updLink_kept ?_
        with_reducible assumption
      · with_reducible assumption
  · refine KeptT.next ?_
    with_reducible assumption

theorem execHelloSend_kept {r0 : State} {a0 : Fin 64} {a1 : State} (ha1 : Kept r0 a1) : KeptT r0 (execHelloSend a0 a1) := by
  unfold execHelloSend
  refine KeptT.ite ?_ ?_
  · refine KeptT.next ?_
    with_reducible assumption
  · refine KeptT.next ?_
    refine sendPlain_kept ?_
    with_reducible assumption

theorem hellosAgree_kept {r0 : State} {a0 : State} {a1 : ℕ} (ha0 : Kept r0 a0) : Kept r0 (hellosAgree a0 a1) := by
  unfold hellosAgree
  extract_lets x0 x1 x2
  have hx0 : Kept r0 x0 := by
    unfold x0
    refine State.updFibre_kept ?_
    with_reducible assumption
  have hx1 : Kept r0 x1 := by
    unfold x1
    refine Kept.ite ?_ ?_
    · refine releaseFibre_kept ?_
      with_reducible assumption
    · with_reducible assumption
  have hx2 : Kept r0 x2 := by
    unfold x2
    refine reviewFarLanes_kept ?_
    refine reviewReach_kept ?_
    refine compareEnds_kept ?_
    with_reducible assumption
  refine State.forEach_kept ?_ ?_
  · with_reducible assumption
  · intro a3 a4 h5
    extract_lets x6
    refine Kept.ite ?_ ?_
    · refine reviewLink_kept ?_
      refine State.updLink_kept ?_
      with_reducible assumption
    · with_reducible assumption

theorem onHello_kept {r0 : State} {a0 : State} {a1 : ℕ} {a2 : List Byte} (ha0 : Kept r0 a0) : Kept r0 (onHello a0 a1 a2) := by
  unfold onHello
  extract_lets x0 x1 x2 x3 x4
  have hx1 : Kept r0 x1 := by
    unfold x1
    refine State.setFlag_kept ?_
    refine State.updFibre_kept ?_
    with_reducible assumption
  have hx2 : Kept r0 x2 := by
    unfold x2
    split
    · refine State.hist_kept ?_
      with_reducible assumption
    · with_reducible assumption
  have hx4 : Kept r0 x4 := by
    unfold x4
    refine State.updFibre_kept ?_
    with_reducible assumption
  refine Kept.ite ?_ ?_
  · refine State.countFibre_kept ?_
    refine State.updFibre_kept ?_
    with_reducible assumption
  · refine Kept.ite ?_ ?_
    · with_reducible assumption
    · refine Kept.ite ?_ ?_
      · refine Kept.ite ?_ ?_
        · with_reducible assumption
        · refine holdFibre_kept ?_
          with_reducible assumption
      · refine Kept.ite ?_ ?_
        · with_reducible assumption
        · refine hellosAgree_kept ?_
          with_reducible assumption

theorem execLaneAligned_kept {r0 : State} {a0 : Fin 64} {a1 : Fin 16} {a2 : State} (ha2 : Kept r0 a2) : KeptT r0 (execLaneAligned a0 a1 a2) := by
  unfold execLaneAligned
  refine KeptT.ite ?_ ?_
  · refine KeptT.next ?_
    refine State.updLane_kept ?_
    with_reducible assumption
  · refine KeptT.next ?_
    with_reducible assumption

theorem execAlignTimeout_kept {r0 : State} {a0 : Fin 64} {a1 : Fin 16} {a2 : State} (ha2 : Kept r0 a2) : KeptT r0 (execAlignTimeout a0 a1 a2) := by
  unfold execAlignTimeout
  refine KeptT.ite ?_ ?_
  · refine KeptT.next ?_
    refine State.countMisc_kept ?_
    refine laneRestart_kept ?_
    with_reducible assumption
  · refine KeptT.next ?_
    with_reducible assumption

theorem execSoakEnd_kept {r0 : State} {a0 : Fin 64} {a1 : Fin 16} {a2 : Bool} {a3 : Bool} {a4 : State} (ha4 : Kept r0 a4) : KeptT r0 (execSoakEnd a0 a1 a2 a3 a4) := by
  unfold execSoakEnd
  extract_lets x0 x1
  have hx1 : Kept r0 x1 := by
    unfold x1
    refine State.updLane_kept ?_
    with_reducible assumption
  refine KeptT.ite ?_ ?_
  · refine KeptT.next ?_
    with_reducible assumption
  · refine KeptT.ite ?_ ?_
    · refine KeptT.next ?_
      refine State.updLane_kept ?_
      with_reducible assumption
    · refine KeptT.ite ?_ ?_
      · refine KeptT.next ?_
        refine sendSeq_kept ?_
        with_reducible assumption
      · refine KeptT.next ?_
        refine State.updLane_kept ?_
        with_reducible assumption

theorem laneIn_kept {r0 : State} {a0 : State} {a1 : ℕ} {a2 : ℕ} (ha0 : Kept r0 a0) : Kept r0 (laneIn a0 a1 a2) := by
  unfold laneIn
  refine reviewLink_kept ?_
  refine State.updLane_kept ?_
  with_reducible assumption

theorem onLaneAdd_kept {r0 : State} {a0 : State} {a1 : ℕ} {a2 : List Byte} (ha0 : Kept r0 a0) : Kept r0 (onLaneAdd a0 a1 a2) := by
  unfold onLaneAdd
  extract_lets x0
  refine Kept.ite ?_ ?_
  · refine State.countFibre_kept ?_
    with_reducible assumption
  · refine Kept.ite ?_ ?_
    · refine laneIn_kept ?_
      refine sendSeq_kept ?_
      with_reducible assumption
    · with_reducible assumption

theorem onLaneAddConfirm_kept {r0 : State} {a0 : State} {a1 : ℕ} {a2 : List Byte} (ha0 : Kept r0 a0) : Kept r0 (onLaneAddConfirm a0 a1 a2) := by
  unfold onLaneAddConfirm
  extract_lets x0
  refine Kept.ite ?_ ?_
  · refine State.countFibre_kept ?_
    with_reducible assumption
  · refine Kept.ite ?_ ?_
    · refine laneIn_kept ?_
      with_reducible assumption
    · with_reducible assumption

theorem execLaneFault_kept {r0 : State} {a0 : Fin 64} {a1 : Fin 16} {a2 : LaneFault} {a3 : State} (ha3 : Kept r0 a3) : KeptT r0 (execLaneFault a0 a1 a2 a3) := by
  unfold execLaneFault
  refine KeptT.next ?_
  refine Kept.ite ?_ ?_
  · refine laneFault_kept ?_
    with_reducible assumption
  · with_reducible assumption

theorem execHolddownExpiry_kept {r0 : State} {a0 : Fin 64} {a1 : Fin 16} {a2 : State} (ha2 : Kept r0 a2) : KeptT r0 (execHolddownExpiry a0 a1 a2) := by
  unfold execHolddownExpiry
  refine KeptT.next ?_
  refine releaseOwn_kept ?_
  with_reducible assumption

theorem onLaneDrop_kept {r0 : State} {a0 : State} {a1 : ℕ} {a2 : List Byte} (ha0 : Kept r0 a0) : Kept r0 (onLaneDrop a0 a1 a2) := by
  unfold onLaneDrop
  extract_lets x0
  refine Kept.ite ?_ ?_
  · refine State.countFibre_kept ?_
    with_reducible assumption
  · refine Kept.ite ?_ ?_
    · with_reducible assumption
    · refine Kept.ite ?_ ?_
      · refine laneFault_kept ?_
        with_reducible assumption
      · refine Kept.ite ?_ ?_
        · refine laneRestart_kept ?_
          with_reducible assumption
        · with_reducible assumption

theorem execTrainingAttemptTimeout_kept {r0 : State} {a0 : Fin 1024} {a1 : State} (ha1 : Kept r0 a1) : KeptT r0 (execTrainingAttemptTimeout a0 a1) := by
  unfold execTrainingAttemptTimeout
  extract_lets x0
  have hx0 : Kept r0 x0 := by
    unfold x0
    refine State.updLink_kept ?_
    with_reducible assumption
  refine KeptT.ite ?_ ?_
  · refine KeptT.next ?_
    refine State.countMisc_kept ?_
    refine State.forEach_kept ?_ ?_
    · with_reducible assumption
    · intro a1 a2 h3
      refine laneStart_kept ?_
      with_reducible assumption
  · refine KeptT.next ?_
    with_reducible assumption

theorem execMarginLossTimeout_kept {r0 : State} {a0 : Fin 64} {a1 : State} (ha1 : Kept r0 a1) : KeptT r0 (execMarginLossTimeout a0 a1) := by
  unfold execMarginLossTimeout
  refine KeptT.ite ?_ ?_
  · refine KeptT.next ?_
    with_reducible assumption
  · refine KeptT.next ?_
    refine fibreLinksDown_kept ?_
    with_reducible assumption

theorem State.countFec_kept {r0 : State} {a0 : State} {a1 : ℕ} {a2 : ℕ} {a3 : ℕ} {a4 : ℕ} (ha0 : Kept r0 a0) : Kept r0 (State.countFec a0 a1 a2 a3 a4) := by
  unfold State.countFec
  refine State.count_kept ?_
  refine State.count_kept ?_
  refine State.count_kept ?_
  with_reducible assumption

theorem execBerWindowEnd_kept {r0 : State} {a0 : Fin 64} {a1 : Fin 16} {a2 : ℕ} {a3 : ℕ} {a4 : ℕ} {a5 : ℕ} {a6 : State} (ha6 : Kept r0 a6) : KeptT r0 (execBerWindowEnd a0 a1 a2 a3 a4 a5 a6) := by
  unfold execBerWindowEnd
  extract_lets x0 x1 x2 x3
  have hx1 : Kept r0 x1 := by
    unfold x1
    refine State.updLane_kept ?_
    refine State.countFec_kept ?_
    with_reducible assumption
  have hx3 : Kept r0 x3 := by
    unfold x3
    refine State.setFlagIf_kept ?_
    with_reducible assumption
  refine KeptT.ite ?_ ?_
  · refine KeptT.next ?_
    with_reducible assumption
  · refine KeptT.ite ?_ ?_
    · refine KeptT.next ?_
      refine laneFault_kept ?_
      with_reducible assumption
    · refine KeptT.next ?_
      with_reducible assumption

/-! ### Wave -/

theorem execHeaterUpdate_kept {r0 : State} {a0 : Fin 64} {a1 : Fin 17} {a2 : Ring} {a3 : ℤ} {a4 : State} (ha4 : Kept r0 a4) : KeptT r0 (execHeaterUpdate a0 a1 a2 a3 a4) := by
  unfold execHeaterUpdate
  extract_lets x0 x1
  have hx1 : Kept r0 x1 := by
    unfold x1
    refine State.updLane_kept ?_
    with_reducible assumption
  refine KeptT.ite ?_ ?_
  · refine KeptT.next ?_
    with_reducible assumption
  · refine KeptT.ite ?_ ?_
    · refine KeptT.next ?_
      refine State.countUnit_kept ?_
      refine State.setFlag_kept ?_
      with_reducible assumption
    · refine KeptT.next ?_
      with_reducible assumption

theorem execRingCapture_kept {r0 : State} {a0 : Fin 64} {a1 : Fin 17} {a2 : Ring} {a3 : State} (ha3 : Kept r0 a3) : KeptT r0 (execRingCapture a0 a1 a2 a3) := by
  unfold execRingCapture
  refine KeptT.ite ?_ ?_
  · refine KeptT.next ?_
    with_reducible assumption
  · refine KeptT.next ?_
    refine State.updLane_kept ?_
    with_reducible assumption

theorem execRingUnlock_kept {r0 : State} {a0 : Fin 64} {a1 : Fin 17} {a2 : Ring} {a3 : State} (ha3 : Kept r0 a3) : KeptT r0 (execRingUnlock a0 a1 a2 a3) := by
  unfold execRingUnlock
  extract_lets x0
  have hx0 : Kept r0 x0 := by
    unfold x0
    refine State.updLane_kept ?_
    with_reducible assumption
  refine KeptT.ite ?_ ?_
  · refine KeptT.next ?_
    with_reducible assumption
  · refine KeptT.ite ?_ ?_
    · refine KeptT.next ?_
      refine laneFault_kept ?_
      with_reducible assumption
    · refine KeptT.next ?_
      with_reducible assumption

theorem execTrialStart_kept {r0 : State} {a0 : Fin 64} {a1 : Fin 16} {a2 : Ring} {a3 : State} (ha3 : Kept r0 a3) : KeptT r0 (execTrialStart a0 a1 a2 a3) := by
  unfold execTrialStart
  extract_lets x0 x1 x2
  have hx2 : Kept r0 x2 := by
    unfold x2
    refine State.updFibre_kept ?_
    with_reducible assumption
  refine KeptT.ite ?_ ?_
  · refine KeptT.next ?_
    refine State.updLane_kept ?_
    with_reducible assumption
  · refine KeptT.next ?_
    with_reducible assumption

theorem trialCounts_kept {r0 : State} {a0 : State} {a1 : ℕ} {a2 : ℕ} {a3 : Bool} (ha0 : Kept r0 a0) : Kept r0 (trialCounts a0 a1 a2 a3) := by
  unfold trialCounts
  split
  · with_reducible assumption
  · refine Kept.ite ?_ ?_
    · refine abandonTrial_kept ?_
      with_reducible assumption
    · refine State.updFibre_kept ?_
      with_reducible assumption

theorem execTrialSubwindowRead_kept {r0 : State} {a0 : Fin 64} {a1 : ℕ} {a2 : Bool} {a3 : State} (ha3 : Kept r0 a3) : KeptT r0 (execTrialSubwindowRead a0 a1 a2 a3) := by
  unfold execTrialSubwindowRead
  refine KeptT.next ?_
  refine Kept.ite ?_ ?_
  · with_reducible assumption
  · refine trialCounts_kept ?_
    with_reducible assumption

theorem stopTrials_kept {r0 : State} {a0 : State} (ha0 : Kept r0 a0) : Kept r0 (stopTrials a0) := by
  unfold stopTrials
  refine State.forEach_kept ?_ ?_
  · with_reducible assumption
  · intro a0 a1 h2
    refine abandonTrial_kept ?_
    with_reducible assumption

theorem execTrialWindowEnd_kept {r0 : State} {a0 : Fin 64} {a1 : State} (ha1 : Kept r0 a1) : KeptT r0 (execTrialWindowEnd a0 a1) := by
  unfold execTrialWindowEnd
  extract_lets x0
  split
  · refine KeptT.next ?_
    with_reducible assumption
  · extract_lets x1 x2
    have hx2 : Kept r0 x2 := by
      unfold x2
      refine State.updLane_kept ?_
      with_reducible assumption
    refine KeptT.ite ?_ ?_
    · refine KeptT.next ?_
      with_reducible assumption
    · refine KeptT.next ?_
      refine State.updFibre_kept ?_
      with_reducible assumption

theorem nextLine_kept {r0 : State} {a0 : State} {a1 : ℕ} {a2 : ℕ} (ha0 : Kept r0 a0) : Kept r0 (nextLine a0 a1 a2) := by
  unfold nextLine
  extract_lets x0 x1 x2
  refine Kept.ite ?_ ?_
  · refine sendSeq_kept ?_
    refine State.setFlag_kept ?_
    refine laneHoldOwn_kept ?_
    with_reducible assumption
  · refine State.updLane_kept ?_
    with_reducible assumption

theorem execPilotWordReceive_kept {r0 : State} {a0 : Fin 64} {a1 : Fin 17} {a2 : BitVec 16} {a3 : State} (ha3 : Kept r0 a3) : KeptT r0 (execPilotWordReceive a0 a1 a2 a3) := by
  unfold execPilotWordReceive
  extract_lets x0 x1
  have hx1 : Kept r0 x1 := by
    unfold x1
    refine State.countUnit_kept ?_
    refine State.setFlag_kept ?_
    with_reducible assumption
  split
  · refine KeptT.ite ?_ ?_
    · refine KeptT.next ?_
      with_reducible assumption
    · split
      · refine KeptT.next ?_
        refine State.updLane_kept ?_
        with_reducible assumption
      · refine KeptT.ite ?_ ?_
        · refine KeptT.next ?_
          refine nextLine_kept ?_
          with_reducible assumption
        · refine KeptT.ite ?_ ?_
          · refine KeptT.next ?_
            refine State.updLane_kept ?_
            with_reducible assumption
          · refine KeptT.next ?_
            refine State.updLane_kept ?_
            with_reducible assumption
  · split
    · refine KeptT.next ?_
      refine State.updLane_kept ?_
      with_reducible assumption
    · refine KeptT.ite ?_ ?_
      · refine KeptT.next ?_
        refine State.updLane_kept ?_
        with_reducible assumption
      · refine KeptT.ite ?_ ?_
        · refine KeptT.next ?_
          refine laneFault_kept ?_
          refine State.updLane_kept ?_
          with_reducible assumption
        · refine KeptT.next ?_
          refine State.updLane_kept ?_
          with_reducible assumption
  · refine KeptT.next ?_
    with_reducible assumption

theorem execPilotTimeout_kept {r0 : State} {a0 : Fin 64} {a1 : Fin 17} {a2 : State} (ha2 : Kept r0 a2) : KeptT r0 (execPilotTimeout a0 a1 a2) := by
  unfold execPilotTimeout
  refine KeptT.ite ?_ ?_
  · refine KeptT.next ?_
    refine nextLine_kept ?_
    with_reducible assumption
  · refine KeptT.next ?_
    with_reducible assumption

theorem execPilotRetryExpiry_kept {r0 : State} {a0 : Fin 64} {a1 : Fin 17} {a2 : State} (ha2 : Kept r0 a2) : KeptT r0 (execPilotRetryExpiry a0 a1 a2) := by
  unfold execPilotRetryExpiry
  refine KeptT.next ?_
  refine releaseOwn_kept ?_
  with_reducible assumption

theorem execPilotWordsLost_kept {r0 : State} {a0 : Fin 64} {a1 : Fin 17} {a2 : State} (ha2 : Kept r0 a2) : KeptT r0 (execPilotWordsLost a0 a1 a2) := by
  unfold execPilotWordsLost
  extract_lets x0
  have hx0 : Kept r0 x0 := by
    unfold x0
    refine State.countUnit_kept ?_
    refine State.setFlag_kept ?_
    with_reducible assumption
  refine KeptT.ite ?_ ?_
  · refine KeptT.next ?_
    refine sendSeq_kept ?_
    refine State.updLane_kept ?_
    with_reducible assumption
  · refine KeptT.next ?_
    with_reducible assumption

theorem onPilotFault_kept {r0 : State} {a0 : State} {a1 : ℕ} {a2 : List Byte} (ha0 : Kept r0 a0) : Kept r0 (onPilotFault a0 a1 a2) := by
  unfold onPilotFault
  refine Kept.ite ?_ ?_
  · with_reducible assumption
  · refine State.countFibre_kept ?_
    with_reducible assumption

theorem startSpare_kept {r0 : State} {a0 : State} {a1 : ℕ} (ha0 : Kept r0 a0) : Kept r0 (startSpare a0 a1) := by
  unfold startSpare
  refine State.updSource_kept ?_
  with_reducible assumption

theorem dropForFade_kept {r0 : State} {a0 : State} {a1 : ℕ} {a2 : ℕ} (ha0 : Kept r0 a0) : Kept r0 (dropForFade a0 a1 a2) := by
  unfold dropForFade
  extract_lets x0 x1 x2
  have hx1 : Kept r0 x1 := by
    unfold x1
    refine Kept.ite ?_ ?_
    · refine laneFault_kept ?_
      with_reducible assumption
    · with_reducible assumption
  have hx2 : Kept r0 x2 := by
    unfold x2
    refine laneHoldOwn_kept ?_
    refine State.updLane_kept ?_
    with_reducible assumption
  refine Kept.ite ?_ ?_
  · with_reducible assumption
  · refine State.countUnit_kept ?_
    refine State.updSource_kept ?_
    with_reducible assumption

theorem dropFaded_kept {r0 : State} {a0 : State} {a1 : ℕ} (ha0 : Kept r0 a0) : Kept r0 (dropFaded a0 a1) := by
  unfold dropFaded
  refine State.forEach_kept ?_ ?_
  · with_reducible assumption
  · intro a0 a1 h2
    refine Kept.ite ?_ ?_
    · refine dropForFade_kept ?_
      with_reducible assumption
    · with_reducible assumption

theorem requestChange_kept {r0 : State} {a0 : State} {a1 : ℕ} (ha0 : Kept r0 a0) : Kept r0 (requestChange a0 a1) := by
  unfold requestChange
  extract_lets x0 x1 x2 x3
  have hx2 : Kept r0 x2 := by
    unfold x2
    refine startSpare_kept ?_
    refine abandonTrial_kept ?_
    with_reducible assumption
  have hx3 : Kept r0 x3 := by
    unfold x3
    refine State.updEngine_kept ?_
    with_reducible assumption
  refine Kept.ite ?_ ?_
  · with_reducible assumption
  · clear_value x1
    split
    · refine dropFaded_kept ?_
      with_reducible assumption
    · with_reducible assumption

theorem execLinePowerSample_kept {r0 : State} {a0 : Fin 64} {a1 : Fin 17} {a2 : LineSample} {a3 : State} (ha3 : Kept r0 a3) : KeptT r0 (execLinePowerSample a0 a1 a2 a3) := by
  unfold execLinePowerSample
  extract_lets x0 x1 x2 x3 x4
  have hx3 : Kept r0 x3 := by
    unfold x3
    refine State.updLane_kept ?_
    with_reducible assumption
  split
  · refine KeptT.next ?_
    with_reducible assumption
  · extract_lets x5 x6 x7
    have hx5 : Kept r0 x5 := by
      unfold x5
      refine State.updSource_kept ?_
      with_reducible assumption
    have hx6 : Kept r0 x6 := by
      unfold x6
      refine State.countUnit_kept ?_
      refine State.setFlag_kept ?_
      with_reducible assumption
    have hx7 : Kept r0 x7 := by
      unfold x7
      refine Kept.ite ?_ ?_
      · refine Kept.ite ?_ ?_
        · refine startSpare_kept ?_
          with_reducible assumption
        · with_reducible assumption
      · with_reducible assumption
    refine KeptT.ite ?_ ?_
    · refine KeptT.next ?_
      refine Kept.ite ?_ ?_
      · refine dropForFade_kept ?_
        with_reducible assumption
      · refine requestChange_kept ?_
        with_reducible assumption
    · refine KeptT.next ?_
      with_reducible assumption

theorem execFadeDropRelease_kept {r0 : State} {a0 : Fin 64} {a1 : Fin 16} {a2 : State} (ha2 : Kept r0 a2) : KeptT r0 (execFadeDropRelease a0 a1 a2) := by
  unfold execFadeDropRelease
  extract_lets x0
  refine KeptT.ite ?_ ?_
  · refine KeptT.next ?_
    refine State.updSource_kept ?_
    refine releaseOwn_kept ?_
    with_reducible assumption
  · refine KeptT.next ?_
    with_reducible assumption

theorem execSpareReady_kept {r0 : State} {a0 : Fin 16} {a1 : State} (ha1 : Kept r0 a1) : KeptT r0 (execSpareReady a0 a1) := by
  unfold execSpareReady
  extract_lets x0
  have hx0 : Kept r0 x0 := by
    unfold x0
    refine State.updSource_kept ?_
    with_reducible assumption
  refine KeptT.ite ?_ ?_
  · refine KeptT.next ?_
    refine State.updEngine_kept ?_
    with_reducible assumption
  · refine KeptT.next ?_
    with_reducible assumption

theorem spareOff_kept {r0 : State} {a0 : State} {a1 : ℕ} (ha0 : Kept r0 a0) : Kept r0 (spareOff a0 a1) := by
  unfold spareOff
  refine Kept.ite ?_ ?_
  · refine State.updSource_kept ?_
    with_reducible assumption
  · with_reducible assumption

theorem execSpareOff_kept {r0 : State} {a0 : Fin 16} {a1 : State} (ha1 : Kept r0 a1) : KeptT r0 (execSpareOff a0 a1) := by
  unfold execSpareOff
  refine KeptT.next ?_
  refine Kept.ite ?_ ?_
  · refine spareOff_kept ?_
    with_reducible assumption
  · with_reducible assumption

theorem followPolicy_kept {r0 : State} {a0 : State} {a1 : ℕ} (ha0 : Kept r0 a0) : Kept r0 (followPolicy a0 a1) := by
  unfold followPolicy
  refine Kept.ite ?_ ?_
  · refine Kept.ite ?_ ?_
    · refine State.forEach_kept ?_ ?_
      · with_reducible assumption
      · intro a0 a1 h2
        refine startSpare_kept ?_
        with_reducible assumption
    · with_reducible assumption
  · refine Kept.ite ?_ ?_
    · refine State.forEach_kept ?_ ?_
      · with_reducible assumption
      · intro a3 a4 h5
        refine spareOff_kept ?_
        with_reducible assumption
    · with_reducible assumption

theorem State.updChange_kept {r0 : State} {a0 : State} {a1 : ℕ} {a2 : Changeover → Changeover} (ha0 : Kept r0 a0) : Kept r0 (State.updChange a0 a1 a2) := by
  unfold State.updChange
  refine State.updEngine_kept ?_
  with_reducible assumption

theorem execChangeoverNoticeSend_kept {r0 : State} {a0 : Fin 16} {a1 : State} (ha1 : Kept r0 a1) : KeptT r0 (execChangeoverNoticeSend a0 a1) := by
  unfold execChangeoverNoticeSend
  split
  · extract_lets x0
    split
    · refine KeptT.ite ?_ ?_
      · refine KeptT.next ?_
        with_reducible assumption
      · refine KeptT.next ?_
        refine sendSeq_kept ?_
        refine State.updChange_kept ?_
        with_reducible assumption
    · refine KeptT.next ?_
      with_reducible assumption
  · refine KeptT.next ?_
    with_reducible assumption

theorem onChangeoverAck_kept {r0 : State} {a0 : State} {a1 : ℕ} {a2 : List Byte} (ha0 : Kept r0 a0) : Kept r0 (onChangeoverAck a0 a1 a2) := by
  unfold onChangeoverAck
  refine Kept.ite ?_ ?_
  · refine State.countFibre_kept ?_
    with_reducible assumption
  · split
    · split
      · refine Kept.ite ?_ ?_
        · refine State.updChange_kept ?_
          with_reducible assumption
        · with_reducible assumption
      · with_reducible assumption
    · with_reducible assumption

theorem execChangeoverAckTimeout_kept {r0 : State} {a0 : Fin 16} {a1 : State} (ha1 : Kept r0 a1) : KeptT r0 (execChangeoverAckTimeout a0 a1) := by
  unfold execChangeoverAckTimeout
  split
  · refine KeptT.ite ?_ ?_
    · refine KeptT.next ?_
      refine State.updChange_kept ?_
      with_reducible assumption
    · refine KeptT.next ?_
      with_reducible assumption
  · refine KeptT.next ?_
    with_reducible assumption

theorem execChangeoverWindowOpen_kept {r0 : State} {a0 : Fin 16} {a1 : State} (ha1 : Kept r0 a1) : KeptT r0 (execChangeoverWindowOpen a0 a1) := by
  unfold execChangeoverWindowOpen
  extract_lets x0
  have hx0 : Kept r0 x0 := by
    unfold x0
    refine State.updChange_kept ?_
    with_reducible assumption
  split
  · extract_lets x1 x2
    have hx2 : Kept r0 x2 := by
      unfold x2
      refine Kept.ite ?_ ?_
      · with_reducible assumption
      · refine State.countUnit_kept ?_
        refine State.setFlag_kept ?_
        with_reducible assumption
    split
    · refine KeptT.ite ?_ ?_
      · refine KeptT.next ?_
        refine State.updFibre_kept ?_
        refine abandonTrial_kept ?_
        with_reducible assumption
      · refine KeptT.next ?_
        with_reducible assumption
    · refine KeptT.next ?_
      with_reducible assumption
  · refine KeptT.next ?_
    with_reducible assumption

theorem newReference_kept {r0 : State} {a0 : State} {a1 : ℕ} {a2 : ℕ} (ha0 : Kept r0 a0) : Kept r0 (newReference a0 a1 a2) := by
  unfold newReference
  refine State.forEach_kept ?_ ?_
  · with_reducible assumption
  · intro a0 a1 h2
    refine State.updLane_kept ?_
    with_reducible assumption

theorem reloadCalibration_kept {r0 : State} {a0 : State} (ha0 : Kept r0 a0) : Kept r0 (reloadCalibration a0) := by
  unfold reloadCalibration
  refine Kept.ite ?_ ?_
  · with_reducible assumption
  · refine State.forEach_kept ?_ ?_
    · with_reducible assumption
    · intro a0 a1 h2
      extract_lets x3
      refine State.forEach_kept ?_ ?_
      · with_reducible assumption
      · intro a4 a5 h6
        extract_lets x7
        have hx7 : Kept r0 x7 := by
          unfold x7
          refine State.updLane_kept ?_
          with_reducible assumption
        refine Kept.ite ?_ ?_
        · with_reducible assumption
        · refine Kept.ite ?_ ?_
          · refine Kept.ite ?_ ?_
            · with_reducible assumption
            · refine laneHoldOwn_kept ?_
              with_reducible assumption
          · refine releaseOwn_kept ?_
            with_reducible assumption

theorem closeWindow_kept {r0 : State} {a0 : State} {a1 : ℕ} (ha0 : Kept r0 a0) : Kept r0 (closeWindow a0 a1) := by
  unfold closeWindow
  refine pumpMargin_kept ?_
  refine State.updFibre_kept ?_
  with_reducible assumption

theorem dropChange_kept {r0 : State} {a0 : State} {a1 : ℕ} (ha0 : Kept r0 a0) : Kept r0 (dropChange a0 a1) := by
  unfold dropChange
  extract_lets x0
  have hx0 : Kept r0 x0 := by
    unfold x0
    refine State.updEngine_kept ?_
    with_reducible assumption
  split
  · with_reducible assumption
  · refine Kept.ite ?_ ?_
    · refine closeWindow_kept ?_
      with_reducible assumption
    · with_reducible assumption

theorem changeoverDone_kept {r0 : State} {a0 : State} {a1 : ℕ} {a2 : Changeover} (ha0 : Kept r0 a0) : Kept r0 (changeoverDone a0 a1 a2) := by
  unfold changeoverDone
  extract_lets x0 x1 x2 x3 x4 x5 x6 x7
  have hx1 : Kept r0 x1 := by
    unfold x1
    split
    · refine State.updSource_kept ?_
      with_reducible assumption
    · with_reducible assumption
  have hx2 : Kept r0 x2 := by
    unfold x2
    refine State.updSource_kept ?_
    with_reducible assumption
  have hx3 : Kept r0 x3 := by
    unfold x3
    refine State.updSource_kept ?_
    with_reducible assumption
  have hx4 : Kept r0 x4 := by
    unfold x4
    refine State.updSource_kept ?_
    with_reducible assumption
  have hx5 : Kept r0 x5 := by
    unfold x5
    refine Kept.ite ?_ ?_
    · refine newReference_kept ?_
      refine State.setFlag_kept ?_
      with_reducible assumption
    · refine newReference_kept ?_
      with_reducible assumption
  have hx6 : Kept r0 x6 := by
    unfold x6
    refine State.updEngine_kept ?_
    with_reducible assumption
  have hx7 : Kept r0 x7 := by
    unfold x7
    refine State.countFibre_kept ?_
    refine State.countUnit_kept ?_
    refine State.setFlag_kept ?_
    with_reducible assumption
  refine closeWindow_kept ?_
  with_reducible assumption

theorem execChangeoverWindowEnd_kept {r0 : State} {a0 : Fin 16} {a1 : State} (ha1 : Kept r0 a1) : KeptT r0 (execChangeoverWindowEnd a0 a1) := by
  unfold execChangeoverWindowEnd
  split
  · refine KeptT.ite ?_ ?_
    · refine KeptT.next ?_
      refine changeoverDone_kept ?_
      with_reducible assumption
    · refine KeptT.next ?_
      with_reducible assumption
  · refine KeptT.next ?_
    with_reducible assumption

theorem onChangeover_kept {r0 : State} {a0 : State} {a1 : ℕ} {a2 : List Byte} (ha0 : Kept r0 a0) : Kept r0 (onChangeover a0 a1 a2) := by
  unfold onChangeover
  refine Kept.ite ?_ ?_
  · refine sendSeq_kept ?_
    refine State.updFibre_kept ?_
    with_reducible assumption
  · refine State.countFibre_kept ?_
    with_reducible assumption

theorem unlockFibre_kept {r0 : State} {a0 : State} {a1 : ℕ} (ha0 : Kept r0 a0) : Kept r0 (unlockFibre a0 a1) := by
  unfold unlockFibre
  refine State.forEach_kept ?_ ?_
  · with_reducible assumption
  · intro a0 a1 h2
    refine laneFault_kept ?_
    with_reducible assumption

theorem fibreSourceless_kept {r0 : State} {a0 : State} {a1 : ℕ} (ha0 : Kept r0 a0) : Kept r0 (fibreSourceless a0 a1) := by
  unfold fibreSourceless
  refine fibreLinksDown_kept ?_
  refine marginLost_kept ?_
  refine State.forEach_kept ?_ ?_
  · with_reducible assumption
  · intro a0 a1 h2
    refine laneHoldOwn_kept ?_
    with_reducible assumption

theorem execSourceFailure_kept {r0 : State} {a0 : Fin 16} {a1 : Fin 5} {a2 : State} (ha2 : Kept r0 a2) : KeptT r0 (execSourceFailure a0 a1 a2) := by
  unfold execSourceFailure
  extract_lets x0 x1 x2 x3 x4 x5 x6 x7 x8 x9
  have hx2 : Kept r0 x2 := by
    unfold x2
    refine State.updSource_kept ?_
    with_reducible assumption
  have hx3 : Kept r0 x3 := by
    unfold x3
    refine State.countUnit_kept ?_
    refine State.setFlag_kept ?_
    with_reducible assumption
  have hx4 : Kept r0 x4 := by
    unfold x4
    refine State.setFlagIf_kept ?_
    with_reducible assumption
  have hx5 : Kept r0 x5 := by
    unfold x5
    refine Kept.ite ?_ ?_
    · refine dropChange_kept ?_
      with_reducible assumption
    · with_reducible assumption
  have hx7 : Kept r0 x7 := by
    unfold x7
    clear_value x6
    split
    · refine fibreSourceless_kept ?_
      refine State.updEngine_kept ?_
      with_reducible assumption
    · with_reducible assumption
  have hx9 : Kept r0 x9 := by
    unfold x9
    refine startSpare_kept ?_
    refine State.updEngine_kept ?_
    refine unlockFibre_kept ?_
    with_reducible assumption
  refine KeptT.ite ?_ ?_
  · refine KeptT.next ?_
    with_reducible assumption
  · refine KeptT.ite ?_ ?_
    · refine KeptT.next ?_
      with_reducible assumption
    · refine KeptT.ite ?_ ?_
      · refine KeptT.next ?_
        refine fibreSourceless_kept ?_
        with_reducible assumption
      · refine KeptT.next ?_
        refine fibreLinksDown_kept ?_
        refine marginLost_kept ?_
        with_reducible assumption

theorem execSpareRouted_kept {r0 : State} {a0 : Fin 16} {a1 : State} (ha1 : Kept r0 a1) : KeptT r0 (execSpareRouted a0 a1) := by
  unfold execSpareRouted
  split
  · extract_lets x0 x1
    have hx0 : Kept r0 x0 := by
      unfold x0
      refine State.updSource_kept ?_
      with_reducible assumption
    have hx1 : Kept r0 x1 := by
      unfold x1
      refine State.updEngine_kept ?_
      refine State.setFlag_kept ?_
      with_reducible assumption
    refine KeptT.ite ?_ ?_
    · refine KeptT.next ?_
      refine newReference_kept ?_
      with_reducible assumption
    · refine KeptT.next ?_
      with_reducible assumption
  · refine KeptT.next ?_
    with_reducible assumption

theorem sourceCommand_kept {r0 : State} {a0 : State} {a1 : ℕ} (ha0 : Kept r0 a0) : KeptE r0 (sourceCommand a0 a1) := by
  unfold sourceCommand
  extract_lets x0 x1 x2
  refine KeptE.ite ?_ ?_
  · refine KeptE.error
  · refine KeptE.ite ?_ ?_
    · refine KeptE.ite ?_ ?_
      · refine KeptE.ok ?_
        refine State.updEngine_kept ?_
        refine abandonTrial_kept ?_
        with_reducible assumption
      · refine KeptE.error
    · refine KeptE.ite ?_ ?_
      · refine KeptE.ok ?_
        refine requestChange_kept ?_
        with_reducible assumption
      · refine KeptE.error

theorem execSourceReinstate_kept {r0 : State} {a0 : Req} {a1 : Fin 16} {a2 : Fin 16} {a3 : State} (ha3 : Kept r0 a3) : KeptT r0 (execSourceReinstate a0 a1 a2 a3) := by
  unfold execSourceReinstate
  refine KeptT.next ?_
  refine serveWrite_kept ?_ ?_
  · with_reducible assumption
  · intro a0 a1 h2
    refine sourceCommand_kept ?_
    with_reducible assumption

theorem execChangeoverNow_kept {r0 : State} {a0 : Req} {a1 : Fin 16} {a2 : Fin 16} {a3 : State} (ha3 : Kept r0 a3) : KeptT r0 (execChangeoverNow a0 a1 a2 a3) := by
  unfold execChangeoverNow
  refine KeptT.next ?_
  refine serveWrite_kept ?_ ?_
  · with_reducible assumption
  · intro a0 a1 h2
    refine sourceCommand_kept ?_
    with_reducible assumption

theorem execErrorReportSend_kept {r0 : State} {a0 : Fin 64} {a1 : List ℕ} {a2 : State} (ha2 : Kept r0 a2) : KeptT r0 (execErrorReportSend a0 a1 a2) := by
  unfold execErrorReportSend
  extract_lets x0
  refine KeptT.ite ?_ ?_
  · refine KeptT.next ?_
    refine sendPlain_kept ?_
    refine State.updFibre_kept ?_
    with_reducible assumption
  · refine KeptT.next ?_
    with_reducible assumption

theorem onErrorReport_kept {r0 : State} {a0 : State} {a1 : ℕ} {a2 : List Byte} (ha0 : Kept r0 a0) : Kept r0 (onErrorReport a0 a1 a2) := by
  unfold onErrorReport
  extract_lets x0 x1 x2 x3 x4
  have hx3 : Kept r0 x3 := by
    unfold x3
    refine State.updFibre_kept ?_
    with_reducible assumption
  have hx4 : Kept r0 x4 := by
    unfold x4
    split
    · refine Kept.ite ?_ ?_
      · refine trialCounts_kept ?_
        with_reducible assumption
      · with_reducible assumption
    · with_reducible assumption
  refine Kept.ite ?_ ?_
  · refine State.countFibre_kept ?_
    with_reducible assumption
  · refine Kept.ite ?_ ?_
    · refine requestChange_kept ?_
      with_reducible assumption
    · with_reducible assumption

/-! ### HatchOps -/

theorem recordCommitEnd_kept {r0 : State} {a0 : State} {a1 : ℕ} {a2 : ℕ} (ha0 : Kept r0 a0) : Kept r0 (recordCommitEnd a0 a1 a2) := by
  unfold recordCommitEnd
  extract_lets x0 x1 x2
  have hx0 : Kept r0 x0 := by
    unfold x0
    refine State.modHatch_kept ?_
    with_reducible assumption
  have hx1 : Kept r0 x1 := by
    unfold x1
    refine State.countUnit_kept ?_
    with_reducible assumption
  have hx2 : Kept r0 x2 := by
    unfold x2
    refine State.setFlagIf_kept ?_
    with_reducible assumption
  refine State.setFlagIf_kept ?_
  with_reducible assumption

theorem slotReturns_kept {r0 : State} {a0 : State} {a1 : ℕ} {a2 : ℕ} (ha0 : Kept r0 a0) : Kept r0 (slotReturns a0 a1 a2) := by
  unfold slotReturns
  extract_lets x0 x1
  have hx1 : Kept r0 x1 := by
    unfold x1
    refine State.updLane_kept ?_
    with_reducible assumption
  refine linkRestart_kept ?_
  refine laneStart_kept ?_
  with_reducible assumption

theorem endCommit_kept {r0 : State} {a0 : State} {a1 : ℕ} (ha0 : Kept r0 a0) : Kept r0 (endCommit a0 a1) := by
  unfold endCommit
  split
  · with_reducible assumption
  · extract_lets x0 x1 x2
    have hx1 : Kept r0 x1 := by
      unfold x1
      refine State.forEach_kept ?_ ?_
      · with_reducible assumption
      · intro a3 a4 h5
        refine State.updLink_kept ?_
        with_reducible assumption
    have hx2 : Kept r0 x2 := by
      unfold x2
      refine recordCommitEnd_kept ?_
      with_reducible assumption
    refine Kept.ite ?_ ?_
    · refine State.forEach_kept ?_ ?_
      · with_reducible assumption
      · intro a6 a7 h8
        refine slotReturns_kept ?_
        with_reducible assumption
    · with_reducible assumption

theorem endDrain_kept {r0 : State} {a0 : State} (ha0 : Kept r0 a0) : Kept r0 (endDrain a0) := by
  unfold endDrain
  split
  · with_reducible assumption
  · extract_lets x0
    have hx0 : Kept r0 x0 := by
      unfold x0
      refine State.forEach_kept ?_ ?_
      · with_reducible assumption
      · intro a1 a2 h3
        extract_lets x4 x5
        have hx4 : Kept r0 x4 := by
          unfold x4
          refine linkDown_kept ?_
          with_reducible assumption
        have hx5 : Kept r0 x5 := by
          unfold x5
          refine State.updLink_kept ?_
          with_reducible assumption
        refine laneOut_kept ?_
        with_reducible assumption
    refine State.modHatch_kept ?_
    with_reducible assumption

theorem State.updCommit_kept {r0 : State} {a0 : State} {a1 : Commit → Commit} (ha0 : Kept r0 a0) : Kept r0 (State.updCommit a0 a1) := by
  unfold State.updCommit
  refine State.modHatch_kept ?_
  with_reducible assumption

theorem onCircuitAck_kept {r0 : State} {a0 : State} {a1 : ℕ} {a2 : List Byte} (ha0 : Kept r0 a0) : Kept r0 (onCircuitAck a0 a1 a2) := by
  unfold onCircuitAck
  refine Kept.ite ?_ ?_
  · refine State.countFibre_kept ?_
    with_reducible assumption
  · split
    · split
      · refine Kept.ite ?_ ?_
        · refine State.updCommit_kept ?_
          with_reducible assumption
        · with_reducible assumption
      · with_reducible assumption
    · with_reducible assumption

theorem onCircuit_kept {r0 : State} {a0 : State} {a1 : ℕ} {a2 : List Byte} (ha0 : Kept r0 a0) : Kept r0 (onCircuit a0 a1 a2) := by
  unfold onCircuit
  extract_lets x0
  refine Kept.ite ?_ ?_
  · with_reducible assumption
  · refine State.countFibre_kept ?_
    with_reducible assumption

theorem reviewCommit_kept {r0 : State} {a0 : State} {a1 : ℕ} (ha0 : Kept r0 a0) : Kept r0 (reviewCommit a0 a1) := by
  unfold reviewCommit
  split
  · refine Kept.ite ?_ ?_
    · refine endCommit_kept ?_
      with_reducible assumption
    · with_reducible assumption
  · with_reducible assumption

theorem relayFrame_kept {r0 : State} {a0 : State} {a1 : ℕ} {a2 : ℕ} {a3 : List Byte} (ha0 : Kept r0 a0) : Kept r0 (relayFrame a0 a1 a2 a3) := by
  unfold relayFrame
  extract_lets x0 x1 x2
  refine Kept.ite ?_ ?_
  · refine payBack_kept ?_
    refine State.countFibre_kept ?_
    refine State.setFlag_kept ?_
    with_reducible assumption
  · refine State.forEach_kept ?_ ?_
    · with_reducible assumption
    · intro a3 a4 h5
      split
      refine State.countFibre_kept ?_
      refine sendMarginFrame_kept ?_
      with_reducible assumption

/-! ### DuctusOps -/

theorem State.ductusFlag_kept {r0 : State} {a0 : State} {a1 : ℕ} (ha0 : Kept r0 a0) : Kept r0 (State.ductusFlag a0 a1) := by
  unfold State.ductusFlag
  refine State.setFlag_kept ?_
  with_reducible assumption

theorem State.countDuctus_kept {r0 : State} {a0 : State} {a1 : ℕ} (ha0 : Kept r0 a0) : Kept r0 (State.countDuctus a0 a1) := by
  unfold State.countDuctus
  refine State.countUnit_kept ?_
  with_reducible assumption

theorem State.sendSched_kept {r0 : State} {a0 : State} {a1 : ℕ} {a2 : ℕ} {a3 : ℕ} {a4 : ℕ} (ha0 : Kept r0 a0) : Kept r0 (State.sendSched a0 a1 a2 a3 a4) := by
  unfold State.sendSched
  refine State.forEach_kept ?_ ?_
  · with_reducible assumption
  · intro a0 a1 h2
    refine sendSeq_kept ?_
    with_reducible assumption

theorem State.ductusState_kept {r0 : State} {a0 : State} {a1 : ℕ} (ha0 : Kept r0 a0) : Kept r0 (State.ductusState a0 a1) := by
  unfold State.ductusState
  refine dropTc0_kept ?_
  refine State.modDuctus_kept ?_
  with_reducible assumption

theorem State.missSwap_kept {r0 : State} {a0 : State} {a1 : ℕ} (ha0 : Kept r0 a0) : Kept r0 (State.missSwap a0 a1) := by
  unfold State.missSwap
  extract_lets x0
  have hx0 : Kept r0 x0 := by
    unfold x0
    refine State.countDuctus_kept ?_
    refine State.ductusFlag_kept ?_
    refine State.ductusState_kept ?_
    with_reducible assumption
  refine State.modDuctus_kept ?_
  refine State.sendSched_kept ?_
  with_reducible assumption

theorem State.activate_kept {r0 : State} {a0 : State} {a1 : Bool} {a2 : ℕ} (ha0 : Kept r0 a0) : Kept r0 (State.activate a0 a1 a2) := by
  unfold State.activate
  extract_lets x0
  have hx0 : Kept r0 x0 := by
    unfold x0
    refine State.modDuctus_kept ?_
    with_reducible assumption
  refine State.sendSched_kept ?_
  refine dropTc0_kept ?_
  with_reducible assumption

theorem State.validateShadow_kept {r0 : State} {a0 : State} (ha0 : Kept r0 a0) : Kept r0 (State.validateShadow a0) := by
  unfold State.validateShadow
  extract_lets x0
  refine State.modDuctus_kept ?_
  with_reducible assumption

theorem State.loadBootSchedule_kept {r0 : State} {a0 : State} (ha0 : Kept r0 a0) : Kept r0 (State.loadBootSchedule a0) := by
  unfold State.loadBootSchedule
  split
  · refine Kept.ite ?_ ?_
    · with_reducible assumption
    · refine State.validateShadow_kept ?_
      refine State.modDuctus_kept ?_
      with_reducible assumption
  · with_reducible assumption

theorem State.deactivate_kept {r0 : State} {a0 : State} (ha0 : Kept r0 a0) : Kept r0 (State.deactivate a0) := by
  unfold State.deactivate
  split
  refine State.sendSched_kept ?_
  refine State.ductusState_kept ?_
  refine KeptP.elim ?_ (by with_reducible assumption)
  refine State.free64_kept ?_
  refine State.modDuctus_kept ?_
  with_reducible assumption

theorem State.reviewSettled_kept {r0 : State} {a0 : State} (ha0 : Kept r0 a0) : Kept r0 (State.reviewSettled a0) := by
  unfold State.reviewSettled
  refine State.modDuctus_kept ?_
  with_reducible assumption

theorem State.reviewDeactivate_kept {r0 : State} {a0 : State} (ha0 : Kept r0 a0) : Kept r0 (State.reviewDeactivate a0) := by
  unfold State.reviewDeactivate
  split
  · refine Kept.ite ?_ ?_
    · refine State.deactivate_kept ?_
      refine State.modDuctus_kept ?_
      with_reducible assumption
    · with_reducible assumption
  · with_reducible assumption

theorem schedCommand_kept {r0 : State} {a0 : State} {a1 : ℕ} (ha0 : Kept r0 a0) : KeptE r0 (schedCommand a0 a1) := by
  unfold schedCommand
  extract_lets x0 x1 x2 x3 x4
  have hx2 : ∀ v5, Kept r0 v5 → Kept r0 (x2 v5) := by
    unfold x2
    exact fun _ h => h
  have hx4 : Kept r0 x4 := by
    unfold x4
    unfold x2
    refine State.modDuctus_kept ?_
    refine State.modDuctus_kept ?_
    with_reducible assumption
  refine KeptE.ite ?_ ?_
  · refine KeptE.error
  · refine KeptE.ite ?_ ?_
    · refine KeptE.error
    · clear_value x1
      split
      · refine KeptE.ite ?_ ?_
        · refine KeptE.error
        · refine KeptE.ok ?_
          refine hx2 _ ?_
          refine State.modCodex_kept ?_
          refine State.modDuctus_kept ?_
          with_reducible assumption
      · refine KeptE.ite ?_ ?_
        · refine KeptE.error
        · refine KeptE.ok ?_
          refine hx2 _ ?_
          refine State.modDuctus_kept ?_
          with_reducible assumption
      · refine KeptE.ite ?_ ?_
        · refine KeptE.error
        · refine KeptE.ite ?_ ?_
          · refine KeptE.error
          · refine KeptE.ok ?_
            refine State.sendSched_kept ?_
            with_reducible assumption
      · refine KeptE.ite ?_ ?_
        · refine KeptE.error
        · refine KeptE.ok ?_
          refine hx2 _ ?_
          refine State.modDuctus_kept ?_
          with_reducible assumption
      · refine KeptE.ok ?_
        refine State.modDuctus_kept ?_
        refine hx2 _ ?_
        with_reducible assumption
      · refine KeptE.ite ?_ ?_
        · refine KeptE.error
        · refine KeptE.ok ?_
          refine hx2 _ ?_
          refine State.loadBootSchedule_kept ?_
          with_reducible assumption
      · refine KeptE.ite ?_ ?_
        · refine KeptE.error
        · refine KeptE.ok ?_
          refine hx2 _ ?_
          refine State.storeData_kept ?_
          with_reducible assumption
      · refine KeptE.error

theorem State.windowGiven_kept {r0 : State} {a0 : State} {a1 : WindowFor} {a2 : ℕ × ℕ} (ha0 : Kept r0 a0) : Kept r0 (State.windowGiven a0 a1 a2) := by
  unfold State.windowGiven
  split
  · refine State.updEngine_kept ?_
    with_reducible assumption
  · refine State.modHatch_kept ?_
    with_reducible assumption
  · refine State.modFaults_kept ?_ ?_
    · with_reducible assumption
    · exact fun _ h => h

theorem State.changeoverFirst_kept {r0 : State} {a0 : State} {a1 : WindowFor} {a2 : ℕ × ℕ} (ha0 : Kept r0 a0) : Kept r0 (State.changeoverFirst a0 a1 a2) := by
  unfold State.changeoverFirst
  split
  · split
    · refine Kept.ite ?_ ?_
      · refine State.modDuctus_kept ?_
        refine State.updCommit_kept ?_
        with_reducible assumption
      · with_reducible assumption
    · with_reducible assumption
  · with_reducible assumption

theorem State.grantWindow_kept {r0 : State} {a0 : State} {a1 : WindowFor} {a2 : WindowReq} {a3 : ℕ} {a4 : ℕ × ℕ × ℕ} {a5 : ℕ × ℕ} (ha0 : Kept r0 a0) : Kept r0 (State.grantWindow a0 a1 a2 a3 a4 a5) := by
  unfold State.grantWindow
  extract_lets x0 x1
  have hx0 : Kept r0 x0 := by
    unfold x0
    refine State.changeoverFirst_kept ?_
    with_reducible assumption
  refine State.windowGiven_kept ?_
  refine State.countDuctus_kept ?_
  refine State.modDuctus_kept ?_
  with_reducible assumption

theorem State.refuseWindow_kept {r0 : State} {a0 : State} {a1 : WindowFor} (ha0 : Kept r0 a0) : Kept r0 (State.refuseWindow a0 a1) := by
  unfold State.refuseWindow
  extract_lets x0
  have hx0 : Kept r0 x0 := by
    unfold x0
    refine State.countDuctus_kept ?_
    refine State.ductusFlag_kept ?_
    with_reducible assumption
  split
  · with_reducible assumption
  · with_reducible assumption
  · refine State.modFaults_kept ?_ ?_
    · refine State.setFlag_kept ?_
      with_reducible assumption
    · exact fun _ h => h

theorem State.decideWindow_kept {r0 : State} {a0 : State} {a1 : WindowFor} (ha0 : Kept r0 a0) : Kept r0 (State.decideWindow a0 a1) := by
  unfold State.decideWindow
  extract_lets x0 x1 x2
  refine Kept.ite ?_ ?_
  · with_reducible assumption
  · refine Kept.ite ?_ ?_
    · with_reducible assumption
    · refine Kept.ite ?_ ?_
      · split
        · refine State.grantWindow_kept ?_
          with_reducible assumption
        · refine State.refuseWindow_kept ?_
          with_reducible assumption
      · refine State.grantWindow_kept ?_
        with_reducible assumption

theorem State.setShaper_kept {r0 : State} {a0 : State} {a1 : ℕ} {a2 : ℕ} (ha0 : Kept r0 a0) : Kept r0 (State.setShaper a0 a1 a2) := by
  unfold State.setShaper
  refine State.modDuctus_kept ?_
  with_reducible assumption

theorem State.setPolicer_kept {r0 : State} {a0 : State} {a1 : ℕ} {a2 : ℕ} (ha0 : Kept r0 a0) : Kept r0 (State.setPolicer a0 a1 a2) := by
  unfold State.setPolicer
  refine State.modDuctus_kept ?_
  with_reducible assumption

theorem State.refreshBuckets_kept {r0 : State} {a0 : State} (ha0 : Kept r0 a0) : Kept r0 (State.refreshBuckets a0) := by
  unfold State.refreshBuckets
  extract_lets x0 x1
  have hx1 : Kept r0 x1 := by
    unfold x1
    refine State.forEach_kept ?_ ?_
    · with_reducible assumption
    · intro a2 a3 h4
      refine State.setShaper_kept ?_
      with_reducible assumption
  refine State.forEach_kept ?_ ?_
  · with_reducible assumption
  · intro a5 a6 h7
    refine State.setPolicer_kept ?_
    with_reducible assumption

theorem State.refreshDue_kept {r0 : State} {a0 : State} (ha0 : Kept r0 a0) : Kept r0 (State.refreshDue a0) := by
  unfold State.refreshDue
  refine Kept.ite ?_ ?_
  · refine State.modDuctus_kept ?_
    refine State.refreshBuckets_kept ?_
    with_reducible assumption
  · with_reducible assumption

theorem shaperWrite_kept {r0 : State} {a0 : State} {a1 : ℕ} {a2 : ℕ} (ha0 : Kept r0 a0) : KeptE r0 (shaperWrite a0 a1 a2) := by
  unfold shaperWrite
  refine KeptE.ite ?_ ?_
  · refine KeptE.ok ?_
    refine State.setShaper_kept ?_
    refine State.setParam_kept ?_
    with_reducible assumption
  · refine KeptE.error

theorem policerWrite_kept {r0 : State} {a0 : State} {a1 : ℕ} {a2 : ℕ} (ha0 : Kept r0 a0) : KeptE r0 (policerWrite a0 a1 a2) := by
  unfold policerWrite
  refine KeptE.ite ?_ ?_
  · refine KeptE.ok ?_
    refine State.setPolicer_kept ?_
    refine State.setParam_kept ?_
    with_reducible assumption
  · refine KeptE.error

theorem State.resetShapers_kept {r0 : State} {a0 : State} {a1 : ℕ} (ha0 : Kept r0 a0) : Kept r0 (State.resetShapers a0 a1) := by
  unfold State.resetShapers
  refine State.forEach_kept ?_ ?_
  · with_reducible assumption
  · intro a0 a1 h2
    refine State.setShaper_kept ?_
    with_reducible assumption

theorem State.resetPolicers_kept {r0 : State} {a0 : State} {a1 : ℕ} (ha0 : Kept r0 a0) : Kept r0 (State.resetPolicers a0 a1) := by
  unfold State.resetPolicers
  refine State.forEach_kept ?_ ?_
  · with_reducible assumption
  · intro a0 a1 h2
    refine State.setPolicer_kept ?_
    with_reducible assumption

theorem State.police_kept {r0 : State} {a0 : State} {a1 : ℕ} (ha0 : Kept r0 a0) : KeptP r0 (State.police a0 a1) := by
  unfold State.police
  extract_lets x0
  have hx0 : Kept r0 x0 := by
    unfold x0
    refine State.refreshDue_kept ?_
    with_reducible assumption
  refine KeptP.ite ?_ ?_
  · refine KeptP.mk ?_
    refine State.setPolicer_kept ?_
    with_reducible assumption
  · refine KeptP.mk ?_
    with_reducible assumption

theorem State.shaperWaits_kept {r0 : State} {a0 : State} (ha0 : Kept r0 a0) : Kept r0 (State.shaperWaits a0) := by
  unfold State.shaperWaits
  refine Kept.ite ?_ ?_
  · refine State.countDuctus_kept ?_
    with_reducible assumption
  · with_reducible assumption

theorem State.shaperTake_kept {r0 : State} {a0 : State} {a1 : ℕ} (ha0 : Kept r0 a0) : Kept r0 (State.shaperTake a0 a1) := by
  unfold State.shaperTake
  refine Kept.ite ?_ ?_
  · refine State.setShaper_kept ?_
    with_reducible assumption
  · with_reducible assumption

end Sys2Proof.Machine
end

