-- ==== Sys2Proof/Laws/Kept6.lean ====
section
/-!
SUPPORT. What the operations and commands of these files keep: Reset, ArrayOps, Lookup, CoreCmds.
-/

set_option Elab.async false

namespace Sys2Proof.Machine

/-! ### Reset -/

theorem State.railsOff_kept {r0 : State} {a0 : State} (ha0 : Kept r0 a0) : Kept r0 (State.railsOff a0) := by
  unfold State.railsOff
  extract_lets x0
  have hx0 : Kept r0 x0 := by
    unfold x0
    refine State.coreLost_kept ?_
    with_reducible assumption
  refine State.modPower_kept ?_
  exact hx0

theorem State.turnOff_kept {r0 : State} {a0 : State} {a1 : ℕ} (ha0 : Kept r0 a0) : Kept r0 (State.turnOff a0 a1) := by
  unfold State.turnOff
  refine State.modPower_kept ?_
  refine State.railsOff_kept ?_
  with_reducible assumption

theorem State.abortLit_kept {r0 : State} {a0 : State} {a1 : ℕ} (ha0 : Kept r0 a0) : Kept r0 (State.abortLit a0 a1) := by
  unfold State.abortLit
  refine Kept.ite ?_ ?_
  · refine abortAll_kept ?_
    with_reducible assumption
  · with_reducible assumption

theorem State.abrupt_kept {r0 : State} {a0 : State} {a1 : ℕ} (ha0 : Kept r0 a0) : Kept r0 (State.abrupt a0 a1) := by
  unfold State.abrupt
  refine State.turnOff_kept ?_
  refine State.abortLit_kept ?_
  with_reducible assumption

theorem State.trip_kept {r0 : State} {a0 : State} (ha0 : Kept r0 a0) : Kept r0 (State.trip a0) := by
  unfold State.trip
  refine State.turnOff_kept ?_
  refine State.abortLit_kept ?_
  refine State.modPower_kept ?_
  with_reducible assumption

theorem State.finishOpen_kept {r0 : State} {a0 : State} (ha0 : Kept r0 a0) : Kept r0 (State.finishOpen a0) := by
  unfold State.finishOpen
  refine State.forEach_kept ?_ ?_
  · with_reducible assumption
  · intro a0 a1 h2
    split
    · refine Kept.ite ?_ ?_
      · refine changeoverDone_kept ?_
        with_reducible assumption
      · with_reducible assumption
    · with_reducible assumption

theorem State.warmStart_kept {r0 a0 : State} (ha0 : Kept r0 a0) : Kept r0 a0.warmStart := by
  have h : Kept r0 ((a0.abortLit 3).finishOpen.feedAccounts false) :=
    State.feedAccounts_kept (State.finishOpen_kept (State.abortLit_kept ha0))
  unfold State.warmStart
  generalize (a0.abortLit 3).finishOpen.feedAccounts false = s at h
  have hm (h : s.mem.wf = true) : s.memWarm.wf = true := by
    have k := MemSt.wf_iff.1 h
    unfold State.memWarm
    split
    · exact MemSt.wf_iff.2 ⟨rfl, k.2.1, k.2.2⟩
    · split
      · exact h
      · exact MemSt.wf_iff.2 ⟨rfl, k.2.1, k.2.2⟩
  exact ⟨h.1, h.2.1, fun g => let k := h.2.2 g
    ⟨hm k.1, Nat.zero_le _, fun _ h => (nomatch h), fun e he => k.2.2.2.1 e (List.mem_of_mem_filter he), k.2.2.2.2⟩⟩

theorem State.warmRequest_kept {r0 : State} {a0 : State} (ha0 : Kept r0 a0) : Kept r0 (State.warmRequest a0) := by
  unfold State.warmRequest
  extract_lets x0 x1
  have hx0 : Kept r0 x0 := by
    unfold x0
    refine State.modBoot_kept ?_
    with_reducible assumption
  have hx1 : Kept r0 x1 := by
    unfold x1
    refine Kept.ite ?_ ?_
    · refine State.modBoot_kept ?_
      with_reducible assumption
    · refine State.warmStart_kept ?_
      with_reducible assumption
  split
  · with_reducible assumption
  · with_reducible assumption
  · refine Kept.ite ?_ ?_
    · with_reducible assumption
    · with_reducible assumption
  · refine Kept.ite ?_ ?_
    · with_reducible assumption
    · refine State.modBoot_kept ?_
      with_reducible assumption

theorem State.runPendingWarm_kept {r0 : State} {a0 : State} (ha0 : Kept r0 a0) : Kept r0 (State.runPendingWarm a0) := by
  unfold State.runPendingWarm
  refine Kept.ite ?_ ?_
  · refine State.setFlagIf_kept ?_
    refine State.warmStart_kept ?_
    with_reducible assumption
  · with_reducible assumption

theorem State.closeRecords_kept {r0 : State} {a0 : State} {a1 : Metered} {a2 : ℕ} (ha0 : Kept r0 a0) : Kept r0 (State.closeRecords a0 a1 a2) := by
  unfold State.closeRecords
  extract_lets x0 x1 x2
  have hx1 : Kept r0 x1 := by
    unfold x1
    refine State.closeRecord_kept ?_
    with_reducible assumption
  have hx2 : Kept r0 x2 := by
    unfold x2
    refine State.forEach_kept ?_ ?_
    · with_reducible assumption
    · intro a3 a4 h5
      refine State.confirmRecord_kept ?_
      refine State.storeChop_kept ?_
      with_reducible assumption
  refine Kept.ite ?_ ?_
  · with_reducible assumption
  · refine State.writeHistory_kept ?_
    refine State.logOpenEvent_kept ?_
    with_reducible assumption

theorem State.offStep_kept {r0 : State} {a0 : State} {a1 : OffBy} {a2 : ShutdownEnv} (ha0 : Kept r0 a0) : Kept r0 (State.offStep a0 a1 a2) := by
  unfold State.offStep
  extract_lets x0
  have hx0 : Kept r0 x0 := by
    unfold x0
    refine State.modPower_kept ?_
    with_reducible assumption
  split
  · refine State.turnOff_kept ?_
    with_reducible assumption
  · refine State.turnOff_kept ?_
    with_reducible assumption
  · refine Kept.ite ?_ ?_
    · refine Kept.ite ?_ ?_
      · refine State.warmRequest_kept ?_
        refine State.modBoot_kept ?_
        with_reducible assumption
      · refine State.setFlag_kept ?_
        refine State.warmRequest_kept ?_
        with_reducible assumption
    · refine State.turnOff_kept ?_
      with_reducible assumption

theorem State.orderly_kept {r0 : State} {a0 : State} {a1 : OffBy} {a2 : ShutdownEnv} (ha0 : Kept r0 a0) : Kept r0 (State.orderly a0 a1 a2) := by
  unfold State.orderly
  extract_lets x0 x1 x2 x3 x4 x5
  have hx2 : Kept r0 x2 := by
    unfold x2
    refine Kept.ite ?_ ?_
    · refine State.feedAccounts_kept ?_
      with_reducible assumption
    · with_reducible assumption
  have hx3 : Kept r0 x3 := by
    unfold x3
    refine Kept.ite ?_ ?_
    · refine State.forEach_kept ?_ ?_
      · refine State.abortLit_kept ?_
        with_reducible assumption
      · intro a6 a7 h8
        refine dropChange_kept ?_
        with_reducible assumption
    · with_reducible assumption
  have hx4 : Kept r0 x4 := by
    unfold x4
    refine Kept.ite ?_ ?_
    · refine State.modPower_kept ?_
      with_reducible assumption
    · with_reducible assumption
  have hx5 : Kept r0 x5 := by
    unfold x5
    refine Kept.ite ?_ ?_
    · refine State.closeRecords_kept ?_
      with_reducible assumption
    · with_reducible assumption
  split
  · refine State.trip_kept ?_
    with_reducible assumption
  · refine State.modPower_kept ?_
    refine State.abrupt_kept ?_
    with_reducible assumption
  · refine State.offStep_kept ?_
    with_reducible assumption

theorem State.railsStart_kept {r0 : State} {a0 : State} (ha0 : Kept r0 a0) : Kept r0 (State.railsStart a0) := by
  unfold State.railsStart
  refine Kept.ite ?_ ?_
  · refine State.modBoot_kept ?_
    refine State.modPower_kept ?_
    with_reducible assumption
  · with_reducible assumption

theorem State.reviewEnAgain_kept {r0 : State} {a0 : State} (ha0 : Kept r0 a0) : Kept r0 (State.reviewEnAgain a0) := by
  unfold State.reviewEnAgain
  refine Kept.ite ?_ ?_
  · refine State.railsStart_kept ?_
    refine State.modPower_kept ?_
    with_reducible assumption
  · with_reducible assumption

theorem State.reviewEnLow_kept {r0 : State} {a0 : State} (ha0 : Kept r0 a0) : Kept r0 (State.reviewEnLow a0) := by
  unfold State.reviewEnLow
  split
  · refine Kept.ite ?_ ?_
    · refine State.modPower_kept ?_
      with_reducible assumption
    · with_reducible assumption
  · with_reducible assumption

/-! ### ArrayOps -/

theorem State.doPass_kept {r0 : State} {a0 : State} {a1 : ℕ} {a2 : ℕ} {a3 : Ctx} {a4 : ℕ} (ha0 : Kept r0 a0) : Kept r0 (State.doPass a0 a1 a2 a3 a4) := by
  unfold State.doPass
  extract_lets x0 x1 x2 x3 x4
  have hx3 : Kept r0 x3 := by
    unfold x3
    refine State.goAsync_kept ?_
    with_reducible assumption
  refine Kept.ite ?_ ?_
  · refine State.progFault_kept ?_
    with_reducible assumption
  · refine Kept.ite ?_ ?_
    · refine State.progFault_kept ?_
      with_reducible assumption
    · refine State.updNib_kept ?_
      with_reducible assumption

theorem State.loadWeights_kept {r0 : State} {a0 : State} {a1 : ℕ} (ha0 : Kept r0 a0) : Kept r0 (State.loadWeights a0 a1) := by
  unfold State.loadWeights
  extract_lets x0 x1 x2
  refine Kept.ite ?_ ?_
  · with_reducible assumption
  · refine State.updNib_kept ?_
    with_reducible assumption

theorem State.runBatch_kept {r0 : State} {a0 : State} {a1 : ℕ} {a2 : List PassReq} (ha0 : Kept r0 a0) : Kept r0 (State.runBatch a0 a1 a2) := by
  unfold State.runBatch
  extract_lets x0 x1
  have hx1 : Kept r0 x1 := by
    unfold x1
    refine State.updNib_kept ?_
    with_reducible assumption
  refine Kept.ite ?_ ?_
  · refine State.nibFlag_kept ?_
    refine State.countNib_kept ?_
    with_reducible assumption
  · with_reducible assumption

theorem State.arrayTick_kept {r0 : State} {a0 : State} {a1 : ℕ} (ha0 : Kept r0 a0) : Kept r0 (State.arrayTick a0 a1) := by
  unfold State.arrayTick
  extract_lets x0 x1 x2 x3 x4 x5 x6 x7 x8
  have hx7 : Kept r0 x7 := by
    unfold x7
    refine State.updNib_kept ?_
    with_reducible assumption
  have hx8 : Kept r0 x8 := by
    unfold x8
    refine State.countNib_kept ?_
    refine State.countNib_kept ?_
    with_reducible assumption
  refine Kept.ite ?_ ?_
  · with_reducible assumption
  · refine State.loadWeights_kept ?_
    refine Kept.ite ?_ ?_
    · refine State.nibFlag_kept ?_
      with_reducible assumption
    · with_reducible assumption

theorem State.arraysTick_kept {r0 : State} {a0 : State} (ha0 : Kept r0 a0) : Kept r0 (State.arraysTick a0) := by
  unfold State.arraysTick
  refine State.forEach_kept ?_ ?_
  · with_reducible assumption
  · intro a0 a1 h2
    refine State.arrayTick_kept ?_
    with_reducible assumption

theorem State.passStalls_kept {r0 : State} {a0 : State} {a1 : ℕ} {a2 : ℕ} {a3 : ℕ} (ha0 : Kept r0 a0) : Kept r0 (State.passStalls a0 a1 a2 a3) := by
  unfold State.passStalls
  split
  split
  extract_lets x0 x1
  have hx0 : Kept r0 x0 := by
    unfold x0
    refine State.countNib_kept ?_
    refine State.countNib_kept ?_
    refine KeptP.elim ?_ (by with_reducible assumption)
    refine State.freeBelow_kept ?_
    refine KeptP.elim ?_ (by with_reducible assumption)
    refine State.freeBelow_kept ?_
    with_reducible assumption
  have hx1 : Kept r0 x1 := by
    unfold x1
    refine Kept.ite ?_ ?_
    · with_reducible assumption
    · refine State.sampleEvent_kept ?_
      with_reducible assumption
  refine Kept.ite ?_ ?_
  · with_reducible assumption
  · refine State.sampleEvent_kept ?_
    with_reducible assumption

theorem State.passDone_kept {r0 : State} {a0 : State} {a1 : ℕ} {a2 : PassReq} (ha0 : Kept r0 a0) : Kept r0 (State.passDone a0 a1 a2) := by
  unfold State.passDone
  extract_lets x0
  have hx0 : Kept r0 x0 := by
    unfold x0
    refine State.updNib_kept ?_
    with_reducible assumption
  split
  · with_reducible assumption
  · extract_lets x1
    split
    · with_reducible assumption
    · extract_lets x2
      split
      extract_lets x3 x4 x5 x6 x7
      have hx3 : Kept r0 x3 := by
        unfold x3
        refine State.convFlags_kept ?_
        refine State.passStalls_kept ?_
        refine State.countNib_kept ?_
        with_reducible assumption
      have hx4 : Kept r0 x4 := by
        unfold x4
        refine Kept.ite ?_ ?_
        · refine State.sampleEvent_kept ?_
          with_reducible assumption
        · with_reducible assumption
      have hx5 : Kept r0 x5 := by
        unfold x5
        refine State.writeScratch_kept ?_
        with_reducible assumption
      have hx6 : Kept r0 x6 := by
        unfold x6
        refine Kept.ite ?_ ?_
        · refine State.writeScratch_kept ?_
          with_reducible assumption
        · with_reducible assumption
      have hx7 : Kept r0 x7 := by
        unfold x7
        refine State.updCtx_kept ?_
        with_reducible assumption
      refine State.endFault_kept ?_
      refine State.endHalt_kept ?_
      with_reducible assumption

/-! ### Lookup -/

theorem State.pipeDrop_kept {r0 : State} {a0 : State} {a1 : InPipe} (ha0 : Kept r0 a0) : Kept r0 (State.pipeDrop a0 a1) := by
  unfold State.pipeDrop
  refine State.returnCredit_kept ?_
  with_reducible assumption

theorem State.pipeSend_kept {r0 : State} {a0 : State} {a1 : InPipe} {a2 : ℕ} {a3 : Dest} {a4 : List Byte} (ha0 : Kept r0 a0) : Kept r0 (State.pipeSend a0 a1 a2 a3 a4) := by
  unfold State.pipeSend
  refine State.offer_kept ?_
  with_reducible assumption

theorem State.terminate_kept {r0 : State} {a0 : State} {a1 : InPipe} {a2 : ℕ} {a3 : Option ℕ} (ha0 : Kept r0 a0) : Kept r0 (State.terminate a0 a1 a2 a3) := by
  unfold State.terminate
  extract_lets x0 x1 x2
  have hx2 : ∀ v3 v4, Kept r0 v3 → Kept r0 (x2 v3 v4) := by
    unfold x2
    intro a5 a6 h7
    refine State.pipeDrop_kept ?_
    refine State.vftRejected_kept ?_
    with_reducible assumption
  split
  · unfold x2
    refine State.pipeDrop_kept ?_
    refine State.vftRejected_kept ?_
    with_reducible assumption
  · split
    · unfold x2
      refine State.pipeDrop_kept ?_
      refine State.vftRejected_kept ?_
      with_reducible assumption
    · refine Kept.ite ?_ ?_
      · refine State.pipeDrop_kept ?_
        refine State.countFibre_kept ?_
        with_reducible assumption
      · refine Kept.ite ?_ ?_
        · refine State.pipeDrop_kept ?_
          refine State.countMisc_kept ?_
          with_reducible assumption
        · refine Kept.ite ?_ ?_
          · refine State.pipeSend_kept ?_
            with_reducible assumption
          · split
            · split
              · refine State.pipeSend_kept ?_
                with_reducible assumption
              · refine State.pipeDrop_kept ?_
                with_reducible assumption
            · unfold x2
              refine State.pipeDrop_kept ?_
              refine State.vftRejected_kept ?_
              refine State.setFlag_kept ?_
              with_reducible assumption

theorem State.checkDest_kept {r0 : State} {a0 : State} {a1 : InPipe} {a2 : Route} (ha0 : Kept r0 a0) : KeptP r0 (State.checkDest a0 a1 a2) := by
  unfold State.checkDest
  split
  · refine KeptP.ite ?_ ?_
    · refine KeptP.mk ?_
      with_reducible assumption
    · refine KeptP.mk ?_
      refine State.countPipe_kept ?_
      with_reducible assumption
  · refine KeptP.mk ?_
    with_reducible assumption

theorem State.byNextHop_kept {r0 : State} {a0 : State} {a1 : InPipe} {a2 : ℕ} {a3 : ℕ} {a4 : List Byte} (ha0 : Kept r0 a0) : KeptP r0 (State.byNextHop a0 a1 a2 a3 a4) := by
  unfold State.byNextHop
  extract_lets x0
  refine KeptP.ite ?_ ?_
  · refine KeptP.mk ?_
    refine State.countPipe_kept ?_
    with_reducible assumption
  · split
    extract_lets x1
    refine KeptP.mk ?_
    refine KeptP.elim ?_ (by with_reducible assumption)
    refine State.freeBelow_kept ?_
    with_reducible assumption

theorem State.byResult_kept {r0 : State} {a0 : State} {a1 : InPipe} {a2 : ℕ} {a3 : Option ℕ} {a4 : List Byte} (ha0 : Kept r0 a0) : KeptP r0 (State.byResult a0 a1 a2 a3 a4) := by
  unfold State.byResult
  extract_lets x0 x1 x2
  have hx2 : KeptP r0 x2 := by
    unfold x2
    split
    · refine KeptP.mk ?_
      with_reducible assumption
    · split
      · refine State.byNextHop_kept ?_
        with_reducible assumption
      · refine KeptP.ite ?_ ?_
        · refine KeptP.mk ?_
          refine State.countPipe_kept ?_
          with_reducible assumption
        · refine KeptP.mk ?_
          with_reducible assumption
    · refine KeptP.mk ?_
      refine State.countMisc_kept ?_
      with_reducible assumption
    · refine KeptP.mk ?_
      with_reducible assumption
  refine KeptP.mk ?_
  refine KeptP.out (p := ?_) ?_
  with_reducible assumption

theorem State.routeL2_kept {r0 : State} {a0 : State} {a1 : InPipe} {a2 : ℕ} (ha0 : Kept r0 a0) : KeptP r0 (State.routeL2 a0 a1 a2) := by
  unfold State.routeL2
  extract_lets x0
  split
  · refine State.byResult_kept ?_
    with_reducible assumption
  · refine KeptP.mk ?_
    with_reducible assumption

theorem State.routedHit_kept {r0 : State} {a0 : State} {a1 : InPipe} {a2 : ℕ} {a3 : Bool} {a4 : State → List Byte → Route × State} (ha0 : Kept r0 a0) (ha4 : ∀ v0 v1, Kept r0 v0 → KeptP r0 (a4 v0 v1)) : KeptP r0 (State.routedHit a0 a1 a2 a3 a4) := by
  unfold State.routedHit
  extract_lets x0 x1
  refine KeptP.ite ?_ ?_
  · refine KeptP.mk ?_
    refine State.tableFlag_kept ?_
    refine State.countPipe_kept ?_
    with_reducible assumption
  · refine ha4 _ _ ?_
    with_reducible assumption

theorem State.routeIp_kept {r0 : State} {a0 : State} {a1 : InPipe} {a2 : ℕ} {a3 : Bool} (ha0 : Kept r0 a0) : KeptP r0 (State.routeIp a0 a1 a2 a3) := by
  unfold State.routeIp
  extract_lets x0 x1 x2
  split
  · refine State.routedHit_kept ?_ ?_
    · with_reducible assumption
    · intro a3 a4 h5
      refine State.byResult_kept ?_
      with_reducible assumption
  · split
    · refine State.routedHit_kept ?_ ?_
      · with_reducible assumption
      · intro a6 a7 h8
        refine State.byNextHop_kept ?_
        with_reducible assumption
    · refine KeptP.mk ?_
      refine State.tableFlag_kept ?_
      refine State.countPipe_kept ?_
      with_reducible assumption

theorem State.ipcBypass_kept {r0 : State} {a0 : State} (ha0 : Kept r0 a0) : Kept r0 (State.ipcBypass a0) := by
  unfold State.ipcBypass
  refine State.setFlag_kept ?_
  refine State.countMem_kept ?_
  with_reducible assumption

theorem State.intermediate_kept {r0 : State} {a0 : State} {a1 : InPipe} {a2 : Route} (ha0 : Kept r0 a0) : KeptP r0 (State.intermediate a0 a1 a2) := by
  unfold State.intermediate
  split
  · refine KeptP.mk ?_
    with_reducible assumption
  · split
    · extract_lets x0
      refine KeptP.ite ?_ ?_
      · refine KeptP.mk ?_
        with_reducible assumption
      · split
        · refine KeptP.mk ?_
          with_reducible assumption
        · refine KeptP.mk ?_
          refine State.ipcBypass_kept ?_
          with_reducible assumption
    · split
      · refine KeptP.mk ?_
        refine Kept.ite ?_ ?_
        · refine State.ipcBypass_kept ?_
          with_reducible assumption
        · with_reducible assumption
      · refine KeptP.mk ?_
        with_reducible assumption

theorem State.learnSource_kept {r0 : State} {a0 : State} {a1 : InPipe} {a2 : ℕ} (ha0 : Kept r0 a0) : KeptP r0 (State.learnSource a0 a1 a2) := by
  unfold State.learnSource
  extract_lets x0 x1 x2
  have hx1 : ∀ v3 v4, Kept r0 v3 → Kept r0 (x1 v3 v4) := by
    unfold x1
    intro a5 a6 h7
    refine State.modTables_kept ?_
    with_reducible assumption
  split
  · refine KeptP.ite ?_ ?_
    · refine KeptP.mk ?_
      refine Kept.ite ?_ ?_
      · with_reducible assumption
      · unfold x1
        refine State.modTables_kept ?_
        with_reducible assumption
    · refine KeptP.ite ?_ ?_
      · refine KeptP.mk ?_
        refine State.tableFlag_kept ?_
        refine State.countPipe_kept ?_
        with_reducible assumption
      · refine KeptP.ite ?_ ?_
        · refine KeptP.mk ?_
          unfold x1
          refine State.modTables_kept ?_
          with_reducible assumption
        · refine KeptP.mk ?_
          with_reducible assumption
  · refine KeptP.ite ?_ ?_
    · refine KeptP.mk ?_
      unfold x1
      refine State.modTables_kept ?_
      refine State.countPipe_kept ?_
      with_reducible assumption
    · refine KeptP.mk ?_
      refine State.tableFlag_kept ?_
      refine State.countPort_kept ?_
      with_reducible assumption

theorem State.policeFrame_kept {r0 : State} {a0 : State} {a1 : InPipe} {a2 : ℕ} (ha0 : Kept r0 a0) : KeptP r0 (State.policeFrame a0 a1 a2) := by
  unfold State.policeFrame
  extract_lets x0
  have hx0 : KeptP r0 x0 := by
    unfold x0
    refine State.police_kept ?_
    with_reducible assumption
  refine KeptP.ite ?_ ?_
  · refine KeptP.ite ?_ ?_
    · with_reducible assumption
    · refine KeptP.mk ?_
      refine State.countPort_kept ?_
      refine State.countPipe_kept ?_
      refine KeptP.out (p := ?_) ?_
      with_reducible assumption
  · refine KeptP.mk ?_
    with_reducible assumption

theorem State.forward_kept {r0 a0 : State} {a1 : InPipe} {a2 : Parsed} {a3 : Nat} (ha0 : Kept r0 a0) :
    Kept r0 (State.forward a0 a1 a2 a3) := by
  unfold State.forward
  extract_lets b c tc s et ip l go
  refine Kept.ite (State.pipeDrop_kept (State.countFibre_kept ha0)) ?_
  have hs : Kept r0 s := Kept.ite (State.countMisc_kept ha0) ha0
  have hgo : KeptOP r0 go := by
    unfold go
    refine KeptOP.ite (KeptOP.ite KeptOP.none ?_) ?_
    · exact fun t e => by cases e; exact State.routeIp_kept hs
    · have hl : Kept r0 l.2 := State.learnSource_kept hs
      refine KeptOP.ite ?_ (KeptOP.some hl)
      exact fun t e => by cases e; exact State.routeL2_kept hl
  clear_value go
  split
  · exact State.pipeDrop_kept (State.countPipe_kept hs)
  next r =>
    have hr : Kept r0 r.2 := hgo r rfl
    have hi : Kept r0 (r.2.intermediate a1 r.1).2 := State.intermediate_kept hr
    have hc : Kept r0 ((r.2.intermediate a1 r.1).2.checkDest a1 (r.2.intermediate a1 r.1).1).2 := State.checkDest_kept hi
    refine Kept.ite (State.pipeDrop_kept hc) ?_
    have hv := State.policeFrame_kept (a1 := a1) (a2 := tc) hc
    refine Kept.ite (State.pipeDrop_kept hv) ?_
    split
    · split
      · exact State.pipeSend_kept (State.offer_kept hv)
      · exact State.pipeDrop_kept (State.offer_kept hv)
    · split
      · exact State.pipeSend_kept hv
      · exact State.pipeDrop_kept hv

theorem State.pipeline_kept {r0 : State} {a0 : State} {a1 : InPipe} (ha0 : Kept r0 a0) : Kept r0 (State.pipeline a0 a1) := by
  unfold State.pipeline
  extract_lets x0 x1 x2
  have hx2 : Kept r0 x2 := by
    unfold x2
    refine State.countPipe_kept ?_
    with_reducible assumption
  refine Kept.ite ?_ ?_
  · refine State.pipeDrop_kept ?_
    refine State.countPipe_kept ?_
    with_reducible assumption
  · split
    · refine State.pipeDrop_kept ?_
      refine State.countPipe_kept ?_
      with_reducible assumption
    · refine Kept.ite ?_ ?_
      · refine State.pipeDrop_kept ?_
        refine State.tableFlag_kept ?_
        refine State.countPipe_kept ?_
        with_reducible assumption
      · split
        · refine State.terminate_kept ?_
          with_reducible assumption
        · refine State.forward_kept ?_
          with_reducible assumption

theorem State.upset_kept {r0 : State} {a0 : State} {a1 : ℕ} {a2 : List (ℕ × ℕ)} (ha0 : Kept r0 a0) : Kept r0 (State.upset a0 a1 a2) := by
  unfold State.upset
  refine State.modTables_kept ?_
  with_reducible assumption

theorem execFrameLookup_kept {r0 : State} {a0 : Fin 8} {a1 : List (ℕ × ℕ)} {a2 : State} (ha2 : Kept r0 a2) : KeptT r0 (execFrameLookup a0 a1 a2) := by
  unfold execFrameLookup
  split
  · refine KeptT.next ?_
    with_reducible assumption
  · extract_lets x0 x1
    have hx0 : Kept r0 x0 := by
      unfold x0
      refine State.upset_kept ?_
      refine State.modTables_kept ?_
      with_reducible assumption
    split
    extract_lets x2 x3
    have hx2 : Kept r0 x2 := by
      unfold x2
      refine State.count_kept ?_
      refine KeptP.elim ?_ (by with_reducible assumption)
      refine State.freeBelow_kept ?_
      with_reducible assumption
    refine KeptT.next ?_
    refine State.pipeline_kept ?_
    refine State.forEach_kept ?_ ?_
    · with_reducible assumption
    · intro a4 a5 h6
      refine State.parity_kept ?_
      with_reducible assumption

theorem execLearnApply_kept {r0 : State} {a0 : Bool} {a1 : State} (ha1 : Kept r0 a1) : KeptT r0 (execLearnApply a0 a1) := by
  unfold execLearnApply
  split
  · refine KeptT.next ?_
    with_reducible assumption
  · extract_lets x0
    have hx0 : Kept r0 x0 := by
      unfold x0
      refine State.modTables_kept ?_
      with_reducible assumption
    refine KeptT.ite ?_ ?_
    · refine KeptT.next ?_
      refine State.tableFlag_kept ?_
      refine State.countPipe_kept ?_
      with_reducible assumption
    · refine KeptT.next ?_
      refine State.applyLearn_kept ?_
      with_reducible assumption

theorem execAgeScan_kept {r0 : State} {a0 : State} (ha0 : Kept r0 a0) : KeptT r0 (execAgeScan a0) := by
  unfold execAgeScan
  refine KeptT.next ?_
  refine State.ageScan_kept ?_
  with_reducible assumption

theorem execCheckBitRepair_kept {r0 : State} {a0 : BitVec 8} {a1 : State} (ha1 : Kept r0 a1) : KeptT r0 (execCheckBitRepair a0 a1) := by
  unfold execCheckBitRepair
  refine KeptT.next ?_
  refine State.repair_kept ?_
  with_reducible assumption

theorem execTableApply_kept {r0 : State} {a0 : Req} {a1 : BitVec 24} {a2 : State} (ha2 : Kept r0 a2) : KeptT r0 (execTableApply a0 a1 a2) := by
  unfold execTableApply
  refine KeptT.next ?_
  refine serveWrite_kept ?_ ?_
  · with_reducible assumption
  · intro a0 a1 h2
    refine tableCommand_kept ?_
    with_reducible assumption

theorem execTableClearStaging_kept {r0 : State} {a0 : Req} {a1 : BitVec 24} {a2 : State} (ha2 : Kept r0 a2) : KeptT r0 (execTableClearStaging a0 a1 a2) := by
  unfold execTableClearStaging
  refine KeptT.next ?_
  refine serveWrite_kept ?_ ?_
  · with_reducible assumption
  · intro a0 a1 h2
    refine tableCommand_kept ?_
    with_reducible assumption

theorem execTableInsertExact_kept {r0 : State} {a0 : State} (ha0 : Kept r0 a0) : KeptT r0 (execTableInsertExact a0) := by
  unfold execTableInsertExact
  split
  · refine KeptT.next ?_
    refine State.opEnded_kept ?_
    refine State.opInsert_kept ?_
    with_reducible assumption
  · refine KeptT.next ?_
    with_reducible assumption

theorem execTableDeleteExact_kept {r0 : State} {a0 : State} (ha0 : Kept r0 a0) : KeptT r0 (execTableDeleteExact a0) := by
  unfold execTableDeleteExact
  split
  · refine KeptT.next ?_
    refine State.opEnded_kept ?_
    refine State.opDelete_kept ?_
    with_reducible assumption
  · refine KeptT.next ?_
    with_reducible assumption

theorem execTableModifyResult_kept {r0 : State} {a0 : State} (ha0 : Kept r0 a0) : KeptT r0 (execTableModifyResult a0) := by
  unfold execTableModifyResult
  split
  · refine KeptT.next ?_
    refine State.opEnded_kept ?_
    refine State.opModify_kept ?_
    with_reducible assumption
  · refine KeptT.next ?_
    with_reducible assumption

theorem execTableAddPrefix_kept {r0 : State} {a0 : State} (ha0 : Kept r0 a0) : KeptT r0 (execTableAddPrefix a0) := by
  unfold execTableAddPrefix
  split
  · refine KeptT.next ?_
    refine State.opEnded_kept ?_
    refine KeptEP.pair ?_ ?_
    · refine State.addPrefix_kept ?_
      with_reducible assumption
    · with_reducible assumption
  · refine KeptT.next ?_
    with_reducible assumption

theorem execTableDeletePrefix_kept {r0 : State} {a0 : State} (ha0 : Kept r0 a0) : KeptT r0 (execTableDeletePrefix a0) := by
  unfold execTableDeletePrefix
  split
  · refine KeptT.next ?_
    refine State.opEnded_kept ?_
    refine KeptEP.pair ?_ ?_
    · refine State.deletePrefix_kept ?_
      with_reducible assumption
    · with_reducible assumption
  · refine KeptT.next ?_
    with_reducible assumption

theorem execTableWriteNextHop_kept {r0 : State} {a0 : State} (ha0 : Kept r0 a0) : KeptT r0 (execTableWriteNextHop a0) := by
  unfold execTableWriteNextHop
  split
  · refine KeptT.next ?_
    refine State.opEnded_kept ?_
    refine State.opNextHop_kept ?_
    with_reducible assumption
  · refine KeptT.next ?_
    with_reducible assumption

theorem execTableWriteVlanQuarter_kept {r0 : State} {a0 : State} (ha0 : Kept r0 a0) : KeptT r0 (execTableWriteVlanQuarter a0) := by
  unfold execTableWriteVlanQuarter
  split
  · refine KeptT.next ?_
    refine State.opEnded_kept ?_
    refine State.opVlan_kept ?_
    with_reducible assumption
  · refine KeptT.next ?_
    with_reducible assumption

/-! ### CoreCmds -/

theorem execFrameAdmit_kept {r0 : State} {a0 : Fin 164} {a1 : ℕ} {a2 : Fin 8} {a3 : State} (ha3 : Kept r0 a3) : KeptT r0 (execFrameAdmit a0 a1 a2 a3) := by
  unfold execFrameAdmit
  split
  · refine KeptT.next ?_
    with_reducible assumption
  · extract_lets x0 x1
    have hx0 : Kept r0 x0 := by
      unfold x0
      refine State.modCore_kept ?_
      with_reducible assumption
    have hx1 : Kept r0 x1 := by
      unfold x1
      refine Kept.ite ?_ ?_
      · with_reducible assumption
      · refine State.countMem_kept ?_
        with_reducible assumption
    refine KeptT.ite ?_ ?_
    · refine KeptT.next ?_
      refine State.admitted_kept ?_
      refine State.setFlag_kept ?_
      refine State.countUnit_kept ?_
      refine State.dropOffer_kept ?_
      with_reducible assumption
    · refine KeptT.ite ?_ ?_
      · refine KeptT.next ?_
        refine State.admitted_kept ?_
        refine State.store_kept ?_
        refine State.dropOffer_kept ?_
        with_reducible assumption
      · refine KeptT.ite ?_ ?_
        · refine KeptT.next ?_
          with_reducible assumption
        · refine KeptT.next ?_
          refine State.setFlag_kept ?_
          with_reducible assumption

theorem execCellTimeMatch_kept {r0 : State} {a0 : State} (ha0 : Kept r0 a0) : KeptT r0 (execCellTimeMatch a0) := by
  unfold execCellTimeMatch
  extract_lets x0
  split
  · refine KeptT.ite ?_ ?_
    · refine KeptT.next ?_
      refine State.shaperWaits_kept ?_
      refine State.cellTime_kept ?_
      with_reducible assumption
    · refine KeptT.next ?_
      with_reducible assumption
  · refine KeptT.next ?_
    refine State.shaperWaits_kept ?_
    refine State.cellTime_kept ?_
    with_reducible assumption

theorem State.badCell_kept {r0 : State} {a0 : State} {a1 : ℕ} {a2 : Cell} (ha0 : Kept r0 a0) : Kept r0 (State.badCell a0 a1 a2) := by
  unfold State.badCell
  extract_lets x0 x1 x2
  have hx0 : Kept r0 x0 := by
    unfold x0
    refine State.loseCell_kept ?_
    refine State.setFlag_kept ?_
    refine State.countUnit_kept ?_
    with_reducible assumption
  have hx2 : Kept r0 x2 := by
    unfold x2
    refine State.modCore_kept ?_
    with_reducible assumption
  refine Kept.ite ?_ ?_
  · refine State.unitFault_kept ?_
    with_reducible assumption
  · with_reducible assumption

theorem execCellArrive_kept {r0 : State} {a0 : Fin 10} {a1 : Fin 164} {a2 : BitVec 128} {a3 : Ecc} {a4 : State} (ha4 : Kept r0 a4) : KeptT r0 (execCellArrive a0 a1 a2 a3 a4) := by
  unfold execCellArrive
  split
  · refine KeptT.next ?_
    with_reducible assumption
  · extract_lets x0 x1 x2 x3
    have hx0 : Kept r0 x0 := by
      unfold x0
      refine State.modCore_kept ?_
      with_reducible assumption
    have hx2 : Kept r0 x2 := by
      unfold x2
      refine State.sramEcc_kept ?_
      with_reducible assumption
    refine KeptT.ite ?_ ?_
    · refine KeptT.next ?_
      refine State.badCell_kept ?_
      with_reducible assumption
    · refine KeptT.next ?_
      refine State.resequence_kept ?_
      with_reducible assumption

theorem execReseqGapTimeout_kept {r0 : State} {a0 : Fin 164} {a1 : Fin 164} {a2 : State} (ha2 : Kept r0 a2) : KeptT r0 (execReseqGapTimeout a0 a1 a2) := by
  unfold execReseqGapTimeout
  extract_lets x0
  refine KeptT.ite ?_ ?_
  · refine KeptT.next ?_
    with_reducible assumption
  · refine KeptT.next ?_
    refine State.declareLoss_kept ?_
    with_reducible assumption

theorem planeCommand_kept {r0 : State} {a0 : State} {a1 : ℕ} (ha0 : Kept r0 a0) : KeptE r0 (planeCommand a0 a1) := by
  unfold planeCommand
  extract_lets x0 x1
  refine KeptE.ite ?_ ?_
  · refine KeptE.error
  · refine KeptE.ite ?_ ?_
    · refine KeptE.ok ?_
      refine State.modCore_kept ?_
      with_reducible assumption
    · refine KeptE.ite ?_ ?_
      · refine KeptE.error
      · refine KeptE.ite ?_ ?_
        · refine KeptE.ok ?_
          with_reducible assumption
        · refine KeptE.ok ?_
          refine State.modCore_kept ?_
          with_reducible assumption

theorem execPlaneWithdraw_kept {r0 : State} {a0 : Req} {a1 : BitVec 24} {a2 : State} (ha2 : Kept r0 a2) : KeptT r0 (execPlaneWithdraw a0 a1 a2) := by
  unfold execPlaneWithdraw
  refine KeptT.next ?_
  refine serveWrite_kept ?_ ?_
  · with_reducible assumption
  · intro a0 a1 h2
    refine planeCommand_kept ?_
    with_reducible assumption

theorem execPlaneRestore_kept {r0 : State} {a0 : Req} {a1 : BitVec 24} {a2 : State} (ha2 : Kept r0 a2) : KeptT r0 (execPlaneRestore a0 a1 a2) := by
  unfold execPlaneRestore
  refine KeptT.next ?_
  refine serveWrite_kept ?_ ?_
  · with_reducible assumption
  · intro a0 a1 h2
    refine planeCommand_kept ?_
    with_reducible assumption

theorem execPlaneDrained_kept {r0 : State} {a0 : Fin 10} {a1 : State} (ha1 : Kept r0 a1) : KeptT r0 (execPlaneDrained a0 a1) := by
  unfold execPlaneDrained
  extract_lets x0
  have hx0 : Kept r0 x0 := by
    unfold x0
    refine State.setFlag_kept ?_
    refine State.modCore_kept ?_
    with_reducible assumption
  refine KeptT.ite ?_ ?_
  · refine KeptT.next ?_
    refine Kept.ite ?_ ?_
    · refine State.moduleFault_kept ?_
      with_reducible assumption
    · with_reducible assumption
  · refine KeptT.next ?_
    with_reducible assumption

theorem execCoordTableCommit_kept {r0 : State} {a0 : List (Fin 1024 × Fin 1024)} {a1 : State} (ha1 : Kept r0 a1) : KeptT r0 (execCoordTableCommit a0 a1) := by
  unfold execCoordTableCommit
  extract_lets x0 x1
  refine KeptT.ite ?_ ?_
  · refine KeptT.next ?_
    with_reducible assumption
  · refine KeptT.next ?_
    refine State.modCore_kept ?_
    with_reducible assumption

theorem execCoordCommitApply_kept {r0 : State} {a0 : State} (ha0 : Kept r0 a0) : KeptT r0 (execCoordCommitApply a0) := by
  unfold execCoordCommitApply
  extract_lets x0
  split
  · refine KeptT.next ?_
    with_reducible assumption
  · refine KeptT.ite ?_ ?_
    · refine KeptT.next ?_
      with_reducible assumption
    · refine KeptT.next ?_
      refine State.modCore_kept ?_
      with_reducible assumption

end Sys2Proof.Machine
end

