-- ==== Sys2Proof/Laws/Kept7.lean ====
section
/-!
SUPPORT. What the operations and commands of these files keep: NibCmds, RingCmds, HatchCmds.
-/

set_option Elab.async false

namespace Sys2Proof.Machine

/-! ### NibCmds -/

theorem execNibFrameIntake_kept {r0 : State} {a0 : Fin 32} {a1 : Ecc} {a2 : State} (ha2 : Kept r0 a2) : KeptT r0 (execNibFrameIntake a0 a1 a2) := by
  unfold execNibFrameIntake
  split
  · refine KeptT.next ?_
    with_reducible assumption
  · extract_lets x0 x1
    have hx0 : Kept r0 x0 := by
      unfold x0
      refine State.modCore_kept ?_
      with_reducible assumption
    have hx1 : Kept r0 x1 := by
      unfold x1
      refine State.nibEcc_kept ?_
      with_reducible assumption
    refine KeptT.ite ?_ ?_
    · refine KeptT.next ?_
      with_reducible assumption
    · split
      · refine KeptT.ite ?_ ?_
        · refine KeptT.next ?_
          refine State.failChunk_kept ?_
          with_reducible assumption
        · refine KeptT.next ?_
          refine State.intakeFrame_kept ?_
          with_reducible assumption
      · refine KeptT.next ?_
        refine State.intakeFrame_kept ?_
        with_reducible assumption

theorem execChunkDoneAdmit_kept {r0 : State} {a0 : ℕ} {a1 : Fin 4194304} {a2 : State} (ha2 : Kept r0 a2) : KeptT r0 (execChunkDoneAdmit a0 a1 a2) := by
  unfold execChunkDoneAdmit
  extract_lets x0 x1
  refine KeptT.ite ?_ ?_
  · refine KeptT.next ?_
    refine State.finishChunk_kept ?_
    with_reducible assumption
  · refine KeptT.next ?_
    with_reducible assumption

theorem execChunkTimeout_kept {r0 : State} {a0 : ℕ} {a1 : Fin 4194304} {a2 : State} (ha2 : Kept r0 a2) : KeptT r0 (execChunkTimeout a0 a1 a2) := by
  unfold execChunkTimeout
  extract_lets x0 x1 x2 x3
  refine KeptT.ite ?_ ?_
  · refine KeptT.next ?_
    refine State.failChunk_kept ?_
    with_reducible assumption
  · refine KeptT.next ?_
    with_reducible assumption

theorem execPassStart_kept {r0 : State} {a0 : Fin 32} {a1 : State} (ha1 : Kept r0 a1) : KeptT r0 (execPassStart a0 a1) := by
  unfold execPassStart
  split
  · refine KeptT.next ?_
    refine State.runBatch_kept ?_
    with_reducible assumption
  · refine KeptT.next ?_
    with_reducible assumption

theorem execPassComplete_kept {r0 : State} {a0 : Fin 32} {a1 : Ecc} {a2 : State} (ha2 : Kept r0 a2) : KeptT r0 (execPassComplete a0 a1 a2) := by
  unfold execPassComplete
  extract_lets x0
  have hx0 : Kept r0 x0 := by
    unfold x0
    refine State.nibEcc_kept ?_
    with_reducible assumption
  split
  · refine KeptT.next ?_
    with_reducible assumption
  · extract_lets x1 x2
    have hx1 : Kept r0 x1 := by
      unfold x1
      refine State.updNib_kept ?_
      with_reducible assumption
    have hx2 : Kept r0 x2 := by
      unfold x2
      refine State.updCtx_kept ?_
      with_reducible assumption
    refine KeptT.ite ?_ ?_
    · refine KeptT.next ?_
      refine State.progFault_kept ?_
      with_reducible assumption
    · refine KeptT.next ?_
      refine State.passDone_kept ?_
      with_reducible assumption

theorem execBatchTimeout_kept {r0 : State} {a0 : Fin 32} {a1 : State} (ha1 : Kept r0 a1) : KeptT r0 (execBatchTimeout a0 a1) := by
  unfold execBatchTimeout
  split
  · refine KeptT.next ?_
    with_reducible assumption
  · extract_lets x0
    have hx0 : Kept r0 x0 := by
      unfold x0
      refine State.updNib_kept ?_
      with_reducible assumption
    split
    · refine KeptT.next ?_
      refine State.runBatch_kept ?_
      with_reducible assumption
    · refine KeptT.next ?_
      with_reducible assumption

theorem execProgramInvoke_kept {r0 : State} {a0 : ℕ} {a1 : Fin 4194304} {a2 : State} (ha2 : Kept r0 a2) : KeptT r0 (execProgramInvoke a0 a1 a2) := by
  unfold execProgramInvoke
  extract_lets x0 x1 x2
  have hx2 : Kept r0 x2 := by
    unfold x2
    refine State.updThread_kept ?_
    with_reducible assumption
  split
  · refine KeptT.next ?_
    with_reducible assumption
  · extract_lets x3 x4
    refine KeptT.ite ?_ ?_
    · refine KeptT.next ?_
      with_reducible assumption
    · split
      · refine KeptT.next ?_
        refine State.invokeFails_kept ?_
        with_reducible assumption
      · refine KeptT.next ?_
        refine State.updNib_kept ?_
        with_reducible assumption

theorem execContextStart_kept {r0 : State} {a0 : Fin 32} {a1 : State} (ha1 : Kept r0 a1) : KeptT r0 (execContextStart a0 a1) := by
  unfold execContextStart
  refine KeptT.next ?_
  refine State.startContext_kept ?_
  with_reducible assumption

theorem State.uninstall_kept {r0 : State} {a0 : State} {a1 : ℕ} (ha0 : Kept r0 a0) : Kept r0 (State.uninstall a0 a1) := by
  unfold State.uninstall
  extract_lets x0
  have hx0 : Kept r0 x0 := by
    unfold x0
    refine State.modProgs_kept ?_
    with_reducible assumption
  exact hx0

theorem State.failWaiting_kept {r0 : State} {a0 : State} {a1 : ℕ} (ha0 : Kept r0 a0) : Kept r0 (State.failWaiting a0 a1) := by
  unfold State.failWaiting
  refine State.forEach_kept ?_ ?_
  · with_reducible assumption
  · intro a0 a1 h2
    extract_lets x3 x4
    have hx4 : Kept r0 x4 := by
      unfold x4
      refine State.updNib_kept ?_
      with_reducible assumption
    refine State.forEach_kept ?_ ?_
    · with_reducible assumption
    · intro a5 a6 h7
      refine State.invokeFails_kept ?_
      with_reducible assumption

theorem execProgramFetch_kept {r0 : State} {a0 : Fin 32} {a1 : Ecc} {a2 : State} (ha2 : Kept r0 a2) : KeptT r0 (execProgramFetch a0 a1 a2) := by
  unfold execProgramFetch
  split
  · refine KeptT.next ?_
    with_reducible assumption
  · extract_lets x0
    have hx0 : Kept r0 x0 := by
      unfold x0
      refine State.inkEcc_kept ?_
      with_reducible assumption
    refine KeptT.ite ?_ ?_
    · refine KeptT.next ?_
      with_reducible assumption
    · refine KeptT.ite ?_ ?_
      · refine KeptT.next ?_
        refine State.failWaiting_kept ?_
        refine State.uninstall_kept ?_
        with_reducible assumption
      · split
        · refine KeptT.next ?_
          refine KeptO.elim ?_ (by with_reducible assumption)
          refine State.fetchProgram_kept ?_
          with_reducible assumption
        · refine KeptT.next ?_
          with_reducible assumption

theorem execWaitLimitExpiry_kept {r0 : State} {a0 : Fin 32} {a1 : NibWait} {a2 : State} (ha2 : Kept r0 a2) : KeptT r0 (execWaitLimitExpiry a0 a1 a2) := by
  unfold execWaitLimitExpiry
  extract_lets x0 x1
  refine KeptT.ite ?_ ?_
  · refine KeptT.next ?_
    with_reducible assumption
  · split
    · extract_lets x2 x3
      have hx3 : Kept r0 x3 := by
        unfold x3
        refine State.updNib_kept ?_
        with_reducible assumption
      split
      · refine KeptT.next ?_
        with_reducible assumption
      · extract_lets x4 x5 x6
        refine KeptT.ite ?_ ?_
        · refine KeptT.next ?_
          with_reducible assumption
        · refine KeptT.next ?_
          refine State.invokeFails_kept ?_
          with_reducible assumption
    · split
      · refine KeptT.next ?_
        with_reducible assumption
      · split
        · refine KeptT.ite ?_ ?_
          · refine KeptT.next ?_
            refine State.progFault_kept ?_
            with_reducible assumption
          · refine KeptT.next ?_
            with_reducible assumption
        · split
          · refine KeptT.ite ?_ ?_
            · refine KeptT.next ?_
              with_reducible assumption
            · refine KeptT.next ?_
              refine State.progFault_kept ?_
              refine State.updCtx_kept ?_
              with_reducible assumption
          · refine KeptT.next ?_
            with_reducible assumption

theorem execHalt_kept {r0 : State} {a0 : Fin 32} {a1 : Fin 64} {a2 : State} (ha2 : Kept r0 a2) : KeptT r0 (execHalt a0 a1 a2) := by
  unfold execHalt
  refine KeptT.next ?_
  refine State.issueInstr_kept ?_ ?_
  · with_reducible assumption
  · intro a0 a1 a2 h3
    refine State.endHalt_kept ?_
    refine State.updCtx_kept ?_
    with_reducible assumption

theorem execJump_kept {r0 : State} {a0 : Fin 32} {a1 : Fin 64} {a2 : State} (ha2 : Kept r0 a2) : KeptT r0 (execJump a0 a1 a2) := by
  unfold execJump
  refine KeptT.next ?_
  refine State.issueInstr_kept ?_ ?_
  · with_reducible assumption
  · intro a0 a1 a2 h3
    refine State.goTo_kept ?_
    with_reducible assumption

theorem execBz_kept {r0 : State} {a0 : Fin 32} {a1 : Fin 64} {a2 : State} (ha2 : Kept r0 a2) : KeptT r0 (execBz a0 a1 a2) := by
  unfold execBz
  refine KeptT.next ?_
  refine State.issueInstr_kept ?_ ?_
  · with_reducible assumption
  · intro a0 a1 a2 h3
    refine State.branchIf_kept ?_
    with_reducible assumption

theorem execBnz_kept {r0 : State} {a0 : Fin 32} {a1 : Fin 64} {a2 : State} (ha2 : Kept r0 a2) : KeptT r0 (execBnz a0 a1 a2) := by
  unfold execBnz
  refine KeptT.next ?_
  refine State.issueInstr_kept ?_ ?_
  · with_reducible assumption
  · intro a0 a1 a2 h3
    refine State.branchIf_kept ?_
    with_reducible assumption

theorem execLoop_kept {r0 : State} {a0 : Fin 32} {a1 : Fin 64} {a2 : State} (ha2 : Kept r0 a2) : KeptT r0 (execLoop a0 a1 a2) := by
  unfold execLoop
  refine KeptT.next ?_
  refine State.issueInstr_kept ?_ ?_
  · with_reducible assumption
  · intro a0 a1 a2 h3
    extract_lets x4
    refine State.branchIf_kept ?_
    with_reducible assumption

theorem execMovi_kept {r0 : State} {a0 : Fin 32} {a1 : Fin 64} {a2 : State} (ha2 : Kept r0 a2) : KeptT r0 (execMovi a0 a1 a2) := by
  unfold execMovi
  refine KeptT.next ?_
  refine State.issueInstr_kept ?_ ?_
  · with_reducible assumption
  · intro a0 a1 a2 h3
    refine State.goNext_kept ?_
    with_reducible assumption

theorem execAdd_kept {r0 : State} {a0 : Fin 32} {a1 : Fin 64} {a2 : State} (ha2 : Kept r0 a2) : KeptT r0 (execAdd a0 a1 a2) := by
  unfold execAdd
  refine KeptT.next ?_
  refine State.issueInstr_kept ?_ ?_
  · with_reducible assumption
  · intro a0 a1 a2 h3
    refine State.goNext_kept ?_
    with_reducible assumption

theorem execSub_kept {r0 : State} {a0 : Fin 32} {a1 : Fin 64} {a2 : State} (ha2 : Kept r0 a2) : KeptT r0 (execSub a0 a1 a2) := by
  unfold execSub
  refine KeptT.next ?_
  refine State.issueInstr_kept ?_ ?_
  · with_reducible assumption
  · intro a0 a1 a2 h3
    refine State.goNext_kept ?_
    with_reducible assumption

theorem execMul_kept {r0 : State} {a0 : Fin 32} {a1 : Fin 64} {a2 : State} (ha2 : Kept r0 a2) : KeptT r0 (execMul a0 a1 a2) := by
  unfold execMul
  refine KeptT.next ?_
  refine State.issueInstr_kept ?_ ?_
  · with_reducible assumption
  · intro a0 a1 a2 h3
    refine State.goNext_kept ?_
    with_reducible assumption

theorem execShift_kept {r0 : State} {a0 : Fin 32} {a1 : Fin 64} {a2 : State} (ha2 : Kept r0 a2) : KeptT r0 (execShift a0 a1 a2) := by
  unfold execShift
  refine KeptT.next ?_
  refine State.issueInstr_kept ?_ ?_
  · with_reducible assumption
  · intro a0 a1 a2 h3
    refine State.goNext_kept ?_
    with_reducible assumption

theorem execLdx_kept {r0 : State} {a0 : Fin 32} {a1 : Fin 64} {a2 : Ecc} {a3 : State} (ha3 : Kept r0 a3) : KeptT r0 (execLdx a0 a1 a2 a3) := by
  unfold execLdx
  refine KeptT.next ?_
  refine State.issueInstr_kept ?_ ?_
  · with_reducible assumption
  · intro a0 a1 a2 h3
    refine State.doLdx_kept ?_
    with_reducible assumption

theorem execStx_kept {r0 : State} {a0 : Fin 32} {a1 : Fin 64} {a2 : State} (ha2 : Kept r0 a2) : KeptT r0 (execStx a0 a1 a2) := by
  unfold execStx
  refine KeptT.next ?_
  refine State.issueInstr_kept ?_ ?_
  · with_reducible assumption
  · intro a0 a1 a2 h3
    refine State.doStx_kept ?_
    with_reducible assumption

theorem execRecv_kept {r0 : State} {a0 : Fin 32} {a1 : Fin 64} {a2 : State} (ha2 : Kept r0 a2) : KeptT r0 (execRecv a0 a1 a2) := by
  unfold execRecv
  refine KeptT.next ?_
  refine State.issueInstr_kept ?_ ?_
  · with_reducible assumption
  · intro a0 a1 a2 h3
    refine State.doRecv_kept ?_
    with_reducible assumption

theorem execRecvComplete_kept {r0 : State} {a0 : Fin 32} {a1 : Fin 64} {a2 : State} (ha2 : Kept r0 a2) : KeptT r0 (execRecvComplete a0 a1 a2) := by
  unfold execRecvComplete
  split
  · refine KeptT.next ?_
    with_reducible assumption
  · split
    · refine KeptT.next ?_
      with_reducible assumption
    · refine KeptT.next ?_
      refine State.endFault_kept ?_
      refine State.endHalt_kept ?_
      refine State.recvDone_kept ?_
      with_reducible assumption

theorem execEmit_kept {r0 : State} {a0 : Fin 32} {a1 : Fin 64} {a2 : Ecc} {a3 : State} (ha3 : Kept r0 a3) : KeptT r0 (execEmit a0 a1 a2 a3) := by
  unfold execEmit
  refine KeptT.next ?_
  refine State.issueInstr_kept ?_ ?_
  · with_reducible assumption
  · intro a0 a1 a2 h3
    refine State.doEmit_kept ?_
    with_reducible assumption

theorem execNibCopy_kept {r0 : State} {a0 : Fin 32} {a1 : Fin 64} {a2 : Ecc} {a3 : State} (ha3 : Kept r0 a3) : KeptT r0 (execNibCopy a0 a1 a2 a3) := by
  unfold execNibCopy
  refine KeptT.next ?_
  refine State.issueInstr_kept ?_ ?_
  · with_reducible assumption
  · intro a0 a1 a2 h3
    refine State.doCopy_kept ?_
    with_reducible assumption

theorem execAcc_kept {r0 : State} {a0 : Fin 32} {a1 : Fin 64} {a2 : Ecc} {a3 : State} (ha3 : Kept r0 a3) : KeptT r0 (execAcc a0 a1 a2 a3) := by
  unfold execAcc
  refine KeptT.next ?_
  refine State.issueInstr_kept ?_ ?_
  · with_reducible assumption
  · intro a0 a1 a2 h3
    refine State.doAcc_kept ?_
    with_reducible assumption

theorem execRound_kept {r0 : State} {a0 : Fin 32} {a1 : Fin 64} {a2 : Ecc} {a3 : State} (ha3 : Kept r0 a3) : KeptT r0 (execRound a0 a1 a2 a3) := by
  unfold execRound
  refine KeptT.next ?_
  refine State.issueInstr_kept ?_ ?_
  · with_reducible assumption
  · intro a0 a1 a2 h3
    refine State.doRound_kept ?_
    with_reducible assumption

theorem execPass_kept {r0 : State} {a0 : Fin 32} {a1 : Fin 64} {a2 : State} (ha2 : Kept r0 a2) : KeptT r0 (execPass a0 a1 a2) := by
  unfold execPass
  refine KeptT.next ?_
  refine State.issueInstr_kept ?_ ?_
  · with_reducible assumption
  · intro a0 a1 a2 h3
    refine State.doPass_kept ?_
    with_reducible assumption

theorem execAsyncInstrComplete_kept {r0 : State} {a0 : Fin 32} {a1 : Fin 64} {a2 : ℕ} {a3 : State} (ha3 : Kept r0 a3) : KeptT r0 (execAsyncInstrComplete a0 a1 a2 a3) := by
  unfold execAsyncInstrComplete
  extract_lets x0
  have hx0 : Kept r0 x0 := by
    unfold x0
    refine State.updCtx_kept ?_
    with_reducible assumption
  split
  · refine KeptT.next ?_
    with_reducible assumption
  · split
    · refine KeptT.next ?_
      with_reducible assumption
    · refine KeptT.ite ?_ ?_
      · refine KeptT.next ?_
        with_reducible assumption
      · refine KeptT.next ?_
        refine State.endFault_kept ?_
        refine State.endHalt_kept ?_
        with_reducible assumption

theorem execSwait_kept {r0 : State} {a0 : Fin 32} {a1 : Fin 64} {a2 : State} (ha2 : Kept r0 a2) : KeptT r0 (execSwait a0 a1 a2) := by
  unfold execSwait
  refine KeptT.next ?_
  refine State.issueInstr_kept ?_ ?_
  · with_reducible assumption
  · intro a0 a1 a2 h3
    extract_lets x4
    have hx4 : Kept r0 x4 := by
      unfold x4
      refine State.countCp_kept ?_
      with_reducible assumption
    split
    refine Kept.ite ?_ ?_
    · refine State.sampleEvent_kept ?_
      refine State.goNext_kept ?_
      with_reducible assumption
    · refine State.updCtx_kept ?_
      with_reducible assumption

theorem execSwaitMet_kept {r0 : State} {a0 : Fin 32} {a1 : Fin 64} {a2 : State} (ha2 : Kept r0 a2) : KeptT r0 (execSwaitMet a0 a1 a2) := by
  unfold execSwaitMet
  split
  · refine KeptT.next ?_
    with_reducible assumption
  · split
    · refine KeptT.next ?_
      with_reducible assumption
    · refine KeptT.ite ?_ ?_
      · refine KeptT.next ?_
        with_reducible assumption
      · refine KeptT.next ?_
        refine State.sampleEvent_kept ?_
        refine State.goNext_kept ?_
        with_reducible assumption

theorem execSadd_kept {r0 : State} {a0 : Fin 32} {a1 : Fin 64} {a2 : State} (ha2 : Kept r0 a2) : KeptT r0 (execSadd a0 a1 a2) := by
  unfold execSadd
  refine KeptT.next ?_
  refine State.issueInstr_kept ?_ ?_
  · with_reducible assumption
  · intro a0 a1 a2 h3
    split
    split
    · refine State.goNext_kept ?_
      refine KeptO.elim ?_ (by with_reducible assumption)
      refine State.semAdd_kept ?_
      with_reducible assumption
    · refine State.progFault_kept ?_
      with_reducible assumption

theorem execSsub_kept {r0 : State} {a0 : Fin 32} {a1 : Fin 64} {a2 : State} (ha2 : Kept r0 a2) : KeptT r0 (execSsub a0 a1 a2) := by
  unfold execSsub
  refine KeptT.next ?_
  refine State.issueInstr_kept ?_ ?_
  · with_reducible assumption
  · intro a0 a1 a2 h3
    split
    split
    · refine State.goNext_kept ?_
      refine KeptO.elim ?_ (by with_reducible assumption)
      refine State.semSub_kept ?_
      with_reducible assumption
    · refine State.progFault_kept ?_
      with_reducible assumption

theorem execSkiddingSample_kept {r0 : State} {a0 : Fin 32} {a1 : Fin 17} {a2 : State} (ha2 : Kept r0 a2) : KeptT r0 (execSkiddingSample a0 a1 a2) := by
  unfold execSkiddingSample
  extract_lets x0 x1
  have hx1 : ∀ v2, Kept r0 v2 → Kept r0 (x1 v2) := by
    unfold x1
    exact fun _ h => h
  refine KeptT.ite ?_ ?_
  · refine KeptT.next ?_
    with_reducible assumption
  · split
    · refine KeptT.next ?_
      unfold x1
      refine State.updNib_kept ?_
      refine State.modFolio_kept ?_
      refine State.storeSample_kept ?_
      with_reducible assumption
    · split
      · refine KeptT.next ?_
        unfold x1
        refine State.updNib_kept ?_
        refine State.modFolio_kept ?_
        refine State.storeSample_kept ?_
        with_reducible assumption
      · refine KeptT.next ?_
        unfold x1
        refine State.updNib_kept ?_
        refine State.modFolio_kept ?_
        with_reducible assumption

theorem progCommand_kept {r0 : State} {a0 : State} {a1 : ℕ} (ha0 : Kept r0 a0) : KeptE r0 (progCommand a0 a1) := by
  unfold progCommand
  extract_lets x0 x1 x2 x3 x4
  have hx4 : ∀ v5, Kept r0 v5 → Kept r0 (x4 v5) := by
    unfold x4
    exact fun _ h => h
  refine KeptE.ite ?_ ?_
  · refine KeptE.error
  · refine KeptE.ite ?_ ?_
    · refine KeptE.error
    · refine KeptE.ite ?_ ?_
      · refine KeptE.ok ?_
        unfold x4
        refine State.modProgs_kept ?_
        refine State.modCodex_kept ?_
        refine State.modProgs_kept ?_
        with_reducible assumption
      · refine KeptE.ite ?_ ?_
        · refine KeptE.ite ?_ ?_
          · refine KeptE.error
          · refine KeptE.ok ?_
            unfold x4
            refine State.modProgs_kept ?_
            refine State.resumeInstalls_kept ?_
            refine State.modProgs_kept ?_
            refine State.installImage_kept ?_
            with_reducible assumption
        · refine KeptE.ite ?_ ?_
          · refine KeptE.ite ?_ ?_
            · refine KeptE.error
            · refine KeptE.ok ?_
              unfold x4
              refine State.modProgs_kept ?_
              refine State.uninstall_kept ?_
              with_reducible assumption
          · refine KeptE.ite ?_ ?_
            · refine KeptE.ite ?_ ?_
              · refine KeptE.error
              · refine KeptE.ite ?_ ?_
                · refine KeptE.ok ?_
                  unfold x4
                  refine State.modProgs_kept ?_
                  with_reducible assumption
                · refine KeptE.ite ?_ ?_
                  · refine KeptE.error
                  · refine KeptE.ok ?_
                    unfold x4
                    refine State.modProgs_kept ?_
                    refine State.fetchPinned_kept ?_
                    refine State.modProgs_kept ?_
                    with_reducible assumption
            · refine KeptE.ok ?_
              unfold x4
              refine State.modProgs_kept ?_
              refine State.modProgs_kept ?_
              with_reducible assumption

theorem progWrite_kept {r0 : State} {a0 : State} {a1 : Req} {a2 : ℕ} {a3 : BitVec 24} (ha0 : Kept r0 a0) : Kept r0 (progWrite a0 a1 a2 a3) := by
  unfold progWrite
  refine serveWrite_kept ?_ ?_
  · with_reducible assumption
  · intro a0 a1 h2
    refine progCommand_kept ?_
    with_reducible assumption

theorem execProgBeginLoad_kept {r0 : State} {a0 : Req} {a1 : BitVec 24} {a2 : State} (ha2 : Kept r0 a2) : KeptT r0 (execProgBeginLoad a0 a1 a2) := by
  unfold execProgBeginLoad
  refine KeptT.next ?_
  refine progWrite_kept ?_
  with_reducible assumption

theorem execProgInstall_kept {r0 : State} {a0 : Req} {a1 : BitVec 24} {a2 : State} (ha2 : Kept r0 a2) : KeptT r0 (execProgInstall a0 a1 a2) := by
  unfold execProgInstall
  refine KeptT.next ?_
  refine progWrite_kept ?_
  with_reducible assumption

theorem execProgUninstall_kept {r0 : State} {a0 : Req} {a1 : BitVec 24} {a2 : State} (ha2 : Kept r0 a2) : KeptT r0 (execProgUninstall a0 a1 a2) := by
  unfold execProgUninstall
  refine KeptT.next ?_
  refine progWrite_kept ?_
  with_reducible assumption

theorem execProgPin_kept {r0 : State} {a0 : Req} {a1 : BitVec 24} {a2 : State} (ha2 : Kept r0 a2) : KeptT r0 (execProgPin a0 a1 a2) := by
  unfold execProgPin
  refine KeptT.next ?_
  refine progWrite_kept ?_
  with_reducible assumption

theorem execProgUnpin_kept {r0 : State} {a0 : Req} {a1 : BitVec 24} {a2 : State} (ha2 : Kept r0 a2) : KeptT r0 (execProgUnpin a0 a1 a2) := by
  unfold execProgUnpin
  refine KeptT.next ?_
  refine progWrite_kept ?_
  with_reducible assumption

theorem execProgLoadAbandon_kept {r0 : State} {a0 : State} (ha0 : Kept r0 a0) : KeptT r0 (execProgLoadAbandon a0) := by
  unfold execProgLoadAbandon
  refine KeptT.ite ?_ ?_
  · refine KeptT.next ?_
    refine State.resumeInstalls_kept ?_
    refine State.modCodex_kept ?_
    refine State.modProgs_kept ?_
    with_reducible assumption
  · refine KeptT.next ?_
    with_reducible assumption

/-! ### RingCmds -/

theorem execDescriptorIssue_kept {r0 : State} {a0 : Fin 4096} {a1 : State} (ha1 : Kept r0 a1) : KeptT r0 (execDescriptorIssue a0 a1) := by
  unfold execDescriptorIssue
  refine KeptT.next ?_
  refine State.issueHead_kept ?_
  with_reducible assumption

theorem execNop_kept {r0 : State} {a0 : Fin 4096} {a1 : State} (ha1 : Kept r0 a1) : KeptT r0 (execNop a0 a1) := by
  unfold execNop
  refine KeptT.next ?_
  refine State.issueHead_kept ?_
  with_reducible assumption

theorem execInstallProgram_kept {r0 : State} {a0 : Fin 4096} {a1 : State} (ha1 : Kept r0 a1) : KeptT r0 (execInstallProgram a0 a1) := by
  unfold execInstallProgram
  refine KeptT.next ?_
  refine State.issueHead_kept ?_
  with_reducible assumption

theorem execCopy_kept {r0 : State} {a0 : Fin 4096} {a1 : State} (ha1 : Kept r0 a1) : KeptT r0 (execCopy a0 a1) := by
  unfold execCopy
  refine KeptT.next ?_
  refine State.issueHead_kept ?_
  with_reducible assumption

theorem execReduce_kept {r0 : State} {a0 : Fin 4096} {a1 : State} (ha1 : Kept r0 a1) : KeptT r0 (execReduce a0 a1) := by
  unfold execReduce
  refine KeptT.next ?_
  refine State.issueHead_kept ?_
  with_reducible assumption

theorem execProgram_kept {r0 : State} {a0 : Fin 4096} {a1 : State} (ha1 : Kept r0 a1) : KeptT r0 (execProgram a0 a1) := by
  unfold execProgram
  refine KeptT.next ?_
  refine State.issueHead_kept ?_
  with_reducible assumption

theorem execCounts_kept {r0 : State} {a0 : Fin 4096} {a1 : State} (ha1 : Kept r0 a1) : KeptT r0 (execCounts a0 a1) := by
  unfold execCounts
  refine KeptT.next ?_
  refine State.issueHead_kept ?_
  with_reducible assumption

theorem execSemOpWait_kept {r0 : State} {a0 : Fin 4096} {a1 : State} (ha1 : Kept r0 a1) : KeptT r0 (execSemOpWait a0 a1) := by
  unfold execSemOpWait
  refine KeptT.next ?_
  refine State.issueHead_kept ?_
  with_reducible assumption

theorem execSemOpAdd_kept {r0 : State} {a0 : Fin 4096} {a1 : State} (ha1 : Kept r0 a1) : KeptT r0 (execSemOpAdd a0 a1) := by
  unfold execSemOpAdd
  refine KeptT.next ?_
  refine State.issueHead_kept ?_
  with_reducible assumption

theorem execSemOpSub_kept {r0 : State} {a0 : Fin 4096} {a1 : State} (ha1 : Kept r0 a1) : KeptT r0 (execSemOpSub a0 a1) := by
  unfold execSemOpSub
  refine KeptT.next ?_
  refine State.issueHead_kept ?_
  with_reducible assumption

theorem execSemSave_kept {r0 : State} {a0 : Fin 4096} {a1 : State} (ha1 : Kept r0 a1) : KeptT r0 (execSemSave a0 a1) := by
  unfold execSemSave
  refine KeptT.next ?_
  refine State.issueHead_kept ?_
  with_reducible assumption

theorem execSemRestore_kept {r0 : State} {a0 : Fin 4096} {a1 : State} (ha1 : Kept r0 a1) : KeptT r0 (execSemRestore a0 a1) := by
  unfold execSemRestore
  refine KeptT.next ?_
  refine State.issueHead_kept ?_
  with_reducible assumption

theorem execJobPrepare_kept {r0 : State} {a0 : Fin 4096} {a1 : State} (ha1 : Kept r0 a1) : KeptT r0 (execJobPrepare a0 a1) := by
  unfold execJobPrepare
  refine KeptT.next ?_
  refine State.issueHead_kept ?_
  with_reducible assumption

theorem execJobTeardown_kept {r0 : State} {a0 : Fin 4096} {a1 : State} (ha1 : Kept r0 a1) : KeptT r0 (execJobTeardown a0 a1) := by
  unfold execJobTeardown
  refine KeptT.next ?_
  refine State.issueHead_kept ?_
  with_reducible assumption

theorem execJobAbort_kept {r0 : State} {a0 : Fin 4096} {a1 : State} (ha1 : Kept r0 a1) : KeptT r0 (execJobAbort a0 a1) := by
  unfold execJobAbort
  refine KeptT.next ?_
  refine State.issueHead_kept ?_
  with_reducible assumption

theorem execRangeRegister_kept {r0 : State} {a0 : Fin 4096} {a1 : State} (ha1 : Kept r0 a1) : KeptT r0 (execRangeRegister a0 a1) := by
  unfold execRangeRegister
  split
  · refine KeptT.next ?_
    with_reducible assumption
  · refine KeptT.ite ?_ ?_
    · refine KeptT.next ?_
      refine State.rangeRefused_kept ?_
      with_reducible assumption
    · refine KeptT.ite ?_ ?_
      · refine KeptT.next ?_
        refine State.rangeIssued_kept ?_
        with_reducible assumption
      · refine KeptT.next ?_
        with_reducible assumption

theorem execRegisterTimeout_kept {r0 : State} {a0 : Fin 4096} {a1 : State} (ha1 : Kept r0 a1) : KeptT r0 (execRegisterTimeout a0 a1) := by
  unfold execRegisterTimeout
  split
  · refine KeptT.next ?_
    with_reducible assumption
  · refine KeptT.next ?_
    refine Kept.ite ?_ ?_
    · with_reducible assumption
    · refine State.rangeRefused_kept ?_
      with_reducible assumption

theorem State.endWait_kept {r0 : State} {a0 : State} {a1 : SemWait} {a2 : ℕ} (ha0 : Kept r0 a0) : Kept r0 (State.endWait a0 a1 a2) := by
  unfold State.endWait
  refine State.completeDesc_kept ?_
  refine State.updRing_kept ?_
  refine State.modColl_kept ?_
  with_reducible assumption

theorem execSemWaitMet_kept {r0 : State} {a0 : Fin 4096} {a1 : State} (ha1 : Kept r0 a1) : KeptT r0 (execSemWaitMet a0 a1) := by
  unfold execSemWaitMet
  split
  · refine KeptT.next ?_
    with_reducible assumption
  · refine KeptT.ite ?_ ?_
    · refine KeptT.next ?_
      refine State.endWait_kept ?_
      with_reducible assumption
    · refine KeptT.next ?_
      with_reducible assumption

theorem execSemWaitTimeout_kept {r0 : State} {a0 : Fin 4096} {a1 : State} (ha1 : Kept r0 a1) : KeptT r0 (execSemWaitTimeout a0 a1) := by
  unfold execSemWaitTimeout
  split
  · refine KeptT.next ?_
    with_reducible assumption
  · refine KeptT.ite ?_ ?_
    · refine KeptT.next ?_
      with_reducible assumption
    · refine KeptT.next ?_
      refine State.endWait_kept ?_
      with_reducible assumption

/-! ### HatchCmds -/

theorem State.commitEnds_kept {r0 : State} {a0 : State} {a1 : ℕ} (ha0 : Kept r0 a0) : Kept r0 (State.commitEnds a0 a1) := by
  unfold State.commitEnds
  refine State.runPendingWarm_kept ?_
  refine endCommit_kept ?_
  with_reducible assumption

theorem acceptCommit_kept {r0 : State} {a0 : State} {a1 : ℕ} {a2 : ℕ} (ha0 : Kept r0 a0) : Kept r0 (acceptCommit a0 a1 a2) := by
  unfold acceptCommit
  extract_lets x0 x1 x2 x3
  have hx2 : Kept r0 x2 := by
    unfold x2
    refine State.modHatch_kept ?_
    with_reducible assumption
  have hx3 : Kept r0 x3 := by
    unfold x3
    refine State.countUnit_kept ?_
    with_reducible assumption
  split
  · refine recordCommitEnd_kept ?_
    with_reducible assumption
  · extract_lets x4 x5
    have hx5 : Kept r0 x5 := by
      unfold x5
      refine State.modHatch_kept ?_
      with_reducible assumption
    refine State.forEach_kept ?_ ?_
    · with_reducible assumption
    · intro a6 a7 h8
      refine State.updLink_kept ?_
      with_reducible assumption

theorem hatchCommand_kept {r0 : State} {a0 : State} {a1 : ℕ} (ha0 : Kept r0 a0) : KeptE r0 (hatchCommand a0 a1) := by
  unfold hatchCommand
  extract_lets x0 x1
  refine KeptE.ite ?_ ?_
  · refine KeptE.error
  · refine KeptE.ite ?_ ?_
    · refine KeptE.error
    · refine KeptE.ite ?_ ?_
      · refine KeptE.error
      · split
        · refine KeptE.ite ?_ ?_
          · refine KeptE.ok ?_
            refine State.commitEnds_kept ?_
            with_reducible assumption
          · refine KeptE.error
        · refine KeptE.ite ?_ ?_
          · refine KeptE.ok ?_
            refine acceptCommit_kept ?_
            with_reducible assumption
          · refine KeptE.ite ?_ ?_
            · refine KeptE.ok ?_
              refine State.forEach_kept ?_ ?_
              · with_reducible assumption
              · intro a2 a3 h4
                refine State.setParam_kept ?_
                with_reducible assumption
            · refine KeptE.error

theorem execHatchCommit_kept {r0 : State} {a0 : Req} {a1 : ℕ} {a2 : ℕ} {a3 : State} (ha3 : Kept r0 a3) : KeptT r0 (execHatchCommit a0 a1 a2 a3) := by
  unfold execHatchCommit
  refine KeptT.next ?_
  refine serveWrite_kept ?_ ?_
  · with_reducible assumption
  · intro a0 a1 h2
    refine hatchCommand_kept ?_
    with_reducible assumption

theorem execHatchClearStaging_kept {r0 : State} {a0 : Req} {a1 : ℕ} {a2 : State} (ha2 : Kept r0 a2) : KeptT r0 (execHatchClearStaging a0 a1 a2) := by
  unfold execHatchClearStaging
  refine KeptT.next ?_
  refine serveWrite_kept ?_ ?_
  · with_reducible assumption
  · intro a0 a1 h2
    refine hatchCommand_kept ?_
    with_reducible assumption

theorem execHatchCancel_kept {r0 : State} {a0 : Req} {a1 : ℕ} {a2 : State} (ha2 : Kept r0 a2) : KeptT r0 (execHatchCancel a0 a1 a2) := by
  unfold execHatchCancel
  refine KeptT.next ?_
  refine serveWrite_kept ?_ ?_
  · with_reducible assumption
  · intro a0 a1 h2
    refine hatchCommand_kept ?_
    with_reducible assumption

theorem State.routeFound_kept {r0 : State} {a0 : State} {a1 : Commit} {a2 : List (ℕ × Elem)} (ha0 : Kept r0 a0) : Kept r0 (State.routeFound a0 a1 a2) := by
  unfold State.routeFound
  extract_lets x0
  have hx0 : Kept r0 x0 := by
    unfold x0
    refine State.updCommit_kept ?_
    with_reducible assumption
  refine Kept.ite ?_ ?_
  · refine endDrain_kept ?_
    with_reducible assumption
  · with_reducible assumption

theorem execHatchRouteDone_kept {r0 : State} {a0 : List (List (ℕ × ℕ × ℕ))} {a1 : State} (ha1 : Kept r0 a1) : KeptT r0 (execHatchRouteDone a0 a1) := by
  unfold execHatchRouteDone
  split
  · refine KeptT.next ?_
    with_reducible assumption
  · extract_lets x0
    refine KeptT.ite ?_ ?_
    · refine KeptT.next ?_
      with_reducible assumption
    · refine KeptT.ite ?_ ?_
      · refine KeptT.next ?_
        refine State.routeFound_kept ?_
        with_reducible assumption
      · split
        · refine KeptT.next ?_
          refine State.commitEnds_kept ?_
          with_reducible assumption
        · refine KeptT.next ?_
          refine State.routeFound_kept ?_
          with_reducible assumption

theorem execHatchDrainEnd_kept {r0 : State} {a0 : State} (ha0 : Kept r0 a0) : KeptT r0 (execHatchDrainEnd a0) := by
  unfold execHatchDrainEnd
  extract_lets x0
  have hx0 : Kept r0 x0 := by
    unfold x0
    refine State.updCommit_kept ?_
    with_reducible assumption
  split
  · refine KeptT.next ?_
    with_reducible assumption
  · refine KeptT.ite ?_ ?_
    · refine KeptT.next ?_
      with_reducible assumption
    · refine KeptT.next ?_
      refine Kept.ite ?_ ?_
      · refine endDrain_kept ?_
        with_reducible assumption
      · with_reducible assumption

theorem execCircuitNoticeSend_kept {r0 : State} {a0 : State} (ha0 : Kept r0 a0) : KeptT r0 (execCircuitNoticeSend a0) := by
  unfold execCircuitNoticeSend
  split
  · refine KeptT.next ?_
    with_reducible assumption
  · extract_lets x0
    split
    · refine KeptT.next ?_
      with_reducible assumption
    · extract_lets x1
      have hx1 : Kept r0 x1 := by
        unfold x1
        refine State.forEach_kept ?_ ?_
        · with_reducible assumption
        · intro a2 a3 h4
          refine sendSeq_kept ?_
          with_reducible assumption
      refine KeptT.ite ?_ ?_
      · refine KeptT.next ?_
        with_reducible assumption
      · refine KeptT.next ?_
        refine State.updCommit_kept ?_
        with_reducible assumption

theorem execCircuitAckTimeout_kept {r0 : State} {a0 : State} (ha0 : Kept r0 a0) : KeptT r0 (execCircuitAckTimeout a0) := by
  unfold execCircuitAckTimeout
  split
  · refine KeptT.next ?_
    with_reducible assumption
  · refine KeptT.ite ?_ ?_
    · refine KeptT.next ?_
      with_reducible assumption
    · refine KeptT.ite ?_ ?_
      · refine KeptT.next ?_
        refine State.commitEnds_kept ?_
        with_reducible assumption
      · refine KeptT.next ?_
        refine State.updCommit_kept ?_
        with_reducible assumption

theorem execHatchApply_kept {r0 : State} {a0 : State} (ha0 : Kept r0 a0) : KeptT r0 (execHatchApply a0) := by
  unfold execHatchApply
  split
  · refine KeptT.next ?_
    with_reducible assumption
  · extract_lets x0 x1 x2 x3 x4 x5
    have hx2 : Kept r0 x2 := by
      unfold x2
      refine State.modHatch_kept ?_
      with_reducible assumption
    have hx3 : Kept r0 x3 := by
      unfold x3
      refine State.forEach_kept ?_ ?_
      · with_reducible assumption
      · intro a6 a7 h8
        refine State.updLane_kept ?_
        with_reducible assumption
    have hx4 : Kept r0 x4 := by
      unfold x4
      refine State.forEach_kept ?_ ?_
      · with_reducible assumption
      · intro a9 a10 h11
        refine State.updLane_kept ?_
        with_reducible assumption
    have hx5 : Kept r0 x5 := by
      unfold x5
      refine Kept.ite ?_ ?_
      · with_reducible assumption
      · refine State.countUnit_kept ?_
        refine State.setFlag_kept ?_
        with_reducible assumption
    split
    · refine KeptT.next ?_
      with_reducible assumption
    · refine KeptT.ite ?_ ?_
      · refine KeptT.next ?_
        with_reducible assumption
      · refine KeptT.next ?_
        refine State.updCommit_kept ?_
        with_reducible assumption

theorem execHatchSettled_kept {r0 : State} {a0 : State} (ha0 : Kept r0 a0) : KeptT r0 (execHatchSettled a0) := by
  unfold execHatchSettled
  split
  · refine KeptT.ite ?_ ?_
    · refine KeptT.next ?_
      refine State.updCommit_kept ?_
      with_reducible assumption
    · refine KeptT.next ?_
      with_reducible assumption
  · refine KeptT.next ?_
    with_reducible assumption

theorem State.setGains_kept {r0 a0 : State} {a1 : List Conn} (ha0 : Kept r0 a0) : KeptP r0 (a0.setGains a1) := by
  induction a1 generalizing a0 with
  | nil => exact ha0
  | cons c r ih => exact ih (a0 := { a0 with freeCount := a0.freeCount + c.outs.length }) ha0

theorem execHatchCommitDone_kept {r0 : State} {a0 : List (Fin 256)} {a1 : State} (ha1 : Kept r0 a1) : KeptT r0 (execHatchCommitDone a0 a1) := by
  unfold execHatchCommitDone
  split
  · refine KeptT.next ?_
    with_reducible assumption
  · extract_lets x0 x1
    refine KeptT.ite ?_ ?_
    · refine KeptT.next ?_
      with_reducible assumption
    · split
      extract_lets x2 x3 x4 x5 x6
      have hx2 : Kept r0 x2 := by
        unfold x2
        refine State.modHatch_kept ?_
        refine KeptP.elim ?_ (by with_reducible assumption)
        refine State.setGains_kept ?_
        with_reducible assumption
      have hx3 : Kept r0 x3 := by
        unfold x3
        refine State.forEach_kept ?_ ?_
        · with_reducible assumption
        · intro a7 a8 h9
          refine State.updLane_kept ?_
          with_reducible assumption
      have hx4 : Kept r0 x4 := by
        unfold x4
        refine State.setFlagIf_kept ?_
        with_reducible assumption
      have hx5 : Kept r0 x5 := by
        unfold x5
        refine recordCommitEnd_kept ?_
        with_reducible assumption
      have hx6 : Kept r0 x6 := by
        unfold x6
        refine State.forEach_kept ?_ ?_
        · with_reducible assumption
        · intro a10 a11 h12
          refine slotReturns_kept ?_
          refine State.updLane_kept ?_
          with_reducible assumption
      refine KeptT.next ?_
      refine State.runPendingWarm_kept ?_
      with_reducible assumption

theorem execHatchTrimTick_kept {r0 : State} {a0 : Fin 1920} {a1 : HatchTrim} {a2 : State} (ha2 : Kept r0 a2) : KeptT r0 (execHatchTrimTick a0 a1 a2) := by
  unfold execHatchTrimTick
  extract_lets x0
  have hx0 : Kept r0 x0 := by
    unfold x0
    refine State.modHatch_kept ?_
    with_reducible assumption
  refine KeptT.ite ?_ ?_
  · refine KeptT.next ?_
    with_reducible assumption
  · refine KeptT.next ?_
    refine State.setFlagIf_kept ?_
    with_reducible assumption

theorem execElementFailure_kept {r0 : State} {a0 : Fin 1920} {a1 : ℕ} {a2 : State} (ha2 : Kept r0 a2) : KeptT r0 (execElementFailure a0 a1 a2) := by
  unfold execElementFailure
  extract_lets x0 x1
  have hx1 : Kept r0 x1 := by
    unfold x1
    refine State.modHatch_kept ?_
    with_reducible assumption
  refine KeptT.ite ?_ ?_
  · refine KeptT.next ?_
    with_reducible assumption
  · split
    refine KeptT.next ?_
    refine State.logOpenEvent_kept ?_
    refine KeptP.elim ?_ (by with_reducible assumption)
    refine State.freeBelow_kept ?_
    refine State.countUnit_kept ?_
    refine State.setFlag_kept ?_
    with_reducible assumption

theorem execDarkInput_kept {r0 : State} {a0 : Fin 256} {a1 : Bool} {a2 : State} (ha2 : Kept r0 a2) : KeptT r0 (execDarkInput a0 a1 a2) := by
  unfold execDarkInput
  extract_lets x0
  have hx0 : Kept r0 x0 := by
    unfold x0
    refine State.modHatch_kept ?_
    with_reducible assumption
  split
  · refine KeptT.next ?_
    with_reducible assumption
  · refine KeptT.ite ?_ ?_
    · refine KeptT.next ?_
      with_reducible assumption
    · refine KeptT.next ?_
      refine Kept.ite ?_ ?_
      · with_reducible assumption
      · refine State.countUnit_kept ?_
        refine State.setFlag_kept ?_
        with_reducible assumption

end Sys2Proof.Machine
end

