-- ==== Sys2Proof/Laws/Kept8.lean ====
section
/-!
SUPPORT. What the operations and commands of these files keep: Ports, MemCmds, SecCmds, ChopCmds.
-/

set_option Elab.async false

namespace Sys2Proof.Machine

/-! ### Ports -/

theorem State.freeUnits_kept {r0 : State} {a0 : State} {a1 : ℕ} {a2 : ℕ} {a3 : ℕ} (ha0 : Kept r0 a0) : Kept r0 (State.freeUnits a0 a1 a2 a3) := by
  unfold State.freeUnits
  refine State.updLink_kept ?_
  with_reducible assumption

theorem State.acceptFrame_kept {r0 : State} {a0 : State} {a1 : ℕ} {a2 : HeldFrame} (ha0 : Kept r0 a0) : Kept r0 (State.acceptFrame a0 a1 a2) := by
  unfold State.acceptFrame
  extract_lets x0 x1 x2
  have hx2 : Kept r0 x2 := by
    unfold x2
    refine State.count_kept ?_
    refine State.countPort_kept ?_
    with_reducible assumption
  refine Kept.ite ?_ ?_
  · refine State.freeUnits_kept ?_
    refine State.setFlag_kept ?_
    refine State.countPort_kept ?_
    with_reducible assumption
  · refine Kept.ite ?_ ?_
    · refine State.freeUnits_kept ?_
      refine State.setFlag_kept ?_
      refine State.countPort_kept ?_
      with_reducible assumption
    · refine Kept.ite ?_ ?_
      · refine State.freeUnits_kept ?_
        refine State.countMisc_kept ?_
        with_reducible assumption
      · refine State.modTables_kept ?_
        with_reducible assumption

theorem State.deliverRx_kept {r0 a0 : State} {a1 a2 : Nat} (ha0 : Kept r0 a0) : Kept r0 (a0.deliverRx a1 a2) := by
  induction a2 generalizing a0 with
  | zero => exact ha0
  | succ n ih =>
    unfold State.deliverRx
    split
    · exact ha0
    · exact ih (State.acceptFrame_kept (State.updLink_kept ha0))

theorem State.sequenceRx_kept {r0 : State} {a0 : State} {a1 : ℕ} {a2 : HeldFrame} (ha0 : Kept r0 a0) : Kept r0 (State.sequenceRx a0 a1 a2) := by
  unfold State.sequenceRx
  extract_lets x0 x1
  have hx1 : Kept r0 x1 := by
    unfold x1
    refine State.updLink_kept ?_
    with_reducible assumption
  refine Kept.ite ?_ ?_
  · refine State.deliverRx_kept ?_
    refine State.acceptFrame_kept ?_
    with_reducible assumption
  · refine Kept.ite ?_ ?_
    · refine Kept.ite ?_ ?_
      · refine State.countMisc_kept ?_
        with_reducible assumption
      · refine Kept.ite ?_ ?_
        · refine State.countMisc_kept ?_
          with_reducible assumption
        · refine State.updLink_kept ?_
          with_reducible assumption
    · refine State.countMisc_kept ?_
      with_reducible assumption

theorem sendControl_kept {r0 : State} {a0 : State} {a1 : ℕ} (ha0 : Kept r0 a0) : Kept r0 (sendControl a0 a1) := by
  unfold sendControl
  extract_lets x0 x1 x2
  have hx0 : Kept r0 x0 := by
    unfold x0
    refine State.updLink_kept ?_
    with_reducible assumption
  refine Kept.ite ?_ ?_
  · with_reducible assumption
  · refine State.emit_kept ?_
    with_reducible assumption

theorem execControlBlockSend_kept {r0 : State} {a0 : Fin 1024} {a1 : State} (ha1 : Kept r0 a1) : KeptT r0 (execControlBlockSend a0 a1) := by
  unfold execControlBlockSend
  refine KeptT.next ?_
  refine sendControl_kept ?_
  with_reducible assumption

theorem execReorderHoldExpiry_kept {r0 : State} {a0 : Fin 1024} {a1 : State} (ha1 : Kept r0 a1) : KeptT r0 (execReorderHoldExpiry a0 a1) := by
  unfold execReorderHoldExpiry
  extract_lets x0
  have hx0 : Kept r0 x0 := by
    unfold x0
    refine State.updLink_kept ?_
    with_reducible assumption
  refine KeptT.ite ?_ ?_
  · refine KeptT.next ?_
    with_reducible assumption
  · refine KeptT.next ?_
    refine sendControl_kept ?_
    refine State.countFibre_kept ?_
    refine State.setFlag_kept ?_
    with_reducible assumption

theorem readReplay_kept {r0 : State} {a0 : State} {a1 : ℕ} {a2 : Ecc} {a3 : ℕ} {a4 : Bool} (ha0 : Kept r0 a0) : Kept r0 (readReplay a0 a1 a2 a3 a4) := by
  unfold readReplay
  extract_lets x0 x1
  have hx1 : Kept r0 x1 := by
    unfold x1
    refine Kept.ite ?_ ?_
    · refine State.inkEcc_kept ?_
      with_reducible assumption
    · refine State.sramEcc_kept ?_
      with_reducible assumption
  refine Kept.ite ?_ ?_
  · refine linkDown_kept ?_
    with_reducible assumption
  · refine replayFrom_kept ?_
    with_reducible assumption

theorem onControlBlock_kept {r0 : State} {a0 : State} {a1 : ℕ} {a2 : List Byte} {a3 : Ecc} (ha0 : Kept r0 a0) : Kept r0 (onControlBlock a0 a1 a2 a3) := by
  unfold onControlBlock
  extract_lets x0 x1 x2
  have hx1 : Kept r0 x1 := by
    unfold x1
    refine State.updLink_kept ?_
    with_reducible assumption
  refine Kept.ite ?_ ?_
  · refine readReplay_kept ?_
    with_reducible assumption
  · with_reducible assumption

theorem controlArrives_kept {r0 : State} {a0 : State} {a1 : ℕ} {a2 : List Byte} {a3 : Ecc} (ha0 : Kept r0 a0) : Kept r0 (controlArrives a0 a1 a2 a3) := by
  unfold controlArrives
  refine Kept.ite ?_ ?_
  · with_reducible assumption
  · refine Kept.ite ?_ ?_
    · refine State.countMisc_kept ?_
      with_reducible assumption
    · refine onControlBlock_kept ?_
      with_reducible assumption

theorem execControlBlockReceive_kept {r0 : State} {a0 : Fin 1024} {a1 : List Byte} {a2 : Ecc} {a3 : State} (ha3 : Kept r0 a3) : KeptT r0 (execControlBlockReceive a0 a1 a2 a3) := by
  unfold execControlBlockReceive
  refine KeptT.next ?_
  refine controlArrives_kept ?_
  with_reducible assumption

theorem execDataFrameReceive_kept {r0 : State} {a0 : Fin 1024} {a1 : BitVec 48} {a2 : List Byte} {a3 : State} (ha3 : Kept r0 a3) : KeptT r0 (execDataFrameReceive a0 a1 a2 a3) := by
  unfold execDataFrameReceive
  extract_lets x0 x1 x2
  refine KeptT.ite ?_ ?_
  · refine KeptT.next ?_
    refine State.countMisc_kept ?_
    with_reducible assumption
  · split
    · refine KeptT.next ?_
      refine State.countMisc_kept ?_
      with_reducible assumption
    · refine KeptT.ite ?_ ?_
      · refine KeptT.next ?_
        refine controlArrives_kept ?_
        with_reducible assumption
      · refine KeptT.ite ?_ ?_
        · refine KeptT.next ?_
          refine State.countMisc_kept ?_
          with_reducible assumption
        · refine KeptT.ite ?_ ?_
          · refine KeptT.next ?_
            refine Kept.ite ?_ ?_
            · refine State.setFlag_kept ?_
              refine State.countPort_kept ?_
              with_reducible assumption
            · refine State.countPort_kept ?_
              with_reducible assumption
          · refine KeptT.next ?_
            refine State.sequenceRx_kept ?_
            with_reducible assumption

theorem execReplayTimeout_kept {r0 : State} {a0 : Fin 1024} {a1 : Ecc} {a2 : State} (ha2 : Kept r0 a2) : KeptT r0 (execReplayTimeout a0 a1 a2) := by
  unfold execReplayTimeout
  split
  · refine KeptT.next ?_
    with_reducible assumption
  · refine KeptT.ite ?_ ?_
    · refine KeptT.next ?_
      with_reducible assumption
    · refine KeptT.next ?_
      refine readReplay_kept ?_
      with_reducible assumption

theorem pounceEgress_kept {r0 a0 : State} {a1 a2 a3 : Nat} (ha0 : Kept r0 a0) : Kept r0 (pounceEgress a0 a1 a2 a3) :=
  State.reviewReady_kept (State.pounced_kept (State.endCopy_kept (State.modCore_kept ha0)))

theorem startFrame_kept {r0 : State} {a0 : State} {a1 : ℕ} {a2 : ℕ} {a3 : ℕ} {a4 : Stored} (ha0 : Kept r0 a0) : Kept r0 (startFrame a0 a1 a2 a3 a4) := by
  unfold startFrame
  extract_lets x0 x1 x2
  have hx2 : Kept r0 x2 := by
    unfold x2
    refine State.hist_kept ?_
    with_reducible assumption
  split
  extract_lets x3 x4 x5 x6 x7 x8
  have hx3 : Kept r0 x3 := by
    unfold x3
    refine State.updLink_kept ?_
    with_reducible assumption
  have hx4 : Kept r0 x4 := by
    unfold x4
    refine State.emit_kept ?_
    with_reducible assumption
  have hx5 : Kept r0 x5 := by
    unfold x5
    refine State.count_kept ?_
    refine State.count_kept ?_
    refine State.countPort_kept ?_
    with_reducible assumption
  have hx6 : Kept r0 x6 := by
    unfold x6
    refine State.tallyFrame_kept ?_
    refine State.count_kept ?_
    with_reducible assumption
  have hx7 : Kept r0 x7 := by
    unfold x7
    refine Kept.ite ?_ ?_
    · refine State.shaperTake_kept ?_
      with_reducible assumption
    · with_reducible assumption
  have hx8 : Kept r0 x8 := by
    unfold x8
    refine State.modCore_kept ?_
    with_reducible assumption
  refine State.reviewReady_kept ?_
  refine State.endCopy_kept ?_
  with_reducible assumption

theorem selectStart_kept {r0 a0 : State} {a1 a2 : Nat} (ha0 : Kept r0 a0) : Kept r0 (selectStart a0 a1 a2) := by
  induction a2 generalizing a0 with
  | zero => exact ha0
  | succ n ih =>
    unfold selectStart
    split
    · exact ha0
    · exact Kept.ite ha0 (Kept.ite (ih (pounceEgress_kept ha0)) (startFrame_kept (State.updLink_kept ha0)))

theorem execEgressSelect_kept {r0 : State} {a0 : Fin 1024} {a1 : State} (ha1 : Kept r0 a1) : KeptT r0 (execEgressSelect a0 a1) := by
  unfold execEgressSelect
  extract_lets x0
  have hx0 : Kept r0 x0 := by
    unfold x0
    refine State.refreshDue_kept ?_
    with_reducible assumption
  refine KeptT.ite ?_ ?_
  · refine KeptT.next ?_
    with_reducible assumption
  · refine KeptT.next ?_
    refine selectStart_kept ?_
    with_reducible assumption

theorem retrainLane_kept {r0 : State} {a0 : State} {a1 : ℕ} {a2 : ℕ} (ha0 : Kept r0 a0) : Kept r0 (retrainLane a0 a1 a2) := by
  unfold retrainLane
  extract_lets x0 x1
  have hx1 : Kept r0 x1 := by
    unfold x1
    refine laneOut_kept ?_
    with_reducible assumption
  refine Kept.ite ?_ ?_
  · with_reducible assumption
  · refine Kept.ite ?_ ?_
    · with_reducible assumption
    · refine laneStart_kept ?_
      with_reducible assumption

theorem applyFibreCfg_kept {r0 : State} {a0 : State} {a1 : ℕ} {a2 : ℕ} {a3 : ℕ} (ha0 : Kept r0 a0) : Kept r0 (applyFibreCfg a0 a1 a2 a3) := by
  unfold applyFibreCfg
  extract_lets x0 x1 x2 x3 x4 x5 x6 x7 x8
  have hx1 : Kept r0 x1 := by
    unfold x1
    refine State.forEach_kept ?_ ?_
    · with_reducible assumption
    · intro a9 a10 h11
      refine linkDown_kept ?_
      with_reducible assumption
  have hx2 : Kept r0 x2 := by
    unfold x2
    refine State.setParam_kept ?_
    with_reducible assumption
  have hx4 : Kept r0 x4 := by
    unfold x4
    refine State.forEach_kept ?_ ?_
    · with_reducible assumption
    · intro a12 a13 h14
      extract_lets x15
      have hx15 : Kept r0 x15 := by
        unfold x15
        refine State.forEach_kept ?_ ?_
        · with_reducible assumption
        · intro a16 a17 h18
          refine retrainLane_kept ?_
          with_reducible assumption
      refine linkRestart_kept ?_
      with_reducible assumption
  have hx5 : Kept r0 x5 := by
    unfold x5
    refine State.forEach_kept ?_ ?_
    · with_reducible assumption
    · intro a19 a20 h21
      refine State.resetPolicers_kept ?_
      refine State.resetShapers_kept ?_
      with_reducible assumption
  have hx6 : Kept r0 x6 := by
    unfold x6
    refine State.forEach_kept ?_ ?_
    · with_reducible assumption
    · intro a22 a23 h24
      refine reviewLink_kept ?_
      with_reducible assumption
  have hx7 : Kept r0 x7 := by
    unfold x7
    refine reviewCommit_kept ?_
    with_reducible assumption
  have hx8 : Kept r0 x8 := by
    unfold x8
    refine Kept.ite ?_ ?_
    · with_reducible assumption
    · refine holdFibre_kept ?_
      with_reducible assumption
  refine reviewReach_kept ?_
  refine compareEnds_kept ?_
  refine reviewReach_kept ?_
  with_reducible assumption

theorem fibreCfgWrite_kept {r0 : State} {a0 : ℕ} {a1 : State} {a2 : ℕ} (ha1 : Kept r0 a1) : KeptE r0 (fibreCfgWrite a0 a1 a2) := by
  unfold fibreCfgWrite
  extract_lets x0 x1
  refine KeptE.ite ?_ ?_
  · refine KeptE.error
  · refine KeptE.ite ?_ ?_
    · refine KeptE.error
    · refine KeptE.ok ?_
      refine applyFibreCfg_kept ?_
      with_reducible assumption

theorem execFibreCfgWrite_kept {r0 : State} {a0 : Req} {a1 : Fin 64} {a2 : BitVec 64} {a3 : State} (ha3 : Kept r0 a3) : KeptT r0 (execFibreCfgWrite a0 a1 a2 a3) := by
  unfold execFibreCfgWrite
  refine KeptT.next ?_
  refine State.runPendingWarm_kept ?_
  refine serveWrite_kept ?_ ?_
  · with_reducible assumption
  · intro a0 a1 h2
    refine fibreCfgWrite_kept ?_
    with_reducible assumption

/-! ### MemCmds -/

theorem State.takeLig_kept {r0 : State} {a0 : State} {a1 : ℕ} {a2 : State → Stored → ℕ → State} (ha0 : Kept r0 a0) (ha2 : ∀ v0 v1 v2, Kept r0 v0 → Kept r0 (a2 v0 v1 v2)) : Kept r0 (State.takeLig a0 a1 a2) := by
  unfold State.takeLig
  split
  · with_reducible assumption
  · split
    · with_reducible assumption
    · refine Kept.ite ?_ ?_
      · refine ha2 _ _ _ ?_
        refine State.modCore_kept ?_
        with_reducible assumption
      · with_reducible assumption

theorem execMemRead_kept {r0 : State} {a0 : State} (ha0 : Kept r0 a0) : KeptT r0 (execMemRead a0) := by
  unfold execMemRead
  refine KeptT.next ?_
  refine State.takeLig_kept ?_ ?_
  · with_reducible assumption
  · intro a0 a1 a2 h3
    refine State.ligRequest_kept ?_
    with_reducible assumption

theorem execMemWrite_kept {r0 : State} {a0 : State} (ha0 : Kept r0 a0) : KeptT r0 (execMemWrite a0) := by
  unfold execMemWrite
  refine KeptT.next ?_
  refine State.takeLig_kept ?_ ?_
  · with_reducible assumption
  · intro a0 a1 a2 h3
    refine State.ligRequest_kept ?_
    with_reducible assumption

theorem execMemAtomic_kept {r0 : State} {a0 : State} (ha0 : Kept r0 a0) : KeptT r0 (execMemAtomic a0) := by
  unfold execMemAtomic
  refine KeptT.next ?_
  refine State.takeLig_kept ?_ ?_
  · with_reducible assumption
  · intro a0 a1 a2 h3
    refine State.ligRequest_kept ?_
    with_reducible assumption

theorem execMemResponse_kept {r0 : State} {a0 : State} (ha0 : Kept r0 a0) : KeptT r0 (execMemResponse a0) := by
  unfold execMemResponse
  refine KeptT.next ?_
  refine State.takeLig_kept ?_ ?_
  · with_reducible assumption
  · intro a0 a1 a2 h3
    refine State.homeResponse_kept ?_
    with_reducible assumption

theorem execMemRetryAfter_kept {r0 : State} {a0 : State} (ha0 : Kept r0 a0) : KeptT r0 (execMemRetryAfter a0) := by
  unfold execMemRetryAfter
  refine KeptT.next ?_
  refine State.takeLig_kept ?_ ?_
  · with_reducible assumption
  · intro a0 a1 a2 h3
    refine State.homeRetry_kept ?_
    with_reducible assumption

theorem execHomeRetryResend_kept {r0 : State} {a0 : Fin 65536} {a1 : State} (ha1 : Kept r0 a1) : KeptT r0 (execHomeRetryResend a0 a1) := by
  unfold execHomeRetryResend
  split
  · refine KeptT.next ?_
    with_reducible assumption
  · extract_lets x0
    have hx0 : Kept r0 x0 := by
      unfold x0
      refine State.updAcc_kept ?_
      with_reducible assumption
    split
    · refine KeptT.next ?_
      with_reducible assumption
    · refine KeptT.ite ?_ ?_
      · refine KeptT.next ?_
        with_reducible assumption
      · refine KeptT.next ?_
        refine State.sendPart_kept ?_
        with_reducible assumption

theorem execHomeTimeout_kept {r0 : State} {a0 : Fin 65536} {a1 : State} (ha1 : Kept r0 a1) : KeptT r0 (execHomeTimeout a0 a1) := by
  unfold execHomeTimeout
  split
  · refine KeptT.next ?_
    with_reducible assumption
  · refine KeptT.ite ?_ ?_
    · refine KeptT.next ?_
      with_reducible assumption
    · refine KeptT.next ?_
      refine State.ligRun_kept ?_
      refine State.answerAll_kept ?_
      refine State.dropAcc_kept ?_
      with_reducible assumption

theorem State.loseRequest_kept {r0 : State} {a0 : State} {a1 : ℕ} {a2 : Bool} (ha0 : Kept r0 a0) : Kept r0 (State.loseRequest a0 a1 a2) := by
  unfold State.loseRequest
  extract_lets x0 x1 x2
  have hx1 : Kept r0 x1 := by
    unfold x1
    refine State.modLig_kept ?_
    with_reducible assumption
  have hx2 : Kept r0 x2 := by
    unfold x2
    refine State.countMisc_kept ?_
    with_reducible assumption
  clear_value x0
  split
  · with_reducible assumption
  · refine Kept.ite ?_ ?_
    · split
      · refine State.copyLine_kept ?_
        with_reducible assumption
      · with_reducible assumption
    · refine State.answer_kept ?_
      with_reducible assumption

theorem State.requestEcc_kept {r0 : State} {a0 : State} {a1 : ℕ} {a2 : Bool} {a3 : Ecc} (ha0 : Kept r0 a0) : Kept r0 (State.requestEcc a0 a1 a2 a3) := by
  unfold State.requestEcc
  extract_lets x0
  have hx0 : Kept r0 x0 := by
    unfold x0
    refine State.inkEcc_kept ?_
    with_reducible assumption
  refine Kept.ite ?_ ?_
  · refine State.ligRun_kept ?_
    refine State.loseRequest_kept ?_
    with_reducible assumption
  · with_reducible assumption

theorem execPoolAccessDone_kept {r0 : State} {a0 : ℕ} {a1 : List (ℕ × Bool × Ecc)} {a2 : Ecc} {a3 : State} (ha3 : Kept r0 a3) : KeptT r0 (execPoolAccessDone a0 a1 a2 a3) := by
  unfold execPoolAccessDone
  extract_lets x0
  have hx0 : Kept r0 x0 := by
    unfold x0
    refine State.forEach_kept ?_ ?_
    · with_reducible assumption
    · intro a1 a2 h3
      refine State.requestEcc_kept ?_
      with_reducible assumption
  split
  · refine KeptT.next ?_
    with_reducible assumption
  · refine KeptT.ite ?_ ?_
    · refine KeptT.next ?_
      refine Kept.ite ?_ ?_
      · with_reducible assumption
      · refine State.updAcc_kept ?_
        refine State.fillWait_kept ?_
        with_reducible assumption
    · split
      · refine KeptT.next ?_
        with_reducible assumption
      · extract_lets x4
        have hx4 : Kept r0 x4 := by
          unfold x4
          refine Kept.ite ?_ ?_
          · refine State.lpdCorrected_kept ?_
            with_reducible assumption
          · with_reducible assumption
        refine KeptT.next ?_
        refine State.performPool_kept ?_
        with_reducible assumption

theorem execZeroFillDone_kept {r0 : State} {a0 : State} (ha0 : Kept r0 a0) : KeptT r0 (execZeroFillDone a0) := by
  unfold execZeroFillDone
  refine KeptT.ite ?_ ?_
  · refine KeptT.next ?_
    refine State.quillWaited_kept ?_
    refine State.modMem_kept ?_ ?_
    · with_reducible assumption
    · exact fun _ h => h
  · refine KeptT.next ?_
    with_reducible assumption

theorem State.inkLost_kept {r0 : State} {a0 : State} {a1 : InkItem} (ha0 : Kept r0 a0) : Kept r0 (State.inkLost a0 a1) := by
  unfold State.inkLost
  split
  · refine Kept.ite ?_ ?_
    · with_reducible assumption
    · refine State.deactivate_kept ?_
      refine State.modDuctus_kept ?_
      with_reducible assumption
  · refine State.modDuctus_kept ?_
    with_reducible assumption
  · split
    · with_reducible assumption
    · split
      · refine KeptE.elim ?_ (by with_reducible assumption)
        refine State.deletePrefix_kept ?_
        with_reducible assumption
      · with_reducible assumption
  · refine State.failWaiting_kept ?_
    refine State.uninstall_kept ?_
    with_reducible assumption
  · refine State.failChunk_kept ?_
    with_reducible assumption
  · extract_lets x0 x1
    refine State.failChunk_kept ?_
    refine State.nibFlag_kept ?_
    refine State.countNib_kept ?_
    with_reducible assumption
  · refine State.ligRun_kept ?_
    refine State.loseRequest_kept ?_
    with_reducible assumption
  · refine State.ligRun_kept ?_
    refine State.loseRequest_kept ?_
    with_reducible assumption
  · refine Kept.ite ?_ ?_
    · with_reducible assumption
    · refine linkDown_kept ?_
      with_reducible assumption
  · split
    · refine State.admitted_kept ?_
      refine State.dropOffer_kept ?_
      with_reducible assumption
    · with_reducible assumption
  · with_reducible assumption

theorem execPatrolRead_kept {r0 : State} {a0 : PatrolLine} {a1 : Ecc} {a2 : State} (ha2 : Kept r0 a2) : KeptT r0 (execPatrolRead a0 a1 a2) := by
  unfold execPatrolRead
  split
  · extract_lets x0 x1 x2
    have hx1 : Kept r0 x1 := by
      unfold x1
      refine State.countLpd_kept ?_
      with_reducible assumption
    refine KeptT.ite ?_ ?_
    · refine KeptT.next ?_
      with_reducible assumption
    · clear_value x2
      split
      · refine KeptT.next ?_
        with_reducible assumption
      · refine KeptT.next ?_
        refine State.lpdCorrected_kept ?_
        with_reducible assumption
      · refine KeptT.next ?_
        refine State.setFlag_kept ?_
        refine State.modMem_kept ?_ ?_
        · refine State.countMem_kept ?_
          refine State.lpdUncorrected_kept ?_
          with_reducible assumption
        · exact fun _ h => h
  · extract_lets x3 x4
    have hx4 : Kept r0 x4 := by
      unfold x4
      refine State.inkEccAt_kept ?_
      with_reducible assumption
    refine KeptT.ite ?_ ?_
    · refine KeptT.next ?_
      with_reducible assumption
    · refine KeptT.ite ?_ ?_
      · refine KeptT.next ?_
        refine State.inkLost_kept ?_
        refine State.setFlag_kept ?_
        refine State.countMem_kept ?_
        with_reducible assumption
      · refine KeptT.next ?_
        with_reducible assumption

theorem execQuillMemoryAccess_kept {r0 : State} {a0 : Bool} {a1 : ℕ} {a2 : List Byte} {a3 : Ecc} {a4 : Bool} {a5 : Ecc} {a6 : State} (ha6 : Kept r0 a6) : KeptT r0 (execQuillMemoryAccess a0 a1 a2 a3 a4 a5 a6) := by
  unfold execQuillMemoryAccess
  extract_lets x0 x1
  refine KeptT.ite ?_ ?_
  · refine KeptT.next ?_
    with_reducible assumption
  · refine KeptT.ite ?_ ?_
    · refine KeptT.next ?_
      refine State.modMem_kept ?_ ?_
      · refine State.fillWait_kept ?_
        with_reducible assumption
      · exact fun _ h => h
    · refine KeptT.next ?_
      refine State.quillAccess_kept ?_
      with_reducible assumption

theorem configWrite_kept {r0 : State} {a0 : ℕ} {a1 : ℕ} {a2 : State} {a3 : ℕ} (ha2 : Kept r0 a2) : KeptE r0 (configWrite a0 a1 a2 a3) := by
  unfold configWrite
  split
  · refine KeptE.error
  · refine KeptE.ite ?_ ?_
    · refine KeptE.error
    · split
      · refine KeptE.ok ?_
        refine State.setParam_kept ?_
        refine KeptO.elim ?_ (by with_reducible assumption)
        refine State.storeConfig_kept ?_
        with_reducible assumption
      · refine KeptE.error

theorem execPoolSizeWrite_kept {r0 : State} {a0 : Req} {a1 : BitVec 32} {a2 : State} (ha2 : Kept r0 a2) : KeptT r0 (execPoolSizeWrite a0 a1 a2) := by
  unfold execPoolSizeWrite
  refine KeptT.next ?_
  refine serveWrite_kept ?_ ?_
  · with_reducible assumption
  · intro a0 a1 h2
    refine configWrite_kept ?_
    with_reducible assumption

/-! ### SecCmds -/

theorem State.drawNonce_kept {r0 : State} {a0 : State} (ha0 : Kept r0 a0) : KeptP r0 (State.drawNonce a0) := by
  unfold State.drawNonce
  split
  split
  split
  split
  refine KeptP.mk ?_
  refine KeptP.elim ?_ (by with_reducible assumption)
  refine State.free64_kept ?_
  refine KeptP.elim ?_ (by with_reducible assumption)
  refine State.free64_kept ?_
  refine KeptP.elim ?_ (by with_reducible assumption)
  refine State.free64_kept ?_
  refine KeptP.elim ?_ (by with_reducible assumption)
  refine State.free64_kept ?_
  with_reducible assumption

theorem sessionOpen_kept {r0 : State} {a0 : DopReq} {a1 : State} (ha1 : Kept r0 a1) : KeptDE r0 (sessionOpen a0 a1) := by
  unfold sessionOpen
  extract_lets x0 x1
  refine KeptDE.ite ?_ ?_
  · refine KeptDE.error
  · refine KeptDE.ite ?_ ?_
    · refine KeptDE.error
    · refine KeptDE.ite ?_ ?_
      · refine KeptDE.error
      · refine KeptDE.ite ?_ ?_
        · refine KeptDE.error
        · refine KeptDE.ite ?_ ?_
          · refine KeptDE.error
          · split
            split
            extract_lets x2 x3
            refine KeptDE.ok ?_
            refine KeptD.mk ?_
            refine State.modCodex_kept ?_
            refine KeptP.elim ?_ (by with_reducible assumption)
            refine State.drawNonce_kept ?_
            refine KeptP.elim ?_ (by with_reducible assumption)
            refine State.freeBelow_kept ?_
            with_reducible assumption

theorem State.authFailed_kept {r0 : State} {a0 : State} (ha0 : Kept r0 a0) : Kept r0 (State.authFailed a0) := by
  unfold State.authFailed
  extract_lets x0
  refine Kept.ite ?_ ?_
  · refine State.sensorFires_kept ?_
    refine State.modSec_kept ?_
    with_reducible assumption
  · refine State.modSec_kept ?_
    with_reducible assumption

theorem State.dropSession_kept {r0 : State} {a0 : State} {a1 : ℕ} {a2 : DopSrc} (ha0 : Kept r0 a0) : Kept r0 (State.dropSession a0 a1 a2) := by
  unfold State.dropSession
  refine State.modCodex_kept ?_
  with_reducible assumption

theorem sessionAuth_kept {r0 : State} {a0 : DopReq} {a1 : State} (ha1 : Kept r0 a1) : KeptDE r0 (sessionAuth a0 a1) := by
  unfold sessionAuth
  split
  · refine KeptDE.error
  · extract_lets x0
    refine KeptDE.ite ?_ ?_
    · refine KeptDE.error
    · refine KeptDE.ite ?_ ?_
      · refine KeptDE.ok ?_
        refine KeptD.mk ?_
        refine State.modCodex_kept ?_
        with_reducible assumption
      · refine KeptDE.ok ?_
        refine KeptD.mk ?_
        refine State.authFailed_kept ?_
        refine State.dropSession_kept ?_
        with_reducible assumption

theorem sessionClose_kept {r0 : State} {a0 : DopReq} {a1 : State} (ha1 : Kept r0 a1) : KeptDE r0 (sessionClose a0 a1) := by
  unfold sessionClose
  split
  · refine KeptDE.error
  · refine KeptDE.ite ?_ ?_
    · refine KeptDE.error
    · refine KeptDE.ok ?_
      refine KeptD.mk ?_
      refine State.dropSession_kept ?_
      with_reducible assumption

theorem execSessionOpen_kept {r0 : State} {a0 : Req} {a1 : BitVec 8} {a2 : BitVec 256} {a3 : State} (ha3 : Kept r0 a3) : KeptT r0 (execSessionOpen a0 a1 a2 a3) := by
  unfold execSessionOpen
  extract_lets x0 x1
  have hx1 : Kept r0 x1 := by
    unfold x1
    refine State.dopArrives_kept ?_
    with_reducible assumption
  refine KeptT.next ?_
  refine dopServe_kept ?_ ?_
  · with_reducible assumption
  · intro a2
    refine sessionOpen_kept ?_
    with_reducible assumption

theorem execSessionAuth_kept {r0 : State} {a0 : Req} {a1 : BitVec 512} {a2 : State} (ha2 : Kept r0 a2) : KeptT r0 (execSessionAuth a0 a1 a2) := by
  unfold execSessionAuth
  extract_lets x0 x1
  have hx1 : Kept r0 x1 := by
    unfold x1
    refine State.dopArrives_kept ?_
    with_reducible assumption
  refine KeptT.next ?_
  refine dopServe_kept ?_ ?_
  · with_reducible assumption
  · intro a2
    refine sessionAuth_kept ?_
    with_reducible assumption

theorem execSessionClose_kept {r0 : State} {a0 : Req} {a1 : State} (ha1 : Kept r0 a1) : KeptT r0 (execSessionClose a0 a1) := by
  unfold execSessionClose
  extract_lets x0 x1
  have hx1 : Kept r0 x1 := by
    unfold x1
    refine State.dopArrives_kept ?_
    with_reducible assumption
  refine KeptT.next ?_
  refine dopServe_kept ?_ ?_
  · with_reducible assumption
  · intro a2
    refine sessionClose_kept ?_
    with_reducible assumption

theorem execSessionTimeout_kept {r0 : State} {a0 : DopSrc} {a1 : BitVec 16} {a2 : State} (ha2 : Kept r0 a2) : KeptT r0 (execSessionTimeout a0 a1 a2) := by
  unfold execSessionTimeout
  refine KeptT.next ?_
  refine State.dropSession_kept ?_
  with_reducible assumption

theorem State.spdmSign_kept {r0 : State} {a0 : State} {a1 : List Byte} (ha0 : Kept r0 a0) : KeptP r0 (State.spdmSign a0 a1) := by
  unfold State.spdmSign
  refine KeptP.mk ?_
  exact ha0

theorem State.updSpdm_kept {r0 : State} {a0 : State} {a1 : ℕ} {a2 : Spdm → Spdm} (ha0 : Kept r0 a0) : Kept r0 (State.updSpdm a0 a1 a2) := by
  unfold State.updSpdm
  refine State.modSec_kept ?_
  with_reducible assumption

theorem State.spdmAnswer_kept {r0 : State} {a0 : State} {a1 : ℕ} {a2 : SpdmReq} (ha0 : Kept r0 a0) : KeptP r0 (State.spdmAnswer a0 a1 a2) := by
  unfold State.spdmAnswer
  extract_lets x0
  split
  · refine KeptP.mk ?_
    refine State.updSpdm_kept ?_
    with_reducible assumption
  · refine KeptP.ite ?_ ?_
    · refine KeptP.mk ?_
      with_reducible assumption
    · refine KeptP.ite ?_ ?_
      · refine KeptP.mk ?_
        refine State.updSpdm_kept ?_
        with_reducible assumption
      · refine KeptP.mk ?_
        with_reducible assumption
  · refine KeptP.ite ?_ ?_
    · refine KeptP.mk ?_
      with_reducible assumption
    · refine KeptP.ite ?_ ?_
      · refine KeptP.mk ?_
        refine State.updSpdm_kept ?_
        with_reducible assumption
      · refine KeptP.mk ?_
        with_reducible assumption
  · refine KeptP.ite ?_ ?_
    · refine KeptP.mk ?_
      with_reducible assumption
    · refine KeptP.mk ?_
      with_reducible assumption
  · refine KeptP.ite ?_ ?_
    · refine KeptP.mk ?_
      with_reducible assumption
    · split
      · refine KeptP.mk ?_
        with_reducible assumption
      · extract_lets x1
        refine KeptP.ite ?_ ?_
        · refine KeptP.mk ?_
          with_reducible assumption
        · refine KeptP.mk ?_
          with_reducible assumption
  · refine KeptP.ite ?_ ?_
    · refine KeptP.mk ?_
      with_reducible assumption
    · refine KeptP.ite ?_ ?_
      · refine KeptP.mk ?_
        with_reducible assumption
      · refine KeptP.ite ?_ ?_
        · refine KeptP.mk ?_
          with_reducible assumption
        · split
          refine KeptP.mk ?_
          refine KeptP.elim ?_ (by with_reducible assumption)
          refine State.spdmSign_kept ?_
          with_reducible assumption
  · extract_lets x2
    refine KeptP.ite ?_ ?_
    · refine KeptP.mk ?_
      with_reducible assumption
    · refine KeptP.ite ?_ ?_
      · refine KeptP.mk ?_
        with_reducible assumption
      · clear_value x2
        split
        · refine KeptP.mk ?_
          with_reducible assumption
        · refine KeptP.mk ?_
          with_reducible assumption
        · refine KeptP.ite ?_ ?_
          · refine KeptP.mk ?_
            with_reducible assumption
          · split
            refine KeptP.mk ?_
            refine KeptP.elim ?_ (by with_reducible assumption)
            refine State.spdmSign_kept ?_
            with_reducible assumption

theorem State.spdmServe_kept {r0 : State} {a0 : State} {a1 : ℕ} {a2 : SpdmReq} (ha0 : Kept r0 a0) : Kept r0 (State.spdmServe a0 a1 a2) := by
  unfold State.spdmServe
  refine Kept.ite ?_ ?_
  · with_reducible assumption
  · split
    refine State.emit_kept ?_
    refine KeptP.elim ?_ (by with_reducible assumption)
    refine State.spdmAnswer_kept ?_
    with_reducible assumption

theorem execGetVersion_kept {r0 : State} {a0 : Fin 3} {a1 : State} (ha1 : Kept r0 a1) : KeptT r0 (execGetVersion a0 a1) := by
  unfold execGetVersion
  refine KeptT.next ?_
  refine State.spdmServe_kept ?_
  with_reducible assumption

theorem execGetCapabilities_kept {r0 : State} {a0 : Fin 3} {a1 : BitVec 8} {a2 : State} (ha2 : Kept r0 a2) : KeptT r0 (execGetCapabilities a0 a1 a2) := by
  unfold execGetCapabilities
  refine KeptT.next ?_
  refine State.spdmServe_kept ?_
  with_reducible assumption

theorem execNegotiateAlgorithms_kept {r0 : State} {a0 : Fin 3} {a1 : Bool} {a2 : Bool} {a3 : State} (ha3 : Kept r0 a3) : KeptT r0 (execNegotiateAlgorithms a0 a1 a2 a3) := by
  unfold execNegotiateAlgorithms
  refine KeptT.next ?_
  refine State.spdmServe_kept ?_
  with_reducible assumption

theorem execGetDigests_kept {r0 : State} {a0 : Fin 3} {a1 : State} (ha1 : Kept r0 a1) : KeptT r0 (execGetDigests a0 a1) := by
  unfold execGetDigests
  refine KeptT.next ?_
  refine State.spdmServe_kept ?_
  with_reducible assumption

theorem execGetCertificate_kept {r0 : State} {a0 : Fin 3} {a1 : BitVec 8} {a2 : BitVec 16} {a3 : BitVec 16} {a4 : State} (ha4 : Kept r0 a4) : KeptT r0 (execGetCertificate a0 a1 a2 a3 a4) := by
  unfold execGetCertificate
  refine KeptT.next ?_
  refine State.spdmServe_kept ?_
  with_reducible assumption

theorem execChallenge_kept {r0 : State} {a0 : Fin 3} {a1 : BitVec 8} {a2 : List Byte} {a3 : State} (ha3 : Kept r0 a3) : KeptT r0 (execChallenge a0 a1 a2 a3) := by
  unfold execChallenge
  refine KeptT.next ?_
  refine State.spdmServe_kept ?_
  with_reducible assumption

theorem execGetMeasurements_kept {r0 : State} {a0 : Fin 3} {a1 : BitVec 8} {a2 : Option (BitVec 8 × List Byte)} {a3 : State} (ha3 : Kept r0 a3) : KeptT r0 (execGetMeasurements a0 a1 a2 a3) := by
  unfold execGetMeasurements
  refine KeptT.next ?_
  refine State.spdmServe_kept ?_
  with_reducible assumption

theorem State.mctpMessage_kept {r0 : State} {a0 : State} {a1 : List Byte} (ha0 : Kept r0 a0) : KeptP r0 (State.mctpMessage a0 a1) := by
  unfold State.mctpMessage
  refine KeptP.ite ?_ ?_
  · split
    refine KeptP.mk ?_
    refine State.emit_kept ?_
    refine KeptP.elim ?_ (by with_reducible assumption)
    split
    · refine State.spdmAnswer_kept ?_
      with_reducible assumption
    · refine KeptP.mk ?_
      with_reducible assumption
  · refine KeptP.ite ?_ ?_
    · refine KeptP.mk ?_
      with_reducible assumption
    · refine KeptP.ite ?_ ?_
      · refine KeptP.mk ?_
        with_reducible assumption
      · refine KeptP.mk ?_
        with_reducible assumption

theorem State.nextPacket_kept {r0 : State} {a0 : State} (ha0 : Kept r0 a0) : KeptD r0 (State.nextPacket a0) := by
  unfold State.nextPacket
  split
  · refine KeptD.mk ?_
    with_reducible assumption
  · refine KeptD.mk ?_
    refine State.modSec_kept ?_
    with_reducible assumption

theorem mctpPacket_kept {r0 : State} {a0 : DopReq} {a1 : State} (ha1 : Kept r0 a1) : KeptDE r0 (mctpPacket a0 a1) := by
  unfold mctpPacket
  extract_lets x0 x1 x2
  refine KeptDE.ite ?_ ?_
  · refine KeptDE.error
  · refine KeptDE.ite ?_ ?_
    · refine KeptDE.ok ?_
      refine State.nextPacket_kept ?_
      with_reducible assumption
    · refine KeptDE.ite ?_ ?_
      · refine KeptDE.ok ?_
        refine State.nextPacket_kept ?_
        refine State.modSec_kept ?_
        with_reducible assumption
      · refine KeptDE.ite ?_ ?_
        · refine KeptDE.ok ?_
          refine State.nextPacket_kept ?_
          refine State.modSec_kept ?_
          with_reducible assumption
        · split
          refine KeptDE.ok ?_
          refine State.nextPacket_kept ?_
          refine State.modSec_kept ?_
          refine KeptP.elim ?_ (by with_reducible assumption)
          refine State.mctpMessage_kept ?_
          with_reducible assumption

theorem execMctpPacket_kept {r0 : State} {a0 : Req} {a1 : List Byte} {a2 : State} (ha2 : Kept r0 a2) : KeptT r0 (execMctpPacket a0 a1 a2) := by
  unfold execMctpPacket
  extract_lets x0 x1
  have hx1 : Kept r0 x1 := by
    unfold x1
    refine State.dopArrives_kept ?_
    with_reducible assumption
  refine KeptT.next ?_
  refine dopServe_kept ?_ ?_
  · with_reducible assumption
  · intro a2
    refine mctpPacket_kept ?_
    with_reducible assumption

theorem debugUnlock_kept {r0 : State} {a0 : State} {a1 : ℕ} (ha0 : Kept r0 a0) : KeptD r0 (debugUnlock a0 a1) := by
  unfold debugUnlock
  extract_lets x0
  refine KeptD.ite ?_ ?_
  · refine KeptD.mk ?_
    refine State.modSec_kept ?_
    refine State.eraseKeys_kept ?_
    with_reducible assumption
  · refine KeptD.mk ?_
    refine State.authFailed_kept ?_
    with_reducible assumption

theorem debugUnlockAct_kept {r0 : State} {a0 : DopReq} {a1 : State} {a2 : ℕ} (ha1 : Kept r0 a1) : KeptDE r0 (debugUnlockAct a0 a1 a2) := by
  unfold debugUnlockAct
  split
  · refine KeptDE.error
  · refine KeptDE.ok ?_
    refine debugUnlock_kept ?_
    with_reducible assumption

theorem execDebugUnlock_kept {r0 : State} {a0 : Req} {a1 : BitVec 512} {a2 : State} (ha2 : Kept r0 a2) : KeptT r0 (execDebugUnlock a0 a1 a2) := by
  unfold execDebugUnlock
  extract_lets x0 x1
  have hx1 : Kept r0 x1 := by
    unfold x1
    refine State.dopArrives_kept ?_
    with_reducible assumption
  refine KeptT.next ?_
  refine dopServe_kept ?_ ?_
  · with_reducible assumption
  · intro a2
    refine debugUnlockAct_kept ?_
    with_reducible assumption

theorem credWrite_kept {r0 : State} {a0 : ℕ} {a1 : State} {a2 : ℕ} (ha1 : Kept r0 a1) : KeptE r0 (credWrite a0 a1 a2) := by
  unfold credWrite
  refine KeptE.ite ?_ ?_
  · refine KeptE.error
  · refine configWrite_kept ?_
    with_reducible assumption

theorem execCredWrite_kept {r0 : State} {a0 : Req} {a1 : Fin 8} {a2 : BitVec 320} {a3 : State} (ha3 : Kept r0 a3) : KeptT r0 (execCredWrite a0 a1 a2 a3) := by
  unfold execCredWrite
  refine KeptT.next ?_
  refine serveWrite_kept ?_ ?_
  · with_reducible assumption
  · intro a0 a1 h2
    refine credWrite_kept ?_
    with_reducible assumption

theorem execTapExtest_kept {r0 : State} {a0 : State} (ha0 : Kept r0 a0) : KeptT r0 (execTapExtest a0) := by
  unfold execTapExtest
  refine KeptT.next ?_
  refine Kept.ite ?_ ?_
  · refine State.sensorFires_kept ?_
    refine State.modSec_kept ?_
    with_reducible assumption
  · with_reducible assumption

theorem execTapReset_kept {r0 : State} {a0 : State} (ha0 : Kept r0 a0) : KeptT r0 (execTapReset a0) := by
  unfold execTapReset
  refine KeptT.next ?_
  refine Kept.ite ?_ ?_
  · refine State.warmRequest_kept ?_
    refine State.modSec_kept ?_
    with_reducible assumption
  · with_reducible assumption

theorem execTamperSensorFire_kept {r0 : State} {a0 : Fin 7} {a1 : State} (ha1 : Kept r0 a1) : KeptT r0 (execTamperSensorFire a0 a1) := by
  unfold execTamperSensorFire
  refine KeptT.next ?_
  refine Kept.ite ?_ ?_
  · refine State.sensorFires_kept ?_
    with_reducible assumption
  · with_reducible assumption

/-! ### ChopCmds -/

theorem execSealChange_kept {r0 : State} {a0 : Bool} {a1 : Metered} {a2 : State} (ha2 : Kept r0 a2) : KeptT r0 (execSealChange a0 a1 a2) := by
  unfold execSealChange
  extract_lets x0 x1
  have hx0 : Kept r0 x0 := by
    unfold x0
    refine State.closeRecord_kept ?_
    refine State.modChop_kept ?_
    with_reducible assumption
  have hx1 : Kept r0 x1 := by
    unfold x1
    refine State.chopFlag_kept ?_
    refine State.modChop_kept ?_
    with_reducible assumption
  refine KeptT.next ?_
  refine Kept.ite ?_ ?_
  · with_reducible assumption
  · refine Kept.ite ?_ ?_
    · with_reducible assumption
    · refine State.modSec_kept ?_
      with_reducible assumption

theorem execChopStartupData_kept {r0 : State} {a0 : State} (ha0 : Kept r0 a0) : KeptT r0 (execChopStartupData a0) := by
  unfold execChopStartupData
  refine KeptT.next ?_
  refine Kept.ite ?_ ?_
  · with_reducible assumption
  · split
    · with_reducible assumption
    · extract_lets x0 x1
      have hx0 : Kept r0 x0 := by
        unfold x0
        refine State.modChop_kept ?_
        with_reducible assumption
      have hx1 : Kept r0 x1 := by
        unfold x1
        refine State.modChop_kept ?_
        with_reducible assumption
      refine Kept.ite ?_ ?_
      · with_reducible assumption
      · refine State.judgeRecord_kept ?_
        with_reducible assumption

theorem execAccountFeed_kept {r0 : State} {a0 : Bool} {a1 : State} (ha1 : Kept r0 a1) : KeptT r0 (execAccountFeed a0 a1) := by
  unfold execAccountFeed
  refine KeptT.next ?_
  refine Kept.ite ?_ ?_
  · refine State.feedAccounts_kept ?_
    with_reducible assumption
  · with_reducible assumption

theorem execRecordBoundary_kept {r0 : State} {a0 : Metered} {a1 : State} (ha1 : Kept r0 a1) : KeptT r0 (execRecordBoundary a0 a1) := by
  unfold execRecordBoundary
  refine KeptT.next ?_
  refine Kept.ite ?_ ?_
  · refine State.closeRecord_kept ?_
    with_reducible assumption
  · with_reducible assumption

theorem execRecordStoreConfirm_kept {r0 : State} {a0 : BitVec 32} {a1 : State} (ha1 : Kept r0 a1) : KeptT r0 (execRecordStoreConfirm a0 a1) := by
  unfold execRecordStoreConfirm
  refine KeptT.next ?_
  split
  · refine Kept.ite ?_ ?_
    · refine State.confirmRecord_kept ?_
      refine State.storeChop_kept ?_
      with_reducible assumption
    · with_reducible assumption
  · with_reducible assumption

theorem intervalWrite_kept {r0 : State} {a0 : State} {a1 : ℕ} (ha0 : Kept r0 a0) : KeptE r0 (intervalWrite a0 a1) := by
  unfold intervalWrite
  refine KeptE.ite ?_ ?_
  · refine KeptE.error
  · refine KeptE.ite ?_ ?_
    · refine KeptE.error
    · refine KeptE.ok ?_
      refine State.modChop_kept ?_
      with_reducible assumption

theorem execIntervalMinWrite_kept {r0 : State} {a0 : Req} {a1 : BitVec 8} {a2 : State} (ha2 : Kept r0 a2) : KeptT r0 (execIntervalMinWrite a0 a1 a2) := by
  unfold execIntervalMinWrite
  refine KeptT.next ?_
  refine serveWrite_kept ?_ ?_
  · with_reducible assumption
  · intro a0 a1 h2
    refine intervalWrite_kept ?_
    with_reducible assumption

theorem calWrite_kept {r0 : State} {a0 : State} {a1 : ℕ} (ha0 : Kept r0 a0) : KeptE r0 (calWrite a0 a1) := by
  unfold calWrite
  extract_lets x0 x1
  split
  · refine KeptE.error
  · refine KeptE.ite ?_ ?_
    · refine KeptE.error
    · refine KeptE.ok ?_
      refine State.storeData_kept ?_
      refine State.modChop_kept ?_
      with_reducible assumption

theorem execCalWrite_kept {r0 : State} {a0 : Req} {a1 : BitVec 128} {a2 : State} (ha2 : Kept r0 a2) : KeptT r0 (execCalWrite a0 a1 a2) := by
  unfold execCalWrite
  refine KeptT.next ?_
  refine serveWrite_kept ?_ ?_
  · with_reducible assumption
  · intro a0 a1 h2
    refine calWrite_kept ?_
    with_reducible assumption

theorem accountMapWrite_kept {r0 : State} {a0 : ℕ} {a1 : State} {a2 : ℕ} (ha1 : Kept r0 a1) : KeptE r0 (accountMapWrite a0 a1 a2) := by
  unfold accountMapWrite
  refine KeptE.ite ?_ ?_
  · refine KeptE.error
  · refine KeptE.ok ?_
    refine State.setParam_kept ?_
    with_reducible assumption

theorem execAccountMapWrite_kept {r0 : State} {a0 : Req} {a1 : Fin 1024} {a2 : BitVec 16} {a3 : State} (ha3 : Kept r0 a3) : KeptT r0 (execAccountMapWrite a0 a1 a2 a3) := by
  unfold execAccountMapWrite
  refine KeptT.next ?_
  refine serveWrite_kept ?_ ?_
  · with_reducible assumption
  · intro a0 a1 h2
    refine accountMapWrite_kept ?_
    with_reducible assumption

end Sys2Proof.Machine
end

