-- ==== Sys2Proof/Laws/Kept9.lean ====
section
/-!
SUPPORT. What the operations and commands of these files keep: TimeOps, TimeCmds, FolioCmds, HostCmds, Sched.
-/

set_option Elab.async false

namespace Sys2Proof.Machine

/-! ### TimeOps -/

theorem State.roundFree_kept {r0 : State} {a0 : State} {a1 : ℤ} {a2 : ℕ} (ha0 : Kept r0 a0) : KeptP r0 (State.roundFree a0 a1 a2) := by
  unfold State.roundFree
  extract_lets x0
  refine KeptP.ite ?_ ?_
  · refine KeptP.mk ?_
    with_reducible assumption
  · split
    refine KeptP.mk ?_
    refine KeptP.elim ?_ (by with_reducible assumption)
    refine State.freeBelow_kept ?_
    with_reducible assumption

theorem State.setTimeUnits_kept {r0 a0 : State} {a1 : Int} (ha0 : Kept r0 a0) : Kept r0 (a0.setTimeUnits a1) :=
  State.modTime_kept ha0 (fun _ _ => Nat.mod_lt _ (by decide))

theorem State.timeTick_kept {r0 : State} {a0 : State} (ha0 : Kept r0 a0) : Kept r0 (State.timeTick a0) := by
  unfold State.timeTick
  refine Kept.ite ?_ ?_
  · refine State.setTimeUnits_kept ?_
    with_reducible assumption
  · with_reducible assumption

theorem State.timeLocked_kept {r0 : State} {a0 : State} {a1 : Bool} (ha0 : Kept r0 a0) : Kept r0 (State.timeLocked a0 a1) := by
  unfold State.timeLocked
  refine Kept.ite ?_ ?_
  · refine State.chopAdopt_kept ?_
    refine State.markDone_kept ?_
    with_reducible assumption
  · refine State.setFlag_kept ?_
    refine State.markDone_kept ?_
    with_reducible assumption

theorem State.setEstimate_kept {r0 : State} {a0 : State} (ha0 : Kept r0 a0) : Kept r0 (State.setEstimate a0) := by
  unfold State.setEstimate
  extract_lets x0 x1 x2 x3
  refine Kept.ite ?_ ?_
  · refine State.modTime_kept ?_ ?_
    · with_reducible assumption
    · exact fun _ h => h
  · split
    refine State.modTime_kept ?_ ?_
    · refine KeptP.elim ?_ (by with_reducible assumption)
      refine State.freeBelow_kept ?_
      with_reducible assumption
    · exact fun _ h => h

theorem State.trackSample_kept {r0 : State} {a0 : State} {a1 : ℤ} (ha0 : Kept r0 a0) : Kept r0 (State.trackSample a0 a1) := by
  unfold State.trackSample
  extract_lets x0 x1 x2 x3
  split
  extract_lets x4 x5 x6 x7
  have hx4 : Kept r0 x4 := by
    unfold x4
    refine State.modTime_kept ?_ ?_
    · refine KeptP.elim ?_ (by with_reducible assumption)
      refine State.roundFree_kept ?_
      with_reducible assumption
    · exact fun _ h => h
  have hx5 : Kept r0 x5 := by
    unfold x5
    refine State.hist_kept ?_
    refine State.setEstimate_kept ?_
    with_reducible assumption
  have hx7 : Kept r0 x7 := by
    unfold x7
    refine State.modTime_kept ?_ ?_
    · with_reducible assumption
    · exact fun _ h => h
  refine Kept.ite ?_ ?_
  · refine State.timeLocked_kept ?_
    with_reducible assumption
  · with_reducible assumption

theorem State.acquired_kept {r0 : State} {a0 : State} {a1 : List (ℤ × ℤ)} (ha0 : Kept r0 a0) : Kept r0 (State.acquired a0 a1) := by
  unfold State.acquired
  extract_lets x0 x1 x2 x3 x4 x5
  have hx5 : Kept r0 x5 := by
    unfold x5
    refine Kept.ite ?_ ?_
    · with_reducible assumption
    · refine Kept.ite ?_ ?_
      · split
        refine State.modTime_kept ?_ ?_
        · refine KeptP.elim ?_ (by with_reducible assumption)
          refine State.free64_kept ?_
          with_reducible assumption
        · exact fun _ h => h
      · split
        refine State.modTime_kept ?_ ?_
        · refine KeptP.elim ?_ (by with_reducible assumption)
          refine State.roundFree_kept ?_
          with_reducible assumption
        · exact fun _ h => h
  split
  refine State.countUnit_kept ?_
  refine State.modTime_kept ?_ ?_
  · refine State.setTimeUnits_kept ?_
    refine KeptP.elim ?_ (by with_reducible assumption)
    refine State.roundFree_kept ?_
    with_reducible assumption
  · exact fun _ h => h

theorem State.offsetSample_kept {r0 : State} {a0 : State} {a1 : ℤ} (ha0 : Kept r0 a0) : Kept r0 (State.offsetSample a0 a1) := by
  unfold State.offsetSample
  extract_lets x0 x1 x2
  have hx0 : Kept r0 x0 := by
    unfold x0
    refine State.countUnit_kept ?_
    with_reducible assumption
  have hx2 : Kept r0 x2 := by
    unfold x2
    refine State.modTime_kept ?_ ?_
    · with_reducible assumption
    · exact fun _ h => h
  split
  · refine Kept.ite ?_ ?_
    · refine State.acquired_kept ?_
      with_reducible assumption
    · with_reducible assumption
  · refine State.trackSample_kept ?_
    with_reducible assumption
  · with_reducible assumption

theorem State.servoStart_kept {r0 : State} {a0 : State} (ha0 : Kept r0 a0) : Kept r0 (State.servoStart a0) := by
  unfold State.servoStart
  split
  · refine State.modTime_kept ?_ ?_
    · with_reducible assumption
    · exact fun _ h => h
  · refine Kept.ite ?_ ?_
    · refine State.modTime_kept ?_ ?_
      · with_reducible assumption
      · exact fun _ h => h
    · refine State.modTime_kept ?_ ?_
      · with_reducible assumption
      · exact fun _ h => h
  · with_reducible assumption

theorem State.updPtp_kept {r0 : State} {a0 : State} {a1 : ℕ} {a2 : PtpPort → PtpPort} (ha0 : Kept r0 a0) : Kept r0 (State.updPtp a0 a1 a2) := by
  unfold State.updPtp
  refine State.modTime_kept ?_ ?_
  · with_reducible assumption
  · exact fun _ h => h

theorem State.reselect_kept {r0 : State} {a0 : State} (ha0 : Kept r0 a0) : Kept r0 (State.reselect a0) := by
  unfold State.reselect
  extract_lets x0 x1
  have hx1 : Kept r0 x1 := by
    unfold x1
    refine State.setFlag_kept ?_
    refine State.modTime_kept ?_ ?_
    · with_reducible assumption
    · exact fun _ h => h
  refine Kept.ite ?_ ?_
  · with_reducible assumption
  · refine Kept.ite ?_ ?_
    · with_reducible assumption
    · refine State.servoStart_kept ?_
      with_reducible assumption

theorem State.ptpBad_kept {r0 : State} {a0 : State} (ha0 : Kept r0 a0) : Kept r0 (State.ptpBad a0) := by
  unfold State.ptpBad
  refine State.setFlag_kept ?_
  refine State.countUnit_kept ?_
  with_reducible assumption

theorem State.onSync_kept {r0 : State} {a0 : State} {a1 : ℕ} {a2 : List Byte} (ha0 : Kept r0 a0) : Kept r0 (State.onSync a0 a1 a2) := by
  unfold State.onSync
  extract_lets x0 x1
  have hx1 : Kept r0 x1 := by
    unfold x1
    refine State.updPtp_kept ?_
    with_reducible assumption
  split
  · with_reducible assumption
  · refine Kept.ite ?_ ?_
    · with_reducible assumption
    · refine State.modTime_kept ?_ ?_
      · with_reducible assumption
      · exact fun _ h => h

theorem State.onDelayReq_kept {r0 : State} {a0 : State} {a1 : ℕ} {a2 : List Byte} (ha0 : Kept r0 a0) : Kept r0 (State.onDelayReq a0 a1 a2) := by
  unfold State.onDelayReq
  refine Kept.ite ?_ ?_
  · with_reducible assumption
  · split
    extract_lets x0
    refine sendPlain_kept ?_
    with_reducible assumption

theorem State.onDelayResp_kept {r0 : State} {a0 : State} {a1 : ℕ} {a2 : List Byte} (ha0 : Kept r0 a0) : Kept r0 (State.onDelayResp a0 a1 a2) := by
  unfold State.onDelayResp
  extract_lets x0
  split
  · extract_lets x1
    refine Kept.ite ?_ ?_
    · with_reducible assumption
    · refine State.updPtp_kept ?_
      with_reducible assumption
  · with_reducible assumption

theorem State.onAnnounce_kept {r0 : State} {a0 : State} {a1 : ℕ} {a2 : List Byte} (ha0 : Kept r0 a0) : Kept r0 (State.onAnnounce a0 a1 a2) := by
  unfold State.onAnnounce
  extract_lets x0 x1
  have hx0 : Kept r0 x0 := by
    unfold x0
    refine State.countUnit_kept ?_
    with_reducible assumption
  refine Kept.ite ?_ ?_
  · with_reducible assumption
  · refine State.reselect_kept ?_
    refine State.updPtp_kept ?_
    with_reducible assumption

theorem State.badType_kept {r0 : State} {a0 : State} {a1 : ℕ} (ha0 : Kept r0 a0) : Kept r0 (State.badType a0 a1) := by
  unfold State.badType
  refine State.setFlag_kept ?_
  refine State.countFibre_kept ?_
  with_reducible assumption

theorem onTime_kept {r0 : State} {a0 : State} {a1 : ℕ} {a2 : List Byte} (ha0 : Kept r0 a0) : Kept r0 (onTime a0 a1 a2) := by
  unfold onTime
  refine Kept.ite ?_ ?_
  · refine State.badType_kept ?_
    refine State.ptpBad_kept ?_
    with_reducible assumption
  · refine Kept.ite ?_ ?_
    · refine State.ptpBad_kept ?_
      with_reducible assumption
    · split
      · refine State.onSync_kept ?_
        with_reducible assumption
      · refine State.onDelayReq_kept ?_
        with_reducible assumption
      · refine State.onDelayResp_kept ?_
        with_reducible assumption
      · refine State.onAnnounce_kept ?_
        with_reducible assumption

theorem State.dropPtp_kept {r0 : State} {a0 : State} {a1 : ℕ} (ha0 : Kept r0 a0) : Kept r0 (State.dropPtp a0 a1) := by
  unfold State.dropPtp
  refine State.reselect_kept ?_
  refine State.updPtp_kept ?_
  with_reducible assumption

/-! ### TimeCmds -/

theorem execOffsetSample_kept {r0 : State} {a0 : State} (ha0 : Kept r0 a0) : KeptT r0 (execOffsetSample a0) := by
  unfold execOffsetSample
  split
  · refine KeptT.next ?_
    with_reducible assumption
  · refine KeptT.next ?_
    refine State.reviewSettled_kept ?_
    refine State.offsetSample_kept ?_
    refine State.modTime_kept ?_ ?_
    · with_reducible assumption
    · exact fun _ h => h

theorem execEstimateLoss_kept {r0 : State} {a0 : State} (ha0 : Kept r0 a0) : KeptT r0 (execEstimateLoss a0) := by
  unfold execEstimateLoss
  extract_lets x0
  have hx0 : Kept r0 x0 := by
    unfold x0
    refine Kept.ite ?_ ?_
    · refine State.countUnit_kept ?_
      refine State.setFlag_kept ?_
      refine State.timeLocked_kept ?_
      with_reducible assumption
    · with_reducible assumption
  refine KeptT.ite ?_ ?_
  · refine KeptT.next ?_
    refine State.reviewSettled_kept ?_
    refine State.modTime_kept ?_ ?_
    · with_reducible assumption
    · exact fun _ h => h
  · refine KeptT.next ?_
    with_reducible assumption

theorem execSourceUnusable_kept {r0 : State} {a0 : State} (ha0 : Kept r0 a0) : KeptT r0 (execSourceUnusable a0) := by
  unfold execSourceUnusable
  extract_lets x0 x1
  have hx0 : Kept r0 x0 := by
    unfold x0
    refine State.reselect_kept ?_
    with_reducible assumption
  have hx1 : Kept r0 x1 := by
    unfold x1
    refine State.setFlag_kept ?_
    refine State.modTime_kept ?_ ?_
    · with_reducible assumption
    · exact fun _ h => h
  refine KeptT.ite ?_ ?_
  · refine KeptT.next ?_
    refine State.reviewSettled_kept ?_
    refine Kept.ite ?_ ?_
    · refine State.timeLocked_kept ?_
      with_reducible assumption
    · with_reducible assumption
  · refine KeptT.next ?_
    with_reducible assumption

theorem execHoldoverExpiry_kept {r0 : State} {a0 : State} (ha0 : Kept r0 a0) : KeptT r0 (execHoldoverExpiry a0) := by
  unfold execHoldoverExpiry
  refine KeptT.ite ?_ ?_
  · refine KeptT.next ?_
    refine State.reviewSettled_kept ?_
    refine State.timeLocked_kept ?_
    with_reducible assumption
  · refine KeptT.next ?_
    with_reducible assumption

theorem execAnnounceReceiptTimeout_kept {r0 : State} {a0 : Fin 64} {a1 : State} (ha1 : Kept r0 a1) : KeptT r0 (execAnnounceReceiptTimeout a0 a1) := by
  unfold execAnnounceReceiptTimeout
  refine KeptT.ite ?_ ?_
  · refine KeptT.next ?_
    with_reducible assumption
  · refine KeptT.next ?_
    refine State.reselect_kept ?_
    refine State.updPtp_kept ?_
    with_reducible assumption

theorem execPtpSyncSend_kept {r0 : State} {a0 : Fin 64} {a1 : State} (ha1 : Kept r0 a1) : KeptT r0 (execPtpSyncSend a0 a1) := by
  unfold execPtpSyncSend
  refine KeptT.ite ?_ ?_
  · refine KeptT.next ?_
    with_reducible assumption
  · split
    extract_lets x0
    refine KeptT.next ?_
    refine sendPlain_kept ?_
    refine State.updPtp_kept ?_
    with_reducible assumption

theorem State.announceProps_kept {r0 : State} {a0 : State} (ha0 : Kept r0 a0) : KeptP r0 (State.announceProps a0) := by
  unfold State.announceProps
  split
  · refine KeptP.mk ?_
    with_reducible assumption
  · split
    split
    refine KeptP.mk ?_
    refine KeptP.elim ?_ (by with_reducible assumption)
    refine State.freeBelow_kept ?_
    refine KeptP.elim ?_ (by with_reducible assumption)
    refine State.freeBelow_kept ?_
    with_reducible assumption

theorem execPtpAnnounceSend_kept {r0 : State} {a0 : Fin 64} {a1 : State} (ha1 : Kept r0 a1) : KeptT r0 (execPtpAnnounceSend a0 a1) := by
  unfold execPtpAnnounceSend
  extract_lets x0
  refine KeptT.ite ?_ ?_
  · refine KeptT.next ?_
    with_reducible assumption
  · split
    split
    extract_lets x1 x2 x3
    refine KeptT.next ?_
    refine sendPlain_kept ?_
    refine State.updPtp_kept ?_
    refine KeptP.elim ?_ (by with_reducible assumption)
    refine State.freeBelow_kept ?_
    refine KeptP.elim ?_ (by with_reducible assumption)
    refine State.announceProps_kept ?_
    with_reducible assumption

theorem execPtpDelayReqSend_kept {r0 : State} {a0 : Fin 64} {a1 : State} (ha1 : Kept r0 a1) : KeptT r0 (execPtpDelayReqSend a0 a1) := by
  unfold execPtpDelayReqSend
  refine KeptT.ite ?_ ?_
  · refine KeptT.next ?_
    with_reducible assumption
  · split
    extract_lets x0 x1 x2
    refine KeptT.next ?_
    refine sendPlain_kept ?_
    refine State.updPtp_kept ?_
    refine KeptP.elim ?_ (by with_reducible assumption)
    refine State.freeBelow_kept ?_
    with_reducible assumption

theorem State.ppsLost_kept {r0 : State} {a0 : State} (ha0 : Kept r0 a0) : Kept r0 (State.ppsLost a0) := by
  unfold State.ppsLost
  refine State.reselect_kept ?_
  refine State.modTime_kept ?_ ?_
  · with_reducible assumption
  · exact fun _ h => h

theorem State.ppsDiscard_kept {r0 : State} {a0 : State} (ha0 : Kept r0 a0) : Kept r0 (State.ppsDiscard a0) := by
  unfold State.ppsDiscard
  refine State.ppsLost_kept ?_
  refine State.modTime_kept ?_ ?_
  · refine State.setFlag_kept ?_
    refine State.countUnit_kept ?_
    with_reducible assumption
  · exact fun _ h => h

theorem State.todBad_kept {r0 : State} {a0 : State} (ha0 : Kept r0 a0) : Kept r0 (State.todBad a0) := by
  unfold State.todBad
  refine State.setFlag_kept ?_
  refine State.countUnit_kept ?_
  with_reducible assumption

theorem State.ppsAccept_kept {r0 : State} {a0 : State} {a1 : ℕ} {a2 : ℕ} {a3 : ℕ} (ha0 : Kept r0 a0) : Kept r0 (State.ppsAccept a0 a1 a2 a3) := by
  unfold State.ppsAccept
  extract_lets x0 x1 x2 x3
  have hx1 : Kept r0 x1 := by
    unfold x1
    refine State.modTime_kept ?_ ?_
    · refine State.countUnit_kept ?_
      with_reducible assumption
    · exact fun _ h => h
  have hx2 : Kept r0 x2 := by
    unfold x2
    refine State.reselect_kept ?_
    with_reducible assumption
  refine Kept.ite ?_ ?_
  · refine State.modTime_kept ?_ ?_
    · with_reducible assumption
    · exact fun _ h => h
  · with_reducible assumption

theorem execPpsInEdge_kept {r0 : State} {a0 : ℕ} {a1 : State} (ha1 : Kept r0 a1) : KeptT r0 (execPpsInEdge a0 a1) := by
  unfold execPpsInEdge
  refine KeptT.ite ?_ ?_
  · refine KeptT.next ?_
    with_reducible assumption
  · refine KeptT.ite ?_ ?_
    · refine KeptT.next ?_
      refine State.ppsDiscard_kept ?_
      refine State.countMisc_kept ?_
      with_reducible assumption
    · split
      · refine KeptT.next ?_
        refine State.ppsDiscard_kept ?_
        with_reducible assumption
      · extract_lets x0 x1
        refine KeptT.ite ?_ ?_
        · refine KeptT.next ?_
          refine State.ppsDiscard_kept ?_
          refine State.todBad_kept ?_
          with_reducible assumption
        · refine KeptT.ite ?_ ?_
          · refine KeptT.next ?_
            refine State.ppsDiscard_kept ?_
            refine State.setFlag_kept ?_
            with_reducible assumption
          · refine KeptT.next ?_
            refine State.ppsAccept_kept ?_
            with_reducible assumption

theorem execTodInMessage_kept {r0 : State} {a0 : List Byte} {a1 : State} (ha1 : Kept r0 a1) : KeptT r0 (execTodInMessage a0 a1) := by
  unfold execTodInMessage
  refine KeptT.ite ?_ ?_
  · refine KeptT.next ?_
    with_reducible assumption
  · refine KeptT.ite ?_ ?_
    · refine KeptT.next ?_
      refine State.todBad_kept ?_
      with_reducible assumption
    · refine KeptT.next ?_
      refine State.modTime_kept ?_ ?_
      · with_reducible assumption
      · exact fun _ h => h

theorem execPpsMissing_kept {r0 : State} {a0 : State} (ha0 : Kept r0 a0) : KeptT r0 (execPpsMissing a0) := by
  unfold execPpsMissing
  refine KeptT.ite ?_ ?_
  · refine KeptT.next ?_
    refine State.ppsLost_kept ?_
    with_reducible assumption
  · refine KeptT.next ?_
    with_reducible assumption

theorem execPpsOutEdge_kept {r0 : State} {a0 : State} (ha0 : Kept r0 a0) : KeptT r0 (execPpsOutEdge a0) := by
  unfold execPpsOutEdge
  refine KeptT.ite ?_ ?_
  · refine KeptT.next ?_
    refine State.modTime_kept ?_ ?_
    · with_reducible assumption
    · exact fun _ h => h
  · refine KeptT.next ?_
    with_reducible assumption

theorem execTodOutSend_kept {r0 : State} {a0 : State} (ha0 : Kept r0 a0) : KeptT r0 (execTodOutSend a0) := by
  unfold execTodOutSend
  extract_lets x0 x1 x2 x3
  refine KeptT.ite ?_ ?_
  · refine KeptT.next ?_
    with_reducible assumption
  · refine KeptT.next ?_
    refine State.emit_kept ?_
    with_reducible assumption

theorem State.updTrigger_kept {r0 : State} {a0 : State} {a1 : ℕ} {a2 : Trigger → Trigger} (ha0 : Kept r0 a0) : Kept r0 (State.updTrigger a0 a1 a2) := by
  unfold State.updTrigger
  refine State.modTime_kept ?_ ?_
  · with_reducible assumption
  · exact fun _ h => h

theorem execTriggerFire_kept {r0 : State} {a0 : Fin 16} {a1 : State} (ha1 : Kept r0 a1) : KeptT r0 (execTriggerFire a0 a1) := by
  unfold execTriggerFire
  extract_lets x0 x1
  have hx1 : Kept r0 x1 := by
    unfold x1
    refine State.countUnit_kept ?_
    refine State.setFlag_kept ?_
    refine State.updTrigger_kept ?_
    with_reducible assumption
  refine KeptT.ite ?_ ?_
  · refine KeptT.next ?_
    refine Kept.ite ?_ ?_
    · refine State.modFolio_kept ?_
      with_reducible assumption
    · refine Kept.ite ?_ ?_
      · refine State.modFolio_kept ?_
        with_reducible assumption
      · with_reducible assumption
  · refine KeptT.next ?_
    with_reducible assumption

theorem trigWrite_kept {r0 : State} {a0 : ℕ} {a1 : State} {a2 : ℕ} (ha1 : Kept r0 a1) : KeptE r0 (trigWrite a0 a1 a2) := by
  unfold trigWrite
  extract_lets x0 x1
  refine KeptE.ite ?_ ?_
  · refine KeptE.error
  · refine KeptE.ite ?_ ?_
    · refine KeptE.ok ?_
      refine State.updTrigger_kept ?_
      with_reducible assumption
    · refine KeptE.ite ?_ ?_
      · refine KeptE.error
      · refine KeptE.ok ?_
        refine State.updTrigger_kept ?_
        with_reducible assumption

theorem execTrigArm_kept {r0 : State} {a0 : Req} {a1 : Fin 16} {a2 : BitVec 32} {a3 : State} (ha3 : Kept r0 a3) : KeptT r0 (execTrigArm a0 a1 a2 a3) := by
  unfold execTrigArm
  refine KeptT.next ?_
  refine serveWrite_kept ?_ ?_
  · with_reducible assumption
  · intro a0 a1 h2
    refine trigWrite_kept ?_
    with_reducible assumption

theorem execTrigDisarm_kept {r0 : State} {a0 : Req} {a1 : Fin 16} {a2 : BitVec 24} {a3 : State} (ha3 : Kept r0 a3) : KeptT r0 (execTrigDisarm a0 a1 a2 a3) := by
  unfold execTrigDisarm
  refine KeptT.next ?_
  refine serveWrite_kept ?_ ?_
  · with_reducible assumption
  · intro a0 a1 h2
    refine trigWrite_kept ?_
    with_reducible assumption

/-! ### FolioCmds -/

theorem State.updBank_kept {r0 : State} {a0 : State} {a1 : ℕ} {a2 : Bank → Bank} (ha0 : Kept r0 a0) : Kept r0 (State.updBank a0 a1 a2) := by
  unfold State.updBank
  refine State.modFolio_kept ?_
  with_reducible assumption

theorem snapCommand_kept {r0 : State} {a0 : State} {a1 : ℕ} (ha0 : Kept r0 a0) : KeptE r0 (snapCommand a0 a1) := by
  unfold snapCommand
  extract_lets x0 x1 x2
  refine KeptE.ite ?_ ?_
  · refine KeptE.error
  · refine KeptE.ite ?_ ?_
    · refine KeptE.ite ?_ ?_
      · refine KeptE.error
      · refine KeptE.ite ?_ ?_
        · refine KeptE.error
        · refine KeptE.ok ?_
          refine State.modFolio_kept ?_
          with_reducible assumption
    · refine KeptE.ite ?_ ?_
      · refine KeptE.ite ?_ ?_
        · refine KeptE.ok ?_
          refine State.modFolio_kept ?_
          with_reducible assumption
        · refine KeptE.error
      · refine KeptE.ok ?_
        refine State.updBank_kept ?_
        with_reducible assumption

theorem snapWrite_kept {r0 : State} {a0 : State} {a1 : Req} {a2 : ℕ} {a3 : BitVec 24} (ha0 : Kept r0 a0) : Kept r0 (snapWrite a0 a1 a2 a3) := by
  unfold snapWrite
  refine serveWrite_kept ?_ ?_
  · with_reducible assumption
  · intro a0 a1 h2
    refine snapCommand_kept ?_
    with_reducible assumption

theorem execSnapArm_kept {r0 : State} {a0 : Req} {a1 : BitVec 24} {a2 : State} (ha2 : Kept r0 a2) : KeptT r0 (execSnapArm a0 a1 a2) := by
  unfold execSnapArm
  refine KeptT.next ?_
  refine snapWrite_kept ?_
  with_reducible assumption

theorem execSnapDisarm_kept {r0 : State} {a0 : Req} {a1 : BitVec 24} {a2 : State} (ha2 : Kept r0 a2) : KeptT r0 (execSnapDisarm a0 a1 a2) := by
  unfold execSnapDisarm
  refine KeptT.next ?_
  refine snapWrite_kept ?_
  with_reducible assumption

theorem execSnapHold_kept {r0 : State} {a0 : Req} {a1 : BitVec 24} {a2 : State} (ha2 : Kept r0 a2) : KeptT r0 (execSnapHold a0 a1 a2) := by
  unfold execSnapHold
  refine KeptT.next ?_
  refine snapWrite_kept ?_
  with_reducible assumption

theorem execSnapRelease_kept {r0 : State} {a0 : Req} {a1 : BitVec 24} {a2 : State} (ha2 : Kept r0 a2) : KeptT r0 (execSnapRelease a0 a1 a2) := by
  unfold execSnapRelease
  refine KeptT.next ?_
  refine snapWrite_kept ?_
  with_reducible assumption

theorem State.latchBank_kept {r0 : State} {a0 : State} {a1 : ℕ} (ha0 : Kept r0 a0) : Kept r0 (State.latchBank a0 a1) := by
  unfold State.latchBank
  refine Kept.ite ?_ ?_
  · refine State.setFlag_kept ?_
    with_reducible assumption
  · refine State.setFlag_kept ?_
    refine State.updBank_kept ?_
    with_reducible assumption

theorem execSnapStrobe_kept {r0 : State} {a0 : State} (ha0 : Kept r0 a0) : KeptT r0 (execSnapStrobe a0) := by
  unfold execSnapStrobe
  extract_lets x0 x1 x2 x3 x4
  have hx3 : Kept r0 x3 := by
    unfold x3
    refine State.latchBank_kept ?_
    with_reducible assumption
  refine KeptT.ite ?_ ?_
  · refine KeptT.next ?_
    with_reducible assumption
  · refine KeptT.ite ?_ ?_
    · refine KeptT.next ?_
      refine State.modFolio_kept ?_
      with_reducible assumption
    · refine KeptT.next ?_
      refine State.setParam_kept ?_
      refine State.setParam_kept ?_
      refine State.modFolio_kept ?_
      with_reducible assumption

theorem histWrite_kept {r0 : State} {a0 : Nat} {a1 : State} {a2 : Nat} (ha1 : Kept r0 a1) : KeptE r0 (histWrite a0 a1 a2) := by
  unfold histWrite
  dsimp only
  split
  · exact KeptE.error
  · refine KeptE.ok ?_
    generalize a2 - bits a2 49 38 * 2 ^ 38 - bits a2 21 16 * 2 ^ 16 = v
    have h : Kept r0 (a1.setParam 0x2453 (1 + a0) v) := State.setParam_kept ha1
    generalize a1.setParam 0x2453 (1 + a0) v = s at h
    exact ⟨h.1, h.2.1, fun g => let k := h.2.2 g; ⟨k.1, k.2.1, fun e he => k.2.2.1 e (List.mem_of_mem_filter he), k.2.2.2⟩⟩

theorem execHistCfgWrite_kept {r0 : State} {a0 : Req} {a1 : Fin 16} {a2 : BitVec 64} {a3 : State} (ha3 : Kept r0 a3) : KeptT r0 (execHistCfgWrite a0 a1 a2 a3) := by
  unfold execHistCfgWrite
  refine KeptT.next ?_
  refine serveWrite_kept ?_ ?_
  · with_reducible assumption
  · intro a0 a1 h2
    refine histWrite_kept ?_
    with_reducible assumption

theorem execSampleDrain_kept {r0 : State} {a0 : Fin 32} {a1 : State} (ha1 : Kept r0 a1) : KeptT r0 (execSampleDrain a0 a1) := by
  unfold execSampleDrain
  split
  · refine KeptT.next ?_
    with_reducible assumption
  · refine KeptT.next ?_
    refine State.storeSample_kept ?_
    refine State.updNib_kept ?_
    with_reducible assumption

/-! ### HostCmds -/

theorem State.ownerWrites_kept {r0 a0 : State} {a1 : Nat} {a2 : List (Nat × List Byte)} {a3 : List Nat} (ha0 : Kept r0 a0) :
    Kept r0 (a0.ownerWrites a1 a2 a3) := by
  unfold State.ownerWrites
  refine Kept.ite ha0 (State.modMem_kept ha0 (fun m h => ?_))
  have k := MemSt.wf_iff.1 h
  dsimp only
  split
  · exact MemSt.wf_iff.2 ⟨k.1, writeBytes_fold_wf k.2.1, k.2.2⟩
  · exact MemSt.wf_iff.2 ⟨k.1, k.2.1, writeBytes_fold_wf k.2.2⟩

theorem execSqTailDoorbell_kept {r0 : State} {a0 : Fin 130} {a1 : ℕ} {a2 : BitVec 32} {a3 : List (ℕ × List Byte)} {a4 : List ℕ} {a5 : State} (ha5 : Kept r0 a5) : KeptT r0 (execSqTailDoorbell a0 a1 a2 a3 a4 a5) := by
  unfold execSqTailDoorbell
  extract_lets x0 x1
  have hx0 : Kept r0 x0 := by
    unfold x0
    refine State.ownerWrites_kept ?_
    with_reducible assumption
  split
  · refine KeptT.next ?_
    with_reducible assumption
  · refine KeptT.ite ?_ ?_
    · refine KeptT.next ?_
      with_reducible assumption
    · refine KeptT.ite ?_ ?_
      · refine KeptT.next ?_
        refine State.haltRing_kept ?_
        with_reducible assumption
      · refine KeptT.next ?_
        refine State.updRing_kept ?_
        with_reducible assumption

theorem execCqHeadDoorbell_kept {r0 : State} {a0 : Fin 130} {a1 : ℕ} {a2 : BitVec 32} {a3 : State} (ha3 : Kept r0 a3) : KeptT r0 (execCqHeadDoorbell a0 a1 a2 a3) := by
  unfold execCqHeadDoorbell
  extract_lets x0
  split
  · refine KeptT.next ?_
    with_reducible assumption
  · extract_lets x1 x2
    refine KeptT.ite ?_ ?_
    · refine KeptT.next ?_
      with_reducible assumption
    · refine KeptT.ite ?_ ?_
      · refine KeptT.next ?_
        refine State.haltRing_kept ?_
        with_reducible assumption
      · refine KeptT.next ?_
        refine State.reviewRing_kept ?_
        refine State.updRing_kept ?_
        with_reducible assumption

theorem execRingEnable_kept {r0 : State} {a0 : Fin 130} {a1 : ℕ} {a2 : BitVec 32} {a3 : State} (ha3 : Kept r0 a3) : KeptT r0 (execRingEnable a0 a1 a2 a3) := by
  unfold execRingEnable
  extract_lets x0 x1
  split
  · refine KeptT.next ?_
    with_reducible assumption
  · extract_lets x2 x3
    have hx3 : Kept r0 x3 := by
      unfold x3
      refine State.updRing_kept ?_
      with_reducible assumption
    refine KeptT.ite ?_ ?_
    · refine KeptT.next ?_
      refine Kept.ite ?_ ?_
      · with_reducible assumption
      · refine State.hostEvent_kept ?_
        with_reducible assumption
    · refine KeptT.ite ?_ ?_
      · refine KeptT.next ?_
        refine State.hostEvent_kept ?_
        with_reducible assumption
      · refine KeptT.next ?_
        refine State.updRing_kept ?_
        with_reducible assumption

theorem execRingDisable_kept {r0 : State} {a0 : Fin 130} {a1 : ℕ} {a2 : BitVec 32} {a3 : State} (ha3 : Kept r0 a3) : KeptT r0 (execRingDisable a0 a1 a2 a3) := by
  unfold execRingDisable
  extract_lets x0 x1
  split
  · refine KeptT.next ?_
    with_reducible assumption
  · extract_lets x2 x3
    have hx3 : Kept r0 x3 := by
      unfold x3
      refine Kept.ite ?_ ?_
      · with_reducible assumption
      · refine State.hostEvent_kept ?_
        with_reducible assumption
    refine KeptT.ite ?_ ?_
    · refine KeptT.next ?_
      refine State.updRing_kept ?_
      with_reducible assumption
    · refine KeptT.ite ?_ ?_
      · refine KeptT.next ?_
        refine State.hostEvent_kept ?_
        with_reducible assumption
      · refine KeptT.next ?_
        refine State.updRing_kept ?_
        refine State.dropHold_kept ?_
        with_reducible assumption

theorem execVfAssignWrite_kept {r0 : State} {a0 : Bool} {a1 : Fin 64} {a2 : BitVec 64} {a3 : State} (ha3 : Kept r0 a3) : KeptT r0 (execVfAssignWrite a0 a1 a2 a3) := by
  unfold execVfAssignWrite
  extract_lets x0
  refine KeptT.ite ?_ ?_
  · refine KeptT.next ?_
    with_reducible assumption
  · refine KeptT.ite ?_ ?_
    · refine KeptT.next ?_
      refine State.updPort_kept ?_
      with_reducible assumption
    · refine KeptT.next ?_
      refine State.hostEvent_kept ?_
      with_reducible assumption

theorem execIntAck_kept {r0 : State} {a0 : Fin 130} {a1 : BitVec 32} {a2 : State} (ha2 : Kept r0 a2) : KeptT r0 (execIntAck a0 a1 a2) := by
  unfold execIntAck
  extract_lets x0
  refine KeptT.ite ?_ ?_
  · refine KeptT.next ?_
    with_reducible assumption
  · refine KeptT.next ?_
    refine State.reviewVector_kept ?_
    refine State.updFunc_kept ?_
    with_reducible assumption

theorem execMsixUnmask_kept {r0 : State} {a0 : Fin 130} {a1 : Fin 513} {a2 : State} (ha2 : Kept r0 a2) : KeptT r0 (execMsixUnmask a0 a1 a2) := by
  unfold execMsixUnmask
  refine KeptT.ite ?_ ?_
  · refine KeptT.next ?_
    with_reducible assumption
  · refine KeptT.next ?_
    refine State.reviewVector_kept ?_
    refine State.updFunc_kept ?_
    with_reducible assumption

theorem execFunctionLevelReset_kept {r0 : State} {a0 : Fin 128} {a1 : State} (ha1 : Kept r0 a1) : KeptT r0 (execFunctionLevelReset a0 a1) := by
  unfold execFunctionLevelReset
  refine KeptT.ite ?_ ?_
  · refine KeptT.next ?_
    refine State.resetPf_kept ?_
    with_reducible assumption
  · refine KeptT.ite ?_ ?_
    · refine KeptT.next ?_
      refine State.resetFunction_kept ?_
      with_reducible assumption
    · refine KeptT.next ?_
      with_reducible assumption

theorem execPcieLinkDown_kept {r0 : State} {a0 : Bool} {a1 : State} (ha1 : Kept r0 a1) : KeptT r0 (execPcieLinkDown a0 a1) := by
  unfold execPcieLinkDown
  refine KeptT.ite ?_ ?_
  · refine KeptT.next ?_
    refine State.updPort_kept ?_
    refine State.portLinkDown_kept ?_
    with_reducible assumption
  · refine KeptT.next ?_
    with_reducible assumption

/-! ### Sched -/

theorem schedWrite_kept {r0 : State} {a0 : State} {a1 : Req} {a2 : ℕ} {a3 : BitVec 24} (ha0 : Kept r0 a0) : Kept r0 (schedWrite a0 a1 a2 a3) := by
  unfold schedWrite
  refine serveWrite_kept ?_ ?_
  · with_reducible assumption
  · intro a0 a1 h2
    refine schedCommand_kept ?_
    with_reducible assumption

theorem execSchedBeginLoad_kept {r0 : State} {a0 : Req} {a1 : BitVec 24} {a2 : State} (ha2 : Kept r0 a2) : KeptT r0 (execSchedBeginLoad a0 a1 a2) := by
  unfold execSchedBeginLoad
  refine KeptT.next ?_
  refine schedWrite_kept ?_
  with_reducible assumption

theorem execSchedValidate_kept {r0 : State} {a0 : Req} {a1 : BitVec 24} {a2 : State} (ha2 : Kept r0 a2) : KeptT r0 (execSchedValidate a0 a1 a2) := by
  unfold execSchedValidate
  refine KeptT.next ?_
  refine schedWrite_kept ?_
  with_reducible assumption

theorem execSchedValidateDone_kept {r0 : State} {a0 : State} (ha0 : Kept r0 a0) : KeptT r0 (execSchedValidateDone a0) := by
  unfold execSchedValidateDone
  refine KeptT.next ?_
  refine Kept.ite ?_ ?_
  · refine State.validateShadow_kept ?_
    with_reducible assumption
  · with_reducible assumption

theorem execSchedArm_kept {r0 : State} {a0 : Req} {a1 : BitVec 24} {a2 : State} (ha2 : Kept r0 a2) : KeptT r0 (execSchedArm a0 a1 a2) := by
  unfold execSchedArm
  refine KeptT.next ?_
  refine schedWrite_kept ?_
  with_reducible assumption

theorem execSchedDisarm_kept {r0 : State} {a0 : Req} {a1 : BitVec 24} {a2 : State} (ha2 : Kept r0 a2) : KeptT r0 (execSchedDisarm a0 a1 a2) := by
  unfold execSchedDisarm
  refine KeptT.next ?_
  refine schedWrite_kept ?_
  with_reducible assumption

theorem execSchedDeactivate_kept {r0 : State} {a0 : Req} {a1 : BitVec 24} {a2 : State} (ha2 : Kept r0 a2) : KeptT r0 (execSchedDeactivate a0 a1 a2) := by
  unfold execSchedDeactivate
  refine KeptT.next ?_
  refine schedWrite_kept ?_
  with_reducible assumption

theorem execSchedLoadBoot_kept {r0 : State} {a0 : Req} {a1 : BitVec 24} {a2 : State} (ha2 : Kept r0 a2) : KeptT r0 (execSchedLoadBoot a0 a1 a2) := by
  unfold execSchedLoadBoot
  refine KeptT.next ?_
  refine schedWrite_kept ?_
  with_reducible assumption

theorem execSchedStoreBoot_kept {r0 : State} {a0 : Req} {a1 : BitVec 24} {a2 : State} (ha2 : Kept r0 a2) : KeptT r0 (execSchedStoreBoot a0 a1 a2) := by
  unfold execSchedStoreBoot
  refine KeptT.next ?_
  refine schedWrite_kept ?_
  with_reducible assumption

theorem execSwapReadinessCheck_kept {r0 : State} {a0 : State} (ha0 : Kept r0 a0) : KeptT r0 (execSwapReadinessCheck a0) := by
  unfold execSwapReadinessCheck
  refine KeptT.ite ?_ ?_
  · refine KeptT.next ?_
    refine State.modDuctus_kept ?_
    with_reducible assumption
  · refine KeptT.next ?_
    with_reducible assumption

theorem execSchedSwap_kept {r0 : State} {a0 : State} (ha0 : Kept r0 a0) : KeptT r0 (execSchedSwap a0) := by
  unfold execSchedSwap
  split
  · refine KeptT.ite ?_ ?_
    · refine KeptT.ite ?_ ?_
      · refine KeptT.next ?_
        refine State.countDuctus_kept ?_
        refine State.ductusFlag_kept ?_
        refine State.activate_kept ?_
        with_reducible assumption
      · refine KeptT.next ?_
        refine State.missSwap_kept ?_
        with_reducible assumption
    · refine KeptT.next ?_
      with_reducible assumption
  · refine KeptT.next ?_
    with_reducible assumption

theorem execSchedJoin_kept {r0 : State} {a0 : State} (ha0 : Kept r0 a0) : KeptT r0 (execSchedJoin a0) := by
  unfold execSchedJoin
  refine KeptT.ite ?_ ?_
  · refine KeptT.next ?_
    with_reducible assumption
  · split
    · refine KeptT.ite ?_ ?_
      · refine KeptT.next ?_
        refine State.countDuctus_kept ?_
        refine State.ductusFlag_kept ?_
        refine State.ductusFlag_kept ?_
        refine State.activate_kept ?_
        with_reducible assumption
      · refine KeptT.next ?_
        with_reducible assumption
    · refine KeptT.next ?_
      with_reducible assumption

theorem execSyncLoss_kept {r0 : State} {a0 : State} (ha0 : Kept r0 a0) : KeptT r0 (execSyncLoss a0) := by
  unfold execSyncLoss
  extract_lets x0
  have hx0 : Kept r0 x0 := by
    unfold x0
    refine State.countDuctus_kept ?_
    refine State.ductusFlag_kept ?_
    refine State.ductusState_kept ?_
    with_reducible assumption
  refine KeptT.ite ?_ ?_
  · refine KeptT.next ?_
    refine State.modDuctus_kept ?_
    refine State.sendSched_kept ?_
    with_reducible assumption
  · refine KeptT.next ?_
    with_reducible assumption

theorem execSchedActiveRepeat_kept {r0 : State} {a0 : State} (ha0 : Kept r0 a0) : KeptT r0 (execSchedActiveRepeat a0) := by
  unfold execSchedActiveRepeat
  refine KeptT.ite ?_ ?_
  · refine KeptT.next ?_
    refine State.sendSched_kept ?_
    with_reducible assumption
  · refine KeptT.next ?_
    with_reducible assumption

theorem onSched_kept {r0 : State} {a0 : State} {a1 : ℕ} {a2 : List Byte} (ha0 : Kept r0 a0) : Kept r0 (onSched a0 a1 a2) := by
  unfold onSched
  extract_lets x0 x1
  have hx1 : Kept r0 x1 := by
    unfold x1
    refine State.modDuctus_kept ?_
    with_reducible assumption
  refine Kept.ite ?_ ?_
  · refine State.setFlag_kept ?_
    refine State.countFibre_kept ?_
    with_reducible assumption
  · refine Kept.ite ?_ ?_
    · refine State.countFibre_kept ?_
      with_reducible assumption
    · refine Kept.ite ?_ ?_
      · refine State.ductusFlag_kept ?_
        with_reducible assumption
      · with_reducible assumption

theorem execBucketRefresh_kept {r0 : State} {a0 : State} (ha0 : Kept r0 a0) : KeptT r0 (execBucketRefresh a0) := by
  unfold execBucketRefresh
  refine KeptT.next ?_
  refine State.refreshDue_kept ?_
  with_reducible assumption

theorem execShaperCfgWrite_kept {r0 : State} {a0 : Req} {a1 : Fin 4096} {a2 : BitVec 64} {a3 : State} (ha3 : Kept r0 a3) : KeptT r0 (execShaperCfgWrite a0 a1 a2 a3) := by
  unfold execShaperCfgWrite
  refine KeptT.next ?_
  refine serveWrite_kept ?_ ?_
  · with_reducible assumption
  · intro a0 a1 h2
    refine shaperWrite_kept ?_
    with_reducible assumption

theorem execPolicerCfgWrite_kept {r0 : State} {a0 : Req} {a1 : Fin 4096} {a2 : BitVec 64} {a3 : State} (ha3 : Kept r0 a3) : KeptT r0 (execPolicerCfgWrite a0 a1 a2 a3) := by
  unfold execPolicerCfgWrite
  refine KeptT.next ?_
  refine serveWrite_kept ?_ ?_
  · with_reducible assumption
  · intro a0 a1 h2
    refine policerWrite_kept ?_
    with_reducible assumption

theorem execWindowRequest_kept {r0 : State} {a0 : WindowFor} {a1 : State} (ha1 : Kept r0 a1) : KeptT r0 (execWindowRequest a0 a1) := by
  unfold execWindowRequest
  refine KeptT.next ?_
  refine State.proofNext_kept ?_
  refine State.decideWindow_kept ?_
  with_reducible assumption

end Sys2Proof.Machine
end

