-- ==== Sys2Proof/Laws/Kept10.lean ====
section
/-!
SUPPORT. What the operations and commands of these files keep: FaultCmds, ObjWrite, Boot, ObjRead.
-/

set_option Elab.async false

namespace Sys2Proof.Machine

/-! ### FaultCmds -/

theorem execHeartbeatTick_kept {r0 : State} {a0 : State} (ha0 : Kept r0 a0) : KeptT r0 (execHeartbeatTick a0) := by
  unfold execHeartbeatTick
  refine KeptT.ite ?_ ?_
  · refine KeptT.next ?_
    refine State.modFaults_kept ?_ ?_
    · with_reducible assumption
    · exact fun _ h => h
  · refine KeptT.next ?_
    with_reducible assumption

theorem State.claimActs_kept {r0 : State} {a0 : State} {a1 : Bool} (ha0 : Kept r0 a0) : Kept r0 (State.claimActs a0 a1) := by
  unfold State.claimActs
  refine Kept.ite ?_ ?_
  · refine State.warmRequest_kept ?_
    with_reducible assumption
  · refine State.startDump_kept ?_
    refine State.modFaults_kept ?_ ?_
    · with_reducible assumption
    · exact fun _ h => h

theorem execRecoverWrite_kept {r0 : State} {a0 : Fin 130} {a1 : BitVec 32} {a2 : State} (ha2 : Kept r0 a2) : KeptT r0 (execRecoverWrite a0 a1 a2) := by
  unfold execRecoverWrite
  extract_lets x0 x1 x2 x3
  have hx2 : Kept r0 x2 := by
    unfold x2
    refine State.setFlag_kept ?_
    with_reducible assumption
  have hx3 : Kept r0 x3 := by
    unfold x3
    refine State.modFaults_kept ?_ ?_
    · with_reducible assumption
    · exact fun _ h => h
  refine KeptT.ite ?_ ?_
  · refine KeptT.next ?_
    with_reducible assumption
  · refine KeptT.ite ?_ ?_
    · refine KeptT.next ?_
      refine State.modFaults_kept ?_ ?_
      · with_reducible assumption
      · exact fun _ h => h
    · refine KeptT.ite ?_ ?_
      · refine KeptT.next ?_
        refine State.claimActs_kept ?_
        with_reducible assumption
      · refine KeptT.ite ?_ ?_
        · refine KeptT.next ?_
          refine State.warmRequest_kept ?_
          with_reducible assumption
        · refine KeptT.next ?_
          refine State.modFaults_kept ?_ ?_
          · with_reducible assumption
          · exact fun _ h => h

theorem execClaimWindowExpiry_kept {r0 : State} {a0 : State} (ha0 : Kept r0 a0) : KeptT r0 (execClaimWindowExpiry a0) := by
  unfold execClaimWindowExpiry
  split
  · refine KeptT.next ?_
    with_reducible assumption
  · refine KeptT.next ?_
    refine Kept.ite ?_ ?_
    · refine State.claimActs_kept ?_
      refine State.modFaults_kept ?_ ?_
      · with_reducible assumption
      · exact fun _ h => h
    · with_reducible assumption

theorem execUnitFault_kept {r0 : State} {a0 : BitVec 16} {a1 : Fin 12} {a2 : BitVec 64} {a3 : State} (ha3 : Kept r0 a3) : KeptT r0 (execUnitFault a0 a1 a2 a3) := by
  unfold execUnitFault
  refine KeptT.ite ?_ ?_
  · refine KeptT.next ?_
    refine State.unitFault_kept ?_
    with_reducible assumption
  · refine KeptT.next ?_
    with_reducible assumption

theorem blotterCommand_kept {r0 : State} {a0 : State} {a1 : ℕ} (ha0 : Kept r0 a0) : KeptE r0 (blotterCommand a0 a1) := by
  unfold blotterCommand
  refine KeptE.ite ?_ ?_
  · refine KeptE.ok ?_
    refine State.startDump_kept ?_
    with_reducible assumption
  · refine KeptE.ite ?_ ?_
    · refine KeptE.ok ?_
      refine State.modFaults_kept ?_ ?_
      · with_reducible assumption
      · exact fun _ h => h
    · refine KeptE.error

theorem execBlotterDumpNow_kept {r0 : State} {a0 : Req} {a1 : BitVec 24} {a2 : State} (ha2 : Kept r0 a2) : KeptT r0 (execBlotterDumpNow a0 a1 a2) := by
  unfold execBlotterDumpNow
  refine KeptT.next ?_
  refine serveWrite_kept ?_ ?_
  · with_reducible assumption
  · intro a0 a1 h2
    refine blotterCommand_kept ?_
    with_reducible assumption

theorem execBlotterSelect_kept {r0 : State} {a0 : Req} {a1 : BitVec 24} {a2 : State} (ha2 : Kept r0 a2) : KeptT r0 (execBlotterSelect a0 a1 a2) := by
  unfold execBlotterSelect
  refine KeptT.next ?_
  refine serveWrite_kept ?_ ?_
  · with_reducible assumption
  · intro a0 a1 h2
    refine blotterCommand_kept ?_
    with_reducible assumption

theorem State.writeDump_kept {r0 : State} {a0 : State} {a1 : ℕ} {a2 : List Byte} (ha0 : Kept r0 a0) : Kept r0 (State.writeDump a0 a1 a2) := by
  unfold State.writeDump
  refine Kept.ite ?_ ?_
  · with_reducible assumption
  · refine State.forEach_kept ?_ ?_
    · with_reducible assumption
    · intro a0 a1 h2
      refine State.writeMem_kept ?_
      with_reducible assumption

theorem execBlotterDumpEnd_kept {r0 : State} {a0 : List ℕ} {a1 : List ℕ} {a2 : List ℕ} {a3 : State} (ha3 : Kept r0 a3) : KeptT r0 (execBlotterDumpEnd a0 a1 a2 a3) := by
  unfold execBlotterDumpEnd
  extract_lets x0 x1 x2 x3
  have hx2 : Kept r0 x2 := by
    unfold x2
    exact ha3
  split
  · refine KeptT.next ?_
    with_reducible assumption
  · extract_lets x4 x5 x6 x7 x8 x9 x10
    have hx5 : Kept r0 x5 := by
      unfold x5
      refine State.writeDump_kept ?_
      with_reducible assumption
    have hx6 : Kept r0 x6 := by
      unfold x6
      refine State.forEach_kept ?_ ?_
      · with_reducible assumption
      · intro a11 a12 h13
        refine State.setFlag_kept ?_
        with_reducible assumption
    have hx7 : Kept r0 x7 := by
      unfold x7
      refine State.forEach_kept ?_ ?_
      · with_reducible assumption
      · intro a14 a15 h16
        refine State.unitFault_kept ?_
        with_reducible assumption
    have hx10 : Kept r0 x10 := by
      unfold x10
      refine State.modFaults_kept ?_ ?_
      · with_reducible assumption
      · exact fun _ h => h
    refine KeptT.next ?_
    refine Kept.ite ?_ ?_
    · refine State.warmRequest_kept ?_
      with_reducible assumption
    · with_reducible assumption

theorem execProofPeriodStart_kept {r0 : State} {a0 : State} (ha0 : Kept r0 a0) : KeptT r0 (execProofPeriodStart a0) := by
  unfold execProofPeriodStart
  extract_lets x0
  refine KeptT.ite ?_ ?_
  · refine KeptT.next ?_
    with_reducible assumption
  · refine KeptT.next ?_
    refine State.askProof_kept ?_
    refine State.modFaults_kept ?_ ?_
    · with_reducible assumption
    · exact fun _ h => h

theorem proofCommand_kept {r0 : State} {a0 : DopSrc} {a1 : State} {a2 : ℕ} (ha1 : Kept r0 a1) : KeptE r0 (proofCommand a0 a1 a2) := by
  unfold proofCommand
  extract_lets x0
  refine KeptE.ite ?_ ?_
  · refine KeptE.error
  · refine KeptE.ite ?_ ?_
    · refine KeptE.error
    · refine KeptE.ite ?_ ?_
      · refine KeptE.ok ?_
        refine State.askProof_kept ?_
        with_reducible assumption
      · refine KeptE.ite ?_ ?_
        · refine KeptE.ite ?_ ?_
          · refine KeptE.ok ?_
            refine State.askProof_kept ?_
            with_reducible assumption
          · refine KeptE.error
        · refine KeptE.error

theorem execProofTestNow_kept {r0 : State} {a0 : Req} {a1 : BitVec 24} {a2 : State} (ha2 : Kept r0 a2) : KeptT r0 (execProofTestNow a0 a1 a2) := by
  unfold execProofTestNow
  refine KeptT.next ?_
  refine serveWrite_kept ?_ ?_
  · with_reducible assumption
  · intro a0 a1 h2
    refine proofCommand_kept ?_
    with_reducible assumption

theorem execProofWindowOpen_kept {r0 : State} {a0 : State} (ha0 : Kept r0 a0) : KeptT r0 (execProofWindowOpen a0) := by
  unfold execProofWindowOpen
  extract_lets x0
  have hx0 : Kept r0 x0 := by
    unfold x0
    refine State.modFaults_kept ?_ ?_
    · with_reducible assumption
    · exact fun _ h => h
  split
  · extract_lets x1 x2 x3
    have hx2 : Kept r0 x2 := by
      unfold x2
      refine Kept.ite ?_ ?_
      · with_reducible assumption
      · refine State.updUnit_kept ?_
        with_reducible assumption
    have hx3 : Kept r0 x3 := by
      unfold x3
      refine State.updNib_kept ?_
      with_reducible assumption
    refine KeptT.ite ?_ ?_
    · refine KeptT.next ?_
      with_reducible assumption
    · refine KeptT.ite ?_ ?_
      · refine KeptT.next ?_
        split
        · refine KeptQ.out (p := ?_) ?_
          refine KeptOQ.elim ?_ (by with_reducible assumption)
          refine State.getBlocks_kept ?_
          with_reducible assumption
        · with_reducible assumption
      · refine KeptT.next ?_
        refine State.modCore_kept ?_
        with_reducible assumption
  · refine KeptT.next ?_
    with_reducible assumption

theorem State.proofPassed_kept {r0 : State} {a0 : State} {a1 : ℕ} (ha0 : Kept r0 a0) : Kept r0 (State.proofPassed a0 a1) := by
  unfold State.proofPassed
  extract_lets x0 x1
  have hx0 : Kept r0 x0 := by
    unfold x0
    refine State.updUnit_kept ?_
    with_reducible assumption
  refine Kept.ite ?_ ?_
  · refine State.modCore_kept ?_
    with_reducible assumption
  · with_reducible assumption

theorem State.proofFailed_kept {r0 : State} {a0 : State} {a1 : ℕ} (ha0 : Kept r0 a0) : Kept r0 (State.proofFailed a0 a1) := by
  unfold State.proofFailed
  extract_lets x0 x1
  have hx0 : Kept r0 x0 := by
    unfold x0
    refine State.logEvent_kept ?_
    refine State.setFlag_kept ?_
    with_reducible assumption
  have hx1 : Kept r0 x1 := by
    unfold x1
    refine State.reviewHealth_kept ?_
    refine State.updUnit_kept ?_
    with_reducible assumption
  refine Kept.ite ?_ ?_
  · refine State.unitFault_kept ?_
    with_reducible assumption
  · with_reducible assumption

theorem execProofResult_kept {r0 : State} {a0 : Bool} {a1 : State} (ha1 : Kept r0 a1) : KeptT r0 (execProofResult a0 a1) := by
  unfold execProofResult
  split
  · refine KeptT.next ?_
    with_reducible assumption
  · extract_lets x0 x1
    have hx0 : Kept r0 x0 := by
      unfold x0
      refine Kept.ite ?_ ?_
      · refine State.proofPassed_kept ?_
        with_reducible assumption
      · refine State.proofFailed_kept ?_
        with_reducible assumption
    have hx1 : Kept r0 x1 := by
      unfold x1
      refine Kept.ite ?_ ?_
      · refine State.modFaults_kept ?_ ?_
        · with_reducible assumption
        · exact fun _ h => h
      · refine State.modFaults_kept ?_ ?_
        · with_reducible assumption
        · exact fun _ h => h
    refine KeptT.ite ?_ ?_
    · refine KeptT.next ?_
      with_reducible assumption
    · refine KeptT.next ?_
      refine Kept.ite ?_ ?_
      · refine State.proofNext_kept ?_
        with_reducible assumption
      · refine State.proofNext_kept ?_
        refine State.modFaults_kept ?_ ?_
        · with_reducible assumption
        · exact fun _ h => h

theorem execProofWindowEnd_kept {r0 : State} {a0 : State} (ha0 : Kept r0 a0) : KeptT r0 (execProofWindowEnd a0) := by
  unfold execProofWindowEnd
  split
  · refine KeptT.next ?_
    with_reducible assumption
  · extract_lets x0 x1
    have hx0 : Kept r0 x0 := by
      unfold x0
      refine State.updNib_kept ?_
      with_reducible assumption
    have hx1 : Kept r0 x1 := by
      unfold x1
      refine State.updUnit_kept ?_
      with_reducible assumption
    refine KeptT.ite ?_ ?_
    · refine KeptT.next ?_
      with_reducible assumption
    · refine KeptT.next ?_
      refine State.proofNext_kept ?_
      refine State.modFaults_kept ?_ ?_
      · with_reducible assumption
      · exact fun _ h => h

theorem execFaultHistoryWrite_kept {r0 : State} {a0 : State} (ha0 : Kept r0 a0) : KeptT r0 (execFaultHistoryWrite a0) := by
  unfold execFaultHistoryWrite
  refine KeptT.ite ?_ ?_
  · refine KeptT.next ?_
    refine State.modFaults_kept ?_ ?_
    · refine State.writeHistory_kept ?_
      with_reducible assumption
    · exact fun _ h => h
  · refine KeptT.next ?_
    with_reducible assumption

theorem execHealthDecay_kept {r0 : State} {a0 : State} (ha0 : Kept r0 a0) : KeptT r0 (execHealthDecay a0) := by
  unfold execHealthDecay
  extract_lets x0 x1
  have hx1 : Kept r0 x1 := by
    unfold x1
    refine State.modFaults_kept ?_ ?_
    · with_reducible assumption
    · exact fun _ h => h
  refine KeptT.ite ?_ ?_
  · refine KeptT.next ?_
    with_reducible assumption
  · refine KeptT.next ?_
    refine State.forEach_kept ?_ ?_
    · with_reducible assumption
    · intro a2 a3 h4
      refine State.reviewHealth_kept ?_
      refine State.updUnit_kept ?_
      with_reducible assumption

theorem State.digestMissed_kept {r0 : State} {a0 : State} (ha0 : Kept r0 a0) : Kept r0 (State.digestMissed a0) := by
  unfold State.digestMissed
  refine State.modFaults_kept ?_ ?_
  · with_reducible assumption
  · exact fun _ h => h

theorem onDigest_kept {r0 : State} {a0 : State} {a1 : ℕ} {a2 : List Byte} (ha0 : Kept r0 a0) : Kept r0 (onDigest a0 a1 a2) := by
  unfold onDigest
  extract_lets x0 x1 x2
  refine Kept.ite ?_ ?_
  · refine State.setFlag_kept ?_
    refine State.countFibre_kept ?_
    with_reducible assumption
  · refine Kept.ite ?_ ?_
    · with_reducible assumption
    · refine Kept.ite ?_ ?_
      · refine State.digestMissed_kept ?_
        with_reducible assumption
      · split
        · refine State.digestPair_kept ?_
          refine State.modFaults_kept ?_ ?_
          · with_reducible assumption
          · exact fun _ h => h
        · refine Kept.ite ?_ ?_
          · refine State.modFaults_kept ?_ ?_
            · with_reducible assumption
            · exact fun _ h => h
          · refine State.digestMissed_kept ?_
            with_reducible assumption

theorem execDigestTimeout_kept {r0 : State} {a0 : Bool} {a1 : BitVec 24} {a2 : BitVec 32} {a3 : State} (ha3 : Kept r0 a3) :
    KeptT r0 (execDigestTimeout a0 a1 a2 a3) := by
  unfold execDigestTimeout
  dsimp only
  split
  · exact KeptT.next ha3
  · refine KeptT.ite (KeptT.next ha3) ?_
    exact KeptT.next (State.digestMissed_kept (State.modFaults_kept ha3 (fun _ h => by split <;> exact h)))

/-! ### ObjWrite -/

theorem plainWrite_kept {r0 : State} {a0 : ℕ} {a1 : ℕ} {a2 : State} {a3 : ℕ} (ha2 : Kept r0 a2) : KeptE r0 (plainWrite a0 a1 a2 a3) := by
  unfold plainWrite
  split
  · refine KeptE.error
  · refine KeptE.ite ?_ ?_
    · refine KeptE.error
    · refine KeptE.ok ?_
      refine State.setParam_kept ?_
      with_reducible assumption

theorem ruleWrite_kept {r0 : State} {a0 : ℕ} {a1 : ℕ} {a2 : Bool} {a3 : State} {a4 : ℕ} (ha3 : Kept r0 a3) : KeptE r0 (ruleWrite a0 a1 a2 a3 a4) := by
  unfold ruleWrite
  refine KeptE.ite ?_ ?_
  · refine plainWrite_kept ?_
    with_reducible assumption
  · refine KeptE.error

theorem threshWrite_kept {r0 : State} {a0 : ℕ} {a1 : State} {a2 : ℕ} (ha1 : Kept r0 a1) : KeptE r0 (threshWrite a0 a1 a2) := by
  unfold threshWrite
  extract_lets x0 x1
  refine ruleWrite_kept ?_
  with_reducible assumption

theorem loopWrite_kept {r0 : State} {a0 : ℕ} {a1 : State} {a2 : ℕ} (ha1 : Kept r0 a1) : KeptE r0 (loopWrite a0 a1 a2) := by
  unfold loopWrite
  split
  · refine KeptE.error
  · refine KeptE.ok ?_
    refine Kept.ite ?_ ?_
    · refine stopTrials_kept ?_
      refine KeptE.elim ?_ (by with_reducible assumption)
      refine plainWrite_kept ?_
      with_reducible assumption
    · refine Kept.ite ?_ ?_
      · refine followPolicy_kept ?_
        refine KeptE.elim ?_ (by with_reducible assumption)
        refine plainWrite_kept ?_
        with_reducible assumption
      · refine KeptE.elim ?_ (by with_reducible assumption)
        refine plainWrite_kept ?_
        with_reducible assumption

theorem creditWrite_kept {r0 : State} {a0 : ℕ} {a1 : State} {a2 : ℕ} (ha1 : Kept r0 a1) : KeptE r0 (creditWrite a0 a1 a2) := by
  unfold creditWrite
  extract_lets x0
  refine KeptE.ite ?_ ?_
  · refine KeptE.ite ?_ ?_
    · refine KeptE.ok ?_
      with_reducible assumption
    · refine KeptE.error
  · refine KeptE.ite ?_ ?_
    · refine KeptE.error
    · refine KeptE.ok ?_
      refine State.setParam_kept ?_
      with_reducible assumption

theorem stageWrite_kept {r0 : State} {a0 : ℕ} {a1 : State} {a2 : ℕ} (ha1 : Kept r0 a1) : KeptE r0 (stageWrite a0 a1 a2) := by
  unfold stageWrite
  refine KeptE.ok ?_
  refine State.modTables_kept ?_
  with_reducible assumption

theorem seedWrite_kept {r0 : State} {a0 : State} {a1 : ℕ} (ha0 : Kept r0 a0) : KeptE r0 (seedWrite a0 a1) := by
  unfold seedWrite
  refine KeptE.ite ?_ ?_
  · refine plainWrite_kept ?_
    with_reducible assumption
  · refine KeptE.error

theorem portL2Write_kept {r0 : State} {a0 : ℕ} {a1 : State} {a2 : ℕ} (ha1 : Kept r0 a1) : KeptE r0 (portL2Write a0 a1 a2) := by
  unfold portL2Write
  extract_lets x0 x1
  have hx1 : Kept r0 x1 := by
    unfold x1
    refine State.setParam_kept ?_
    with_reducible assumption
  refine KeptE.ite ?_ ?_
  · refine KeptE.error
  · refine KeptE.ok ?_
    refine Kept.ite ?_ ?_
    · refine State.resetPolicers_kept ?_
      with_reducible assumption
    · with_reducible assumption

theorem bufWrite_kept {r0 : State} {a0 : ℕ} {a1 : State} {a2 : ℕ} (ha1 : Kept r0 a1) : KeptE r0 (bufWrite a0 a1 a2) := by
  unfold bufWrite
  extract_lets x0 x1 x2
  refine KeptE.ite ?_ ?_
  · refine KeptE.error
  · refine KeptE.ok ?_
    refine State.setParam_kept ?_
    with_reducible assumption

theorem partWrite_kept {r0 : State} {a0 : ℕ} {a1 : State} {a2 : ℕ} (ha1 : Kept r0 a1) : KeptE r0 (partWrite a0 a1 a2) := by
  unfold partWrite
  extract_lets x0
  refine KeptE.ite ?_ ?_
  · refine KeptE.error
  · refine KeptE.ite ?_ ?_
    · refine KeptE.error
    · refine KeptE.ite ?_ ?_
      · refine KeptE.error
      · refine configWrite_kept ?_
        with_reducible assumption

theorem asymWrite_kept {r0 : State} {a0 : ℕ} {a1 : State} {a2 : ℕ} (ha1 : Kept r0 a1) : KeptE r0 (asymWrite a0 a1 a2) := by
  unfold asymWrite
  refine KeptE.ite ?_ ?_
  · refine KeptE.ok ?_
    refine State.setParam_kept ?_
    with_reducible assumption
  · refine KeptE.error

theorem snapParam_kept {r0 : State} {a0 : ℕ} {a1 : State} {a2 : ℕ} (ha1 : Kept r0 a1) : KeptE r0 (snapParam a0 a1 a2) := by
  unfold snapParam
  split
  · refine KeptE.error
  · refine KeptE.ite ?_ ?_
    · refine KeptE.error
    · refine KeptE.ok ?_
      refine KeptE.elim ?_ (by with_reducible assumption)
      refine plainWrite_kept ?_
      with_reducible assumption

theorem sampleWrite_kept {r0 : State} {a0 : ℕ} {a1 : State} {a2 : ℕ} (ha1 : Kept r0 a1) : KeptE r0 (sampleWrite a0 a1 a2) := by
  unfold sampleWrite
  extract_lets x0
  refine KeptE.ite ?_ ?_
  · refine KeptE.error
  · refine KeptE.ok ?_
    refine State.setParam_kept ?_
    with_reducible assumption

theorem unitSelectWrite_kept {r0 : State} {a0 : DopSrc} {a1 : State} {a2 : ℕ} (ha1 : Kept r0 a1) : KeptE r0 (unitSelectWrite a0 a1 a2) := by
  unfold unitSelectWrite
  refine KeptE.ite ?_ ?_
  · refine KeptE.ok ?_
    refine State.modCodex_kept ?_
    with_reducible assumption
  · refine KeptE.error

theorem tableSelectWrite_kept {r0 : State} {a0 : DopSrc} {a1 : State} {a2 : ℕ} (ha1 : Kept r0 a1) : KeptE r0 (tableSelectWrite a0 a1 a2) := by
  unfold tableSelectWrite
  extract_lets x0
  refine KeptE.ite ?_ ?_
  · refine KeptE.ok ?_
    refine State.modCodex_kept ?_
    with_reducible assumption
  · refine KeptE.error

theorem coreObjWrite_kept {r0 : State} {a0 a1 : Nat} {a2 : State} {a3 : Nat} (ha2 : Kept r0 a2) :
    KeptE r0 (coreObjWrite a0 a1 a2 a3) := by
  unfold coreObjWrite
  split
  · exact fibreCfgWrite_kept ha2
  · split
    · exact portL2Write_kept ha2
    · split
      · exact shaperWrite_kept ha2
      · split
        · exact policerWrite_kept ha2
        · split
          · exact threshWrite_kept ha2
          · exact loopWrite_kept ha2
          · exact sourceCommand_kept ha2
          · exact hatchCommand_kept ha2
          · exact creditWrite_kept ha2
          · split
            · exact seedWrite_kept ha2
            · split
              · exact ruleWrite_kept ha2
              · exact plainWrite_kept ha2
          · exact tableCommand_kept ha2
          · exact stageWrite_kept ha2
          · exact bufWrite_kept ha2
          · exact planeCommand_kept ha2
          · exact schedCommand_kept ha2
          · exact plainWrite_kept ha2

theorem moduleObjWrite_kept {r0 : State} {a0 : DopSrc} {a1 a2 : Nat} {a3 : State} {a4 : Nat} (ha3 : Kept r0 a3) :
    KeptE r0 (moduleObjWrite a0 a1 a2 a3 a4) := by
  unfold moduleObjWrite
  split
  · exact trigWrite_kept ha3
  · split
    · exact progCommand_kept ha3
    · split
      · exact configWrite_kept ha3
      · exact plainWrite_kept ha3
    · exact partWrite_kept ha3
    · split
      · exact configWrite_kept ha3
      · exact plainWrite_kept ha3
    · exact asymWrite_kept ha3
    · exact snapCommand_kept ha3
    · exact snapParam_kept ha3
    · exact histWrite_kept ha3
    · exact sampleWrite_kept ha3
    · exact ruleWrite_kept ha3
    · exact plainWrite_kept ha3
    · exact proofCommand_kept ha3
    · exact unitSelectWrite_kept ha3
    · exact tableSelectWrite_kept ha3
    · exact blotterCommand_kept ha3
    · exact coreObjWrite_kept ha3

/-! ### Boot -/

theorem State.phaseTo_kept {r0 : State} {a0 : State} {a1 : Phase} (ha0 : Kept r0 a0) : Kept r0 (State.phaseTo a0 a1) := by
  unfold State.phaseTo
  refine State.modBoot_kept ?_
  with_reducible assumption

theorem State.bootEvent_kept {r0 : State} {a0 : State} {a1 : ℕ} {a2 : ℕ} (ha0 : Kept r0 a0) : Kept r0 (State.bootEvent a0 a1 a2) := by
  unfold State.bootEvent
  refine State.logEvent_kept ?_
  with_reducible assumption

theorem State.startFails_kept {r0 : State} {a0 : State} {a1 : ℕ} (ha0 : Kept r0 a0) : Kept r0 (State.startFails a0 a1) := by
  unfold State.startFails
  refine State.bootEvent_kept ?_
  refine State.failCode_kept ?_
  with_reducible assumption

theorem State.startTraining_kept {r0 : State} {a0 : State} (ha0 : Kept r0 a0) : Kept r0 (State.startTraining a0) := by
  unfold State.startTraining
  refine State.forEach_kept ?_ ?_
  · with_reducible assumption
  · intro a0 a1 h2
    refine Kept.ite ?_ ?_
    · refine State.updPort_kept ?_
      with_reducible assumption
    · with_reducible assumption

theorem State.fillSpaces_kept {r0 : State} {a0 : State} (ha0 : Kept r0 a0) : Kept r0 (State.fillSpaces a0) := by
  unfold State.fillSpaces
  extract_lets x0
  have hx0 : Kept r0 x0 := by
    unfold x0
    refine State.forEach_kept ?_ ?_
    · with_reducible assumption
    · intro a1 a2 h3
      refine Kept.ite ?_ ?_
      · refine State.updPort_kept ?_
        with_reducible assumption
      · with_reducible assumption
  refine Kept.ite ?_ ?_
  · refine State.markDone_kept ?_
    with_reducible assumption
  · with_reducible assumption

theorem State.romRuns_kept {r0 : State} {a0 : State} (ha0 : Kept r0 a0) : Kept r0 (State.romRuns a0) := by
  unfold State.romRuns
  split
  refine State.markDone_kept ?_
  refine State.startTraining_kept ?_
  refine State.modSec_kept ?_
  refine State.modBoot_kept ?_
  refine KeptP.elim ?_ (by with_reducible assumption)
  refine State.free64_kept ?_
  with_reducible assumption

theorem execScribeResetRelease_kept {r0 : State} {a0 : Straps} {a1 : State} (ha1 : Kept r0 a1) : KeptT r0 (execScribeResetRelease a0 a1) := by
  unfold execScribeResetRelease
  extract_lets x0
  have hx0 : Kept r0 x0 := by
    unfold x0
    refine State.chopStart_kept ?_
    refine State.modBoot_kept ?_
    with_reducible assumption
  refine KeptT.next ?_
  refine Kept.ite ?_ ?_
  · with_reducible assumption
  · refine Kept.ite ?_ ?_
    · refine State.holdCore_kept ?_
      with_reducible assumption
    · refine State.romRuns_kept ?_
      refine State.phaseTo_kept ?_
      with_reducible assumption

theorem State.enterRecovery_kept {r0 : State} {a0 : State} (ha0 : Kept r0 a0) : Kept r0 (State.enterRecovery a0) := by
  unfold State.enterRecovery
  refine State.fillSpaces_kept ?_
  refine State.startFails_kept ?_
  refine State.modBoot_kept ?_
  with_reducible assumption

theorem State.takeBootSet_kept {r0 : State} {a0 : State} {a1 : ℕ} {a2 : BootSet} (ha0 : Kept r0 a0) : Kept r0 (State.takeBootSet a0 a1 a2) := by
  unfold State.takeBootSet
  extract_lets x0 x1
  have hx1 : Kept r0 x1 := by
    unfold x1
    refine State.modSec_kept ?_
    refine State.modBoot_kept ?_
    with_reducible assumption
  refine State.markDone_kept ?_
  refine State.setParam_kept ?_
  refine State.setParam_kept ?_
  refine State.setParam_kept ?_
  with_reducible assumption

theorem execBankSelect_kept {r0 : State} {a0 : State} (ha0 : Kept r0 a0) : KeptT r0 (execBankSelect a0) := by
  unfold execBankSelect
  extract_lets x0 x1 x2 x3 x4 x5
  have hx2 : Kept r0 x2 := by
    unfold x2
    refine State.modBoot_kept ?_
    with_reducible assumption
  have hx3 : Kept r0 x3 := by
    unfold x3
    refine State.forEach_kept ?_ ?_
    · with_reducible assumption
    · intro a6 a7 h8
      split
      refine State.bootEvent_kept ?_
      refine KeptP.elim ?_ (by with_reducible assumption)
      refine State.free64_kept ?_
      with_reducible assumption
  have hx4 : Kept r0 x4 := by
    unfold x4
    refine State.forEach_kept ?_ ?_
    · with_reducible assumption
    · intro a9 a10 h11
      refine State.sensorFires_kept ?_
      with_reducible assumption
  have hx5 : Kept r0 x5 := by
    unfold x5
    refine Kept.ite ?_ ?_
    · split
      refine State.logOpenEvent_kept ?_
      refine KeptP.elim ?_ (by with_reducible assumption)
      refine State.free64_kept ?_
      with_reducible assumption
    · with_reducible assumption
  refine KeptT.next ?_
  refine Kept.ite ?_ ?_
  · with_reducible assumption
  · split
    · refine State.enterRecovery_kept ?_
      with_reducible assumption
    · extract_lets x12 x13
      have hx12 : Kept r0 x12 := by
        unfold x12
        refine State.takeBootSet_kept ?_
        with_reducible assumption
      refine Kept.ite ?_ ?_
      · refine State.startFails_kept ?_
        with_reducible assumption
      · with_reducible assumption

theorem execScribeFirmwareStart_kept {r0 : State} {a0 : State} (ha0 : Kept r0 a0) : KeptT r0 (execScribeFirmwareStart a0) := by
  unfold execScribeFirmwareStart
  refine KeptT.next ?_
  refine Kept.ite ?_ ?_
  · refine State.readHistory_kept ?_
    refine State.markDone_kept ?_
    with_reducible assumption
  · with_reducible assumption

theorem State.loadRejected_kept {r0 : State} {a0 : State} {a1 : ℕ} {a2 : ℕ} (ha0 : Kept r0 a0) : Kept r0 (State.loadRejected a0 a1 a2) := by
  unfold State.loadRejected
  refine State.bootEvent_kept ?_
  with_reducible assumption

theorem State.loadOne_kept {r0 : State} {a0 : State} {a1 : ℕ} {a2 : ℕ} {a3 : ℕ} (ha0 : Kept r0 a0) : Kept r0 (State.loadOne a0 a1 a2 a3) := by
  unfold State.loadOne
  refine Kept.ite ?_ ?_
  · with_reducible assumption
  · split
    · with_reducible assumption
    · split
      · refine State.loadRejected_kept ?_
        with_reducible assumption
      · extract_lets x0
        have hx0 : Kept r0 x0 := by
          unfold x0
          refine State.setParam_kept ?_
          with_reducible assumption
        refine Kept.ite ?_ ?_
        · refine State.setShaper_kept ?_
          with_reducible assumption
        · refine Kept.ite ?_ ?_
          · refine State.setPolicer_kept ?_
            with_reducible assumption
          · with_reducible assumption

theorem State.loadGroup_kept {r0 : State} {a0 : State} {a1 : List (ℕ × ℕ)} {a2 : ℕ} {a3 : List ℕ} {a4 : Bool} (ha0 : Kept r0 a0) : Kept r0 (State.loadGroup a0 a1 a2 a3 a4) := by
  unfold State.loadGroup
  refine Kept.ite ?_ ?_
  · refine State.forEach_kept ?_ ?_
    · with_reducible assumption
    · intro a0 a1 h2
      refine State.resetParam_kept ?_
      refine Kept.ite ?_ ?_
      · refine State.loadRejected_kept ?_
        with_reducible assumption
      · with_reducible assumption
  · with_reducible assumption

theorem State.loadParams_kept {r0 : State} {a0 : State} {a1 : List (ℕ × ℕ × ℕ)} (ha0 : Kept r0 a0) : Kept r0 (State.loadParams a0 a1) := by
  unfold State.loadParams
  extract_lets x0 x1 x2 x3 x4
  have hx0 : Kept r0 x0 := by
    unfold x0
    refine State.forEach_kept ?_ ?_
    · with_reducible assumption
    · intro a5 a6 h7
      refine State.loadOne_kept ?_
      with_reducible assumption
  have hx3 : Kept r0 x3 := by
    unfold x3
    refine State.loadGroup_kept ?_
    with_reducible assumption
  have hx4 : Kept r0 x4 := by
    unfold x4
    refine State.loadGroup_kept ?_
    with_reducible assumption
  refine State.loadGroup_kept ?_
  with_reducible assumption

theorem State.divideQuill_kept {r0 : State} {a0 : State} {a1 : ℕ × ℕ} (ha0 : Kept r0 a0) : Kept r0 (State.divideQuill a0 a1) := by
  unfold State.divideQuill
  extract_lets x0
  refine Kept.ite ?_ ?_
  · refine State.modBoot_kept ?_
    with_reducible assumption
  · split
    refine State.bootEvent_kept ?_
    refine State.modBoot_kept ?_
    refine KeptP.elim ?_ (by with_reducible assumption)
    refine State.free64_kept ?_
    with_reducible assumption

theorem State.fixCold_kept {r0 : State} {a0 : State} (ha0 : Kept r0 a0) : Kept r0 (State.fixCold a0) := by
  unfold State.fixCold
  extract_lets x0 x1
  have hx0 : Kept r0 x0 := by
    unfold x0
    refine State.modHost_kept ?_
    with_reducible assumption
  have hx1 : Kept r0 x1 := by
    unfold x1
    refine State.modMem_kept ?_ ?_
    · with_reducible assumption
    · exact fun _ h => h
  refine State.modChop_kept ?_
  with_reducible assumption

theorem State.reconstruct_kept {r0 : State} {a0 : State} (ha0 : Kept r0 a0) : Kept r0 (State.reconstruct a0) := by
  unfold State.reconstruct
  split
  · refine Kept.ite ?_ ?_
    · refine State.modBoot_kept ?_
      with_reducible assumption
    · refine State.sensorFires_kept ?_
      refine State.startFails_kept ?_
      with_reducible assumption
  · refine State.sensorFires_kept ?_
    refine State.startFails_kept ?_
    with_reducible assumption

theorem State.recordTies_kept {r0 : State} {a0 : State} (ha0 : Kept r0 a0) : Kept r0 (State.recordTies a0) := by
  unfold State.recordTies
  refine State.forEach_kept ?_ ?_
  · with_reducible assumption
  · intro a0 a1 h2
    refine State.logOpenEvent_kept ?_
    with_reducible assumption

theorem State.actDeferred_kept {r0 : State} {a0 : State} (ha0 : Kept r0 a0) : Kept r0 (State.actDeferred a0) := by
  unfold State.actDeferred
  extract_lets x0
  refine State.forEach_kept ?_ ?_
  · refine State.modSec_kept ?_
    with_reducible assumption
  · intro a1 a2 h3
    refine State.sensorActs_kept ?_
    with_reducible assumption

theorem execConfigLoad_kept {r0 : State} {a0 : State} (ha0 : Kept r0 a0) : KeptT r0 (execConfigLoad a0) := by
  unfold execConfigLoad
  extract_lets x0 x1 x2 x3 x4 x5
  have hx1 : Kept r0 x1 := by
    unfold x1
    refine Kept.ite ?_ ?_
    · refine State.startFails_kept ?_
      refine State.recordTies_kept ?_
      with_reducible assumption
    · refine State.recordTies_kept ?_
      with_reducible assumption
  have hx2 : Kept r0 x2 := by
    unfold x2
    refine State.loadParams_kept ?_
    with_reducible assumption
  have hx3 : Kept r0 x3 := by
    unfold x3
    refine State.modTime_kept ?_ ?_
    · with_reducible assumption
    · exact fun _ h => h
  have hx4 : Kept r0 x4 := by
    unfold x4
    clear_value x0
    split
    · refine State.divideQuill_kept ?_
      with_reducible assumption
    · with_reducible assumption
  have hx5 : Kept r0 x5 := by
    unfold x5
    refine Kept.ite ?_ ?_
    · refine State.modBoot_kept ?_
      refine State.phaseTo_kept ?_
      with_reducible assumption
    · refine State.phaseTo_kept ?_
      refine State.fixCold_kept ?_
      with_reducible assumption
  refine KeptT.next ?_
  refine Kept.ite ?_ ?_
  · with_reducible assumption
  · refine State.actDeferred_kept ?_
    refine State.markDone_kept ?_
    refine State.fillSpaces_kept ?_
    refine State.reconstruct_kept ?_
    with_reducible assumption

theorem execSramInitDone_kept {r0 : State} {a0 : State} (ha0 : Kept r0 a0) : KeptT r0 (execSramInitDone a0) := by
  unfold execSramInitDone
  refine KeptT.next ?_
  refine Kept.ite ?_ ?_
  · refine State.modBoot_kept ?_
    refine State.phaseTo_kept ?_
    with_reducible assumption
  · with_reducible assumption

theorem State.lpdEnds_kept {r0 : State} {a0 : State} {a1 : BitVec 16} {a2 : BitVec 16} (ha0 : Kept r0 a0) : Kept r0 (State.lpdEnds a0 a1 a2) := by
  unfold State.lpdEnds
  extract_lets x0 x1 x2
  have hx1 : Kept r0 x1 := by
    unfold x1
    refine State.markDone_kept ?_
    refine State.modMem_kept ?_ ?_
    · with_reducible assumption
    · exact fun _ h => h
  have hx2 : Kept r0 x2 := by
    unfold x2
    refine State.setFlagIf_kept ?_
    with_reducible assumption
  refine Kept.ite ?_ ?_
  · with_reducible assumption
  · refine State.startFails_kept ?_
    with_reducible assumption

theorem State.inkEnds_kept {r0 : State} {a0 : State} {a1 : BitVec 4} (ha0 : Kept r0 a0) : Kept r0 (State.inkEnds a0 a1) := by
  unfold State.inkEnds
  extract_lets x0 x1 x2 x3 x4
  have hx1 : Kept r0 x1 := by
    unfold x1
    refine State.markDone_kept ?_
    refine State.modMem_kept ?_ ?_
    · with_reducible assumption
    · exact fun _ h => h
  have hx2 : Kept r0 x2 := by
    unfold x2
    refine Kept.ite ?_ ?_
    · with_reducible assumption
    · refine State.setFlag_kept ?_
      refine State.startFails_kept ?_
      with_reducible assumption
  have hx3 : Kept r0 x3 := by
    unfold x3
    refine State.modDuctus_kept ?_
    refine State.loadBootSchedule_kept ?_
    with_reducible assumption
  refine Kept.ite ?_ ?_
  · refine State.startFails_kept ?_
    with_reducible assumption
  · with_reducible assumption

theorem execLpddr6Trained_kept {r0 : State} {a0 : BitVec 16} {a1 : State} (ha1 : Kept r0 a1) : KeptT r0 (execLpddr6Trained a0 a1) := by
  unfold execLpddr6Trained
  refine KeptT.next ?_
  refine Kept.ite ?_ ?_
  · refine State.lpdEnds_kept ?_
    with_reducible assumption
  · with_reducible assumption

theorem execInkwellTrained_kept {r0 : State} {a0 : BitVec 4} {a1 : State} (ha1 : Kept r0 a1) : KeptT r0 (execInkwellTrained a0 a1) := by
  unfold execInkwellTrained
  refine KeptT.next ?_
  refine Kept.ite ?_ ?_
  · refine State.inkEnds_kept ?_
    with_reducible assumption
  · with_reducible assumption

theorem State.copyQuillFirmware_kept {r0 : State} {a0 : State} (ha0 : Kept r0 a0) : Kept r0 (State.copyQuillFirmware a0) := by
  unfold State.copyQuillFirmware
  split
  · refine State.writeMem_kept ?_
    with_reducible assumption
  · with_reducible assumption

theorem State.releaseQuill_kept {r0 : State} {a0 : State} (ha0 : Kept r0 a0) : Kept r0 (State.releaseQuill a0) := by
  unfold State.releaseQuill
  extract_lets x0 x1
  have hx0 : Kept r0 x0 := by
    unfold x0
    refine State.forEach_kept ?_ ?_
    · with_reducible assumption
    · intro a2 a3 h4
      refine State.emit_kept ?_
      with_reducible assumption
  have hx1 : Kept r0 x1 := by
    unfold x1
    refine State.copyQuillFirmware_kept ?_
    with_reducible assumption
  refine State.markDone_kept ?_
  refine State.forEach_kept ?_ ?_
  · with_reducible assumption
  · intro a5 a6 h7
    refine State.emit_kept ?_
    with_reducible assumption

theorem execQuillRelease_kept {r0 : State} {a0 : State} (ha0 : Kept r0 a0) : KeptT r0 (execQuillRelease a0) := by
  unfold execQuillRelease
  refine KeptT.next ?_
  refine Kept.ite ?_ ?_
  · refine State.releaseQuill_kept ?_
    with_reducible assumption
  · with_reducible assumption

theorem execPhotonicLoad_kept {r0 : State} {a0 : State} (ha0 : Kept r0 a0) : KeptT r0 (execPhotonicLoad a0) := by
  unfold execPhotonicLoad
  extract_lets x0 x1
  have hx0 : Kept r0 x0 := by
    unfold x0
    refine State.modBoot_kept ?_
    with_reducible assumption
  have hx1 : Kept r0 x1 := by
    unfold x1
    refine State.forEach_kept ?_ ?_
    · with_reducible assumption
    · intro a2 a3 h4
      refine State.forEach_kept ?_ ?_
      · with_reducible assumption
      · intro a5 a6 h7
        refine State.updSource_kept ?_
        with_reducible assumption
  refine KeptT.next ?_
  refine Kept.ite ?_ ?_
  · with_reducible assumption
  · split
    · refine State.startFails_kept ?_
      with_reducible assumption
    · refine State.forEach_kept ?_ ?_
      · with_reducible assumption
      · intro a8 a9 h10
        refine State.forEach_kept ?_ ?_
        · with_reducible assumption
        · intro a11 a12 h13
          extract_lets x14 x15
          have hx15 : Kept r0 x15 := by
            unfold x15
            refine State.updLane_kept ?_
            with_reducible assumption
          refine Kept.ite ?_ ?_
          · refine laneHoldOwn_kept ?_
            with_reducible assumption
          · with_reducible assumption

theorem execCombStable_kept {r0 : State} {a0 : State} (ha0 : Kept r0 a0) : KeptT r0 (execCombStable a0) := by
  unfold execCombStable
  extract_lets x0
  have hx0 : Kept r0 x0 := by
    unfold x0
    refine State.modBoot_kept ?_
    with_reducible assumption
  refine KeptT.next ?_
  refine Kept.ite ?_ ?_
  · with_reducible assumption
  · refine State.forEach_kept ?_ ?_
    · with_reducible assumption
    · intro a1 a2 h3
      extract_lets x4
      have hx4 : Kept r0 x4 := by
        unfold x4
        refine State.forEach_kept ?_ ?_
        · with_reducible assumption
        · intro a5 a6 h7
          refine State.updSource_kept ?_
          with_reducible assumption
      refine Kept.ite ?_ ?_
      · refine startSpare_kept ?_
        with_reducible assumption
      · with_reducible assumption

theorem State.swept_kept {r0 : State} {a0 : State} (ha0 : Kept r0 a0) : Kept r0 (State.swept a0) := by
  unfold State.swept
  refine State.forEach_kept ?_ ?_
  · with_reducible assumption
  · intro a0 a1 h2
    refine State.forEach_kept ?_ ?_
    · with_reducible assumption
    · intro a3 a4 h5
      refine State.updLane_kept ?_
      with_reducible assumption

theorem execRingsLocked_kept {r0 : State} {a0 : State} (ha0 : Kept r0 a0) : KeptT r0 (execRingsLocked a0) := by
  unfold execRingsLocked
  extract_lets x0
  have hx0 : Kept r0 x0 := by
    unfold x0
    refine State.markDone_kept ?_
    with_reducible assumption
  refine KeptT.next ?_
  refine Kept.ite ?_ ?_
  · with_reducible assumption
  · refine Kept.ite ?_ ?_
    · with_reducible assumption
    · split
      refine reloadCalibration_kept ?_
      refine State.storeData_kept ?_
      refine KeptP.elim ?_ (by with_reducible assumption)
      refine State.free64_kept ?_
      refine State.swept_kept ?_
      with_reducible assumption

theorem execLinksStageEnd_kept {r0 : State} {a0 : State} (ha0 : Kept r0 a0) : KeptT r0 (execLinksStageEnd a0) := by
  unfold execLinksStageEnd
  refine KeptT.next ?_
  refine Kept.ite ?_ ?_
  · refine State.markDone_kept ?_
    with_reducible assumption
  · with_reducible assumption

theorem execServiceSet_kept {r0 : State} {a0 : State} (ha0 : Kept r0 a0) : KeptT r0 (execServiceSet a0) := by
  unfold execServiceSet
  extract_lets x0 x1
  have hx0 : Kept r0 x0 := by
    unfold x0
    refine State.markDone_kept ?_
    refine State.modFaults_kept ?_ ?_
    · refine State.modPower_kept ?_
      with_reducible assumption
    · exact fun _ h => h
  have hx1 : Kept r0 x1 := by
    unfold x1
    refine State.forEach_kept ?_ ?_
    · with_reducible assumption
    · intro a2 a3 h4
      refine State.updSlot_kept ?_
      with_reducible assumption
  refine KeptT.next ?_
  refine Kept.ite ?_ ?_
  · with_reducible assumption
  · refine State.phaseTo_kept ?_
    with_reducible assumption

theorem execPcieConfigRequest_kept {r0 : State} {a0 : Bool} {a1 : Fin 7} {a2 : Fin 17} {a3 : Option (Bool × Fin 64)} {a4 : State} (ha4 : Kept r0 a4) : KeptT r0 (execPcieConfigRequest a0 a1 a2 a3 a4) := by
  unfold execPcieConfigRequest
  extract_lets x0 x1 x2 x3
  have hx1 : Kept r0 x1 := by
    unfold x1
    refine Kept.ite ?_ ?_
    · with_reducible assumption
    · refine State.updPort_kept ?_
      with_reducible assumption
  have hx2 : Kept r0 x2 := by
    unfold x2
    refine State.emit_kept ?_
    with_reducible assumption
  refine KeptT.next ?_
  refine Kept.ite ?_ ?_
  · with_reducible assumption
  · split
    · with_reducible assumption
    · refine Kept.ite ?_ ?_
      · with_reducible assumption
      · refine Kept.ite ?_ ?_
        · refine State.updPort_kept ?_
          refine State.forEach_kept ?_ ?_
          · with_reducible assumption
          · intro a4 a5 h6
            refine State.resetFunction_kept ?_
            with_reducible assumption
        · refine Kept.ite ?_ ?_
          · with_reducible assumption
          · refine State.updPort_kept ?_
            with_reducible assumption

theorem execPerstDeassert_kept {r0 : State} {a0 : Bool} {a1 : State} (ha1 : Kept r0 a1) : KeptT r0 (execPerstDeassert a0 a1) := by
  unfold execPerstDeassert
  extract_lets x0
  have hx0 : Kept r0 x0 := by
    unfold x0
    refine State.updPort_kept ?_
    with_reducible assumption
  refine KeptT.next ?_
  refine Kept.ite ?_ ?_
  · refine State.updPort_kept ?_
    with_reducible assumption
  · with_reducible assumption

theorem execPerstAssert_kept {r0 : State} {a0 : Bool} {a1 : State} (ha1 : Kept r0 a1) : KeptT r0 (execPerstAssert a0 a1) := by
  unfold execPerstAssert
  refine KeptT.next ?_
  refine State.updPort_kept ?_
  refine State.portLinkDown_kept ?_
  with_reducible assumption

theorem execWarmRstAssert_kept {r0 : State} {a0 : State} (ha0 : Kept r0 a0) : KeptT r0 (execWarmRstAssert a0) := by
  unfold execWarmRstAssert
  refine KeptT.next ?_
  refine State.warmRequest_kept ?_
  refine State.modBoot_kept ?_
  with_reducible assumption

theorem execWarmRstRelease_kept {r0 : State} {a0 : State} (ha0 : Kept r0 a0) : KeptT r0 (execWarmRstRelease a0) := by
  unfold execWarmRstRelease
  refine KeptT.next ?_
  refine State.modBoot_kept ?_
  with_reducible assumption

theorem execWarmPufRelease_kept {r0 : State} {a0 : State} (ha0 : Kept r0 a0) : KeptT r0 (execWarmPufRelease a0) := by
  unfold execWarmPufRelease
  refine KeptT.next ?_
  refine Kept.ite ?_ ?_
  · refine State.romRuns_kept ?_
    refine State.phaseTo_kept ?_
    with_reducible assumption
  · with_reducible assumption

theorem execWarmMemoryReady_kept {r0 : State} {a0 : BitVec 16} {a1 : BitVec 4} {a2 : State} (ha2 : Kept r0 a2) : KeptT r0 (execWarmMemoryReady a0 a1 a2) := by
  unfold execWarmMemoryReady
  extract_lets x0
  have hx0 : Kept r0 x0 := by
    unfold x0
    refine State.modBoot_kept ?_
    refine State.phaseTo_kept ?_
    with_reducible assumption
  refine KeptT.next ?_
  refine Kept.ite ?_ ?_
  · with_reducible assumption
  · refine State.inkEnds_kept ?_
    refine State.lpdEnds_kept ?_
    with_reducible assumption

theorem execWarmQuillRestart_kept {r0 : State} {a0 : State} (ha0 : Kept r0 a0) : KeptT r0 (execWarmQuillRestart a0) := by
  unfold execWarmQuillRestart
  refine KeptT.next ?_
  refine Kept.ite ?_ ?_
  · refine State.releaseQuill_kept ?_
    with_reducible assumption
  · with_reducible assumption

theorem recoveryCommand_kept {r0 : State} {a0 : State} {a1 : ℕ} (ha0 : Kept r0 a0) : KeptE r0 (recoveryCommand a0 a1) := by
  unfold recoveryCommand
  extract_lets x0 x1
  refine KeptE.ite ?_ ?_
  · refine KeptE.error
  · refine KeptE.ite ?_ ?_
    · refine KeptE.error
    · refine KeptE.ite ?_ ?_
      · refine KeptE.ok ?_
        refine State.modCodex_kept ?_
        with_reducible assumption
      · refine KeptE.ok ?_
        refine State.modCodex_kept ?_
        with_reducible assumption

theorem State.coldRestart_kept {r0 : State} {a0 : State} (ha0 : Kept r0 a0) : Kept r0 (State.coldRestart a0) := by
  unfold State.coldRestart
  refine State.phaseTo_kept ?_
  refine State.coreLost_kept ?_
  with_reducible assumption

theorem State.recoveryInstall_kept {r0 : State} {a0 : State} (ha0 : Kept r0 a0) : Kept r0 (State.recoveryInstall a0) := by
  unfold State.recoveryInstall
  extract_lets x0 x1 x2 x3 x4
  have hx2 : ∀ v5 v6, Kept r0 v6 → Kept r0 (x2 v5 v6) := by
    unfold x2
    intro a7 a8 h9
    refine State.modCodex_kept ?_
    with_reducible assumption
  split
  · refine State.modCodex_kept ?_
    unfold x2
    refine State.modCodex_kept ?_
    with_reducible assumption
  · refine Kept.ite ?_ ?_
    · refine State.coldRestart_kept ?_
      exact ha0
    · refine Kept.ite ?_ ?_
      · refine State.coldRestart_kept ?_
        exact ha0
      · unfold x2
        refine State.modCodex_kept ?_
        with_reducible assumption

theorem State.afterServe_kept {r0 : State} {a0 : State} (ha0 : Kept r0 a0) : Kept r0 (State.afterServe a0) := by
  unfold State.afterServe
  extract_lets x0 x1
  have hx0 : Kept r0 x0 := by
    unfold x0
    refine Kept.ite ?_ ?_
    · refine State.recoveryInstall_kept ?_
      refine State.modCodex_kept ?_
      with_reducible assumption
    · with_reducible assumption
  have hx1 : Kept r0 x1 := by
    unfold x1
    refine Kept.ite ?_ ?_
    · refine State.warmRequest_kept ?_
      refine State.modCodex_kept ?_
      with_reducible assumption
    · with_reducible assumption
  refine State.runPendingWarm_kept ?_
  with_reducible assumption

theorem execRecoveryBeginLoad_kept {r0 : State} {a0 : Req} {a1 : BitVec 24} {a2 : State} (ha2 : Kept r0 a2) : KeptT r0 (execRecoveryBeginLoad a0 a1 a2) := by
  unfold execRecoveryBeginLoad
  refine KeptT.next ?_
  refine serveWrite_kept ?_ ?_
  · with_reducible assumption
  · intro a0 a1 h2
    refine recoveryCommand_kept ?_
    with_reducible assumption

theorem execRecoveryInstall_kept {r0 : State} {a0 : Req} {a1 : BitVec 24} {a2 : State} (ha2 : Kept r0 a2) : KeptT r0 (execRecoveryInstall a0 a1 a2) := by
  unfold execRecoveryInstall
  refine KeptT.next ?_
  refine State.afterServe_kept ?_
  refine serveWrite_kept ?_ ?_
  · with_reducible assumption
  · intro a0 a1 h2
    refine recoveryCommand_kept ?_
    with_reducible assumption

theorem State.installBootSet_kept {r0 : State} {a0 : State} {a1 : List Byte} (ha0 : Kept r0 a0) : Kept r0 (State.installBootSet a0 a1) := by
  unfold State.installBootSet
  extract_lets x0 x1 x2
  split
  · refine Kept.ite ?_ ?_
    · refine State.setFlag_kept ?_
      with_reducible assumption
    · refine Kept.ite ?_ ?_
      · with_reducible assumption
      · refine Kept.ite ?_ ?_
        · exact ha0
        · exact ha0
  · with_reducible assumption

theorem execDataRecordWrite_kept {r0 : State} {a0 : BitVec 16} {a1 : List Byte} {a2 : State} (ha2 : Kept r0 a2) : KeptT r0 (execDataRecordWrite a0 a1 a2) := by
  unfold execDataRecordWrite
  extract_lets x0
  have hx0 : Kept r0 x0 := by
    unfold x0
    refine State.storeData_kept ?_
    with_reducible assumption
  refine KeptT.next ?_
  refine Kept.ite ?_ ?_
  · with_reducible assumption
  · refine Kept.ite ?_ ?_
    · refine State.installBootSet_kept ?_
      with_reducible assumption
    · refine Kept.ite ?_ ?_
      · refine reloadCalibration_kept ?_
        with_reducible assumption
      · with_reducible assumption

/-! ### ObjRead -/

theorem State.latchHigh_kept {r0 : State} {a0 : State} {a1 : DopSrc} {a2 : ℕ} {a3 : ℕ} (ha0 : Kept r0 a0) : Kept r0 (State.latchHigh a0 a1 a2 a3) := by
  unfold State.latchHigh
  refine State.modCodex_kept ?_
  with_reducible assumption

theorem State.dropLatch_kept {r0 : State} {a0 : State} {a1 : DopSrc} {a2 : ℕ} (ha0 : Kept r0 a0) : Kept r0 (State.dropLatch a0 a1 a2) := by
  unfold State.dropLatch
  refine State.modCodex_kept ?_
  with_reducible assumption

theorem State.takeRead_kept {r0 : State} {a0 : State} {a1 : DopSrc} {a2 : ℕ} {a3 : ℕ} (ha0 : Kept r0 a0) : KeptOP r0 (State.takeRead a0 a1 a2 a3) := by
  unfold State.takeRead
  extract_lets x0 x1
  split
  · refine KeptOP.none
  · refine KeptOP.ite ?_ ?_
    · refine KeptOP.some ?_
      refine State.latchHigh_kept ?_
      with_reducible assumption
    · refine KeptOP.ite ?_ ?_
      · refine KeptOP.some ?_
        refine State.dropLatch_kept ?_
        with_reducible assumption
      · refine KeptOP.ite ?_ ?_
        · refine KeptOP.some ?_
          refine State.modTables_kept ?_
          with_reducible assumption
        · refine KeptOP.some ?_
          with_reducible assumption

end Sys2Proof.Machine
end

