-- ==== Sys2Proof/Laws/Kept11.lean ====
section
/-!
SUPPORT. What the operations and commands of these files keep: Codex, JobCmds, Margin.
-/

set_option Elab.async false

namespace Sys2Proof.Machine

/-! ### Codex -/

theorem codexRead_kept {r0 : State} {a0 : DopReq} {a1 : State} {a2 : ℕ} (ha1 : Kept r0 a1) : KeptDE r0 (codexRead a0 a1 a2) := by
  unfold codexRead
  refine KeptDE.ite ?_ ?_
  · refine KeptDE.error
  · refine KeptDE.ite ?_ ?_
    · refine KeptDE.error
    · refine KeptDE.ite ?_ ?_
      · refine KeptDE.error
      · split
        · refine KeptDE.error
        · split
          · refine KeptDE.ok ?_
            refine KeptD.mk ?_
            refine KeptOP.elim ?_ (by with_reducible assumption)
            refine State.takeRead_kept ?_
            with_reducible assumption
          · refine KeptDE.error

theorem resetCommand_kept {r0 : State} {a0 : State} {a1 : ℕ} (ha0 : Kept r0 a0) : KeptE r0 (resetCommand a0 a1) := by
  unfold resetCommand
  refine KeptE.ite ?_ ?_
  · refine KeptE.error
  · refine KeptE.ok ?_
    refine State.modCodex_kept ?_
    with_reducible assumption

theorem writeObj_kept {r0 : State} {a0 : DopSrc} {a1 a2 : Nat} {a3 : State} {a4 : Nat} (ha3 : Kept r0 a3) :
    KeptE r0 (writeObj a0 a1 a2 a3 a4) := by
  unfold writeObj
  cases objType a1 a2
  case flags32 => exact KeptE.ok (State.clearFlags_kept ha3)
  all_goals
    dsimp only
    split
    · exact accountMapWrite_kept ha3
    · split
      · exact credWrite_kept ha3
      · split
        · exact intervalWrite_kept ha3
        · exact calWrite_kept ha3
      · exact resetCommand_kept ha3
      · exact recoveryCommand_kept ha3
      · exact moduleObjWrite_kept ha3

theorem codexWrite_kept {r0 : State} {a0 : DopReq} {a1 : State} {a2 : ℕ} (ha1 : Kept r0 a1) : KeptDE r0 (codexWrite a0 a1 a2) := by
  unfold codexWrite
  refine KeptDE.ite ?_ ?_
  · refine debugUnlockAct_kept ?_
    with_reducible assumption
  · refine dopWriteAct_kept ?_
    intro a0
    refine writeObj_kept ?_
    with_reducible assumption

theorem takeSamples_kept {r0 : State} {a0 : State} (ha0 : Kept r0 a0) : KeptD r0 (takeSamples a0) := by
  unfold takeSamples
  extract_lets x0
  refine KeptD.mk ?_
  refine State.modFolio_kept ?_
  with_reducible assumption

theorem codexSegRead_kept {r0 : State} {a0 : DopReq} {a1 : State} {a2 : ℕ} (ha1 : Kept r0 a1) : KeptDE r0 (codexSegRead a0 a1 a2) := by
  unfold codexSegRead
  refine KeptDE.ite ?_ ?_
  · refine KeptDE.error
  · refine KeptDE.ite ?_ ?_
    · refine KeptDE.error
    · split
      · refine KeptDE.ite ?_ ?_
        · refine KeptDE.error
        · refine KeptDE.ite ?_ ?_
          · refine KeptDE.ok ?_
            refine takeSamples_kept ?_
            with_reducible assumption
          · split
            refine KeptDE.ok ?_
            refine KeptD.mk ?_
            with_reducible assumption
      · refine KeptDE.error

theorem State.storeSegment_kept {r0 : State} {a0 : State} {a1 : ℕ} {a2 : DopSrc} {a3 : List Byte} {a4 : Bool} (ha0 : Kept r0 a0) : Kept r0 (State.storeSegment a0 a1 a2 a3 a4) := by
  unfold State.storeSegment
  extract_lets x0 x1 x2
  have hx2 : Kept r0 x2 := by
    unfold x2
    refine State.modCodex_kept ?_
    with_reducible assumption
  split
  · refine State.modDuctus_kept ?_
    with_reducible assumption
  · refine State.modProgs_kept ?_
    with_reducible assumption
  · with_reducible assumption

theorem codexSegWrite_kept {r0 : State} {a0 : DopReq} {a1 : State} {a2 : ℕ} (ha1 : Kept r0 a1) : KeptDE r0 (codexSegWrite a0 a1 a2) := by
  unfold codexSegWrite
  extract_lets x0
  split
  · refine KeptDE.ite ?_ ?_
    · refine KeptDE.error
    · refine KeptDE.error
  · extract_lets x1
    refine KeptDE.ite ?_ ?_
    · refine KeptDE.error
    · split
      · refine KeptDE.ite ?_ ?_
        · refine KeptDE.error
        · refine KeptDE.ite ?_ ?_
          · refine KeptDE.error
          · refine KeptDE.ok ?_
            refine KeptD.mk ?_
            refine State.storeSegment_kept ?_
            with_reducible assumption
      · refine KeptDE.error

theorem codexOccurrence_kept {r0 : State} {a0 : DopReq} {a1 : State} {a2 : Nat} (ha1 : Kept r0 a1) :
    KeptDE r0 (codexOccurrence a0 a1 a2) := by
  unfold codexOccurrence
  dsimp only
  split
  · refine KeptDE.ite KeptDE.error (KeptDE.ite KeptDE.error (KeptDE.ok (KeptD.mk (Kept.ite (State.updFunc_kept ha1) ha1))))
  · refine KeptDE.ite KeptDE.error (KeptDE.ite KeptDE.error (KeptDE.ite KeptDE.error (KeptDE.ok (KeptD.mk (Kept.ite ?_ ha1)))))
    refine ⟨ha1.1, ha1.2.1, fun g => ?_⟩
    have k := ha1.2.2 g
    refine ⟨k.1, k.2.1, k.2.2.1, ?_, k.2.2.2.2⟩
    show ∀ e ∈ Tab.upd {} a1.flags (objKey a0.idx 1) (fun x => { x with counts := [] }), ∀ c ∈ e.2.counts, c.2 ≤ 65535
    exact Tab.all_upd (P := fun x : FlagObj => ∀ c ∈ x.counts, c.2 ≤ 65535) k.2.2.2.1 (by intro x _ c h; cases h) (by intro c h; cases h)

theorem codexDescribe_kept {r0 : State} {a0 : DopReq} {a1 : State} {a2 : ℕ} (ha1 : Kept r0 a1) : KeptDE r0 (codexDescribe a0 a1 a2) := by
  unfold codexDescribe
  refine KeptDE.ite ?_ ?_
  · refine KeptDE.error
  · refine KeptDE.ite ?_ ?_
    · refine KeptDE.error
    · refine KeptDE.ite ?_ ?_
      · refine KeptDE.error
      · refine KeptDE.ok ?_
        refine KeptD.mk ?_
        with_reducible assumption

theorem codexSubscribe_kept {r0 : State} {a0 : DopReq} {a1 : State} (ha1 : Kept r0 a1) : KeptDE r0 (codexSubscribe a0 a1) := by
  unfold codexSubscribe
  extract_lets x0 x1
  refine KeptDE.ite ?_ ?_
  · refine KeptDE.error
  · refine KeptDE.ite ?_ ?_
    · refine KeptDE.error
    · refine KeptDE.ite ?_ ?_
      · refine KeptDE.error
      · refine KeptDE.ite ?_ ?_
        · refine KeptDE.ok ?_
          refine KeptD.mk ?_
          refine State.modCodex_kept ?_
          with_reducible assumption
        · refine KeptDE.ite ?_ ?_
          · refine KeptDE.ok ?_
            refine KeptD.mk ?_
            refine State.setFlag_kept ?_
            with_reducible assumption
          · refine KeptDE.ok ?_
            refine KeptD.mk ?_
            refine State.modCodex_kept ?_
            with_reducible assumption

theorem codexAct_kept {r0 : State} {a0 : DopReq} {a1 : State} {a2 : ℕ} (ha1 : Kept r0 a1) : KeptDE r0 (codexAct a0 a1 a2) := by
  unfold codexAct
  split
  · refine codexRead_kept ?_
    with_reducible assumption
  · refine codexWrite_kept ?_
    with_reducible assumption
  · refine codexSegRead_kept ?_
    with_reducible assumption
  · refine codexSegWrite_kept ?_
    with_reducible assumption
  · refine codexOccurrence_kept ?_
    with_reducible assumption
  · refine codexDescribe_kept ?_
    with_reducible assumption
  · refine codexSubscribe_kept ?_
    with_reducible assumption
  · refine sessionOpen_kept ?_
    with_reducible assumption
  · refine sessionAuth_kept ?_
    with_reducible assumption
  · refine sessionClose_kept ?_
    with_reducible assumption
  · refine mctpPacket_kept ?_
    with_reducible assumption
  · refine KeptDE.error

theorem State.serve_kept {r0 : State} {a0 : State} {a1 : DopReq} (ha0 : Kept r0 a0) : Kept r0 (State.serve a0 a1) := by
  unfold State.serve
  extract_lets x0
  have hx0 : Kept r0 x0 := by
    unfold x0
    refine State.dopArrives_kept ?_
    with_reducible assumption
  refine State.afterServe_kept ?_
  refine dopServe_kept ?_ ?_
  · with_reducible assumption
  · intro a1
    refine codexAct_kept ?_
    with_reducible assumption

theorem execDopRead_kept {r0 : State} {a0 : Req} {a1 : BitVec 16} {a2 : BitVec 8} {a3 : State} (ha3 : Kept r0 a3) : KeptT r0 (execDopRead a0 a1 a2 a3) := by
  unfold execDopRead
  refine KeptT.next ?_
  refine State.serve_kept ?_
  with_reducible assumption

theorem execDopSegRead_kept {r0 : State} {a0 : Req} {a1 : BitVec 16} {a2 : BitVec 8} {a3 : BitVec 32} {a4 : State} (ha4 : Kept r0 a4) : KeptT r0 (execDopSegRead a0 a1 a2 a3 a4) := by
  unfold execDopSegRead
  extract_lets x0
  refine KeptT.next ?_
  refine State.serve_kept ?_
  with_reducible assumption

theorem execSampleDataRead_kept {r0 : State} {a0 : Req} {a1 : State} (ha1 : Kept r0 a1) : KeptT r0 (execSampleDataRead a0 a1) := by
  unfold execSampleDataRead
  refine KeptT.next ?_
  refine State.serve_kept ?_
  with_reducible assumption

theorem execDopSegWrite_kept {r0 : State} {a0 : Req} {a1 : BitVec 16} {a2 : BitVec 8} {a3 : BitVec 32} {a4 : Bool} {a5 : List Byte} {a6 : State} (ha6 : Kept r0 a6) : KeptT r0 (execDopSegWrite a0 a1 a2 a3 a4 a5 a6) := by
  unfold execDopSegWrite
  extract_lets x0
  refine KeptT.next ?_
  refine State.serve_kept ?_
  with_reducible assumption

theorem execDopOccurrence_kept {r0 : State} {a0 : Req} {a1 : BitVec 16} {a2 : BitVec 8} {a3 : Bool} {a4 : State} (ha4 : Kept r0 a4) : KeptT r0 (execDopOccurrence a0 a1 a2 a3 a4) := by
  unfold execDopOccurrence
  extract_lets x0
  refine KeptT.next ?_
  refine State.serve_kept ?_
  with_reducible assumption

theorem execDopDescribe_kept {r0 : State} {a0 : Req} {a1 : BitVec 16} {a2 : BitVec 8} {a3 : State} (ha3 : Kept r0 a3) : KeptT r0 (execDopDescribe a0 a1 a2 a3) := by
  unfold execDopDescribe
  refine KeptT.next ?_
  refine State.serve_kept ?_
  with_reducible assumption

theorem execDopSubscribe_kept {r0 : State} {a0 : Req} {a1 : BitVec 16} {a2 : State} (ha2 : Kept r0 a2) : KeptT r0 (execDopSubscribe a0 a1 a2) := by
  unfold execDopSubscribe
  extract_lets x0
  refine KeptT.next ?_
  refine State.serve_kept ?_
  with_reducible assumption

theorem execWarmResetCommand_kept {r0 : State} {a0 : Req} {a1 : BitVec 24} {a2 : State} (ha2 : Kept r0 a2) : KeptT r0 (execWarmResetCommand a0 a1 a2) := by
  unfold execWarmResetCommand
  refine KeptT.next ?_
  refine State.afterServe_kept ?_
  refine serveWrite_kept ?_ ?_
  · with_reducible assumption
  · intro a0 a1 h2
    refine resetCommand_kept ?_
    with_reducible assumption

theorem execNotifySend_kept {r0 : State} {a0 : DopSrc} {a1 : State} (ha1 : Kept r0 a1) : KeptT r0 (execNotifySend a0 a1) := by
  unfold execNotifySend
  extract_lets x0
  refine KeptT.ite ?_ ?_
  · refine KeptT.next ?_
    refine dopSend_kept ?_
    with_reducible assumption
  · refine KeptT.next ?_
    with_reducible assumption

theorem execSubscriptionExpiry_kept {r0 : State} {a0 : DopSrc} {a1 : State} (ha1 : Kept r0 a1) : KeptT r0 (execSubscriptionExpiry a0 a1) := by
  unfold execSubscriptionExpiry
  refine KeptT.ite ?_ ?_
  · refine KeptT.next ?_
    refine State.setFlag_kept ?_
    refine State.modCodex_kept ?_
    with_reducible assumption
  · refine KeptT.next ?_
    with_reducible assumption

theorem State.mailbox_kept {r0 : State} {a0 : State} {a1 : ℕ} {a2 : ℕ} {a3 : Bool} (ha0 : Kept r0 a0) : Kept r0 (State.mailbox a0 a1 a2 a3) := by
  unfold State.mailbox
  extract_lets x0 x1 x2 x3
  have hx1 : Kept r0 x1 := by
    unfold x1
    refine State.updFunc_kept ?_
    with_reducible assumption
  have hx3 : Kept r0 x3 := by
    unfold x3
    refine State.countHost_kept ?_
    refine State.updFunc_kept ?_
    with_reducible assumption
  refine Kept.ite ?_ ?_
  · with_reducible assumption
  · refine Kept.ite ?_ ?_
    · refine State.countHost_kept ?_
      refine State.updFunc_kept ?_
      with_reducible assumption
    · refine Kept.ite ?_ ?_
      · refine State.hostEvent_kept ?_
        refine State.updFunc_kept ?_
        with_reducible assumption
      · refine State.updFunc_kept ?_
        refine State.serve_kept ?_
        with_reducible assumption

theorem execMboxGo_kept {r0 : State} {a0 : Fin 130} {a1 : BitVec 32} {a2 : List Byte} {a3 : Bool} {a4 : State} (ha4 : Kept r0 a4) : KeptT r0 (execMboxGo a0 a1 a2 a3 a4) := by
  unfold execMboxGo
  extract_lets x0
  have hx0 : Kept r0 x0 := by
    unfold x0
    refine State.updFunc_kept ?_
    with_reducible assumption
  refine KeptT.ite ?_ ?_
  · refine KeptT.next ?_
    refine State.mailbox_kept ?_
    with_reducible assumption
  · refine KeptT.next ?_
    with_reducible assumption

theorem State.barRead32_kept {r0 : State} {a0 : State} {a1 : ℕ} {a2 : ℕ} (ha0 : Kept r0 a0) : KeptP r0 (State.barRead32 a0 a1 a2) := by
  unfold State.barRead32
  extract_lets x0
  split
  · refine KeptP.mk ?_
    refine State.latchHigh_kept ?_
    with_reducible assumption
  · split
    · refine KeptP.mk ?_
      refine State.dropLatch_kept ?_
      with_reducible assumption
    · refine KeptP.mk ?_
      with_reducible assumption

theorem execLowWordRead_kept {r0 : State} {a0 : Fin 130} {a1 : BitVec 20} {a2 : Bool} {a3 : State} (ha3 : Kept r0 a3) : KeptT r0 (execLowWordRead a0 a1 a2 a3) := by
  unfold execLowWordRead
  extract_lets x0
  refine KeptT.ite ?_ ?_
  · refine KeptT.next ?_
    with_reducible assumption
  · refine KeptT.ite ?_ ?_
    · refine KeptT.next ?_
      refine State.emit_kept ?_
      with_reducible assumption
    · split
      refine KeptT.next ?_
      refine State.emit_kept ?_
      refine KeptP.elim ?_ (by with_reducible assumption)
      refine State.barRead32_kept ?_
      with_reducible assumption

theorem afterOut_kept {r0 : State} {a0 : Out} {a1 : State} (ha0 : KeptT r0 a0) (ha1 : Kept r0 a1) : Kept r0 (afterOut a0 a1) := by
  cases a0 with
  | next t => exact ha0 t rfl
  | fault _ => exact ha1
  | refused _ => exact ha1

theorem State.writeRingBase_kept {r0 : State} {a0 : State} {a1 : ℕ} {a2 : ℕ} {a3 : ℕ} {a4 : ℕ} (ha0 : Kept r0 a0) : Kept r0 (State.writeRingBase a0 a1 a2 a3 a4) := by
  unfold State.writeRingBase
  extract_lets x0
  refine Kept.ite ?_ ?_
  · refine State.hostEvent_kept ?_
    with_reducible assumption
  · refine Kept.ite ?_ ?_
    · refine State.updRing_kept ?_
      with_reducible assumption
    · refine State.updRing_kept ?_
      with_reducible assumption

theorem State.barWriteReg64_kept {r0 : State} {a0 : State} {a1 : Fin 130} {a2 : ℕ} {a3 : ℕ} (ha0 : Kept r0 a0) : Kept r0 (State.barWriteReg64 a0 a1 a2 a3) := by
  unfold State.barWriteReg64
  refine Kept.ite ?_ ?_
  · refine afterOut_kept ?_ ?_
    · refine execVfAssignWrite_kept ?_
      with_reducible assumption
    · with_reducible assumption
  · refine Kept.ite ?_ ?_
    · split
      · refine State.writeRingBase_kept ?_
        with_reducible assumption
      · with_reducible assumption
    · with_reducible assumption

theorem State.barWriteReg32_kept {r0 : State} {a0 : State} {a1 : Fin 130} {a2 : ℕ} {a3 : ℕ} (ha0 : Kept r0 a0) : Kept r0 (State.barWriteReg32 a0 a1 a2 a3) := by
  unfold State.barWriteReg32
  extract_lets x0
  refine Kept.ite ?_ ?_
  · refine State.mailbox_kept ?_
    with_reducible assumption
  · refine Kept.ite ?_ ?_
    · refine State.updFunc_kept ?_
      with_reducible assumption
    · refine Kept.ite ?_ ?_
      · with_reducible assumption
      · refine Kept.ite ?_ ?_
        · refine State.reviewVector_kept ?_
          refine State.updFunc_kept ?_
          with_reducible assumption
        · refine Kept.ite ?_ ?_
          · refine State.reviewVector_kept ?_
            refine State.updFunc_kept ?_
            with_reducible assumption
          · refine Kept.ite ?_ ?_
            · refine afterOut_kept ?_ ?_
              · refine execIntAck_kept ?_
                with_reducible assumption
              · with_reducible assumption
            · refine Kept.ite ?_ ?_
              · refine afterOut_kept ?_ ?_
                · refine execRecoverWrite_kept ?_
                  with_reducible assumption
                · with_reducible assumption
              · refine Kept.ite ?_ ?_
                · refine Kept.ite ?_ ?_
                  · refine afterOut_kept ?_ ?_
                    · refine execRingEnable_kept ?_
                      with_reducible assumption
                    · with_reducible assumption
                  · refine afterOut_kept ?_ ?_
                    · refine execRingDisable_kept ?_
                      with_reducible assumption
                    · with_reducible assumption
                · with_reducible assumption

theorem State.barWrite32_kept {r0 : State} {a0 : State} {a1 : Fin 130} {a2 : ℕ} {a3 : ℕ} (ha0 : Kept r0 a0) : Kept r0 (State.barWrite32 a0 a1 a2 a3) := by
  unfold State.barWrite32
  split
  · refine State.barWriteReg64_kept ?_
    with_reducible assumption
  · split
    · refine State.barWriteReg64_kept ?_
      with_reducible assumption
    · refine State.barWriteReg32_kept ?_
      with_reducible assumption

theorem State.barWrite_kept {r0 : State} {a0 : State} {a1 : Fin 130} {a2 : ℕ} {a3 : ℕ} {a4 : Bool} (ha0 : Kept r0 a0) : Kept r0 (State.barWrite a0 a1 a2 a3 a4) := by
  unfold State.barWrite
  refine Kept.ite ?_ ?_
  · with_reducible assumption
  · refine Kept.ite ?_ ?_
    · refine State.barWrite32_kept ?_
      with_reducible assumption
    · refine Kept.ite ?_ ?_
      · refine State.barWriteReg64_kept ?_
        with_reducible assumption
      · refine State.barWrite32_kept ?_
        refine State.barWrite32_kept ?_
        with_reducible assumption

theorem State.writePowerLimit_kept {r0 : State} {a0 : State} {a1 : ℕ} (ha0 : Kept r0 a0) : Kept r0 (State.writePowerLimit a0 a1) := by
  unfold State.writePowerLimit
  refine Kept.ite ?_ ?_
  · refine State.modPower_kept ?_
    with_reducible assumption
  · with_reducible assumption

theorem execRegisterWrite_kept {r0 : State} {a0 : RegWrite} {a1 : State} (ha1 : Kept r0 a1) : KeptT r0 (execRegisterWrite a0 a1) := by
  unfold execRegisterWrite
  split
  · extract_lets x0
    refine KeptT.next ?_
    refine State.serve_kept ?_
    with_reducible assumption
  · refine KeptT.next ?_
    refine State.barWrite_kept ?_
    with_reducible assumption
  · refine KeptT.next ?_
    refine State.writePowerLimit_kept ?_
    with_reducible assumption

theorem execFlagClear_kept {r0 : State} {a0 : FlagWrite} {a1 : State} (ha1 : Kept r0 a1) : KeptT r0 (execFlagClear a0 a1) := by
  unfold execFlagClear
  split
  · extract_lets x0
    refine KeptT.next ?_
    refine State.serve_kept ?_
    with_reducible assumption
  · refine KeptT.next ?_
    refine Kept.ite ?_ ?_
    · refine State.barWriteReg32_kept ?_
      with_reducible assumption
    · with_reducible assumption

theorem State.mgmtDiscard_kept {r0 : State} {a0 : State} (ha0 : Kept r0 a0) : Kept r0 (State.mgmtDiscard a0) := by
  unfold State.mgmtDiscard
  refine State.setFlag_kept ?_
  refine State.modCodex_kept ?_
  with_reducible assumption

theorem State.mgmtSend_kept {r0 : State} {a0 : State} {a1 : List Byte} {a2 : ℕ} {a3 : List Byte} (ha0 : Kept r0 a0) : Kept r0 (State.mgmtSend a0 a1 a2 a3) := by
  unfold State.mgmtSend
  extract_lets x0
  refine State.emit_kept ?_
  with_reducible assumption

theorem State.onArp_kept {r0 : State} {a0 : State} {a1 : List Byte} {a2 : ℕ} (ha0 : Kept r0 a0) : Kept r0 (State.onArp a0 a1 a2) := by
  unfold State.onArp
  refine Kept.ite ?_ ?_
  · refine State.mgmtSend_kept ?_
    with_reducible assumption
  · with_reducible assumption

theorem State.onUdp_kept {r0 : State} {a0 : State} {a1 : ℕ} {a2 : List Byte} {a3 : Bool} (ha0 : Kept r0 a0) : Kept r0 (State.onUdp a0 a1 a2 a3) := by
  unfold State.onUdp
  extract_lets x0
  refine Kept.ite ?_ ?_
  · refine State.serve_kept ?_
    with_reducible assumption
  · with_reducible assumption

theorem State.onIpv4_kept {r0 : State} {a0 : State} {a1 : List Byte} {a2 : ℕ} {a3 : Bool} (ha0 : Kept r0 a0) : Kept r0 (State.onIpv4 a0 a1 a2 a3) := by
  unfold State.onIpv4
  extract_lets x0 x1 x2 x3 x4 x5
  refine Kept.ite ?_ ?_
  · with_reducible assumption
  · refine Kept.ite ?_ ?_
    · refine State.mgmtDiscard_kept ?_
      with_reducible assumption
    · refine Kept.ite ?_ ?_
      · with_reducible assumption
      · refine Kept.ite ?_ ?_
        · refine Kept.ite ?_ ?_
          · split
            extract_lets x6
            refine State.mgmtSend_kept ?_
            refine KeptP.elim ?_ (by with_reducible assumption)
            refine State.freeBelow_kept ?_
            with_reducible assumption
          · with_reducible assumption
        · refine Kept.ite ?_ ?_
          · refine Kept.ite ?_ ?_
            · with_reducible assumption
            · refine Kept.ite ?_ ?_
              · refine State.mgmtDiscard_kept ?_
                with_reducible assumption
              · refine State.onUdp_kept ?_
                with_reducible assumption
          · with_reducible assumption

theorem State.sendIcmp6_kept {r0 : State} {a0 : State} {a1 : List Byte} {a2 : ℕ} {a3 : ℕ} {a4 : ℕ} {a5 : ℕ} {a6 : List Byte} (ha0 : Kept r0 a0) : Kept r0 (State.sendIcmp6 a0 a1 a2 a3 a4 a5 a6) := by
  unfold State.sendIcmp6
  refine State.mgmtSend_kept ?_
  with_reducible assumption

theorem State.onIcmp6_kept {r0 : State} {a0 : State} {a1 : List Byte} {a2 : ℕ} {a3 : ℕ} {a4 : ℕ} {a5 : List Byte} (ha0 : Kept r0 a0) : Kept r0 (State.onIcmp6 a0 a1 a2 a3 a4 a5) := by
  unfold State.onIcmp6
  extract_lets x0 x1 x2 x3
  refine Kept.ite ?_ ?_
  · with_reducible assumption
  · refine Kept.ite ?_ ?_
    · refine State.sendIcmp6_kept ?_
      with_reducible assumption
    · refine Kept.ite ?_ ?_
      · split
        refine State.sendIcmp6_kept ?_
        refine KeptP.elim ?_ (by with_reducible assumption)
        refine State.freeBelow_kept ?_
        with_reducible assumption
      · with_reducible assumption

theorem State.onIpv6_kept {r0 : State} {a0 : State} {a1 : List Byte} {a2 : ℕ} {a3 : Bool} (ha0 : Kept r0 a0) : Kept r0 (State.onIpv6 a0 a1 a2 a3) := by
  unfold State.onIpv6
  extract_lets x0 x1 x2 x3 x4 x5
  refine Kept.ite ?_ ?_
  · with_reducible assumption
  · refine Kept.ite ?_ ?_
    · refine State.mgmtDiscard_kept ?_
      with_reducible assumption
    · refine Kept.ite ?_ ?_
      · refine State.onIcmp6_kept ?_
        with_reducible assumption
      · refine Kept.ite ?_ ?_
        · refine Kept.ite ?_ ?_
          · with_reducible assumption
          · refine Kept.ite ?_ ?_
            · refine State.mgmtDiscard_kept ?_
              with_reducible assumption
            · refine State.onUdp_kept ?_
              with_reducible assumption
        · with_reducible assumption

theorem execMgmtFrameReceive_kept {r0 : State} {a0 : List Byte} {a1 : Bool} {a2 : State} (ha2 : Kept r0 a2) : KeptT r0 (execMgmtFrameReceive a0 a1 a2) := by
  unfold execMgmtFrameReceive
  extract_lets x0 x1 x2
  refine KeptT.ite ?_ ?_
  · refine KeptT.next ?_
    with_reducible assumption
  · refine KeptT.ite ?_ ?_
    · refine KeptT.next ?_
      refine State.mgmtDiscard_kept ?_
      with_reducible assumption
    · split
      · refine KeptT.next ?_
        refine State.onArp_kept ?_
        with_reducible assumption
      · refine KeptT.next ?_
        refine State.onIpv4_kept ?_
        with_reducible assumption
      · refine KeptT.next ?_
        refine State.onIpv6_kept ?_
        with_reducible assumption
      · refine KeptT.next ?_
        with_reducible assumption

/-! ### JobCmds -/

theorem execCommitDecision_kept {r0 : State} {a0 : Fin 4096} {a1 : State} (ha1 : Kept r0 a1) : KeptT r0 (execCommitDecision a0 a1) := by
  unfold execCommitDecision
  extract_lets x0
  refine KeptT.ite ?_ ?_
  · refine KeptT.next ?_
    refine State.decideCommit_kept ?_
    with_reducible assumption
  · refine KeptT.next ?_
    with_reducible assumption

theorem execJobGoLive_kept {r0 : State} {a0 : Fin 4096} {a1 : State} (ha1 : Kept r0 a1) : KeptT r0 (execJobGoLive a0 a1) := by
  unfold execJobGoLive
  extract_lets x0
  refine KeptT.ite ?_ ?_
  · refine KeptT.next ?_
    refine State.goLive_kept ?_
    with_reducible assumption
  · refine KeptT.next ?_
    with_reducible assumption

theorem execPrepareTimeout_kept {r0 : State} {a0 : Fin 4096} {a1 : State} (ha1 : Kept r0 a1) : KeptT r0 (execPrepareTimeout a0 a1) := by
  unfold execPrepareTimeout
  extract_lets x0 x1 x2
  have hx1 : Kept r0 x1 := by
    unfold x1
    refine State.jobToSet_kept ?_
    with_reducible assumption
  have hx2 : Kept r0 x2 := by
    unfold x2
    refine Kept.ite ?_ ?_
    · refine State.forEach_kept ?_ ?_
      · with_reducible assumption
      · intro a3 a4 h5
        refine State.jobToMac_kept ?_
        with_reducible assumption
    · refine State.jobToMac_kept ?_
      with_reducible assumption
  refine KeptT.ite ?_ ?_
  · refine KeptT.next ?_
    refine State.prepareEnds_kept ?_
    with_reducible assumption
  · refine KeptT.next ?_
    with_reducible assumption

theorem execDrainEnd_kept {r0 : State} {a0 : Fin 4096} {a1 : State} (ha1 : Kept r0 a1) : KeptT r0 (execDrainEnd a0 a1) := by
  unfold execDrainEnd
  refine KeptT.ite ?_ ?_
  · refine KeptT.next ?_
    refine State.endDrainJob_kept ?_
    with_reducible assumption
  · refine KeptT.next ?_
    with_reducible assumption

theorem execQuarantineEnd_kept {r0 : State} {a0 : Fin 4096} {a1 : State} (ha1 : Kept r0 a1) : KeptT r0 (execQuarantineEnd a0 a1) := by
  unfold execQuarantineEnd
  extract_lets x0
  refine KeptT.ite ?_ ?_
  · refine KeptT.next ?_
    refine State.updSlot_kept ?_
    with_reducible assumption
  · refine KeptT.next ?_
    with_reducible assumption

theorem execScrubRangeDone_kept {r0 a0 : State} (ha0 : Kept r0 a0) : KeptT r0 (execScrubRangeDone a0) := by
  unfold execScrubRangeDone
  split
  · exact KeptT.next ha0
  · refine KeptT.ite (KeptT.next ha0) (KeptT.next (State.modFaults_kept (State.modMem_kept ha0 (fun m h => ?_)) (fun _ h => h)))
    have k := MemSt.wf_iff.1 h
    exact MemSt.wf_iff.2 ⟨Tab.wf_filter _ k.1, k.2⟩

theorem execJobShareSend_kept {r0 : State} {a0 : Fin 4096} {a1 : State} (ha1 : Kept r0 a1) : KeptT r0 (execJobShareSend a0 a1) := by
  unfold execJobShareSend
  extract_lets x0
  refine KeptT.ite ?_ ?_
  · refine KeptT.next ?_
    refine State.sendShare_kept ?_
    with_reducible assumption
  · refine KeptT.next ?_
    with_reducible assumption

/-! ### Margin -/

theorem State.marginHop_kept {r0 : State} {a0 : State} {a1 : ℕ} {a2 : List Byte} (ha0 : Kept r0 a0) : Kept r0 (State.marginHop a0 a1 a2) := by
  unfold State.marginHop
  refine State.countFibre_kept ?_
  refine State.updFibre_kept ?_
  with_reducible assumption

theorem State.marginTake_kept {r0 : State} {a0 : State} {a1 : ℕ} {a2 : ℕ} {a3 : List Byte} {a4 : State → List Byte → State} (ha0 : Kept r0 a0) (ha4 : ∀ v0 v1, Kept r0 v0 → Kept r0 (a4 v0 v1)) : Kept r0 (State.marginTake a0 a1 a2 a3 a4) := by
  unfold State.marginTake
  split
  · refine Kept.ite ?_ ?_
    · refine pumpMargin_kept ?_
      refine ha4 _ _ ?_
      refine State.marginHop_kept ?_
      with_reducible assumption
    · with_reducible assumption
  · with_reducible assumption

theorem execKeepaliveReceive_kept {r0 : State} {a0 : Fin 64} {a1 : List Byte} {a2 : State} (ha2 : Kept r0 a2) : KeptT r0 (execKeepaliveReceive a0 a1 a2) := by
  unfold execKeepaliveReceive
  refine KeptT.next ?_
  refine State.marginTake_kept ?_ ?_
  · with_reducible assumption
  · intro a0 a1 h2
    with_reducible assumption

theorem execHelloReceive_kept {r0 : State} {a0 : Fin 64} {a1 : List Byte} {a2 : State} (ha2 : Kept r0 a2) : KeptT r0 (execHelloReceive a0 a1 a2) := by
  unfold execHelloReceive
  refine KeptT.next ?_
  refine State.marginTake_kept ?_ ?_
  · with_reducible assumption
  · intro a0 a1 h2
    refine onHello_kept ?_
    with_reducible assumption

theorem execLaneDropReceive_kept {r0 : State} {a0 : Fin 64} {a1 : List Byte} {a2 : State} (ha2 : Kept r0 a2) : KeptT r0 (execLaneDropReceive a0 a1 a2) := by
  unfold execLaneDropReceive
  refine KeptT.next ?_
  refine State.marginTake_kept ?_ ?_
  · with_reducible assumption
  · intro a0 a1 h2
    refine onLaneDrop_kept ?_
    with_reducible assumption

theorem execLaneAddReceive_kept {r0 : State} {a0 : Fin 64} {a1 : List Byte} {a2 : State} (ha2 : Kept r0 a2) : KeptT r0 (execLaneAddReceive a0 a1 a2) := by
  unfold execLaneAddReceive
  refine KeptT.next ?_
  refine State.marginTake_kept ?_ ?_
  · with_reducible assumption
  · intro a0 a1 h2
    refine onLaneAdd_kept ?_
    with_reducible assumption

theorem execLaneAddConfirmReceive_kept {r0 : State} {a0 : Fin 64} {a1 : List Byte} {a2 : State} (ha2 : Kept r0 a2) : KeptT r0 (execLaneAddConfirmReceive a0 a1 a2) := by
  unfold execLaneAddConfirmReceive
  refine KeptT.next ?_
  refine State.marginTake_kept ?_ ?_
  · with_reducible assumption
  · intro a0 a1 h2
    refine onLaneAddConfirm_kept ?_
    with_reducible assumption

theorem execErrorReportReceive_kept {r0 : State} {a0 : Fin 64} {a1 : List Byte} {a2 : State} (ha2 : Kept r0 a2) : KeptT r0 (execErrorReportReceive a0 a1 a2) := by
  unfold execErrorReportReceive
  refine KeptT.next ?_
  refine State.marginTake_kept ?_ ?_
  · with_reducible assumption
  · intro a0 a1 h2
    refine onErrorReport_kept ?_
    with_reducible assumption

theorem execPilotFaultReceive_kept {r0 : State} {a0 : Fin 64} {a1 : List Byte} {a2 : State} (ha2 : Kept r0 a2) : KeptT r0 (execPilotFaultReceive a0 a1 a2) := by
  unfold execPilotFaultReceive
  refine KeptT.next ?_
  refine State.marginTake_kept ?_ ?_
  · with_reducible assumption
  · intro a0 a1 h2
    refine onPilotFault_kept ?_
    with_reducible assumption

theorem execChangeoverNoticeReceive_kept {r0 : State} {a0 : Fin 64} {a1 : List Byte} {a2 : State} (ha2 : Kept r0 a2) : KeptT r0 (execChangeoverNoticeReceive a0 a1 a2) := by
  unfold execChangeoverNoticeReceive
  refine KeptT.next ?_
  refine State.marginTake_kept ?_ ?_
  · with_reducible assumption
  · intro a0 a1 h2
    refine onChangeover_kept ?_
    with_reducible assumption

theorem execChangeoverAckReceive_kept {r0 : State} {a0 : Fin 64} {a1 : List Byte} {a2 : State} (ha2 : Kept r0 a2) : KeptT r0 (execChangeoverAckReceive a0 a1 a2) := by
  unfold execChangeoverAckReceive
  refine KeptT.next ?_
  refine State.marginTake_kept ?_ ?_
  · with_reducible assumption
  · intro a0 a1 h2
    refine onChangeoverAck_kept ?_
    with_reducible assumption

theorem execCircuitAckReceive_kept {r0 : State} {a0 : Fin 64} {a1 : List Byte} {a2 : State} (ha2 : Kept r0 a2) : KeptT r0 (execCircuitAckReceive a0 a1 a2) := by
  unfold execCircuitAckReceive
  extract_lets x0
  have hx0 : Kept r0 x0 := by
    unfold x0
    refine State.marginTake_kept ?_ ?_
    · with_reducible assumption
    · intro a1 a2 h3
      refine onCircuit_kept ?_
      with_reducible assumption
  refine KeptT.next ?_
  refine State.marginTake_kept ?_ ?_
  · with_reducible assumption
  · intro a4 a5 h6
    refine onCircuitAck_kept ?_
    with_reducible assumption

theorem onAbort_kept {r0 : State} {a0 : State} {a1 : ℕ} {a2 : List Byte} (ha0 : Kept r0 a0) : Kept r0 (onAbort a0 a1 a2) := by
  unfold onAbort
  extract_lets x0
  refine Kept.ite ?_ ?_
  · refine State.countFibre_kept ?_
    with_reducible assumption
  · refine Kept.ite ?_ ?_
    · with_reducible assumption
    · refine abortJobsOnFibre_kept ?_
      refine State.updFibre_kept ?_
      with_reducible assumption

theorem execAbortReceive_kept {r0 : State} {a0 : Fin 64} {a1 : List Byte} {a2 : State} (ha2 : Kept r0 a2) : KeptT r0 (execAbortReceive a0 a1 a2) := by
  unfold execAbortReceive
  refine KeptT.next ?_
  refine State.marginTake_kept ?_ ?_
  · with_reducible assumption
  · intro a0 a1 h2
    refine onAbort_kept ?_
    with_reducible assumption

theorem State.timeTake_kept {r0 : State} {a0 : State} {a1 : ℕ} {a2 : List Byte} {a3 : List Byte → Bool} (ha0 : Kept r0 a0) : Kept r0 (State.timeTake a0 a1 a2 a3) := by
  unfold State.timeTake
  split
  · refine Kept.ite ?_ ?_
    · refine State.marginTake_kept ?_ ?_
      · with_reducible assumption
      · intro a0 a1 h2
        refine onTime_kept ?_
        with_reducible assumption
    · with_reducible assumption
  · with_reducible assumption

theorem execPtpSyncReceive_kept {r0 : State} {a0 : Fin 64} {a1 : List Byte} {a2 : State} (ha2 : Kept r0 a2) : KeptT r0 (execPtpSyncReceive a0 a1 a2) := by
  unfold execPtpSyncReceive
  refine KeptT.next ?_
  refine State.timeTake_kept ?_
  with_reducible assumption

theorem execPtpDelayReqReceive_kept {r0 : State} {a0 : Fin 64} {a1 : List Byte} {a2 : State} (ha2 : Kept r0 a2) : KeptT r0 (execPtpDelayReqReceive a0 a1 a2) := by
  unfold execPtpDelayReqReceive
  refine KeptT.next ?_
  refine State.timeTake_kept ?_
  with_reducible assumption

theorem execPtpDelayRespReceive_kept {r0 : State} {a0 : Fin 64} {a1 : List Byte} {a2 : State} (ha2 : Kept r0 a2) : KeptT r0 (execPtpDelayRespReceive a0 a1 a2) := by
  unfold execPtpDelayRespReceive
  refine KeptT.next ?_
  refine State.timeTake_kept ?_
  with_reducible assumption

theorem execPtpAnnounceReceive_kept {r0 : State} {a0 : Fin 64} {a1 : List Byte} {a2 : State} (ha2 : Kept r0 a2) : KeptT r0 (execPtpAnnounceReceive a0 a1 a2) := by
  unfold execPtpAnnounceReceive
  refine KeptT.next ?_
  refine State.timeTake_kept ?_
  with_reducible assumption

theorem State.jobTake_kept {r0 : State} {a0 : State} {a1 : ℕ} {a2 : List Byte} {a3 : List Byte → Bool} (ha0 : Kept r0 a0) : Kept r0 (State.jobTake a0 a1 a2 a3) := by
  unfold State.jobTake
  split
  · refine Kept.ite ?_ ?_
    · refine State.marginTake_kept ?_ ?_
      · with_reducible assumption
      · intro a0 a1 h2
        refine onJob_kept ?_
        with_reducible assumption
    · with_reducible assumption
  · with_reducible assumption

theorem execJobAckReceive_kept {r0 : State} {a0 : Fin 64} {a1 : List Byte} {a2 : State} (ha2 : Kept r0 a2) : KeptT r0 (execJobAckReceive a0 a1 a2) := by
  unfold execJobAckReceive
  refine KeptT.next ?_
  refine State.jobTake_kept ?_
  with_reducible assumption

theorem execJobShareReceive_kept {r0 : State} {a0 : Fin 64} {a1 : List Byte} {a2 : State} (ha2 : Kept r0 a2) : KeptT r0 (execJobShareReceive a0 a1 a2) := by
  unfold execJobShareReceive
  refine KeptT.next ?_
  refine State.jobTake_kept ?_
  with_reducible assumption

theorem execJobCommitReceive_kept {r0 : State} {a0 : Fin 64} {a1 : List Byte} {a2 : State} (ha2 : Kept r0 a2) : KeptT r0 (execJobCommitReceive a0 a1 a2) := by
  unfold execJobCommitReceive
  refine KeptT.next ?_
  refine State.jobTake_kept ?_
  with_reducible assumption

theorem execJobCancelReceive_kept {r0 : State} {a0 : Fin 64} {a1 : List Byte} {a2 : State} (ha2 : Kept r0 a2) : KeptT r0 (execJobCancelReceive a0 a1 a2) := by
  unfold execJobCancelReceive
  refine KeptT.next ?_
  refine State.jobTake_kept ?_
  with_reducible assumption

theorem execJobTeardownReceive_kept {r0 : State} {a0 : Fin 64} {a1 : List Byte} {a2 : State} (ha2 : Kept r0 a2) : KeptT r0 (execJobTeardownReceive a0 a1 a2) := by
  unfold execJobTeardownReceive
  refine KeptT.next ?_
  refine State.jobTake_kept ?_
  with_reducible assumption

theorem execJobAbortReceive_kept {r0 : State} {a0 : Fin 64} {a1 : List Byte} {a2 : State} (ha2 : Kept r0 a2) : KeptT r0 (execJobAbortReceive a0 a1 a2) := by
  unfold execJobAbortReceive
  refine KeptT.next ?_
  refine State.jobTake_kept ?_
  with_reducible assumption

theorem onCarry_kept {r0 : State} {a0 : State} {a1 : ℕ} {a2 : List Byte} (ha0 : Kept r0 a0) : Kept r0 (onCarry a0 a1 a2) := by
  unfold onCarry
  extract_lets x0
  refine Kept.ite ?_ ?_
  · refine State.modTables_kept ?_
    with_reducible assumption
  · refine State.countMisc_kept ?_
    with_reducible assumption

theorem execCarryReceive_kept {r0 : State} {a0 : Fin 64} {a1 : List Byte} {a2 : State} (ha2 : Kept r0 a2) : KeptT r0 (execCarryReceive a0 a1 a2) := by
  unfold execCarryReceive
  refine KeptT.next ?_
  refine State.marginTake_kept ?_ ?_
  · with_reducible assumption
  · intro a0 a1 h2
    refine onCarry_kept ?_
    with_reducible assumption

theorem execDigestReceive_kept {r0 : State} {a0 : Fin 64} {a1 : List Byte} {a2 : State} (ha2 : Kept r0 a2) : KeptT r0 (execDigestReceive a0 a1 a2) := by
  unfold execDigestReceive
  refine KeptT.next ?_
  refine State.marginTake_kept ?_ ?_
  · with_reducible assumption
  · intro a0 a1 h2
    refine onDigest_kept ?_
    with_reducible assumption

theorem execSchedFrameReceive_kept {r0 : State} {a0 : Fin 64} {a1 : List Byte} {a2 : State} (ha2 : Kept r0 a2) : KeptT r0 (execSchedFrameReceive a0 a1 a2) := by
  unfold execSchedFrameReceive
  refine KeptT.next ?_
  refine State.marginTake_kept ?_ ?_
  · with_reducible assumption
  · intro a0 a1 h2
    refine onSched_kept ?_
    with_reducible assumption

theorem execRelayFrameReceive_kept {r0 : State} {a0 : Fin 64} {a1 : List Byte} {a2 : State} (ha2 : Kept r0 a2) : KeptT r0 (execRelayFrameReceive a0 a1 a2) := by
  unfold execRelayFrameReceive
  split
  · refine KeptT.next ?_
    refine relayFrame_kept ?_
    refine State.countFibre_kept ?_
    with_reducible assumption
  · refine KeptT.next ?_
    with_reducible assumption

theorem execMarginFrameDiscard_kept {r0 : State} {a0 : Fin 64} {a1 : List Byte} {a2 : State} (ha2 : Kept r0 a2) : KeptT r0 (execMarginFrameDiscard a0 a1 a2) := by
  unfold execMarginFrameDiscard
  split
  · refine KeptT.next ?_
    refine State.setFlag_kept ?_
    refine State.countFibre_kept ?_
    with_reducible assumption
  · refine KeptT.next ?_
    refine State.countFibre_kept ?_
    with_reducible assumption
  · refine KeptT.next ?_
    refine State.setFlag_kept ?_
    refine State.countFibre_kept ?_
    with_reducible assumption
  · refine KeptT.next ?_
    refine State.countMisc_kept ?_
    with_reducible assumption
  · refine KeptT.next ?_
    with_reducible assumption

theorem execKeepaliveSend_kept {r0 : State} {a0 : Fin 64} {a1 : State} (ha1 : Kept r0 a1) : KeptT r0 (execKeepaliveSend a0 a1) := by
  unfold execKeepaliveSend
  extract_lets x0
  refine KeptT.ite ?_ ?_
  · refine KeptT.next ?_
    refine sendPlain_kept ?_
    with_reducible assumption
  · refine KeptT.next ?_
    with_reducible assumption

theorem State.resendHeld_kept {r0 : State} {a0 : State} {a1 : ℕ} {a2 : ℕ × MarginFrame} (ha0 : Kept r0 a0) : Kept r0 (State.resendHeld a0 a1 a2) := by
  unfold State.resendHeld
  refine State.countFibre_kept ?_
  refine State.countFibre_kept ?_
  refine State.emit_kept ?_
  with_reducible assumption

theorem execMarginResendTimeout_kept {r0 : State} {a0 : Fin 64} {a1 : State} (ha1 : Kept r0 a1) : KeptT r0 (execMarginResendTimeout a0 a1) := by
  unfold execMarginResendTimeout
  extract_lets x0
  refine KeptT.ite ?_ ?_
  · refine KeptT.next ?_
    refine State.forEach_kept ?_ ?_
    · with_reducible assumption
    · intro a1 a2 h3
      refine State.resendHeld_kept ?_
      with_reducible assumption
  · refine KeptT.next ?_
    with_reducible assumption

theorem execMarginLossDetect_kept {r0 : State} {a0 : Fin 64} {a1 : State} (ha1 : Kept r0 a1) : KeptT r0 (execMarginLossDetect a0 a1) := by
  unfold execMarginLossDetect
  refine KeptT.ite ?_ ?_
  · refine KeptT.next ?_
    refine State.dropPtp_kept ?_
    refine marginLost_kept ?_
    with_reducible assumption
  · refine KeptT.next ?_
    with_reducible assumption

theorem execRxLos_kept {r0 : State} {a0 : Fin 64} {a1 : State} (ha1 : Kept r0 a1) : KeptT r0 (execRxLos a0 a1) := by
  unfold execRxLos
  refine KeptT.next ?_
  refine State.dropPtp_kept ?_
  refine rxLos_kept ?_
  with_reducible assumption

end Sys2Proof.Machine
end

