-- ==== Sys2Proof/Laws/Kept12.lean ====
section
/-!
SUPPORT. What the operations and commands of these files keep: PowerCmds, Idle.
-/

set_option Elab.async false

namespace Sys2Proof.Machine

/-! ### PowerCmds -/

theorem execEnRise_kept {r0 : State} {a0 : State} (ha0 : Kept r0 a0) : KeptT r0 (execEnRise a0) := by
  unfold execEnRise
  refine KeptT.ite ?_ ?_
  · refine KeptT.next ?_
    with_reducible assumption
  · refine KeptT.next ?_
    refine State.reviewEnAgain_kept ?_
    refine State.modPower_kept ?_
    refine State.reviewEnLow_kept ?_
    with_reducible assumption

theorem execEnFall_kept {r0 : State} {a0 : ShutdownEnv} {a1 : State} (ha1 : Kept r0 a1) : KeptT r0 (execEnFall a0 a1) := by
  unfold execEnFall
  extract_lets x0
  have hx0 : Kept r0 x0 := by
    unfold x0
    refine State.modPower_kept ?_
    with_reducible assumption
  refine KeptT.ite ?_ ?_
  · refine KeptT.next ?_
    with_reducible assumption
  · refine KeptT.ite ?_ ?_
    · refine KeptT.next ?_
      with_reducible assumption
    · refine KeptT.ite ?_ ?_
      · refine KeptT.next ?_
        refine State.railsOff_kept ?_
        with_reducible assumption
      · refine KeptT.next ?_
        refine State.orderly_kept ?_
        with_reducible assumption

theorem execHoldupWarnAssert_kept {r0 : State} {a0 : ShutdownEnv} {a1 : State} (ha1 : Kept r0 a1) : KeptT r0 (execHoldupWarnAssert a0 a1) := by
  unfold execHoldupWarnAssert
  extract_lets x0
  have hx0 : Kept r0 x0 := by
    unfold x0
    refine State.modPower_kept ?_
    with_reducible assumption
  refine KeptT.next ?_
  refine Kept.ite ?_ ?_
  · refine State.orderly_kept ?_
    with_reducible assumption
  · with_reducible assumption

theorem execVinUndervoltage_kept {r0 : State} {a0 : State} (ha0 : Kept r0 a0) : KeptT r0 (execVinUndervoltage a0) := by
  unfold execVinUndervoltage
  extract_lets x0
  have hx0 : Kept r0 x0 := by
    unfold x0
    refine State.modPower_kept ?_
    with_reducible assumption
  refine KeptT.next ?_
  refine Kept.ite ?_ ?_
  · refine State.abrupt_kept ?_
    with_reducible assumption
  · with_reducible assumption

theorem execVinOvervoltage_kept {r0 : State} {a0 : ShutdownEnv} {a1 : State} (ha1 : Kept r0 a1) : KeptT r0 (execVinOvervoltage a0 a1) := by
  unfold execVinOvervoltage
  extract_lets x0
  have hx0 : Kept r0 x0 := by
    unfold x0
    refine State.modPower_kept ?_
    with_reducible assumption
  refine KeptT.next ?_
  refine Kept.ite ?_ ?_
  · refine State.orderly_kept ?_
    with_reducible assumption
  · with_reducible assumption

theorem State.pwrFlag_kept {r0 : State} {a0 : State} {a1 : ℕ} (ha0 : Kept r0 a0) : Kept r0 (State.pwrFlag a0 a1) := by
  unfold State.pwrFlag
  refine State.setFlagIf_kept ?_
  with_reducible assumption

theorem execVinBelow30v_kept {r0 : State} {a0 : State} (ha0 : Kept r0 a0) : KeptT r0 (execVinBelow30v a0) := by
  unfold execVinBelow30v
  refine KeptT.next ?_
  refine State.pwrFlag_kept ?_
  with_reducible assumption

theorem execVinAbove40v_kept {r0 : State} {a0 : State} (ha0 : Kept r0 a0) : KeptT r0 (execVinAbove40v a0) := by
  unfold execVinAbove40v
  refine KeptT.next ?_
  refine State.pwrFlag_kept ?_
  with_reducible assumption

theorem execInputCurrentLimit_kept {r0 : State} {a0 : State} (ha0 : Kept r0 a0) : KeptT r0 (execInputCurrentLimit a0) := by
  unfold execInputCurrentLimit
  refine KeptT.next ?_
  refine Kept.ite ?_ ?_
  · refine State.pwrFlag_kept ?_
    refine State.modPower_kept ?_
    with_reducible assumption
  · with_reducible assumption

theorem execIlimitTimeout_kept {r0 : State} {a0 : State} (ha0 : Kept r0 a0) : KeptT r0 (execIlimitTimeout a0) := by
  unfold execIlimitTimeout
  extract_lets x0
  refine KeptT.ite ?_ ?_
  · refine KeptT.next ?_
    with_reducible assumption
  · refine KeptT.next ?_
    refine State.modPower_kept ?_
    refine State.abrupt_kept ?_
    with_reducible assumption

theorem execAutoRestart_kept {r0 : State} {a0 : State} (ha0 : Kept r0 a0) : KeptT r0 (execAutoRestart a0) := by
  unfold execAutoRestart
  refine KeptT.ite ?_ ?_
  · refine KeptT.next ?_
    refine State.railsStart_kept ?_
    refine State.modPower_kept ?_
    with_reducible assumption
  · refine KeptT.next ?_
    with_reducible assumption

theorem execHoldupRestart_kept {r0 : State} {a0 : State} (ha0 : Kept r0 a0) : KeptT r0 (execHoldupRestart a0) := by
  unfold execHoldupRestart
  refine KeptT.ite ?_ ?_
  · refine KeptT.next ?_
    refine State.railsStart_kept ?_
    refine State.modPower_kept ?_
    with_reducible assumption
  · refine KeptT.next ?_
    with_reducible assumption

theorem execVinStartThreshold_kept {r0 : State} {a0 : State} (ha0 : Kept r0 a0) : KeptT r0 (execVinStartThreshold a0) := by
  unfold execVinStartThreshold
  extract_lets x0 x1
  have hx1 : Kept r0 x1 := by
    unfold x1
    refine State.modPower_kept ?_
    with_reducible assumption
  refine KeptT.next ?_
  refine Kept.ite ?_ ?_
  · with_reducible assumption
  · refine State.railsStart_kept ?_
    with_reducible assumption

theorem execVio1v8Overload_kept {r0 : State} {a0 : State} (ha0 : Kept r0 a0) : KeptT r0 (execVio1v8Overload a0) := by
  unfold execVio1v8Overload
  refine KeptT.ite ?_ ?_
  · refine KeptT.next ?_
    refine State.modPower_kept ?_
    refine State.holdCore_kept ?_
    with_reducible assumption
  · refine KeptT.next ?_
    with_reducible assumption

theorem execSysclkLoss_kept {r0 : State} {a0 : State} (ha0 : Kept r0 a0) : KeptT r0 (execSysclkLoss a0) := by
  unfold execSysclkLoss
  extract_lets x0
  have hx0 : Kept r0 x0 := by
    unfold x0
    refine State.modPower_kept ?_
    with_reducible assumption
  refine KeptT.next ?_
  refine Kept.ite ?_ ?_
  · refine State.modPower_kept ?_
    refine State.abrupt_kept ?_
    with_reducible assumption
  · with_reducible assumption

theorem execSysclkAbsent_kept {r0 : State} {a0 : State} (ha0 : Kept r0 a0) : KeptT r0 (execSysclkAbsent a0) := by
  unfold execSysclkAbsent
  refine KeptT.ite ?_ ?_
  · refine KeptT.next ?_
    refine State.holdCore_kept ?_
    refine State.modPower_kept ?_
    with_reducible assumption
  · refine KeptT.next ?_
    with_reducible assumption

theorem execSysclkReturn_kept {r0 : State} {a0 : State} (ha0 : Kept r0 a0) : KeptT r0 (execSysclkReturn a0) := by
  unfold execSysclkReturn
  extract_lets x0 x1
  have hx0 : Kept r0 x0 := by
    unfold x0
    refine State.modPower_kept ?_
    with_reducible assumption
  have hx1 : Kept r0 x1 := by
    unfold x1
    refine Kept.ite ?_ ?_
    · refine State.railsOff_kept ?_
      with_reducible assumption
    · with_reducible assumption
  refine KeptT.ite ?_ ?_
  · refine KeptT.next ?_
    with_reducible assumption
  · refine KeptT.ite ?_ ?_
    · refine KeptT.next ?_
      refine State.railsStart_kept ?_
      refine State.modPower_kept ?_
      with_reducible assumption
    · refine KeptT.ite ?_ ?_
      · refine KeptT.next ?_
        refine State.railsStart_kept ?_
        with_reducible assumption
      · refine KeptT.next ?_
        with_reducible assumption

theorem execRailGroupRegulated_kept {r0 : State} {a0 : State} (ha0 : Kept r0 a0) : KeptT r0 (execRailGroupRegulated a0) := by
  unfold execRailGroupRegulated
  refine KeptT.ite ?_ ?_
  · refine KeptT.next ?_
    with_reducible assumption
  · refine KeptT.ite ?_ ?_
    · refine KeptT.next ?_
      refine State.modPower_kept ?_
      with_reducible assumption
    · refine KeptT.next ?_
      refine State.modBoot_kept ?_
      refine State.modPower_kept ?_
      with_reducible assumption

theorem execRailFault_kept {r0 : State} {a0 : State} (ha0 : Kept r0 a0) : KeptT r0 (execRailFault a0) := by
  unfold execRailFault
  refine KeptT.ite ?_ ?_
  · refine KeptT.next ?_
    with_reducible assumption
  · refine KeptT.next ?_
    refine State.modPower_kept ?_
    refine State.railsOff_kept ?_
    with_reducible assumption

theorem execRailRetry_kept {r0 : State} {a0 : State} (ha0 : Kept r0 a0) : KeptT r0 (execRailRetry a0) := by
  unfold execRailRetry
  refine KeptT.ite ?_ ?_
  · refine KeptT.next ?_
    refine State.railsStart_kept ?_
    with_reducible assumption
  · refine KeptT.next ?_
    with_reducible assumption

theorem State.setHeat_kept {r0 : State} {a0 : State} {a1 : Sensor} {a2 : ℕ} (ha0 : Kept r0 a0) : Kept r0 (State.setHeat a0 a1 a2) := by
  unfold State.setHeat
  refine State.modPower_kept ?_
  with_reducible assumption

theorem State.reviewFloor_kept {r0 : State} {a0 : State} (ha0 : Kept r0 a0) : Kept r0 (State.reviewFloor a0) := by
  unfold State.reviewFloor
  refine State.setFlagIf_kept ?_
  with_reducible assumption

theorem State.throttleUp_kept {r0 : State} {a0 : State} {a1 : ThrottleCause} (ha0 : Kept r0 a0) : Kept r0 (State.throttleUp a0 a1) := by
  unfold State.throttleUp
  extract_lets x0 x1
  have hx1 : Kept r0 x1 := by
    unfold x1
    refine State.modPower_kept ?_
    with_reducible assumption
  refine State.setFlagIf_kept ?_
  with_reducible assumption

theorem execThrottleDemandRise_kept {r0 : State} {a0 : ThrottleCause} {a1 : State} (ha1 : Kept r0 a1) : KeptT r0 (execThrottleDemandRise a0 a1) := by
  unfold execThrottleDemandRise
  refine KeptT.ite ?_ ?_
  · refine KeptT.next ?_
    with_reducible assumption
  · split
    · extract_lets x0
      have hx0 : Kept r0 x0 := by
        unfold x0
        refine State.reviewFloor_kept ?_
        refine State.modPower_kept ?_
        with_reducible assumption
      refine KeptT.next ?_
      refine Kept.ite ?_ ?_
      · refine State.throttleUp_kept ?_
        with_reducible assumption
      · with_reducible assumption
    · refine KeptT.ite ?_ ?_
      · refine KeptT.next ?_
        refine State.reviewFloor_kept ?_
        refine State.throttleUp_kept ?_
        with_reducible assumption
      · refine KeptT.next ?_
        with_reducible assumption

theorem execThrottleDemandFall_kept {r0 : State} {a0 : ThrottleCause} {a1 : State} (ha1 : Kept r0 a1) : KeptT r0 (execThrottleDemandFall a0 a1) := by
  unfold execThrottleDemandFall
  refine KeptT.ite ?_ ?_
  · refine KeptT.next ?_
    with_reducible assumption
  · split
    · extract_lets x0
      have hx0 : Kept r0 x0 := by
        unfold x0
        refine State.modPower_kept ?_
        with_reducible assumption
      refine KeptT.next ?_
      refine Kept.ite ?_ ?_
      · refine State.modPower_kept ?_
        with_reducible assumption
      · refine State.reviewFloor_kept ?_
        with_reducible assumption
    · refine KeptT.ite ?_ ?_
      · refine KeptT.next ?_
        with_reducible assumption
      · refine KeptT.next ?_
        refine State.reviewFloor_kept ?_
        refine State.modPower_kept ?_
        with_reducible assumption

theorem execSensorWarning_kept {r0 : State} {a0 : Sensor} {a1 : Bool} {a2 : State} (ha2 : Kept r0 a2) : KeptT r0 (execSensorWarning a0 a1 a2) := by
  unfold execSensorWarning
  extract_lets x0 x1
  have hx0 : Kept r0 x0 := by
    unfold x0
    refine State.setHeat_kept ?_
    with_reducible assumption
  have hx1 : Kept r0 x1 := by
    unfold x1
    refine State.setFlag_kept ?_
    refine State.setHeat_kept ?_
    with_reducible assumption
  refine KeptT.ite ?_ ?_
  · refine KeptT.next ?_
    with_reducible assumption
  · refine KeptT.ite ?_ ?_
    · split
      · refine KeptT.next ?_
        refine State.updEngine_kept ?_
        with_reducible assumption
      · refine KeptT.next ?_
        with_reducible assumption
    · split
      · extract_lets x2
        have hx2 : Kept r0 x2 := by
          unfold x2
          refine State.setFlag_kept ?_
          refine State.updEngine_kept ?_
          with_reducible assumption
        refine KeptT.next ?_
        refine State.forEach_kept ?_ ?_
        · with_reducible assumption
        · intro a3 a4 h5
          refine abandonTrial_kept ?_
          with_reducible assumption
      · refine KeptT.next ?_
        refine State.setFlag_kept ?_
        with_reducible assumption
      · refine KeptT.next ?_
        with_reducible assumption

theorem execSensorThrottle_kept {r0 : State} {a0 : Sensor} {a1 : Bool} {a2 : State} (ha2 : Kept r0 a2) : KeptT r0 (execSensorThrottle a0 a1 a2) := by
  unfold execSensorThrottle
  extract_lets x0
  have hx0 : Kept r0 x0 := by
    unfold x0
    refine State.setHeat_kept ?_
    with_reducible assumption
  refine KeptT.ite ?_ ?_
  · refine KeptT.next ?_
    with_reducible assumption
  · refine KeptT.ite ?_ ?_
    · refine KeptT.next ?_
      refine State.setHeat_kept ?_
      with_reducible assumption
    · split
      · extract_lets x1
        refine KeptT.ite ?_ ?_
        · refine KeptT.next ?_
          refine State.reviewFloor_kept ?_
          refine State.throttleUp_kept ?_
          with_reducible assumption
        · refine KeptT.next ?_
          with_reducible assumption
      · refine KeptT.next ?_
        refine Kept.ite ?_ ?_
        · refine State.reviewFloor_kept ?_
          with_reducible assumption
        · with_reducible assumption

theorem execSensorTrip_kept {r0 : State} {a0 : Sensor} {a1 : State} (ha1 : Kept r0 a1) : KeptT r0 (execSensorTrip a0 a1) := by
  unfold execSensorTrip
  refine KeptT.ite ?_ ?_
  · refine KeptT.next ?_
    refine State.trip_kept ?_
    refine State.setHeat_kept ?_
    with_reducible assumption
  · refine KeptT.next ?_
    with_reducible assumption

/-! ### Idle -/

theorem State.idle_kept {r0 : State} {a0 : State} (ha0 : Kept r0 a0) : Kept r0 (State.idle a0) := by
  unfold State.idle
  refine State.scrubTick_kept ?_
  refine State.fillTick_kept ?_
  refine State.arraysTick_kept ?_
  refine State.reviewDeactivate_kept ?_
  refine State.reviewSettled_kept ?_
  refine State.reviewEnAgain_kept ?_
  refine State.reviewEnLow_kept ?_
  refine State.timeTick_kept ?_
  exact ha0

end Sys2Proof.Machine
end

