-- ==== Sys2Proof/Laws/State.lean ====
section
/-!
SUPPORT. For each update of the state, what it leaves of every field; and what an update of one entry of a table leaves of
the entries.
-/

set_option Elab.async false

namespace Sys2Proof.Machine

variable (s : State)


@[simp] theorem State.modPower_power (g : Power → Power) : (s.modPower g).power = g s.power := rfl
@[simp] theorem State.modPower_boot (g : Power → Power) : (s.modPower g).boot = s.boot := rfl
@[simp] theorem State.modPower_flash (g : Power → Power) : (s.modPower g).flash = s.flash := rfl
@[simp] theorem State.modPower_fibres (g : Power → Power) : (s.modPower g).fibres = s.fibres := rfl
@[simp] theorem State.modPower_links (g : Power → Power) : (s.modPower g).links = s.links := rfl
@[simp] theorem State.modPower_engines (g : Power → Power) : (s.modPower g).engines = s.engines := rfl
@[simp] theorem State.modPower_hatch (g : Power → Power) : (s.modPower g).hatch = s.hatch := rfl
@[simp] theorem State.modPower_time (g : Power → Power) : (s.modPower g).time = s.time := rfl
@[simp] theorem State.modPower_folio (g : Power → Power) : (s.modPower g).folio = s.folio := rfl
@[simp] theorem State.modPower_codex (g : Power → Power) : (s.modPower g).codex = s.codex := rfl
@[simp] theorem State.modPower_slots (g : Power → Power) : (s.modPower g).slots = s.slots := rfl
@[simp] theorem State.modPower_faults (g : Power → Power) : (s.modPower g).faults = s.faults := rfl
@[simp] theorem State.modPower_mem (g : Power → Power) : (s.modPower g).mem = s.mem := rfl
@[simp] theorem State.modPower_tables (g : Power → Power) : (s.modPower g).tables = s.tables := rfl
@[simp] theorem State.modPower_core (g : Power → Power) : (s.modPower g).core = s.core := rfl
@[simp] theorem State.modPower_ductus (g : Power → Power) : (s.modPower g).ductus = s.ductus := rfl
@[simp] theorem State.modPower_nibs (g : Power → Power) : (s.modPower g).nibs = s.nibs := rfl
@[simp] theorem State.modPower_progs (g : Power → Power) : (s.modPower g).progs = s.progs := rfl
@[simp] theorem State.modPower_coll (g : Power → Power) : (s.modPower g).coll = s.coll := rfl
@[simp] theorem State.modPower_host (g : Power → Power) : (s.modPower g).host = s.host := rfl
@[simp] theorem State.modPower_lig (g : Power → Power) : (s.modPower g).lig = s.lig := rfl
@[simp] theorem State.modPower_sec (g : Power → Power) : (s.modPower g).sec = s.sec := rfl
@[simp] theorem State.modPower_chop (g : Power → Power) : (s.modPower g).chop = s.chop := rfl
@[simp] theorem State.modPower_params (g : Power → Power) : (s.modPower g).params = s.params := rfl
@[simp] theorem State.modPower_flags (g : Power → Power) : (s.modPower g).flags = s.flags := rfl
@[simp] theorem State.modPower_counters (g : Power → Power) : (s.modPower g).counters = s.counters := rfl
@[simp] theorem State.modPower_misc (g : Power → Power) : (s.modPower g).misc = s.misc := rfl
@[simp] theorem State.modPower_now (g : Power → Power) : (s.modPower g).now = s.now := rfl
@[simp] theorem State.modPower_freeCount (g : Power → Power) : (s.modPower g).freeCount = s.freeCount := rfl
@[simp] theorem State.modPower_out (g : Power → Power) : (s.modPower g).out = s.out := rfl
@[simp] theorem State.modPower_pending (g : Power → Power) : (s.modPower g).pending = s.pending := rfl

@[simp] theorem State.modBoot_power (g : Boot → Boot) : (s.modBoot g).power = s.power := rfl
@[simp] theorem State.modBoot_boot (g : Boot → Boot) : (s.modBoot g).boot = g s.boot := rfl
@[simp] theorem State.modBoot_flash (g : Boot → Boot) : (s.modBoot g).flash = s.flash := rfl
@[simp] theorem State.modBoot_fibres (g : Boot → Boot) : (s.modBoot g).fibres = s.fibres := rfl
@[simp] theorem State.modBoot_links (g : Boot → Boot) : (s.modBoot g).links = s.links := rfl
@[simp] theorem State.modBoot_engines (g : Boot → Boot) : (s.modBoot g).engines = s.engines := rfl
@[simp] theorem State.modBoot_hatch (g : Boot → Boot) : (s.modBoot g).hatch = s.hatch := rfl
@[simp] theorem State.modBoot_time (g : Boot → Boot) : (s.modBoot g).time = s.time := rfl
@[simp] theorem State.modBoot_folio (g : Boot → Boot) : (s.modBoot g).folio = s.folio := rfl
@[simp] theorem State.modBoot_codex (g : Boot → Boot) : (s.modBoot g).codex = s.codex := rfl
@[simp] theorem State.modBoot_slots (g : Boot → Boot) : (s.modBoot g).slots = s.slots := rfl
@[simp] theorem State.modBoot_faults (g : Boot → Boot) : (s.modBoot g).faults = s.faults := rfl
@[simp] theorem State.modBoot_mem (g : Boot → Boot) : (s.modBoot g).mem = s.mem := rfl
@[simp] theorem State.modBoot_tables (g : Boot → Boot) : (s.modBoot g).tables = s.tables := rfl
@[simp] theorem State.modBoot_core (g : Boot → Boot) : (s.modBoot g).core = s.core := rfl
@[simp] theorem State.modBoot_ductus (g : Boot → Boot) : (s.modBoot g).ductus = s.ductus := rfl
@[simp] theorem State.modBoot_nibs (g : Boot → Boot) : (s.modBoot g).nibs = s.nibs := rfl
@[simp] theorem State.modBoot_progs (g : Boot → Boot) : (s.modBoot g).progs = s.progs := rfl
@[simp] theorem State.modBoot_coll (g : Boot → Boot) : (s.modBoot g).coll = s.coll := rfl
@[simp] theorem State.modBoot_host (g : Boot → Boot) : (s.modBoot g).host = s.host := rfl
@[simp] theorem State.modBoot_lig (g : Boot → Boot) : (s.modBoot g).lig = s.lig := rfl
@[simp] theorem State.modBoot_sec (g : Boot → Boot) : (s.modBoot g).sec = s.sec := rfl
@[simp] theorem State.modBoot_chop (g : Boot → Boot) : (s.modBoot g).chop = s.chop := rfl
@[simp] theorem State.modBoot_params (g : Boot → Boot) : (s.modBoot g).params = s.params := rfl
@[simp] theorem State.modBoot_flags (g : Boot → Boot) : (s.modBoot g).flags = s.flags := rfl
@[simp] theorem State.modBoot_counters (g : Boot → Boot) : (s.modBoot g).counters = s.counters := rfl
@[simp] theorem State.modBoot_misc (g : Boot → Boot) : (s.modBoot g).misc = s.misc := rfl
@[simp] theorem State.modBoot_now (g : Boot → Boot) : (s.modBoot g).now = s.now := rfl
@[simp] theorem State.modBoot_freeCount (g : Boot → Boot) : (s.modBoot g).freeCount = s.freeCount := rfl
@[simp] theorem State.modBoot_out (g : Boot → Boot) : (s.modBoot g).out = s.out := rfl
@[simp] theorem State.modBoot_pending (g : Boot → Boot) : (s.modBoot g).pending = s.pending := rfl

@[simp] theorem State.modTime_power (g : TimeSt → TimeSt) : (s.modTime g).power = s.power := rfl
@[simp] theorem State.modTime_boot (g : TimeSt → TimeSt) : (s.modTime g).boot = s.boot := rfl
@[simp] theorem State.modTime_flash (g : TimeSt → TimeSt) : (s.modTime g).flash = s.flash := rfl
@[simp] theorem State.modTime_fibres (g : TimeSt → TimeSt) : (s.modTime g).fibres = s.fibres := rfl
@[simp] theorem State.modTime_links (g : TimeSt → TimeSt) : (s.modTime g).links = s.links := rfl
@[simp] theorem State.modTime_engines (g : TimeSt → TimeSt) : (s.modTime g).engines = s.engines := rfl
@[simp] theorem State.modTime_hatch (g : TimeSt → TimeSt) : (s.modTime g).hatch = s.hatch := rfl
@[simp] theorem State.modTime_time (g : TimeSt → TimeSt) : (s.modTime g).time = g s.time := rfl
@[simp] theorem State.modTime_folio (g : TimeSt → TimeSt) : (s.modTime g).folio = s.folio := rfl
@[simp] theorem State.modTime_codex (g : TimeSt → TimeSt) : (s.modTime g).codex = s.codex := rfl
@[simp] theorem State.modTime_slots (g : TimeSt → TimeSt) : (s.modTime g).slots = s.slots := rfl
@[simp] theorem State.modTime_faults (g : TimeSt → TimeSt) : (s.modTime g).faults = s.faults := rfl
@[simp] theorem State.modTime_mem (g : TimeSt → TimeSt) : (s.modTime g).mem = s.mem := rfl
@[simp] theorem State.modTime_tables (g : TimeSt → TimeSt) : (s.modTime g).tables = s.tables := rfl
@[simp] theorem State.modTime_core (g : TimeSt → TimeSt) : (s.modTime g).core = s.core := rfl
@[simp] theorem State.modTime_ductus (g : TimeSt → TimeSt) : (s.modTime g).ductus = s.ductus := rfl
@[simp] theorem State.modTime_nibs (g : TimeSt → TimeSt) : (s.modTime g).nibs = s.nibs := rfl
@[simp] theorem State.modTime_progs (g : TimeSt → TimeSt) : (s.modTime g).progs = s.progs := rfl
@[simp] theorem State.modTime_coll (g : TimeSt → TimeSt) : (s.modTime g).coll = s.coll := rfl
@[simp] theorem State.modTime_host (g : TimeSt → TimeSt) : (s.modTime g).host = s.host := rfl
@[simp] theorem State.modTime_lig (g : TimeSt → TimeSt) : (s.modTime g).lig = s.lig := rfl
@[simp] theorem State.modTime_sec (g : TimeSt → TimeSt) : (s.modTime g).sec = s.sec := rfl
@[simp] theorem State.modTime_chop (g : TimeSt → TimeSt) : (s.modTime g).chop = s.chop := rfl
@[simp] theorem State.modTime_params (g : TimeSt → TimeSt) : (s.modTime g).params = s.params := rfl
@[simp] theorem State.modTime_flags (g : TimeSt → TimeSt) : (s.modTime g).flags = s.flags := rfl
@[simp] theorem State.modTime_counters (g : TimeSt → TimeSt) : (s.modTime g).counters = s.counters := rfl
@[simp] theorem State.modTime_misc (g : TimeSt → TimeSt) : (s.modTime g).misc = s.misc := rfl
@[simp] theorem State.modTime_now (g : TimeSt → TimeSt) : (s.modTime g).now = s.now := rfl
@[simp] theorem State.modTime_freeCount (g : TimeSt → TimeSt) : (s.modTime g).freeCount = s.freeCount := rfl
@[simp] theorem State.modTime_out (g : TimeSt → TimeSt) : (s.modTime g).out = s.out := rfl
@[simp] theorem State.modTime_pending (g : TimeSt → TimeSt) : (s.modTime g).pending = s.pending := rfl

@[simp] theorem State.modFolio_power (g : FolioSt → FolioSt) : (s.modFolio g).power = s.power := rfl
@[simp] theorem State.modFolio_boot (g : FolioSt → FolioSt) : (s.modFolio g).boot = s.boot := rfl
@[simp] theorem State.modFolio_flash (g : FolioSt → FolioSt) : (s.modFolio g).flash = s.flash := rfl
@[simp] theorem State.modFolio_fibres (g : FolioSt → FolioSt) : (s.modFolio g).fibres = s.fibres := rfl
@[simp] theorem State.modFolio_links (g : FolioSt → FolioSt) : (s.modFolio g).links = s.links := rfl
@[simp] theorem State.modFolio_engines (g : FolioSt → FolioSt) : (s.modFolio g).engines = s.engines := rfl
@[simp] theorem State.modFolio_hatch (g : FolioSt → FolioSt) : (s.modFolio g).hatch = s.hatch := rfl
@[simp] theorem State.modFolio_time (g : FolioSt → FolioSt) : (s.modFolio g).time = s.time := rfl
@[simp] theorem State.modFolio_folio (g : FolioSt → FolioSt) : (s.modFolio g).folio = g s.folio := rfl
@[simp] theorem State.modFolio_codex (g : FolioSt → FolioSt) : (s.modFolio g).codex = s.codex := rfl
@[simp] theorem State.modFolio_slots (g : FolioSt → FolioSt) : (s.modFolio g).slots = s.slots := rfl
@[simp] theorem State.modFolio_faults (g : FolioSt → FolioSt) : (s.modFolio g).faults = s.faults := rfl
@[simp] theorem State.modFolio_mem (g : FolioSt → FolioSt) : (s.modFolio g).mem = s.mem := rfl
@[simp] theorem State.modFolio_tables (g : FolioSt → FolioSt) : (s.modFolio g).tables = s.tables := rfl
@[simp] theorem State.modFolio_core (g : FolioSt → FolioSt) : (s.modFolio g).core = s.core := rfl
@[simp] theorem State.modFolio_ductus (g : FolioSt → FolioSt) : (s.modFolio g).ductus = s.ductus := rfl
@[simp] theorem State.modFolio_nibs (g : FolioSt → FolioSt) : (s.modFolio g).nibs = s.nibs := rfl
@[simp] theorem State.modFolio_progs (g : FolioSt → FolioSt) : (s.modFolio g).progs = s.progs := rfl
@[simp] theorem State.modFolio_coll (g : FolioSt → FolioSt) : (s.modFolio g).coll = s.coll := rfl
@[simp] theorem State.modFolio_host (g : FolioSt → FolioSt) : (s.modFolio g).host = s.host := rfl
@[simp] theorem State.modFolio_lig (g : FolioSt → FolioSt) : (s.modFolio g).lig = s.lig := rfl
@[simp] theorem State.modFolio_sec (g : FolioSt → FolioSt) : (s.modFolio g).sec = s.sec := rfl
@[simp] theorem State.modFolio_chop (g : FolioSt → FolioSt) : (s.modFolio g).chop = s.chop := rfl
@[simp] theorem State.modFolio_params (g : FolioSt → FolioSt) : (s.modFolio g).params = s.params := rfl
@[simp] theorem State.modFolio_flags (g : FolioSt → FolioSt) : (s.modFolio g).flags = s.flags := rfl
@[simp] theorem State.modFolio_counters (g : FolioSt → FolioSt) : (s.modFolio g).counters = s.counters := rfl
@[simp] theorem State.modFolio_misc (g : FolioSt → FolioSt) : (s.modFolio g).misc = s.misc := rfl
@[simp] theorem State.modFolio_now (g : FolioSt → FolioSt) : (s.modFolio g).now = s.now := rfl
@[simp] theorem State.modFolio_freeCount (g : FolioSt → FolioSt) : (s.modFolio g).freeCount = s.freeCount := rfl
@[simp] theorem State.modFolio_out (g : FolioSt → FolioSt) : (s.modFolio g).out = s.out := rfl
@[simp] theorem State.modFolio_pending (g : FolioSt → FolioSt) : (s.modFolio g).pending = s.pending := rfl

@[simp] theorem State.modCodex_power (g : CodexSt → CodexSt) : (s.modCodex g).power = s.power := rfl
@[simp] theorem State.modCodex_boot (g : CodexSt → CodexSt) : (s.modCodex g).boot = s.boot := rfl
@[simp] theorem State.modCodex_flash (g : CodexSt → CodexSt) : (s.modCodex g).flash = s.flash := rfl
@[simp] theorem State.modCodex_fibres (g : CodexSt → CodexSt) : (s.modCodex g).fibres = s.fibres := rfl
@[simp] theorem State.modCodex_links (g : CodexSt → CodexSt) : (s.modCodex g).links = s.links := rfl
@[simp] theorem State.modCodex_engines (g : CodexSt → CodexSt) : (s.modCodex g).engines = s.engines := rfl
@[simp] theorem State.modCodex_hatch (g : CodexSt → CodexSt) : (s.modCodex g).hatch = s.hatch := rfl
@[simp] theorem State.modCodex_time (g : CodexSt → CodexSt) : (s.modCodex g).time = s.time := rfl
@[simp] theorem State.modCodex_folio (g : CodexSt → CodexSt) : (s.modCodex g).folio = s.folio := rfl
@[simp] theorem State.modCodex_codex (g : CodexSt → CodexSt) : (s.modCodex g).codex = g s.codex := rfl
@[simp] theorem State.modCodex_slots (g : CodexSt → CodexSt) : (s.modCodex g).slots = s.slots := rfl
@[simp] theorem State.modCodex_faults (g : CodexSt → CodexSt) : (s.modCodex g).faults = s.faults := rfl
@[simp] theorem State.modCodex_mem (g : CodexSt → CodexSt) : (s.modCodex g).mem = s.mem := rfl
@[simp] theorem State.modCodex_tables (g : CodexSt → CodexSt) : (s.modCodex g).tables = s.tables := rfl
@[simp] theorem State.modCodex_core (g : CodexSt → CodexSt) : (s.modCodex g).core = s.core := rfl
@[simp] theorem State.modCodex_ductus (g : CodexSt → CodexSt) : (s.modCodex g).ductus = s.ductus := rfl
@[simp] theorem State.modCodex_nibs (g : CodexSt → CodexSt) : (s.modCodex g).nibs = s.nibs := rfl
@[simp] theorem State.modCodex_progs (g : CodexSt → CodexSt) : (s.modCodex g).progs = s.progs := rfl
@[simp] theorem State.modCodex_coll (g : CodexSt → CodexSt) : (s.modCodex g).coll = s.coll := rfl
@[simp] theorem State.modCodex_host (g : CodexSt → CodexSt) : (s.modCodex g).host = s.host := rfl
@[simp] theorem State.modCodex_lig (g : CodexSt → CodexSt) : (s.modCodex g).lig = s.lig := rfl
@[simp] theorem State.modCodex_sec (g : CodexSt → CodexSt) : (s.modCodex g).sec = s.sec := rfl
@[simp] theorem State.modCodex_chop (g : CodexSt → CodexSt) : (s.modCodex g).chop = s.chop := rfl
@[simp] theorem State.modCodex_params (g : CodexSt → CodexSt) : (s.modCodex g).params = s.params := rfl
@[simp] theorem State.modCodex_flags (g : CodexSt → CodexSt) : (s.modCodex g).flags = s.flags := rfl
@[simp] theorem State.modCodex_counters (g : CodexSt → CodexSt) : (s.modCodex g).counters = s.counters := rfl
@[simp] theorem State.modCodex_misc (g : CodexSt → CodexSt) : (s.modCodex g).misc = s.misc := rfl
@[simp] theorem State.modCodex_now (g : CodexSt → CodexSt) : (s.modCodex g).now = s.now := rfl
@[simp] theorem State.modCodex_freeCount (g : CodexSt → CodexSt) : (s.modCodex g).freeCount = s.freeCount := rfl
@[simp] theorem State.modCodex_out (g : CodexSt → CodexSt) : (s.modCodex g).out = s.out := rfl
@[simp] theorem State.modCodex_pending (g : CodexSt → CodexSt) : (s.modCodex g).pending = s.pending := rfl

@[simp] theorem State.modFaults_power (g : FaultSt → FaultSt) : (s.modFaults g).power = s.power := rfl
@[simp] theorem State.modFaults_boot (g : FaultSt → FaultSt) : (s.modFaults g).boot = s.boot := rfl
@[simp] theorem State.modFaults_flash (g : FaultSt → FaultSt) : (s.modFaults g).flash = s.flash := rfl
@[simp] theorem State.modFaults_fibres (g : FaultSt → FaultSt) : (s.modFaults g).fibres = s.fibres := rfl
@[simp] theorem State.modFaults_links (g : FaultSt → FaultSt) : (s.modFaults g).links = s.links := rfl
@[simp] theorem State.modFaults_engines (g : FaultSt → FaultSt) : (s.modFaults g).engines = s.engines := rfl
@[simp] theorem State.modFaults_hatch (g : FaultSt → FaultSt) : (s.modFaults g).hatch = s.hatch := rfl
@[simp] theorem State.modFaults_time (g : FaultSt → FaultSt) : (s.modFaults g).time = s.time := rfl
@[simp] theorem State.modFaults_folio (g : FaultSt → FaultSt) : (s.modFaults g).folio = s.folio := rfl
@[simp] theorem State.modFaults_codex (g : FaultSt → FaultSt) : (s.modFaults g).codex = s.codex := rfl
@[simp] theorem State.modFaults_slots (g : FaultSt → FaultSt) : (s.modFaults g).slots = s.slots := rfl
@[simp] theorem State.modFaults_faults (g : FaultSt → FaultSt) : (s.modFaults g).faults = g s.faults := rfl
@[simp] theorem State.modFaults_mem (g : FaultSt → FaultSt) : (s.modFaults g).mem = s.mem := rfl
@[simp] theorem State.modFaults_tables (g : FaultSt → FaultSt) : (s.modFaults g).tables = s.tables := rfl
@[simp] theorem State.modFaults_core (g : FaultSt → FaultSt) : (s.modFaults g).core = s.core := rfl
@[simp] theorem State.modFaults_ductus (g : FaultSt → FaultSt) : (s.modFaults g).ductus = s.ductus := rfl
@[simp] theorem State.modFaults_nibs (g : FaultSt → FaultSt) : (s.modFaults g).nibs = s.nibs := rfl
@[simp] theorem State.modFaults_progs (g : FaultSt → FaultSt) : (s.modFaults g).progs = s.progs := rfl
@[simp] theorem State.modFaults_coll (g : FaultSt → FaultSt) : (s.modFaults g).coll = s.coll := rfl
@[simp] theorem State.modFaults_host (g : FaultSt → FaultSt) : (s.modFaults g).host = s.host := rfl
@[simp] theorem State.modFaults_lig (g : FaultSt → FaultSt) : (s.modFaults g).lig = s.lig := rfl
@[simp] theorem State.modFaults_sec (g : FaultSt → FaultSt) : (s.modFaults g).sec = s.sec := rfl
@[simp] theorem State.modFaults_chop (g : FaultSt → FaultSt) : (s.modFaults g).chop = s.chop := rfl
@[simp] theorem State.modFaults_params (g : FaultSt → FaultSt) : (s.modFaults g).params = s.params := rfl
@[simp] theorem State.modFaults_flags (g : FaultSt → FaultSt) : (s.modFaults g).flags = s.flags := rfl
@[simp] theorem State.modFaults_counters (g : FaultSt → FaultSt) : (s.modFaults g).counters = s.counters := rfl
@[simp] theorem State.modFaults_misc (g : FaultSt → FaultSt) : (s.modFaults g).misc = s.misc := rfl
@[simp] theorem State.modFaults_now (g : FaultSt → FaultSt) : (s.modFaults g).now = s.now := rfl
@[simp] theorem State.modFaults_freeCount (g : FaultSt → FaultSt) : (s.modFaults g).freeCount = s.freeCount := rfl
@[simp] theorem State.modFaults_out (g : FaultSt → FaultSt) : (s.modFaults g).out = s.out := rfl
@[simp] theorem State.modFaults_pending (g : FaultSt → FaultSt) : (s.modFaults g).pending = s.pending := rfl

@[simp] theorem State.modHatch_power (g : HatchSt → HatchSt) : (s.modHatch g).power = s.power := rfl
@[simp] theorem State.modHatch_boot (g : HatchSt → HatchSt) : (s.modHatch g).boot = s.boot := rfl
@[simp] theorem State.modHatch_flash (g : HatchSt → HatchSt) : (s.modHatch g).flash = s.flash := rfl
@[simp] theorem State.modHatch_fibres (g : HatchSt → HatchSt) : (s.modHatch g).fibres = s.fibres := rfl
@[simp] theorem State.modHatch_links (g : HatchSt → HatchSt) : (s.modHatch g).links = s.links := rfl
@[simp] theorem State.modHatch_engines (g : HatchSt → HatchSt) : (s.modHatch g).engines = s.engines := rfl
@[simp] theorem State.modHatch_hatch (g : HatchSt → HatchSt) : (s.modHatch g).hatch = g s.hatch := rfl
@[simp] theorem State.modHatch_time (g : HatchSt → HatchSt) : (s.modHatch g).time = s.time := rfl
@[simp] theorem State.modHatch_folio (g : HatchSt → HatchSt) : (s.modHatch g).folio = s.folio := rfl
@[simp] theorem State.modHatch_codex (g : HatchSt → HatchSt) : (s.modHatch g).codex = s.codex := rfl
@[simp] theorem State.modHatch_slots (g : HatchSt → HatchSt) : (s.modHatch g).slots = s.slots := rfl
@[simp] theorem State.modHatch_faults (g : HatchSt → HatchSt) : (s.modHatch g).faults = s.faults := rfl
@[simp] theorem State.modHatch_mem (g : HatchSt → HatchSt) : (s.modHatch g).mem = s.mem := rfl
@[simp] theorem State.modHatch_tables (g : HatchSt → HatchSt) : (s.modHatch g).tables = s.tables := rfl
@[simp] theorem State.modHatch_core (g : HatchSt → HatchSt) : (s.modHatch g).core = s.core := rfl
@[simp] theorem State.modHatch_ductus (g : HatchSt → HatchSt) : (s.modHatch g).ductus = s.ductus := rfl
@[simp] theorem State.modHatch_nibs (g : HatchSt → HatchSt) : (s.modHatch g).nibs = s.nibs := rfl
@[simp] theorem State.modHatch_progs (g : HatchSt → HatchSt) : (s.modHatch g).progs = s.progs := rfl
@[simp] theorem State.modHatch_coll (g : HatchSt → HatchSt) : (s.modHatch g).coll = s.coll := rfl
@[simp] theorem State.modHatch_host (g : HatchSt → HatchSt) : (s.modHatch g).host = s.host := rfl
@[simp] theorem State.modHatch_lig (g : HatchSt → HatchSt) : (s.modHatch g).lig = s.lig := rfl
@[simp] theorem State.modHatch_sec (g : HatchSt → HatchSt) : (s.modHatch g).sec = s.sec := rfl
@[simp] theorem State.modHatch_chop (g : HatchSt → HatchSt) : (s.modHatch g).chop = s.chop := rfl
@[simp] theorem State.modHatch_params (g : HatchSt → HatchSt) : (s.modHatch g).params = s.params := rfl
@[simp] theorem State.modHatch_flags (g : HatchSt → HatchSt) : (s.modHatch g).flags = s.flags := rfl
@[simp] theorem State.modHatch_counters (g : HatchSt → HatchSt) : (s.modHatch g).counters = s.counters := rfl
@[simp] theorem State.modHatch_misc (g : HatchSt → HatchSt) : (s.modHatch g).misc = s.misc := rfl
@[simp] theorem State.modHatch_now (g : HatchSt → HatchSt) : (s.modHatch g).now = s.now := rfl
@[simp] theorem State.modHatch_freeCount (g : HatchSt → HatchSt) : (s.modHatch g).freeCount = s.freeCount := rfl
@[simp] theorem State.modHatch_out (g : HatchSt → HatchSt) : (s.modHatch g).out = s.out := rfl
@[simp] theorem State.modHatch_pending (g : HatchSt → HatchSt) : (s.modHatch g).pending = s.pending := rfl

@[simp] theorem State.modMem_power (g : MemSt → MemSt) : (s.modMem g).power = s.power := rfl
@[simp] theorem State.modMem_boot (g : MemSt → MemSt) : (s.modMem g).boot = s.boot := rfl
@[simp] theorem State.modMem_flash (g : MemSt → MemSt) : (s.modMem g).flash = s.flash := rfl
@[simp] theorem State.modMem_fibres (g : MemSt → MemSt) : (s.modMem g).fibres = s.fibres := rfl
@[simp] theorem State.modMem_links (g : MemSt → MemSt) : (s.modMem g).links = s.links := rfl
@[simp] theorem State.modMem_engines (g : MemSt → MemSt) : (s.modMem g).engines = s.engines := rfl
@[simp] theorem State.modMem_hatch (g : MemSt → MemSt) : (s.modMem g).hatch = s.hatch := rfl
@[simp] theorem State.modMem_time (g : MemSt → MemSt) : (s.modMem g).time = s.time := rfl
@[simp] theorem State.modMem_folio (g : MemSt → MemSt) : (s.modMem g).folio = s.folio := rfl
@[simp] theorem State.modMem_codex (g : MemSt → MemSt) : (s.modMem g).codex = s.codex := rfl
@[simp] theorem State.modMem_slots (g : MemSt → MemSt) : (s.modMem g).slots = s.slots := rfl
@[simp] theorem State.modMem_faults (g : MemSt → MemSt) : (s.modMem g).faults = s.faults := rfl
@[simp] theorem State.modMem_mem (g : MemSt → MemSt) : (s.modMem g).mem = g s.mem := rfl
@[simp] theorem State.modMem_tables (g : MemSt → MemSt) : (s.modMem g).tables = s.tables := rfl
@[simp] theorem State.modMem_core (g : MemSt → MemSt) : (s.modMem g).core = s.core := rfl
@[simp] theorem State.modMem_ductus (g : MemSt → MemSt) : (s.modMem g).ductus = s.ductus := rfl
@[simp] theorem State.modMem_nibs (g : MemSt → MemSt) : (s.modMem g).nibs = s.nibs := rfl
@[simp] theorem State.modMem_progs (g : MemSt → MemSt) : (s.modMem g).progs = s.progs := rfl
@[simp] theorem State.modMem_coll (g : MemSt → MemSt) : (s.modMem g).coll = s.coll := rfl
@[simp] theorem State.modMem_host (g : MemSt → MemSt) : (s.modMem g).host = s.host := rfl
@[simp] theorem State.modMem_lig (g : MemSt → MemSt) : (s.modMem g).lig = s.lig := rfl
@[simp] theorem State.modMem_sec (g : MemSt → MemSt) : (s.modMem g).sec = s.sec := rfl
@[simp] theorem State.modMem_chop (g : MemSt → MemSt) : (s.modMem g).chop = s.chop := rfl
@[simp] theorem State.modMem_params (g : MemSt → MemSt) : (s.modMem g).params = s.params := rfl
@[simp] theorem State.modMem_flags (g : MemSt → MemSt) : (s.modMem g).flags = s.flags := rfl
@[simp] theorem State.modMem_counters (g : MemSt → MemSt) : (s.modMem g).counters = s.counters := rfl
@[simp] theorem State.modMem_misc (g : MemSt → MemSt) : (s.modMem g).misc = s.misc := rfl
@[simp] theorem State.modMem_now (g : MemSt → MemSt) : (s.modMem g).now = s.now := rfl
@[simp] theorem State.modMem_freeCount (g : MemSt → MemSt) : (s.modMem g).freeCount = s.freeCount := rfl
@[simp] theorem State.modMem_out (g : MemSt → MemSt) : (s.modMem g).out = s.out := rfl
@[simp] theorem State.modMem_pending (g : MemSt → MemSt) : (s.modMem g).pending = s.pending := rfl

@[simp] theorem State.modChop_power (g : ChopSt → ChopSt) : (s.modChop g).power = s.power := rfl
@[simp] theorem State.modChop_boot (g : ChopSt → ChopSt) : (s.modChop g).boot = s.boot := rfl
@[simp] theorem State.modChop_flash (g : ChopSt → ChopSt) : (s.modChop g).flash = s.flash := rfl
@[simp] theorem State.modChop_fibres (g : ChopSt → ChopSt) : (s.modChop g).fibres = s.fibres := rfl
@[simp] theorem State.modChop_links (g : ChopSt → ChopSt) : (s.modChop g).links = s.links := rfl
@[simp] theorem State.modChop_engines (g : ChopSt → ChopSt) : (s.modChop g).engines = s.engines := rfl
@[simp] theorem State.modChop_hatch (g : ChopSt → ChopSt) : (s.modChop g).hatch = s.hatch := rfl
@[simp] theorem State.modChop_time (g : ChopSt → ChopSt) : (s.modChop g).time = s.time := rfl
@[simp] theorem State.modChop_folio (g : ChopSt → ChopSt) : (s.modChop g).folio = s.folio := rfl
@[simp] theorem State.modChop_codex (g : ChopSt → ChopSt) : (s.modChop g).codex = s.codex := rfl
@[simp] theorem State.modChop_slots (g : ChopSt → ChopSt) : (s.modChop g).slots = s.slots := rfl
@[simp] theorem State.modChop_faults (g : ChopSt → ChopSt) : (s.modChop g).faults = s.faults := rfl
@[simp] theorem State.modChop_mem (g : ChopSt → ChopSt) : (s.modChop g).mem = s.mem := rfl
@[simp] theorem State.modChop_tables (g : ChopSt → ChopSt) : (s.modChop g).tables = s.tables := rfl
@[simp] theorem State.modChop_core (g : ChopSt → ChopSt) : (s.modChop g).core = s.core := rfl
@[simp] theorem State.modChop_ductus (g : ChopSt → ChopSt) : (s.modChop g).ductus = s.ductus := rfl
@[simp] theorem State.modChop_nibs (g : ChopSt → ChopSt) : (s.modChop g).nibs = s.nibs := rfl
@[simp] theorem State.modChop_progs (g : ChopSt → ChopSt) : (s.modChop g).progs = s.progs := rfl
@[simp] theorem State.modChop_coll (g : ChopSt → ChopSt) : (s.modChop g).coll = s.coll := rfl
@[simp] theorem State.modChop_host (g : ChopSt → ChopSt) : (s.modChop g).host = s.host := rfl
@[simp] theorem State.modChop_lig (g : ChopSt → ChopSt) : (s.modChop g).lig = s.lig := rfl
@[simp] theorem State.modChop_sec (g : ChopSt → ChopSt) : (s.modChop g).sec = s.sec := rfl
@[simp] theorem State.modChop_chop (g : ChopSt → ChopSt) : (s.modChop g).chop = g s.chop := rfl
@[simp] theorem State.modChop_params (g : ChopSt → ChopSt) : (s.modChop g).params = s.params := rfl
@[simp] theorem State.modChop_flags (g : ChopSt → ChopSt) : (s.modChop g).flags = s.flags := rfl
@[simp] theorem State.modChop_counters (g : ChopSt → ChopSt) : (s.modChop g).counters = s.counters := rfl
@[simp] theorem State.modChop_misc (g : ChopSt → ChopSt) : (s.modChop g).misc = s.misc := rfl
@[simp] theorem State.modChop_now (g : ChopSt → ChopSt) : (s.modChop g).now = s.now := rfl
@[simp] theorem State.modChop_freeCount (g : ChopSt → ChopSt) : (s.modChop g).freeCount = s.freeCount := rfl
@[simp] theorem State.modChop_out (g : ChopSt → ChopSt) : (s.modChop g).out = s.out := rfl
@[simp] theorem State.modChop_pending (g : ChopSt → ChopSt) : (s.modChop g).pending = s.pending := rfl

@[simp] theorem State.modColl_power (g : CollSt → CollSt) : (s.modColl g).power = s.power := rfl
@[simp] theorem State.modColl_boot (g : CollSt → CollSt) : (s.modColl g).boot = s.boot := rfl
@[simp] theorem State.modColl_flash (g : CollSt → CollSt) : (s.modColl g).flash = s.flash := rfl
@[simp] theorem State.modColl_fibres (g : CollSt → CollSt) : (s.modColl g).fibres = s.fibres := rfl
@[simp] theorem State.modColl_links (g : CollSt → CollSt) : (s.modColl g).links = s.links := rfl
@[simp] theorem State.modColl_engines (g : CollSt → CollSt) : (s.modColl g).engines = s.engines := rfl
@[simp] theorem State.modColl_hatch (g : CollSt → CollSt) : (s.modColl g).hatch = s.hatch := rfl
@[simp] theorem State.modColl_time (g : CollSt → CollSt) : (s.modColl g).time = s.time := rfl
@[simp] theorem State.modColl_folio (g : CollSt → CollSt) : (s.modColl g).folio = s.folio := rfl
@[simp] theorem State.modColl_codex (g : CollSt → CollSt) : (s.modColl g).codex = s.codex := rfl
@[simp] theorem State.modColl_slots (g : CollSt → CollSt) : (s.modColl g).slots = s.slots := rfl
@[simp] theorem State.modColl_faults (g : CollSt → CollSt) : (s.modColl g).faults = s.faults := rfl
@[simp] theorem State.modColl_mem (g : CollSt → CollSt) : (s.modColl g).mem = s.mem := rfl
@[simp] theorem State.modColl_tables (g : CollSt → CollSt) : (s.modColl g).tables = s.tables := rfl
@[simp] theorem State.modColl_core (g : CollSt → CollSt) : (s.modColl g).core = s.core := rfl
@[simp] theorem State.modColl_ductus (g : CollSt → CollSt) : (s.modColl g).ductus = s.ductus := rfl
@[simp] theorem State.modColl_nibs (g : CollSt → CollSt) : (s.modColl g).nibs = s.nibs := rfl
@[simp] theorem State.modColl_progs (g : CollSt → CollSt) : (s.modColl g).progs = s.progs := rfl
@[simp] theorem State.modColl_coll (g : CollSt → CollSt) : (s.modColl g).coll = g s.coll := rfl
@[simp] theorem State.modColl_host (g : CollSt → CollSt) : (s.modColl g).host = s.host := rfl
@[simp] theorem State.modColl_lig (g : CollSt → CollSt) : (s.modColl g).lig = s.lig := rfl
@[simp] theorem State.modColl_sec (g : CollSt → CollSt) : (s.modColl g).sec = s.sec := rfl
@[simp] theorem State.modColl_chop (g : CollSt → CollSt) : (s.modColl g).chop = s.chop := rfl
@[simp] theorem State.modColl_params (g : CollSt → CollSt) : (s.modColl g).params = s.params := rfl
@[simp] theorem State.modColl_flags (g : CollSt → CollSt) : (s.modColl g).flags = s.flags := rfl
@[simp] theorem State.modColl_counters (g : CollSt → CollSt) : (s.modColl g).counters = s.counters := rfl
@[simp] theorem State.modColl_misc (g : CollSt → CollSt) : (s.modColl g).misc = s.misc := rfl
@[simp] theorem State.modColl_now (g : CollSt → CollSt) : (s.modColl g).now = s.now := rfl
@[simp] theorem State.modColl_freeCount (g : CollSt → CollSt) : (s.modColl g).freeCount = s.freeCount := rfl
@[simp] theorem State.modColl_out (g : CollSt → CollSt) : (s.modColl g).out = s.out := rfl
@[simp] theorem State.modColl_pending (g : CollSt → CollSt) : (s.modColl g).pending = s.pending := rfl

@[simp] theorem State.modCore_power (g : CoreSt → CoreSt) : (s.modCore g).power = s.power := rfl
@[simp] theorem State.modCore_boot (g : CoreSt → CoreSt) : (s.modCore g).boot = s.boot := rfl
@[simp] theorem State.modCore_flash (g : CoreSt → CoreSt) : (s.modCore g).flash = s.flash := rfl
@[simp] theorem State.modCore_fibres (g : CoreSt → CoreSt) : (s.modCore g).fibres = s.fibres := rfl
@[simp] theorem State.modCore_links (g : CoreSt → CoreSt) : (s.modCore g).links = s.links := rfl
@[simp] theorem State.modCore_engines (g : CoreSt → CoreSt) : (s.modCore g).engines = s.engines := rfl
@[simp] theorem State.modCore_hatch (g : CoreSt → CoreSt) : (s.modCore g).hatch = s.hatch := rfl
@[simp] theorem State.modCore_time (g : CoreSt → CoreSt) : (s.modCore g).time = s.time := rfl
@[simp] theorem State.modCore_folio (g : CoreSt → CoreSt) : (s.modCore g).folio = s.folio := rfl
@[simp] theorem State.modCore_codex (g : CoreSt → CoreSt) : (s.modCore g).codex = s.codex := rfl
@[simp] theorem State.modCore_slots (g : CoreSt → CoreSt) : (s.modCore g).slots = s.slots := rfl
@[simp] theorem State.modCore_faults (g : CoreSt → CoreSt) : (s.modCore g).faults = s.faults := rfl
@[simp] theorem State.modCore_mem (g : CoreSt → CoreSt) : (s.modCore g).mem = s.mem := rfl
@[simp] theorem State.modCore_tables (g : CoreSt → CoreSt) : (s.modCore g).tables = s.tables := rfl
@[simp] theorem State.modCore_core (g : CoreSt → CoreSt) : (s.modCore g).core = g s.core := rfl
@[simp] theorem State.modCore_ductus (g : CoreSt → CoreSt) : (s.modCore g).ductus = s.ductus := rfl
@[simp] theorem State.modCore_nibs (g : CoreSt → CoreSt) : (s.modCore g).nibs = s.nibs := rfl
@[simp] theorem State.modCore_progs (g : CoreSt → CoreSt) : (s.modCore g).progs = s.progs := rfl
@[simp] theorem State.modCore_coll (g : CoreSt → CoreSt) : (s.modCore g).coll = s.coll := rfl
@[simp] theorem State.modCore_host (g : CoreSt → CoreSt) : (s.modCore g).host = s.host := rfl
@[simp] theorem State.modCore_lig (g : CoreSt → CoreSt) : (s.modCore g).lig = s.lig := rfl
@[simp] theorem State.modCore_sec (g : CoreSt → CoreSt) : (s.modCore g).sec = s.sec := rfl
@[simp] theorem State.modCore_chop (g : CoreSt → CoreSt) : (s.modCore g).chop = s.chop := rfl
@[simp] theorem State.modCore_params (g : CoreSt → CoreSt) : (s.modCore g).params = s.params := rfl
@[simp] theorem State.modCore_flags (g : CoreSt → CoreSt) : (s.modCore g).flags = s.flags := rfl
@[simp] theorem State.modCore_counters (g : CoreSt → CoreSt) : (s.modCore g).counters = s.counters := rfl
@[simp] theorem State.modCore_misc (g : CoreSt → CoreSt) : (s.modCore g).misc = s.misc := rfl
@[simp] theorem State.modCore_now (g : CoreSt → CoreSt) : (s.modCore g).now = s.now := rfl
@[simp] theorem State.modCore_freeCount (g : CoreSt → CoreSt) : (s.modCore g).freeCount = s.freeCount := rfl
@[simp] theorem State.modCore_out (g : CoreSt → CoreSt) : (s.modCore g).out = s.out := rfl
@[simp] theorem State.modCore_pending (g : CoreSt → CoreSt) : (s.modCore g).pending = s.pending := rfl

@[simp] theorem State.modDuctus_power (g : DuctusSt → DuctusSt) : (s.modDuctus g).power = s.power := rfl
@[simp] theorem State.modDuctus_boot (g : DuctusSt → DuctusSt) : (s.modDuctus g).boot = s.boot := rfl
@[simp] theorem State.modDuctus_flash (g : DuctusSt → DuctusSt) : (s.modDuctus g).flash = s.flash := rfl
@[simp] theorem State.modDuctus_fibres (g : DuctusSt → DuctusSt) : (s.modDuctus g).fibres = s.fibres := rfl
@[simp] theorem State.modDuctus_links (g : DuctusSt → DuctusSt) : (s.modDuctus g).links = s.links := rfl
@[simp] theorem State.modDuctus_engines (g : DuctusSt → DuctusSt) : (s.modDuctus g).engines = s.engines := rfl
@[simp] theorem State.modDuctus_hatch (g : DuctusSt → DuctusSt) : (s.modDuctus g).hatch = s.hatch := rfl
@[simp] theorem State.modDuctus_time (g : DuctusSt → DuctusSt) : (s.modDuctus g).time = s.time := rfl
@[simp] theorem State.modDuctus_folio (g : DuctusSt → DuctusSt) : (s.modDuctus g).folio = s.folio := rfl
@[simp] theorem State.modDuctus_codex (g : DuctusSt → DuctusSt) : (s.modDuctus g).codex = s.codex := rfl
@[simp] theorem State.modDuctus_slots (g : DuctusSt → DuctusSt) : (s.modDuctus g).slots = s.slots := rfl
@[simp] theorem State.modDuctus_faults (g : DuctusSt → DuctusSt) : (s.modDuctus g).faults = s.faults := rfl
@[simp] theorem State.modDuctus_mem (g : DuctusSt → DuctusSt) : (s.modDuctus g).mem = s.mem := rfl
@[simp] theorem State.modDuctus_tables (g : DuctusSt → DuctusSt) : (s.modDuctus g).tables = s.tables := rfl
@[simp] theorem State.modDuctus_core (g : DuctusSt → DuctusSt) : (s.modDuctus g).core = s.core := rfl
@[simp] theorem State.modDuctus_ductus (g : DuctusSt → DuctusSt) : (s.modDuctus g).ductus = g s.ductus := rfl
@[simp] theorem State.modDuctus_nibs (g : DuctusSt → DuctusSt) : (s.modDuctus g).nibs = s.nibs := rfl
@[simp] theorem State.modDuctus_progs (g : DuctusSt → DuctusSt) : (s.modDuctus g).progs = s.progs := rfl
@[simp] theorem State.modDuctus_coll (g : DuctusSt → DuctusSt) : (s.modDuctus g).coll = s.coll := rfl
@[simp] theorem State.modDuctus_host (g : DuctusSt → DuctusSt) : (s.modDuctus g).host = s.host := rfl
@[simp] theorem State.modDuctus_lig (g : DuctusSt → DuctusSt) : (s.modDuctus g).lig = s.lig := rfl
@[simp] theorem State.modDuctus_sec (g : DuctusSt → DuctusSt) : (s.modDuctus g).sec = s.sec := rfl
@[simp] theorem State.modDuctus_chop (g : DuctusSt → DuctusSt) : (s.modDuctus g).chop = s.chop := rfl
@[simp] theorem State.modDuctus_params (g : DuctusSt → DuctusSt) : (s.modDuctus g).params = s.params := rfl
@[simp] theorem State.modDuctus_flags (g : DuctusSt → DuctusSt) : (s.modDuctus g).flags = s.flags := rfl
@[simp] theorem State.modDuctus_counters (g : DuctusSt → DuctusSt) : (s.modDuctus g).counters = s.counters := rfl
@[simp] theorem State.modDuctus_misc (g : DuctusSt → DuctusSt) : (s.modDuctus g).misc = s.misc := rfl
@[simp] theorem State.modDuctus_now (g : DuctusSt → DuctusSt) : (s.modDuctus g).now = s.now := rfl
@[simp] theorem State.modDuctus_freeCount (g : DuctusSt → DuctusSt) : (s.modDuctus g).freeCount = s.freeCount := rfl
@[simp] theorem State.modDuctus_out (g : DuctusSt → DuctusSt) : (s.modDuctus g).out = s.out := rfl
@[simp] theorem State.modDuctus_pending (g : DuctusSt → DuctusSt) : (s.modDuctus g).pending = s.pending := rfl

@[simp] theorem State.modTables_power (g : TablesSt → TablesSt) : (s.modTables g).power = s.power := rfl
@[simp] theorem State.modTables_boot (g : TablesSt → TablesSt) : (s.modTables g).boot = s.boot := rfl
@[simp] theorem State.modTables_flash (g : TablesSt → TablesSt) : (s.modTables g).flash = s.flash := rfl
@[simp] theorem State.modTables_fibres (g : TablesSt → TablesSt) : (s.modTables g).fibres = s.fibres := rfl
@[simp] theorem State.modTables_links (g : TablesSt → TablesSt) : (s.modTables g).links = s.links := rfl
@[simp] theorem State.modTables_engines (g : TablesSt → TablesSt) : (s.modTables g).engines = s.engines := rfl
@[simp] theorem State.modTables_hatch (g : TablesSt → TablesSt) : (s.modTables g).hatch = s.hatch := rfl
@[simp] theorem State.modTables_time (g : TablesSt → TablesSt) : (s.modTables g).time = s.time := rfl
@[simp] theorem State.modTables_folio (g : TablesSt → TablesSt) : (s.modTables g).folio = s.folio := rfl
@[simp] theorem State.modTables_codex (g : TablesSt → TablesSt) : (s.modTables g).codex = s.codex := rfl
@[simp] theorem State.modTables_slots (g : TablesSt → TablesSt) : (s.modTables g).slots = s.slots := rfl
@[simp] theorem State.modTables_faults (g : TablesSt → TablesSt) : (s.modTables g).faults = s.faults := rfl
@[simp] theorem State.modTables_mem (g : TablesSt → TablesSt) : (s.modTables g).mem = s.mem := rfl
@[simp] theorem State.modTables_tables (g : TablesSt → TablesSt) : (s.modTables g).tables = g s.tables := rfl
@[simp] theorem State.modTables_core (g : TablesSt → TablesSt) : (s.modTables g).core = s.core := rfl
@[simp] theorem State.modTables_ductus (g : TablesSt → TablesSt) : (s.modTables g).ductus = s.ductus := rfl
@[simp] theorem State.modTables_nibs (g : TablesSt → TablesSt) : (s.modTables g).nibs = s.nibs := rfl
@[simp] theorem State.modTables_progs (g : TablesSt → TablesSt) : (s.modTables g).progs = s.progs := rfl
@[simp] theorem State.modTables_coll (g : TablesSt → TablesSt) : (s.modTables g).coll = s.coll := rfl
@[simp] theorem State.modTables_host (g : TablesSt → TablesSt) : (s.modTables g).host = s.host := rfl
@[simp] theorem State.modTables_lig (g : TablesSt → TablesSt) : (s.modTables g).lig = s.lig := rfl
@[simp] theorem State.modTables_sec (g : TablesSt → TablesSt) : (s.modTables g).sec = s.sec := rfl
@[simp] theorem State.modTables_chop (g : TablesSt → TablesSt) : (s.modTables g).chop = s.chop := rfl
@[simp] theorem State.modTables_params (g : TablesSt → TablesSt) : (s.modTables g).params = s.params := rfl
@[simp] theorem State.modTables_flags (g : TablesSt → TablesSt) : (s.modTables g).flags = s.flags := rfl
@[simp] theorem State.modTables_counters (g : TablesSt → TablesSt) : (s.modTables g).counters = s.counters := rfl
@[simp] theorem State.modTables_misc (g : TablesSt → TablesSt) : (s.modTables g).misc = s.misc := rfl
@[simp] theorem State.modTables_now (g : TablesSt → TablesSt) : (s.modTables g).now = s.now := rfl
@[simp] theorem State.modTables_freeCount (g : TablesSt → TablesSt) : (s.modTables g).freeCount = s.freeCount := rfl
@[simp] theorem State.modTables_out (g : TablesSt → TablesSt) : (s.modTables g).out = s.out := rfl
@[simp] theorem State.modTables_pending (g : TablesSt → TablesSt) : (s.modTables g).pending = s.pending := rfl

@[simp] theorem State.modLig_power (g : LigSt → LigSt) : (s.modLig g).power = s.power := rfl
@[simp] theorem State.modLig_boot (g : LigSt → LigSt) : (s.modLig g).boot = s.boot := rfl
@[simp] theorem State.modLig_flash (g : LigSt → LigSt) : (s.modLig g).flash = s.flash := rfl
@[simp] theorem State.modLig_fibres (g : LigSt → LigSt) : (s.modLig g).fibres = s.fibres := rfl
@[simp] theorem State.modLig_links (g : LigSt → LigSt) : (s.modLig g).links = s.links := rfl
@[simp] theorem State.modLig_engines (g : LigSt → LigSt) : (s.modLig g).engines = s.engines := rfl
@[simp] theorem State.modLig_hatch (g : LigSt → LigSt) : (s.modLig g).hatch = s.hatch := rfl
@[simp] theorem State.modLig_time (g : LigSt → LigSt) : (s.modLig g).time = s.time := rfl
@[simp] theorem State.modLig_folio (g : LigSt → LigSt) : (s.modLig g).folio = s.folio := rfl
@[simp] theorem State.modLig_codex (g : LigSt → LigSt) : (s.modLig g).codex = s.codex := rfl
@[simp] theorem State.modLig_slots (g : LigSt → LigSt) : (s.modLig g).slots = s.slots := rfl
@[simp] theorem State.modLig_faults (g : LigSt → LigSt) : (s.modLig g).faults = s.faults := rfl
@[simp] theorem State.modLig_mem (g : LigSt → LigSt) : (s.modLig g).mem = s.mem := rfl
@[simp] theorem State.modLig_tables (g : LigSt → LigSt) : (s.modLig g).tables = s.tables := rfl
@[simp] theorem State.modLig_core (g : LigSt → LigSt) : (s.modLig g).core = s.core := rfl
@[simp] theorem State.modLig_ductus (g : LigSt → LigSt) : (s.modLig g).ductus = s.ductus := rfl
@[simp] theorem State.modLig_nibs (g : LigSt → LigSt) : (s.modLig g).nibs = s.nibs := rfl
@[simp] theorem State.modLig_progs (g : LigSt → LigSt) : (s.modLig g).progs = s.progs := rfl
@[simp] theorem State.modLig_coll (g : LigSt → LigSt) : (s.modLig g).coll = s.coll := rfl
@[simp] theorem State.modLig_host (g : LigSt → LigSt) : (s.modLig g).host = s.host := rfl
@[simp] theorem State.modLig_lig (g : LigSt → LigSt) : (s.modLig g).lig = g s.lig := rfl
@[simp] theorem State.modLig_sec (g : LigSt → LigSt) : (s.modLig g).sec = s.sec := rfl
@[simp] theorem State.modLig_chop (g : LigSt → LigSt) : (s.modLig g).chop = s.chop := rfl
@[simp] theorem State.modLig_params (g : LigSt → LigSt) : (s.modLig g).params = s.params := rfl
@[simp] theorem State.modLig_flags (g : LigSt → LigSt) : (s.modLig g).flags = s.flags := rfl
@[simp] theorem State.modLig_counters (g : LigSt → LigSt) : (s.modLig g).counters = s.counters := rfl
@[simp] theorem State.modLig_misc (g : LigSt → LigSt) : (s.modLig g).misc = s.misc := rfl
@[simp] theorem State.modLig_now (g : LigSt → LigSt) : (s.modLig g).now = s.now := rfl
@[simp] theorem State.modLig_freeCount (g : LigSt → LigSt) : (s.modLig g).freeCount = s.freeCount := rfl
@[simp] theorem State.modLig_out (g : LigSt → LigSt) : (s.modLig g).out = s.out := rfl
@[simp] theorem State.modLig_pending (g : LigSt → LigSt) : (s.modLig g).pending = s.pending := rfl

@[simp] theorem State.modProgs_power (g : ProgsSt → ProgsSt) : (s.modProgs g).power = s.power := rfl
@[simp] theorem State.modProgs_boot (g : ProgsSt → ProgsSt) : (s.modProgs g).boot = s.boot := rfl
@[simp] theorem State.modProgs_flash (g : ProgsSt → ProgsSt) : (s.modProgs g).flash = s.flash := rfl
@[simp] theorem State.modProgs_fibres (g : ProgsSt → ProgsSt) : (s.modProgs g).fibres = s.fibres := rfl
@[simp] theorem State.modProgs_links (g : ProgsSt → ProgsSt) : (s.modProgs g).links = s.links := rfl
@[simp] theorem State.modProgs_engines (g : ProgsSt → ProgsSt) : (s.modProgs g).engines = s.engines := rfl
@[simp] theorem State.modProgs_hatch (g : ProgsSt → ProgsSt) : (s.modProgs g).hatch = s.hatch := rfl
@[simp] theorem State.modProgs_time (g : ProgsSt → ProgsSt) : (s.modProgs g).time = s.time := rfl
@[simp] theorem State.modProgs_folio (g : ProgsSt → ProgsSt) : (s.modProgs g).folio = s.folio := rfl
@[simp] theorem State.modProgs_codex (g : ProgsSt → ProgsSt) : (s.modProgs g).codex = s.codex := rfl
@[simp] theorem State.modProgs_slots (g : ProgsSt → ProgsSt) : (s.modProgs g).slots = s.slots := rfl
@[simp] theorem State.modProgs_faults (g : ProgsSt → ProgsSt) : (s.modProgs g).faults = s.faults := rfl
@[simp] theorem State.modProgs_mem (g : ProgsSt → ProgsSt) : (s.modProgs g).mem = s.mem := rfl
@[simp] theorem State.modProgs_tables (g : ProgsSt → ProgsSt) : (s.modProgs g).tables = s.tables := rfl
@[simp] theorem State.modProgs_core (g : ProgsSt → ProgsSt) : (s.modProgs g).core = s.core := rfl
@[simp] theorem State.modProgs_ductus (g : ProgsSt → ProgsSt) : (s.modProgs g).ductus = s.ductus := rfl
@[simp] theorem State.modProgs_nibs (g : ProgsSt → ProgsSt) : (s.modProgs g).nibs = s.nibs := rfl
@[simp] theorem State.modProgs_progs (g : ProgsSt → ProgsSt) : (s.modProgs g).progs = g s.progs := rfl
@[simp] theorem State.modProgs_coll (g : ProgsSt → ProgsSt) : (s.modProgs g).coll = s.coll := rfl
@[simp] theorem State.modProgs_host (g : ProgsSt → ProgsSt) : (s.modProgs g).host = s.host := rfl
@[simp] theorem State.modProgs_lig (g : ProgsSt → ProgsSt) : (s.modProgs g).lig = s.lig := rfl
@[simp] theorem State.modProgs_sec (g : ProgsSt → ProgsSt) : (s.modProgs g).sec = s.sec := rfl
@[simp] theorem State.modProgs_chop (g : ProgsSt → ProgsSt) : (s.modProgs g).chop = s.chop := rfl
@[simp] theorem State.modProgs_params (g : ProgsSt → ProgsSt) : (s.modProgs g).params = s.params := rfl
@[simp] theorem State.modProgs_flags (g : ProgsSt → ProgsSt) : (s.modProgs g).flags = s.flags := rfl
@[simp] theorem State.modProgs_counters (g : ProgsSt → ProgsSt) : (s.modProgs g).counters = s.counters := rfl
@[simp] theorem State.modProgs_misc (g : ProgsSt → ProgsSt) : (s.modProgs g).misc = s.misc := rfl
@[simp] theorem State.modProgs_now (g : ProgsSt → ProgsSt) : (s.modProgs g).now = s.now := rfl
@[simp] theorem State.modProgs_freeCount (g : ProgsSt → ProgsSt) : (s.modProgs g).freeCount = s.freeCount := rfl
@[simp] theorem State.modProgs_out (g : ProgsSt → ProgsSt) : (s.modProgs g).out = s.out := rfl
@[simp] theorem State.modProgs_pending (g : ProgsSt → ProgsSt) : (s.modProgs g).pending = s.pending := rfl

@[simp] theorem State.modHost_power (g : HostSt → HostSt) : (s.modHost g).power = s.power := rfl
@[simp] theorem State.modHost_boot (g : HostSt → HostSt) : (s.modHost g).boot = s.boot := rfl
@[simp] theorem State.modHost_flash (g : HostSt → HostSt) : (s.modHost g).flash = s.flash := rfl
@[simp] theorem State.modHost_fibres (g : HostSt → HostSt) : (s.modHost g).fibres = s.fibres := rfl
@[simp] theorem State.modHost_links (g : HostSt → HostSt) : (s.modHost g).links = s.links := rfl
@[simp] theorem State.modHost_engines (g : HostSt → HostSt) : (s.modHost g).engines = s.engines := rfl
@[simp] theorem State.modHost_hatch (g : HostSt → HostSt) : (s.modHost g).hatch = s.hatch := rfl
@[simp] theorem State.modHost_time (g : HostSt → HostSt) : (s.modHost g).time = s.time := rfl
@[simp] theorem State.modHost_folio (g : HostSt → HostSt) : (s.modHost g).folio = s.folio := rfl
@[simp] theorem State.modHost_codex (g : HostSt → HostSt) : (s.modHost g).codex = s.codex := rfl
@[simp] theorem State.modHost_slots (g : HostSt → HostSt) : (s.modHost g).slots = s.slots := rfl
@[simp] theorem State.modHost_faults (g : HostSt → HostSt) : (s.modHost g).faults = s.faults := rfl
@[simp] theorem State.modHost_mem (g : HostSt → HostSt) : (s.modHost g).mem = s.mem := rfl
@[simp] theorem State.modHost_tables (g : HostSt → HostSt) : (s.modHost g).tables = s.tables := rfl
@[simp] theorem State.modHost_core (g : HostSt → HostSt) : (s.modHost g).core = s.core := rfl
@[simp] theorem State.modHost_ductus (g : HostSt → HostSt) : (s.modHost g).ductus = s.ductus := rfl
@[simp] theorem State.modHost_nibs (g : HostSt → HostSt) : (s.modHost g).nibs = s.nibs := rfl
@[simp] theorem State.modHost_progs (g : HostSt → HostSt) : (s.modHost g).progs = s.progs := rfl
@[simp] theorem State.modHost_coll (g : HostSt → HostSt) : (s.modHost g).coll = s.coll := rfl
@[simp] theorem State.modHost_host (g : HostSt → HostSt) : (s.modHost g).host = g s.host := rfl
@[simp] theorem State.modHost_lig (g : HostSt → HostSt) : (s.modHost g).lig = s.lig := rfl
@[simp] theorem State.modHost_sec (g : HostSt → HostSt) : (s.modHost g).sec = s.sec := rfl
@[simp] theorem State.modHost_chop (g : HostSt → HostSt) : (s.modHost g).chop = s.chop := rfl
@[simp] theorem State.modHost_params (g : HostSt → HostSt) : (s.modHost g).params = s.params := rfl
@[simp] theorem State.modHost_flags (g : HostSt → HostSt) : (s.modHost g).flags = s.flags := rfl
@[simp] theorem State.modHost_counters (g : HostSt → HostSt) : (s.modHost g).counters = s.counters := rfl
@[simp] theorem State.modHost_misc (g : HostSt → HostSt) : (s.modHost g).misc = s.misc := rfl
@[simp] theorem State.modHost_now (g : HostSt → HostSt) : (s.modHost g).now = s.now := rfl
@[simp] theorem State.modHost_freeCount (g : HostSt → HostSt) : (s.modHost g).freeCount = s.freeCount := rfl
@[simp] theorem State.modHost_out (g : HostSt → HostSt) : (s.modHost g).out = s.out := rfl
@[simp] theorem State.modHost_pending (g : HostSt → HostSt) : (s.modHost g).pending = s.pending := rfl

@[simp] theorem State.modSec_power (g : SecSt → SecSt) : (s.modSec g).power = s.power := rfl
@[simp] theorem State.modSec_boot (g : SecSt → SecSt) : (s.modSec g).boot = s.boot := rfl
@[simp] theorem State.modSec_flash (g : SecSt → SecSt) : (s.modSec g).flash = s.flash := rfl
@[simp] theorem State.modSec_fibres (g : SecSt → SecSt) : (s.modSec g).fibres = s.fibres := rfl
@[simp] theorem State.modSec_links (g : SecSt → SecSt) : (s.modSec g).links = s.links := rfl
@[simp] theorem State.modSec_engines (g : SecSt → SecSt) : (s.modSec g).engines = s.engines := rfl
@[simp] theorem State.modSec_hatch (g : SecSt → SecSt) : (s.modSec g).hatch = s.hatch := rfl
@[simp] theorem State.modSec_time (g : SecSt → SecSt) : (s.modSec g).time = s.time := rfl
@[simp] theorem State.modSec_folio (g : SecSt → SecSt) : (s.modSec g).folio = s.folio := rfl
@[simp] theorem State.modSec_codex (g : SecSt → SecSt) : (s.modSec g).codex = s.codex := rfl
@[simp] theorem State.modSec_slots (g : SecSt → SecSt) : (s.modSec g).slots = s.slots := rfl
@[simp] theorem State.modSec_faults (g : SecSt → SecSt) : (s.modSec g).faults = s.faults := rfl
@[simp] theorem State.modSec_mem (g : SecSt → SecSt) : (s.modSec g).mem = s.mem := rfl
@[simp] theorem State.modSec_tables (g : SecSt → SecSt) : (s.modSec g).tables = s.tables := rfl
@[simp] theorem State.modSec_core (g : SecSt → SecSt) : (s.modSec g).core = s.core := rfl
@[simp] theorem State.modSec_ductus (g : SecSt → SecSt) : (s.modSec g).ductus = s.ductus := rfl
@[simp] theorem State.modSec_nibs (g : SecSt → SecSt) : (s.modSec g).nibs = s.nibs := rfl
@[simp] theorem State.modSec_progs (g : SecSt → SecSt) : (s.modSec g).progs = s.progs := rfl
@[simp] theorem State.modSec_coll (g : SecSt → SecSt) : (s.modSec g).coll = s.coll := rfl
@[simp] theorem State.modSec_host (g : SecSt → SecSt) : (s.modSec g).host = s.host := rfl
@[simp] theorem State.modSec_lig (g : SecSt → SecSt) : (s.modSec g).lig = s.lig := rfl
@[simp] theorem State.modSec_sec (g : SecSt → SecSt) : (s.modSec g).sec = g s.sec := rfl
@[simp] theorem State.modSec_chop (g : SecSt → SecSt) : (s.modSec g).chop = s.chop := rfl
@[simp] theorem State.modSec_params (g : SecSt → SecSt) : (s.modSec g).params = s.params := rfl
@[simp] theorem State.modSec_flags (g : SecSt → SecSt) : (s.modSec g).flags = s.flags := rfl
@[simp] theorem State.modSec_counters (g : SecSt → SecSt) : (s.modSec g).counters = s.counters := rfl
@[simp] theorem State.modSec_misc (g : SecSt → SecSt) : (s.modSec g).misc = s.misc := rfl
@[simp] theorem State.modSec_now (g : SecSt → SecSt) : (s.modSec g).now = s.now := rfl
@[simp] theorem State.modSec_freeCount (g : SecSt → SecSt) : (s.modSec g).freeCount = s.freeCount := rfl
@[simp] theorem State.modSec_out (g : SecSt → SecSt) : (s.modSec g).out = s.out := rfl
@[simp] theorem State.modSec_pending (g : SecSt → SecSt) : (s.modSec g).pending = s.pending := rfl

@[simp] theorem State.updFibre_power (f : Nat) (g : Fibre → Fibre) : (s.updFibre f g).power = s.power := rfl
@[simp] theorem State.updFibre_boot (f : Nat) (g : Fibre → Fibre) : (s.updFibre f g).boot = s.boot := rfl
@[simp] theorem State.updFibre_flash (f : Nat) (g : Fibre → Fibre) : (s.updFibre f g).flash = s.flash := rfl
@[simp] theorem State.updFibre_links (f : Nat) (g : Fibre → Fibre) : (s.updFibre f g).links = s.links := rfl
@[simp] theorem State.updFibre_engines (f : Nat) (g : Fibre → Fibre) : (s.updFibre f g).engines = s.engines := rfl
@[simp] theorem State.updFibre_hatch (f : Nat) (g : Fibre → Fibre) : (s.updFibre f g).hatch = s.hatch := rfl
@[simp] theorem State.updFibre_time (f : Nat) (g : Fibre → Fibre) : (s.updFibre f g).time = s.time := rfl
@[simp] theorem State.updFibre_folio (f : Nat) (g : Fibre → Fibre) : (s.updFibre f g).folio = s.folio := rfl
@[simp] theorem State.updFibre_codex (f : Nat) (g : Fibre → Fibre) : (s.updFibre f g).codex = s.codex := rfl
@[simp] theorem State.updFibre_slots (f : Nat) (g : Fibre → Fibre) : (s.updFibre f g).slots = s.slots := rfl
@[simp] theorem State.updFibre_faults (f : Nat) (g : Fibre → Fibre) : (s.updFibre f g).faults = s.faults := rfl
@[simp] theorem State.updFibre_mem (f : Nat) (g : Fibre → Fibre) : (s.updFibre f g).mem = s.mem := rfl
@[simp] theorem State.updFibre_tables (f : Nat) (g : Fibre → Fibre) : (s.updFibre f g).tables = s.tables := rfl
@[simp] theorem State.updFibre_core (f : Nat) (g : Fibre → Fibre) : (s.updFibre f g).core = s.core := rfl
@[simp] theorem State.updFibre_ductus (f : Nat) (g : Fibre → Fibre) : (s.updFibre f g).ductus = s.ductus := rfl
@[simp] theorem State.updFibre_nibs (f : Nat) (g : Fibre → Fibre) : (s.updFibre f g).nibs = s.nibs := rfl
@[simp] theorem State.updFibre_progs (f : Nat) (g : Fibre → Fibre) : (s.updFibre f g).progs = s.progs := rfl
@[simp] theorem State.updFibre_coll (f : Nat) (g : Fibre → Fibre) : (s.updFibre f g).coll = s.coll := rfl
@[simp] theorem State.updFibre_host (f : Nat) (g : Fibre → Fibre) : (s.updFibre f g).host = s.host := rfl
@[simp] theorem State.updFibre_lig (f : Nat) (g : Fibre → Fibre) : (s.updFibre f g).lig = s.lig := rfl
@[simp] theorem State.updFibre_sec (f : Nat) (g : Fibre → Fibre) : (s.updFibre f g).sec = s.sec := rfl
@[simp] theorem State.updFibre_chop (f : Nat) (g : Fibre → Fibre) : (s.updFibre f g).chop = s.chop := rfl
@[simp] theorem State.updFibre_params (f : Nat) (g : Fibre → Fibre) : (s.updFibre f g).params = s.params := rfl
@[simp] theorem State.updFibre_flags (f : Nat) (g : Fibre → Fibre) : (s.updFibre f g).flags = s.flags := rfl
@[simp] theorem State.updFibre_counters (f : Nat) (g : Fibre → Fibre) : (s.updFibre f g).counters = s.counters := rfl
@[simp] theorem State.updFibre_misc (f : Nat) (g : Fibre → Fibre) : (s.updFibre f g).misc = s.misc := rfl
@[simp] theorem State.updFibre_now (f : Nat) (g : Fibre → Fibre) : (s.updFibre f g).now = s.now := rfl
@[simp] theorem State.updFibre_freeCount (f : Nat) (g : Fibre → Fibre) : (s.updFibre f g).freeCount = s.freeCount := rfl
@[simp] theorem State.updFibre_out (f : Nat) (g : Fibre → Fibre) : (s.updFibre f g).out = s.out := rfl
@[simp] theorem State.updFibre_pending (f : Nat) (g : Fibre → Fibre) : (s.updFibre f g).pending = s.pending := rfl

@[simp] theorem State.updLane_power (f w : Nat) (g : Lane → Lane) : (s.updLane f w g).power = s.power := rfl
@[simp] theorem State.updLane_boot (f w : Nat) (g : Lane → Lane) : (s.updLane f w g).boot = s.boot := rfl
@[simp] theorem State.updLane_flash (f w : Nat) (g : Lane → Lane) : (s.updLane f w g).flash = s.flash := rfl
@[simp] theorem State.updLane_links (f w : Nat) (g : Lane → Lane) : (s.updLane f w g).links = s.links := rfl
@[simp] theorem State.updLane_engines (f w : Nat) (g : Lane → Lane) : (s.updLane f w g).engines = s.engines := rfl
@[simp] theorem State.updLane_hatch (f w : Nat) (g : Lane → Lane) : (s.updLane f w g).hatch = s.hatch := rfl
@[simp] theorem State.updLane_time (f w : Nat) (g : Lane → Lane) : (s.updLane f w g).time = s.time := rfl
@[simp] theorem State.updLane_folio (f w : Nat) (g : Lane → Lane) : (s.updLane f w g).folio = s.folio := rfl
@[simp] theorem State.updLane_codex (f w : Nat) (g : Lane → Lane) : (s.updLane f w g).codex = s.codex := rfl
@[simp] theorem State.updLane_slots (f w : Nat) (g : Lane → Lane) : (s.updLane f w g).slots = s.slots := rfl
@[simp] theorem State.updLane_faults (f w : Nat) (g : Lane → Lane) : (s.updLane f w g).faults = s.faults := rfl
@[simp] theorem State.updLane_mem (f w : Nat) (g : Lane → Lane) : (s.updLane f w g).mem = s.mem := rfl
@[simp] theorem State.updLane_tables (f w : Nat) (g : Lane → Lane) : (s.updLane f w g).tables = s.tables := rfl
@[simp] theorem State.updLane_core (f w : Nat) (g : Lane → Lane) : (s.updLane f w g).core = s.core := rfl
@[simp] theorem State.updLane_ductus (f w : Nat) (g : Lane → Lane) : (s.updLane f w g).ductus = s.ductus := rfl
@[simp] theorem State.updLane_nibs (f w : Nat) (g : Lane → Lane) : (s.updLane f w g).nibs = s.nibs := rfl
@[simp] theorem State.updLane_progs (f w : Nat) (g : Lane → Lane) : (s.updLane f w g).progs = s.progs := rfl
@[simp] theorem State.updLane_coll (f w : Nat) (g : Lane → Lane) : (s.updLane f w g).coll = s.coll := rfl
@[simp] theorem State.updLane_host (f w : Nat) (g : Lane → Lane) : (s.updLane f w g).host = s.host := rfl
@[simp] theorem State.updLane_lig (f w : Nat) (g : Lane → Lane) : (s.updLane f w g).lig = s.lig := rfl
@[simp] theorem State.updLane_sec (f w : Nat) (g : Lane → Lane) : (s.updLane f w g).sec = s.sec := rfl
@[simp] theorem State.updLane_chop (f w : Nat) (g : Lane → Lane) : (s.updLane f w g).chop = s.chop := rfl
@[simp] theorem State.updLane_params (f w : Nat) (g : Lane → Lane) : (s.updLane f w g).params = s.params := rfl
@[simp] theorem State.updLane_flags (f w : Nat) (g : Lane → Lane) : (s.updLane f w g).flags = s.flags := rfl
@[simp] theorem State.updLane_counters (f w : Nat) (g : Lane → Lane) : (s.updLane f w g).counters = s.counters := rfl
@[simp] theorem State.updLane_misc (f w : Nat) (g : Lane → Lane) : (s.updLane f w g).misc = s.misc := rfl
@[simp] theorem State.updLane_now (f w : Nat) (g : Lane → Lane) : (s.updLane f w g).now = s.now := rfl
@[simp] theorem State.updLane_freeCount (f w : Nat) (g : Lane → Lane) : (s.updLane f w g).freeCount = s.freeCount := rfl
@[simp] theorem State.updLane_out (f w : Nat) (g : Lane → Lane) : (s.updLane f w g).out = s.out := rfl
@[simp] theorem State.updLane_pending (f w : Nat) (g : Lane → Lane) : (s.updLane f w g).pending = s.pending := rfl

@[simp] theorem State.updLink_power (p : Nat) (g : LinkSt → LinkSt) : (s.updLink p g).power = s.power := rfl
@[simp] theorem State.updLink_boot (p : Nat) (g : LinkSt → LinkSt) : (s.updLink p g).boot = s.boot := rfl
@[simp] theorem State.updLink_flash (p : Nat) (g : LinkSt → LinkSt) : (s.updLink p g).flash = s.flash := rfl
@[simp] theorem State.updLink_fibres (p : Nat) (g : LinkSt → LinkSt) : (s.updLink p g).fibres = s.fibres := rfl
@[simp] theorem State.updLink_engines (p : Nat) (g : LinkSt → LinkSt) : (s.updLink p g).engines = s.engines := rfl
@[simp] theorem State.updLink_hatch (p : Nat) (g : LinkSt → LinkSt) : (s.updLink p g).hatch = s.hatch := rfl
@[simp] theorem State.updLink_time (p : Nat) (g : LinkSt → LinkSt) : (s.updLink p g).time = s.time := rfl
@[simp] theorem State.updLink_folio (p : Nat) (g : LinkSt → LinkSt) : (s.updLink p g).folio = s.folio := rfl
@[simp] theorem State.updLink_codex (p : Nat) (g : LinkSt → LinkSt) : (s.updLink p g).codex = s.codex := rfl
@[simp] theorem State.updLink_slots (p : Nat) (g : LinkSt → LinkSt) : (s.updLink p g).slots = s.slots := rfl
@[simp] theorem State.updLink_faults (p : Nat) (g : LinkSt → LinkSt) : (s.updLink p g).faults = s.faults := rfl
@[simp] theorem State.updLink_mem (p : Nat) (g : LinkSt → LinkSt) : (s.updLink p g).mem = s.mem := rfl
@[simp] theorem State.updLink_tables (p : Nat) (g : LinkSt → LinkSt) : (s.updLink p g).tables = s.tables := rfl
@[simp] theorem State.updLink_core (p : Nat) (g : LinkSt → LinkSt) : (s.updLink p g).core = s.core := rfl
@[simp] theorem State.updLink_ductus (p : Nat) (g : LinkSt → LinkSt) : (s.updLink p g).ductus = s.ductus := rfl
@[simp] theorem State.updLink_nibs (p : Nat) (g : LinkSt → LinkSt) : (s.updLink p g).nibs = s.nibs := rfl
@[simp] theorem State.updLink_progs (p : Nat) (g : LinkSt → LinkSt) : (s.updLink p g).progs = s.progs := rfl
@[simp] theorem State.updLink_coll (p : Nat) (g : LinkSt → LinkSt) : (s.updLink p g).coll = s.coll := rfl
@[simp] theorem State.updLink_host (p : Nat) (g : LinkSt → LinkSt) : (s.updLink p g).host = s.host := rfl
@[simp] theorem State.updLink_lig (p : Nat) (g : LinkSt → LinkSt) : (s.updLink p g).lig = s.lig := rfl
@[simp] theorem State.updLink_sec (p : Nat) (g : LinkSt → LinkSt) : (s.updLink p g).sec = s.sec := rfl
@[simp] theorem State.updLink_chop (p : Nat) (g : LinkSt → LinkSt) : (s.updLink p g).chop = s.chop := rfl
@[simp] theorem State.updLink_params (p : Nat) (g : LinkSt → LinkSt) : (s.updLink p g).params = s.params := rfl
@[simp] theorem State.updLink_flags (p : Nat) (g : LinkSt → LinkSt) : (s.updLink p g).flags = s.flags := rfl
@[simp] theorem State.updLink_counters (p : Nat) (g : LinkSt → LinkSt) : (s.updLink p g).counters = s.counters := rfl
@[simp] theorem State.updLink_misc (p : Nat) (g : LinkSt → LinkSt) : (s.updLink p g).misc = s.misc := rfl
@[simp] theorem State.updLink_now (p : Nat) (g : LinkSt → LinkSt) : (s.updLink p g).now = s.now := rfl
@[simp] theorem State.updLink_freeCount (p : Nat) (g : LinkSt → LinkSt) : (s.updLink p g).freeCount = s.freeCount := rfl
@[simp] theorem State.updLink_out (p : Nat) (g : LinkSt → LinkSt) : (s.updLink p g).out = s.out := rfl
@[simp] theorem State.updLink_pending (p : Nat) (g : LinkSt → LinkSt) : (s.updLink p g).pending = s.pending := rfl

@[simp] theorem State.updEngine_power (e : Nat) (g : Engine → Engine) : (s.updEngine e g).power = s.power := rfl
@[simp] theorem State.updEngine_boot (e : Nat) (g : Engine → Engine) : (s.updEngine e g).boot = s.boot := rfl
@[simp] theorem State.updEngine_flash (e : Nat) (g : Engine → Engine) : (s.updEngine e g).flash = s.flash := rfl
@[simp] theorem State.updEngine_fibres (e : Nat) (g : Engine → Engine) : (s.updEngine e g).fibres = s.fibres := rfl
@[simp] theorem State.updEngine_links (e : Nat) (g : Engine → Engine) : (s.updEngine e g).links = s.links := rfl
@[simp] theorem State.updEngine_hatch (e : Nat) (g : Engine → Engine) : (s.updEngine e g).hatch = s.hatch := rfl
@[simp] theorem State.updEngine_time (e : Nat) (g : Engine → Engine) : (s.updEngine e g).time = s.time := rfl
@[simp] theorem State.updEngine_folio (e : Nat) (g : Engine → Engine) : (s.updEngine e g).folio = s.folio := rfl
@[simp] theorem State.updEngine_codex (e : Nat) (g : Engine → Engine) : (s.updEngine e g).codex = s.codex := rfl
@[simp] theorem State.updEngine_slots (e : Nat) (g : Engine → Engine) : (s.updEngine e g).slots = s.slots := rfl
@[simp] theorem State.updEngine_faults (e : Nat) (g : Engine → Engine) : (s.updEngine e g).faults = s.faults := rfl
@[simp] theorem State.updEngine_mem (e : Nat) (g : Engine → Engine) : (s.updEngine e g).mem = s.mem := rfl
@[simp] theorem State.updEngine_tables (e : Nat) (g : Engine → Engine) : (s.updEngine e g).tables = s.tables := rfl
@[simp] theorem State.updEngine_core (e : Nat) (g : Engine → Engine) : (s.updEngine e g).core = s.core := rfl
@[simp] theorem State.updEngine_ductus (e : Nat) (g : Engine → Engine) : (s.updEngine e g).ductus = s.ductus := rfl
@[simp] theorem State.updEngine_nibs (e : Nat) (g : Engine → Engine) : (s.updEngine e g).nibs = s.nibs := rfl
@[simp] theorem State.updEngine_progs (e : Nat) (g : Engine → Engine) : (s.updEngine e g).progs = s.progs := rfl
@[simp] theorem State.updEngine_coll (e : Nat) (g : Engine → Engine) : (s.updEngine e g).coll = s.coll := rfl
@[simp] theorem State.updEngine_host (e : Nat) (g : Engine → Engine) : (s.updEngine e g).host = s.host := rfl
@[simp] theorem State.updEngine_lig (e : Nat) (g : Engine → Engine) : (s.updEngine e g).lig = s.lig := rfl
@[simp] theorem State.updEngine_sec (e : Nat) (g : Engine → Engine) : (s.updEngine e g).sec = s.sec := rfl
@[simp] theorem State.updEngine_chop (e : Nat) (g : Engine → Engine) : (s.updEngine e g).chop = s.chop := rfl
@[simp] theorem State.updEngine_params (e : Nat) (g : Engine → Engine) : (s.updEngine e g).params = s.params := rfl
@[simp] theorem State.updEngine_flags (e : Nat) (g : Engine → Engine) : (s.updEngine e g).flags = s.flags := rfl
@[simp] theorem State.updEngine_counters (e : Nat) (g : Engine → Engine) : (s.updEngine e g).counters = s.counters := rfl
@[simp] theorem State.updEngine_misc (e : Nat) (g : Engine → Engine) : (s.updEngine e g).misc = s.misc := rfl
@[simp] theorem State.updEngine_now (e : Nat) (g : Engine → Engine) : (s.updEngine e g).now = s.now := rfl
@[simp] theorem State.updEngine_freeCount (e : Nat) (g : Engine → Engine) : (s.updEngine e g).freeCount = s.freeCount := rfl
@[simp] theorem State.updEngine_out (e : Nat) (g : Engine → Engine) : (s.updEngine e g).out = s.out := rfl
@[simp] theorem State.updEngine_pending (e : Nat) (g : Engine → Engine) : (s.updEngine e g).pending = s.pending := rfl

@[simp] theorem State.updSource_power (e i : Nat) (g : Source → Source) : (s.updSource e i g).power = s.power := rfl
@[simp] theorem State.updSource_boot (e i : Nat) (g : Source → Source) : (s.updSource e i g).boot = s.boot := rfl
@[simp] theorem State.updSource_flash (e i : Nat) (g : Source → Source) : (s.updSource e i g).flash = s.flash := rfl
@[simp] theorem State.updSource_fibres (e i : Nat) (g : Source → Source) : (s.updSource e i g).fibres = s.fibres := rfl
@[simp] theorem State.updSource_links (e i : Nat) (g : Source → Source) : (s.updSource e i g).links = s.links := rfl
@[simp] theorem State.updSource_hatch (e i : Nat) (g : Source → Source) : (s.updSource e i g).hatch = s.hatch := rfl
@[simp] theorem State.updSource_time (e i : Nat) (g : Source → Source) : (s.updSource e i g).time = s.time := rfl
@[simp] theorem State.updSource_folio (e i : Nat) (g : Source → Source) : (s.updSource e i g).folio = s.folio := rfl
@[simp] theorem State.updSource_codex (e i : Nat) (g : Source → Source) : (s.updSource e i g).codex = s.codex := rfl
@[simp] theorem State.updSource_slots (e i : Nat) (g : Source → Source) : (s.updSource e i g).slots = s.slots := rfl
@[simp] theorem State.updSource_faults (e i : Nat) (g : Source → Source) : (s.updSource e i g).faults = s.faults := rfl
@[simp] theorem State.updSource_mem (e i : Nat) (g : Source → Source) : (s.updSource e i g).mem = s.mem := rfl
@[simp] theorem State.updSource_tables (e i : Nat) (g : Source → Source) : (s.updSource e i g).tables = s.tables := rfl
@[simp] theorem State.updSource_core (e i : Nat) (g : Source → Source) : (s.updSource e i g).core = s.core := rfl
@[simp] theorem State.updSource_ductus (e i : Nat) (g : Source → Source) : (s.updSource e i g).ductus = s.ductus := rfl
@[simp] theorem State.updSource_nibs (e i : Nat) (g : Source → Source) : (s.updSource e i g).nibs = s.nibs := rfl
@[simp] theorem State.updSource_progs (e i : Nat) (g : Source → Source) : (s.updSource e i g).progs = s.progs := rfl
@[simp] theorem State.updSource_coll (e i : Nat) (g : Source → Source) : (s.updSource e i g).coll = s.coll := rfl
@[simp] theorem State.updSource_host (e i : Nat) (g : Source → Source) : (s.updSource e i g).host = s.host := rfl
@[simp] theorem State.updSource_lig (e i : Nat) (g : Source → Source) : (s.updSource e i g).lig = s.lig := rfl
@[simp] theorem State.updSource_sec (e i : Nat) (g : Source → Source) : (s.updSource e i g).sec = s.sec := rfl
@[simp] theorem State.updSource_chop (e i : Nat) (g : Source → Source) : (s.updSource e i g).chop = s.chop := rfl
@[simp] theorem State.updSource_params (e i : Nat) (g : Source → Source) : (s.updSource e i g).params = s.params := rfl
@[simp] theorem State.updSource_flags (e i : Nat) (g : Source → Source) : (s.updSource e i g).flags = s.flags := rfl
@[simp] theorem State.updSource_counters (e i : Nat) (g : Source → Source) : (s.updSource e i g).counters = s.counters := rfl
@[simp] theorem State.updSource_misc (e i : Nat) (g : Source → Source) : (s.updSource e i g).misc = s.misc := rfl
@[simp] theorem State.updSource_now (e i : Nat) (g : Source → Source) : (s.updSource e i g).now = s.now := rfl
@[simp] theorem State.updSource_freeCount (e i : Nat) (g : Source → Source) : (s.updSource e i g).freeCount = s.freeCount := rfl
@[simp] theorem State.updSource_out (e i : Nat) (g : Source → Source) : (s.updSource e i g).out = s.out := rfl
@[simp] theorem State.updSource_pending (e i : Nat) (g : Source → Source) : (s.updSource e i g).pending = s.pending := rfl

@[simp] theorem State.updSlot_power (j : Nat) (g : Slot → Slot) : (s.updSlot j g).power = s.power := rfl
@[simp] theorem State.updSlot_boot (j : Nat) (g : Slot → Slot) : (s.updSlot j g).boot = s.boot := rfl
@[simp] theorem State.updSlot_flash (j : Nat) (g : Slot → Slot) : (s.updSlot j g).flash = s.flash := rfl
@[simp] theorem State.updSlot_fibres (j : Nat) (g : Slot → Slot) : (s.updSlot j g).fibres = s.fibres := rfl
@[simp] theorem State.updSlot_links (j : Nat) (g : Slot → Slot) : (s.updSlot j g).links = s.links := rfl
@[simp] theorem State.updSlot_engines (j : Nat) (g : Slot → Slot) : (s.updSlot j g).engines = s.engines := rfl
@[simp] theorem State.updSlot_hatch (j : Nat) (g : Slot → Slot) : (s.updSlot j g).hatch = s.hatch := rfl
@[simp] theorem State.updSlot_time (j : Nat) (g : Slot → Slot) : (s.updSlot j g).time = s.time := rfl
@[simp] theorem State.updSlot_folio (j : Nat) (g : Slot → Slot) : (s.updSlot j g).folio = s.folio := rfl
@[simp] theorem State.updSlot_codex (j : Nat) (g : Slot → Slot) : (s.updSlot j g).codex = s.codex := rfl
@[simp] theorem State.updSlot_faults (j : Nat) (g : Slot → Slot) : (s.updSlot j g).faults = s.faults := rfl
@[simp] theorem State.updSlot_mem (j : Nat) (g : Slot → Slot) : (s.updSlot j g).mem = s.mem := rfl
@[simp] theorem State.updSlot_tables (j : Nat) (g : Slot → Slot) : (s.updSlot j g).tables = s.tables := rfl
@[simp] theorem State.updSlot_core (j : Nat) (g : Slot → Slot) : (s.updSlot j g).core = s.core := rfl
@[simp] theorem State.updSlot_ductus (j : Nat) (g : Slot → Slot) : (s.updSlot j g).ductus = s.ductus := rfl
@[simp] theorem State.updSlot_nibs (j : Nat) (g : Slot → Slot) : (s.updSlot j g).nibs = s.nibs := rfl
@[simp] theorem State.updSlot_progs (j : Nat) (g : Slot → Slot) : (s.updSlot j g).progs = s.progs := rfl
@[simp] theorem State.updSlot_coll (j : Nat) (g : Slot → Slot) : (s.updSlot j g).coll = s.coll := rfl
@[simp] theorem State.updSlot_host (j : Nat) (g : Slot → Slot) : (s.updSlot j g).host = s.host := rfl
@[simp] theorem State.updSlot_lig (j : Nat) (g : Slot → Slot) : (s.updSlot j g).lig = s.lig := rfl
@[simp] theorem State.updSlot_sec (j : Nat) (g : Slot → Slot) : (s.updSlot j g).sec = s.sec := rfl
@[simp] theorem State.updSlot_chop (j : Nat) (g : Slot → Slot) : (s.updSlot j g).chop = s.chop := rfl
@[simp] theorem State.updSlot_params (j : Nat) (g : Slot → Slot) : (s.updSlot j g).params = s.params := rfl
@[simp] theorem State.updSlot_flags (j : Nat) (g : Slot → Slot) : (s.updSlot j g).flags = s.flags := rfl
@[simp] theorem State.updSlot_counters (j : Nat) (g : Slot → Slot) : (s.updSlot j g).counters = s.counters := rfl
@[simp] theorem State.updSlot_misc (j : Nat) (g : Slot → Slot) : (s.updSlot j g).misc = s.misc := rfl
@[simp] theorem State.updSlot_now (j : Nat) (g : Slot → Slot) : (s.updSlot j g).now = s.now := rfl
@[simp] theorem State.updSlot_freeCount (j : Nat) (g : Slot → Slot) : (s.updSlot j g).freeCount = s.freeCount := rfl
@[simp] theorem State.updSlot_out (j : Nat) (g : Slot → Slot) : (s.updSlot j g).out = s.out := rfl
@[simp] theorem State.updSlot_pending (j : Nat) (g : Slot → Slot) : (s.updSlot j g).pending = s.pending := rfl

@[simp] theorem State.updNib_power (n : Nat) (g : Nib → Nib) : (s.updNib n g).power = s.power := rfl
@[simp] theorem State.updNib_boot (n : Nat) (g : Nib → Nib) : (s.updNib n g).boot = s.boot := rfl
@[simp] theorem State.updNib_flash (n : Nat) (g : Nib → Nib) : (s.updNib n g).flash = s.flash := rfl
@[simp] theorem State.updNib_fibres (n : Nat) (g : Nib → Nib) : (s.updNib n g).fibres = s.fibres := rfl
@[simp] theorem State.updNib_links (n : Nat) (g : Nib → Nib) : (s.updNib n g).links = s.links := rfl
@[simp] theorem State.updNib_engines (n : Nat) (g : Nib → Nib) : (s.updNib n g).engines = s.engines := rfl
@[simp] theorem State.updNib_hatch (n : Nat) (g : Nib → Nib) : (s.updNib n g).hatch = s.hatch := rfl
@[simp] theorem State.updNib_time (n : Nat) (g : Nib → Nib) : (s.updNib n g).time = s.time := rfl
@[simp] theorem State.updNib_folio (n : Nat) (g : Nib → Nib) : (s.updNib n g).folio = s.folio := rfl
@[simp] theorem State.updNib_codex (n : Nat) (g : Nib → Nib) : (s.updNib n g).codex = s.codex := rfl
@[simp] theorem State.updNib_slots (n : Nat) (g : Nib → Nib) : (s.updNib n g).slots = s.slots := rfl
@[simp] theorem State.updNib_faults (n : Nat) (g : Nib → Nib) : (s.updNib n g).faults = s.faults := rfl
@[simp] theorem State.updNib_mem (n : Nat) (g : Nib → Nib) : (s.updNib n g).mem = s.mem := rfl
@[simp] theorem State.updNib_tables (n : Nat) (g : Nib → Nib) : (s.updNib n g).tables = s.tables := rfl
@[simp] theorem State.updNib_core (n : Nat) (g : Nib → Nib) : (s.updNib n g).core = s.core := rfl
@[simp] theorem State.updNib_ductus (n : Nat) (g : Nib → Nib) : (s.updNib n g).ductus = s.ductus := rfl
@[simp] theorem State.updNib_progs (n : Nat) (g : Nib → Nib) : (s.updNib n g).progs = s.progs := rfl
@[simp] theorem State.updNib_coll (n : Nat) (g : Nib → Nib) : (s.updNib n g).coll = s.coll := rfl
@[simp] theorem State.updNib_host (n : Nat) (g : Nib → Nib) : (s.updNib n g).host = s.host := rfl
@[simp] theorem State.updNib_lig (n : Nat) (g : Nib → Nib) : (s.updNib n g).lig = s.lig := rfl
@[simp] theorem State.updNib_sec (n : Nat) (g : Nib → Nib) : (s.updNib n g).sec = s.sec := rfl
@[simp] theorem State.updNib_chop (n : Nat) (g : Nib → Nib) : (s.updNib n g).chop = s.chop := rfl
@[simp] theorem State.updNib_params (n : Nat) (g : Nib → Nib) : (s.updNib n g).params = s.params := rfl
@[simp] theorem State.updNib_flags (n : Nat) (g : Nib → Nib) : (s.updNib n g).flags = s.flags := rfl
@[simp] theorem State.updNib_counters (n : Nat) (g : Nib → Nib) : (s.updNib n g).counters = s.counters := rfl
@[simp] theorem State.updNib_misc (n : Nat) (g : Nib → Nib) : (s.updNib n g).misc = s.misc := rfl
@[simp] theorem State.updNib_now (n : Nat) (g : Nib → Nib) : (s.updNib n g).now = s.now := rfl
@[simp] theorem State.updNib_freeCount (n : Nat) (g : Nib → Nib) : (s.updNib n g).freeCount = s.freeCount := rfl
@[simp] theorem State.updNib_out (n : Nat) (g : Nib → Nib) : (s.updNib n g).out = s.out := rfl
@[simp] theorem State.updNib_pending (n : Nat) (g : Nib → Nib) : (s.updNib n g).pending = s.pending := rfl

@[simp] theorem State.updCtx_power (n c : Nat) (g : Ctx → Ctx) : (s.updCtx n c g).power = s.power := rfl
@[simp] theorem State.updCtx_boot (n c : Nat) (g : Ctx → Ctx) : (s.updCtx n c g).boot = s.boot := rfl
@[simp] theorem State.updCtx_flash (n c : Nat) (g : Ctx → Ctx) : (s.updCtx n c g).flash = s.flash := rfl
@[simp] theorem State.updCtx_fibres (n c : Nat) (g : Ctx → Ctx) : (s.updCtx n c g).fibres = s.fibres := rfl
@[simp] theorem State.updCtx_links (n c : Nat) (g : Ctx → Ctx) : (s.updCtx n c g).links = s.links := rfl
@[simp] theorem State.updCtx_engines (n c : Nat) (g : Ctx → Ctx) : (s.updCtx n c g).engines = s.engines := rfl
@[simp] theorem State.updCtx_hatch (n c : Nat) (g : Ctx → Ctx) : (s.updCtx n c g).hatch = s.hatch := rfl
@[simp] theorem State.updCtx_time (n c : Nat) (g : Ctx → Ctx) : (s.updCtx n c g).time = s.time := rfl
@[simp] theorem State.updCtx_folio (n c : Nat) (g : Ctx → Ctx) : (s.updCtx n c g).folio = s.folio := rfl
@[simp] theorem State.updCtx_codex (n c : Nat) (g : Ctx → Ctx) : (s.updCtx n c g).codex = s.codex := rfl
@[simp] theorem State.updCtx_slots (n c : Nat) (g : Ctx → Ctx) : (s.updCtx n c g).slots = s.slots := rfl
@[simp] theorem State.updCtx_faults (n c : Nat) (g : Ctx → Ctx) : (s.updCtx n c g).faults = s.faults := rfl
@[simp] theorem State.updCtx_mem (n c : Nat) (g : Ctx → Ctx) : (s.updCtx n c g).mem = s.mem := rfl
@[simp] theorem State.updCtx_tables (n c : Nat) (g : Ctx → Ctx) : (s.updCtx n c g).tables = s.tables := rfl
@[simp] theorem State.updCtx_core (n c : Nat) (g : Ctx → Ctx) : (s.updCtx n c g).core = s.core := rfl
@[simp] theorem State.updCtx_ductus (n c : Nat) (g : Ctx → Ctx) : (s.updCtx n c g).ductus = s.ductus := rfl
@[simp] theorem State.updCtx_progs (n c : Nat) (g : Ctx → Ctx) : (s.updCtx n c g).progs = s.progs := rfl
@[simp] theorem State.updCtx_coll (n c : Nat) (g : Ctx → Ctx) : (s.updCtx n c g).coll = s.coll := rfl
@[simp] theorem State.updCtx_host (n c : Nat) (g : Ctx → Ctx) : (s.updCtx n c g).host = s.host := rfl
@[simp] theorem State.updCtx_lig (n c : Nat) (g : Ctx → Ctx) : (s.updCtx n c g).lig = s.lig := rfl
@[simp] theorem State.updCtx_sec (n c : Nat) (g : Ctx → Ctx) : (s.updCtx n c g).sec = s.sec := rfl
@[simp] theorem State.updCtx_chop (n c : Nat) (g : Ctx → Ctx) : (s.updCtx n c g).chop = s.chop := rfl
@[simp] theorem State.updCtx_params (n c : Nat) (g : Ctx → Ctx) : (s.updCtx n c g).params = s.params := rfl
@[simp] theorem State.updCtx_flags (n c : Nat) (g : Ctx → Ctx) : (s.updCtx n c g).flags = s.flags := rfl
@[simp] theorem State.updCtx_counters (n c : Nat) (g : Ctx → Ctx) : (s.updCtx n c g).counters = s.counters := rfl
@[simp] theorem State.updCtx_misc (n c : Nat) (g : Ctx → Ctx) : (s.updCtx n c g).misc = s.misc := rfl
@[simp] theorem State.updCtx_now (n c : Nat) (g : Ctx → Ctx) : (s.updCtx n c g).now = s.now := rfl
@[simp] theorem State.updCtx_freeCount (n c : Nat) (g : Ctx → Ctx) : (s.updCtx n c g).freeCount = s.freeCount := rfl
@[simp] theorem State.updCtx_out (n c : Nat) (g : Ctx → Ctx) : (s.updCtx n c g).out = s.out := rfl
@[simp] theorem State.updCtx_pending (n c : Nat) (g : Ctx → Ctx) : (s.updCtx n c g).pending = s.pending := rfl

@[simp] theorem State.updThread_power (th : Nat) (g : Thread → Thread) : (s.updThread th g).power = s.power := rfl
@[simp] theorem State.updThread_boot (th : Nat) (g : Thread → Thread) : (s.updThread th g).boot = s.boot := rfl
@[simp] theorem State.updThread_flash (th : Nat) (g : Thread → Thread) : (s.updThread th g).flash = s.flash := rfl
@[simp] theorem State.updThread_fibres (th : Nat) (g : Thread → Thread) : (s.updThread th g).fibres = s.fibres := rfl
@[simp] theorem State.updThread_links (th : Nat) (g : Thread → Thread) : (s.updThread th g).links = s.links := rfl
@[simp] theorem State.updThread_engines (th : Nat) (g : Thread → Thread) : (s.updThread th g).engines = s.engines := rfl
@[simp] theorem State.updThread_hatch (th : Nat) (g : Thread → Thread) : (s.updThread th g).hatch = s.hatch := rfl
@[simp] theorem State.updThread_time (th : Nat) (g : Thread → Thread) : (s.updThread th g).time = s.time := rfl
@[simp] theorem State.updThread_folio (th : Nat) (g : Thread → Thread) : (s.updThread th g).folio = s.folio := rfl
@[simp] theorem State.updThread_codex (th : Nat) (g : Thread → Thread) : (s.updThread th g).codex = s.codex := rfl
@[simp] theorem State.updThread_slots (th : Nat) (g : Thread → Thread) : (s.updThread th g).slots = s.slots := rfl
@[simp] theorem State.updThread_faults (th : Nat) (g : Thread → Thread) : (s.updThread th g).faults = s.faults := rfl
@[simp] theorem State.updThread_mem (th : Nat) (g : Thread → Thread) : (s.updThread th g).mem = s.mem := rfl
@[simp] theorem State.updThread_tables (th : Nat) (g : Thread → Thread) : (s.updThread th g).tables = s.tables := rfl
@[simp] theorem State.updThread_core (th : Nat) (g : Thread → Thread) : (s.updThread th g).core = s.core := rfl
@[simp] theorem State.updThread_ductus (th : Nat) (g : Thread → Thread) : (s.updThread th g).ductus = s.ductus := rfl
@[simp] theorem State.updThread_nibs (th : Nat) (g : Thread → Thread) : (s.updThread th g).nibs = s.nibs := rfl
@[simp] theorem State.updThread_progs (th : Nat) (g : Thread → Thread) : (s.updThread th g).progs = s.progs := rfl
@[simp] theorem State.updThread_host (th : Nat) (g : Thread → Thread) : (s.updThread th g).host = s.host := rfl
@[simp] theorem State.updThread_lig (th : Nat) (g : Thread → Thread) : (s.updThread th g).lig = s.lig := rfl
@[simp] theorem State.updThread_sec (th : Nat) (g : Thread → Thread) : (s.updThread th g).sec = s.sec := rfl
@[simp] theorem State.updThread_chop (th : Nat) (g : Thread → Thread) : (s.updThread th g).chop = s.chop := rfl
@[simp] theorem State.updThread_params (th : Nat) (g : Thread → Thread) : (s.updThread th g).params = s.params := rfl
@[simp] theorem State.updThread_flags (th : Nat) (g : Thread → Thread) : (s.updThread th g).flags = s.flags := rfl
@[simp] theorem State.updThread_counters (th : Nat) (g : Thread → Thread) : (s.updThread th g).counters = s.counters := rfl
@[simp] theorem State.updThread_misc (th : Nat) (g : Thread → Thread) : (s.updThread th g).misc = s.misc := rfl
@[simp] theorem State.updThread_now (th : Nat) (g : Thread → Thread) : (s.updThread th g).now = s.now := rfl
@[simp] theorem State.updThread_freeCount (th : Nat) (g : Thread → Thread) : (s.updThread th g).freeCount = s.freeCount := rfl
@[simp] theorem State.updThread_out (th : Nat) (g : Thread → Thread) : (s.updThread th g).out = s.out := rfl
@[simp] theorem State.updThread_pending (th : Nat) (g : Thread → Thread) : (s.updThread th g).pending = s.pending := rfl

@[simp] theorem State.updRing_power (r : Nat) (g : CmdRing → CmdRing) : (s.updRing r g).power = s.power := rfl
@[simp] theorem State.updRing_boot (r : Nat) (g : CmdRing → CmdRing) : (s.updRing r g).boot = s.boot := rfl
@[simp] theorem State.updRing_flash (r : Nat) (g : CmdRing → CmdRing) : (s.updRing r g).flash = s.flash := rfl
@[simp] theorem State.updRing_fibres (r : Nat) (g : CmdRing → CmdRing) : (s.updRing r g).fibres = s.fibres := rfl
@[simp] theorem State.updRing_links (r : Nat) (g : CmdRing → CmdRing) : (s.updRing r g).links = s.links := rfl
@[simp] theorem State.updRing_engines (r : Nat) (g : CmdRing → CmdRing) : (s.updRing r g).engines = s.engines := rfl
@[simp] theorem State.updRing_hatch (r : Nat) (g : CmdRing → CmdRing) : (s.updRing r g).hatch = s.hatch := rfl
@[simp] theorem State.updRing_time (r : Nat) (g : CmdRing → CmdRing) : (s.updRing r g).time = s.time := rfl
@[simp] theorem State.updRing_folio (r : Nat) (g : CmdRing → CmdRing) : (s.updRing r g).folio = s.folio := rfl
@[simp] theorem State.updRing_codex (r : Nat) (g : CmdRing → CmdRing) : (s.updRing r g).codex = s.codex := rfl
@[simp] theorem State.updRing_slots (r : Nat) (g : CmdRing → CmdRing) : (s.updRing r g).slots = s.slots := rfl
@[simp] theorem State.updRing_faults (r : Nat) (g : CmdRing → CmdRing) : (s.updRing r g).faults = s.faults := rfl
@[simp] theorem State.updRing_mem (r : Nat) (g : CmdRing → CmdRing) : (s.updRing r g).mem = s.mem := rfl
@[simp] theorem State.updRing_tables (r : Nat) (g : CmdRing → CmdRing) : (s.updRing r g).tables = s.tables := rfl
@[simp] theorem State.updRing_core (r : Nat) (g : CmdRing → CmdRing) : (s.updRing r g).core = s.core := rfl
@[simp] theorem State.updRing_ductus (r : Nat) (g : CmdRing → CmdRing) : (s.updRing r g).ductus = s.ductus := rfl
@[simp] theorem State.updRing_nibs (r : Nat) (g : CmdRing → CmdRing) : (s.updRing r g).nibs = s.nibs := rfl
@[simp] theorem State.updRing_progs (r : Nat) (g : CmdRing → CmdRing) : (s.updRing r g).progs = s.progs := rfl
@[simp] theorem State.updRing_coll (r : Nat) (g : CmdRing → CmdRing) : (s.updRing r g).coll = s.coll := rfl
@[simp] theorem State.updRing_lig (r : Nat) (g : CmdRing → CmdRing) : (s.updRing r g).lig = s.lig := rfl
@[simp] theorem State.updRing_sec (r : Nat) (g : CmdRing → CmdRing) : (s.updRing r g).sec = s.sec := rfl
@[simp] theorem State.updRing_chop (r : Nat) (g : CmdRing → CmdRing) : (s.updRing r g).chop = s.chop := rfl
@[simp] theorem State.updRing_params (r : Nat) (g : CmdRing → CmdRing) : (s.updRing r g).params = s.params := rfl
@[simp] theorem State.updRing_flags (r : Nat) (g : CmdRing → CmdRing) : (s.updRing r g).flags = s.flags := rfl
@[simp] theorem State.updRing_counters (r : Nat) (g : CmdRing → CmdRing) : (s.updRing r g).counters = s.counters := rfl
@[simp] theorem State.updRing_misc (r : Nat) (g : CmdRing → CmdRing) : (s.updRing r g).misc = s.misc := rfl
@[simp] theorem State.updRing_now (r : Nat) (g : CmdRing → CmdRing) : (s.updRing r g).now = s.now := rfl
@[simp] theorem State.updRing_freeCount (r : Nat) (g : CmdRing → CmdRing) : (s.updRing r g).freeCount = s.freeCount := rfl
@[simp] theorem State.updRing_out (r : Nat) (g : CmdRing → CmdRing) : (s.updRing r g).out = s.out := rfl
@[simp] theorem State.updRing_pending (r : Nat) (g : CmdRing → CmdRing) : (s.updRing r g).pending = s.pending := rfl

@[simp] theorem State.updFunc_power (n : Nat) (g : Function → Function) : (s.updFunc n g).power = s.power := rfl
@[simp] theorem State.updFunc_boot (n : Nat) (g : Function → Function) : (s.updFunc n g).boot = s.boot := rfl
@[simp] theorem State.updFunc_flash (n : Nat) (g : Function → Function) : (s.updFunc n g).flash = s.flash := rfl
@[simp] theorem State.updFunc_fibres (n : Nat) (g : Function → Function) : (s.updFunc n g).fibres = s.fibres := rfl
@[simp] theorem State.updFunc_links (n : Nat) (g : Function → Function) : (s.updFunc n g).links = s.links := rfl
@[simp] theorem State.updFunc_engines (n : Nat) (g : Function → Function) : (s.updFunc n g).engines = s.engines := rfl
@[simp] theorem State.updFunc_hatch (n : Nat) (g : Function → Function) : (s.updFunc n g).hatch = s.hatch := rfl
@[simp] theorem State.updFunc_time (n : Nat) (g : Function → Function) : (s.updFunc n g).time = s.time := rfl
@[simp] theorem State.updFunc_folio (n : Nat) (g : Function → Function) : (s.updFunc n g).folio = s.folio := rfl
@[simp] theorem State.updFunc_codex (n : Nat) (g : Function → Function) : (s.updFunc n g).codex = s.codex := rfl
@[simp] theorem State.updFunc_slots (n : Nat) (g : Function → Function) : (s.updFunc n g).slots = s.slots := rfl
@[simp] theorem State.updFunc_faults (n : Nat) (g : Function → Function) : (s.updFunc n g).faults = s.faults := rfl
@[simp] theorem State.updFunc_mem (n : Nat) (g : Function → Function) : (s.updFunc n g).mem = s.mem := rfl
@[simp] theorem State.updFunc_tables (n : Nat) (g : Function → Function) : (s.updFunc n g).tables = s.tables := rfl
@[simp] theorem State.updFunc_core (n : Nat) (g : Function → Function) : (s.updFunc n g).core = s.core := rfl
@[simp] theorem State.updFunc_ductus (n : Nat) (g : Function → Function) : (s.updFunc n g).ductus = s.ductus := rfl
@[simp] theorem State.updFunc_nibs (n : Nat) (g : Function → Function) : (s.updFunc n g).nibs = s.nibs := rfl
@[simp] theorem State.updFunc_progs (n : Nat) (g : Function → Function) : (s.updFunc n g).progs = s.progs := rfl
@[simp] theorem State.updFunc_coll (n : Nat) (g : Function → Function) : (s.updFunc n g).coll = s.coll := rfl
@[simp] theorem State.updFunc_lig (n : Nat) (g : Function → Function) : (s.updFunc n g).lig = s.lig := rfl
@[simp] theorem State.updFunc_sec (n : Nat) (g : Function → Function) : (s.updFunc n g).sec = s.sec := rfl
@[simp] theorem State.updFunc_chop (n : Nat) (g : Function → Function) : (s.updFunc n g).chop = s.chop := rfl
@[simp] theorem State.updFunc_params (n : Nat) (g : Function → Function) : (s.updFunc n g).params = s.params := rfl
@[simp] theorem State.updFunc_flags (n : Nat) (g : Function → Function) : (s.updFunc n g).flags = s.flags := rfl
@[simp] theorem State.updFunc_counters (n : Nat) (g : Function → Function) : (s.updFunc n g).counters = s.counters := rfl
@[simp] theorem State.updFunc_misc (n : Nat) (g : Function → Function) : (s.updFunc n g).misc = s.misc := rfl
@[simp] theorem State.updFunc_now (n : Nat) (g : Function → Function) : (s.updFunc n g).now = s.now := rfl
@[simp] theorem State.updFunc_freeCount (n : Nat) (g : Function → Function) : (s.updFunc n g).freeCount = s.freeCount := rfl
@[simp] theorem State.updFunc_out (n : Nat) (g : Function → Function) : (s.updFunc n g).out = s.out := rfl
@[simp] theorem State.updFunc_pending (n : Nat) (g : Function → Function) : (s.updFunc n g).pending = s.pending := rfl

@[simp] theorem State.updUnit_power (u : Nat) (g : UnitEntry → UnitEntry) : (s.updUnit u g).power = s.power := rfl
@[simp] theorem State.updUnit_boot (u : Nat) (g : UnitEntry → UnitEntry) : (s.updUnit u g).boot = s.boot := rfl
@[simp] theorem State.updUnit_flash (u : Nat) (g : UnitEntry → UnitEntry) : (s.updUnit u g).flash = s.flash := rfl
@[simp] theorem State.updUnit_fibres (u : Nat) (g : UnitEntry → UnitEntry) : (s.updUnit u g).fibres = s.fibres := rfl
@[simp] theorem State.updUnit_links (u : Nat) (g : UnitEntry → UnitEntry) : (s.updUnit u g).links = s.links := rfl
@[simp] theorem State.updUnit_engines (u : Nat) (g : UnitEntry → UnitEntry) : (s.updUnit u g).engines = s.engines := rfl
@[simp] theorem State.updUnit_hatch (u : Nat) (g : UnitEntry → UnitEntry) : (s.updUnit u g).hatch = s.hatch := rfl
@[simp] theorem State.updUnit_time (u : Nat) (g : UnitEntry → UnitEntry) : (s.updUnit u g).time = s.time := rfl
@[simp] theorem State.updUnit_folio (u : Nat) (g : UnitEntry → UnitEntry) : (s.updUnit u g).folio = s.folio := rfl
@[simp] theorem State.updUnit_codex (u : Nat) (g : UnitEntry → UnitEntry) : (s.updUnit u g).codex = s.codex := rfl
@[simp] theorem State.updUnit_slots (u : Nat) (g : UnitEntry → UnitEntry) : (s.updUnit u g).slots = s.slots := rfl
@[simp] theorem State.updUnit_mem (u : Nat) (g : UnitEntry → UnitEntry) : (s.updUnit u g).mem = s.mem := rfl
@[simp] theorem State.updUnit_tables (u : Nat) (g : UnitEntry → UnitEntry) : (s.updUnit u g).tables = s.tables := rfl
@[simp] theorem State.updUnit_core (u : Nat) (g : UnitEntry → UnitEntry) : (s.updUnit u g).core = s.core := rfl
@[simp] theorem State.updUnit_ductus (u : Nat) (g : UnitEntry → UnitEntry) : (s.updUnit u g).ductus = s.ductus := rfl
@[simp] theorem State.updUnit_nibs (u : Nat) (g : UnitEntry → UnitEntry) : (s.updUnit u g).nibs = s.nibs := rfl
@[simp] theorem State.updUnit_progs (u : Nat) (g : UnitEntry → UnitEntry) : (s.updUnit u g).progs = s.progs := rfl
@[simp] theorem State.updUnit_coll (u : Nat) (g : UnitEntry → UnitEntry) : (s.updUnit u g).coll = s.coll := rfl
@[simp] theorem State.updUnit_host (u : Nat) (g : UnitEntry → UnitEntry) : (s.updUnit u g).host = s.host := rfl
@[simp] theorem State.updUnit_lig (u : Nat) (g : UnitEntry → UnitEntry) : (s.updUnit u g).lig = s.lig := rfl
@[simp] theorem State.updUnit_sec (u : Nat) (g : UnitEntry → UnitEntry) : (s.updUnit u g).sec = s.sec := rfl
@[simp] theorem State.updUnit_chop (u : Nat) (g : UnitEntry → UnitEntry) : (s.updUnit u g).chop = s.chop := rfl
@[simp] theorem State.updUnit_params (u : Nat) (g : UnitEntry → UnitEntry) : (s.updUnit u g).params = s.params := rfl
@[simp] theorem State.updUnit_flags (u : Nat) (g : UnitEntry → UnitEntry) : (s.updUnit u g).flags = s.flags := rfl
@[simp] theorem State.updUnit_counters (u : Nat) (g : UnitEntry → UnitEntry) : (s.updUnit u g).counters = s.counters := rfl
@[simp] theorem State.updUnit_misc (u : Nat) (g : UnitEntry → UnitEntry) : (s.updUnit u g).misc = s.misc := rfl
@[simp] theorem State.updUnit_now (u : Nat) (g : UnitEntry → UnitEntry) : (s.updUnit u g).now = s.now := rfl
@[simp] theorem State.updUnit_freeCount (u : Nat) (g : UnitEntry → UnitEntry) : (s.updUnit u g).freeCount = s.freeCount := rfl
@[simp] theorem State.updUnit_out (u : Nat) (g : UnitEntry → UnitEntry) : (s.updUnit u g).out = s.out := rfl
@[simp] theorem State.updUnit_pending (u : Nat) (g : UnitEntry → UnitEntry) : (s.updUnit u g).pending = s.pending := rfl

@[simp] theorem State.logEvent_power (u c k d : Nat) : (s.logEvent u c k d).power = s.power := by simp only [State.logEvent, State.modFaults_power]
@[simp] theorem State.logEvent_boot (u c k d : Nat) : (s.logEvent u c k d).boot = s.boot := by simp only [State.logEvent, State.modFaults_boot]
@[simp] theorem State.logEvent_flash (u c k d : Nat) : (s.logEvent u c k d).flash = s.flash := by simp only [State.logEvent, State.modFaults_flash]
@[simp] theorem State.logEvent_fibres (u c k d : Nat) : (s.logEvent u c k d).fibres = s.fibres := by simp only [State.logEvent, State.modFaults_fibres]
@[simp] theorem State.logEvent_links (u c k d : Nat) : (s.logEvent u c k d).links = s.links := by simp only [State.logEvent, State.modFaults_links]
@[simp] theorem State.logEvent_engines (u c k d : Nat) : (s.logEvent u c k d).engines = s.engines := by simp only [State.logEvent, State.modFaults_engines]
@[simp] theorem State.logEvent_hatch (u c k d : Nat) : (s.logEvent u c k d).hatch = s.hatch := by simp only [State.logEvent, State.modFaults_hatch]
@[simp] theorem State.logEvent_time (u c k d : Nat) : (s.logEvent u c k d).time = s.time := by simp only [State.logEvent, State.modFaults_time]
@[simp] theorem State.logEvent_folio (u c k d : Nat) : (s.logEvent u c k d).folio = s.folio := by simp only [State.logEvent, State.modFaults_folio]
@[simp] theorem State.logEvent_codex (u c k d : Nat) : (s.logEvent u c k d).codex = s.codex := by simp only [State.logEvent, State.modFaults_codex]
@[simp] theorem State.logEvent_slots (u c k d : Nat) : (s.logEvent u c k d).slots = s.slots := by simp only [State.logEvent, State.modFaults_slots]
@[simp] theorem State.logEvent_mem (u c k d : Nat) : (s.logEvent u c k d).mem = s.mem := by simp only [State.logEvent, State.modFaults_mem]
@[simp] theorem State.logEvent_tables (u c k d : Nat) : (s.logEvent u c k d).tables = s.tables := by simp only [State.logEvent, State.modFaults_tables]
@[simp] theorem State.logEvent_core (u c k d : Nat) : (s.logEvent u c k d).core = s.core := by simp only [State.logEvent, State.modFaults_core]
@[simp] theorem State.logEvent_ductus (u c k d : Nat) : (s.logEvent u c k d).ductus = s.ductus := by simp only [State.logEvent, State.modFaults_ductus]
@[simp] theorem State.logEvent_nibs (u c k d : Nat) : (s.logEvent u c k d).nibs = s.nibs := by simp only [State.logEvent, State.modFaults_nibs]
@[simp] theorem State.logEvent_progs (u c k d : Nat) : (s.logEvent u c k d).progs = s.progs := by simp only [State.logEvent, State.modFaults_progs]
@[simp] theorem State.logEvent_coll (u c k d : Nat) : (s.logEvent u c k d).coll = s.coll := by simp only [State.logEvent, State.modFaults_coll]
@[simp] theorem State.logEvent_host (u c k d : Nat) : (s.logEvent u c k d).host = s.host := by simp only [State.logEvent, State.modFaults_host]
@[simp] theorem State.logEvent_lig (u c k d : Nat) : (s.logEvent u c k d).lig = s.lig := by simp only [State.logEvent, State.modFaults_lig]
@[simp] theorem State.logEvent_sec (u c k d : Nat) : (s.logEvent u c k d).sec = s.sec := by simp only [State.logEvent, State.modFaults_sec]
@[simp] theorem State.logEvent_chop (u c k d : Nat) : (s.logEvent u c k d).chop = s.chop := by simp only [State.logEvent, State.modFaults_chop]
@[simp] theorem State.logEvent_params (u c k d : Nat) : (s.logEvent u c k d).params = s.params := by simp only [State.logEvent, State.modFaults_params]
@[simp] theorem State.logEvent_flags (u c k d : Nat) : (s.logEvent u c k d).flags = s.flags := by simp only [State.logEvent, State.modFaults_flags]
@[simp] theorem State.logEvent_counters (u c k d : Nat) : (s.logEvent u c k d).counters = s.counters := by simp only [State.logEvent, State.modFaults_counters]
@[simp] theorem State.logEvent_misc (u c k d : Nat) : (s.logEvent u c k d).misc = s.misc := by simp only [State.logEvent, State.modFaults_misc]
@[simp] theorem State.logEvent_now (u c k d : Nat) : (s.logEvent u c k d).now = s.now := by simp only [State.logEvent, State.modFaults_now]
@[simp] theorem State.logEvent_freeCount (u c k d : Nat) : (s.logEvent u c k d).freeCount = s.freeCount := by simp only [State.logEvent, State.modFaults_freeCount]
@[simp] theorem State.logEvent_out (u c k d : Nat) : (s.logEvent u c k d).out = s.out := by simp only [State.logEvent, State.modFaults_out]
@[simp] theorem State.logEvent_pending (u c k d : Nat) : (s.logEvent u c k d).pending = s.pending := by simp only [State.logEvent, State.modFaults_pending]

@[simp] theorem State.setDone_power (b : Nat) (v : Bool) : (s.setDone b v).power = s.power := rfl
@[simp] theorem State.setDone_flash (b : Nat) (v : Bool) : (s.setDone b v).flash = s.flash := rfl
@[simp] theorem State.setDone_fibres (b : Nat) (v : Bool) : (s.setDone b v).fibres = s.fibres := rfl
@[simp] theorem State.setDone_links (b : Nat) (v : Bool) : (s.setDone b v).links = s.links := rfl
@[simp] theorem State.setDone_engines (b : Nat) (v : Bool) : (s.setDone b v).engines = s.engines := rfl
@[simp] theorem State.setDone_hatch (b : Nat) (v : Bool) : (s.setDone b v).hatch = s.hatch := rfl
@[simp] theorem State.setDone_time (b : Nat) (v : Bool) : (s.setDone b v).time = s.time := rfl
@[simp] theorem State.setDone_folio (b : Nat) (v : Bool) : (s.setDone b v).folio = s.folio := rfl
@[simp] theorem State.setDone_codex (b : Nat) (v : Bool) : (s.setDone b v).codex = s.codex := rfl
@[simp] theorem State.setDone_slots (b : Nat) (v : Bool) : (s.setDone b v).slots = s.slots := rfl
@[simp] theorem State.setDone_faults (b : Nat) (v : Bool) : (s.setDone b v).faults = s.faults := rfl
@[simp] theorem State.setDone_mem (b : Nat) (v : Bool) : (s.setDone b v).mem = s.mem := rfl
@[simp] theorem State.setDone_tables (b : Nat) (v : Bool) : (s.setDone b v).tables = s.tables := rfl
@[simp] theorem State.setDone_core (b : Nat) (v : Bool) : (s.setDone b v).core = s.core := rfl
@[simp] theorem State.setDone_ductus (b : Nat) (v : Bool) : (s.setDone b v).ductus = s.ductus := rfl
@[simp] theorem State.setDone_nibs (b : Nat) (v : Bool) : (s.setDone b v).nibs = s.nibs := rfl
@[simp] theorem State.setDone_progs (b : Nat) (v : Bool) : (s.setDone b v).progs = s.progs := rfl
@[simp] theorem State.setDone_coll (b : Nat) (v : Bool) : (s.setDone b v).coll = s.coll := rfl
@[simp] theorem State.setDone_host (b : Nat) (v : Bool) : (s.setDone b v).host = s.host := rfl
@[simp] theorem State.setDone_lig (b : Nat) (v : Bool) : (s.setDone b v).lig = s.lig := rfl
@[simp] theorem State.setDone_sec (b : Nat) (v : Bool) : (s.setDone b v).sec = s.sec := rfl
@[simp] theorem State.setDone_chop (b : Nat) (v : Bool) : (s.setDone b v).chop = s.chop := rfl
@[simp] theorem State.setDone_params (b : Nat) (v : Bool) : (s.setDone b v).params = s.params := rfl
@[simp] theorem State.setDone_flags (b : Nat) (v : Bool) : (s.setDone b v).flags = s.flags := rfl
@[simp] theorem State.setDone_counters (b : Nat) (v : Bool) : (s.setDone b v).counters = s.counters := rfl
@[simp] theorem State.setDone_misc (b : Nat) (v : Bool) : (s.setDone b v).misc = s.misc := rfl
@[simp] theorem State.setDone_now (b : Nat) (v : Bool) : (s.setDone b v).now = s.now := rfl
@[simp] theorem State.setDone_freeCount (b : Nat) (v : Bool) : (s.setDone b v).freeCount = s.freeCount := rfl
@[simp] theorem State.setDone_out (b : Nat) (v : Bool) : (s.setDone b v).out = s.out := rfl
@[simp] theorem State.setDone_pending (b : Nat) (v : Bool) : (s.setDone b v).pending = s.pending := rfl

@[simp] theorem State.failCode_power (c : Nat) : (s.failCode c).power = s.power := rfl
@[simp] theorem State.failCode_flash (c : Nat) : (s.failCode c).flash = s.flash := rfl
@[simp] theorem State.failCode_fibres (c : Nat) : (s.failCode c).fibres = s.fibres := rfl
@[simp] theorem State.failCode_links (c : Nat) : (s.failCode c).links = s.links := rfl
@[simp] theorem State.failCode_engines (c : Nat) : (s.failCode c).engines = s.engines := rfl
@[simp] theorem State.failCode_hatch (c : Nat) : (s.failCode c).hatch = s.hatch := rfl
@[simp] theorem State.failCode_time (c : Nat) : (s.failCode c).time = s.time := rfl
@[simp] theorem State.failCode_folio (c : Nat) : (s.failCode c).folio = s.folio := rfl
@[simp] theorem State.failCode_codex (c : Nat) : (s.failCode c).codex = s.codex := rfl
@[simp] theorem State.failCode_slots (c : Nat) : (s.failCode c).slots = s.slots := rfl
@[simp] theorem State.failCode_faults (c : Nat) : (s.failCode c).faults = s.faults := rfl
@[simp] theorem State.failCode_mem (c : Nat) : (s.failCode c).mem = s.mem := rfl
@[simp] theorem State.failCode_tables (c : Nat) : (s.failCode c).tables = s.tables := rfl
@[simp] theorem State.failCode_core (c : Nat) : (s.failCode c).core = s.core := rfl
@[simp] theorem State.failCode_ductus (c : Nat) : (s.failCode c).ductus = s.ductus := rfl
@[simp] theorem State.failCode_nibs (c : Nat) : (s.failCode c).nibs = s.nibs := rfl
@[simp] theorem State.failCode_progs (c : Nat) : (s.failCode c).progs = s.progs := rfl
@[simp] theorem State.failCode_coll (c : Nat) : (s.failCode c).coll = s.coll := rfl
@[simp] theorem State.failCode_host (c : Nat) : (s.failCode c).host = s.host := rfl
@[simp] theorem State.failCode_lig (c : Nat) : (s.failCode c).lig = s.lig := rfl
@[simp] theorem State.failCode_sec (c : Nat) : (s.failCode c).sec = s.sec := rfl
@[simp] theorem State.failCode_chop (c : Nat) : (s.failCode c).chop = s.chop := rfl
@[simp] theorem State.failCode_params (c : Nat) : (s.failCode c).params = s.params := rfl
@[simp] theorem State.failCode_flags (c : Nat) : (s.failCode c).flags = s.flags := rfl
@[simp] theorem State.failCode_counters (c : Nat) : (s.failCode c).counters = s.counters := rfl
@[simp] theorem State.failCode_misc (c : Nat) : (s.failCode c).misc = s.misc := rfl
@[simp] theorem State.failCode_now (c : Nat) : (s.failCode c).now = s.now := rfl
@[simp] theorem State.failCode_freeCount (c : Nat) : (s.failCode c).freeCount = s.freeCount := rfl
@[simp] theorem State.failCode_out (c : Nat) : (s.failCode c).out = s.out := rfl
@[simp] theorem State.failCode_pending (c : Nat) : (s.failCode c).pending = s.pending := rfl

@[simp] theorem State.setParam_power (idx sub v : Nat) : (s.setParam idx sub v).power = s.power := rfl
@[simp] theorem State.setParam_boot (idx sub v : Nat) : (s.setParam idx sub v).boot = s.boot := rfl
@[simp] theorem State.setParam_flash (idx sub v : Nat) : (s.setParam idx sub v).flash = s.flash := rfl
@[simp] theorem State.setParam_fibres (idx sub v : Nat) : (s.setParam idx sub v).fibres = s.fibres := rfl
@[simp] theorem State.setParam_links (idx sub v : Nat) : (s.setParam idx sub v).links = s.links := rfl
@[simp] theorem State.setParam_engines (idx sub v : Nat) : (s.setParam idx sub v).engines = s.engines := rfl
@[simp] theorem State.setParam_hatch (idx sub v : Nat) : (s.setParam idx sub v).hatch = s.hatch := rfl
@[simp] theorem State.setParam_time (idx sub v : Nat) : (s.setParam idx sub v).time = s.time := rfl
@[simp] theorem State.setParam_folio (idx sub v : Nat) : (s.setParam idx sub v).folio = s.folio := rfl
@[simp] theorem State.setParam_codex (idx sub v : Nat) : (s.setParam idx sub v).codex = s.codex := rfl
@[simp] theorem State.setParam_slots (idx sub v : Nat) : (s.setParam idx sub v).slots = s.slots := rfl
@[simp] theorem State.setParam_faults (idx sub v : Nat) : (s.setParam idx sub v).faults = s.faults := rfl
@[simp] theorem State.setParam_mem (idx sub v : Nat) : (s.setParam idx sub v).mem = s.mem := rfl
@[simp] theorem State.setParam_tables (idx sub v : Nat) : (s.setParam idx sub v).tables = s.tables := rfl
@[simp] theorem State.setParam_core (idx sub v : Nat) : (s.setParam idx sub v).core = s.core := rfl
@[simp] theorem State.setParam_ductus (idx sub v : Nat) : (s.setParam idx sub v).ductus = s.ductus := rfl
@[simp] theorem State.setParam_nibs (idx sub v : Nat) : (s.setParam idx sub v).nibs = s.nibs := rfl
@[simp] theorem State.setParam_progs (idx sub v : Nat) : (s.setParam idx sub v).progs = s.progs := rfl
@[simp] theorem State.setParam_coll (idx sub v : Nat) : (s.setParam idx sub v).coll = s.coll := rfl
@[simp] theorem State.setParam_host (idx sub v : Nat) : (s.setParam idx sub v).host = s.host := rfl
@[simp] theorem State.setParam_lig (idx sub v : Nat) : (s.setParam idx sub v).lig = s.lig := rfl
@[simp] theorem State.setParam_sec (idx sub v : Nat) : (s.setParam idx sub v).sec = s.sec := rfl
@[simp] theorem State.setParam_chop (idx sub v : Nat) : (s.setParam idx sub v).chop = s.chop := rfl
@[simp] theorem State.setParam_flags (idx sub v : Nat) : (s.setParam idx sub v).flags = s.flags := rfl
@[simp] theorem State.setParam_counters (idx sub v : Nat) : (s.setParam idx sub v).counters = s.counters := rfl
@[simp] theorem State.setParam_misc (idx sub v : Nat) : (s.setParam idx sub v).misc = s.misc := rfl
@[simp] theorem State.setParam_now (idx sub v : Nat) : (s.setParam idx sub v).now = s.now := rfl
@[simp] theorem State.setParam_freeCount (idx sub v : Nat) : (s.setParam idx sub v).freeCount = s.freeCount := rfl
@[simp] theorem State.setParam_out (idx sub v : Nat) : (s.setParam idx sub v).out = s.out := rfl
@[simp] theorem State.setParam_pending (idx sub v : Nat) : (s.setParam idx sub v).pending = s.pending := rfl

@[simp] theorem State.resetParam_power (idx sub : Nat) : (s.resetParam idx sub).power = s.power := rfl
@[simp] theorem State.resetParam_boot (idx sub : Nat) : (s.resetParam idx sub).boot = s.boot := rfl
@[simp] theorem State.resetParam_flash (idx sub : Nat) : (s.resetParam idx sub).flash = s.flash := rfl
@[simp] theorem State.resetParam_fibres (idx sub : Nat) : (s.resetParam idx sub).fibres = s.fibres := rfl
@[simp] theorem State.resetParam_links (idx sub : Nat) : (s.resetParam idx sub).links = s.links := rfl
@[simp] theorem State.resetParam_engines (idx sub : Nat) : (s.resetParam idx sub).engines = s.engines := rfl
@[simp] theorem State.resetParam_hatch (idx sub : Nat) : (s.resetParam idx sub).hatch = s.hatch := rfl
@[simp] theorem State.resetParam_time (idx sub : Nat) : (s.resetParam idx sub).time = s.time := rfl
@[simp] theorem State.resetParam_folio (idx sub : Nat) : (s.resetParam idx sub).folio = s.folio := rfl
@[simp] theorem State.resetParam_codex (idx sub : Nat) : (s.resetParam idx sub).codex = s.codex := rfl
@[simp] theorem State.resetParam_slots (idx sub : Nat) : (s.resetParam idx sub).slots = s.slots := rfl
@[simp] theorem State.resetParam_faults (idx sub : Nat) : (s.resetParam idx sub).faults = s.faults := rfl
@[simp] theorem State.resetParam_mem (idx sub : Nat) : (s.resetParam idx sub).mem = s.mem := rfl
@[simp] theorem State.resetParam_tables (idx sub : Nat) : (s.resetParam idx sub).tables = s.tables := rfl
@[simp] theorem State.resetParam_core (idx sub : Nat) : (s.resetParam idx sub).core = s.core := rfl
@[simp] theorem State.resetParam_ductus (idx sub : Nat) : (s.resetParam idx sub).ductus = s.ductus := rfl
@[simp] theorem State.resetParam_nibs (idx sub : Nat) : (s.resetParam idx sub).nibs = s.nibs := rfl
@[simp] theorem State.resetParam_progs (idx sub : Nat) : (s.resetParam idx sub).progs = s.progs := rfl
@[simp] theorem State.resetParam_coll (idx sub : Nat) : (s.resetParam idx sub).coll = s.coll := rfl
@[simp] theorem State.resetParam_host (idx sub : Nat) : (s.resetParam idx sub).host = s.host := rfl
@[simp] theorem State.resetParam_lig (idx sub : Nat) : (s.resetParam idx sub).lig = s.lig := rfl
@[simp] theorem State.resetParam_sec (idx sub : Nat) : (s.resetParam idx sub).sec = s.sec := rfl
@[simp] theorem State.resetParam_chop (idx sub : Nat) : (s.resetParam idx sub).chop = s.chop := rfl
@[simp] theorem State.resetParam_flags (idx sub : Nat) : (s.resetParam idx sub).flags = s.flags := rfl
@[simp] theorem State.resetParam_counters (idx sub : Nat) : (s.resetParam idx sub).counters = s.counters := rfl
@[simp] theorem State.resetParam_misc (idx sub : Nat) : (s.resetParam idx sub).misc = s.misc := rfl
@[simp] theorem State.resetParam_now (idx sub : Nat) : (s.resetParam idx sub).now = s.now := rfl
@[simp] theorem State.resetParam_freeCount (idx sub : Nat) : (s.resetParam idx sub).freeCount = s.freeCount := rfl
@[simp] theorem State.resetParam_out (idx sub : Nat) : (s.resetParam idx sub).out = s.out := rfl
@[simp] theorem State.resetParam_pending (idx sub : Nat) : (s.resetParam idx sub).pending = s.pending := rfl

@[simp] theorem State.setFlag_power (idx b : Nat) : (s.setFlag idx b).power = s.power := rfl
@[simp] theorem State.setFlag_boot (idx b : Nat) : (s.setFlag idx b).boot = s.boot := rfl
@[simp] theorem State.setFlag_flash (idx b : Nat) : (s.setFlag idx b).flash = s.flash := rfl
@[simp] theorem State.setFlag_fibres (idx b : Nat) : (s.setFlag idx b).fibres = s.fibres := rfl
@[simp] theorem State.setFlag_links (idx b : Nat) : (s.setFlag idx b).links = s.links := rfl
@[simp] theorem State.setFlag_engines (idx b : Nat) : (s.setFlag idx b).engines = s.engines := rfl
@[simp] theorem State.setFlag_hatch (idx b : Nat) : (s.setFlag idx b).hatch = s.hatch := rfl
@[simp] theorem State.setFlag_time (idx b : Nat) : (s.setFlag idx b).time = s.time := rfl
@[simp] theorem State.setFlag_folio (idx b : Nat) : (s.setFlag idx b).folio = s.folio := rfl
@[simp] theorem State.setFlag_codex (idx b : Nat) : (s.setFlag idx b).codex = s.codex := rfl
@[simp] theorem State.setFlag_slots (idx b : Nat) : (s.setFlag idx b).slots = s.slots := rfl
@[simp] theorem State.setFlag_faults (idx b : Nat) : (s.setFlag idx b).faults = s.faults := rfl
@[simp] theorem State.setFlag_mem (idx b : Nat) : (s.setFlag idx b).mem = s.mem := rfl
@[simp] theorem State.setFlag_tables (idx b : Nat) : (s.setFlag idx b).tables = s.tables := rfl
@[simp] theorem State.setFlag_core (idx b : Nat) : (s.setFlag idx b).core = s.core := rfl
@[simp] theorem State.setFlag_ductus (idx b : Nat) : (s.setFlag idx b).ductus = s.ductus := rfl
@[simp] theorem State.setFlag_nibs (idx b : Nat) : (s.setFlag idx b).nibs = s.nibs := rfl
@[simp] theorem State.setFlag_progs (idx b : Nat) : (s.setFlag idx b).progs = s.progs := rfl
@[simp] theorem State.setFlag_coll (idx b : Nat) : (s.setFlag idx b).coll = s.coll := rfl
@[simp] theorem State.setFlag_host (idx b : Nat) : (s.setFlag idx b).host = s.host := rfl
@[simp] theorem State.setFlag_lig (idx b : Nat) : (s.setFlag idx b).lig = s.lig := rfl
@[simp] theorem State.setFlag_sec (idx b : Nat) : (s.setFlag idx b).sec = s.sec := rfl
@[simp] theorem State.setFlag_chop (idx b : Nat) : (s.setFlag idx b).chop = s.chop := rfl
@[simp] theorem State.setFlag_params (idx b : Nat) : (s.setFlag idx b).params = s.params := rfl
@[simp] theorem State.setFlag_counters (idx b : Nat) : (s.setFlag idx b).counters = s.counters := rfl
@[simp] theorem State.setFlag_misc (idx b : Nat) : (s.setFlag idx b).misc = s.misc := rfl
@[simp] theorem State.setFlag_now (idx b : Nat) : (s.setFlag idx b).now = s.now := rfl
@[simp] theorem State.setFlag_freeCount (idx b : Nat) : (s.setFlag idx b).freeCount = s.freeCount := rfl
@[simp] theorem State.setFlag_out (idx b : Nat) : (s.setFlag idx b).out = s.out := rfl
@[simp] theorem State.setFlag_pending (idx b : Nat) : (s.setFlag idx b).pending = s.pending := rfl

@[simp] theorem State.clearFlags_power (idx : Nat) (m : Word32) : (s.clearFlags idx m).power = s.power := rfl
@[simp] theorem State.clearFlags_boot (idx : Nat) (m : Word32) : (s.clearFlags idx m).boot = s.boot := rfl
@[simp] theorem State.clearFlags_flash (idx : Nat) (m : Word32) : (s.clearFlags idx m).flash = s.flash := rfl
@[simp] theorem State.clearFlags_fibres (idx : Nat) (m : Word32) : (s.clearFlags idx m).fibres = s.fibres := rfl
@[simp] theorem State.clearFlags_links (idx : Nat) (m : Word32) : (s.clearFlags idx m).links = s.links := rfl
@[simp] theorem State.clearFlags_engines (idx : Nat) (m : Word32) : (s.clearFlags idx m).engines = s.engines := rfl
@[simp] theorem State.clearFlags_hatch (idx : Nat) (m : Word32) : (s.clearFlags idx m).hatch = s.hatch := rfl
@[simp] theorem State.clearFlags_time (idx : Nat) (m : Word32) : (s.clearFlags idx m).time = s.time := rfl
@[simp] theorem State.clearFlags_folio (idx : Nat) (m : Word32) : (s.clearFlags idx m).folio = s.folio := rfl
@[simp] theorem State.clearFlags_codex (idx : Nat) (m : Word32) : (s.clearFlags idx m).codex = s.codex := rfl
@[simp] theorem State.clearFlags_slots (idx : Nat) (m : Word32) : (s.clearFlags idx m).slots = s.slots := rfl
@[simp] theorem State.clearFlags_faults (idx : Nat) (m : Word32) : (s.clearFlags idx m).faults = s.faults := rfl
@[simp] theorem State.clearFlags_mem (idx : Nat) (m : Word32) : (s.clearFlags idx m).mem = s.mem := rfl
@[simp] theorem State.clearFlags_tables (idx : Nat) (m : Word32) : (s.clearFlags idx m).tables = s.tables := rfl
@[simp] theorem State.clearFlags_core (idx : Nat) (m : Word32) : (s.clearFlags idx m).core = s.core := rfl
@[simp] theorem State.clearFlags_ductus (idx : Nat) (m : Word32) : (s.clearFlags idx m).ductus = s.ductus := rfl
@[simp] theorem State.clearFlags_nibs (idx : Nat) (m : Word32) : (s.clearFlags idx m).nibs = s.nibs := rfl
@[simp] theorem State.clearFlags_progs (idx : Nat) (m : Word32) : (s.clearFlags idx m).progs = s.progs := rfl
@[simp] theorem State.clearFlags_coll (idx : Nat) (m : Word32) : (s.clearFlags idx m).coll = s.coll := rfl
@[simp] theorem State.clearFlags_host (idx : Nat) (m : Word32) : (s.clearFlags idx m).host = s.host := rfl
@[simp] theorem State.clearFlags_lig (idx : Nat) (m : Word32) : (s.clearFlags idx m).lig = s.lig := rfl
@[simp] theorem State.clearFlags_sec (idx : Nat) (m : Word32) : (s.clearFlags idx m).sec = s.sec := rfl
@[simp] theorem State.clearFlags_chop (idx : Nat) (m : Word32) : (s.clearFlags idx m).chop = s.chop := rfl
@[simp] theorem State.clearFlags_params (idx : Nat) (m : Word32) : (s.clearFlags idx m).params = s.params := rfl
@[simp] theorem State.clearFlags_counters (idx : Nat) (m : Word32) : (s.clearFlags idx m).counters = s.counters := rfl
@[simp] theorem State.clearFlags_misc (idx : Nat) (m : Word32) : (s.clearFlags idx m).misc = s.misc := rfl
@[simp] theorem State.clearFlags_now (idx : Nat) (m : Word32) : (s.clearFlags idx m).now = s.now := rfl
@[simp] theorem State.clearFlags_freeCount (idx : Nat) (m : Word32) : (s.clearFlags idx m).freeCount = s.freeCount := rfl
@[simp] theorem State.clearFlags_out (idx : Nat) (m : Word32) : (s.clearFlags idx m).out = s.out := rfl
@[simp] theorem State.clearFlags_pending (idx : Nat) (m : Word32) : (s.clearFlags idx m).pending = s.pending := rfl

@[simp] theorem State.count_power (idx sub n : Nat) : (s.count idx sub n).power = s.power := rfl
@[simp] theorem State.count_boot (idx sub n : Nat) : (s.count idx sub n).boot = s.boot := rfl
@[simp] theorem State.count_flash (idx sub n : Nat) : (s.count idx sub n).flash = s.flash := rfl
@[simp] theorem State.count_fibres (idx sub n : Nat) : (s.count idx sub n).fibres = s.fibres := rfl
@[simp] theorem State.count_links (idx sub n : Nat) : (s.count idx sub n).links = s.links := rfl
@[simp] theorem State.count_engines (idx sub n : Nat) : (s.count idx sub n).engines = s.engines := rfl
@[simp] theorem State.count_hatch (idx sub n : Nat) : (s.count idx sub n).hatch = s.hatch := rfl
@[simp] theorem State.count_time (idx sub n : Nat) : (s.count idx sub n).time = s.time := rfl
@[simp] theorem State.count_folio (idx sub n : Nat) : (s.count idx sub n).folio = s.folio := rfl
@[simp] theorem State.count_codex (idx sub n : Nat) : (s.count idx sub n).codex = s.codex := rfl
@[simp] theorem State.count_slots (idx sub n : Nat) : (s.count idx sub n).slots = s.slots := rfl
@[simp] theorem State.count_faults (idx sub n : Nat) : (s.count idx sub n).faults = s.faults := rfl
@[simp] theorem State.count_mem (idx sub n : Nat) : (s.count idx sub n).mem = s.mem := rfl
@[simp] theorem State.count_tables (idx sub n : Nat) : (s.count idx sub n).tables = s.tables := rfl
@[simp] theorem State.count_core (idx sub n : Nat) : (s.count idx sub n).core = s.core := rfl
@[simp] theorem State.count_ductus (idx sub n : Nat) : (s.count idx sub n).ductus = s.ductus := rfl
@[simp] theorem State.count_nibs (idx sub n : Nat) : (s.count idx sub n).nibs = s.nibs := rfl
@[simp] theorem State.count_progs (idx sub n : Nat) : (s.count idx sub n).progs = s.progs := rfl
@[simp] theorem State.count_coll (idx sub n : Nat) : (s.count idx sub n).coll = s.coll := rfl
@[simp] theorem State.count_host (idx sub n : Nat) : (s.count idx sub n).host = s.host := rfl
@[simp] theorem State.count_lig (idx sub n : Nat) : (s.count idx sub n).lig = s.lig := rfl
@[simp] theorem State.count_sec (idx sub n : Nat) : (s.count idx sub n).sec = s.sec := rfl
@[simp] theorem State.count_chop (idx sub n : Nat) : (s.count idx sub n).chop = s.chop := rfl
@[simp] theorem State.count_params (idx sub n : Nat) : (s.count idx sub n).params = s.params := rfl
@[simp] theorem State.count_flags (idx sub n : Nat) : (s.count idx sub n).flags = s.flags := rfl
@[simp] theorem State.count_misc (idx sub n : Nat) : (s.count idx sub n).misc = s.misc := rfl
@[simp] theorem State.count_now (idx sub n : Nat) : (s.count idx sub n).now = s.now := rfl
@[simp] theorem State.count_freeCount (idx sub n : Nat) : (s.count idx sub n).freeCount = s.freeCount := rfl
@[simp] theorem State.count_out (idx sub n : Nat) : (s.count idx sub n).out = s.out := rfl
@[simp] theorem State.count_pending (idx sub n : Nat) : (s.count idx sub n).pending = s.pending := rfl

@[simp] theorem State.countPort_power (p sub : Nat) : (s.countPort p sub).power = s.power := rfl
@[simp] theorem State.countPort_boot (p sub : Nat) : (s.countPort p sub).boot = s.boot := rfl
@[simp] theorem State.countPort_flash (p sub : Nat) : (s.countPort p sub).flash = s.flash := rfl
@[simp] theorem State.countPort_fibres (p sub : Nat) : (s.countPort p sub).fibres = s.fibres := rfl
@[simp] theorem State.countPort_links (p sub : Nat) : (s.countPort p sub).links = s.links := rfl
@[simp] theorem State.countPort_engines (p sub : Nat) : (s.countPort p sub).engines = s.engines := rfl
@[simp] theorem State.countPort_hatch (p sub : Nat) : (s.countPort p sub).hatch = s.hatch := rfl
@[simp] theorem State.countPort_time (p sub : Nat) : (s.countPort p sub).time = s.time := rfl
@[simp] theorem State.countPort_folio (p sub : Nat) : (s.countPort p sub).folio = s.folio := rfl
@[simp] theorem State.countPort_codex (p sub : Nat) : (s.countPort p sub).codex = s.codex := rfl
@[simp] theorem State.countPort_slots (p sub : Nat) : (s.countPort p sub).slots = s.slots := rfl
@[simp] theorem State.countPort_faults (p sub : Nat) : (s.countPort p sub).faults = s.faults := rfl
@[simp] theorem State.countPort_mem (p sub : Nat) : (s.countPort p sub).mem = s.mem := rfl
@[simp] theorem State.countPort_tables (p sub : Nat) : (s.countPort p sub).tables = s.tables := rfl
@[simp] theorem State.countPort_core (p sub : Nat) : (s.countPort p sub).core = s.core := rfl
@[simp] theorem State.countPort_ductus (p sub : Nat) : (s.countPort p sub).ductus = s.ductus := rfl
@[simp] theorem State.countPort_nibs (p sub : Nat) : (s.countPort p sub).nibs = s.nibs := rfl
@[simp] theorem State.countPort_progs (p sub : Nat) : (s.countPort p sub).progs = s.progs := rfl
@[simp] theorem State.countPort_coll (p sub : Nat) : (s.countPort p sub).coll = s.coll := rfl
@[simp] theorem State.countPort_host (p sub : Nat) : (s.countPort p sub).host = s.host := rfl
@[simp] theorem State.countPort_lig (p sub : Nat) : (s.countPort p sub).lig = s.lig := rfl
@[simp] theorem State.countPort_sec (p sub : Nat) : (s.countPort p sub).sec = s.sec := rfl
@[simp] theorem State.countPort_chop (p sub : Nat) : (s.countPort p sub).chop = s.chop := rfl
@[simp] theorem State.countPort_params (p sub : Nat) : (s.countPort p sub).params = s.params := rfl
@[simp] theorem State.countPort_flags (p sub : Nat) : (s.countPort p sub).flags = s.flags := rfl
@[simp] theorem State.countPort_misc (p sub : Nat) : (s.countPort p sub).misc = s.misc := rfl
@[simp] theorem State.countPort_now (p sub : Nat) : (s.countPort p sub).now = s.now := rfl
@[simp] theorem State.countPort_freeCount (p sub : Nat) : (s.countPort p sub).freeCount = s.freeCount := rfl
@[simp] theorem State.countPort_out (p sub : Nat) : (s.countPort p sub).out = s.out := rfl
@[simp] theorem State.countPort_pending (p sub : Nat) : (s.countPort p sub).pending = s.pending := rfl

@[simp] theorem State.countFibre_power (f sub : Nat) : (s.countFibre f sub).power = s.power := rfl
@[simp] theorem State.countFibre_boot (f sub : Nat) : (s.countFibre f sub).boot = s.boot := rfl
@[simp] theorem State.countFibre_flash (f sub : Nat) : (s.countFibre f sub).flash = s.flash := rfl
@[simp] theorem State.countFibre_fibres (f sub : Nat) : (s.countFibre f sub).fibres = s.fibres := rfl
@[simp] theorem State.countFibre_links (f sub : Nat) : (s.countFibre f sub).links = s.links := rfl
@[simp] theorem State.countFibre_engines (f sub : Nat) : (s.countFibre f sub).engines = s.engines := rfl
@[simp] theorem State.countFibre_hatch (f sub : Nat) : (s.countFibre f sub).hatch = s.hatch := rfl
@[simp] theorem State.countFibre_time (f sub : Nat) : (s.countFibre f sub).time = s.time := rfl
@[simp] theorem State.countFibre_folio (f sub : Nat) : (s.countFibre f sub).folio = s.folio := rfl
@[simp] theorem State.countFibre_codex (f sub : Nat) : (s.countFibre f sub).codex = s.codex := rfl
@[simp] theorem State.countFibre_slots (f sub : Nat) : (s.countFibre f sub).slots = s.slots := rfl
@[simp] theorem State.countFibre_faults (f sub : Nat) : (s.countFibre f sub).faults = s.faults := rfl
@[simp] theorem State.countFibre_mem (f sub : Nat) : (s.countFibre f sub).mem = s.mem := rfl
@[simp] theorem State.countFibre_tables (f sub : Nat) : (s.countFibre f sub).tables = s.tables := rfl
@[simp] theorem State.countFibre_core (f sub : Nat) : (s.countFibre f sub).core = s.core := rfl
@[simp] theorem State.countFibre_ductus (f sub : Nat) : (s.countFibre f sub).ductus = s.ductus := rfl
@[simp] theorem State.countFibre_nibs (f sub : Nat) : (s.countFibre f sub).nibs = s.nibs := rfl
@[simp] theorem State.countFibre_progs (f sub : Nat) : (s.countFibre f sub).progs = s.progs := rfl
@[simp] theorem State.countFibre_coll (f sub : Nat) : (s.countFibre f sub).coll = s.coll := rfl
@[simp] theorem State.countFibre_host (f sub : Nat) : (s.countFibre f sub).host = s.host := rfl
@[simp] theorem State.countFibre_lig (f sub : Nat) : (s.countFibre f sub).lig = s.lig := rfl
@[simp] theorem State.countFibre_sec (f sub : Nat) : (s.countFibre f sub).sec = s.sec := rfl
@[simp] theorem State.countFibre_chop (f sub : Nat) : (s.countFibre f sub).chop = s.chop := rfl
@[simp] theorem State.countFibre_params (f sub : Nat) : (s.countFibre f sub).params = s.params := rfl
@[simp] theorem State.countFibre_flags (f sub : Nat) : (s.countFibre f sub).flags = s.flags := rfl
@[simp] theorem State.countFibre_misc (f sub : Nat) : (s.countFibre f sub).misc = s.misc := rfl
@[simp] theorem State.countFibre_now (f sub : Nat) : (s.countFibre f sub).now = s.now := rfl
@[simp] theorem State.countFibre_freeCount (f sub : Nat) : (s.countFibre f sub).freeCount = s.freeCount := rfl
@[simp] theorem State.countFibre_out (f sub : Nat) : (s.countFibre f sub).out = s.out := rfl
@[simp] theorem State.countFibre_pending (f sub : Nat) : (s.countFibre f sub).pending = s.pending := rfl

@[simp] theorem State.countUnit_power (t j sub : Nat) : (s.countUnit t j sub).power = s.power := rfl
@[simp] theorem State.countUnit_boot (t j sub : Nat) : (s.countUnit t j sub).boot = s.boot := rfl
@[simp] theorem State.countUnit_flash (t j sub : Nat) : (s.countUnit t j sub).flash = s.flash := rfl
@[simp] theorem State.countUnit_fibres (t j sub : Nat) : (s.countUnit t j sub).fibres = s.fibres := rfl
@[simp] theorem State.countUnit_links (t j sub : Nat) : (s.countUnit t j sub).links = s.links := rfl
@[simp] theorem State.countUnit_engines (t j sub : Nat) : (s.countUnit t j sub).engines = s.engines := rfl
@[simp] theorem State.countUnit_hatch (t j sub : Nat) : (s.countUnit t j sub).hatch = s.hatch := rfl
@[simp] theorem State.countUnit_time (t j sub : Nat) : (s.countUnit t j sub).time = s.time := rfl
@[simp] theorem State.countUnit_folio (t j sub : Nat) : (s.countUnit t j sub).folio = s.folio := rfl
@[simp] theorem State.countUnit_codex (t j sub : Nat) : (s.countUnit t j sub).codex = s.codex := rfl
@[simp] theorem State.countUnit_slots (t j sub : Nat) : (s.countUnit t j sub).slots = s.slots := rfl
@[simp] theorem State.countUnit_faults (t j sub : Nat) : (s.countUnit t j sub).faults = s.faults := rfl
@[simp] theorem State.countUnit_mem (t j sub : Nat) : (s.countUnit t j sub).mem = s.mem := rfl
@[simp] theorem State.countUnit_tables (t j sub : Nat) : (s.countUnit t j sub).tables = s.tables := rfl
@[simp] theorem State.countUnit_core (t j sub : Nat) : (s.countUnit t j sub).core = s.core := rfl
@[simp] theorem State.countUnit_ductus (t j sub : Nat) : (s.countUnit t j sub).ductus = s.ductus := rfl
@[simp] theorem State.countUnit_nibs (t j sub : Nat) : (s.countUnit t j sub).nibs = s.nibs := rfl
@[simp] theorem State.countUnit_progs (t j sub : Nat) : (s.countUnit t j sub).progs = s.progs := rfl
@[simp] theorem State.countUnit_coll (t j sub : Nat) : (s.countUnit t j sub).coll = s.coll := rfl
@[simp] theorem State.countUnit_host (t j sub : Nat) : (s.countUnit t j sub).host = s.host := rfl
@[simp] theorem State.countUnit_lig (t j sub : Nat) : (s.countUnit t j sub).lig = s.lig := rfl
@[simp] theorem State.countUnit_sec (t j sub : Nat) : (s.countUnit t j sub).sec = s.sec := rfl
@[simp] theorem State.countUnit_chop (t j sub : Nat) : (s.countUnit t j sub).chop = s.chop := rfl
@[simp] theorem State.countUnit_params (t j sub : Nat) : (s.countUnit t j sub).params = s.params := rfl
@[simp] theorem State.countUnit_flags (t j sub : Nat) : (s.countUnit t j sub).flags = s.flags := rfl
@[simp] theorem State.countUnit_misc (t j sub : Nat) : (s.countUnit t j sub).misc = s.misc := rfl
@[simp] theorem State.countUnit_now (t j sub : Nat) : (s.countUnit t j sub).now = s.now := rfl
@[simp] theorem State.countUnit_freeCount (t j sub : Nat) : (s.countUnit t j sub).freeCount = s.freeCount := rfl
@[simp] theorem State.countUnit_out (t j sub : Nat) : (s.countUnit t j sub).out = s.out := rfl
@[simp] theorem State.countUnit_pending (t j sub : Nat) : (s.countUnit t j sub).pending = s.pending := rfl

@[simp] theorem State.countMisc_power (m : Misc) (n : Nat) : (s.countMisc m n).power = s.power := rfl
@[simp] theorem State.countMisc_boot (m : Misc) (n : Nat) : (s.countMisc m n).boot = s.boot := rfl
@[simp] theorem State.countMisc_flash (m : Misc) (n : Nat) : (s.countMisc m n).flash = s.flash := rfl
@[simp] theorem State.countMisc_fibres (m : Misc) (n : Nat) : (s.countMisc m n).fibres = s.fibres := rfl
@[simp] theorem State.countMisc_links (m : Misc) (n : Nat) : (s.countMisc m n).links = s.links := rfl
@[simp] theorem State.countMisc_engines (m : Misc) (n : Nat) : (s.countMisc m n).engines = s.engines := rfl
@[simp] theorem State.countMisc_hatch (m : Misc) (n : Nat) : (s.countMisc m n).hatch = s.hatch := rfl
@[simp] theorem State.countMisc_time (m : Misc) (n : Nat) : (s.countMisc m n).time = s.time := rfl
@[simp] theorem State.countMisc_folio (m : Misc) (n : Nat) : (s.countMisc m n).folio = s.folio := rfl
@[simp] theorem State.countMisc_codex (m : Misc) (n : Nat) : (s.countMisc m n).codex = s.codex := rfl
@[simp] theorem State.countMisc_slots (m : Misc) (n : Nat) : (s.countMisc m n).slots = s.slots := rfl
@[simp] theorem State.countMisc_faults (m : Misc) (n : Nat) : (s.countMisc m n).faults = s.faults := rfl
@[simp] theorem State.countMisc_mem (m : Misc) (n : Nat) : (s.countMisc m n).mem = s.mem := rfl
@[simp] theorem State.countMisc_tables (m : Misc) (n : Nat) : (s.countMisc m n).tables = s.tables := rfl
@[simp] theorem State.countMisc_core (m : Misc) (n : Nat) : (s.countMisc m n).core = s.core := rfl
@[simp] theorem State.countMisc_ductus (m : Misc) (n : Nat) : (s.countMisc m n).ductus = s.ductus := rfl
@[simp] theorem State.countMisc_nibs (m : Misc) (n : Nat) : (s.countMisc m n).nibs = s.nibs := rfl
@[simp] theorem State.countMisc_progs (m : Misc) (n : Nat) : (s.countMisc m n).progs = s.progs := rfl
@[simp] theorem State.countMisc_coll (m : Misc) (n : Nat) : (s.countMisc m n).coll = s.coll := rfl
@[simp] theorem State.countMisc_host (m : Misc) (n : Nat) : (s.countMisc m n).host = s.host := rfl
@[simp] theorem State.countMisc_lig (m : Misc) (n : Nat) : (s.countMisc m n).lig = s.lig := rfl
@[simp] theorem State.countMisc_sec (m : Misc) (n : Nat) : (s.countMisc m n).sec = s.sec := rfl
@[simp] theorem State.countMisc_chop (m : Misc) (n : Nat) : (s.countMisc m n).chop = s.chop := rfl
@[simp] theorem State.countMisc_params (m : Misc) (n : Nat) : (s.countMisc m n).params = s.params := rfl
@[simp] theorem State.countMisc_flags (m : Misc) (n : Nat) : (s.countMisc m n).flags = s.flags := rfl
@[simp] theorem State.countMisc_counters (m : Misc) (n : Nat) : (s.countMisc m n).counters = s.counters := rfl
@[simp] theorem State.countMisc_now (m : Misc) (n : Nat) : (s.countMisc m n).now = s.now := rfl
@[simp] theorem State.countMisc_freeCount (m : Misc) (n : Nat) : (s.countMisc m n).freeCount = s.freeCount := rfl
@[simp] theorem State.countMisc_out (m : Misc) (n : Nat) : (s.countMisc m n).out = s.out := rfl
@[simp] theorem State.countMisc_pending (m : Misc) (n : Nat) : (s.countMisc m n).pending = s.pending := rfl

@[simp] theorem State.emit_power (o : Output) : (s.emit o).power = s.power := rfl
@[simp] theorem State.emit_boot (o : Output) : (s.emit o).boot = s.boot := rfl
@[simp] theorem State.emit_flash (o : Output) : (s.emit o).flash = s.flash := rfl
@[simp] theorem State.emit_fibres (o : Output) : (s.emit o).fibres = s.fibres := rfl
@[simp] theorem State.emit_links (o : Output) : (s.emit o).links = s.links := rfl
@[simp] theorem State.emit_engines (o : Output) : (s.emit o).engines = s.engines := rfl
@[simp] theorem State.emit_hatch (o : Output) : (s.emit o).hatch = s.hatch := rfl
@[simp] theorem State.emit_time (o : Output) : (s.emit o).time = s.time := rfl
@[simp] theorem State.emit_folio (o : Output) : (s.emit o).folio = s.folio := rfl
@[simp] theorem State.emit_codex (o : Output) : (s.emit o).codex = s.codex := rfl
@[simp] theorem State.emit_slots (o : Output) : (s.emit o).slots = s.slots := rfl
@[simp] theorem State.emit_faults (o : Output) : (s.emit o).faults = s.faults := rfl
@[simp] theorem State.emit_mem (o : Output) : (s.emit o).mem = s.mem := rfl
@[simp] theorem State.emit_tables (o : Output) : (s.emit o).tables = s.tables := rfl
@[simp] theorem State.emit_core (o : Output) : (s.emit o).core = s.core := rfl
@[simp] theorem State.emit_ductus (o : Output) : (s.emit o).ductus = s.ductus := rfl
@[simp] theorem State.emit_nibs (o : Output) : (s.emit o).nibs = s.nibs := rfl
@[simp] theorem State.emit_progs (o : Output) : (s.emit o).progs = s.progs := rfl
@[simp] theorem State.emit_coll (o : Output) : (s.emit o).coll = s.coll := rfl
@[simp] theorem State.emit_host (o : Output) : (s.emit o).host = s.host := rfl
@[simp] theorem State.emit_lig (o : Output) : (s.emit o).lig = s.lig := rfl
@[simp] theorem State.emit_sec (o : Output) : (s.emit o).sec = s.sec := rfl
@[simp] theorem State.emit_chop (o : Output) : (s.emit o).chop = s.chop := rfl
@[simp] theorem State.emit_params (o : Output) : (s.emit o).params = s.params := rfl
@[simp] theorem State.emit_flags (o : Output) : (s.emit o).flags = s.flags := rfl
@[simp] theorem State.emit_counters (o : Output) : (s.emit o).counters = s.counters := rfl
@[simp] theorem State.emit_misc (o : Output) : (s.emit o).misc = s.misc := rfl
@[simp] theorem State.emit_now (o : Output) : (s.emit o).now = s.now := rfl
@[simp] theorem State.emit_freeCount (o : Output) : (s.emit o).freeCount = s.freeCount := rfl
@[simp] theorem State.emit_out (o : Output) : (s.emit o).out = o :: s.out := rfl
@[simp] theorem State.emit_pending (o : Output) : (s.emit o).pending = s.pending := rfl

@[simp] theorem State.freeBelow_power (b : Nat) : (s.freeBelow b).2.power = s.power := rfl
@[simp] theorem State.freeBelow_boot (b : Nat) : (s.freeBelow b).2.boot = s.boot := rfl
@[simp] theorem State.freeBelow_flash (b : Nat) : (s.freeBelow b).2.flash = s.flash := rfl
@[simp] theorem State.freeBelow_fibres (b : Nat) : (s.freeBelow b).2.fibres = s.fibres := rfl
@[simp] theorem State.freeBelow_links (b : Nat) : (s.freeBelow b).2.links = s.links := rfl
@[simp] theorem State.freeBelow_engines (b : Nat) : (s.freeBelow b).2.engines = s.engines := rfl
@[simp] theorem State.freeBelow_hatch (b : Nat) : (s.freeBelow b).2.hatch = s.hatch := rfl
@[simp] theorem State.freeBelow_time (b : Nat) : (s.freeBelow b).2.time = s.time := rfl
@[simp] theorem State.freeBelow_folio (b : Nat) : (s.freeBelow b).2.folio = s.folio := rfl
@[simp] theorem State.freeBelow_codex (b : Nat) : (s.freeBelow b).2.codex = s.codex := rfl
@[simp] theorem State.freeBelow_slots (b : Nat) : (s.freeBelow b).2.slots = s.slots := rfl
@[simp] theorem State.freeBelow_faults (b : Nat) : (s.freeBelow b).2.faults = s.faults := rfl
@[simp] theorem State.freeBelow_mem (b : Nat) : (s.freeBelow b).2.mem = s.mem := rfl
@[simp] theorem State.freeBelow_tables (b : Nat) : (s.freeBelow b).2.tables = s.tables := rfl
@[simp] theorem State.freeBelow_core (b : Nat) : (s.freeBelow b).2.core = s.core := rfl
@[simp] theorem State.freeBelow_ductus (b : Nat) : (s.freeBelow b).2.ductus = s.ductus := rfl
@[simp] theorem State.freeBelow_nibs (b : Nat) : (s.freeBelow b).2.nibs = s.nibs := rfl
@[simp] theorem State.freeBelow_progs (b : Nat) : (s.freeBelow b).2.progs = s.progs := rfl
@[simp] theorem State.freeBelow_coll (b : Nat) : (s.freeBelow b).2.coll = s.coll := rfl
@[simp] theorem State.freeBelow_host (b : Nat) : (s.freeBelow b).2.host = s.host := rfl
@[simp] theorem State.freeBelow_lig (b : Nat) : (s.freeBelow b).2.lig = s.lig := rfl
@[simp] theorem State.freeBelow_sec (b : Nat) : (s.freeBelow b).2.sec = s.sec := rfl
@[simp] theorem State.freeBelow_chop (b : Nat) : (s.freeBelow b).2.chop = s.chop := rfl
@[simp] theorem State.freeBelow_params (b : Nat) : (s.freeBelow b).2.params = s.params := rfl
@[simp] theorem State.freeBelow_flags (b : Nat) : (s.freeBelow b).2.flags = s.flags := rfl
@[simp] theorem State.freeBelow_counters (b : Nat) : (s.freeBelow b).2.counters = s.counters := rfl
@[simp] theorem State.freeBelow_misc (b : Nat) : (s.freeBelow b).2.misc = s.misc := rfl
@[simp] theorem State.freeBelow_now (b : Nat) : (s.freeBelow b).2.now = s.now := rfl
@[simp] theorem State.freeBelow_freeCount (b : Nat) : (s.freeBelow b).2.freeCount = s.freeCount + 1 := rfl
@[simp] theorem State.freeBelow_out (b : Nat) : (s.freeBelow b).2.out = s.out := rfl
@[simp] theorem State.freeBelow_pending (b : Nat) : (s.freeBelow b).2.pending = s.pending := rfl

@[simp] theorem State.free64_power  : (s.free64).2.power = s.power := rfl
@[simp] theorem State.free64_boot  : (s.free64).2.boot = s.boot := rfl
@[simp] theorem State.free64_flash  : (s.free64).2.flash = s.flash := rfl
@[simp] theorem State.free64_fibres  : (s.free64).2.fibres = s.fibres := rfl
@[simp] theorem State.free64_links  : (s.free64).2.links = s.links := rfl
@[simp] theorem State.free64_engines  : (s.free64).2.engines = s.engines := rfl
@[simp] theorem State.free64_hatch  : (s.free64).2.hatch = s.hatch := rfl
@[simp] theorem State.free64_time  : (s.free64).2.time = s.time := rfl
@[simp] theorem State.free64_folio  : (s.free64).2.folio = s.folio := rfl
@[simp] theorem State.free64_codex  : (s.free64).2.codex = s.codex := rfl
@[simp] theorem State.free64_slots  : (s.free64).2.slots = s.slots := rfl
@[simp] theorem State.free64_faults  : (s.free64).2.faults = s.faults := rfl
@[simp] theorem State.free64_mem  : (s.free64).2.mem = s.mem := rfl
@[simp] theorem State.free64_tables  : (s.free64).2.tables = s.tables := rfl
@[simp] theorem State.free64_core  : (s.free64).2.core = s.core := rfl
@[simp] theorem State.free64_ductus  : (s.free64).2.ductus = s.ductus := rfl
@[simp] theorem State.free64_nibs  : (s.free64).2.nibs = s.nibs := rfl
@[simp] theorem State.free64_progs  : (s.free64).2.progs = s.progs := rfl
@[simp] theorem State.free64_coll  : (s.free64).2.coll = s.coll := rfl
@[simp] theorem State.free64_host  : (s.free64).2.host = s.host := rfl
@[simp] theorem State.free64_lig  : (s.free64).2.lig = s.lig := rfl
@[simp] theorem State.free64_sec  : (s.free64).2.sec = s.sec := rfl
@[simp] theorem State.free64_chop  : (s.free64).2.chop = s.chop := rfl
@[simp] theorem State.free64_params  : (s.free64).2.params = s.params := rfl
@[simp] theorem State.free64_flags  : (s.free64).2.flags = s.flags := rfl
@[simp] theorem State.free64_counters  : (s.free64).2.counters = s.counters := rfl
@[simp] theorem State.free64_misc  : (s.free64).2.misc = s.misc := rfl
@[simp] theorem State.free64_now  : (s.free64).2.now = s.now := rfl
@[simp] theorem State.free64_freeCount  : (s.free64).2.freeCount = s.freeCount + 1 := rfl
@[simp] theorem State.free64_out  : (s.free64).2.out = s.out := rfl
@[simp] theorem State.free64_pending  : (s.free64).2.pending = s.pending := rfl

/-! What an update leaves of the entries of tables that it does not change. -/

@[simp] theorem State.fibre_modPower (g : Power → Power) (x : Nat) : (s.modPower g).fibre x = s.fibre x := rfl
@[simp] theorem State.lane_modPower (g : Power → Power) (x y : Nat) : (s.modPower g).lane x y = s.lane x y := rfl
@[simp] theorem State.link_modPower (g : Power → Power) (x : Nat) : (s.modPower g).link x = s.link x := rfl
@[simp] theorem State.engine_modPower (g : Power → Power) (x : Nat) : (s.modPower g).engine x = s.engine x := rfl
@[simp] theorem State.source_modPower (g : Power → Power) (x y : Nat) : (s.modPower g).source x y = s.source x y := rfl
@[simp] theorem State.slot_modPower (g : Power → Power) (x : Nat) : (s.modPower g).slot x = s.slot x := rfl
@[simp] theorem State.param_modPower (g : Power → Power) (x y : Nat) : (s.modPower g).param x y = s.param x y := rfl
@[simp] theorem State.flag_modPower (g : Power → Power) (x y : Nat) : (s.modPower g).flag x y = s.flag x y := rfl
@[simp] theorem State.counter_modPower (g : Power → Power) (x y : Nat) : (s.modPower g).counter x y = s.counter x y := rfl
@[simp] theorem State.nib_modPower (g : Power → Power) (x : Nat) : (s.modPower g).nib x = s.nib x := rfl
@[simp] theorem State.fibre_modBoot (g : Boot → Boot) (x : Nat) : (s.modBoot g).fibre x = s.fibre x := rfl
@[simp] theorem State.lane_modBoot (g : Boot → Boot) (x y : Nat) : (s.modBoot g).lane x y = s.lane x y := rfl
@[simp] theorem State.link_modBoot (g : Boot → Boot) (x : Nat) : (s.modBoot g).link x = s.link x := rfl
@[simp] theorem State.engine_modBoot (g : Boot → Boot) (x : Nat) : (s.modBoot g).engine x = s.engine x := rfl
@[simp] theorem State.source_modBoot (g : Boot → Boot) (x y : Nat) : (s.modBoot g).source x y = s.source x y := rfl
@[simp] theorem State.slot_modBoot (g : Boot → Boot) (x : Nat) : (s.modBoot g).slot x = s.slot x := rfl
@[simp] theorem State.param_modBoot (g : Boot → Boot) (x y : Nat) : (s.modBoot g).param x y = s.param x y := rfl
@[simp] theorem State.flag_modBoot (g : Boot → Boot) (x y : Nat) : (s.modBoot g).flag x y = s.flag x y := rfl
@[simp] theorem State.counter_modBoot (g : Boot → Boot) (x y : Nat) : (s.modBoot g).counter x y = s.counter x y := rfl
@[simp] theorem State.nib_modBoot (g : Boot → Boot) (x : Nat) : (s.modBoot g).nib x = s.nib x := rfl
@[simp] theorem State.fibre_modTime (g : TimeSt → TimeSt) (x : Nat) : (s.modTime g).fibre x = s.fibre x := rfl
@[simp] theorem State.lane_modTime (g : TimeSt → TimeSt) (x y : Nat) : (s.modTime g).lane x y = s.lane x y := rfl
@[simp] theorem State.link_modTime (g : TimeSt → TimeSt) (x : Nat) : (s.modTime g).link x = s.link x := rfl
@[simp] theorem State.engine_modTime (g : TimeSt → TimeSt) (x : Nat) : (s.modTime g).engine x = s.engine x := rfl
@[simp] theorem State.source_modTime (g : TimeSt → TimeSt) (x y : Nat) : (s.modTime g).source x y = s.source x y := rfl
@[simp] theorem State.slot_modTime (g : TimeSt → TimeSt) (x : Nat) : (s.modTime g).slot x = s.slot x := rfl
@[simp] theorem State.param_modTime (g : TimeSt → TimeSt) (x y : Nat) : (s.modTime g).param x y = s.param x y := rfl
@[simp] theorem State.flag_modTime (g : TimeSt → TimeSt) (x y : Nat) : (s.modTime g).flag x y = s.flag x y := rfl
@[simp] theorem State.counter_modTime (g : TimeSt → TimeSt) (x y : Nat) : (s.modTime g).counter x y = s.counter x y := rfl
@[simp] theorem State.nib_modTime (g : TimeSt → TimeSt) (x : Nat) : (s.modTime g).nib x = s.nib x := rfl
@[simp] theorem State.fibre_modFolio (g : FolioSt → FolioSt) (x : Nat) : (s.modFolio g).fibre x = s.fibre x := rfl
@[simp] theorem State.lane_modFolio (g : FolioSt → FolioSt) (x y : Nat) : (s.modFolio g).lane x y = s.lane x y := rfl
@[simp] theorem State.link_modFolio (g : FolioSt → FolioSt) (x : Nat) : (s.modFolio g).link x = s.link x := rfl
@[simp] theorem State.engine_modFolio (g : FolioSt → FolioSt) (x : Nat) : (s.modFolio g).engine x = s.engine x := rfl
@[simp] theorem State.source_modFolio (g : FolioSt → FolioSt) (x y : Nat) : (s.modFolio g).source x y = s.source x y := rfl
@[simp] theorem State.slot_modFolio (g : FolioSt → FolioSt) (x : Nat) : (s.modFolio g).slot x = s.slot x := rfl
@[simp] theorem State.param_modFolio (g : FolioSt → FolioSt) (x y : Nat) : (s.modFolio g).param x y = s.param x y := rfl
@[simp] theorem State.flag_modFolio (g : FolioSt → FolioSt) (x y : Nat) : (s.modFolio g).flag x y = s.flag x y := rfl
@[simp] theorem State.counter_modFolio (g : FolioSt → FolioSt) (x y : Nat) : (s.modFolio g).counter x y = s.counter x y := rfl
@[simp] theorem State.nib_modFolio (g : FolioSt → FolioSt) (x : Nat) : (s.modFolio g).nib x = s.nib x := rfl
@[simp] theorem State.fibre_modCodex (g : CodexSt → CodexSt) (x : Nat) : (s.modCodex g).fibre x = s.fibre x := rfl
@[simp] theorem State.lane_modCodex (g : CodexSt → CodexSt) (x y : Nat) : (s.modCodex g).lane x y = s.lane x y := rfl
@[simp] theorem State.link_modCodex (g : CodexSt → CodexSt) (x : Nat) : (s.modCodex g).link x = s.link x := rfl
@[simp] theorem State.engine_modCodex (g : CodexSt → CodexSt) (x : Nat) : (s.modCodex g).engine x = s.engine x := rfl
@[simp] theorem State.source_modCodex (g : CodexSt → CodexSt) (x y : Nat) : (s.modCodex g).source x y = s.source x y := rfl
@[simp] theorem State.slot_modCodex (g : CodexSt → CodexSt) (x : Nat) : (s.modCodex g).slot x = s.slot x := rfl
@[simp] theorem State.param_modCodex (g : CodexSt → CodexSt) (x y : Nat) : (s.modCodex g).param x y = s.param x y := rfl
@[simp] theorem State.flag_modCodex (g : CodexSt → CodexSt) (x y : Nat) : (s.modCodex g).flag x y = s.flag x y := rfl
@[simp] theorem State.counter_modCodex (g : CodexSt → CodexSt) (x y : Nat) : (s.modCodex g).counter x y = s.counter x y := rfl
@[simp] theorem State.nib_modCodex (g : CodexSt → CodexSt) (x : Nat) : (s.modCodex g).nib x = s.nib x := rfl
@[simp] theorem State.fibre_modFaults (g : FaultSt → FaultSt) (x : Nat) : (s.modFaults g).fibre x = s.fibre x := rfl
@[simp] theorem State.lane_modFaults (g : FaultSt → FaultSt) (x y : Nat) : (s.modFaults g).lane x y = s.lane x y := rfl
@[simp] theorem State.link_modFaults (g : FaultSt → FaultSt) (x : Nat) : (s.modFaults g).link x = s.link x := rfl
@[simp] theorem State.engine_modFaults (g : FaultSt → FaultSt) (x : Nat) : (s.modFaults g).engine x = s.engine x := rfl
@[simp] theorem State.source_modFaults (g : FaultSt → FaultSt) (x y : Nat) : (s.modFaults g).source x y = s.source x y := rfl
@[simp] theorem State.slot_modFaults (g : FaultSt → FaultSt) (x : Nat) : (s.modFaults g).slot x = s.slot x := rfl
@[simp] theorem State.param_modFaults (g : FaultSt → FaultSt) (x y : Nat) : (s.modFaults g).param x y = s.param x y := rfl
@[simp] theorem State.flag_modFaults (g : FaultSt → FaultSt) (x y : Nat) : (s.modFaults g).flag x y = s.flag x y := rfl
@[simp] theorem State.counter_modFaults (g : FaultSt → FaultSt) (x y : Nat) : (s.modFaults g).counter x y = s.counter x y := rfl
@[simp] theorem State.nib_modFaults (g : FaultSt → FaultSt) (x : Nat) : (s.modFaults g).nib x = s.nib x := rfl
@[simp] theorem State.fibre_modHatch (g : HatchSt → HatchSt) (x : Nat) : (s.modHatch g).fibre x = s.fibre x := rfl
@[simp] theorem State.lane_modHatch (g : HatchSt → HatchSt) (x y : Nat) : (s.modHatch g).lane x y = s.lane x y := rfl
@[simp] theorem State.link_modHatch (g : HatchSt → HatchSt) (x : Nat) : (s.modHatch g).link x = s.link x := rfl
@[simp] theorem State.engine_modHatch (g : HatchSt → HatchSt) (x : Nat) : (s.modHatch g).engine x = s.engine x := rfl
@[simp] theorem State.source_modHatch (g : HatchSt → HatchSt) (x y : Nat) : (s.modHatch g).source x y = s.source x y := rfl
@[simp] theorem State.slot_modHatch (g : HatchSt → HatchSt) (x : Nat) : (s.modHatch g).slot x = s.slot x := rfl
@[simp] theorem State.param_modHatch (g : HatchSt → HatchSt) (x y : Nat) : (s.modHatch g).param x y = s.param x y := rfl
@[simp] theorem State.flag_modHatch (g : HatchSt → HatchSt) (x y : Nat) : (s.modHatch g).flag x y = s.flag x y := rfl
@[simp] theorem State.counter_modHatch (g : HatchSt → HatchSt) (x y : Nat) : (s.modHatch g).counter x y = s.counter x y := rfl
@[simp] theorem State.nib_modHatch (g : HatchSt → HatchSt) (x : Nat) : (s.modHatch g).nib x = s.nib x := rfl
@[simp] theorem State.fibre_modMem (g : MemSt → MemSt) (x : Nat) : (s.modMem g).fibre x = s.fibre x := rfl
@[simp] theorem State.lane_modMem (g : MemSt → MemSt) (x y : Nat) : (s.modMem g).lane x y = s.lane x y := rfl
@[simp] theorem State.link_modMem (g : MemSt → MemSt) (x : Nat) : (s.modMem g).link x = s.link x := rfl
@[simp] theorem State.engine_modMem (g : MemSt → MemSt) (x : Nat) : (s.modMem g).engine x = s.engine x := rfl
@[simp] theorem State.source_modMem (g : MemSt → MemSt) (x y : Nat) : (s.modMem g).source x y = s.source x y := rfl
@[simp] theorem State.slot_modMem (g : MemSt → MemSt) (x : Nat) : (s.modMem g).slot x = s.slot x := rfl
@[simp] theorem State.param_modMem (g : MemSt → MemSt) (x y : Nat) : (s.modMem g).param x y = s.param x y := rfl
@[simp] theorem State.flag_modMem (g : MemSt → MemSt) (x y : Nat) : (s.modMem g).flag x y = s.flag x y := rfl
@[simp] theorem State.counter_modMem (g : MemSt → MemSt) (x y : Nat) : (s.modMem g).counter x y = s.counter x y := rfl
@[simp] theorem State.nib_modMem (g : MemSt → MemSt) (x : Nat) : (s.modMem g).nib x = s.nib x := rfl
@[simp] theorem State.fibre_modChop (g : ChopSt → ChopSt) (x : Nat) : (s.modChop g).fibre x = s.fibre x := rfl
@[simp] theorem State.lane_modChop (g : ChopSt → ChopSt) (x y : Nat) : (s.modChop g).lane x y = s.lane x y := rfl
@[simp] theorem State.link_modChop (g : ChopSt → ChopSt) (x : Nat) : (s.modChop g).link x = s.link x := rfl
@[simp] theorem State.engine_modChop (g : ChopSt → ChopSt) (x : Nat) : (s.modChop g).engine x = s.engine x := rfl
@[simp] theorem State.source_modChop (g : ChopSt → ChopSt) (x y : Nat) : (s.modChop g).source x y = s.source x y := rfl
@[simp] theorem State.slot_modChop (g : ChopSt → ChopSt) (x : Nat) : (s.modChop g).slot x = s.slot x := rfl
@[simp] theorem State.param_modChop (g : ChopSt → ChopSt) (x y : Nat) : (s.modChop g).param x y = s.param x y := rfl
@[simp] theorem State.flag_modChop (g : ChopSt → ChopSt) (x y : Nat) : (s.modChop g).flag x y = s.flag x y := rfl
@[simp] theorem State.counter_modChop (g : ChopSt → ChopSt) (x y : Nat) : (s.modChop g).counter x y = s.counter x y := rfl
@[simp] theorem State.nib_modChop (g : ChopSt → ChopSt) (x : Nat) : (s.modChop g).nib x = s.nib x := rfl
@[simp] theorem State.fibre_modColl (g : CollSt → CollSt) (x : Nat) : (s.modColl g).fibre x = s.fibre x := rfl
@[simp] theorem State.lane_modColl (g : CollSt → CollSt) (x y : Nat) : (s.modColl g).lane x y = s.lane x y := rfl
@[simp] theorem State.link_modColl (g : CollSt → CollSt) (x : Nat) : (s.modColl g).link x = s.link x := rfl
@[simp] theorem State.engine_modColl (g : CollSt → CollSt) (x : Nat) : (s.modColl g).engine x = s.engine x := rfl
@[simp] theorem State.source_modColl (g : CollSt → CollSt) (x y : Nat) : (s.modColl g).source x y = s.source x y := rfl
@[simp] theorem State.slot_modColl (g : CollSt → CollSt) (x : Nat) : (s.modColl g).slot x = s.slot x := rfl
@[simp] theorem State.param_modColl (g : CollSt → CollSt) (x y : Nat) : (s.modColl g).param x y = s.param x y := rfl
@[simp] theorem State.flag_modColl (g : CollSt → CollSt) (x y : Nat) : (s.modColl g).flag x y = s.flag x y := rfl
@[simp] theorem State.counter_modColl (g : CollSt → CollSt) (x y : Nat) : (s.modColl g).counter x y = s.counter x y := rfl
@[simp] theorem State.nib_modColl (g : CollSt → CollSt) (x : Nat) : (s.modColl g).nib x = s.nib x := rfl
@[simp] theorem State.fibre_modCore (g : CoreSt → CoreSt) (x : Nat) : (s.modCore g).fibre x = s.fibre x := rfl
@[simp] theorem State.lane_modCore (g : CoreSt → CoreSt) (x y : Nat) : (s.modCore g).lane x y = s.lane x y := rfl
@[simp] theorem State.link_modCore (g : CoreSt → CoreSt) (x : Nat) : (s.modCore g).link x = s.link x := rfl
@[simp] theorem State.engine_modCore (g : CoreSt → CoreSt) (x : Nat) : (s.modCore g).engine x = s.engine x := rfl
@[simp] theorem State.source_modCore (g : CoreSt → CoreSt) (x y : Nat) : (s.modCore g).source x y = s.source x y := rfl
@[simp] theorem State.slot_modCore (g : CoreSt → CoreSt) (x : Nat) : (s.modCore g).slot x = s.slot x := rfl
@[simp] theorem State.param_modCore (g : CoreSt → CoreSt) (x y : Nat) : (s.modCore g).param x y = s.param x y := rfl
@[simp] theorem State.flag_modCore (g : CoreSt → CoreSt) (x y : Nat) : (s.modCore g).flag x y = s.flag x y := rfl
@[simp] theorem State.counter_modCore (g : CoreSt → CoreSt) (x y : Nat) : (s.modCore g).counter x y = s.counter x y := rfl
@[simp] theorem State.nib_modCore (g : CoreSt → CoreSt) (x : Nat) : (s.modCore g).nib x = s.nib x := rfl
@[simp] theorem State.fibre_modDuctus (g : DuctusSt → DuctusSt) (x : Nat) : (s.modDuctus g).fibre x = s.fibre x := rfl
@[simp] theorem State.lane_modDuctus (g : DuctusSt → DuctusSt) (x y : Nat) : (s.modDuctus g).lane x y = s.lane x y := rfl
@[simp] theorem State.link_modDuctus (g : DuctusSt → DuctusSt) (x : Nat) : (s.modDuctus g).link x = s.link x := rfl
@[simp] theorem State.engine_modDuctus (g : DuctusSt → DuctusSt) (x : Nat) : (s.modDuctus g).engine x = s.engine x := rfl
@[simp] theorem State.source_modDuctus (g : DuctusSt → DuctusSt) (x y : Nat) : (s.modDuctus g).source x y = s.source x y := rfl
@[simp] theorem State.slot_modDuctus (g : DuctusSt → DuctusSt) (x : Nat) : (s.modDuctus g).slot x = s.slot x := rfl
@[simp] theorem State.param_modDuctus (g : DuctusSt → DuctusSt) (x y : Nat) : (s.modDuctus g).param x y = s.param x y := rfl
@[simp] theorem State.flag_modDuctus (g : DuctusSt → DuctusSt) (x y : Nat) : (s.modDuctus g).flag x y = s.flag x y := rfl
@[simp] theorem State.counter_modDuctus (g : DuctusSt → DuctusSt) (x y : Nat) : (s.modDuctus g).counter x y = s.counter x y := rfl
@[simp] theorem State.nib_modDuctus (g : DuctusSt → DuctusSt) (x : Nat) : (s.modDuctus g).nib x = s.nib x := rfl
@[simp] theorem State.fibre_modTables (g : TablesSt → TablesSt) (x : Nat) : (s.modTables g).fibre x = s.fibre x := rfl
@[simp] theorem State.lane_modTables (g : TablesSt → TablesSt) (x y : Nat) : (s.modTables g).lane x y = s.lane x y := rfl
@[simp] theorem State.link_modTables (g : TablesSt → TablesSt) (x : Nat) : (s.modTables g).link x = s.link x := rfl
@[simp] theorem State.engine_modTables (g : TablesSt → TablesSt) (x : Nat) : (s.modTables g).engine x = s.engine x := rfl
@[simp] theorem State.source_modTables (g : TablesSt → TablesSt) (x y : Nat) : (s.modTables g).source x y = s.source x y := rfl
@[simp] theorem State.slot_modTables (g : TablesSt → TablesSt) (x : Nat) : (s.modTables g).slot x = s.slot x := rfl
@[simp] theorem State.param_modTables (g : TablesSt → TablesSt) (x y : Nat) : (s.modTables g).param x y = s.param x y := rfl
@[simp] theorem State.flag_modTables (g : TablesSt → TablesSt) (x y : Nat) : (s.modTables g).flag x y = s.flag x y := rfl
@[simp] theorem State.counter_modTables (g : TablesSt → TablesSt) (x y : Nat) : (s.modTables g).counter x y = s.counter x y := rfl
@[simp] theorem State.nib_modTables (g : TablesSt → TablesSt) (x : Nat) : (s.modTables g).nib x = s.nib x := rfl
@[simp] theorem State.fibre_modLig (g : LigSt → LigSt) (x : Nat) : (s.modLig g).fibre x = s.fibre x := rfl
@[simp] theorem State.lane_modLig (g : LigSt → LigSt) (x y : Nat) : (s.modLig g).lane x y = s.lane x y := rfl
@[simp] theorem State.link_modLig (g : LigSt → LigSt) (x : Nat) : (s.modLig g).link x = s.link x := rfl
@[simp] theorem State.engine_modLig (g : LigSt → LigSt) (x : Nat) : (s.modLig g).engine x = s.engine x := rfl
@[simp] theorem State.source_modLig (g : LigSt → LigSt) (x y : Nat) : (s.modLig g).source x y = s.source x y := rfl
@[simp] theorem State.slot_modLig (g : LigSt → LigSt) (x : Nat) : (s.modLig g).slot x = s.slot x := rfl
@[simp] theorem State.param_modLig (g : LigSt → LigSt) (x y : Nat) : (s.modLig g).param x y = s.param x y := rfl
@[simp] theorem State.flag_modLig (g : LigSt → LigSt) (x y : Nat) : (s.modLig g).flag x y = s.flag x y := rfl
@[simp] theorem State.counter_modLig (g : LigSt → LigSt) (x y : Nat) : (s.modLig g).counter x y = s.counter x y := rfl
@[simp] theorem State.nib_modLig (g : LigSt → LigSt) (x : Nat) : (s.modLig g).nib x = s.nib x := rfl
@[simp] theorem State.fibre_modProgs (g : ProgsSt → ProgsSt) (x : Nat) : (s.modProgs g).fibre x = s.fibre x := rfl
@[simp] theorem State.lane_modProgs (g : ProgsSt → ProgsSt) (x y : Nat) : (s.modProgs g).lane x y = s.lane x y := rfl
@[simp] theorem State.link_modProgs (g : ProgsSt → ProgsSt) (x : Nat) : (s.modProgs g).link x = s.link x := rfl
@[simp] theorem State.engine_modProgs (g : ProgsSt → ProgsSt) (x : Nat) : (s.modProgs g).engine x = s.engine x := rfl
@[simp] theorem State.source_modProgs (g : ProgsSt → ProgsSt) (x y : Nat) : (s.modProgs g).source x y = s.source x y := rfl
@[simp] theorem State.slot_modProgs (g : ProgsSt → ProgsSt) (x : Nat) : (s.modProgs g).slot x = s.slot x := rfl
@[simp] theorem State.param_modProgs (g : ProgsSt → ProgsSt) (x y : Nat) : (s.modProgs g).param x y = s.param x y := rfl
@[simp] theorem State.flag_modProgs (g : ProgsSt → ProgsSt) (x y : Nat) : (s.modProgs g).flag x y = s.flag x y := rfl
@[simp] theorem State.counter_modProgs (g : ProgsSt → ProgsSt) (x y : Nat) : (s.modProgs g).counter x y = s.counter x y := rfl
@[simp] theorem State.nib_modProgs (g : ProgsSt → ProgsSt) (x : Nat) : (s.modProgs g).nib x = s.nib x := rfl
@[simp] theorem State.fibre_modHost (g : HostSt → HostSt) (x : Nat) : (s.modHost g).fibre x = s.fibre x := rfl
@[simp] theorem State.lane_modHost (g : HostSt → HostSt) (x y : Nat) : (s.modHost g).lane x y = s.lane x y := rfl
@[simp] theorem State.link_modHost (g : HostSt → HostSt) (x : Nat) : (s.modHost g).link x = s.link x := rfl
@[simp] theorem State.engine_modHost (g : HostSt → HostSt) (x : Nat) : (s.modHost g).engine x = s.engine x := rfl
@[simp] theorem State.source_modHost (g : HostSt → HostSt) (x y : Nat) : (s.modHost g).source x y = s.source x y := rfl
@[simp] theorem State.slot_modHost (g : HostSt → HostSt) (x : Nat) : (s.modHost g).slot x = s.slot x := rfl
@[simp] theorem State.param_modHost (g : HostSt → HostSt) (x y : Nat) : (s.modHost g).param x y = s.param x y := rfl
@[simp] theorem State.flag_modHost (g : HostSt → HostSt) (x y : Nat) : (s.modHost g).flag x y = s.flag x y := rfl
@[simp] theorem State.counter_modHost (g : HostSt → HostSt) (x y : Nat) : (s.modHost g).counter x y = s.counter x y := rfl
@[simp] theorem State.nib_modHost (g : HostSt → HostSt) (x : Nat) : (s.modHost g).nib x = s.nib x := rfl
@[simp] theorem State.fibre_modSec (g : SecSt → SecSt) (x : Nat) : (s.modSec g).fibre x = s.fibre x := rfl
@[simp] theorem State.lane_modSec (g : SecSt → SecSt) (x y : Nat) : (s.modSec g).lane x y = s.lane x y := rfl
@[simp] theorem State.link_modSec (g : SecSt → SecSt) (x : Nat) : (s.modSec g).link x = s.link x := rfl
@[simp] theorem State.engine_modSec (g : SecSt → SecSt) (x : Nat) : (s.modSec g).engine x = s.engine x := rfl
@[simp] theorem State.source_modSec (g : SecSt → SecSt) (x y : Nat) : (s.modSec g).source x y = s.source x y := rfl
@[simp] theorem State.slot_modSec (g : SecSt → SecSt) (x : Nat) : (s.modSec g).slot x = s.slot x := rfl
@[simp] theorem State.param_modSec (g : SecSt → SecSt) (x y : Nat) : (s.modSec g).param x y = s.param x y := rfl
@[simp] theorem State.flag_modSec (g : SecSt → SecSt) (x y : Nat) : (s.modSec g).flag x y = s.flag x y := rfl
@[simp] theorem State.counter_modSec (g : SecSt → SecSt) (x y : Nat) : (s.modSec g).counter x y = s.counter x y := rfl
@[simp] theorem State.nib_modSec (g : SecSt → SecSt) (x : Nat) : (s.modSec g).nib x = s.nib x := rfl
@[simp] theorem State.link_updFibre (f : Nat) (g : Fibre → Fibre) (x : Nat) : (s.updFibre f g).link x = s.link x := rfl
@[simp] theorem State.engine_updFibre (f : Nat) (g : Fibre → Fibre) (x : Nat) : (s.updFibre f g).engine x = s.engine x := rfl
@[simp] theorem State.source_updFibre (f : Nat) (g : Fibre → Fibre) (x y : Nat) : (s.updFibre f g).source x y = s.source x y := rfl
@[simp] theorem State.slot_updFibre (f : Nat) (g : Fibre → Fibre) (x : Nat) : (s.updFibre f g).slot x = s.slot x := rfl
@[simp] theorem State.param_updFibre (f : Nat) (g : Fibre → Fibre) (x y : Nat) : (s.updFibre f g).param x y = s.param x y := rfl
@[simp] theorem State.flag_updFibre (f : Nat) (g : Fibre → Fibre) (x y : Nat) : (s.updFibre f g).flag x y = s.flag x y := rfl
@[simp] theorem State.counter_updFibre (f : Nat) (g : Fibre → Fibre) (x y : Nat) : (s.updFibre f g).counter x y = s.counter x y := rfl
@[simp] theorem State.nib_updFibre (f : Nat) (g : Fibre → Fibre) (x : Nat) : (s.updFibre f g).nib x = s.nib x := rfl
@[simp] theorem State.link_updLane (f w : Nat) (g : Lane → Lane) (x : Nat) : (s.updLane f w g).link x = s.link x := rfl
@[simp] theorem State.engine_updLane (f w : Nat) (g : Lane → Lane) (x : Nat) : (s.updLane f w g).engine x = s.engine x := rfl
@[simp] theorem State.source_updLane (f w : Nat) (g : Lane → Lane) (x y : Nat) : (s.updLane f w g).source x y = s.source x y := rfl
@[simp] theorem State.slot_updLane (f w : Nat) (g : Lane → Lane) (x : Nat) : (s.updLane f w g).slot x = s.slot x := rfl
@[simp] theorem State.param_updLane (f w : Nat) (g : Lane → Lane) (x y : Nat) : (s.updLane f w g).param x y = s.param x y := rfl
@[simp] theorem State.flag_updLane (f w : Nat) (g : Lane → Lane) (x y : Nat) : (s.updLane f w g).flag x y = s.flag x y := rfl
@[simp] theorem State.counter_updLane (f w : Nat) (g : Lane → Lane) (x y : Nat) : (s.updLane f w g).counter x y = s.counter x y := rfl
@[simp] theorem State.nib_updLane (f w : Nat) (g : Lane → Lane) (x : Nat) : (s.updLane f w g).nib x = s.nib x := rfl
@[simp] theorem State.fibre_updLink (p : Nat) (g : LinkSt → LinkSt) (x : Nat) : (s.updLink p g).fibre x = s.fibre x := rfl
@[simp] theorem State.lane_updLink (p : Nat) (g : LinkSt → LinkSt) (x y : Nat) : (s.updLink p g).lane x y = s.lane x y := rfl
@[simp] theorem State.engine_updLink (p : Nat) (g : LinkSt → LinkSt) (x : Nat) : (s.updLink p g).engine x = s.engine x := rfl
@[simp] theorem State.source_updLink (p : Nat) (g : LinkSt → LinkSt) (x y : Nat) : (s.updLink p g).source x y = s.source x y := rfl
@[simp] theorem State.slot_updLink (p : Nat) (g : LinkSt → LinkSt) (x : Nat) : (s.updLink p g).slot x = s.slot x := rfl
@[simp] theorem State.param_updLink (p : Nat) (g : LinkSt → LinkSt) (x y : Nat) : (s.updLink p g).param x y = s.param x y := rfl
@[simp] theorem State.flag_updLink (p : Nat) (g : LinkSt → LinkSt) (x y : Nat) : (s.updLink p g).flag x y = s.flag x y := rfl
@[simp] theorem State.counter_updLink (p : Nat) (g : LinkSt → LinkSt) (x y : Nat) : (s.updLink p g).counter x y = s.counter x y := rfl
@[simp] theorem State.nib_updLink (p : Nat) (g : LinkSt → LinkSt) (x : Nat) : (s.updLink p g).nib x = s.nib x := rfl
@[simp] theorem State.fibre_updEngine (e : Nat) (g : Engine → Engine) (x : Nat) : (s.updEngine e g).fibre x = s.fibre x := rfl
@[simp] theorem State.lane_updEngine (e : Nat) (g : Engine → Engine) (x y : Nat) : (s.updEngine e g).lane x y = s.lane x y := rfl
@[simp] theorem State.link_updEngine (e : Nat) (g : Engine → Engine) (x : Nat) : (s.updEngine e g).link x = s.link x := rfl
@[simp] theorem State.slot_updEngine (e : Nat) (g : Engine → Engine) (x : Nat) : (s.updEngine e g).slot x = s.slot x := rfl
@[simp] theorem State.param_updEngine (e : Nat) (g : Engine → Engine) (x y : Nat) : (s.updEngine e g).param x y = s.param x y := rfl
@[simp] theorem State.flag_updEngine (e : Nat) (g : Engine → Engine) (x y : Nat) : (s.updEngine e g).flag x y = s.flag x y := rfl
@[simp] theorem State.counter_updEngine (e : Nat) (g : Engine → Engine) (x y : Nat) : (s.updEngine e g).counter x y = s.counter x y := rfl
@[simp] theorem State.nib_updEngine (e : Nat) (g : Engine → Engine) (x : Nat) : (s.updEngine e g).nib x = s.nib x := rfl
@[simp] theorem State.fibre_updSource (e i : Nat) (g : Source → Source) (x : Nat) : (s.updSource e i g).fibre x = s.fibre x := rfl
@[simp] theorem State.lane_updSource (e i : Nat) (g : Source → Source) (x y : Nat) : (s.updSource e i g).lane x y = s.lane x y := rfl
@[simp] theorem State.link_updSource (e i : Nat) (g : Source → Source) (x : Nat) : (s.updSource e i g).link x = s.link x := rfl
@[simp] theorem State.slot_updSource (e i : Nat) (g : Source → Source) (x : Nat) : (s.updSource e i g).slot x = s.slot x := rfl
@[simp] theorem State.param_updSource (e i : Nat) (g : Source → Source) (x y : Nat) : (s.updSource e i g).param x y = s.param x y := rfl
@[simp] theorem State.flag_updSource (e i : Nat) (g : Source → Source) (x y : Nat) : (s.updSource e i g).flag x y = s.flag x y := rfl
@[simp] theorem State.counter_updSource (e i : Nat) (g : Source → Source) (x y : Nat) : (s.updSource e i g).counter x y = s.counter x y := rfl
@[simp] theorem State.nib_updSource (e i : Nat) (g : Source → Source) (x : Nat) : (s.updSource e i g).nib x = s.nib x := rfl
@[simp] theorem State.fibre_updSlot (j : Nat) (g : Slot → Slot) (x : Nat) : (s.updSlot j g).fibre x = s.fibre x := rfl
@[simp] theorem State.lane_updSlot (j : Nat) (g : Slot → Slot) (x y : Nat) : (s.updSlot j g).lane x y = s.lane x y := rfl
@[simp] theorem State.link_updSlot (j : Nat) (g : Slot → Slot) (x : Nat) : (s.updSlot j g).link x = s.link x := rfl
@[simp] theorem State.engine_updSlot (j : Nat) (g : Slot → Slot) (x : Nat) : (s.updSlot j g).engine x = s.engine x := rfl
@[simp] theorem State.source_updSlot (j : Nat) (g : Slot → Slot) (x y : Nat) : (s.updSlot j g).source x y = s.source x y := rfl
@[simp] theorem State.param_updSlot (j : Nat) (g : Slot → Slot) (x y : Nat) : (s.updSlot j g).param x y = s.param x y := rfl
@[simp] theorem State.flag_updSlot (j : Nat) (g : Slot → Slot) (x y : Nat) : (s.updSlot j g).flag x y = s.flag x y := rfl
@[simp] theorem State.counter_updSlot (j : Nat) (g : Slot → Slot) (x y : Nat) : (s.updSlot j g).counter x y = s.counter x y := rfl
@[simp] theorem State.nib_updSlot (j : Nat) (g : Slot → Slot) (x : Nat) : (s.updSlot j g).nib x = s.nib x := rfl
@[simp] theorem State.fibre_updNib (n : Nat) (g : Nib → Nib) (x : Nat) : (s.updNib n g).fibre x = s.fibre x := rfl
@[simp] theorem State.lane_updNib (n : Nat) (g : Nib → Nib) (x y : Nat) : (s.updNib n g).lane x y = s.lane x y := rfl
@[simp] theorem State.link_updNib (n : Nat) (g : Nib → Nib) (x : Nat) : (s.updNib n g).link x = s.link x := rfl
@[simp] theorem State.engine_updNib (n : Nat) (g : Nib → Nib) (x : Nat) : (s.updNib n g).engine x = s.engine x := rfl
@[simp] theorem State.source_updNib (n : Nat) (g : Nib → Nib) (x y : Nat) : (s.updNib n g).source x y = s.source x y := rfl
@[simp] theorem State.slot_updNib (n : Nat) (g : Nib → Nib) (x : Nat) : (s.updNib n g).slot x = s.slot x := rfl
@[simp] theorem State.param_updNib (n : Nat) (g : Nib → Nib) (x y : Nat) : (s.updNib n g).param x y = s.param x y := rfl
@[simp] theorem State.flag_updNib (n : Nat) (g : Nib → Nib) (x y : Nat) : (s.updNib n g).flag x y = s.flag x y := rfl
@[simp] theorem State.counter_updNib (n : Nat) (g : Nib → Nib) (x y : Nat) : (s.updNib n g).counter x y = s.counter x y := rfl
@[simp] theorem State.fibre_setParam (idx sub v : Nat) (x : Nat) : (s.setParam idx sub v).fibre x = s.fibre x := rfl
@[simp] theorem State.lane_setParam (idx sub v : Nat) (x y : Nat) : (s.setParam idx sub v).lane x y = s.lane x y := rfl
@[simp] theorem State.link_setParam (idx sub v : Nat) (x : Nat) : (s.setParam idx sub v).link x = s.link x := rfl
@[simp] theorem State.engine_setParam (idx sub v : Nat) (x : Nat) : (s.setParam idx sub v).engine x = s.engine x := rfl
@[simp] theorem State.source_setParam (idx sub v : Nat) (x y : Nat) : (s.setParam idx sub v).source x y = s.source x y := rfl
@[simp] theorem State.slot_setParam (idx sub v : Nat) (x : Nat) : (s.setParam idx sub v).slot x = s.slot x := rfl
@[simp] theorem State.flag_setParam (idx sub v : Nat) (x y : Nat) : (s.setParam idx sub v).flag x y = s.flag x y := rfl
@[simp] theorem State.counter_setParam (idx sub v : Nat) (x y : Nat) : (s.setParam idx sub v).counter x y = s.counter x y := rfl
@[simp] theorem State.nib_setParam (idx sub v : Nat) (x : Nat) : (s.setParam idx sub v).nib x = s.nib x := rfl
@[simp] theorem State.fibre_setFlag (idx b : Nat) (x : Nat) : (s.setFlag idx b).fibre x = s.fibre x := rfl
@[simp] theorem State.lane_setFlag (idx b : Nat) (x y : Nat) : (s.setFlag idx b).lane x y = s.lane x y := rfl
@[simp] theorem State.link_setFlag (idx b : Nat) (x : Nat) : (s.setFlag idx b).link x = s.link x := rfl
@[simp] theorem State.engine_setFlag (idx b : Nat) (x : Nat) : (s.setFlag idx b).engine x = s.engine x := rfl
@[simp] theorem State.source_setFlag (idx b : Nat) (x y : Nat) : (s.setFlag idx b).source x y = s.source x y := rfl
@[simp] theorem State.slot_setFlag (idx b : Nat) (x : Nat) : (s.setFlag idx b).slot x = s.slot x := rfl
@[simp] theorem State.param_setFlag (idx b : Nat) (x y : Nat) : (s.setFlag idx b).param x y = s.param x y := rfl
@[simp] theorem State.counter_setFlag (idx b : Nat) (x y : Nat) : (s.setFlag idx b).counter x y = s.counter x y := rfl
@[simp] theorem State.nib_setFlag (idx b : Nat) (x : Nat) : (s.setFlag idx b).nib x = s.nib x := rfl
@[simp] theorem State.fibre_clearFlags (idx : Nat) (m : Word32) (x : Nat) : (s.clearFlags idx m).fibre x = s.fibre x := rfl
@[simp] theorem State.lane_clearFlags (idx : Nat) (m : Word32) (x y : Nat) : (s.clearFlags idx m).lane x y = s.lane x y := rfl
@[simp] theorem State.link_clearFlags (idx : Nat) (m : Word32) (x : Nat) : (s.clearFlags idx m).link x = s.link x := rfl
@[simp] theorem State.engine_clearFlags (idx : Nat) (m : Word32) (x : Nat) : (s.clearFlags idx m).engine x = s.engine x := rfl
@[simp] theorem State.source_clearFlags (idx : Nat) (m : Word32) (x y : Nat) : (s.clearFlags idx m).source x y = s.source x y := rfl
@[simp] theorem State.slot_clearFlags (idx : Nat) (m : Word32) (x : Nat) : (s.clearFlags idx m).slot x = s.slot x := rfl
@[simp] theorem State.param_clearFlags (idx : Nat) (m : Word32) (x y : Nat) : (s.clearFlags idx m).param x y = s.param x y := rfl
@[simp] theorem State.counter_clearFlags (idx : Nat) (m : Word32) (x y : Nat) : (s.clearFlags idx m).counter x y = s.counter x y := rfl
@[simp] theorem State.nib_clearFlags (idx : Nat) (m : Word32) (x : Nat) : (s.clearFlags idx m).nib x = s.nib x := rfl
@[simp] theorem State.fibre_count (idx sub n : Nat) (x : Nat) : (s.count idx sub n).fibre x = s.fibre x := rfl
@[simp] theorem State.lane_count (idx sub n : Nat) (x y : Nat) : (s.count idx sub n).lane x y = s.lane x y := rfl
@[simp] theorem State.link_count (idx sub n : Nat) (x : Nat) : (s.count idx sub n).link x = s.link x := rfl
@[simp] theorem State.engine_count (idx sub n : Nat) (x : Nat) : (s.count idx sub n).engine x = s.engine x := rfl
@[simp] theorem State.source_count (idx sub n : Nat) (x y : Nat) : (s.count idx sub n).source x y = s.source x y := rfl
@[simp] theorem State.slot_count (idx sub n : Nat) (x : Nat) : (s.count idx sub n).slot x = s.slot x := rfl
@[simp] theorem State.param_count (idx sub n : Nat) (x y : Nat) : (s.count idx sub n).param x y = s.param x y := rfl
@[simp] theorem State.flag_count (idx sub n : Nat) (x y : Nat) : (s.count idx sub n).flag x y = s.flag x y := rfl
@[simp] theorem State.nib_count (idx sub n : Nat) (x : Nat) : (s.count idx sub n).nib x = s.nib x := rfl
@[simp] theorem State.fibre_countFibre (f sub : Nat) (x : Nat) : (s.countFibre f sub).fibre x = s.fibre x := rfl
@[simp] theorem State.lane_countFibre (f sub : Nat) (x y : Nat) : (s.countFibre f sub).lane x y = s.lane x y := rfl
@[simp] theorem State.link_countFibre (f sub : Nat) (x : Nat) : (s.countFibre f sub).link x = s.link x := rfl
@[simp] theorem State.engine_countFibre (f sub : Nat) (x : Nat) : (s.countFibre f sub).engine x = s.engine x := rfl
@[simp] theorem State.source_countFibre (f sub : Nat) (x y : Nat) : (s.countFibre f sub).source x y = s.source x y := rfl
@[simp] theorem State.slot_countFibre (f sub : Nat) (x : Nat) : (s.countFibre f sub).slot x = s.slot x := rfl
@[simp] theorem State.param_countFibre (f sub : Nat) (x y : Nat) : (s.countFibre f sub).param x y = s.param x y := rfl
@[simp] theorem State.flag_countFibre (f sub : Nat) (x y : Nat) : (s.countFibre f sub).flag x y = s.flag x y := rfl
@[simp] theorem State.nib_countFibre (f sub : Nat) (x : Nat) : (s.countFibre f sub).nib x = s.nib x := rfl
@[simp] theorem State.fibre_countUnit (t j sub : Nat) (x : Nat) : (s.countUnit t j sub).fibre x = s.fibre x := rfl
@[simp] theorem State.lane_countUnit (t j sub : Nat) (x y : Nat) : (s.countUnit t j sub).lane x y = s.lane x y := rfl
@[simp] theorem State.link_countUnit (t j sub : Nat) (x : Nat) : (s.countUnit t j sub).link x = s.link x := rfl
@[simp] theorem State.engine_countUnit (t j sub : Nat) (x : Nat) : (s.countUnit t j sub).engine x = s.engine x := rfl
@[simp] theorem State.source_countUnit (t j sub : Nat) (x y : Nat) : (s.countUnit t j sub).source x y = s.source x y := rfl
@[simp] theorem State.slot_countUnit (t j sub : Nat) (x : Nat) : (s.countUnit t j sub).slot x = s.slot x := rfl
@[simp] theorem State.param_countUnit (t j sub : Nat) (x y : Nat) : (s.countUnit t j sub).param x y = s.param x y := rfl
@[simp] theorem State.flag_countUnit (t j sub : Nat) (x y : Nat) : (s.countUnit t j sub).flag x y = s.flag x y := rfl
@[simp] theorem State.nib_countUnit (t j sub : Nat) (x : Nat) : (s.countUnit t j sub).nib x = s.nib x := rfl
@[simp] theorem State.fibre_countMisc (m : Misc) (n : Nat) (x : Nat) : (s.countMisc m n).fibre x = s.fibre x := rfl
@[simp] theorem State.lane_countMisc (m : Misc) (n : Nat) (x y : Nat) : (s.countMisc m n).lane x y = s.lane x y := rfl
@[simp] theorem State.link_countMisc (m : Misc) (n : Nat) (x : Nat) : (s.countMisc m n).link x = s.link x := rfl
@[simp] theorem State.engine_countMisc (m : Misc) (n : Nat) (x : Nat) : (s.countMisc m n).engine x = s.engine x := rfl
@[simp] theorem State.source_countMisc (m : Misc) (n : Nat) (x y : Nat) : (s.countMisc m n).source x y = s.source x y := rfl
@[simp] theorem State.slot_countMisc (m : Misc) (n : Nat) (x : Nat) : (s.countMisc m n).slot x = s.slot x := rfl
@[simp] theorem State.param_countMisc (m : Misc) (n : Nat) (x y : Nat) : (s.countMisc m n).param x y = s.param x y := rfl
@[simp] theorem State.flag_countMisc (m : Misc) (n : Nat) (x y : Nat) : (s.countMisc m n).flag x y = s.flag x y := rfl
@[simp] theorem State.counter_countMisc (m : Misc) (n : Nat) (x y : Nat) : (s.countMisc m n).counter x y = s.counter x y := rfl
@[simp] theorem State.nib_countMisc (m : Misc) (n : Nat) (x : Nat) : (s.countMisc m n).nib x = s.nib x := rfl
@[simp] theorem State.fibre_emit (o : Output) (x : Nat) : (s.emit o).fibre x = s.fibre x := rfl
@[simp] theorem State.lane_emit (o : Output) (x y : Nat) : (s.emit o).lane x y = s.lane x y := rfl
@[simp] theorem State.link_emit (o : Output) (x : Nat) : (s.emit o).link x = s.link x := rfl
@[simp] theorem State.engine_emit (o : Output) (x : Nat) : (s.emit o).engine x = s.engine x := rfl
@[simp] theorem State.source_emit (o : Output) (x y : Nat) : (s.emit o).source x y = s.source x y := rfl
@[simp] theorem State.slot_emit (o : Output) (x : Nat) : (s.emit o).slot x = s.slot x := rfl
@[simp] theorem State.param_emit (o : Output) (x y : Nat) : (s.emit o).param x y = s.param x y := rfl
@[simp] theorem State.flag_emit (o : Output) (x y : Nat) : (s.emit o).flag x y = s.flag x y := rfl
@[simp] theorem State.counter_emit (o : Output) (x y : Nat) : (s.emit o).counter x y = s.counter x y := rfl
@[simp] theorem State.nib_emit (o : Output) (x : Nat) : (s.emit o).nib x = s.nib x := rfl

/-! Entries of the tables. -/

theorem State.fibre_updFibre (f k : Nat) (g : Fibre → Fibre) : (s.updFibre f g).fibre k = if k = f then g (s.fibre f) else s.fibre k :=
  Tab.get_upd s.fibres g
@[simp] theorem State.fibre_updFibre_same (f : Nat) (g : Fibre → Fibre) : (s.updFibre f g).fibre f = g (s.fibre f) := Tab.get_upd_same s.fibres g
theorem State.lane_updLane (f w k j : Nat) (g : Lane → Lane) :
    (s.updLane f w g).lane k j = if k = f ∧ j = w then g (s.lane f w) else s.lane k j := by
  unfold State.lane State.updLane
  rw [State.fibre_updFibre]
  by_cases h : k = f
  · subst h; simp only [if_true, true_and]; exact Tab.get_upd _ g
  · simp [h]
@[simp] theorem State.lane_updLane_same (f w : Nat) (g : Lane → Lane) : (s.updLane f w g).lane f w = g (s.lane f w) := by
  simp [State.lane_updLane]
theorem State.fibre_updLane (f w k : Nat) (g : Lane → Lane) : (s.updLane f w g).fibre k =
    if k = f then { s.fibre f with lanes := (s.fibre f).lanes.upd {} w g } else s.fibre k := State.fibre_updFibre s f k _
@[simp] theorem State.fibre_updLane_same (f w : Nat) (g : Lane → Lane) : (s.updLane f w g).fibre f =
    { s.fibre f with lanes := (s.fibre f).lanes.upd {} w g } := State.fibre_updFibre_same s f _
theorem State.link_updLink (p k : Nat) (g : LinkSt → LinkSt) : (s.updLink p g).link k = if k = p then g (s.link p) else s.link k :=
  Tab.get_upd s.links g
@[simp] theorem State.link_updLink_same (p : Nat) (g : LinkSt → LinkSt) : (s.updLink p g).link p = g (s.link p) := Tab.get_upd_same s.links g
theorem State.engine_updEngine (e k : Nat) (g : Engine → Engine) : (s.updEngine e g).engine k = if k = e then g (s.engine e) else s.engine k :=
  Tab.get_upd s.engines g
@[simp] theorem State.engine_updEngine_same (e : Nat) (g : Engine → Engine) : (s.updEngine e g).engine e = g (s.engine e) :=
  Tab.get_upd_same s.engines g
theorem State.source_updSource (e i k j : Nat) (g : Source → Source) :
    (s.updSource e i g).source k j = if k = e ∧ j = i then g (s.source e i) else s.source k j := by
  unfold State.source State.updSource
  rw [State.engine_updEngine]
  by_cases h : k = e
  · subst h; simp only [if_true, true_and]; exact Tab.get_upd _ g
  · simp [h]
@[simp] theorem State.source_updSource_same (e i : Nat) (g : Source → Source) : (s.updSource e i g).source e i = g (s.source e i) := by
  simp [State.source_updSource]
theorem State.slot_updSlot (j k : Nat) (g : Slot → Slot) : (s.updSlot j g).slot k = if k = j then g (s.slot j) else s.slot k :=
  Tab.get_upd s.slots g
@[simp] theorem State.slot_updSlot_same (j : Nat) (g : Slot → Slot) : (s.updSlot j g).slot j = g (s.slot j) := Tab.get_upd_same s.slots g
theorem State.unit_updUnit (u k : Nat) (g : UnitEntry → UnitEntry) : (s.updUnit u g).unit k = if k = u then g (s.unit u) else s.unit k :=
  Tab.get_upd s.faults.units g
theorem State.unit_logEvent (u c k d j : Nat) : (s.logEvent u c k d).unit j = s.unit j := by
  simp only [State.unit, State.logEvent, State.modFaults_faults]

/-! Accessors over an update of another part. -/

theorem objKey_inj {a b c d : Nat} (hb : b < 256) (hd : d < 256) (h : objKey a b = objKey c d) : a = c ∧ b = d := by
  unfold objKey at h; omega
theorem State.param_setParam (idx sub v i j : Nat) (hj : j < 256) (hs : sub < 256) :
    (s.setParam idx sub v).param i j = if i = idx ∧ j = sub then v else s.param i j := by
  unfold State.param State.setParam
  by_cases h : objKey i j = objKey idx sub
  · obtain ⟨rfl, rfl⟩ := objKey_inj hj hs h; simp
  · have : ¬ (i = idx ∧ j = sub) := by rintro ⟨rfl, rfl⟩; exact h rfl
    rw [if_neg this]
    unfold Tab.put; split
    · exact Tab.get_drop_other h _
    · exact (Tab.get_ins_other h).trans (Tab.get_drop_other h _)
theorem State.flagObj_setFlag (idx b i : Nat) :
    (s.setFlag idx b).flagObj i = if i = idx then (s.flagObj idx).set b else s.flagObj i := by
  unfold State.flagObj State.setFlag
  rw [Tab.get_upd]
  by_cases h : i = idx
  · subst h; simp
  · have : ¬ objKey i 1 = objKey idx 1 := by unfold objKey; omega
    simp [h, this]
/-- A flag that is set reads 1, and the others as before. -/
theorem State.flag_setFlag (idx b i c : Nat) (hb : b < 32) :
    (s.setFlag idx b).flag i c = (s.flag i c || (decide (i = idx) && decide (c = b))) := by
  unfold State.flag
  rw [State.flagObj_setFlag]
  by_cases h : i = idx
  · subst h
    simp only [if_true, FlagObj.set, BitVec.getLsbD_or, decide_true, Bool.true_and]
    congr 1
    by_cases h2 : c = b
    · subst h2; rw [BitVec.getLsbD_ofNat, Nat.testBit_two_pow_self]; simp [hb]
    · rw [BitVec.getLsbD_ofNat, Nat.testBit_two_pow]; simp [h2, Ne.symm h2]
  · simp [h]
theorem State.counter_count (idx sub n i j : Nat) (hj : j < 256) (hs : sub < 256) :
    (s.count idx sub n).counter i j = if i = idx ∧ j = sub then (s.counter idx sub + n) % 2 ^ 64 else s.counter i j := by
  unfold State.counter State.count
  rw [Tab.get_upd]
  by_cases h : objKey i j = objKey idx sub
  · obtain ⟨rfl, rfl⟩ := objKey_inj hj hs h; simp
  · have : ¬ (i = idx ∧ j = sub) := by rintro ⟨rfl, rfl⟩; exact h rfl
    simp [h, this]


end Sys2Proof.Machine
end

