-- ==== Sys2Proof/Laws/Shared.lean ====
section
/-!
SUPPORT. What the operations that many commands share can do: interrupt events of the host interface, BOOT_STATUS bits, a change
applied to each of a list.
-/

set_option Elab.async false

namespace Sys2Proof.Machine

/-- What every step of a `forEach` keeps, the whole keeps. -/
theorem State.forEach_keeps {α β : Type} (p : State → β) (g : State → α → State) (h : ∀ s x, p (g s x) = p s) :
    ∀ (l : List α) (s : State), p (s.forEach l g) = p s
  | [], _ => rfl
  | x :: r, s => (State.forEach_keeps p g h r (g s x)).trans (h s x)

/-- States that differ in the host interface, the counters and the output alone. -/
def SameButHost (s t : State) : Prop := ∃ h c o, t = { s with host := h, counters := c, out := o }

theorem SameButHost.refl (s : State) : SameButHost s s := ⟨s.host, s.counters, s.out, rfl⟩

theorem SameButHost.trans {s t u : State} (a : SameButHost s t) (b : SameButHost t u) : SameButHost s u := by
  obtain ⟨_, _, _, rfl⟩ := a
  obtain ⟨_, _, _, rfl⟩ := b
  exact ⟨_, _, _, rfl⟩

theorem SameButHost.forEach {α : Type} (g : State → α → State) (h : ∀ s x, SameButHost s (g s x)) :
    ∀ (l : List α) (s : State), SameButHost s (s.forEach l g)
  | [], s => .refl s
  | x :: r, s => (h s x).trans (SameButHost.forEach g h r (g s x))

theorem State.reviewVector_rest (s : State) (fn v : Nat) : SameButHost s (s.reviewVector fn v) := by
  unfold State.reviewVector
  dsimp only
  split
  · unfold State.countHost
    split <;> exact ⟨_, _, _, rfl⟩
  · exact .refl s

theorem State.hostEvent_rest (s : State) (fn b : Nat) : SameButHost s (s.hostEvent fn b) :=
  SameButHost.trans ⟨_, _, _, rfl⟩ (State.reviewVector_rest _ fn 0)

theorem State.bootChanged_rest (s : State) : SameButHost s s.bootChanged :=
  SameButHost.forEach _ (fun s fn => s.hostEvent_rest fn 1) _ s

/-- A DONE bit is as marked, and every other bit and the rest of the start stand. -/
theorem State.markDone_spec (s : State) (b : Nat) (v : Bool) : SameButHost (s.setDone b v) (s.markDone b v) ∨
    (s.boot.done.getLsbD b = v ∧ s.markDone b v = s) := by
  unfold State.markDone
  split
  · exact .inr ⟨‹_›, rfl⟩
  · exact .inl (State.bootChanged_rest _)

theorem State.setDone_done (s : State) (b k : Nat) (v : Bool) (hb : b < 12) :
    (s.setDone b v).boot.done.getLsbD k = if k = b then v else s.boot.done.getLsbD k := by
  unfold State.setDone State.modBoot
  by_cases h : k = b
  · subst h
    cases v <;> simp [BitVec.getLsbD_ofNat, Nat.testBit_two_pow_self, hb, -BitVec.ofNat_pow]
  · cases v <;> simp [BitVec.getLsbD_ofNat, h, Ne.symm h, -BitVec.ofNat_pow]
    exact fun e => BitVec.lt_of_getLsbD e

@[simp] theorem State.markDone_done (s : State) (b k : Nat) (v : Bool) (hb : b < 12) :
    (s.markDone b v).boot.done.getLsbD k = if k = b then v else s.boot.done.getLsbD k := by
  rcases s.markDone_spec b v with ⟨_, _, _, h⟩ | ⟨h, e⟩
  · rw [h]; exact s.setDone_done b k v hb
  · rw [e]; split
    · subst k; exact h
    · rfl

/-- What a mark leaves of the start. -/
theorem State.markDone_boot (s : State) (b : Nat) (v : Bool) : ∃ d, (s.markDone b v).boot = { s.boot with done := d } := by
  rcases s.markDone_spec b v with ⟨_, _, _, h⟩ | ⟨h, e⟩
  · rw [h]; exact ⟨_, rfl⟩
  · rw [e]; exact ⟨s.boot.done, rfl⟩

/-! ### Rings of a lane -/

@[simp] theorem Lane.ring_updRing (y : Lane) (r : Ring) (g : RingSt → RingSt) : (y.updRing r g).ring r = g (y.ring r) := by
  cases r <;> rfl
@[simp] theorem Lane.updRing_state (y : Lane) (r : Ring) (g : RingSt → RingSt) : (y.updRing r g).state = y.state := by cases r <;> rfl
@[simp] theorem Lane.updRing_hold (y : Lane) (r : Ring) (g : RingSt → RingSt) : (y.updRing r g).hold = y.hold := by cases r <;> rfl
@[simp] theorem Lane.updRing_ber (y : Lane) (r : Ring) (g : RingSt → RingSt) : (y.updRing r g).ber = y.ber := by cases r <;> rfl
@[simp] theorem Lane.updRing_fade (y : Lane) (r : Ring) (g : RingSt → RingSt) : (y.updRing r g).fade = y.fade := by cases r <;> rfl

@[simp] theorem State.engine_updChange_same (s : State) (e : Nat) (g : Changeover → Changeover) :
    (s.updChange e g).engine e = { s.engine e with change := (s.engine e).change.map g } := State.engine_updEngine_same s e _
theorem State.lane_updFibre (s : State) (f w : Nat) (g : Fibre → Fibre) (h : (g (s.fibre f)).lanes = (s.fibre f).lanes) :
    (s.updFibre f g).lane f w = s.lane f w := by
  unfold State.lane
  rw [State.fibre_updFibre_same, h]

end Sys2Proof.Machine
end

