-- ==== Sys2Proof/WellFormed.lean ====
section
/-!
DEFINITION. Which commands are well-formed: the operands whose types are wider than the spec's fields lie in the fields' ranges.
-/

namespace Sys2Proof

/-- A source that exists: a station's address and UDP port, VF 1 to 63, fibre 0 to 63. -/
def DopSrc.ok : DopSrc → Bool
  | .mgmt addr port => decide (addr < 2 ^ 128 ∧ port < 65536)
  | .pf _ => true
  | .vf _ n => decide (1 ≤ n ∧ n ≤ 63)
  | .quill _ => true
  | .margin f => decide (f < 64)

/-- SESSION and TRANSACTION are 16 bits (R397). -/
def Req.ok (r : Req) : Bool := r.src.ok && decide (r.session < 65536 ∧ r.transaction < 65536)

/-- An estimate of R88. -/
def berOk (n : Nat) : Bool := decide (n ≤ 932 ∨ n = 65535)

/-- A 16-bit identifier of a unit (R15); the model checks its type and instance where it is used. -/
def unitListOk (l : List Nat) : Bool := l.all (fun u => decide (u < 65536))

/-- The rings of a wavelength (R89): slots 12 to 15 alone have an add-drop ring. -/
def ringExists (w : Fin 17) (ring : Ring) : Bool := ring ≠ .addDrop || (12 ≤ w.val && w.val ≤ 15)

/-- Element settings of the routes that a search found: element number, MODE, RATIO. -/
def foundOk (l : List (List (Nat × Nat × Nat))) : Bool :=
  l.all (fun r => r.all (fun e => decide (e.1 < 1920 ∧ e.2.1 < 3 ∧ e.2.2 < 64)))

/-- Failing locations: table code of R478 and location. -/
def upsetsOk (l : List (Nat × Nat)) : Bool := l.all (fun e => decide (1 ≤ e.1 ∧ e.1 ≤ 6 ∧ e.2 < 2 ^ 18))

/-- What an owner stores: bytes below 2^64; pages below 2^52. -/
def writesOk (l : List (Nat × List Byte)) : Bool := l.all (fun e => decide (e.1 + e.2.length ≤ 2 ^ 64))
def pagesOk (l : List Nat) : Bool := l.all (fun p => decide (p < 2 ^ 52))

/-- The sixteen 32-bit counts of an ERROR_REPORT (R150). -/
def countsOk (l : List Nat) : Bool := decide (l.length = 16) && l.all (fun n => decide (n < 2 ^ 32))

/-- Inkwell lines of an access: the stack that a line lies on. -/
def inksOk (l : List (Nat × Bool × Ecc)) : Bool := l.all (fun e => decide (e.1 < 2 ^ 64))

/-- A signed GET_MEASUREMENTS carries a 32-byte nonce (R421). -/
def signedOk (x : Option (BitVec 8 × List Byte)) : Bool := decide ((x.map (fun y => y.2.length)).getD 32 = 32)

/-- A write whose source and data a transport can carry. -/
def RegWrite.ok : RegWrite → Bool
  | .object r _ _ data => r.ok && decide (data.length ≤ 2028)
  | .bar _ _ _ _ => true
  | .powerLimit _ => true

/-- A flag clear. -/
def FlagWrite.ok : FlagWrite → Bool
  | .object r _ _ => r.ok
  | .events _ _ => true

/-- The well-formedness of a command. -/
def wellFormed : Instr → Bool
  | .enRise => true
  | .enFall _ => true
  | .holdupWarnAssert _ => true
  | .vinUndervoltage => true
  | .vinOvervoltage _ => true
  | .vinBelow30v => true
  | .vinAbove40v => true
  | .inputCurrentLimit => true
  | .ilimitTimeout => true
  | .autoRestart => true
  | .holdupRestart => true
  | .vio1v8Overload => true
  | .sysclkLoss => true
  | .sysclkAbsent => true
  | .sysclkReturn => true
  | .railGroupRegulated => true
  | .railFault => true
  | .railRetry => true
  | .throttleDemandRise _ => true
  | .throttleDemandFall _ => true
  | .sensorWarning _ _ => true
  | .sensorThrottle _ _ => true
  | .sensorTrip _ => true
  | .scribeResetRelease _ => true
  | .bankSelect => true
  | .scribeFirmwareStart => true
  | .configLoad => true
  | .sramInitDone => true
  | .lpddr6Trained _ => true
  | .inkwellTrained _ => true
  | .quillRelease => true
  | .photonicLoad => true
  | .combStable => true
  | .ringsLocked => true
  | .linksStageEnd => true
  | .serviceSet => true
  | .pcieConfigRequest _ _ _ _ => true
  | .perstDeassert _ => true
  | .perstAssert _ => true
  | .warmRstAssert => true
  | .warmRstRelease => true
  | .warmPufRelease => true
  | .warmMemoryReady _ _ => true
  | .warmQuillRestart => true
  | .recoveryBeginLoad r _ => r.ok
  | .recoveryInstall r _ => r.ok
  | .dataRecordWrite _ _ => true
  | .fibreCfgWrite r _ _ => r.ok
  | .marginLightDetect _ => true
  | .helloSend _ => true
  | .helloReceive _ _ => true
  | .laneAligned _ _ => true
  | .alignTimeout _ _ => true
  | .soakEnd _ _ _ _ => true
  | .laneAddReceive _ _ => true
  | .laneAddConfirmReceive _ _ => true
  | .laneFault _ _ _ => true
  | .holddownExpiry _ _ => true
  | .laneDropReceive _ _ => true
  | .trainingAttemptTimeout _ => true
  | .rxLos _ => true
  | .marginLossTimeout _ => true
  | .berWindowEnd _ _ ber _ _ _ => berOk ber
  | .heaterUpdate _ w ring _ => ringExists w ring
  | .ringCapture _ w ring => ringExists w ring
  | .ringUnlock _ w ring => ringExists w ring
  | .trialStart _ _ _ => true
  | .trialSubwindowRead _ _ _ => true
  | .trialWindowEnd _ => true
  | .pilotWordReceive _ _ _ => true
  | .pilotTimeout _ _ => true
  | .pilotRetryExpiry _ _ => true
  | .pilotWordsLost _ _ => true
  | .linePowerSample _ _ _ => true
  | .fadeDropRelease _ _ => true
  | .spareReady _ => true
  | .spareOff _ => true
  | .changeoverNoticeSend _ => true
  | .changeoverAckReceive _ _ => true
  | .changeoverAckTimeout _ => true
  | .changeoverWindowOpen _ => true
  | .changeoverWindowEnd _ => true
  | .changeoverNoticeReceive _ _ => true
  | .sourceFailure _ _ => true
  | .spareRouted _ => true
  | .sourceReinstate r _ _ => r.ok
  | .changeoverNow r _ _ => r.ok
  | .windowRequest _ => true
  | .hatchCommit r count tag => r.ok && decide (count < 256) && decide (tag < 65536)
  | .hatchClearStaging r tag => r.ok && decide (tag < 65536)
  | .hatchCancel r tag => r.ok && decide (tag < 65536)
  | .hatchRouteDone found => foundOk found
  | .hatchDrainEnd => true
  | .circuitNoticeSend => true
  | .circuitAckReceive _ _ => true
  | .circuitAckTimeout => true
  | .hatchApply => true
  | .hatchSettled => true
  | .hatchCommitDone _ => true
  | .hatchTrimTick _ heater => decide (heater.power < 2 ^ 20)
  | .elementFailure _ ratio => decide (ratio < 64)
  | .darkInput _ _ => true
  | .relayFrameReceive _ _ => true
  | .dataFrameReceive _ _ _ => true
  | .controlBlockReceive _ _ _ => true
  | .controlBlockSend _ => true
  | .reorderHoldExpiry _ => true
  | .replayTimeout _ _ => true
  | .egressSelect _ => true
  | .keepaliveReceive _ _ => true
  | .keepaliveSend _ => true
  | .marginResendTimeout _ => true
  | .marginLossDetect _ => true
  | .errorReportSend _ counts => countsOk counts
  | .errorReportReceive _ _ => true
  | .pilotFaultReceive _ _ => true
  | .abortReceive _ _ => true
  | .carryReceive _ _ => true
  | .frameLookup _ upsets => upsetsOk upsets
  | .learnApply _ => true
  | .ageScan => true
  | .checkBitRepair _ => true
  | .tableApply r _ => r.ok
  | .tableClearStaging r _ => r.ok
  | .tableInsertExact => true
  | .tableDeleteExact => true
  | .tableModifyResult => true
  | .tableAddPrefix => true
  | .tableDeletePrefix => true
  | .tableWriteNextHop => true
  | .tableWriteVlanQuarter => true
  | .frameAdmit _ link _ => decide (link ≤ 1024)
  | .cellTimeMatch => true
  | .cellArrive _ _ _ _ => true
  | .reseqGapTimeout _ _ => true
  | .planeWithdraw r _ => r.ok
  | .planeRestore r _ => r.ok
  | .planeDrained _ => true
  | .coordTableCommit _ => true
  | .coordCommitApply => true
  | .schedBeginLoad r _ => r.ok
  | .schedValidate r _ => r.ok
  | .schedValidateDone => true
  | .schedArm r _ => r.ok
  | .schedDisarm r _ => r.ok
  | .schedDeactivate r _ => r.ok
  | .schedLoadBoot r _ => r.ok
  | .schedStoreBoot r _ => r.ok
  | .swapReadinessCheck => true
  | .schedSwap => true
  | .schedJoin => true
  | .syncLoss => true
  | .schedActiveRepeat => true
  | .schedFrameReceive _ _ => true
  | .bucketRefresh => true
  | .shaperCfgWrite r _ _ => r.ok
  | .policerCfgWrite r _ _ => r.ok
  | .nibFrameIntake _ _ => true
  | .chunkDoneAdmit _ _ => true
  | .chunkTimeout _ _ => true
  | .passStart _ => true
  | .passComplete _ _ => true
  | .batchTimeout _ => true
  | .programInvoke _ _ => true
  | .contextStart _ => true
  | .programFetch _ _ => true
  | .waitLimitExpiry _ _ => true
  | .halt _ _ => true
  | .jump _ _ => true
  | .bz _ _ => true
  | .bnz _ _ => true
  | .loop _ _ => true
  | .movi _ _ => true
  | .add _ _ => true
  | .sub _ _ => true
  | .mul _ _ => true
  | .shift _ _ => true
  | .ldx _ _ _ => true
  | .stx _ _ => true
  | .recv _ _ => true
  | .recvComplete _ _ => true
  | .emit _ _ _ => true
  | .nibCopy _ _ _ => true
  | .acc _ _ _ => true
  | .round _ _ _ => true
  | .pass _ _ => true
  | .asyncInstrComplete _ _ _ => true
  | .swait _ _ => true
  | .swaitMet _ _ => true
  | .sadd _ _ => true
  | .ssub _ _ => true
  | .skiddingSample _ _ => true
  | .progBeginLoad r _ => r.ok
  | .progInstall r _ => r.ok
  | .progUninstall r _ => r.ok
  | .progPin r _ => r.ok
  | .progUnpin r _ => r.ok
  | .progLoadAbandon => true
  | .reduce _ => true
  | .program _ => true
  | .counts _ => true
  | .rangeRegister _ => true
  | .registerTimeout _ => true
  | .semOpWait _ => true
  | .semWaitMet _ => true
  | .semWaitTimeout _ => true
  | .semOpAdd _ => true
  | .semOpSub _ => true
  | .semSave _ => true
  | .semRestore _ => true
  | .memRead => true
  | .memWrite => true
  | .memAtomic => true
  | .memResponse => true
  | .memRetryAfter => true
  | .homeRetryResend _ => true
  | .homeTimeout _ => true
  | .poolAccessDone _ inks _ => inksOk inks
  | .zeroFillDone => true
  | .patrolRead _ _ => true
  | .poolSizeWrite r _ => r.ok
  | .sqTailDoorbell _ ring _ writes faults => decide (ring < 4096) && writesOk writes && pagesOk faults
  | .cqHeadDoorbell _ ring _ => decide (ring < 4096)
  | .ringEnable _ ring _ => decide (ring < 4096)
  | .ringDisable _ ring _ => decide (ring < 4096)
  | .vfAssignWrite _ _ _ => true
  | .descriptorIssue _ => true
  | .nop _ => true
  | .installProgram _ => true
  | .copy _ => true
  | .intAck _ _ => true
  | .msixUnmask _ _ => true
  | .mboxGo _ _ frame _ => decide (frame.length ≤ 2048)
  | .functionLevelReset _ => true
  | .pcieLinkDown _ => true
  | .heartbeatTick => true
  | .recoverWrite _ _ => true
  | .claimWindowExpiry => true
  | .offsetSample => true
  | .estimateLoss => true
  | .sourceUnusable => true
  | .holdoverExpiry => true
  | .ptpSyncReceive _ _ => true
  | .ptpDelayReqReceive _ _ => true
  | .ptpDelayRespReceive _ _ => true
  | .ptpAnnounceReceive _ _ => true
  | .announceReceiptTimeout _ => true
  | .ptpSyncSend _ => true
  | .ptpAnnounceSend _ => true
  | .ptpDelayReqSend _ => true
  | .ppsInEdge _ => true
  | .todInMessage _ => true
  | .ppsMissing => true
  | .ppsOutEdge => true
  | .todOutSend => true
  | .triggerFire _ => true
  | .trigArm r _ _ => r.ok
  | .trigDisarm r _ _ => r.ok
  | .snapArm r _ => r.ok
  | .snapDisarm r _ => r.ok
  | .snapHold r _ => r.ok
  | .snapRelease r _ => r.ok
  | .snapStrobe => true
  | .histCfgWrite r _ _ => r.ok
  | .sampleDataRead r => r.ok
  | .sampleDrain _ => true
  | .dopRead r _ _ => r.ok
  | .registerWrite w => w.ok
  | .flagClear w => w.ok
  | .lowWordRead _ _ _ => true
  | .dopSegRead r _ _ _ => r.ok
  | .dopSegWrite r _ _ _ _ data => r.ok && decide (data.length ≤ 2028)
  | .dopOccurrence r _ _ _ => r.ok
  | .dopDescribe r _ _ => r.ok
  | .dopSubscribe r _ => r.ok
  | .notifySend src => src.ok
  | .subscriptionExpiry src => src.ok
  | .mgmtFrameReceive _ _ => true
  | .warmResetCommand r _ => r.ok
  | .sessionOpen r _ _ => r.ok
  | .sessionAuth r _ => r.ok
  | .sessionClose r => r.ok
  | .sessionTimeout src _ => src.ok
  | .mctpPacket r packet => r.ok && decide (packet.length ≤ 2028)
  | .getVersion _ => true
  | .getCapabilities _ _ => true
  | .negotiateAlgorithms _ _ _ => true
  | .getDigests _ => true
  | .getCertificate _ _ _ _ => true
  | .challenge _ _ nonce => decide (nonce.length = 32)
  | .getMeasurements _ _ signed => signedOk signed
  | .debugUnlock r _ => r.ok
  | .credWrite r _ _ => r.ok
  | .tapExtest => true
  | .tapReset => true
  | .tamperSensorFire _ => true
  | .sealChange _ _ => true
  | .chopStartupData => true
  | .accountFeed _ => true
  | .recordBoundary _ => true
  | .recordStoreConfirm _ => true
  | .intervalMinWrite r _ => r.ok
  | .calWrite r _ => r.ok
  | .accountMapWrite r _ _ => r.ok
  | .jobPrepare _ => true
  | .jobTeardown _ => true
  | .jobAbort _ => true
  | .jobAckReceive _ _ => true
  | .jobShareReceive _ _ => true
  | .jobCommitReceive _ _ => true
  | .jobCancelReceive _ _ => true
  | .jobTeardownReceive _ _ => true
  | .jobAbortReceive _ _ => true
  | .commitDecision _ => true
  | .jobGoLive _ => true
  | .prepareTimeout _ => true
  | .drainEnd _ => true
  | .quarantineEnd _ => true
  | .scrubRangeDone => true
  | .unitFault _ _ _ => true
  | .blotterDumpNow r _ => r.ok
  | .blotterDumpEnd silent cut absent => unitListOk silent && unitListOk cut && unitListOk absent
  | .blotterSelect r _ => r.ok
  | .proofPeriodStart => true
  | .proofTestNow r _ => r.ok
  | .proofResult _ => true
  | .faultHistoryWrite => true
  | .healthDecay => true
  | .digestReceive _ _ => true
  | .digestTimeout _ _ _ => true
  | .vinStartThreshold => true
  | .marginFrameDiscard _ _ => true
  | .jobShareSend _ => true
  | .proofWindowOpen => true
  | .proofWindowEnd => true
  | .quillMemoryAccess _ addr store _ _ _ => decide (addr < 2 ^ 48) && decide (store.length ≤ 64)

end Sys2Proof
end

