-- ==== Sys2Proof/Tests/Slice0.lean ====
section
/-!
SUPPORT. Small tests: commands that are not well-formed, the spec's worked examples, single steps; and, for every statement of
Obligations.lean that has hypotheses, states and operands that meet them.
-/

set_option Elab.async false
set_option maxRecDepth 20000
set_option linter.unusedVariables false
set_option synthInstance.maxSize 2000

namespace Sys2Proof.Tests

open Sys2Proof Sys2Proof.Machine

/-! ## States for the witnesses -/

/-- A module in service: rails on, both hosts up, every start step done, memories in service. -/
def hp : Port := { perst := false, filled := true, up := true }
def up : State :=
  { power := { en := true, vinOk := true, groups := 4, pwrOk := true, vio18 := true }
    boot := { phase := .cold 14, done := 0xFFF, sram := true, photonic := true, comb := true, identity := true }
    mem := { lpd := 0xFFFF, ink := 0xF, zeroDone := true }
    host := { portA := hp, portB := hp } }
def fib (x : Fibre) : State := { up with fibres := [(0, x)] }
def laneIs (x : Lane) (m : MarginState) : State := fib { lanes := [(0, x)], marginState := m }
def engIs (x : Engine) : State := { up with engines := [(0, x)] }
def srcs (a spare : Source) : Tab Source := [(0, a), (4, spare)]
def commitIs (c : Commit) : State := { up with hatch := { commit := some c } }
def linkIs (x : LinkSt) : State := { up with links := [(0, x)] }
def nibIs (x : Nib) : State := { up with nibs := [(0, x)] }
def ringIs (x : CmdRing) : State := { up with host := { up.host with rings := [(0, x)] } }
def slotIs (x : Slot) : State := { up with slots := [(0, x)] }
/-- Requests of P0, of a station, and with a session. -/
def q0 : Req := { src := .quill false }
def m0 : Req := { src := .mgmt 1 5000 }
def lit : State := fib { marginState := .up }
def rec : State := { up with boot := { up.boot with recovery := true } }
/-- A margin frame: its first byte, TYPE, payload. -/
def mraw (first typ : Nat) (pl : List Byte) : List Byte :=
  let b : List Byte := beBytes 1 first ++ beBytes 1 typ ++ zeros 6 ++ beBytes 2 pl.length ++ zeros 2 ++ pl
  b ++ beBytes 4 (crc32c b)
def mframe (seqd typ : Nat) (pl : List Byte) : List Byte := mraw (16 + 8 * seqd) typ pl
/-- A window at fabric address 4,096, one page long, of the pool, and its job. -/
def winRec : List Byte := leBytes 8 4096 ++ leBytes 4 1 ++ zeros 2 ++ [1, 7] ++ zeros 16
def win : State := { slotIs { record := { mem := winRec } } with mem := { up.mem with poolGib := 1 } }
def ligReq (a : Nat) : LigReq :=
  { no := 0, link := 0, head := [], routed := false, job := 0, typ := 0x10, addr := a, size := 6, op := 0, reqId := 0, fence := false
    noComb := false, data := [], window := 0, target := 0, home := none, combine := false }
/-- Ring 0 of Host A with one descriptor, which lies at address 0. -/
def ringSt (b : Tab Byte) : State :=
  { ringIs { enable := true, sizeLog2 := 4, sqTail := 1 } with mem := { up.mem with hostA := b }, slots := [(0, { state := .live })] }
def desc0 : Desc := { no := 0, index := 0, tag := 0, irq := false }
def ringOut : State :=
  { ringIs { enable := true, sizeLog2 := 4, sqTail := 1, out_ := [desc0] } with mem := { up.mem with hostA := [(0, 1), (1, 1)] } }
/-- A context at a program of one instruction. -/
def ctx0 : Ctx := { thread := 0, program := 0, size := 2048 }
def ctx1 : Ctx := { ctx0 with steps := 1, seq := 1, issuedNo := 1 }
def ctxIs (k : Ctx) : State := nibIs { ctxs := [(0, some k)] }
def prog (op rest : Nat) : State :=
  nibIs { store := [{ program := 0, pages := 1, image := zeros 64 ++ leBytes 16 (op * 2 ^ 120 + rest) }], ctxs := [(0, some ctx0)] }
/-- The same with X0 = 1,024 and X1 = 1,024, to copy the second half of the scratch space. -/
def ctxR : Ctx := { ctx0 with regs := [(0, 1024), (1, 1024)] }
def ctxR1 : Ctx := { ctxR with steps := 1, seq := 1, issuedNo := 1 }
def progR (op rest : Nat) : State :=
  nibIs { store := [{ program := 0, pages := 1, image := zeros 64 ++ leBytes 16 (op * 2 ^ 120 + rest) }], ctxs := [(0, some ctxR)] }
/-- One data record of one byte in bank A's slot of its type. -/
def flashOf (off typ : Nat) : FlashDev := ({} : FlashDev).write off 0x10000 (recBytes typ 0 [1])
def change0 : Changeover := { fibre := 0, target := 4 }
def change1 : Changeover := { change0 with t := some (0, 0), noticed := true, acked := true }
def row0 : ObjRow := { idx := 0x2440, sub := 2, typ := .u32, acc := .rw, hi := 127 }
def row1 : ObjRow := { idx := 0x6001, typ := .flags32, acc := .w1c }
def multi0 : Conn := { input := 0, outs := [1, 2] }
def commit2 : Commit := { entries := [], tag := 0 }
def commit3 : Commit := { entries := [], tag := 0, connects := [multi0] }
def commit4 : Commit := { entries := [], tag := 0 }
def commit5 : Commit := { entries := [], tag := 0, stage := 2, t := some (0, 0) }
def commit6 : Commit := { entries := [], tag := 0, stage := 2, noticed := true, awaiting := [1], abandoned := 1 }
def commit7 : Commit := { entries := [], tag := 0, stage := 2, noticed := true, awaiting := [1], abandoned := 2 }
def commit8 : Commit := { entries := [], tag := 0, stage := 2, noticed := true, t := some (0, 0) }
def commit9 : Commit := { entries := [], tag := 0, stage := 3 }
def commit10 : Commit := { entries := [], tag := 0, stage := 3, settled := true }
/-- A schedule image's first fields: CYCLE 1, START_CELL 0. -/
def image : List Byte := zeros 20 ++ leBytes 4 1 ++ zeros 40
/-- A link word of a frame of TC1 with SEQ 5, and a frame of 64 bytes with its FCS. -/
def word0 : BitVec 48 :=
  let v := 1 * 2 ^ 43 + 5 * 2 ^ 16
  BitVec.ofNat 48 (v + crc8 (beBytes 4 (v / 65536)) * 256)
def frame64 : List Byte := zeros 60 ++ leBytes 4 (crc32 (zeros 60))
def held0 : HeldFrame := { seq := 0, tc := 1, bytes := [] }
def stored0 (b : List Byte) : Stored :=
  { bytes := b, tc := 0, src := 0, link := 1024, dst := .port 0, arrival := 0, ctVer := false, live := [1000], start := 0, admittedAt := 0 }
def egressing : State :=
  { linkIs { state := .up, limit := [(0, 100)] } with
    core := { frames := [(0, some (stored0 [0]))], egress := [{ port := 0, tc := 0, frame := 0 }] }
    fibres := [(0, { lanes := [(0, { state := .inn })], marginState := .up })] }
def rx0 : RxFrame := { link := 0, tc := 1, bytes := [] }
def learn0 : LearnReq := { kind := .learn, key := 0, link := 0 }
def batchOf1 (v : Nat) : State := { up with tables := { batch := some { ops := [v], tag := 0 } } }
def offer (tc : Nat) : Offer := { src := 163, tc := tc, dst := .port 0, bytes := [0] }
def cell0 : Cell :=
  { frame := 0, idx := 0, multi := false, tc := 1, first := true, last := true, excl := false, src := 0, dst := 163, rseq := 0, egress := 0
    mcKind := 0, mcValue := 0, fill := 240, arrival := 0, ctVer := false }
def transit0 : Transit := { plane := 9, due := 0, cell := cell0 }
def range0 : Range :=
  { job := 0, op := 0x21, base := 0, count := 1, elems := 1, lastElems := 1, members := 1, step := 1, fmtIn := 0, fmtOut := 0, control := 0
    program := 0, sets := 0xFFFF, mask := 0, chunkSem := 0, rangeSem := 0, ring := 0, desc := 0 }
def threadIs (x : Thread) : State := { up with coll := { ranges := [(0, some range0)], threads := [(0, x), (4194303, x)] } }
def pass0 : PassReq := { ctx := 0, seq := 0, thin := false, shape := 0, size := 1, fmt := 0, mode := 0, indep := false }
def invoke0 : Invocation := { thread := 0, program := 0, arrived := 0 }
def swait0 : SwaitSt := { index := 0, value := 0, issued := 0 }
def async0 (op : AsyncOp) : Async := { seq := 0, pc := 0, op := op, word := 0 }
def register0 : Register := { range := range0, d := desc0, entries := 1, since := 0 }
def holding (l : Tab (Option Range)) : State := { up with coll := { registers := [register0], ranges := l } }
def wait0 : SemWait := { ring := 0, desc := 0, job := 0, index := 0, value := 0, limit := 0, since := 0 }
/-- A native VFT frame of a type; its header starts at byte 14. -/
def vft (typ : Nat) : List Byte := zeros 12 ++ beBytes 2 0x88B5 ++ beBytes 1 0x10 ++ beBytes 1 typ ++ zeros 48
def atLig (b : List Byte) : State := { up with core := { intake := [(160, [stored0 b])] } }
def acc0 : LigAccess := { no := 0, kind := .read, home := none, addr := 0, bytes := 64, job := 0, members := [], open_ := false }
def part0 : HomePart := { id := 65535, addr := 0, size := 6, sent := 0, retryAt := some 0 }
def accessing (a : LigAccess) : State := { up with lig := { accs := [a] } }
def announce0 : Announce :=
  { priority1 := 0, clockClass := 0, accuracy := 0, variance := 0, priority2 := 0, identity := 0, steps := 0, sender := 0, senderPort := 0
    utc := 0, flags := 0, timeSource := 0 }
def ptpUp : State := { lit with time := { source := 64 } }
def tod0 : List Byte :=
  let b := beBytes 2 0x5654 ++ beBytes 1 1 ++ beBytes 1 2 ++ zeros 14
  b ++ beBytes 2 (todCheck b)
/-- A frame of 64 bytes for the station, with an EtherType. -/
def station (t : Nat) : List Byte :=
  let b := List.replicate 6 (255 : Byte) ++ zeros 6 ++ beBytes 2 t ++ zeros 46
  b ++ leBytes 4 (crc32 b)
def session0 : Session := { id := 1, src := .mgmt 1 5000, cred := 1, reqNonce := [], modNonce := [] }
def pending : State := { up with codex := { sessions := [session0] } }
def spdmUp : State := { up with sec := { spdm := [(0, { stage := 3, version := 0x13 })] } }
def chained : State := { spdmUp with flash := { a := flashOf 0x02220000 0x14 } }
/-- A context with X1 = 1 over a chunk of one element, at an instruction whose B is 1. -/
def ctxE : Ctx := { ctx0 with regs := [(1, 1)], elems := 1 }
def ctxE1 : Ctx := { ctxE with steps := 1, seq := 1, issuedNo := 1 }
def progE (op : Nat) : State :=
  { nibIs { store := [{ program := 0, pages := 1, image := zeros 64 ++ leBytes 16 (op * 2 ^ 120 + 2 ^ 32) }], ctxs := [(0, some ctxE)] } with
    coll := { ranges := [(0, some { range0 with sets := 0xFFF0 })] } }
/-- A thin pass whose weights are in the active registers. -/
def thin0 : PassReq := { pass0 with thin := true, shape := 1, wait := 1 }
def thinning : State := nibIs { passes := [thin0], active := [{ ctx := 0, addr := 0, bytes := [] }] }
def ringBad : State := { ringSt [] with mem := { faultPages := [(.hostA, 0)] } }
/-- A link that is up, over a lane that is IN. -/
def carrying : State :=
  { linkIs { state := .up } with
    fibres := [(0, { lanes := [(0, { state := .inn })], marginState := .up })], params := [(objKey 0x2140 1, 2 ^ 32)] }
/-- A route for light from input 0 to outputs 1 and 2. -/
def route3 : List (Nat × Nat × Nat) := [(13 * 128, 2, 32), (14 * 128, 1, 0)]
def dump0 : DumpRun := { slot := 0, trigger := 0, cell := 0, boot := 0, pwr := 0 }

theorem seesWrite {s : State} {r : Req} {idx sub v : Nat}
    (h : ((s.dopArrives r.src).scribeUp && (s.dopArrives r.src).srcReaches r.src && decide ((s.dopArrives r.src).codex.responses = []) &&
      (match dopAdmit (s.dopArrives r.src) (writeReq r idx sub v) with
        | .ok role => decide (writeRole idx ≤ role)
        | .error _ => false)) = true) : WriteAdmitted s r idx sub v (s.dopArrives r.src) := by
  simp only [Bool.and_eq_true, decide_eq_true_eq] at h
  obtain ⟨⟨⟨h1, h2⟩, h3⟩, h4⟩ := h
  refine ⟨rfl, h1, h2, by simp [h3], ?_⟩
  revert h4
  cases dopAdmit (s.dopArrives r.src) (writeReq r idx sub v) with
  | ok role => intro h4; exact ⟨role, rfl, of_decide_eq_true h4⟩
  | error e => intro h4; cases h4

theorem seesReq {s : State} {q : DopReq} {role : Nat}
    (h : ((s.dopArrives q.src).scribeUp && (s.dopArrives q.src).srcReaches q.src && decide ((s.dopArrives q.src).codex.responses = []) &&
      decide (bit q.flags 0 = false) && decide (q.op ≠ 8) &&
      (match dopAdmit (s.dopArrives q.src) q with
        | .ok x => decide (x = role)
        | .error _ => false)) = true) : ReqAdmitted s q role (s.dopArrives q.src) := by
  simp only [Bool.and_eq_true, decide_eq_true_eq] at h
  obtain ⟨⟨⟨⟨⟨h1, h2⟩, h3⟩, h5⟩, h6⟩, h4⟩ := h
  refine ⟨rfl, h1, h2, h5, h6, by simp [h3], ?_⟩
  revert h4
  cases dopAdmit (s.dopArrives q.src) q with
  | ok x => intro h4; rw [of_decide_eq_true h4]
  | error e => intro h4; cases h4

/-- The state in which the next instruction of a context has been counted. -/
def counted (s : State) (n c : Nat) : State :=
  ((((s.countNib n 17 1).updNib n (fun x => { x with issues := x.issues + 1, turn := c })).updCtx n c (fun y =>
      { y with steps := y.steps + 1, seq := y.seq + 1, issuedNo := (s.nib n).issues + 1 })).skidIssue n c).samplePeriod n

theorem seesNib {s : State} {n c op : Nat} {k0 k : Ctx} (h0 : s.ctx n c = some k0) (h1 : (counted s n c).ctx n c = some k)
    (h : iOp (s.nextInstr n k0) = op ∧ s.issuer n = some c ∧ k0.steps < k0.stepLimit) :
    NibIssues s n c op (s.nextInstr n k0) (counted s n c) k :=
  ⟨k0, h0, rfl, h.1, h.2.1, h.2.2, rfl, h1⟩

/-- The outstanding descriptor of a ring's head, what its read leaves, and the state in which its fetch has been counted. -/
def headRead (s : State) (g : Nat) : State := (s.dmaRead (s.ringDomain g) ((s.ring g).descBase + 64 * (s.ring g).sqHead) 64).2
def headDesc (s : State) (g : Nat) (b : List Byte) : Desc :=
  { no := (headRead s g).host.nextDesc, index := (s.ring g).sqHead, tag := leAt b 8 8, irq := bit (byteAt b 1) 1 }
def fetched (s : State) (g : Nat) : State :=
  ((headRead s g).modHost (fun h => { h with nextDesc := h.nextDesc + 1 })).countHost ((headRead s g).ringDomain g) 1

theorem seesRing {b : Tab Byte} {op : Nat}
    (h : ((ringSt b).ring 0).mayIssue = true ∧
    ((ringSt b).dmaRead ((ringSt b).ringDomain 0) (((ringSt b).ring 0).descBase + 64 * ((ringSt b).ring 0).sqHead) 64).1 =
      some (readBytes b 0 64) ∧
    byteAt (readBytes b 0 64) 0 = op ∧ (bit (byteAt (readBytes b 0 64) 1) 0 = false ∨ ((ringSt b).ring 0).out_ = []) ∧
    (op = 0x21 → byteAt (readBytes b 0 64) 52 = 0) ∧ ((ringSt b).service = true ∨ needsService op = false) ∧
    (fetched (ringSt b) 0).headerCheck ((fetched (ringSt b) 0).ringOwner 0) (readBytes b 0 64) = none) :
    RingIssues (ringSt b) 0 op (readBytes b 0 64) (headDesc (ringSt b) 0 (readBytes b 0 64)) (fetched (ringSt b) 0) :=
  ⟨headRead (ringSt b) 0, h.1, Prod.ext h.2.1 rfl, h.2.2.1, h.2.2.2.1, h.2.2.2.2.1, h.2.2.2.2.2.1, rfl, rfl, h.2.2.2.2.2.2⟩

/-! ## Ill-formed commands are refused -/

def badReq : Req := { src := .vf false 64 }

theorem test_wf_sources :
    [DopSrc.mgmt (2 ^ 128) 0, .mgmt 0 65536, .vf false 0, .vf true 64, .margin 64].all (fun x => !(wellFormed (.notifySend x))) = true ∧
    wellFormed (.subscriptionExpiry (.margin 63)) = true := by decide +kernel

theorem test_wf_requests :
    [Instr.recoveryBeginLoad badReq 0, .fibreCfgWrite { src := .pf false, session := 65536 } 0 0,
     .tableApply { src := .pf false, transaction := 65536 } 0, .hatchCommit q0 256 0, .hatchCommit q0 1 65536, .hatchClearStaging q0 65536,
     .hatchCancel q0 65536, .registerWrite (.object q0 0 0 (zeros 2029)), .registerWrite (.object badReq 0 0 []),
     .flagClear (.object badReq 0 0), .dopSegWrite q0 0 0 0 false (zeros 2029), .mctpPacket m0 (zeros 2029),
     .sessionTimeout (.vf false 0) 0].all (fun i => !(wellFormed i)) = true := by decide +kernel

theorem test_wf_ranges :
    [Instr.berWindowEnd 0 0 933 0 0 0, .hatchRouteDone [[(1920, 0, 0)]], .hatchRouteDone [[], [(0, 3, 0)]], .hatchRouteDone [[(0, 0, 64)]],
     .heaterUpdate 0 11 .addDrop 0, .ringCapture 0 16 .addDrop, .ringUnlock 0 0 .addDrop,
     .hatchTrimTick 0 { power := 2 ^ 20 }, .elementFailure 0 64, .errorReportSend 0 [], .errorReportSend 0 (2 ^ 32 :: List.replicate 15 0),
     .frameLookup 0 [(0, 0)], .frameLookup 0 [(7, 0)], .frameLookup 0 [(1, 2 ^ 18)], .frameAdmit 0 1025 0,
     .poolAccessDone 0 [(2 ^ 64, false, .good)] .good, .sqTailDoorbell 0 4096 0 [] [], .sqTailDoorbell 0 0 0 [(2 ^ 64, [1])] [],
     .sqTailDoorbell 0 0 0 [] [2 ^ 52], .cqHeadDoorbell 0 4096 0, .ringEnable 0 4096 0, .ringDisable 0 4096 0,
     .mboxGo 0 0 (zeros 2049) false, .challenge 0 0 [], .getMeasurements 0 0 (some (0, [])), .blotterDumpEnd [65536] [] [],
     .blotterDumpEnd [] [65536] [], .blotterDumpEnd [] [] [65536], .quillMemoryAccess false (2 ^ 48) [] .good false .good,
     .quillMemoryAccess false 0 (zeros 65) .good false .good].all (fun i => !(wellFormed i)) = true := by decide +kernel

/-! ## The spec's worked examples, each by the section that gives it -/

/-- Chapter 03, after R56: SEQ 0 is newer than SEQ 0xFFFFFFFF. -/
theorem test_seq_newer : seqNewer 0 0xFFFFFFFF = true ∧ seqNewer 0xFFFFFFFF 0 = false := by decide

/-- Chapter 03, after R56: bank B active after bank A was rejected, at SERVICE. -/
theorem test_boot_status : ({ up with boot := { activeBank := 1, failCode := 1, done := 0xFFF } } : State).bootStatus = 0x10010FFF := by decide

/-- Chapter 04, after R74: LINK_START 0xF111 and 0x1111 in circuit mode, with MIN_LANES 1. -/
theorem test_link_start :
    fibreCfgValid (2 ^ 52 + 2 ^ 48 + 0xF111) = true ∧ fibreCfgValid (2 ^ 52 + 2 ^ 48 + 0x1111) = false ∧
    startSlots 0xF111 = [0, 4, 8, 12, 13, 14, 15] := by decide +kernel

/-- Chapter 05, after R92: the pilot words of channel 5 and of the margin channel. -/
theorem test_pilot_words : pilotWord 5 = 0xD29A ∧ pilotWord 16 = 0xD80F ∧ pilotIndex 0xD29A = some 5 := by decide

/-- Chapter 07, after R144: a REDUCE_DATA header. -/
theorem test_vft_header :
    (vftHeader false 1 (0x0123 * 256 + 7) 1 3 4096 0xA10 0x5000 8192 0).take 20 =
      [0x10, 0x01, 0x01, 0x23, 0x07, 0x43, 0x10, 0x00, 0x00, 0x00, 0x0A, 0x10, 0x00, 0x00, 0x50, 0x00, 0x00, 0x00, 0x20, 0x00] := by
  decide +kernel

/-- Chapter 08, after R170: 10.32.0.0/11 with next hop 5 and 10.40.16.0/20 with next hop 9. -/
def trie : Except TableErr State :=
  match up.addPrefix { v6 := false, len := 11, addr := 0x0A200000 / 2 ^ 21, hop := 5 } with
  | .ok s => s.addPrefix { v6 := false, len := 20, addr := 0x0A281000 / 2 ^ 12, hop := 9 }
  | .error e => .error e
theorem test_prefix_lookup :
    (match trie with
      | .ok s => [s.lookupTrie 0 false 0x0A281407, s.lookupTrie 0 false 0x0A28C801, s.lookupTrie 0 false 0x0A291407, s.lookupTrie 0 false 0]
      | .error _ => []) = [some 9, some 5, some 5, none] := by decide +kernel

/-- Chapter 10, after R204: the slot record's value; after R220: INC of a rate. -/
theorem test_slot_record :
    slotOf (leAt [0x00, 0x03, 0xD6, 0x07, 0xC8, 0x00, 0x08, 0x00] 0 8) =
      { offset := 128, run := 200, planes := 0x1F, src := 88, dst := 12, reserved := 0 } ∧
    bucketInc 1000000 = 175921860 := by decide

/-- Chapter 11, after R237: 2^30 + 1 − 2^30 + 2^−80, exactly, is 1 in binary32; plain binary32 additions in this order give 2^−80. -/
def terms : List Sys2Proof.Machine.Num := [0x4E800000, 0x3F800000, 0xCE800000, 0x17800000].map (decodeOne 1)
theorem test_exact_sum :
    (terms.foldl Acc.addExact {}).value.patB32 = 0x3F800000 ∧ (terms.reverse.foldl Acc.addExact {}).value.patB32 = 0x3F800000 ∧
    (terms.foldl Acc.addFast {}).fast = some 0x17800000 := by decide +kernel

/-- Chapter 11, after R238: 1 + 2^−9 to BF16 with two dithers. -/
theorem test_dithered :
    (encodeOne 3 false (some 0xD0000000) (.fin false 513 (-9))).pat = 0x3F81 ∧
    (encodeOne 3 false (some 0x80000000) (.fin false 513 (-9))).pat = 0x3F80 := by decide +kernel

/-- Chapter 15, after R333: the map with a pool of 384 GiB. -/
theorem test_memory_map :
    let s : State := { up with mem := { up.mem with poolGib := 384 } }
    s.poolBase = 0x2000000000 ∧ s.quillRegion false = (0x200000000, 60 * gib) ∧
    s.quillRegion true = (0x1100000000, 60 * gib) ∧ lpdPackage 0x2000103140 = 3 := by decide +kernel

/-- Chapter 17, after R377: the cell time of an instant. -/
theorem test_cell_time : cellOf 1700000000 256000000 = 166015625025000000 := by decide +kernel

/-- Chapter 18, after R407: a flag set twice and cleared in between; then cleared again. -/
theorem test_flag :
    let s := (((up.setFlag 0x646C 4).clearFlags 0x646C 0x10).setFlag 0x646C 4)
    s.flag 0x646C 4 = true ∧ (s.flagObj 0x646C).counts.get 0 4 = 2 ∧ (s.clearFlags 0x646C 0x10).flag 0x646C 4 = false := by decide +kernel

/-- Chapter 20, after R469: the score of a Nib that failed one Proof, and had a transient fault seven days later. -/
theorem test_health : UnitEntry.score { wT := 256, wF := 122 } = 73 := by decide

/-! ## One step -/

def after (c : Instr) (s : State) : State :=
  match exec c s with
  | .next t => t
  | _ => State.reset

/-- R365: a tick of TIME_CLK adds INC to the time: 1.25 ns. -/
theorem test_tick : (match step up with | .next t => (t.now, t.time.ns, t.time.frac) | _ => (0, 0, 0)) = (1250, 1, 2 ^ 30) := by decide +kernel

/-- R34, R36: an undervoltage turns the module off with LAST_OFF_CAUSE 2, after ABORT on each of 64 fibres. -/
theorem test_undervoltage : (after .vinUndervoltage up).powered = false ∧ (after .vinUndervoltage up).power.lastOff = 2 ∧
    (after .vinUndervoltage up).out.length = 64 := by decide +kernel

/-- R374, R78: a window's codewords corrected and lost, and its bit errors, count at the lane's port, 18. -/
theorem test_fec_counts : (List.range 4).map (fun k => (after (.berWindowEnd 1 2 932 5 3 1) up).counter 0x7C12 (9 + k)) = [0, 3, 1, 5] := by
  decide +kernel

/-- R335, R337, R68: a byte of LPDDR6 outlasts a warm start from service. -/
theorem test_memory_warm :
    (after .warmRstAssert { up with mem := up.mem.writeLpd 5 [7] }).mem.byte 5 = 7 ∧
    (after .warmRstAssert { up with mem := up.mem.writeLpd 5 [7] }).mem.byte 6 = 0 := by decide +kernel

/-- R393, R397: IDENTITY:01 answers 0x1024 in network byte order, behind a header of 20 bytes. -/
theorem test_read_identity :
    (after (.dopRead q0 0x1000 1) up).out.map (fun o => match o with | .dop _ b => b.drop (b.length - 2) | _ => []) = [[0x10, 0x24]] := by
  decide +kernel

/-- R353, R358: a NOP descriptor issues, and completes with its IRQ. -/
theorem test_nop : ((after (.nop 0) (ringSt [(0, 1), (1, 2)])).ring 0).sqHead = 1 ∧
    ((after (.nop 0) (ringSt [(0, 1), (1, 2)])).ring 0).entries = [(0, true)] := by decide +kernel

/-- The model's decoder: the table gives no row any bits, so no word spells a command. -/
theorem test_no_words (n w : Nat) : decodeTableWord n w = none := rfl

/-! ## The hypotheses of the statements -/

theorem test_meets_EmptyQueueTicks :
    (∃ (s : State), s.pending = []) :=
  ⟨State.reset, by decide +kernel⟩

theorem test_meets_EveryStepKeepsGood :
    (∃ (s t : State), s.Good ∧ step s = .next t) :=
  ⟨State.reset, _, ⟨rfl, by decide, by decide, by decide, by decide⟩, rfl⟩

theorem test_meets_CommandsKeepQueueAndOutputs :
    (∃ (c : Instr) (s t : State), exec c s = .next t) :=
  ⟨.enRise, State.reset, _, rfl⟩

theorem test_meets_WideRegisterReads :
    (∃ (s : State) (f : Fin 130) (o : BitVec 20) (v : Nat), s.fnPresent f = true ∧ barHas f o.toNat true = true ∧ s.barReg64 f o.toNat = some v) ∧
    (∃ (s : State) (f : Fin 130) (o : BitVec 20) (v : Nat), s.fnPresent f = true ∧ barHas f o.toNat false = true ∧ s.barReg64 f o.toNat = some v) ∧
    (∃ (s : State) (f : Fin 130) (o h : BitVec 20) (v x : Nat), h.toNat = o.toNat + 4 ∧ s.fnPresent f = true ∧ barHas f h.toNat false = true ∧
      s.barReg64 f o.toNat = some v ∧ s.latched (fnSrc f) h.toNat = some x) ∧
    (∃ (s : State) (f : Fin 130) (o h : BitVec 20) (v : Nat), h.toNat = o.toNat + 4 ∧ s.fnPresent f = true ∧ barHas f h.toNat false = true ∧
      s.barReg64 f o.toNat = some v ∧ s.latched (fnSrc f) h.toNat = none) :=
  ⟨⟨up, 128, 0x8000, 0, by decide +kernel⟩,
   ⟨up, 128, 0x8008, 0, by decide +kernel⟩,
   ⟨{ up with codex := { latches := [(.quill false, 0x8004, 7)] } }, 128, 0x8000, 0x8004, 0, 7, by decide +kernel⟩,
   ⟨up, 0, 0x4000, 0x4004, 0, by decide +kernel⟩⟩

theorem test_meets_WindowTranslation :
    (∃ (s : State) (j a k : Nat) (w : Window), s.hitWindow j a = some (k, w)) ∧
    (∃ (s : State) (j a : Nat) (x : Nat × Window), x ∈ s.jobWindows j ∧ x.2.base ≤ a ∧ a < x.2.base + 4096 * x.2.pages) ∧
    (∃ (s : State) (r : LigReq) (k : Nat) (w : Window), s.hitWindow r.job r.addr = some (k, w)) ∧
    (∃ (s : State) (j typ a size op k : Nat) (w : Window), s.hitWindow j a = some (k, w) ∧ s.ligCheck j typ a size op = 0 ∧ w.base % 4096 = 0) :=
  ⟨⟨win, 0, 8191, 0, recWindow winRec 0, by decide +kernel⟩,
   ⟨win, 0, 4096, (0, recWindow winRec 0), by decide +kernel⟩,
   ⟨win, ligReq 4096, 0, recWindow winRec 0, by decide +kernel⟩,
   ⟨win, 0, 0x10, 4096, 12, 0, 0, recWindow winRec 0, by decide +kernel⟩⟩

theorem test_meets_FencedDescriptors :
    (∃ (s u : State) (g : Fin 4096) (b : List Byte), (s.ring g).mayIssue = true ∧
      s.dmaRead (s.ringDomain g) ((s.ring g).descBase + 64 * (s.ring g).sqHead) 64 = (some b, u) ∧ bit (byteAt b 1) 0 = true ∧ (s.ring g).out_ ≠ []) ∧
    (∃ (s t : State) (g : Fin 4096) (b : List Byte) (d : Desc) (op : Nat), RingIssues s g op b d t ∧ bit (byteAt b 1) 0 = true) ∧
    (∃ (s : State) (g h : Nat) (l : List Desc), h ≠ g) :=
  ⟨⟨ringOut, headRead ringOut 0, 0, readBytes [(0, 1), (1, 1)] 0 64, by decide +kernel⟩,
   ⟨ringSt [(0, 1), (1, 1)], _, 0, readBytes [(0, 1), (1, 1)] 0 64, _, 1, seesRing (by decide +kernel), by decide +kernel⟩,
   ⟨up, 0, 1, [], by decide +kernel⟩⟩

theorem test_meets_NibScalarFrame :
    (∃ (s t u : State) (n : Fin 32) (c : Fin 64) (op w : Nat) (k : Ctx) (i : Instr), NibIssues s n c op w t k ∧ (i, op) ∈ [(.jump n c, 0x02),
      (.bz n c, 0x03), (.bnz n c, 0x04), (.loop n c, 0x05), (.movi n c, 0x08), (.add n c, 0x09), (.sub n c, 0x0A), (.mul n c, 0x0B), (.shift n c,
        0x0C)] ∧ exec i s = .next u) :=
  ⟨prog 0x02 0, _, _, 0, 0, 0x02, _, _, .jump 0 0, seesNib (k0 := ctx0) (k := ctx1) rfl (by decide +kernel) (by decide +kernel),
    by decide +kernel, rfl⟩

theorem test_meets_QuillStores :
    (∃ (s : State) (p : Bool) (a : Nat) (l : List Byte), s.boot.done.getLsbD 7 = true ∧ l ≠ [] ∧ (s.quillRegion p).1 ≤ a ∧
      a + l.length ≤ (s.quillRegion p).1 + (s.quillRegion p).2 ∧ s.lpdPresent a l.length = true ∧ s.mem.zeroDone = true) :=
  ⟨up, false, 8 * gib, [1], by decide +kernel⟩

theorem test_meets_FlagsAndCounters :
    (∃ (s : State) (i b : Nat), b < 32) ∧
    (∃ (s : State) (i b j c : Nat), b < 32 ∧ ((j ≠ i ∨ c ≠ b))) ∧
    (∃ (s : State) (i : Nat) (v : Word32) (j c : Nat), c < 32) ∧
    (∃ (s : State) (i k n j m : Nat), k < 256 ∧ m < 256) :=
  ⟨⟨up, 0x6001, 31, by decide +kernel⟩,
   ⟨up, 0x6001, 31, 0x6001, 30, by decide +kernel⟩,
   ⟨up, 0x6001, 1, 0x6001, 31, by decide +kernel⟩,
   ⟨up, 0x7000, 255, 1, 0x7000, 0, by decide +kernel⟩⟩

theorem test_meets_PowerInputEvents :
    (∃ (s : State), s.power.en = false) ∧
    (∃ (s : State) (env : ShutdownEnv), s.power.en = true ∧ s.powered = false) ∧
    (∃ (s : State) (env : ShutdownEnv), s.power.en = true ∧ s.powered = true ∧ s.power.vioLock = true) ∧
    (∃ (s : State) (env : ShutdownEnv), s.powered = false) ∧
    (∃ (s : State), s.powered = true) ∧
    (∃ (s : State), s.boot.phase ≠ .off) ∧
    (∃ (s : State), s.powered = true ∧ s.boot.phase ≠ .off) ∧
    (∃ (s : State), s.power.limiting = true) ∧
    (∃ (s : State) (x : Sensor), s.powered = true) :=
  ⟨⟨State.reset, by decide +kernel⟩,
   ⟨{ State.reset with power := { en := true } }, {}, by decide +kernel⟩,
   ⟨{ up with power := { up.power with vioLock := true } }, {}, by decide +kernel⟩,
   ⟨State.reset, {}, by decide +kernel⟩,
   ⟨up, by decide +kernel⟩,
   ⟨up, by decide +kernel⟩,
   ⟨up, by decide +kernel⟩,
   ⟨{ up with power := { up.power with limiting := true } }, by decide +kernel⟩,
   ⟨up, .hatch, by decide +kernel⟩⟩

theorem test_meets_OrderlyShutdownCauses :
    (∃ (s : State) (env : ShutdownEnv), s.power.en = true ∧ s.powered = true ∧ s.power.vioLock = false) ∧
    (∃ (s : State) (env : ShutdownEnv), s.powered = true) ∧
    (∃ (s : State) (env : ShutdownEnv), s.powered = true ∧ env.warnHigh = false) :=
  ⟨⟨up, {}, by decide +kernel⟩,
   ⟨up, {}, by decide +kernel⟩,
   ⟨up, {}, by decide +kernel⟩⟩

theorem test_meets_PowerRestartsAndRails :
    (∃ (s : State), ((s.power.lastOff = 2 ∨ s.power.lastOff = 3 ∨ s.power.lastOff = 7)) ∧
      (s.modPower (fun p => { p with vinOk := true })).startAllowed = true) ∧
    (∃ (s : State), s.power.lastOff = 6 ∧ (s.modPower (fun p => { p with vinOk := true, holdupWarn := false })).startAllowed = true) ∧
    (∃ (s : State), s.power.vio18 = true) ∧
    (∃ (s : State), s.running = true) ∧
    (∃ (s : State), s.power.pwrOk = true ∧ s.boot.phase = .cold 4) ∧
    (∃ (s : State), s.power.sysclk = false ∧ s.power.clockHold = true ∧ s.power.vioLock = false ∧ s.power.en = true ∧ s.power.vinOk = true ∧
      s.power.tripped = false ∧ s.power.railLock = false ∧ s.power.ilimitLock = false ∧ s.power.secHold = false ∧ s.boot.phase = .off) ∧
    (∃ (s : State), s.power.ramping = true ∧ s.power.groups < 3) ∧
    (∃ (s : State), s.power.ramping = true ∧ 3 ≤ s.power.groups) ∧
    (∃ (s : State), s.power.ramping = true) ∧
    (∃ (s : State), s.power.railRetry = true ∧ s.startAllowed = true) :=
  ⟨⟨{ State.reset with power := { en := true, lastOff := 7 } }, by decide +kernel⟩,
   ⟨{ State.reset with power := { en := true, lastOff := 6 } }, by decide +kernel⟩,
   ⟨up, by decide +kernel⟩,
   ⟨up, by decide +kernel⟩,
   ⟨{ up with boot := { phase := .cold 4 } }, by decide +kernel⟩,
   ⟨{ State.reset with power := { en := true, vinOk := true, sysclk := false, clockHold := true, lastOff := 5 } }, by decide +kernel⟩,
   ⟨{ State.reset with power := { ramping := true, groups := 2 } }, by decide +kernel⟩,
   ⟨{ State.reset with power := { ramping := true, groups := 3 } }, by decide +kernel⟩,
   ⟨{ State.reset with power := { ramping := true } }, by decide +kernel⟩,
   ⟨{ State.reset with power := { en := true, vinOk := true, railRetry := true } }, by decide +kernel⟩⟩

theorem test_meets_ThrottleAndSensors :
    (∃ (s : State) (w : Nat), s.boot.done.getLsbD 2 = true ∧ s.power.limitNow < w) ∧
    (∃ (s : State) (w : Nat), s.boot.done.getLsbD 2 = true ∧ w ≤ s.power.limitNow) ∧
    (∃ (s : State) (c : ThrottleCause), s.boot.done.getLsbD 2 = true ∧ (causeKeys c).any (fun k => 2 ≤ s.heatOf k) = true) ∧
    (∃ (s : State) (w : Nat), s.boot.done.getLsbD 2 = true ∧ w * 100 < s.power.limitNow * 95) ∧
    (∃ (s : State) (c : ThrottleCause), s.boot.done.getLsbD 2 = true ∧ (∀ w, c ≠ .power w) ∧ (causeKeys c).any (fun k => 2 ≤ s.heatOf k) = false) ∧
    (∃ (s : State), s.boot.phase ≠ .off) ∧
    (∃ (s : State) (e : Fin 16), s.boot.phase ≠ .off) ∧
    (∃ (s : State) (x : Sensor), s.boot.phase ≠ .off ∧ (∀ e, x ≠ .photonic e)) ∧
    (∃ (s : State) (x : Sensor), s.boot.phase ≠ .off) ∧
    (∃ (s : State) (x : Sensor) (c : ThrottleCause), s.boot.phase ≠ .off ∧ s.boot.done.getLsbD 2 = true ∧ sensorCause x = some c ∧
      (causeKeys c).any (fun k => 2 ≤ s.heatOf k) = false) ∧
    (∃ (s : State) (x : Sensor) (c : ThrottleCause), s.boot.phase ≠ .off ∧ sensorCause x = some c ∧
      (causeKeys c).any (fun k => 2 ≤ s.heatOf k) = true) ∧
    (∃ (s : State), s.boot.phase ≠ .off ∧ s.boot.done.getLsbD 2 = true) :=
  ⟨⟨up, 2101, by decide +kernel⟩,
   ⟨up, 2100, by decide +kernel⟩,
   ⟨{ up with power := { up.power with heat := [(37, 2)] } }, .lpddr, by decide +kernel⟩,
   ⟨up, 1994, by decide +kernel⟩,
   ⟨up, .inkwell, by decide +kernel, (by intro w h; cases h), by decide +kernel⟩,
   ⟨up, by decide +kernel⟩,
   ⟨up, 15, by decide +kernel⟩,
   ⟨up, .core, by decide +kernel⟩,
   ⟨up, .hatch, by decide +kernel⟩,
   ⟨up, .inkwell 3, .inkwell, by decide +kernel⟩,
   ⟨{ up with power := { up.power with heat := [(18, 2)] } }, .inkwell 3, .inkwell, by decide +kernel⟩,
   ⟨up, by decide +kernel⟩⟩

theorem test_meets_ColdStartToConfiguration :
    (∃ (s : State) (x : Straps), s.boot.phase = .cold 4 ∧ s.power.pwrOk = true ∧ s.power.sysclk = true ∧ x.testMode = false) ∧
    (∃ (s : State) (x : Straps), s.boot.phase = .cold 4 ∧ s.power.pwrOk = true ∧ s.power.sysclk = true ∧ x.testMode = true) ∧
    (∃ (s : State), s.boot.done.getLsbD 0 = true ∧ s.boot.done.getLsbD 1 = false ∧ s.boot.recovery = false) ∧
    (∃ (s : State), s.boot.done.getLsbD 1 = true ∧ s.boot.done.getLsbD 2 = false) ∧
    (∃ (s : State), s.boot.done.getLsbD 2 = true ∧ s.boot.done.getLsbD 3 = false) :=
  ⟨⟨{ up with boot := { phase := .cold 4 } }, {}, by decide +kernel⟩,
   ⟨{ up with boot := { phase := .cold 4 } }, { testMode := true }, by decide +kernel⟩,
   ⟨{ up with boot := { done := 1 } }, by decide +kernel⟩,
   ⟨{ up with boot := { done := 3 } }, by decide +kernel⟩,
   ⟨{ up with boot := { done := 7 } }, by decide +kernel⟩⟩

theorem test_meets_ColdStartToService :
    (∃ (s : State), s.coldFrom 9 = true ∧ s.boot.sram = false) ∧
    (∃ (s : State) (failed : BitVec 16), s.coldFrom 9 = true ∧ s.boot.done.getLsbD 5 = false) ∧
    (∃ (s : State) (failed : BitVec 4), s.coldFrom 9 = true ∧ s.boot.done.getLsbD 6 = false) ∧
    (∃ (s : State), s.coldFrom 9 = true ∧ s.boot.done.getLsbD 5 = true ∧ s.boot.done.getLsbD 7 = false) ∧
    (∃ (s : State), s.coldFrom 9 = true ∧ s.boot.photonic = false ∧ dataPayload s.flash 5 = none) ∧
    (∃ (s : State) (b : List Byte), s.coldFrom 9 = true ∧ s.boot.photonic = false ∧ dataPayload s.flash 5 = some b) ∧
    (∃ (s : State), s.coldFrom 9 = true ∧ s.boot.photonic = true ∧ s.boot.comb = false) ∧
    (∃ (s : State), s.boot.comb = true ∧ s.boot.done.getLsbD 8 = false ∧ s.boot.warm = true) ∧
    (∃ (s : State), s.boot.comb = true ∧ s.boot.done.getLsbD 8 = false ∧ s.boot.warm = false) ∧
    (∃ (s : State), s.boot.done.getLsbD 8 = true ∧ s.boot.done.getLsbD 9 = false) ∧
    (∃ (s : State), ((s.boot.done.getLsbD 4 = true ∨ s.boot.straps.hostcfg = 0)) ∧ s.boot.done.getLsbD 5 = true ∧ s.boot.done.getLsbD 6 = true ∧
      s.boot.done.getLsbD 9 = true ∧ s.boot.done.getLsbD 10 = true ∧ s.boot.done.getLsbD 11 = false) :=
  ⟨⟨{ up with boot := { phase := .cold 9 } }, by decide +kernel⟩,
   ⟨{ up with boot := { phase := .cold 9 } }, 0, by decide +kernel⟩,
   ⟨{ up with boot := { phase := .cold 9 } }, 0xF, by decide +kernel⟩,
   ⟨{ up with boot := { phase := .cold 10, done := 0x20 } }, by decide +kernel⟩,
   ⟨{ up with boot := { phase := .cold 9 } }, by decide +kernel⟩,
   ⟨{ up with boot := { phase := .cold 9 }, flash := { a := flashOf 0x02100000 5 } }, [1], by decide +kernel⟩,
   ⟨{ up with boot := { phase := .cold 9, photonic := true } }, by decide +kernel⟩,
   ⟨{ up with boot := { comb := true, warm := true } }, by decide +kernel⟩,
   ⟨{ up with boot := { comb := true } }, by decide +kernel⟩,
   ⟨{ up with boot := { done := 0x100 } }, by decide +kernel⟩,
   ⟨{ up with boot := { done := 0x7FF } }, by decide +kernel⟩⟩

theorem test_meets_HostReadinessAndWarmReset :
    (∃ (s : State) (b : Bool) (speed : Fin 7) (width : Fin 17), s.attached b = true ∧ (s.port b).perst = false ∧ (s.port b).held = false ∧
      (s.port b).training = true ∧ (s.port b).up = false) ∧
    (∃ (s : State) (b : Bool) (speed : Fin 7) (width : Fin 17) (en : Bool) (n : Fin 64), s.attached b = true ∧ (s.port b).perst = false ∧
      (s.port b).held = false ∧ (s.port b).up = true ∧ (s.port b).filled = true ∧ (s.port b).vfEnable = false) ∧
    (∃ (s : State) (b : Bool), s.attached b = true ∧ s.boot.done.getLsbD 0 = true) ∧
    (∃ (s : State) (b : Bool), ((s.attached b = false ∨ s.boot.done.getLsbD 0 = false))) ∧
    (∃ (s : State), s.boot.phase = .off) ∧
    (∃ (s : State) (k : Nat), s.boot.phase = .cold k ∧ s.boot.sram = true ∧ s.commitNoticed = false) ∧
    (∃ (s : State), s.boot.phase = .warm 4 ∧ s.boot.warmLow = false) ∧
    (∃ (s : State) (l : BitVec 16) (k : BitVec 4), s.warmFrom 6 = true ∧ s.boot.sram = false) ∧
    (∃ (s : State), s.warmFrom 7 = true ∧ s.boot.done.getLsbD 7 = false) :=
  ⟨⟨{ up with host := { portA := { perst := false, training := true } } }, false, 6, 16, by decide +kernel⟩,
   ⟨up, true, 6, 16, true, 63, by decide +kernel⟩,
   ⟨up, true, by decide +kernel⟩,
   ⟨{ up with boot := { straps := { hostcfg := 1 } } }, false, by decide +kernel⟩,
   ⟨State.reset, by decide +kernel⟩,
   ⟨up, 14, by decide +kernel⟩,
   ⟨{ up with boot := { phase := .warm 4 } }, by decide +kernel⟩,
   ⟨{ up with boot := { phase := .warm 6 } }, 0xFFFF, 0, by decide +kernel⟩,
   ⟨{ up with boot := { phase := .warm 7 } }, by decide +kernel⟩⟩

theorem test_meets_LaneTraining :
    (∃ (s : State) (f : Fin 64), s.boot.photonic = true ∧ (s.fibre f).marginState = .dark ∧ (s.fibre f).holdAll ≠ .unit) ∧
    (∃ (s : State) (f : Fin 64), (s.fibre f).marginState ≠ .dark) ∧
    (∃ (s : State) (f : Fin 64) (w : Fin 16), (s.lane f w).state = .align) ∧
    (∃ (s : State) (f : Fin 64) (w : Fin 16) (second : Bool), (s.lane f w).state = .soak) ∧
    (∃ (s : State) (f : Fin 64) (w : Fin 16), (s.lane f w).state = .soak ∧ (s.fibre f).marginState = .up) ∧
    (∃ (s : State) (f : Fin 64) (w : Fin 16), (s.lane f w).state = .soak) ∧
    (∃ (s : State) (f : Fin 64) (w : Fin 16), (s.lane f w).state = .held ∧ (s.lane f w).hold = .flap ∧ (s.lane f w).own = [.flap] ∧
      (s.fibre f).holdAll = .none) ∧
    (∃ (s : State) (p : Fin 1024), (s.link p).state = .training) ∧
    (∃ (s : State) (f : Fin 64), (s.fibre f).marginState ≠ .up ∧ s.faultsHeld f = false) :=
  ⟨⟨up, 63, by decide +kernel⟩,
   ⟨fib { marginState := .acquire }, 0, by decide +kernel⟩,
   ⟨laneIs { state := .align } .up, 0, 0, by decide +kernel⟩,
   ⟨laneIs { state := .soak } .dark, 0, 0, true, by decide +kernel⟩,
   ⟨laneIs { state := .soak } .up, 0, 0, by decide +kernel⟩,
   ⟨laneIs { state := .soak } .dark, 0, 0, by decide +kernel⟩,
   ⟨laneIs { state := .held, hold := .flap, own := [.flap] } .up, 0, 0, by decide +kernel⟩,
   ⟨linkIs { state := .training }, 0, by decide +kernel⟩,
   ⟨up, 0, by decide +kernel⟩⟩

theorem test_meets_LaneFaultsAndWindows :
    (∃ (s : State) (f : Fin 64) (w : Fin 16) (c : LaneFault), s.faultsHeld f = false ∧ ((∀ n, c = .ucw n → s.param 0x2180 3 ≤ n))) ∧
    (∃ (s : State) (f : Fin 64) (w : Fin 16) (n : Nat), n < s.param 0x2180 3) ∧
    (∃ (s : State) (f : Fin 64) (w : Fin 16) (c : LaneFault), s.faultsHeld f = true) ∧
    (∃ (s : State) (f : Fin 64) (w : Fin 16) (ber e c l : Nat), (s.lane f w).state ≠ .inn) ∧
    (∃ (s : State) (f : Fin 64) (w : Fin 16) (ber e c l : Nat), (s.lane f w).state = .inn ∧ (s.fibre f).trial = none ∧ s.faultsHeld f = false ∧
      s.param 0x2180 1 ≤ berValue ber ∧ s.param 0x2180 2 ≤ berValue ber) ∧
    (∃ (s : State) (f : Fin 64) (w : Fin 16) (ber e c l : Nat), (s.lane f w).state = .inn ∧ (s.fibre f).trial = none ∧ s.faultsHeld f = false ∧
      s.param 0x2180 1 ≤ berValue ber ∧ berValue ber < s.param 0x2180 2) ∧
    (∃ (s : State) (f : Fin 64) (w : Fin 16) (ber e c l : Nat), (s.lane f w).state = .inn ∧ (s.fibre f).trial = none ∧ s.faultsHeld f = false ∧
      berValue ber < s.param 0x2180 1) :=
  ⟨⟨laneIs { state := .inn } .dark, 0, 0, .ucw 4294967295, by decide +kernel, (by intro n h; cases h; decide +kernel)⟩,
   ⟨up, 0, 0, 0, by decide +kernel⟩,
   ⟨fib { suspended := true }, 0, 0, .ber, by decide +kernel⟩,
   ⟨up, 0, 15, 932, 5, 6, 7, by decide +kernel⟩,
   ⟨laneIs { state := .inn } .up, 0, 0, 65535, 5, 6, 7, by decide +kernel⟩,
   ⟨{ laneIs { state := .inn } .up with params := [(objKey 0x2180 1, 0)] }, 0, 0, 0, 5, 6, 7, by decide +kernel⟩,
   ⟨laneIs { state := .inn } .up, 0, 0, 0, 5, 6, 7, by decide +kernel⟩⟩

theorem test_meets_RingControl :
    (∃ (s : State) (f : Fin 64) (w : Fin 17) (ring : Ring) (d : Int), s.boot.photonic = true ∧ hasRing w ring = true ∧ s.ringHeld f ring = false ∧
      0 ≤ d ∧ d ≤ 30000) ∧
    (∃ (s : State) (f : Fin 64) (w : Fin 17) (ring : Ring) (d : Int), s.boot.photonic = true ∧ hasRing w ring = true ∧ s.ringHeld f ring = false ∧
      30000 < d) ∧
    (∃ (s : State) (f : Fin 64) (w : Fin 17) (ring : Ring) (d : Int), s.boot.photonic = true ∧ hasRing w ring = true ∧ s.ringHeld f ring = false ∧
      d < 0) ∧
    (∃ (s : State) (f : Fin 64) (w : Fin 17) (ring : Ring), hasRing w ring = true) ∧
    (∃ (s : State) (f : Fin 64) (w : Fin 17), hasRing w .addDrop = true) ∧
    (∃ (s : State) (f : Fin 64) (w : Fin 17) (ring : Ring), ring ≠ .addDrop ∧ w.val < 16) ∧
    (∃ (s : State) (f : Fin 64) (w : Fin 16) (ring : Ring), s.param 0x2190 1 ≠ 0 ∧ (s.lane f w).state = .inn ∧
      s.param 0x2180 1 + s.param 0x2190 3 ≤ (s.lane f w).ber ∧ (s.fibre f).trial = none ∧ (s.engine (f / 4)).hot = false ∧ ring ≠ .addDrop ∧
        (s.fibre f).suspended = false ∧ s.ringHeld f ring = false) ∧
    (∃ (s : State) (f : Fin 64) (n : Nat) (x : Trial), (s.fibre f).trial = some x ∧ s.trialHeld f = false) ∧
    (∃ (s : State) (f : Fin 64) (x : Trial), (s.fibre f).trial = some x ∧ s.trialHeld f = false ∧ x.second = true) ∧
    (∃ (s : State) (f : Fin 64) (x : Trial), (s.fibre f).trial = some x ∧ s.trialHeld f = false ∧ x.second = false) :=
  ⟨⟨up, 0, 16, .drop, 30000, by decide +kernel⟩,
   ⟨up, 0, 16, .drop, 30001, by decide +kernel⟩,
   ⟨up, 0, 16, .drop, -1, by decide +kernel⟩,
   ⟨up, 0, 15, .addDrop, by decide +kernel⟩,
   ⟨up, 0, 12, by decide +kernel⟩,
   ⟨up, 0, 15, .modulator, by decide +kernel⟩,
   ⟨{ laneIs { state := .inn } .up with params := [(objKey 0x2190 1, 1)] }, 0, 0, .drop, by decide +kernel⟩,
   ⟨fib { trial := some { lane := 0, ring := .drop, saved := 0 } }, 0, 0, { lane := 0, ring := .drop, saved := 0 }, by decide +kernel⟩,
   ⟨fib { trial := some { lane := 0, ring := .drop, saved := 0, second := true } }, 0, { lane := 0, ring := .drop, saved := 0, second := true },
     by decide +kernel⟩,
   ⟨fib { trial := some { lane := 0, ring := .drop, saved := 0 } }, 0, { lane := 0, ring := .drop, saved := 0 }, by decide +kernel⟩⟩

theorem test_meets_PilotWords :
    (∃ (s : State) (f : Fin 64) (w : Fin 17) (word : BitVec 16), (s.lane f w).state = .lock ∧ (s.lane f w).drop.locked = true ∧
      pilotIndex word = some w.val ∧ 2 ≤ (s.lane f w).pilotGood) ∧
    (∃ (s : State) (f : Fin 64) (w : Fin 17) (word : BitVec 16), (s.lane f w).state = .lock ∧ (s.lane f w).drop.locked = true ∧
      pilotIndex word = some w.val ∧ (s.lane f w).pilotGood < 2) ∧
    (∃ (s : State) (f : Fin 64) (w : Fin 17) (word : BitVec 16) (i : Nat), (s.lane f w).state = .lock ∧ (s.lane f w).drop.locked = true ∧
      pilotIndex word = some i ∧ i ≠ w.val) ∧
    (∃ (s : State) (f : Fin 64) (w : Fin 17) (word : BitVec 16) (i : Nat), (s.lane f w).state = .inn ∧ pilotIndex word = some i ∧ i ≠ w.val ∧
      (s.lane f w).pilotBad = 0) ∧
    (∃ (s : State) (f : Fin 64) (w : Fin 17) (word : BitVec 16) (i : Nat), (s.lane f w).state = .inn ∧ pilotIndex word = some i ∧ i ≠ w.val ∧
      1 ≤ (s.lane f w).pilotBad) ∧
    (∃ (s : State) (f : Fin 64) (w : Fin 17), (s.lane f w).state = .lock) ∧
    (∃ (s : State) (f : Fin 64) (w : Fin 17), (s.lane f w).state = .held ∧ (s.lane f w).hold = .pilot ∧ (s.lane f w).own = [.pilot] ∧
      ((w.val = 16 ∨ (s.fibre f).holdAll = .none))) ∧
    (∃ (s : State) (f : Fin 64) (w : Fin 17), (s.lane f w).state = .inn) :=
  ⟨⟨laneIs { state := .lock, drop := { locked := true }, pilotGood := 2 } .up, 0, 0, BitVec.ofNat 16 (pilotWord 0), by decide +kernel⟩,
   ⟨laneIs { state := .lock, drop := { locked := true }, pilotGood := 1 } .up, 0, 0, BitVec.ofNat 16 (pilotWord 0), by decide +kernel⟩,
   ⟨laneIs { state := .lock, drop := { locked := true } } .up, 0, 0, BitVec.ofNat 16 (pilotWord 16), 16, by decide +kernel⟩,
   ⟨laneIs { state := .inn } .up, 0, 0, BitVec.ofNat 16 (pilotWord 1), 1, by decide +kernel⟩,
   ⟨laneIs { state := .inn, pilotBad := 1 } .up, 0, 0, BitVec.ofNat 16 (pilotWord 1), 1, by decide +kernel⟩,
   ⟨laneIs { state := .lock } .up, 0, 0, by decide +kernel⟩,
   ⟨laneIs { state := .held, hold := .pilot, own := [.pilot] } .up, 0, 0, by decide +kernel⟩,
   ⟨laneIs { state := .inn } .up, 0, 0, by decide +kernel⟩⟩

theorem test_meets_LaserSources :
    (∃ (s : State) (f : Fin 64) (w : Fin 17) (x : LineSample), s.feeder f = none) ∧
    (∃ (s : State) (f : Fin 64) (w : Fin 17) (x : LineSample) (src : Nat), s.feeder f = some src ∧ -100 < x.power - (s.lane f w).lineRef) ∧
    (∃ (s : State) (f : Fin 64) (w : Fin 16), (s.lane f w).state = .held ∧ (s.lane f w).hold = .fade ∧ (s.lane f w).own = [.fade] ∧
      (s.fibre f).holdAll = .none ∧ -150 < (s.lane f w).fade) ∧
    (∃ (s : State) (e : Fin 16), (s.source e 4).state = .starting) ∧
    (∃ (s : State) (e : Fin 16), s.param 0x2190 6 = 0 ∧ (s.source e 4).state = .ready ∧ (s.engine e).change = none ∧
      (s.engine e).failedFibre = none ∧ s.linesFresh e = true) ∧
    (∃ (s : State) (e : Fin 16) (c : Changeover) (t : Nat × Nat), (s.engine e).change = some c ∧ c.t = some t ∧ c.noticed = false) ∧
    (∃ (s : State) (e : Fin 16) (c : Changeover), (s.engine e).change = some c ∧ c.noticed = true ∧ c.acked = false ∧ c.open_ = false ∧
      c.abandoned < 3) ∧
    (∃ (s : State) (e : Fin 16) (c : Changeover) (t : Nat × Nat), (s.engine e).change = some c ∧ c.t = some t ∧ s.reached t = true ∧
      c.noticed = true ∧ c.acked = true ∧ c.open_ = false) ∧
    (∃ (s : State) (e : Fin 16) (c : Changeover), (s.engine e).change = some c ∧ c.open_ = true) ∧
    (∃ (s : State) (e : Fin 16) (src : Fin 5), (s.source e src).state = .ready ∧ src.val ≠ 4) ∧
    (∃ (s : State) (e : Fin 16) (src : Fin 5) (i : Nat), (s.source e src).state = .active ∧ (s.source e src).feeds = i ∧ i < 4 ∧ src.val ≠ 4 ∧
      (s.engine e).change = none ∧ (((s.source e 4).state = .active ∨ (s.source e 4).state = .failed ∨ (s.source e 4).state = .retired))) ∧
    (∃ (s : State) (e : Fin 16) (i : Nat), (s.engine e).failedFibre = some i ∧ (s.source e 4).state = .ready) :=
  ⟨⟨up, 63, 16, { power := -3000 }, by decide +kernel⟩,
   ⟨engIs { sources := srcs { state := .active, feeds := 0 } {} }, 0, 0, { power := -99 }, 0, by decide +kernel⟩,
   ⟨laneIs { state := .held, hold := .fade, own := [.fade], fade := -149 } .up, 0, 0, by decide +kernel⟩,
   ⟨engIs { sources := srcs {} { state := .starting } }, 0, by decide +kernel⟩,
   ⟨{ engIs { sources := srcs {} { state := .ready } } with params := [(objKey 0x2190 6, 0)] }, 0, by decide +kernel⟩,
   ⟨engIs { change := some { change0 with t := some (0, 0) } }, 0, { change0 with t := some (0, 0) }, (0, 0), by decide +kernel⟩,
   ⟨engIs { change := some { change0 with noticed := true, abandoned := 2 } }, 0, { change0 with noticed := true, abandoned := 2 },
     by decide +kernel⟩,
   ⟨engIs { change := some change1 }, 0, change1, (0, 0), by decide +kernel⟩,
   ⟨engIs { change := some { change0 with open_ := true } }, 0, { change0 with open_ := true }, by decide +kernel⟩,
   ⟨engIs { sources := [(3, { state := .ready })] }, 0, 3, by decide +kernel⟩,
   ⟨engIs { sources := srcs { state := .active, feeds := 3 } { state := .retired } }, 0, 0, 3, by decide +kernel⟩,
   ⟨engIs { failedFibre := some 3, sources := srcs {} { state := .ready } }, 0, 3, by decide +kernel⟩⟩

theorem test_meets_MarginFramesTaken :
    (∃ (s : State) (f : Fin 64) (b pl : List Byte), s.marginKind f b = .frame 0x01 pl) ∧
    (∃ (s : State) (f : Fin 64) (b pl : List Byte), s.marginKind f b = .frame 0x02 pl) ∧
    (∃ (s : State) (f : Fin 64) (b pl : List Byte), s.marginKind f b = .frame 0x03 pl) ∧
    (∃ (s : State) (f : Fin 64) (b pl : List Byte), s.marginKind f b = .frame 0x04 pl) ∧
    (∃ (s : State) (f : Fin 64) (b pl : List Byte), s.marginKind f b = .frame 0x05 pl) ∧
    (∃ (s : State) (f : Fin 64) (b pl : List Byte), s.marginKind f b = .frame 0x06 pl) ∧
    (∃ (s : State) (f : Fin 64) (b pl : List Byte), s.marginKind f b = .frame 0x07 pl) ∧
    (∃ (s : State) (f : Fin 64) (b pl : List Byte), s.marginKind f b = .frame 0x08 pl) ∧
    (∃ (s : State) (f : Fin 64) (b pl : List Byte), s.marginKind f b = .frame 0x09 pl) ∧
    (∃ (s : State) (f : Fin 64) (b pl : List Byte), s.marginKind f b = .frame 0x0B pl) ∧
    (∃ (s : State) (f : Fin 64) (b pl : List Byte), s.marginKind f b = .frame 0x10 pl) ∧
    (∃ (s : State) (f : Fin 64) (b pl : List Byte), s.marginKind f b = .frame 0x14 pl) ∧
    (∃ (s : State) (f : Fin 64) (b pl : List Byte), s.marginKind f b = .frame 0x15 pl) ∧
    (∃ (s : State) (f : Fin 64) (b pl : List Byte), s.marginKind f b = .frame 0x16 pl) :=
  ⟨⟨lit, 0, mframe 0 1 (zeros 0), zeros 0, by decide +kernel⟩,
   ⟨lit, 0, mframe 0 2 (zeros 40), zeros 40, by decide +kernel⟩,
   ⟨lit, 0, mframe 1 3 (zeros 4), zeros 4, by decide +kernel⟩,
   ⟨lit, 0, mframe 1 4 (zeros 8), zeros 8, by decide +kernel⟩,
   ⟨lit, 0, mframe 1 5 (zeros 8), zeros 8, by decide +kernel⟩,
   ⟨lit, 0, mframe 0 6 (zeros 72), zeros 72, by decide +kernel⟩,
   ⟨lit, 0, mframe 1 7 (zeros 4), zeros 4, by decide +kernel⟩,
   ⟨lit, 0, mframe 1 8 (zeros 16), zeros 16, by decide +kernel⟩,
   ⟨lit, 0, mframe 1 9 (zeros 16), zeros 16, by decide +kernel⟩,
   ⟨lit, 0, mframe 1 0x0B (zeros 16), zeros 16, by decide +kernel⟩,
   ⟨lit, 0, mframe 0 0x10 (zeros 8), zeros 8, by decide +kernel⟩,
   ⟨lit, 0, mframe 1 0x14 (zeros 64), zeros 64, by decide +kernel⟩,
   ⟨lit, 0, mframe 1 0x15 (zeros 1), zeros 1, by decide +kernel⟩,
   ⟨lit, 0, mframe 1 0x16 (zeros 1), zeros 1, by decide +kernel⟩⟩

theorem test_meets_TimeAndJobFramesTaken :
    (∃ (s : State) (f : Fin 64) (b pl : List Byte), s.marginKind f b = .frame 0x11 pl ∧ ptpType pl = 0) ∧
    (∃ (s : State) (f : Fin 64) (b pl : List Byte), s.marginKind f b = .frame 0x11 pl ∧ ptpType pl = 1) ∧
    (∃ (s : State) (f : Fin 64) (b pl : List Byte), s.marginKind f b = .frame 0x11 pl ∧ ptpType pl = 9) ∧
    (∃ (s : State) (f : Fin 64) (b pl : List Byte), s.marginKind f b = .frame 0x11 pl ∧ ptpType pl = 11) ∧
    (∃ (s : State) (f : Fin 64) (b pl : List Byte), s.marginKind f b = .frame 0x12 pl ∧ byteAt pl 0 = 2) ∧
    (∃ (s : State) (f : Fin 64) (b pl : List Byte), s.marginKind f b = .frame 0x12 pl ∧ byteAt pl 0 = 3) ∧
    (∃ (s : State) (f : Fin 64) (b pl : List Byte), s.marginKind f b = .frame 0x12 pl ∧ byteAt pl 0 = 4) ∧
    (∃ (s : State) (f : Fin 64) (b pl : List Byte), s.marginKind f b = .frame 0x12 pl ∧ byteAt pl 0 = 5) ∧
    (∃ (s : State) (f : Fin 64) (b pl : List Byte), s.marginKind f b = .frame 0x12 pl ∧ byteAt pl 0 = 6) ∧
    (∃ (s : State) (f : Fin 64) (b pl : List Byte), s.marginKind f b = .frame 0x12 pl ∧ byteAt pl 0 = 7) :=
  ⟨⟨lit, 0, mframe 0 0x11 [0], [0], by decide +kernel⟩,
   ⟨lit, 0, mframe 0 0x11 [1], [1], by decide +kernel⟩,
   ⟨lit, 0, mframe 0 0x11 [9], [9], by decide +kernel⟩,
   ⟨lit, 0, mframe 0 0x11 [11], [11], by decide +kernel⟩,
   ⟨lit, 0, mframe 1 0x12 [2], [2], by decide +kernel⟩,
   ⟨lit, 0, mframe 1 0x12 [3], [3], by decide +kernel⟩,
   ⟨lit, 0, mframe 1 0x12 [4], [4], by decide +kernel⟩,
   ⟨lit, 0, mframe 1 0x12 [5], [5], by decide +kernel⟩,
   ⟨lit, 0, mframe 1 0x12 [6], [6], by decide +kernel⟩,
   ⟨lit, 0, mframe 1 0x12 [7], [7], by decide +kernel⟩⟩

theorem test_meets_MarginFramesDiscarded :
    (∃ (s : State) (f : Fin 64) (b : List Byte), s.marginKind f b = .badCheck) ∧
    (∃ (s : State) (f : Fin 64) (b : List Byte), s.marginKind f b = .badHeader) ∧
    (∃ (s : State) (f : Fin 64) (b : List Byte), s.marginKind f b = .badType) ∧
    (∃ (s : State) (f : Fin 64) (b : List Byte), s.marginKind f b = .badSeq) ∧
    (∃ (s : State) (f : Fin 64) (b : List Byte) (w : Nat), s.marginKind f b = .relay w) :=
  ⟨⟨lit, 0, [], by decide +kernel⟩,
   ⟨lit, 0, mraw 0x20 1 [], by decide +kernel⟩,
   ⟨lit, 0, mframe 0 0xFF [], by decide +kernel⟩,
   ⟨fib { marginState := .up, margin := { rxSeq := 1 } }, 0, mframe 1 3 (zeros 4), by decide +kernel⟩,
   ⟨lit, 0, mraw 0x17 1 [], 15, by decide +kernel⟩⟩

theorem test_meets_MarginChannelTimers :
    (∃ (s : State) (f : Fin 64), (s.fibre f).marginState = .up ∧ (s.fibre f).margin.stopped = false) ∧
    (∃ (s : State) (f : Fin 64), (s.fibre f).marginState = .up ∧ s.timersPaused f = false) ∧
    (∃ (s : State) (f : Fin 64), s.timersPaused f = true) ∧
    (∃ (s : State) (f : Fin 64), (s.fibre f).marginState ≠ .dark ∧ s.timersPaused f = false) ∧
    (∃ (s : State) (f : Fin 64) (counts : List Nat), (s.fibre f).marginState = .up) :=
  ⟨⟨lit, 0, by decide +kernel⟩,
   ⟨lit, 0, by decide +kernel⟩,
   ⟨fib { suspended := true }, 0, by decide +kernel⟩,
   ⟨lit, 0, by decide +kernel⟩,
   ⟨lit, 0, [], by decide +kernel⟩⟩

theorem test_meets_OpticsWritesAccepted :
    (∃ (s a : State) (r : Req), WriteAdmitted s r 0x1F00 1 (command32 1 0) a ∧ a.boot.recovery = true) ∧
    (∃ (s a : State) (r : Req), WriteAdmitted s r 0x1F00 1 (command32 2 0) a ∧ a.boot.recovery = true) ∧
    (∃ (s a : State) (r : Req) (f : Fin 64) (v : BitVec 64), WriteAdmitted s r (0x2140 + f.val) 1 v.toNat a ∧
      fibreCfgValid (fibreCfgMask v.toNat) = true ∧ ((cfgMode (a.fibreCfg f) = false ∨ cfgMode (fibreCfgMask v.toNat) = true ∨ ∀ w < 16,
        a.inCircuit f w = false))) ∧
    (∃ (s a : State) (r : Req) (e src : Fin 16), WriteAdmitted s r 0x2191 1 (256 + e * 16 + src) a ∧ src.val ≤ 3 ∧
      (a.source e src).state = .retired ∧ (a.source e 4).state = .active ∧ (a.source e 4).feeds = src ∧ -100 < (a.source e src).lastFade ∧
        (a.engine e).change = none) ∧
    (∃ (s a : State) (r : Req) (e src : Fin 16), WriteAdmitted s r 0x2191 1 (512 + e * 16 + src) a ∧ src.val ≤ 3 ∧
      (a.source e src).state = .active ∧ (a.source e 4).state = .ready ∧ (a.engine e).change = none ∧ (a.engine e).failedFibre = none) ∧
    (∃ (s a : State) (r : Req) (n tag : Nat), WriteAdmitted s r 0x21A1 1 (2 ^ 24 + n * 2 ^ 16 + tag) a ∧ 1 ≤ n ∧ n ≤ 32 ∧ tag < 65536 ∧
      a.hatch.commit = none) ∧
    (∃ (s a : State) (r : Req) (tag : Nat), WriteAdmitted s r 0x21A1 1 (2 * 2 ^ 24 + tag) a ∧ tag < 65536 ∧ a.hatch.commit = none) ∧
    (∃ (s a : State) (r : Req) (tag : Nat) (c : Commit), WriteAdmitted s r 0x21A1 1 (3 * 2 ^ 24 + tag) a ∧ tag < 65536 ∧ a.hatch.commit = some c ∧
      c.sent = false ∧ c.stage ≤ 2) :=
  ⟨⟨rec, _, m0, seesWrite (by decide +kernel), by decide +kernel⟩,
   ⟨rec, _, m0, seesWrite (by decide +kernel), by decide +kernel⟩,
   ⟨up, _, q0, 63, BitVec.ofNat 64 (up.fibreCfg 63), seesWrite (by decide +kernel), by decide +kernel⟩,
   ⟨engIs { sources := [(3, { state := .retired }), (4, { state := .active, feeds := 3 })] }, _, q0, 0, 3, seesWrite (by decide +kernel),
     by decide +kernel⟩,
   ⟨engIs { sources := [(3, { state := .active }), (4, { state := .ready })] }, _, q0, 0, 3, seesWrite (by decide +kernel), by decide +kernel⟩,
   ⟨up, _, q0, 32, 65535, seesWrite (by decide +kernel), by decide +kernel⟩,
   ⟨up, _, q0, 65535, seesWrite (by decide +kernel), by decide +kernel⟩,
   ⟨commitIs { entries := [], tag := 0, stage := 2 }, _, q0, 65535, { entries := [], tag := 0, stage := 2 }, seesWrite (by decide +kernel),
     by decide +kernel⟩⟩

theorem test_meets_CoreWritesAccepted :
    (∃ (s a : State) (r : Req) (arg : BitVec 24), WriteAdmitted s r 0x21D1 1 (2 ^ 24 + arg.toNat) a ∧ 1 ≤ bits arg.toNat 21 16 ∧
      bits arg.toNat 21 16 ≤ 32 ∧ bits arg.toNat 23 22 = 0 ∧ a.tables.batch = none ∧ (∀ k < bits arg.toNat 21 16,
        opOk (a.tables.stage.get 0 k) = true)) ∧
    (∃ (s a : State) (r : Req) (arg : BitVec 24), WriteAdmitted s r 0x21D1 1 (2 * 2 ^ 24 + arg.toNat) a ∧ arg.toNat < 65536 ∧ a.tables.batch = none) ∧
    (∃ (s a : State) (r : Req) (arg : BitVec 24), WriteAdmitted s r 0x21E2 1 (2 ^ 24 + arg.toNat) a ∧ arg.toNat ≤ 9) ∧
    (∃ (s a : State) (r : Req) (arg : BitVec 24), WriteAdmitted s r 0x21E2 1 (2 * 2 ^ 24 + arg.toNat) a ∧ arg.toNat ≤ 9 ∧
      a.core.needProof.getLsbD arg.toNat = false ∧ a.core.noMatch.getLsbD arg.toNat = true) ∧
    (∃ (s a : State) (r : Req) (k : Fin 4096) (v : BitVec 64), WriteAdmitted s r (0x2240 + k / 64) (1 + k % 64) v.toNat a ∧ bucketOk v.toNat = true) ∧
    (∃ (s a : State) (r : Req) (k : Fin 4096) (v : BitVec 64), WriteAdmitted s r (0x2280 + k / 64) (1 + k % 64) v.toNat a ∧ bucketOk v.toNat = true) ∧
    (∃ (s a : State) (r : Req) (v : BitVec 32), WriteAdmitted s r 0x2380 1 v.toNat a ∧ v.toNat ≤ 512) ∧
    (∃ (s a : State) (r : Req) (t : Fin 16) (v : BitVec 32), WriteAdmitted s r (0x2460 + t) 2 v.toNat a ∧ 1 ≤ bits v.toNat 31 24 ∧
      bits v.toNat 31 24 ≤ 3 ∧ a.cellNow + 977 ≤ a.param (0x2460 + t) 1) ∧
    (∃ (s a : State) (r : Req) (t : Fin 16) (arg : BitVec 24), WriteAdmitted s r (0x2460 + t) 2 arg.toNat a) ∧
    (∃ (s a : State) (r : Req) (h : Fin 16) (v : BitVec 64), WriteAdmitted s r 0x2453 (1 + h) v.toNat a ∧ bits v.toNat 63 60 ≤ 6 ∧
      1 ≤ bits v.toNat 59 50 ∧ bits v.toNat 59 50 ≤ 1000) :=
  ⟨⟨{ up with tables := { stage := [(0, 4 + 4 * 256 ^ 3)] } }, _, q0, 0x010000, seesWrite (by decide +kernel), by decide +kernel⟩,
   ⟨up, _, q0, 65535, seesWrite (by decide +kernel), by decide +kernel⟩,
   ⟨up, _, q0, 9, seesWrite (by decide +kernel), by decide +kernel⟩,
   ⟨{ up with core := { noMatch := 0x200 } }, _, q0, 9, seesWrite (by decide +kernel), by decide +kernel⟩,
   ⟨up, _, q0, 4095, BitVec.ofNat 64 (2 ^ 46 + 1000000000), seesWrite (by decide +kernel), by decide +kernel⟩,
   ⟨up, _, q0, 4095, BitVec.ofNat 64 (2 ^ 63 + 2 ^ 46 + 1000000000), seesWrite (by decide +kernel), by decide +kernel⟩,
   ⟨up, _, q0, 512, seesWrite (by decide +kernel), by decide +kernel⟩,
   ⟨{ up with params := [(objKey 0x246F 1, 977)] }, _, q0, 15, 0x03000000, seesWrite (by decide +kernel), by decide +kernel⟩,
   ⟨up, _, q0, 15, 0, seesWrite (by decide +kernel)⟩,
   ⟨up, _, q0, 15, BitVec.ofNat 64 (6 * 2 ^ 60 + 1000 * 2 ^ 50), seesWrite (by decide +kernel), by decide +kernel⟩⟩

theorem test_meets_ScheduleCommandsAccepted :
    (∃ (s a : State) (r : Req) (arg : BitVec 24), WriteAdmitted s r 0x21F1 1 (2 ^ 24 + arg.toNat) a ∧ arg.toNat < 65536 ∧ a.mem.ink ≠ 0 ∧
      a.ductus.armed = false) ∧
    (∃ (s a : State) (r : Req) (arg : BitVec 24), WriteAdmitted s r 0x21F1 1 (2 * 2 ^ 24 + arg.toNat) a ∧ arg.toNat < 65536 ∧ a.mem.ink ≠ 0 ∧
      a.ductus.armed = false) ∧
    (∃ (s : State), s.ductus.validating = true) ∧
    (∃ (s a : State) (r : Req) (arg : BitVec 24), WriteAdmitted s r 0x21F1 1 (3 * 2 ^ 24 + arg.toNat) a ∧ arg.toNat < 65536 ∧ a.mem.ink ≠ 0 ∧
      a.ductus.shadowValid = true ∧ a.ductus.armed = false ∧ a.timeSet = true ∧ a.swapAtOk (a.param 0x21F3 1) = true) ∧
    (∃ (s a : State) (r : Req) (arg : BitVec 24), WriteAdmitted s r 0x21F1 1 (4 * 2 ^ 24 + arg.toNat) a ∧ arg.toNat < 65536 ∧ a.ductus.armed = true) ∧
    (∃ (s a : State) (r : Req) (arg : BitVec 24), WriteAdmitted s r 0x21F1 1 (5 * 2 ^ 24 + arg.toNat) a ∧ arg.toNat < 65536) ∧
    (∃ (s a : State) (r : Req) (arg : BitVec 24), WriteAdmitted s r 0x21F1 1 (6 * 2 ^ 24 + arg.toNat) a ∧ arg.toNat < 65536 ∧ a.mem.ink ≠ 0 ∧
      a.ductus.armed = false ∧ (dataPayload a.flash 7).isSome = true) ∧
    (∃ (s a : State) (r : Req) (arg : BitVec 24), WriteAdmitted s r 0x21F1 1 (7 * 2 ^ 24 + arg.toNat) a ∧ arg.toNat < 65536 ∧
      a.ductus.shadowValid = true) :=
  ⟨⟨up, _, q0, 65535, seesWrite (by decide +kernel), by decide +kernel⟩,
   ⟨up, _, q0, 65535, seesWrite (by decide +kernel), by decide +kernel⟩,
   ⟨{ up with ductus := { validating := true } }, by decide +kernel⟩,
   ⟨{ up with ductus := { shadowValid := true, shadow := image }, params := [(objKey 0x21F3 1, 97657)] }, _, q0, 0, seesWrite (by decide +kernel),
     by decide +kernel⟩,
   ⟨{ up with ductus := { armed := true } }, _, q0, 0, seesWrite (by decide +kernel), by decide +kernel⟩,
   ⟨up, _, q0, 0, seesWrite (by decide +kernel), by decide +kernel⟩,
   ⟨{ up with flash := { a := flashOf 0x02400000 7 } }, _, q0, 0, seesWrite (by decide +kernel), by decide +kernel⟩,
   ⟨{ up with ductus := { shadowValid := true } }, _, q0, 0, seesWrite (by decide +kernel), by decide +kernel⟩⟩

theorem test_meets_ProgramCommandsAccepted :
    (∃ (s a : State) (r : Req) (arg : BitVec 24), WriteAdmitted s r 0x2302 1 (2 ^ 24 + arg.toNat) a ∧ arg.toNat < 65536 ∧ a.progs.state ≠ 2) ∧
    (∃ (s a : State) (r : Req) (arg : BitVec 24), WriteAdmitted s r 0x2302 1 (2 * 2 ^ 24 + arg.toNat) a ∧ arg.toNat < 65536 ∧ a.progs.state ≠ 2 ∧
      a.stacks ≠ 0) ∧
    (∃ (s a : State) (r : Req) (arg : BitVec 24), WriteAdmitted s r 0x2302 1 (3 * 2 ^ 24 + arg.toNat) a ∧ a.progs.state = 0 ∧
      a.programBusy (bits arg.toNat 23 16) = false) ∧
    (∃ (s a : State) (r : Req) (arg : BitVec 24), WriteAdmitted s r 0x2302 1 (4 * 2 ^ 24 + arg.toNat) a ∧ a.progs.state = 0 ∧
      (a.program (bits arg.toNat 23 16)).isSome = true ∧ a.progs.pinned.contains (bits arg.toNat 23 16) = true) ∧
    (∃ (s a : State) (r : Req) (arg : BitVec 24), WriteAdmitted s r 0x2302 1 (5 * 2 ^ 24 + arg.toNat) a ∧ a.progs.state = 0) ∧
    (∃ (s : State), s.progs.state = 1 ∧ s.progs.lastTouch + 60 * 10 ^ 12 ≤ s.now) :=
  ⟨⟨up, _, q0, 65535, seesWrite (by decide +kernel), by decide +kernel⟩,
   ⟨up, _, q0, 65535, seesWrite (by decide +kernel), by decide +kernel⟩,
   ⟨up, _, q0, 0xFF0000, seesWrite (by decide +kernel), by decide +kernel⟩,
   ⟨{ up with progs := { library := [(255, [1])], pinned := [255] } }, _, q0, 0xFF0000, seesWrite (by decide +kernel), by decide +kernel⟩,
   ⟨up, _, q0, 0xFF0000, seesWrite (by decide +kernel), by decide +kernel⟩,
   ⟨{ up with progs := { state := 1 }, now := 60 * 10 ^ 12 }, by decide +kernel⟩⟩

theorem test_meets_ServiceWritesAccepted :
    (∃ (s a : State) (r : Req), WriteAdmitted s r 0x2451 1 (2 ^ 24) a ∧ a.folio.armed = false ∧ a.cellNow + 97657 ≤ a.param 0x2452 1 ∧
      a.param 0x2452 1 ≤ a.cellNow + 5859375000) ∧
    (∃ (s a : State) (r : Req), WriteAdmitted s r 0x2451 1 (2 * 2 ^ 24) a ∧ a.folio.armed = true) ∧
    (∃ (s a : State) (r : Req) (arg : BitVec 24), WriteAdmitted s r 0x2451 1 (3 * 2 ^ 24 + arg.toNat) a ∧ arg.toNat ≤ 1) ∧
    (∃ (s a : State) (r : Req) (arg : BitVec 24), WriteAdmitted s r 0x2451 1 (4 * 2 ^ 24 + arg.toNat) a ∧ arg.toNat ≤ 1) ∧
    (∃ (s a : State) (r : Req), WriteAdmitted s r 0x1E00 1 (2 ^ 24) a) ∧
    (∃ (s a : State) (r : Req) (k : Fin 8) (v : BitVec 320), WriteAdmitted s r 0x1020 (1 + k) v.toNat a ∧ v.toNat / 2 ^ 256 % 256 ≤ 3 ∧
      v.toNat / 2 ^ 264 % 256 ≤ 1 ∧ v.toNat / 2 ^ 272 = 0) ∧
    (∃ (s a : State) (r : Req) (v : BitVec 8), WriteAdmitted s r 0x1102 1 v.toNat a ∧ 1 ≤ v.toNat ∧ v.toNat ≤ 60 ∧ a.chop.unsealed = true) ∧
    (∃ (s a : State) (r : Req) (v : BitVec 128) (k : Nat × Nat × Int × Int), WriteAdmitted s r 0x1102 2 v.toNat a ∧
      calOf (leBytes 16 v.toNat) = some k ∧ a.chop.unsealed = true ∧ a.chop.keyReady = true) ∧
    (∃ (s a : State) (r : Req) (p : Fin 1024) (v : BitVec 16), WriteAdmitted s r (0x1110 + p.val / 64) (1 + p.val % 64) v.toNat a ∧
      bits v.toNat 14 10 = 0) ∧
    (∃ (s a : State) (r : Req), WriteAdmitted s r 0xA502 1 (2 ^ 24) a) ∧
    (∃ (s a : State) (r : Req) (arg : BitVec 24), WriteAdmitted s r 0xA502 1 (2 * 2 ^ 24 + arg.toNat) a ∧ arg.toNat < 16) ∧
    (∃ (s a : State) (r : Req) (arg : BitVec 24), WriteAdmitted s r 0x2483 1 (2 ^ 24 + arg.toNat) a ∧ isUnit arg.toNat = true ∧
      arg.toNat / 256 = 0x0A) :=
  ⟨⟨{ up with params := [(objKey 0x2452 1, 97657)] }, _, q0, seesWrite (by decide +kernel), by decide +kernel⟩,
   ⟨{ up with folio := { armed := true } }, _, q0, seesWrite (by decide +kernel), by decide +kernel⟩,
   ⟨up, _, q0, 1, seesWrite (by decide +kernel), by decide +kernel⟩,
   ⟨up, _, q0, 1, seesWrite (by decide +kernel), by decide +kernel⟩,
   ⟨up, _, q0, seesWrite (by decide +kernel)⟩,
   ⟨up, _, q0, 7, BitVec.ofNat 320 (2 ^ 264 + 3 * 2 ^ 256), seesWrite (by decide +kernel), by decide +kernel⟩,
   ⟨up, _, q0, 60, seesWrite (by decide +kernel), by decide +kernel⟩,
   ⟨{ up with chop := { keyReady := true } }, _, q0, BitVec.ofNat 128 (0x3F800000 * 2 ^ 32 + 0x3F800000), (0x3F800000, 0x3F800000, 0, 0),
     seesWrite (by decide +kernel), by decide +kernel⟩,
   ⟨up, _, q0, 1023, 0x83FF, seesWrite (by decide +kernel), by decide +kernel⟩,
   ⟨up, _, q0, seesWrite (by decide +kernel)⟩,
   ⟨up, _, q0, 15, seesWrite (by decide +kernel), by decide +kernel⟩,
   ⟨up, _, q0, 0x0A1F, seesWrite (by decide +kernel), by decide +kernel⟩⟩

theorem test_meets_HatchCommitSteps :
    (∃ (s : State) (c : Commit) (x : List (List (Nat × Nat × Nat))), s.hatch.commit = some c ∧ c.stage = 1 ∧ c.route = none ∧
      s.hatch.plain (connsAfter s.hatch c) = true) ∧
    (∃ (s : State) (c : Commit), s.hatch.commit = some c ∧ c.stage = 1 ∧ c.route = none ∧ s.hatch.plain (connsAfter s.hatch c) = false) ∧
    (∃ (s : State) (c : Commit) (x : List (List (Nat × Nat × Nat))) (r : List (Nat × Elem)), s.hatch.commit = some c ∧ c.stage = 1 ∧
      c.route = none ∧ s.hatch.plain (connsAfter s.hatch c) = false ∧
        s.hatch.bestRoute c ((x.map (searchRoute s.hatch (connsAfter s.hatch c))).filter (s.hatch.routeOk c (connsAfter s.hatch c))) = some r) ∧
    (∃ (s : State) (c : Commit), s.hatch.commit = some c ∧ c.stage = 1 ∧ c.route = none) ∧
    (∃ (s : State) (c : Commit), s.hatch.commit = some c ∧ c.stage = 1 ∧ c.route.isSome = true) ∧
    (∃ (s : State) (c : Commit) (t : Nat × Nat), s.hatch.commit = some c ∧ c.t = some t ∧ c.noticed = false ∧ c.stage = 2) ∧
    (∃ (s : State) (c : Commit), s.hatch.commit = some c ∧ c.noticed = true ∧ c.awaiting ≠ [] ∧ c.stage = 2 ∧ c.abandoned < 2) ∧
    (∃ (s : State) (c : Commit), s.hatch.commit = some c ∧ c.noticed = true ∧ c.awaiting ≠ [] ∧ c.stage = 2 ∧ 2 ≤ c.abandoned) ∧
    (∃ (s : State) (c : Commit) (t : Nat × Nat), s.hatch.commit = some c ∧ c.t = some t ∧ c.noticed = true ∧ c.awaiting = [] ∧ c.stage = 2 ∧
      s.reached t = true) ∧
    (∃ (s : State) (c : Commit), s.hatch.commit = some c ∧ c.stage = 3) ∧
    (∃ (s : State) (c : Commit) (failed : List (Fin 256)), s.hatch.commit = some c ∧ c.stage = 3 ∧ c.settled = true) ∧
    (∃ (s : State) (k : Fin 1920) (x : HatchTrim), s.boot.photonic = true) ∧
    (∃ (s : State) (k : Fin 1920) (x : Nat), s.boot.photonic = true ∧ (s.hatch.elems.get {} k.val).failed = false ∧
      (((s.hatch.elems.get {} k.val).heater = 0 ∨ (s.hatch.elems.get {} k.val).heater = 40000))) ∧
    (∃ (s : State) (k : Fin 256) (c : Conn), s.hatch.conns.find? (fun c => c.input = k.val) = some c ∧ c.muted = false) :=
  ⟨⟨commitIs commit2, commit2, [], by decide +kernel⟩,
   ⟨commitIs commit3, commit3, by decide +kernel⟩,
   ⟨commitIs commit3, commit3, [route3], searchRoute (commitIs commit3).hatch [multi0] route3, by decide +kernel⟩,
   ⟨commitIs commit4, commit4, by decide +kernel⟩,
   ⟨commitIs { commit2 with route := some [] }, { commit2 with route := some [] }, by decide +kernel⟩,
   ⟨commitIs commit5, commit5, (0, 0), by decide +kernel⟩,
   ⟨commitIs commit6, commit6, by decide +kernel⟩,
   ⟨commitIs commit7, commit7, by decide +kernel⟩,
   ⟨commitIs commit8, commit8, (0, 0), by decide +kernel⟩,
   ⟨commitIs commit9, commit9, by decide +kernel⟩,
   ⟨commitIs commit10, commit10, [], by decide +kernel⟩,
   ⟨up, 1919, { power := 0 }, by decide +kernel⟩,
   ⟨up, 1919, 0, by decide +kernel⟩,
   ⟨{ up with hatch := { conns := [{ input := 255, outs := [0] }] } }, 255, { input := 255, outs := [0] }, by decide +kernel⟩⟩

theorem test_meets_DataLinks :
    (∃ (s : State) (p : Fin 1024) (w : BitVec 48) (b : List Byte) (q tc seq : Nat), q = s.linkOfLane (p / 16) (p % 16) ∧ s.linkUp q = true ∧
      (s.lane (p / 16) (p % 16)).state = .inn ∧ s.inFarWindow (p / 16) = false ∧ linkWordFields w.toNat = some (0, tc, seq) ∧ fcsOk b = true) ∧
    (∃ (s : State) (p : Fin 1024) (w : BitVec 48) (b : List Byte) (q tc seq : Nat), q = s.linkOfLane (p / 16) (p % 16) ∧ s.linkUp q = true ∧
      (s.lane (p / 16) (p % 16)).state = .inn ∧ s.inFarWindow (p / 16) = false ∧ linkWordFields w.toNat = some (0, tc, seq) ∧ fcsOk b = false ∧
        64 ≤ b.length ∧ b.length ≤ s.param 0x21C0 2) ∧
    (∃ (s : State) (p : Fin 1024) (w : BitVec 48) (b : List Byte),
      ((s.linkUp (s.linkOfLane (p / 16) (p % 16)) = false ∨ (s.lane (p / 16) (p % 16)).state ≠ .inn ∨ s.inFarWindow (p / 16) = true))) ∧
    (∃ (s : State) (p : Fin 1024) (b : List Byte) (ecc : Ecc), s.linkUp p = true ∧ controlOk b = true) ∧
    (∃ (s : State) (p : Fin 1024) (b : List Byte) (ecc : Ecc), s.linkUp p = true ∧ controlOk b = false) ∧
    (∃ (s : State) (p : Fin 1024), (s.link p).rxHeld ≠ []) ∧
    (∃ (s : State) (p : Fin 1024) (ecc : Ecc) (h : HeldFrame) (r : List HeldFrame), (s.link p).replay = h :: r ∧
      s.timersPaused (p.val / 16) = false ∧ (s.link p).replaying s.now = false) ∧
    (∃ (s u : State) (p : Fin 1024) (c id turn : Nat) (f : Stored) (d : Tab Nat), u = s.refreshDue ∧ u.linkUp p = true ∧ u.lanesIn p ≠ [] ∧
      (u.fibre (p.val / 16)).suspended = false ∧ egressPick u p = some (c, id, f, turn, d) ∧ u.replayRoom p f.bytes.length = true ∧
        u.aged c f.arrival = false) ∧
    (∃ (s u : State) (p : Fin 1024), u = s.refreshDue ∧ egressPick u p = none) ∧
    (∃ (s : State) (p : Fin 1024),
      ((s.refreshDue.linkUp p = false ∨ s.refreshDue.lanesIn p = [] ∨ (s.refreshDue.fibre (p.val / 16)).suspended = true))) :=
  ⟨⟨carrying, 0, word0, frame64, 0, 1, 5, by decide +kernel⟩,
   ⟨carrying, 0, word0, List.replicate 64 1, 0, 1, 5, by decide +kernel⟩,
   ⟨up, 1023, 0, [], by decide +kernel⟩,
   ⟨linkIs { state := .reduced }, 0, frame64, .good, by decide +kernel⟩,
   ⟨linkIs { state := .up }, 0, List.replicate 64 1, .good, by decide +kernel⟩,
   ⟨linkIs { rxHeld := [held0] }, 0, by decide +kernel⟩,
   ⟨linkIs { replay := [held0] }, 0, .good, held0, [], by decide +kernel⟩,
   ⟨egressing, _, 0, 0, 0, 1, stored0 [0], [], rfl, by decide +kernel, by decide +kernel, by decide +kernel, by decide +kernel, by decide +kernel,
     by decide +kernel⟩,
   ⟨up, _, 1023, rfl, by decide +kernel⟩,
   ⟨up, 1023, by decide +kernel⟩⟩

theorem test_meets_TablesAndLookup :
    (∃ (s : State) (k : Fin 8) (x : RxFrame) (r : List RxFrame), s.tables.waiting.get [] k = x :: r ∧ s.tables.bad = []) ∧
    (∃ (s : State) (k : Fin 8) (u : List (Nat × Nat)), s.tables.waiting.get [] k = []) ∧
    (∃ (s : State) (q : LearnReq) (r : List LearnReq), s.tables.learn = q :: r) ∧
    (∃ (s : State) (v : Nat), s.nextOp 1 = some v) ∧
    (∃ (s : State) (v : Nat), s.nextOp 2 = some v) ∧
    (∃ (s : State) (v : Nat), s.nextOp 3 = some v) ∧
    (∃ (s : State) (v : Nat), s.nextOp 4 = some v) ∧
    (∃ (s : State) (v : Nat), s.nextOp 5 = some v) ∧
    (∃ (s : State) (v : Nat), s.nextOp 6 = some v) ∧
    (∃ (s : State) (v : Nat), s.nextOp 7 = some v) :=
  ⟨⟨{ up with tables := { waiting := [(7, [rx0])] } }, 7, rx0, [], by decide +kernel⟩,
   ⟨up, 7, [], by decide +kernel⟩,
   ⟨{ up with tables := { learn := [learn0] } }, learn0, [], by decide +kernel⟩,
   ⟨batchOf1 1, 1, by decide +kernel⟩,
   ⟨batchOf1 2, 2, by decide +kernel⟩,
   ⟨batchOf1 3, 3, by decide +kernel⟩,
   ⟨batchOf1 4, 4, by decide +kernel⟩,
   ⟨batchOf1 5, 5, by decide +kernel⟩,
   ⟨batchOf1 6, 6, by decide +kernel⟩,
   ⟨batchOf1 7, 7, by decide +kernel⟩⟩

theorem test_meets_SwitchCore :
    (∃ (s : State) (src : Fin 164) (l : Nat) (tc : Fin 8) (o : Offer),
      s.core.offers.find? (fun o => o.src = src.val && o.link = l && o.tc = tc.val) = some o ∧ o.tc ≠ 0 ∧
        s.admits (cellsOf o.bytes.length) o.tc o.dst.charge = true) ∧
    (∃ (s : State) (src : Fin 164) (l : Nat) (tc : Fin 8) (o : Offer),
      s.core.offers.find? (fun o => o.src = src.val && o.link = l && o.tc = tc.val) = some o ∧ o.tc = 0 ∧ s.tc0Ok o.src o.dst = false) ∧
    (∃ (s : State), s.core.lastMatch = none) ∧
    (∃ (s : State) (u : Nat), s.core.lastMatch = some u ∧ u < s.cellNow) ∧
    (∃ (s : State) (u : Nat), s.core.lastMatch = some u ∧ s.cellNow ≤ u) ∧
    (∃ (s : State) (p : Fin 10) (d : Fin 164) (x : Transit),
      s.core.transit.find? (fun x => x.plane = p.val && x.cell.dst = d.val && x.due ≤ s.cellNow) = some x ∧
        headerOk (BitVec.ofNat 128 x.cell.header).toNat = true) ∧
    (∃ (s : State) (p : Fin 10) (d : Fin 164) (flip : BitVec 128) (x : Transit),
      s.core.transit.find? (fun x => x.plane = p.val && x.cell.dst = d.val && x.due ≤ s.cellNow) = some x ∧
        headerOk (BitVec.ofNat 128 x.cell.header ^^^ flip).toNat = false) ∧
    (∃ (s : State) (d r : Fin 164), (s.core.context d r).held ≠ [] ∧ (s.core.context d r).timer + 2000000 ≤ s.now) ∧
    (∃ (s : State) (p : Fin 10), s.core.noMatch.getLsbD p = true ∧ s.core.out_.getLsbD p = false ∧
      s.core.transit.any (fun x => x.plane = p.val) = false) ∧
    (∃ (s : State), s.enabledLinks = []) ∧
    (∃ (s : State) (t : Coords), s.core.pendingCoords = some t ∧ s.core.frames = []) :=
  ⟨⟨{ up with core := { offers := [offer 1] } }, 163, 1024, 1, offer 1, by decide +kernel⟩,
   ⟨{ up with core := { offers := [offer 0] } }, 163, 1024, 0, offer 0, by decide +kernel⟩,
   ⟨up, by decide +kernel⟩,
   ⟨{ up with core := { lastMatch := some 0 }, time := { ns := 20 } }, 0, by decide +kernel⟩,
   ⟨{ up with core := { lastMatch := some 0 } }, 0, by decide +kernel⟩,
   ⟨{ up with core := { transit := [transit0] } }, 9, 163, transit0, by decide +kernel⟩,
   ⟨{ up with core := { transit := [transit0] } }, 9, 163, 1, transit0, by decide +kernel⟩,
   ⟨{ up with core := { reseq := [(0, { held := [(cell0, 0)] })] }, now := 2000000 }, 0, 0, by decide +kernel⟩,
   ⟨{ up with core := { noMatch := 0x200 } }, 9, by decide +kernel⟩,
   ⟨{ up with params := (List.range 64).map (fun f => (objKey (0x2140 + f) 1, 2 ^ 32)) }, by decide +kernel⟩,
   ⟨{ up with core := { pendingCoords := some [] } }, [], by decide +kernel⟩⟩

theorem test_meets_ScheduleInstants :
    (∃ (s : State), s.ductus.armed = true ∧ s.ductus.check = none ∧ s.cellNow < s.ductus.armedAt ∧ s.ductus.armedAt * 1024 ≤ s.instant100 + 10 ^ 7) ∧
    (∃ (s : State), s.ductus.check = some 0 ∧ s.readiness = 0 ∧ s.ductus.armed = true ∧ s.ductus.armedAt ≤ s.cellNow ∧ s.ductus.deactivating = none) ∧
    (∃ (s : State) (c : Nat), s.ductus.check = some c ∧ c ≠ 0 ∧ s.ductus.armed = true ∧ s.ductus.armedAt ≤ s.cellNow ∧ s.ductus.deactivating = none) ∧
    (∃ (s : State), s.ductus.check = some 0 ∧ s.readiness ≠ 0 ∧ s.ductus.armed = true ∧ s.ductus.armedAt ≤ s.cellNow ∧ s.ductus.deactivating = none) ∧
    (∃ (s : State) (img : List Byte) (ex : Bool) (t : Nat), s.param 0x21F0 2 ≠ 0 ∧ s.ductus.state ≠ 1 ∧ s.ductus.deactivating = none ∧
      s.joinImage = some (ex, img) ∧ s.ductus.settled = some t ∧ s.timeSet = true ∧ s.inTolerance = true ∧ imgOffset img s.cellNow = some 0 ∧
        s.leadPassed t = true) ∧
    (∃ (s : State), s.ductus.state = 1 ∧ s.timeSet = false) ∧
    (∃ (s : State), s.ductus.state = 1) ∧
    (∃ (s : State), s.cellNow % 1024 = 0 ∧ s.ductus.refreshedAt ≠ some s.cellNow) ∧
    (∃ (s : State), ((s.cellNow % 1024 ≠ 0 ∨ s.ductus.refreshedAt = some s.cellNow))) :=
  ⟨⟨{ up with ductus := { armed := true, armedAt := 9765 } }, by decide +kernel⟩,
   ⟨{ up with ductus := { armed := true, check := some 0 }, time := { err := 0, errShown := 0 } }, by decide +kernel⟩,
   ⟨{ up with ductus := { armed := true, check := some 1 } }, 1, by decide +kernel⟩,
   ⟨{ up with ductus := { armed := true, check := some 0 } }, by decide +kernel⟩,
   ⟨{ up with ductus := { armed := true, shadow := image, settled := some 0 }, time := { err := 0, errShown := 0 }, params := [(objKey 0x21F0 2,
     1), (objKey 0x21F0 3, 0)] }, image, true, 0, by decide +kernel⟩,
   ⟨{ up with ductus := { state := 1 }, boot := {} }, by decide +kernel⟩,
   ⟨{ up with ductus := { state := 1 } }, by decide +kernel⟩,
   ⟨up, by decide +kernel⟩,
   ⟨{ up with ductus := { refreshedAt := some 0 } }, by decide +kernel⟩⟩

theorem test_meets_NibScalarInstructions :
    (∃ (s t : State) (n : Fin 32) (c : Fin 64) (w : Nat) (k : Ctx), NibIssues s n c 0x02 w t k) ∧
    (∃ (s t : State) (n : Fin 32) (c : Fin 64) (w : Nat) (k : Ctx), NibIssues s n c 0x03 w t k) ∧
    (∃ (s t : State) (n : Fin 32) (c : Fin 64) (w : Nat) (k : Ctx), NibIssues s n c 0x04 w t k) ∧
    (∃ (s t : State) (n : Fin 32) (c : Fin 64) (w : Nat) (k : Ctx), NibIssues s n c 0x05 w t k) ∧
    (∃ (s t : State) (n : Fin 32) (c : Fin 64) (w : Nat) (k : Ctx), NibIssues s n c 0x08 w t k) ∧
    (∃ (s t : State) (n : Fin 32) (c : Fin 64) (w : Nat) (k : Ctx), NibIssues s n c 0x09 w t k) ∧
    (∃ (s t : State) (n : Fin 32) (c : Fin 64) (w : Nat) (k : Ctx), NibIssues s n c 0x0A w t k) ∧
    (∃ (s t : State) (n : Fin 32) (c : Fin 64) (w : Nat) (k : Ctx), NibIssues s n c 0x0B w t k) ∧
    (∃ (s t : State) (n : Fin 32) (c : Fin 64) (w : Nat) (k : Ctx), NibIssues s n c 0x0C w t k) ∧
    (∃ (s t : State) (n : Fin 32) (c : Fin 64) (w : Nat) (k : Ctx), NibIssues s n c 0x0E w t k ∧
      k.inScratch ((k.reg (iB w) + signedImm (iImm w)) % 2 ^ 64) (4 + 4 * (iD w % 4)) = true ∧
        (k.reg (iB w) + signedImm (iImm w)) % 2 ^ 64 % (4 + 4 * (iD w % 4)) = 0) ∧
    (∃ (s t : State) (n : Fin 32) (c : Fin 64) (w : Nat) (k : Ctx), NibIssues s n c 0x0F w t k ∧
      k.inScratch ((k.reg (iB w) + signedImm (iImm w)) % 2 ^ 64) (4 + 4 * (iD w % 4)) = true ∧
        (k.reg (iB w) + signedImm (iImm w)) % 2 ^ 64 % (4 + 4 * (iD w % 4)) = 0) :=
  ⟨⟨prog 0x02 0, _, 0, 0, _, _, seesNib (k0 := ctx0) (k := ctx1) rfl (by decide +kernel) (by decide +kernel)⟩,
   ⟨prog 0x03 0, _, 0, 0, _, _, seesNib (k0 := ctx0) (k := ctx1) rfl (by decide +kernel) (by decide +kernel)⟩,
   ⟨prog 0x04 0, _, 0, 0, _, _, seesNib (k0 := ctx0) (k := ctx1) rfl (by decide +kernel) (by decide +kernel)⟩,
   ⟨prog 0x05 0, _, 0, 0, _, _, seesNib (k0 := ctx0) (k := ctx1) rfl (by decide +kernel) (by decide +kernel)⟩,
   ⟨prog 0x08 0, _, 0, 0, _, _, seesNib (k0 := ctx0) (k := ctx1) rfl (by decide +kernel) (by decide +kernel)⟩,
   ⟨prog 0x09 0, _, 0, 0, _, _, seesNib (k0 := ctx0) (k := ctx1) rfl (by decide +kernel) (by decide +kernel)⟩,
   ⟨prog 0x0A 0, _, 0, 0, _, _, seesNib (k0 := ctx0) (k := ctx1) rfl (by decide +kernel) (by decide +kernel)⟩,
   ⟨prog 0x0B 0, _, 0, 0, _, _, seesNib (k0 := ctx0) (k := ctx1) rfl (by decide +kernel) (by decide +kernel)⟩,
   ⟨prog 0x0C 0, _, 0, 0, _, _, seesNib (k0 := ctx0) (k := ctx1) rfl (by decide +kernel) (by decide +kernel)⟩,
   ⟨prog 0x0E (2044 * 2 ^ 64), _, 0, 0, _, _, seesNib (k0 := ctx0) (k := ctx1) rfl (by decide +kernel) (by decide +kernel), by decide +kernel⟩,
   ⟨prog 0x0F (2044 * 2 ^ 64), _, 0, 0, _, _, seesNib (k0 := ctx0) (k := ctx1) rfl (by decide +kernel) (by decide +kernel), by decide +kernel⟩⟩

theorem test_meets_NibEngineInstructions :
    (∃ (s t : State) (n : Fin 32) (c : Fin 64) (w : Nat) (k : Ctx), NibIssues s n c 0x01 w t k) ∧
    (∃ (s t : State) (n : Fin 32) (c : Fin 64) (w : Nat) (k : Ctx), NibIssues s n c 0x10 w t k) ∧
    (∃ (s t : State) (n : Fin 32) (c : Fin 64) (w : Nat) (k : Ctx) (r : Range), NibIssues s n c 0x11 w t k ∧ t.rangeOf k.thread = some r ∧
      r.setIdx (iD w % 4) ≠ 15 ∧ k.elemCheck (iFout w) (k.reg (iC w)) (k.reg (iB w)) (k.reg (iA w)) = none) ∧
    (∃ (s t : State) (n : Fin 32) (c : Fin 64) (w : Nat) (k : Ctx), NibIssues s n c 0x12 w t k ∧ k.reg (iC w) ≠ 0 ∧
      k.inScratch (k.reg (iB w)) (k.reg (iC w)) = true ∧ k.inScratch (k.reg (iA w)) (k.reg (iC w)) = true) ∧
    (∃ (s t u : State) (n : Fin 32) (c : Fin 64) (w : Nat) (k : Ctx), NibIssues s n c 0x18 w t k ∧
      k.elemCheck (iFin w) (k.reg (iC w)) (k.reg (iB w)) (k.reg (iA w)) = none ∧
        t.rowsKindOk n k.thread (k.reg (iC w)) (k.reg (iB w)) (fastRows (iMode w) (iFin w)) = true ∧
          t.addTerms n k.thread (k.reg (iC w)) (decodeElems (iFin w) (k.reg (iB w)) (k.read (k.reg (iA w)) (fmtBytes (iFin w) (k.reg (iB w))))) (fastRows (iMode w) (iFin w)) (modeRound (iMode w) = 2 && isIntFmt (iFin w)) (.instr c k.pc) = .ok u) ∧
    (∃ (s t : State) (n : Fin 32) (c : Fin 64) (w : Nat) (k : Ctx), NibIssues s n c 0x19 w t k) ∧
    (∃ (s t : State) (n : Fin 32) (c : Fin 64) (w : Nat) (k : Ctx), NibIssues s n c 0x21 w t k) ∧
    (∃ (s t : State) (n : Fin 32) (c : Fin 64) (w : Nat) (k : Ctx), NibIssues s n c 0x28 w t k ∧
      (t.semOperand k w).2 ≤ (t.countCp 14).sem (t.semOperand k w).1) ∧
    (∃ (s t t' : State) (n : Fin 32) (c : Fin 64) (w : Nat) (k : Ctx), NibIssues s n c 0x29 w t k ∧
      t.semAdd (t.semOperand k w).1 (t.semOperand k w).2 = some t') ∧
    (∃ (s t t' : State) (n : Fin 32) (c : Fin 64) (w : Nat) (k : Ctx), NibIssues s n c 0x2A w t k ∧
      t.semSub (t.semOperand k w).1 (t.semOperand k w).2 = some t') ∧
    (∃ (s t : State) (n : Fin 32) (c : Fin 64) (w : Nat) (k : Ctx), NibIssues s n c 0x0E w t k ∧
      k.inScratch ((k.reg (iB w) + signedImm (iImm w)) % 2 ^ 64) (4 + 4 * (iD w % 4)) = true ∧
        (k.reg (iB w) + signedImm (iImm w)) % 2 ^ 64 % (4 + 4 * (iD w % 4)) = 0) :=
  ⟨⟨prog 0x01 0, _, 0, 0, _, _, seesNib (k0 := ctx0) (k := ctx1) rfl (by decide +kernel) (by decide +kernel)⟩,
   ⟨prog 0x10 0, _, 0, 0, _, _, seesNib (k0 := ctx0) (k := ctx1) rfl (by decide +kernel) (by decide +kernel)⟩,
   ⟨progE 0x11, _, 0, 0, _, _, { range0 with sets := 0xFFF0 }, seesNib (k0 := ctxE) (k := ctxE1) rfl (by decide +kernel) (by decide +kernel),
     by decide +kernel⟩,
   ⟨progR 0x12 (2 * 2 ^ 32 + 1 * 2 ^ 16), _, 0, 0, _, _, seesNib (k0 := ctxR) (k := ctxR1) rfl (by decide +kernel) (by decide +kernel),
     by decide +kernel⟩,
   ⟨progE 0x18, _, _, 0, 0, _, _, seesNib (k0 := ctxE) (k := ctxE1) rfl (by decide +kernel) (by decide +kernel), by decide +kernel,
     by decide +kernel, rfl⟩,
   ⟨prog 0x19 0, _, 0, 0, _, _, seesNib (k0 := ctx0) (k := ctx1) rfl (by decide +kernel) (by decide +kernel)⟩,
   ⟨prog 0x21 0, _, 0, 0, _, _, seesNib (k0 := ctx0) (k := ctx1) rfl (by decide +kernel) (by decide +kernel)⟩,
   ⟨prog 0x28 0, _, 0, 0, _, _, seesNib (k0 := ctx0) (k := ctx1) rfl (by decide +kernel) (by decide +kernel), by decide +kernel⟩,
   ⟨prog 0x29 0, _, _, 0, 0, _, _, seesNib (k0 := ctx0) (k := ctx1) rfl (by decide +kernel) (by decide +kernel), rfl⟩,
   ⟨prog 0x2A 0, _, _, 0, 0, _, _, seesNib (k0 := ctx0) (k := ctx1) rfl (by decide +kernel) (by decide +kernel), rfl⟩,
   ⟨prog 0x0E 0, _, 0, 0, _, _, seesNib (k0 := ctx0) (k := ctx1) rfl (by decide +kernel) (by decide +kernel), by decide +kernel⟩⟩

theorem test_meets_NibWork :
    (∃ (s : State) (n : Fin 32) (f : Stored) (r : List Stored), s.core.intake.get [] (128 + n.val) = f :: r ∧ (s.nib n).window = false) ∧
    (∃ (s : State) (r : Nat) (o : Fin 4194304), (s.rangeOf (threadNo r o)).isSome = true ∧ (s.thread (threadNo r o)).state = .emitting ∧
      (s.thread (threadNo r o)).waiting = 0 ∧ (s.thread (threadNo r o)).doneSent = true) ∧
    (∃ (s : State) (r : Nat) (o : Fin 4194304), (s.thread (threadNo r o)).state = .opened ∧
      (s.nib (s.nibOfThread (threadNo r o))).window = false ∧
        s.limitReached (s.nibOfThread (threadNo r o)) (((s.rangeOf (threadNo r o)).map (fun r => recTimeout (s.slot (jobSlot r.job)).record.coll)).getD 0) (s.thread (threadNo r o)).opened (s.thread (threadNo r o)).base = true) ∧
    (∃ (s : State) (n : Fin 32) (b : List PassReq), s.startable n = some b) ∧
    (∃ (s : State) (n : Fin 32) (p : PassReq), (s.nib n).leaving = some p) ∧
    (∃ (s u : State) (n : Fin 32) (p : PassReq) (b : List PassReq), (s.nib n).passes.find? (fun p => !p.started && p.thin) = some p ∧
      u = s.updNib n (fun x => { x with passes := x.passes.map (fun q => if q = p then { q with expired := true } else q) }) ∧
        u.startable n = some b) ∧
    (∃ (s u : State) (r : Nat) (o : Fin 4194304) (x : Range), s.rangeOf (threadNo r o) = some x ∧ x.isProgram = true ∧
      (s.thread (threadNo r o)).invoked = false ∧ (s.thread (threadNo r o)).state = .reserved ∧ o.val < x.count ∧
        u = s.updThread (threadNo r o) (fun t => { t with invoked := true }) ∧ u.invokeCheck x = none) ∧
    (∃ (s u : State) (n : Fin 32) (x : Invocation) (r : List Invocation), (s.nib n).waiting = x :: r ∧ (s.nib n).resident x.program = false ∧
      (s.program x.program).isSome = true ∧ s.fetchProgram n x.program 70 = some u) ∧
    (∃ (s : State) (n : Fin 32) (c : Fin 64) (k : Ctx) (x : SwaitSt), (s.nib n).window = false ∧ s.ctx n c = some k ∧ k.swait = some x ∧
      s.limitReached n (s.param 0x2301 2) x.issued x.base = true) ∧
    (∃ (s : State) (n : Fin 32) (c : Fin 64) (k : Ctx) (a : Async), (s.nib n).window = false ∧ s.ctx n c = some k ∧ k.swait = none ∧
      k.async.find? (fun a => a.op = .recv) = some a ∧ s.limitReached n (s.param 0x2301 2) a.issued a.base = true) ∧
    (∃ (s : State) (n : Fin 32) (r : Nat) (o : Fin 4194304) (i : Invocation), (s.nib n).window = false ∧
      (s.nib n).waiting.find? (fun i => i.thread = threadNo r o) = some i ∧ s.limitReached n (s.param 0x2301 2) i.arrived i.base = true ∧ ((∀ c,
        c < 64 → (s.ctx n c).isSome = true))) ∧
    (∃ (s : State) (n : Fin 32) (c : Fin 64) (k : Ctx) (a : Async), s.ctx n c = some k ∧ k.async.find? (fun a => a.op = .recv) = some a) ∧
    (∃ (s : State) (n : Fin 32) (c : Fin 64) (k : Ctx) (a : Async) (q : Nat), s.ctx n c = some k ∧ k.async.find? (fun a => a.seq = q) = some a ∧
      ((a.op = .copy ∨ a.op = .acc ∨ a.op = .round ∨ (a.op = .emit ∧ a.frames = 0)))) ∧
    (∃ (s : State) (n : Fin 32) (c : Fin 64) (k : Ctx) (x : SwaitSt), s.ctx n c = some k ∧ k.swait = some x ∧ x.met = true ∧
      (s.nib n).window = false) ∧
    (∃ (s : State) (n : Fin 32) (k : Fin 17), s.folio.skidding.get 0 n = 0) ∧
    (∃ (s : State) (n : Fin 32) (k : Fin 17) (r : List Byte), s.folio.skidding.get 0 n ≠ 0 ∧ (s.nib n).lastIssue = some r) :=
  ⟨⟨{ up with core := { intake := [(159, [stored0 []])] } }, 31, stored0 [], [], by decide +kernel⟩,
   ⟨threadIs { state := .emitting, doneSent := true }, 0, 4194303, by decide +kernel⟩,
   ⟨{ threadIs { state := .opened } with now := 10 ^ 18 }, 0, 4194303, by decide +kernel⟩,
   ⟨nibIs { passes := [pass0], active := [{ ctx := 0, addr := 0, bytes := [] }] }, 0, [pass0], by decide +kernel⟩,
   ⟨nibIs { passes := [{ pass0 with started := true }] }, 0, { pass0 with started := true }, by decide +kernel⟩,
   ⟨thinning, _, 0, thin0, [{ thin0 with expired := true }], by decide +kernel, rfl, by decide +kernel⟩,
   ⟨{ threadIs { state := .reserved } with progs := { library := [(0, [1])] } }, _, 0, 0, range0, by decide +kernel, by decide +kernel,
     by decide +kernel, by decide +kernel, by decide +kernel, rfl, by decide +kernel⟩,
   ⟨{ nibIs { waiting := [invoke0] } with progs := { library := [(0, [1])] } }, _, 0, invoke0, [], by decide +kernel, by decide +kernel,
     by decide +kernel, rfl⟩,
   ⟨{ ctxIs { ctx0 with swait := some swait0 } with now := 10 ^ 18 }, 0, 0, { ctx0 with swait := some swait0 }, swait0, by decide +kernel⟩,
   ⟨{ ctxIs { ctx0 with async := [async0 .recv] } with now := 10 ^ 18 }, 0, 0, { ctx0 with async := [async0 .recv] }, async0 .recv,
     by decide +kernel⟩,
   ⟨{ nibIs { waiting := [invoke0], ctxs := (List.range 64).map (fun c => (c, some ctx0)) } with now := 10 ^ 18 }, 0, 0, 0, invoke0,
     by decide +kernel⟩,
   ⟨ctxIs { ctx0 with async := [async0 .recv] }, 0, 0, { ctx0 with async := [async0 .recv] }, async0 .recv, by decide +kernel⟩,
   ⟨ctxIs { ctx0 with async := [async0 .emit] }, 0, 0, { ctx0 with async := [async0 .emit] }, async0 .emit, 0, by decide +kernel⟩,
   ⟨ctxIs { ctx0 with swait := some { swait0 with met := true } }, 0, 0, { ctx0 with swait := some { swait0 with met := true } },
     { swait0 with met := true }, by decide +kernel⟩,
   ⟨up, 31, 16, by decide +kernel⟩,
   ⟨{ nibIs { lastIssue := some [] } with folio := { skidding := [(0, 1)] } }, 0, 16, [], by decide +kernel⟩⟩

theorem test_meets_DescriptorsIssue :
    (∃ (s t : State) (g : Fin 4096) (b : List Byte) (d : Desc), RingIssues s g 1 b d t) ∧
    (∃ (s t : State) (g : Fin 4096) (b : List Byte) (d : Desc), RingIssues s g 2 b d t) ∧
    (∃ (s t : State) (g : Fin 4096) (b : List Byte) (d : Desc), RingIssues s g 3 b d t) ∧
    (∃ (s t : State) (g : Fin 4096) (b : List Byte) (d : Desc), RingIssues s g 0x20 b d t) ∧
    (∃ (s t : State) (g : Fin 4096) (b : List Byte) (d : Desc), RingIssues s g 0x21 b d t) ∧
    (∃ (s t : State) (g : Fin 4096) (b : List Byte) (d : Desc), RingIssues s g 0x22 b d t) ∧
    (∃ (s t : State) (g : Fin 4096) (b : List Byte) (d : Desc), RingIssues s g 0x23 b d t ∧ byteAt b 18 = 1) ∧
    (∃ (s t : State) (g : Fin 4096) (b : List Byte) (d : Desc), RingIssues s g 0x23 b d t ∧ byteAt b 18 = 2) ∧
    (∃ (s t : State) (g : Fin 4096) (b : List Byte) (d : Desc), RingIssues s g 0x23 b d t ∧ byteAt b 18 = 3) ∧
    (∃ (s t : State) (g : Fin 4096) (b : List Byte) (d : Desc), RingIssues s g 0x24 b d t) ∧
    (∃ (s t : State) (g : Fin 4096) (b : List Byte) (d : Desc), RingIssues s g 0x25 b d t) ∧
    (∃ (s t : State) (g : Fin 4096) (b : List Byte) (d : Desc), RingIssues s g 0x40 b d t) ∧
    (∃ (s t : State) (g : Fin 4096) (b : List Byte) (d : Desc), RingIssues s g 0x41 b d t ∧ byteAt b 16 < 4 ∧ leAt b 17 47 = 0) ∧
    (∃ (s t : State) (g : Fin 4096) (b : List Byte) (d : Desc), RingIssues s g 0x42 b d t ∧ leAt b 16 48 = 0) ∧
    (∃ (s t : State) (g : Fin 4096) (b : List Byte) (d : Desc) (op : Nat), RingIssues s g op b d t) :=
  ⟨⟨ringSt [(0, 1)], _, 0, readBytes [(0, 1)] 0 64, _, seesRing (by decide +kernel)⟩,
   ⟨ringSt [(0, 2)], _, 0, readBytes [(0, 2)] 0 64, _, seesRing (by decide +kernel)⟩,
   ⟨ringSt [(0, 3)], _, 0, readBytes [(0, 3)] 0 64, _, seesRing (by decide +kernel)⟩,
   ⟨ringSt [(0, 0x20)], _, 0, readBytes [(0, 0x20)] 0 64, _, seesRing (by decide +kernel)⟩,
   ⟨ringSt [(0, 0x21)], _, 0, readBytes [(0, 0x21)] 0 64, _, seesRing (by decide +kernel)⟩,
   ⟨ringSt [(0, 0x22)], _, 0, readBytes [(0, 0x22)] 0 64, _, seesRing (by decide +kernel)⟩,
   ⟨ringSt [(0, 0x23), (18, 1)], _, 0, readBytes [(0, 0x23), (18, 1)] 0 64, _, seesRing (by decide +kernel), by decide +kernel⟩,
   ⟨ringSt [(0, 0x23), (18, 2)], _, 0, readBytes [(0, 0x23), (18, 2)] 0 64, _, seesRing (by decide +kernel), by decide +kernel⟩,
   ⟨ringSt [(0, 0x23), (18, 3)], _, 0, readBytes [(0, 0x23), (18, 3)] 0 64, _, seesRing (by decide +kernel), by decide +kernel⟩,
   ⟨ringSt [(0, 0x24)], _, 0, readBytes [(0, 0x24)] 0 64, _, seesRing (by decide +kernel)⟩,
   ⟨ringSt [(0, 0x25)], _, 0, readBytes [(0, 0x25)] 0 64, _, seesRing (by decide +kernel)⟩,
   ⟨ringSt [(0, 0x40)], _, 0, readBytes [(0, 0x40)] 0 64, _, seesRing (by decide +kernel)⟩,
   ⟨ringSt [(0, 0x41)], _, 0, readBytes [(0, 0x41)] 0 64, _, seesRing (by decide +kernel), by decide +kernel⟩,
   ⟨ringSt [(0, 0x42)], _, 0, readBytes [(0, 0x42)] 0 64, _, seesRing (by decide +kernel), by decide +kernel⟩,
   ⟨ringSt [(0, 1)], _, 0, readBytes [(0, 1)] 0 64, _, 1, seesRing (by decide +kernel)⟩⟩

theorem test_meets_RingsHeld :
    (∃ (s : State) (g : Fin 4096) (q : Register), s.heldRegister g = some q ∧ s.rangeOverlaps q.range = false ∧ s.fitsNow q.range = true) ∧
    (∃ (s : State) (g : Fin 4096) (q : Register), s.heldRegister g = some q ∧ s.rangeOverlaps q.range = false ∧ s.fitsNow q.range = false) ∧
    (∃ (s : State) (g : Fin 4096) (q : Register), s.heldRegister g = some q ∧
      q.since + recTimeout (s.slot (jobSlot q.range.job)).record.coll * 1000000 ≤ s.now) ∧
    (∃ (s : State) (g : Fin 4096) (q : Register), s.heldRegister g = some q ∧
      s.now < q.since + recTimeout (s.slot (jobSlot q.range.job)).record.coll * 1000000) ∧
    (∃ (s : State) (g : Fin 4096) (w : SemWait), s.ringWait g = some w ∧ w.value ≤ s.sem w.index) ∧
    (∃ (s : State) (g : Fin 4096) (w : SemWait), s.ringWait g = some w ∧ w.met = false ∧ s.sem w.index < w.value ∧
      w.since + w.limit * 1000000 ≤ s.now) ∧
    (∃ (s : State) (g : Fin 4096), (s.ring g).hold ≠ .none) ∧
    (∃ (s : State) (g : Fin 4096), (s.ring g).enable = false) ∧
    (∃ (s u : State) (g : Fin 4096), (s.ring g).mayIssue = true ∧
      s.dmaRead (s.ringDomain g) ((s.ring g).descBase + 64 * (s.ring g).sqHead) 64 = (none, u)) :=
  ⟨⟨holding [], 0, register0, by decide +kernel⟩,
   ⟨{ holding [] with mem := {} }, 0, register0, by decide +kernel⟩,
   ⟨{ holding [] with now := 10 ^ 18 }, 0, register0, by decide +kernel⟩,
   ⟨{ holding [] with slots := [(0, { record := { coll := List.replicate 64 1 } })] }, 0, register0, by decide +kernel⟩,
   ⟨{ up with coll := { waits := [wait0] } }, 0, wait0, by decide +kernel⟩,
   ⟨{ up with coll := { waits := [{ wait0 with value := 1 }] } }, 0, { wait0 with value := 1 }, by decide +kernel⟩,
   ⟨ringIs { hold := .wait }, 0, by decide +kernel⟩,
   ⟨up, 4095, by decide +kernel⟩,
   ⟨ringBad, headRead ringBad 0, 0, by decide +kernel⟩⟩

theorem test_meets_LigatureCommands :
    (∃ (s : State) (f : Stored) (r : List Stored) (o : Nat), s.core.intake.get [] 160 = f :: r ∧ vftOffset f.bytes = some o ∧
      vftType f.bytes o = 0x10) ∧
    (∃ (s : State) (f : Stored) (r : List Stored) (o : Nat), s.core.intake.get [] 160 = f :: r ∧ vftOffset f.bytes = some o ∧
      vftType f.bytes o = 0x11) ∧
    (∃ (s : State) (f : Stored) (r : List Stored) (o : Nat), s.core.intake.get [] 160 = f :: r ∧ vftOffset f.bytes = some o ∧
      vftType f.bytes o = 0x12) ∧
    (∃ (s : State) (f : Stored) (r : List Stored) (o : Nat), s.core.intake.get [] 160 = f :: r ∧ vftOffset f.bytes = some o ∧
      vftType f.bytes o = 0x13) ∧
    (∃ (s : State) (f : Stored) (r : List Stored) (o : Nat), s.core.intake.get [] 160 = f :: r ∧ vftOffset f.bytes = some o ∧
      vftType f.bytes o = 0x14) ∧
    (∃ (s : State) (i : Fin 65536) (a : LigAccess) (p : HomePart) (r : Nat), s.lig.partOf i = some (a, p) ∧ p.retryAt = some r ∧ r ≤ s.now) ∧
    (∃ (s : State) (i : Fin 65536) (a : LigAccess) (p : HomePart), s.lig.partOf i = some (a, p) ∧ a.dueAt p ≤ s.now) ∧
    (∃ (s : State) (i : Fin 65536), s.lig.partOf i = none) ∧
    (∃ (s : State) (n : Nat) (a : LigAccess), s.lig.accs.find? (fun a => a.no = n && a.issued && a.home.isNone) = some a ∧
      s.lig.accs.find? (fun a => a.no = n) = some a ∧ s.mem.zeroDone = true) ∧
    (∃ (s : State) (n : Nat) (a : LigAccess), s.lig.accs.find? (fun a => a.no = n && a.issued && a.home.isNone) = some a ∧
      s.mem.fillPassed a.addr a.bytes = false ∧ a.waited = false) ∧
    (∃ (s : State), s.boot.done.getLsbD 5 = true ∧ s.mem.zeroDone = false) ∧
    (∃ (s : State) (l : Nat), s.lpdPresent (64 * l) 64 = true ∧ 64 * l < 2 ^ 39 ∧ s.boot.done.getLsbD 5 = true ∧
      s.mem.poisoned.get false l = false) :=
  ⟨⟨atLig (vft 0x10), stored0 (vft 0x10), [], 14, by decide +kernel⟩,
   ⟨atLig (vft 0x11), stored0 (vft 0x11), [], 14, by decide +kernel⟩,
   ⟨atLig (vft 0x12), stored0 (vft 0x12), [], 14, by decide +kernel⟩,
   ⟨atLig (vft 0x13), stored0 (vft 0x13), [], 14, by decide +kernel⟩,
   ⟨atLig (vft 0x14), stored0 (vft 0x14), [], 14, by decide +kernel⟩,
   ⟨accessing { acc0 with parts := [part0] }, 65535, { acc0 with parts := [part0] }, part0, 0, by decide +kernel⟩,
   ⟨{ accessing { acc0 with parts := [part0] } with now := 10 ^ 18 }, 65535, { acc0 with parts := [part0] }, part0, by decide +kernel⟩,
   ⟨up, 65535, by decide +kernel⟩,
   ⟨accessing { acc0 with issued := true }, 0, { acc0 with issued := true }, by decide +kernel⟩,
   ⟨{ accessing { acc0 with issued := true } with mem := {} }, 0, { acc0 with issued := true }, by decide +kernel⟩,
   ⟨{ up with mem := {} }, by decide +kernel⟩,
   ⟨up, 8589934591, by decide +kernel⟩⟩

theorem test_meets_RingRegisters :
    (∃ (s t : State) (f : Fin 130) (r : Nat) (v : BitVec 32) (w : List (Nat × List Byte)) (p : List Nat) (g : Nat), t = s.ownerWrites f w p ∧
      t.reachRing f r = some g ∧ (t.ring g).enable = true ∧ v.toNat % 65536 < (t.ring g).size) ∧
    (∃ (s t : State) (f : Fin 130) (r : Nat) (v : BitVec 32) (w : List (Nat × List Byte)) (p : List Nat) (g : Nat), t = s.ownerWrites f w p ∧
      t.reachRing f r = some g ∧ (t.ring g).enable = true ∧ (t.ring g).size ≤ v.toNat % 65536) ∧
    (∃ (s : State) (f : Fin 130) (r : Nat) (v : BitVec 32) (g n : Nat), s.reachRing f r = some g ∧ (s.ring g).enable = true ∧
      v.toNat % 65536 < (s.ring g).size ∧ n = (v.toNat % 65536 + (s.ring g).size - (s.ring g).cqHead) % (s.ring g).size ∧
        n ≤ (s.ring g).entries.length) ∧
    (∃ (s : State) (f : Fin 130) (r : Nat) (v : BitVec 32) (g : Nat), s.reachRing f r = some g ∧ (s.ring g).enable = true ∧
      (s.ring g).size ≤ v.toNat % 65536) ∧
    (∃ (s : State) (f : Fin 130) (r : Nat) (v : BitVec 32) (g : Nat), s.reachRing f r = some g ∧ (s.ring g).enable = false ∧ 4 ≤ ctlSize v.toNat ∧
      ctlSize v.toNat ≤ 16 ∧ ctlVector v.toNat < fnVectors f) ∧
    (∃ (s : State) (f : Fin 130) (r : Nat) (v : BitVec 32) (g : Nat), s.reachRing f r = some g ∧ (s.ring g).enable = false ∧
      ((ctlSize v.toNat < 4 ∨ 16 < ctlSize v.toNat ∨ fnVectors f ≤ ctlVector v.toNat))) ∧
    (∃ (s : State) (f : Fin 130) (r : Nat) (v : BitVec 32) (g : Nat), s.reachRing f r = some g ∧ (s.ring g).enable = true ∧ (s.ring g).out_ = [] ∧
      ctlSize v.toNat = (s.ring g).sizeLog2 ∧ ctlVector v.toNat = (s.ring g).vector) ∧
    (∃ (s : State) (f : Fin 130) (r : Nat) (v : BitVec 32) (g : Nat), s.reachRing f r = some g ∧ (s.ring g).enable = true ∧ (s.ring g).out_ ≠ [] ∧
      ctlSize v.toNat = (s.ring g).sizeLog2 ∧ ctlVector v.toNat = (s.ring g).vector) ∧
    (∃ (s : State) (b : Bool) (x : Fin 64) (v : BitVec 64), x.val ≠ 0 ∧ s.fnReaches (if b then 64 else 0) = true ∧
      s.assignOk (if b then .hostB else .hostA) (s.port b) x v.toNat = true) ∧
    (∃ (s : State) (b : Bool) (x : Fin 64) (v : BitVec 64), x.val ≠ 0 ∧ s.fnReaches (if b then 64 else 0) = true ∧
      s.assignOk (if b then .hostB else .hostA) (s.port b) x v.toNat = false) :=
  ⟨⟨ringIs { enable := true, sizeLog2 := 4 }, _, 0, 0, 15, [(0, [1])], [], 0, rfl, by decide +kernel⟩,
   ⟨ringIs { enable := true, sizeLog2 := 4 }, _, 0, 0, 16, [], [], 0, rfl, by decide +kernel⟩,
   ⟨ringIs { enable := true, sizeLog2 := 4, entries := [(0, true)] }, 0, 0, 1, 0, 1, by decide +kernel⟩,
   ⟨ringIs { enable := true, sizeLog2 := 4 }, 0, 0, 16, 0, by decide +kernel⟩,
   ⟨up, 0, 0, 0x10000200, 0, by decide +kernel⟩,
   ⟨up, 0, 0, 0x11000200, 0, by decide +kernel⟩,
   ⟨ringIs { enable := true, sizeLog2 := 4 }, 0, 0, 0x04000000, 0, by decide +kernel⟩,
   ⟨ringIs { enable := true, sizeLog2 := 4, out_ := [desc0] }, 0, 0, 0x04000000, 0, by decide +kernel⟩,
   ⟨up, true, 63, 0, by decide +kernel⟩,
   ⟨up, true, 63, 1, by decide +kernel⟩⟩

theorem test_meets_HostFunctions :
    (∃ (s : State) (f : Fin 130) (v : BitVec 32), s.fnReaches f = true ∧ v.toNat % 1024 < fnVectors f) ∧
    (∃ (s : State) (f : Fin 130) (v : Fin 513), s.fnReaches f = true ∧ v.val < fnVectors f ∧ (s.func f).unmasked.contains v.val = false) ∧
    (∃ (s : State) (f : Fin 130) (v : BitVec 32) (b : List Byte), s.fnPresent f = true) ∧
    (∃ (s : State) (f : Fin 128), fnVf f = 0) ∧
    (∃ (s : State) (f : Fin 128), fnVf f ≠ 0 ∧ (s.port (64 ≤ f.val)).enabled.contains (fnVf f) = true) ∧
    (∃ (s : State) (f : Fin 128), fnVf f ≠ 0 ∧ (s.port (64 ≤ f.val)).enabled.contains (fnVf f) = false) ∧
    (∃ (s : State) (b : Bool), (s.port b).up = true) ∧
    (∃ (s : State), s.boot.done.getLsbD 2 = true) ∧
    (∃ (s : State) (f : Fin 130) (v : BitVec 32), fnVf f = 0 ∧ s.fnReaches f = true ∧ ((v.toNat = 0x52560000 ∨ v.toNat = 0x52560001)) ∧
      domNo (fnDomain f) = s.param 0x2480 3) ∧
    (∃ (s : State) (f : Fin 130) (v : BitVec 32), fnVf f = 0 ∧ s.fnReaches f = true ∧ ((v.toNat = 0x52560000 ∨ v.toNat = 0x52560001)) ∧
      domNo (fnDomain f) ≠ s.param 0x2480 3 ∧ s.inWarm = false) ∧
    (∃ (s : State) (f : Fin 130) (v : BitVec 32), fnVf f = 0 ∧ s.fnReaches f = true ∧ v.toNat / 65536 ≠ 0x5256) ∧
    (∃ (s : State) (c : Domain × Bool × Nat) (r : List (Domain × Bool × Nat)), s.faults.claims = c :: r ∧ c.2.2 ≤ s.now) ∧
    (∃ (s : State) (c : Domain × Bool × Nat) (r : List (Domain × Bool × Nat)), s.faults.claims = c :: r ∧ s.now < c.2.2) :=
  ⟨⟨up, 129, 512, by decide +kernel⟩,
   ⟨up, 129, 512, by decide +kernel⟩,
   ⟨up, 129, 0, [], by decide +kernel⟩,
   ⟨up, 64, by decide +kernel⟩,
   ⟨{ up with host := { portA := { hp with vfEnable := true, vfs := 63 } } }, 63, by decide +kernel⟩,
   ⟨up, 63, by decide +kernel⟩,
   ⟨up, true, by decide +kernel⟩,
   ⟨up, by decide +kernel⟩,
   ⟨up, 0, 0x52560001, by decide +kernel⟩,
   ⟨up, 64, 0x52560000, by decide +kernel⟩,
   ⟨up, 0, 0x52570000, by decide +kernel⟩,
   ⟨{ up with faults := { claims := [(.hostA, true, 0)] } }, (.hostA, true, 0), [], by decide +kernel⟩,
   ⟨{ up with faults := { claims := [(.hostA, true, 1)] } }, (.hostA, true, 1), [], by decide +kernel⟩⟩

theorem test_meets_ServoStates :
    (∃ (s : State) (o : Int) (r : List Int), s.time.offsets = o :: r) ∧
    (∃ (s : State), s.time.servo = .track ∧ s.timeSet = true ∧ s.param 0x2440 6 < s.timeErr) ∧
    (∃ (s t : State), s.reselect.time.source = 255 ∧ ((s.reselect.time.servo = .track ∨ s.reselect.time.servo = .acquire)) ∧
      t = (s.reselect.modTime (fun t => { t with servo := .holdover, samples := [], lockCount := 0 })).setFlag 0x6641 2) ∧
    (∃ (s : State), s.time.servo = .holdover ∧ s.timeSet = true) ∧
    (∃ (s : State), s.time.servo ≠ .holdover) :=
  ⟨⟨{ up with time := { offsets := [-1] } }, -1, [], by decide +kernel⟩,
   ⟨{ up with time := { servo := .track } }, by decide +kernel⟩,
   ⟨{ up with time := { servo := .acquire } }, _, by decide +kernel, by decide +kernel, rfl⟩,
   ⟨{ up with time := { servo := .holdover } }, by decide +kernel⟩,
   ⟨up, by decide +kernel⟩⟩

theorem test_meets_PtpSends :
    (∃ (s : State) (f : Fin 64), (s.ptp f).master.isSome = true) ∧
    (∃ (s : State) (f : Fin 64), s.timeRuns = true ∧ s.ptpMaster f = true) ∧
    (∃ (s : State) (f : Fin 64), s.ptpMaster f = false) ∧
    (∃ (s : State) (f : Fin 64), s.time.source = f.val ∧ (s.fibre f).marginState = .up) :=
  ⟨⟨{ up with time := { ports := [(63, { master := some announce0 })] } }, 63, by decide +kernel⟩,
   ⟨ptpUp, 0, by decide +kernel⟩,
   ⟨up, 63, by decide +kernel⟩,
   ⟨{ lit with time := { source := 0 } }, 0, by decide +kernel⟩⟩

theorem test_meets_PulsesAndTriggers :
    (∃ (s : State) (w : Nat), s.timeRuns = true ∧ ((w < 100 ∨ 500000000 < w))) ∧
    (∃ (s : State) (w sec st utc at_ : Nat), s.timeRuns = true ∧ 100 ≤ w ∧ w ≤ 500000000 ∧ s.time.ppsTod = some (sec, st, utc, at_) ∧
      s.time.ppsLast = none ∧ 10 ^ 10 ≤ s.now - at_ ∧ s.now - at_ ≤ 99 * 10 ^ 10) ∧
    (∃ (s : State) (w sec st utc at_ : Nat), s.timeRuns = true ∧ 100 ≤ w ∧ w ≤ 500000000 ∧ s.time.ppsTod = some (sec, st, utc, at_) ∧
      s.now - at_ < 10 ^ 10) ∧
    (∃ (s : State) (b : List Byte), s.timeRuns = true ∧ b.length = 20 ∧ beAt b 0 2 = 0x5654 ∧ byteAt b 2 = 1 ∧ byteAt b 3 < 3 ∧ beAt b 14 4 = 0 ∧
      beAt b 18 2 = todCheck (b.take 18)) ∧
    (∃ (s : State) (b : List Byte), s.timeRuns = true ∧ b.length ≠ 20) ∧
    (∃ (s : State) (b : List Byte), s.timeRuns = true ∧ beAt b 18 2 ≠ todCheck (b.take 18)) ∧
    (∃ (s : State), s.time.ppsUsable = true) ∧
    (∃ (s : State), s.timeSet = true ∧ s.ppsPhase < s.time.inc) ∧
    (∃ (s : State), s.timeSet = false) ∧
    (∃ (s : State), s.timeSet = true ∧ 490000000 * 2 ^ 32 ≤ s.ppsPhase ∧ s.ppsPhase ≤ 510000000 * 2 ^ 32) ∧
    (∃ (s : State) (t : Fin 16), (s.trigger t).armed = true ∧ (s.trigger t).cell ≤ s.cellNow ∧ (s.trigger t).action = 3) ∧
    (∃ (s : State) (t : Fin 16), (s.trigger t).armed = true ∧ (s.trigger t).cell ≤ s.cellNow ∧ (s.trigger t).action = 2) ∧
    (∃ (s : State) (t : Fin 16), s.cellNow < (s.trigger t).cell) :=
  ⟨⟨up, 500000001, by decide +kernel⟩,
   ⟨{ up with time := { ppsTod := some (0, 0, 0, 0) }, now := 10 ^ 10 }, 100, 0, 0, 0, 0, by decide +kernel⟩,
   ⟨{ up with time := { ppsTod := some (0, 0, 0, 0) } }, 500000000, 0, 0, 0, 0, by decide +kernel⟩,
   ⟨up, tod0, by decide +kernel⟩,
   ⟨up, [], by decide +kernel⟩,
   ⟨up, beBytes 20 1, by decide +kernel⟩,
   ⟨{ up with time := { ppsUsable := true } }, by decide +kernel⟩,
   ⟨up, by decide +kernel⟩,
   ⟨State.reset, by decide +kernel⟩,
   ⟨{ up with time := { ns := 500000000 } }, by decide +kernel⟩,
   ⟨{ up with time := { triggers := [(15, { action := 3, armed := true })] } }, 15, by decide +kernel⟩,
   ⟨{ up with time := { triggers := [(15, { action := 2, armed := true })] } }, 15, by decide +kernel⟩,
   ⟨{ up with time := { triggers := [(15, { cell := 1 })] } }, 15, by decide +kernel⟩⟩

theorem test_meets_FolioStrobes :
    (∃ (s : State), s.folio.armed = true ∧ s.param 0x2452 1 ≤ s.cellNow ∧ s.boot.recovery = false ∧ s.param 0x2452 3 = 0) ∧
    (∃ (s : State), s.folio.armed = true ∧ s.param 0x2452 1 ≤ s.cellNow ∧ s.boot.recovery = false ∧ 0 < s.param 0x2452 3) ∧
    (∃ (s : State), s.folio.armed = false) ∧
    (∃ (s : State), s.cellNow < s.param 0x2452 1) ∧
    (∃ (s : State) (n : Fin 32) (x : List Byte) (r : List (List Byte)), (s.nib n).precise = x :: r) ∧
    (∃ (s : State) (n : Fin 32), (s.nib n).precise = []) :=
  ⟨⟨{ up with folio := { armed := true }, params := [(objKey 0x2452 1, 0), (objKey 0x2452 3, 0)] }, by decide +kernel⟩,
   ⟨{ up with folio := { armed := true }, params := [(objKey 0x2452 1, 0), (objKey 0x2452 3, 1)] }, by decide +kernel⟩,
   ⟨up, by decide +kernel⟩,
   ⟨{ up with params := [(objKey 0x2452 1, 1)] }, by decide +kernel⟩,
   ⟨nibIs { precise := [[]] }, 0, [], [], by decide +kernel⟩,
   ⟨up, 31, by decide +kernel⟩⟩

theorem test_meets_DopRequests :
    (∃ (s a u : State) (r : Req) (i : BitVec 16) (k : BitVec 8) (role v : Nat), ReqAdmitted s (dopReq r 1 i.toNat k.toNat) role a ∧
      objExists i.toNat k.toNat = true ∧ readRole i.toNat ≤ role ∧ (∀ n, objType i.toNat k.toNat ≠ .domain n) ∧
        a.takeRead r.src i.toNat k.toNat = some (v, u)) ∧
    (∃ (s a : State) (r : Req) (i : BitVec 16) (k : BitVec 8) (role : Nat), ReqAdmitted s (dopReq r 1 i.toNat k.toNat) role a ∧
      objExists i.toNat k.toNat = true ∧ role < readRole i.toNat) ∧
    (∃ (s a : State) (r : Req) (i : BitVec 16) (k : BitVec 8) (role : Nat), ReqAdmitted s (dopReq r 1 i.toNat k.toNat) role a ∧
      objExists i.toNat k.toNat = false) ∧
    (∃ (s a u : State) (r : Req) (i : BitVec 16) (k : BitVec 8) (d : List Byte) (q : DopReq) (role : Nat) (row : ObjRow),
      q = { dopReq r 2 i.toNat k.toNat with data := d } ∧ ReqAdmitted s q role a ∧ i.toNat ≠ 0x1040 ∧ dopWriteAllowed q role = .ok row ∧
        writeObj r.src i.toNat k.toNat a (writtenValue row.typ d) = .ok u) ∧
    (∃ (s a : State) (r : Req) (i : BitVec 16) (k : BitVec 8) (d : List Byte) (q : DopReq) (role : Nat) (e : DopStatus),
      q = { dopReq r 2 i.toNat k.toNat with data := d } ∧ ReqAdmitted s q role a ∧ i.toNat ≠ 0x1040 ∧ dopWriteAllowed q role = .error e) ∧
    (∃ (s a : State) (r : Req) (i : BitVec 16) (v : BitVec 32) (q : DopReq) (role : Nat) (row : ObjRow),
      q = { dopReq r 2 i.toNat 1 with data := beBytes 4 v.toNat } ∧ ReqAdmitted s q role a ∧ i.toNat ≠ 0x1040 ∧ dopWriteAllowed q role = .ok row ∧
        objType i.toNat 1 = .flags32 ∧ row.typ = .flags32) ∧
    (∃ (s a : State) (r : Req) (role : Nat), ReqAdmitted s (dopReq r 3 0xA110 1) role a ∧ readRole 0xA110 ≤ role) ∧
    (∃ (s a : State) (r : Req) (i : BitVec 16) (k : BitVec 8) (o : BitVec 32) (q : DopReq) (role n : Nat),
      q = { dopReq r 3 i.toNat k.toNat with offset := o.toNat } ∧ ReqAdmitted s q role a ∧ objExists i.toNat k.toNat = true ∧
        readRole i.toNat ≤ role ∧ objType i.toNat k.toNat = .domain n ∧ i.toNat ≠ 0xA110) ∧
    (∃ (s a : State) (r : Req) (i : BitVec 16) (o : BitVec 32) (x : Bool) (d : List Byte) (q : DopReq) (role n : Nat) (row : ObjRow),
      q = { dopReq r 4 i.toNat 1 with offset := o.toNat, flags := 2 * ofBool x, data := d } ∧ ReqAdmitted s q role a ∧
        objRow i.toNat 1 = some row ∧ row.typ = .domain n ∧ ((row.acc = .rw ∨ row.acc = .wo)) ∧ writeRole i.toNat ≤ role ∧
          a.loadOpen i.toNat = true ∧ (((a.codex.loads.get {} i.toNat).owner = none ∨ (a.codex.loads.get {} i.toNat).owner = some r.src)) ∧
            o.toNat = (a.codex.loads.get {} i.toNat).bytes.length ∧ o.toNat + d.length ≤ n) ∧
    (∃ (s a : State) (r : Req) (i : BitVec 16) (q : DopReq) (role : Nat), q = { dopReq r 5 i.toNat 1 with flags := 0 } ∧ i.toNat ≠ 0 ∧
      ReqAdmitted s q role a ∧ objExists i.toNat 1 = true ∧ objType i.toNat 1 = .flags32 ∧ readRole i.toNat ≤ role) ∧
    (∃ (s a : State) (r : Req) (i : BitVec 16) (k : BitVec 8) (role : Nat), ReqAdmitted s (dopReq r 6 i.toNat k.toNat) role a ∧
      objExists i.toNat k.toNat = true ∧ readRole i.toNat ≤ role) :=
  ⟨⟨up, _, _, q0, 0x1000, 1, 3, _, seesReq (by decide +kernel), by decide +kernel, by decide +kernel, (fun n h => nomatch h), rfl⟩,
   ⟨{ up with host := { portA := { hp with vfEnable := true, vfs := 1 } } }, _, { src := .vf false 1 }, 0x2140, 1, 0, seesReq (by decide +kernel),
     by decide +kernel⟩,
   ⟨up, _, q0, 0xFFFF, 255, 3, seesReq (by decide +kernel), by decide +kernel⟩,
   ⟨up, _, up.setParam 0x2440 2 127, q0, 0x2440, 2, beBytes 4 127, _, 3, row0, rfl, seesReq (by decide +kernel), by decide +kernel, rfl, rfl⟩,
   ⟨up, _, q0, 0xFFFF, 255, [], _, 3, .noObject, rfl, seesReq (by decide +kernel), by decide +kernel, rfl⟩,
   ⟨up, _, q0, 0x6001, 1, _, 3, row1, rfl, seesReq (by decide +kernel), by decide +kernel, rfl, by decide +kernel⟩,
   ⟨up, _, q0, 3, seesReq (by decide +kernel), by decide +kernel⟩,
   ⟨up, _, q0, 0x2303, 1, 0, _, 3, _, rfl, seesReq (by decide +kernel), by decide +kernel, by decide +kernel, rfl, by decide +kernel⟩,
   ⟨{ up with codex := { loads := [(0x2303, { active := true })] }, progs := { state := 1 } }, _, q0, 0x2303, 0, true, [1], _, 3, _, _, rfl,
     seesReq (by decide +kernel), rfl, rfl, by decide +kernel⟩,
   ⟨up, _, q0, 0x6001, _, 3, rfl, by decide +kernel, seesReq (by decide +kernel), by decide +kernel⟩,
   ⟨up, _, q0, 0x1000, 1, 3, seesReq (by decide +kernel), by decide +kernel⟩⟩

theorem test_meets_DopOtherPaths :
    (∃ (s a : State) (r : Req) (ms : BitVec 16) (q : DopReq) (role : Nat), q = { dopReq r 7 0 0 with data := beBytes 2 ms.toNat } ∧
      ReqAdmitted s q role a ∧ 10 ≤ ms.toNat ∧ ms.toNat ≤ 10000 ∧ srcFunction r.src = none ∧
        (a.codex.subs.filter (fun x => x.src ≠ r.src)).length < 4) ∧
    (∃ (s a : State) (r : Req) (q : DopReq) (role : Nat), q = { dopReq r 7 0 0 with data := beBytes 2 0 } ∧ ReqAdmitted s q role a ∧
      srcFunction r.src = none) ∧
    (∃ (s : State) (src : DopSrc) (x : Subscription), s.scribeUp = true ∧ x ∈ s.codex.subs ∧ x.src = src ∧ s.notifyEntries ≠ []) ∧
    (∃ (s : State) (src : DopSrc), s.notifyEntries = []) ∧
    (∃ (s : State) (src : DopSrc) (x : Subscription), x ∈ s.codex.subs ∧ x.src = src) ∧
    (∃ (s : State) (f : Fin 130) (v : BitVec 32), s.fnPresent f = true ∧ s.fnReaches f = true) ∧
    (∃ (s : State) (f : Fin 130) (v : BitVec 64), s.fnPresent f = true ∧ s.fnReaches f = true) ∧
    (∃ (s : State) (f : Fin 130) (o : BitVec 20), s.fnPresent f = true ∧ barHas f o.toNat true = true) ∧
    (∃ (s : State) (f : Fin 130) (o : BitVec 20) (v : Nat), s.fnPresent f = true ∧ barHas f o.toNat false = true ∧ s.barReg64 f o.toNat = some v) ∧
    (∃ (s : State) (f : Fin 130) (o : BitVec 20) (w : Bool), s.fnPresent f = false) ∧
    (∃ (s : State) (b : List Byte) (x : Bool), s.scribeUp = true ∧ 64 ≤ b.length ∧ b.length ≤ 2200 ∧ fcsOk b = true ∧
      s.mgmtTakes (macDst b) = true ∧ (parseFrame b).tags ≤ 1 ∧ etherType (b.take (b.length - 4)) = 0x0806) ∧
    (∃ (s : State) (b : List Byte) (x : Bool), s.scribeUp = true ∧ 64 ≤ b.length ∧ b.length ≤ 2200 ∧ fcsOk b = true ∧
      s.mgmtTakes (macDst b) = true ∧ (parseFrame b).tags ≤ 1 ∧ etherType (b.take (b.length - 4)) = 0x0800) ∧
    (∃ (s : State) (b : List Byte) (x : Bool), fcsOk b = false) :=
  ⟨⟨up, _, m0, 10000, _, 0, rfl, seesReq (by decide +kernel), by decide +kernel⟩,
   ⟨up, _, m0, _, 0, rfl, seesReq (by decide +kernel), by decide +kernel⟩,
   ⟨{ up with codex := { subs := [{ src := .mgmt 1 5000, notifyMs := 10 }] }, flags := [(objKey 0x6001 1, { val := 1 })] }, .mgmt 1 5000,
     { src := .mgmt 1 5000, notifyMs := 10 }, by decide +kernel⟩,
   ⟨up, .mgmt 1 5000, by decide +kernel⟩,
   ⟨{ up with codex := { subs := [{ src := .mgmt 1 5000, notifyMs := 10 }] } }, .mgmt 1 5000, { src := .mgmt 1 5000, notifyMs := 10 },
     by decide +kernel⟩,
   ⟨up, 129, 0, by decide +kernel⟩,
   ⟨up, 129, 0, by decide +kernel⟩,
   ⟨up, 129, 0xFFFF8, by decide +kernel⟩,
   ⟨up, 129, 0x8000, 0, by decide +kernel⟩,
   ⟨State.reset, 0, 0, false, by decide +kernel⟩,
   ⟨up, station 0x0806, false, by decide +kernel⟩,
   ⟨up, station 0x0800, false, by decide +kernel⟩,
   ⟨up, List.replicate 64 1, false, by decide +kernel⟩⟩

theorem test_meets_SessionsAndUnlock :
    (∃ (s a t u : State) (r : Req) (c : BitVec 8) (n : BitVec 256) (q : DopReq) (role x : Nat) (m : List Byte),
      q = opReq r 0x10 (beBytes 1 c.toNat ++ zeros 3 ++ leBytes 32 n.toNat) ∧ ReqAdmitted s q role a ∧ r.session = 0 ∧ a.aliasKey = true ∧
        1 ≤ c.toNat ∧ c.toNat ≤ 8 ∧ a.credEnabled c.toNat = true ∧ a.codex.sessions.length < 8 ∧ a.freeBelow 65535 = (x, t) ∧ t.drawNonce = (m, u)) ∧
    (∃ (s a : State) (r : Req) (c : BitVec 8) (n : BitVec 256) (q : DopReq) (role : Nat),
      q = opReq r 0x10 (beBytes 1 c.toNat ++ zeros 3 ++ leBytes 32 n.toNat) ∧ ReqAdmitted s q role a ∧ r.session = 0 ∧ a.aliasKey = true ∧
        1 ≤ c.toNat ∧ c.toNat ≤ 8 ∧ a.credEnabled c.toNat = false) ∧
    (∃ (s a : State) (r : Req) (g : BitVec 512) (q : DopReq) (role : Nat) (x : Session), q = opReq r 0x11 (leBytes 64 g.toNat) ∧
      ReqAdmitted s q role a ∧ pendingSession q a = some x) ∧
    (∃ (s a : State) (r : Req) (role : Nat) (x : Session), ReqAdmitted s (opReq r 0x12 []) role a ∧ sessionOf a (opReq r 0x12 []) = some x) ∧
    (∃ (s a : State) (r : Req) (p : List Byte) (role : Nat), ReqAdmitted s (opReq r 0x18 p) role a ∧ p.length = 4) ∧
    (∃ (s a : State) (r : Req) (p : List Byte) (role : Nat), ReqAdmitted s (opReq r 0x18 p) role a ∧ 68 < p.length) ∧
    (∃ (s a : State) (r : Req) (g : BitVec 512) (role : Nat), ReqAdmitted s (writeReq r 0x1040 2 g.toNat) role a ∧ writeRole 0x1040 ≤ role ∧
      a.chop.unsealed = true) ∧
    (∃ (s a : State) (r : Req) (g : BitVec 512) (role : Nat), ReqAdmitted s (writeReq r 0x1040 2 g.toNat) role a ∧ writeRole 0x1040 ≤ role ∧
      a.chop.unsealed = false) :=
  ⟨⟨{ up with params := [(objKey 0x1020 8, 2 ^ 264)] }, _, _, _, m0, 8, 0, _, 0, _, _, rfl, seesReq (by decide +kernel), by decide +kernel,
    by decide +kernel, by decide +kernel, by decide +kernel, by decide +kernel, by decide +kernel, rfl, rfl⟩,
   ⟨up, _, m0, 1, 0, _, 0, rfl, seesReq (by decide +kernel), by decide +kernel⟩,
   ⟨pending, _, { m0 with session := 1 }, 0, _, 0, session0, rfl, seesReq (by decide +kernel), by decide +kernel⟩,
   ⟨{ up with codex := { sessions := [{ session0 with isOpen := true, role := 3 }] } }, _, { m0 with session := 1 }, 3,
     { session0 with isOpen := true, role := 3 }, seesReq (by decide +kernel), by decide +kernel⟩,
   ⟨up, _, m0, zeros 4, 0, seesReq (by decide +kernel), by decide +kernel⟩,
   ⟨up, _, m0, zeros 69, 0, seesReq (by decide +kernel), by decide +kernel⟩,
   ⟨up, _, q0, 0, 3, seesReq (by decide +kernel), by decide +kernel⟩,
   ⟨{ up with chop := { unsealed := false } }, _, q0, 0, 3, seesReq (by decide +kernel), by decide +kernel⟩⟩

theorem test_meets_SpdmExchanges :
    (∃ (s : State) (c : Fin 3), s.boot.done.getLsbD 2 = true) ∧
    (∃ (s : State) (c : Fin 3) (v : BitVec 8), s.boot.done.getLsbD 2 = true ∧ (s.sec.spdm.get {} c).stage ≠ 0 ∧ ((v.toNat = 0x12 ∨ v.toNat = 0x13))) ∧
    (∃ (s : State) (c : Fin 3) (v : BitVec 8), s.boot.done.getLsbD 2 = true ∧ (s.sec.spdm.get {} c).stage = 0) ∧
    (∃ (s : State) (c : Fin 3) (e h : Bool), s.boot.done.getLsbD 2 = true ∧ 2 ≤ (s.sec.spdm.get {} c).stage ∧ (e || h) = true) ∧
    (∃ (s : State) (c : Fin 3) (x : List Byte), s.boot.done.getLsbD 2 = true ∧ 3 ≤ (s.sec.spdm.get {} c).stage ∧ s.slotChain = some x) ∧
    (∃ (s : State) (c : Fin 3) (o n : BitVec 16) (x p : List Byte), s.boot.done.getLsbD 2 = true ∧ 3 ≤ (s.sec.spdm.get {} c).stage ∧
      s.slotChain = some x ∧ o.toNat < x.length ∧ p = slice x o.toNat (min n.toNat 1024)) ∧
    (∃ (s : State) (c : Fin 3) (n : List Byte), s.boot.done.getLsbD 2 = true ∧ 3 ≤ (s.sec.spdm.get {} c).stage ∧ s.slotChain.isSome = true) ∧
    (∃ (s : State) (c : Fin 3), s.boot.done.getLsbD 2 = true ∧ 3 ≤ (s.sec.spdm.get {} c).stage) ∧
    (∃ (s : State) (c : Fin 3) (o : BitVec 8), s.boot.done.getLsbD 2 = true ∧ 3 ≤ (s.sec.spdm.get {} c).stage ∧ 1 ≤ o.toNat ∧ o.toNat ≤ 7) ∧
    (∃ (s : State) (c : Fin 3), s.boot.done.getLsbD 2 = false) :=
  ⟨⟨up, 2, by decide +kernel⟩,
   ⟨spdmUp, 0, 0x13, by decide +kernel⟩,
   ⟨up, 2, 0x12, by decide +kernel⟩,
   ⟨spdmUp, 0, true, false, by decide +kernel⟩,
   ⟨chained, 0, _, by decide +kernel, by decide +kernel, rfl⟩,
   ⟨chained, 0, 0, 1, _, _, by decide +kernel, by decide +kernel, rfl, Nat.succ_pos _, rfl⟩,
   ⟨chained, 0, [], by decide +kernel⟩,
   ⟨spdmUp, 0, by decide +kernel⟩,
   ⟨spdmUp, 0, 7, by decide +kernel⟩,
   ⟨State.reset, 2, by decide +kernel⟩⟩

theorem test_meets_SensorsAndChop :
    (∃ (s : State), s.powered = true) ∧
    (∃ (s : State), s.sec.boundary = true) ∧
    (∃ (s : State) (k : Fin 7), s.powered = true ∧ s.boot.done.getLsbD 3 = true ∧ s.param 0x1030 (1 + k.val) = 0) ∧
    (∃ (s : State) (k : Fin 7), s.powered = true ∧ s.boot.done.getLsbD 3 = true ∧ s.param 0x1030 (1 + k.val) = 1) ∧
    (∃ (s : State) (k : Fin 7), s.powered = true ∧ s.boot.done.getLsbD 3 = false) ∧
    (∃ (s : State) (m : Metered), s.chop.running = true ∧ s.chop.unsealed = true) ∧
    (∃ (s : State) (m : Metered), s.chop.running = true ∧ s.chop.unsealed = false) ∧
    (∃ (s : State) (x : Bool) (m : Metered), s.chop.unsealed = x) ∧
    (∃ (s : State) (h : List Byte), s.chop.running = true ∧ s.boot.done.getLsbD 2 = true ∧ s.chop.ready = false ∧
      dataPayload s.flash 0x0013 = some h) ∧
    (∃ (s : State) (x : Bool), s.coreUp = true) ∧
    (∃ (s : State) (m : Metered), s.atBoundary = true) ∧
    (∃ (s : State) (m : Metered), s.atBoundary = false) ∧
    (∃ (s : State) (n : BitVec 32) (x : ChopRecord), s.chop.held.find? (fun y => y.no = n.toNat) = some x ∧ s.boot.done.getLsbD 2 = true) :=
  ⟨⟨up, by decide +kernel⟩,
   ⟨{ up with sec := { boundary := true } }, by decide +kernel⟩,
   ⟨{ up with params := [(objKey 0x1030 7, 0)] }, 6, by decide +kernel⟩,
   ⟨{ up with params := [(objKey 0x1030 7, 1)] }, 6, by decide +kernel⟩,
   ⟨{ up with boot := {} }, 6, by decide +kernel⟩,
   ⟨{ up with chop := { running := true } }, {}, by decide +kernel⟩,
   ⟨{ up with chop := { running := true, unsealed := false } }, {}, by decide +kernel⟩,
   ⟨up, true, {}, by decide +kernel⟩,
   ⟨{ up with chop := { running := true }, flash := { a := flashOf 0x02210000 0x13 } }, [1], by decide +kernel⟩,
   ⟨up, true, by decide +kernel⟩,
   ⟨{ up with now := up.chop.interval * 60 * 10 ^ 12 }, {}, by decide +kernel⟩,
   ⟨up, {}, by decide +kernel⟩,
   ⟨{ up with chop := { held := [{ no := 0, bytes := [] }] } }, 0, { no := 0, bytes := [] }, by decide +kernel⟩⟩

theorem test_meets_JobInstants :
    (∃ (s : State) (j : Fin 4096), (s.slot j).state = .prepared ∧ (s.slot j).coordinator = true ∧ (s.slot j).commitHeld = false ∧
      (s.slot j).ackDeadline ≤ s.cellNow) ∧
    (∃ (s : State) (j : Fin 4096), (s.slot j).state = .prepared ∧ (s.slot j).commitHeld = true ∧ (s.slot j).startCell ≤ s.cellNow) ∧
    (∃ (s : State) (j : Fin 4096), (s.slot j).state ≠ .prepared) ∧
    (∃ (s : State) (j : Fin 4096), (s.slot j).state = .prepared ∧ (s.slot j).commitHeld = false ∧
      (s.slot j).startCell ≤ s.cellNow + s.guardCells ∧ (s.slot j).coordinator = false) ∧
    (∃ (s : State) (j : Fin 4096), (s.slot j).state = .draining ∧ s.drained j = true) ∧
    (∃ (s : State) (j : Fin 4096), s.drained j = false) ∧
    (∃ (s : State) (j : Fin 4096), (s.slot j).state = .quarantine ∧ s.service = true ∧ (s.slot j).quarantineAt + s.quarantineCells ≤ s.cellNow) ∧
    (∃ (s : State) (j : Fin 4096), s.cellNow < (s.slot j).quarantineAt + s.quarantineCells) ∧
    (∃ (s : State) (r : Nat × Nat × Nat) (l : List (Nat × Nat × Nat)), s.faults.scrubList = r :: l ∧ s.boot.done.getLsbD 5 = true ∧
      r.2.2 * 1000 ≤ s.faults.scrubbed) ∧
    (∃ (s : State), s.faults.scrubList = []) ∧
    (∃ (s : State) (j : Fin 4096), (s.slot j).state = .prepared ∧ (s.slot j).shareOwed = true ∧ (s.slot j).coordinator = false ∧
      (s.slot j).shareSpaced s.now = true) :=
  ⟨⟨slotIs { state := .prepared, coordinator := true }, 0, by decide +kernel⟩,
   ⟨slotIs { state := .prepared, commitHeld := true }, 0, by decide +kernel⟩,
   ⟨up, 4095, by decide +kernel⟩,
   ⟨slotIs { state := .prepared }, 0, by decide +kernel⟩,
   ⟨slotIs { state := .draining }, 0, by decide +kernel⟩,
   ⟨{ up with coll := { ranges := [(0, some { range0 with job := 0 })] } }, 0, by decide +kernel⟩,
   ⟨{ slotIs { state := .quarantine } with time := { sec := 100 } }, 0, by decide +kernel⟩,
   ⟨slotIs { state := .quarantine }, 0, by decide +kernel⟩,
   ⟨{ up with faults := { scrubList := [(0, 0, 64)], scrubbed := 64000 } }, (0, 0, 64), [], by decide +kernel⟩,
   ⟨up, by decide +kernel⟩,
   ⟨slotIs { state := .prepared, shareOwed := true }, 0, by decide +kernel⟩⟩

theorem test_meets_FaultHandling :
    (∃ (s : State) (u : BitVec 16) (c : Fin 12) (d : BitVec 64), isUnit u.toNat = true ∧ s.boot.phase ≠ .off) ∧
    (∃ (s : State) (u : BitVec 16) (c : Fin 12) (d : BitVec 64), isUnit u.toNat = false) ∧
    (∃ (s : State) (r : DumpRun), s.faults.dumping = some r ∧ s.faults.warmAfterDump = false) ∧
    (∃ (s : State), s.faults.dumping = none) ∧
    (∃ (s : State), s.param 0x2481 1 ≠ 0 ∧ s.boot.done.getLsbD 2 = true) ∧
    (∃ (s : State), s.param 0x2481 1 = 0) ∧
    (∃ (s : State) (k : Fin 32), s.faults.proofUnit = some (0x0A00 + k.val) ∧ s.faults.proofOpen = true ∧ (s.nib k).passes.any (·.started) = false) ∧
    (∃ (s : State), s.faults.proofUnit = none) ∧
    (∃ (s : State), s.boot.done.getLsbD 2 = true ∧ s.faults.historyDirty = true ∧ ((s.faults.historyAt = none ∨ ∃ t, s.faults.historyAt = some t ∧
      t + 60 * 10 ^ 12 ≤ s.now))) ∧
    (∃ (s : State) (t : Nat), s.faults.historyAt = some t ∧ s.now < t + 60 * 10 ^ 12) ∧
    (∃ (s : State), s.faults.historyDirty = false) ∧
    (∃ (s t : State), s.faultSeconds % 86400 = 0 ∧ s.faultSeconds / 86400 ≠ s.faults.decayedDay ∧
      t = s.modFaults (fun x => { x with decayedDay := s.faultSeconds / 86400 })) ∧
    (∃ (s : State) (h : BitVec 24) (c : BitVec 32) (x : Nat × Nat × Nat),
      s.faults.ownDigests.find? (fun x => x.1 = h.toNat * 2 ^ 32 + c.toNat) = some x ∧
        x.2.2 + recTimeout (s.slot (jobSlot h.toNat)).record.coll * 1000000 ≤ s.now) ∧
    (∃ (s : State) (u : Nat) (t : Nat × Nat) (k : Fin 10), u = 0x0B00 + k.val ∧ s.faults.proofUnit = some u ∧ s.faults.proofT = some t ∧
      s.faults.proofOpen = false ∧ toNs t ≤ toNs (s.time.sec, s.time.ns) ∧ (s.unit u).state = 3 ∧ u / 256 ≠ 0x0A) ∧
    (∃ (s : State) (t : Nat × Nat), s.faults.proofT = some t ∧ toNs (s.time.sec, s.time.ns) < toNs t) ∧
    (∃ (s : State) (k : Fin 32), s.faults.proofUnit = some (0x0A00 + k.val) ∧ (s.nib k).window = true) :=
  ⟨⟨up, 0x0A1F, 11, 0, by decide +kernel⟩,
   ⟨up, 0x0A20, 0, 0, by decide +kernel⟩,
   ⟨{ up with faults := { dumping := some dump0 } }, dump0, by decide +kernel⟩,
   ⟨up, by decide +kernel⟩,
   ⟨{ up with params := [(objKey 0x2481 1, 1)] }, by decide +kernel⟩,
   ⟨{ up with params := [(objKey 0x2481 1, 0)] }, by decide +kernel⟩,
   ⟨{ up with faults := { proofUnit := some 0x0A1F, proofOpen := true } }, 31, by decide +kernel⟩,
   ⟨up, by decide +kernel⟩,
   ⟨{ up with faults := { historyDirty := true } }, by decide +kernel, by decide +kernel, .inl rfl⟩,
   ⟨{ up with faults := { historyAt := some 0 } }, 0, by decide +kernel⟩,
   ⟨up, by decide +kernel⟩,
   ⟨{ up with time := { sec := 86400 } }, _, by decide +kernel, by decide +kernel, rfl⟩,
   ⟨{ up with faults := { ownDigests := [(2 ^ 32 + 2, 0, 0)] } }, 1, 2, (2 ^ 32 + 2, 0, 0), by decide +kernel⟩,
   ⟨{ up with faults := { proofUnit := some 0x0B09, proofT := some (0, 0), units := [(0x0B09, { state := 3 })] } }, 0x0B09, (0, 0), 9,
     by decide +kernel⟩,
   ⟨{ up with faults := { proofT := some (1, 0) } }, (1, 0), by decide +kernel⟩,
   ⟨{ nibIs { window := true } with faults := { proofUnit := some 0x0A00 } }, 0, by decide +kernel⟩⟩

theorem test_meets_StoredData :
    (∃ (s : State) (p : Bool) (a : Nat) (l : List Byte), s.boot.done.getLsbD 7 = true ∧ l ≠ [] ∧ (s.quillRegion p).1 ≤ a ∧
      a + l.length ≤ (s.quillRegion p).1 + (s.quillRegion p).2 ∧ s.lpdPresent a l.length = true ∧ s.mem.zeroDone = true) ∧
    (∃ (s : State) (p : Bool) (a : Nat) (l : List Byte), s.boot.done.getLsbD 7 = true ∧ (s.quillRegion p).1 ≤ a ∧ l ≠ [] ∧
      a + l.length ≤ (s.quillRegion p).1 + (s.quillRegion p).2 ∧ s.lpdPresent a l.length = true ∧ s.mem.fillPassed a l.length = false) ∧
    (∃ (s : State) (p : Bool) (a : Nat) (l : List Byte) (e d : Ecc) (x : Bool), a < (s.quillRegion p).1) ∧
    (∃ (s : State) (t : BitVec 16) (l : List Byte), s.boot.done.getLsbD 2 = true ∧ t.toNat ≠ 1 ∧ t.toNat ≠ 5) ∧
    (∃ (s : State) (l : List Byte), s.boot.done.getLsbD 2 = true) ∧
    (∃ (s : State) (t : BitVec 16) (l : List Byte), s.boot.done.getLsbD 2 = false) ∧
    (∃ (s : State), ((s.power.lastOff = 0 ∨ s.power.lastOff = 1 ∨ s.power.lastOff = 4 ∨ s.power.lastOff = 5 ∨ s.power.lastOff = 8))) ∧
    (∃ (s : State), ((s.power.lastOff = 2 ∨ s.power.lastOff = 3 ∨ s.power.lastOff = 6 ∨ s.power.lastOff = 7))) :=
  ⟨⟨up, true, 8 * gib + up.p0Size, [1], by decide +kernel⟩,
   ⟨{ up with mem := { lpd := 0xFFFF } }, false, 8 * gib, [1], by decide +kernel⟩,
   ⟨up, false, 0, [], .good, .good, false, by decide +kernel⟩,
   ⟨up, 4, [1], by decide +kernel⟩,
   ⟨up, [], by decide +kernel⟩,
   ⟨State.reset, 4, [], by decide +kernel⟩,
   ⟨{ State.reset with power := { lastOff := 8 } }, by decide +kernel⟩,
   ⟨{ State.reset with power := { lastOff := 7 } }, by decide +kernel⟩⟩

theorem test_meets_OwnPilot :
    ∃ (s : State) (f : Fin 64) (w : Fin 17) (i : Fin 5), s.boot.photonic = true ∧ (s.source (f / 4) i).state = .active ∧
      (s.source (f / 4) i).feeds = f % 4 ∧ (∀ c ∈ s.hatch.conns, hatchPort f w ∉ c.outs ∨ w.val < 12 ∨ w.val = 16) :=
  ⟨{ engIs { sources := srcs { state := .active, feeds := 0 } {} } with hatch := { conns := [{ multi0 with outs := [7] }] } }, 0, 5, 0,
    by decide +kernel⟩

theorem test_own_pilot_of_channel_5 :
    ({ engIs { sources := srcs { state := .active, feeds := 0 } {} } with hatch := {} } : State).pilotOut 0 5 = some 0xD29A := by decide +kernel

end Sys2Proof.Tests
end

section
/-!
PROOFS. Flags and counters (R2, R373, R406, R407), and the reads of the 64-bit registers of BAR0 with their latched high words (R4).
-/

namespace Sys2Proof.Machine

/-! ### Flags and counters -/

theorem State.flag_setFlag_same (s : State) (i b : Nat) (hb : b < 32) : (s.setFlag i b).flag i b = true := by
  simp [State.flag_setFlag s i b i b hb]

theorem State.flag_setFlag_other (s : State) (i b j c : Nat) (hb : b < 32) (h : j ≠ i ∨ c ≠ b) :
    (s.setFlag i b).flag j c = s.flag j c := by
  rcases h with h | h <;> simp [State.flag_setFlag s i b j c hb, h]

/-- The occurrence counter of a flag stops at 65,535 (R407). -/
theorem State.flagCount_setFlag (s : State) (i b : Nat) : ((s.setFlag i b).flagObj i).counts.get 0 b =
    if (s.flagObj i).counts.get 0 b < 65535 then (s.flagObj i).counts.get 0 b + 1 else (s.flagObj i).counts.get 0 b := by
  rw [State.flagObj_setFlag, if_pos rfl]
  exact Tab.get_upd_same (s.flagObj i).counts _

theorem State.flagObj_clearFlags (s : State) (i : Nat) (v : Word32) (j : Nat) : (s.clearFlags i v).flagObj j =
    if j = i then { s.flagObj i with val := (s.flagObj i).val &&& ~~~v } else s.flagObj j := by
  have hkey : objKey j 1 = objKey i 1 ↔ j = i := ⟨fun h => (objKey_inj (by decide) (by decide) h).1, fun h => by rw [h]⟩
  unfold State.flagObj State.clearFlags
  simp only [Tab.get_upd, hkey]

theorem State.flag_clearFlags (s : State) (i : Nat) (v : Word32) (j c : Nat) (hc : c < 32) :
    (s.clearFlags i v).flag j c = (s.flag j c && !(decide (j = i) && v.getLsbD c)) := by
  unfold State.flag
  rw [State.flagObj_clearFlags]
  by_cases h : j = i
  · subst h; simp [hc]
  · simp [h]

/-- A clear leaves every occurrence counter (R407). -/
theorem State.flagCounts_clearFlags (s : State) (i : Nat) (v : Word32) (j : Nat) :
    ((s.clearFlags i v).flagObj j).counts = (s.flagObj j).counts := by
  rw [State.flagObj_clearFlags]
  split
  next h => rw [h]
  · rfl

/-! ### Latched high words -/

@[simp] theorem State.latched_emit (s : State) (o : Output) (src : DopSrc) (k : Nat) : (s.emit o).latched src k = s.latched src k := rfl

/-- Of the latches without those of one requester and key, the rest are found as before. -/
theorem find_latch_filter (l : List (DopSrc × Nat × Nat)) (src src' : DopSrc) (key k : Nat) :
    (l.filter (fun e => !(e.1 = src && e.2.1 = key))).find? (fun e => e.1 = src' && e.2.1 = k) =
      if src' = src ∧ k = key then none else l.find? (fun e => e.1 = src' && e.2.1 = k) := by
  rw [List.find?_filter]
  split
  next h =>
    obtain ⟨rfl, rfl⟩ := h
    exact List.find?_eq_none.2 (fun e _ => by simp [imp_iff_not_or])
  next h =>
    have hkeeps (e : DopSrc × Nat × Nat) (he : e.1 = src' ∧ e.2.1 = k) : ¬ (e.1 = src ∧ e.2.1 = key) :=
      fun hs => h ⟨he.1.symm.trans hs.1, he.2.symm.trans hs.2⟩
    congr 1
    funext e
    simpa [imp_iff_not_or] using hkeeps e

theorem State.latched_dropLatch (s : State) (src src' : DopSrc) (key k : Nat) :
    (s.dropLatch src key).latched src' k = if src' = src ∧ k = key then none else s.latched src' k := by
  unfold State.latched State.dropLatch
  rw [State.modCodex_codex, find_latch_filter]
  split <;> rfl

theorem State.latched_latchHigh (s : State) (src src' : DopSrc) (key k v : Nat) :
    (s.latchHigh src key v).latched src' k = if src' = src ∧ k = key then some v else s.latched src' k := by
  unfold State.latched State.latchHigh
  rw [State.modCodex_codex, List.find?_append, find_latch_filter]
  split
  next h => simp [h]
  next h =>
    have hne : ¬ (src = src' ∧ key = k) := fun e => h ⟨e.1.symm, e.2.symm⟩
    simp [hne]

/-! ### Reads of BAR0 -/

/-- A 64-bit register starts at a multiple of 8. -/
theorem State.barReg64_aligned {s : State} {fn off v : Nat} (h : s.barReg64 fn off = some v) : off % 8 = 0 := by
  by_contra hn
  simp [State.barReg64, hn] at h

theorem State.barReg64_unaligned (s : State) (fn : Nat) {off : Nat} (h : off % 8 ≠ 0) : s.barReg64 fn off = none := by
  simp [State.barReg64, h]

theorem State.barRead64_reg {s : State} {fn off v : Nat} (h : s.barReg64 fn off = some v) : s.barRead64 fn off = v := by
  simp [State.barRead64, h]

theorem State.barRead32_low {s : State} {fn off v : Nat} (h : s.barReg64 fn off = some v) :
    s.barRead32 fn off = (v % 2 ^ 32, s.latchHigh (fnSrc fn) (off + 4) (v / 2 ^ 32)) := by
  simp [State.barRead32, h]

/-- A high word is read from its latch where there is one, and live otherwise; the read takes the latch. -/
theorem State.barRead32_high {s : State} {fn off v : Nat} (h : s.barReg64 fn off = some v) :
    s.barRead32 fn (off + 4) = ((s.latched (fnSrc fn) (off + 4)).getD (v / 2 ^ 32), s.dropLatch (fnSrc fn) (off + 4)) := by
  have h0 : off % 8 = 0 := State.barReg64_aligned h
  have h4 : (off + 4) % 8 = 4 := by omega
  have hnone : s.barReg64 fn (off + 4) = none := s.barReg64_unaligned fn (by omega)
  simp [State.barRead32, hnone, h4, h]

theorem exec_lowWordRead_wide {s : State} {f : Fin 130} {o : BitVec 20} (hp : s.fnPresent f = true) (hb : barHas f o.toNat true = true) :
    exec (.lowWordRead f o true) s = .next (s.emit (.readData (fnSrc f) (s.barRead64 f o.toNat))) := by
  change execLowWordRead f o true s = _
  simp [execLowWordRead, hp, hb]

theorem exec_lowWordRead_narrow {s t : State} {f : Fin 130} {o : BitVec 20} {v : Nat} (hp : s.fnPresent f = true)
    (hb : barHas f o.toNat false = true) (hr : s.barRead32 f o.toNat = (v, t)) :
    exec (.lowWordRead f o false) s = .next (t.emit (.readData (fnSrc f) v)) := by
  change execLowWordRead f o false s = _
  simp [execLowWordRead, hp, hb, hr]

end Sys2Proof.Machine

open Sys2Proof Sys2Proof.Machine

/-- Settles O8: the low read latches its high word, and the high read finds the latch that stands. -/
theorem wideRegisterReads : Obligations.WideRegisterReads := by
  unfold Obligations.WideRegisterReads
  refine ⟨?wide, ?low, ?highLatched, ?highLive⟩
  case wide =>
    intro s f o v hp hb hv
    rw [exec_lowWordRead_wide hp hb, State.barRead64_reg hv]
  case low =>
    intro s f o v hp hb hv
    refine ⟨_, exec_lowWordRead_narrow hp hb (State.barRead32_low hv), ?_, fun src k hne => ?_⟩
    · rw [State.latched_latchHigh, if_pos ⟨rfl, rfl⟩]
    · rw [State.latched_latchHigh, if_neg (fun h => hne.elim (· h.1) (· h.2))]
  case highLatched =>
    intro s f o h v x ho hp hb hv hx
    have hr := State.barRead32_high hv
    rw [← ho, hx] at hr
    refine ⟨_, exec_lowWordRead_narrow hp hb hr, ?_⟩
    rw [State.latched_dropLatch, if_pos ⟨rfl, rfl⟩]
  case highLive =>
    intro s f o h v ho hp hb hv hx
    have hr := State.barRead32_high hv
    rw [← ho, hx] at hr
    exact ⟨_, exec_lowWordRead_narrow hp hb hr⟩

/-- Settles O13, from what a set, a clear and a count each read back. -/
theorem flagsAndCounters : Obligations.FlagsAndCounters := by
  unfold Obligations.FlagsAndCounters
  exact ⟨fun s i b hb => ⟨s.flag_setFlag_same i b hb, s.flagCount_setFlag i b⟩,
    fun s i b j c hb h => s.flag_setFlag_other i b j c hb h,
    fun s i v j c hc => ⟨s.flag_clearFlags i v j c hc, s.flagCounts_clearFlags i v j⟩,
    fun s i k n j m hk hm => s.counter_count i k n j m hm hk⟩

end

section
/-!
PROOFS. The switch core's next states: admission (R182, R208), matching and cells in transit (R180 to R186), planes (R192), and
coordinate tables (R14, R197).
-/

namespace Sys2Proof.Machine

/-! ### Admission -/

theorem exec_frameAdmit_offer {s : State} {src : Fin 164} {l : Nat} {tc : Fin 8} {o : Offer}
    (hf : s.core.offers.find? (fun o => o.src = src.val && o.link = l && o.tc = tc.val) = some o)
    (hok : o.tc = 0 → s.tc0Ok o.src o.dst = true) (ha : s.admits (cellsOf o.bytes.length) o.tc o.dst.charge = true) :
    exec (.frameAdmit src l tc) s = .next (((s.dropOffer o).store o).admitted o.origin) := by
  change execFrameAdmit src l tc s = _
  have hpass : ¬ (o.tc = 0 ∧ s.tc0Ok o.src o.dst = false) := fun ⟨h0, hn⟩ => by simp [hok h0] at hn
  simp [execFrameAdmit, hf, hpass, ha]

/-- A class 0 frame that the schedule does not allow is dropped, counted and flagged (R208). -/
theorem exec_frameAdmit_unscheduled {s : State} {src : Fin 164} {l : Nat} {tc : Fin 8} {o : Offer}
    (hf : s.core.offers.find? (fun o => o.src = src.val && o.link = l && o.tc = tc.val) = some o)
    (h0 : o.tc = 0) (hno : s.tc0Ok o.src o.dst = false) :
    exec (.frameAdmit src l tc) s = .next ((((s.dropOffer o).countUnit 7 0 5).setFlag 0x6501 4).admitted o.origin) := by
  change execFrameAdmit src l tc s = _
  simp [execFrameAdmit, hf, h0, hno]

/-! ### Matching -/

/-- A cell time after the last one matched is matched, and so is the first. -/
theorem exec_cellTimeMatch_unmatched {s : State} (h : ∀ u, s.core.lastMatch = some u → u < s.cellNow) :
    exec .cellTimeMatch s = .next (s.cellTime s.cellNow).shaperWaits := by
  change execCellTimeMatch s = _
  unfold execCellTimeMatch
  cases hl : s.core.lastMatch with
  | none => rfl
  | some u => exact if_pos (h u hl)

theorem exec_cellTimeMatch_matched {s : State} {u : Nat} (hl : s.core.lastMatch = some u) (hu : s.cellNow ≤ u) :
    exec .cellTimeMatch s = .next s := by
  change execCellTimeMatch s = _
  simp [execCellTimeMatch, hl, Nat.not_lt.2 hu]

/-! ### Cells in transit -/

/-- A cell whose payload reads well goes on by its header check alone. -/
theorem exec_cellArrive_good {s : State} {p : Fin 10} {d : Fin 164} {x : Transit} (flip : BitVec 128)
    (hf : s.core.transit.find? (fun x => x.plane = p.val && x.cell.dst = d.val && x.due ≤ s.cellNow) = some x) :
    exec (.cellArrive p d flip .good) s = .next
      (if headerOk (BitVec.ofNat 128 x.cell.header ^^^ flip).toNat then
        (s.modCore (fun c => { c with transit := c.transit.erase x })).resequence d
          (x.cell.received (BitVec.ofNat 128 x.cell.header ^^^ flip).toNat)
      else (s.modCore (fun c => { c with transit := c.transit.erase x })).badCell p x.cell) := by
  change execCellArrive p d flip .good s = _
  unfold execCellArrive
  rw [hf]
  dsimp only [State.sramEcc]
  generalize (BitVec.ofNat 128 x.cell.header ^^^ flip).toNat = h
  cases headerOk h with
  | true => simp
  | false => simp

theorem exec_reseqGapTimeout_expired {s : State} {d r : Fin 164} (hh : (s.core.context d r).held ≠ [])
    (ht : (s.core.context d r).timer + 2000000 ≤ s.now) : exec (.reseqGapTimeout d r) s = .next (s.declareLoss d r) := by
  change execReseqGapTimeout d r s = _
  simp [execReseqGapTimeout, hh, Nat.not_lt.2 ht]

/-! ### Planes -/

/-- A plane out of PLANES_IN, and the change flagged (R193). -/
def State.leavesPlanesIn (s : State) (p : Fin 10) : State :=
  (s.modCore (fun c => { c with out_ := c.out_ ||| BitVec.ofNat 10 (2 ^ p.val) })).setFlag 0x64C1 1

theorem State.leavesPlanesIn_out (s : State) (p : Fin 10) : (s.leavesPlanesIn p).core.out_.getLsbD p = true := by
  simp [State.leavesPlanesIn, BitVec.getLsbD_ofNat, Nat.testBit_two_pow_self, -BitVec.ofNat_pow]

theorem State.leavesPlanesIn_flag (s : State) (p : Fin 10) : (s.leavesPlanesIn p).flag 0x64C1 1 = true :=
  State.flag_setFlag_same _ 0x64C1 1 (by decide)

/-- The last plane out is a fault of the module (R192). -/
theorem exec_planeDrained_empty {s : State} {p : Fin 10} (hn : s.core.noMatch.getLsbD p = true) (ho : s.core.out_.getLsbD p = false)
    (ht : s.core.transit.any (fun x => x.plane = p.val) = false) :
    exec (.planeDrained p) s =
      .next (if (s.leavesPlanesIn p).core.planeCount = 0 then (s.leavesPlanesIn p).moduleFault (unitId 6 p) else s.leavesPlanesIn p) := by
  change execPlaneDrained p s = _
  unfold execPlaneDrained
  rw [if_pos (by simp only [hn, ho, ht]; rfl)]
  rfl

/-! ### Coordinate tables -/

/-- With no link enabled no coordinate is shared, and the table is held pending. -/
theorem exec_coordTableCommit_nil {s : State} (h : s.enabledLinks = []) :
    exec (.coordTableCommit []) s = .next (s.modCore (fun c => { c with pendingCoords := some [] })) := by
  change execCoordTableCommit [] s = _
  simp [execCoordTableCommit, h]

/-- With no frame stored none keeps the older table, and the pending one becomes current. -/
theorem exec_coordCommitApply_noFrames {s : State} {t : Coords} (hp : s.core.pendingCoords = some t) (hf : s.core.frames = []) :
    exec .coordCommitApply s = .next (s.modCore (fun c =>
      { c with coordsOld := c.coords, coords := t, ctVer := !c.ctVer, pendingCoords := none })) := by
  change execCoordCommitApply s = _
  simp [execCoordCommitApply, hp, hf]

end Sys2Proof.Machine

open Sys2Proof Sys2Proof.Machine

/-- Settles O39, from one rule for each command's branch. -/
theorem switchCore : Obligations.SwitchCore := by
  unfold Obligations.SwitchCore
  refine ⟨?admits, ?unscheduled, ?first, ?later, ?again, ?arrives, ?disturbed, ?gap, ?drained, ?commit, ?apply⟩
  case admits => exact fun s src l tc o hf h0 ha => exec_frameAdmit_offer hf (absurd · h0) ha
  case unscheduled => exact fun s src l tc o hf h0 hno => exec_frameAdmit_unscheduled hf h0 hno
  case first => exact fun s hl => exec_cellTimeMatch_unmatched (by simp [hl])
  case later => exact fun s u hl hu => exec_cellTimeMatch_unmatched (by simp [hl, hu])
  case again => exact fun s u hl hu => exec_cellTimeMatch_matched hl hu
  case arrives =>
    intro s p d x hf hok
    have hx : BitVec.ofNat 128 x.cell.header ^^^ 0 = BitVec.ofNat 128 x.cell.header := BitVec.xor_zero
    rw [exec_cellArrive_good 0 hf, hx, if_pos hok]
  case disturbed =>
    intro s p d flip x hf hbad
    rw [exec_cellArrive_good flip hf, if_neg (ne_true_of_eq_false hbad)]
  case gap => exact fun s d r hh ht => exec_reseqGapTimeout_expired hh ht
  case drained =>
    exact fun s p hn ho ht => ⟨s.leavesPlanesIn p, exec_planeDrained_empty hn ho ht, s.leavesPlanesIn_out p, s.leavesPlanesIn_flag p⟩
  case commit => exact fun s h => exec_coordTableCommit_nil h
  case apply => exact fun s t hp hf => exec_coordCommitApply_noFrames hp hf

end

section
/-!
PROOFS. The power stage: orderly and abrupt shutdown, the events of its input, restarts and the rail sequence (R27 to R46).
-/

namespace Sys2Proof.Machine

/-! ### Turning off -/

/-- The rails are off, the core with them, and LAST_OFF_CAUSE stands at `c`. -/
def State.OffWith (s : State) (c : Nat) : Prop :=
  s.power.groups = 0 ∧ s.power.pwrOk = false ∧ s.boot.phase = .off ∧ s.power.lastOff = c

theorem State.turnOff_offWith (s : State) (c : Nat) : (s.turnOff c).OffWith c := ⟨rfl, rfl, rfl, rfl⟩

@[simp] theorem sendAbort_power (s : State) (c f : Nat) : (sendAbort s c f).power = s.power := rfl

/-- ABORT leaves the power stage alone. -/
@[simp] theorem abortAll_power (s : State) (c : Nat) : (abortAll s c).power = s.power := by
  unfold abortAll
  exact State.forEach_keeps State.power (fun s f => sendAbort s c f) (fun s f => sendAbort_power s c f) _ s

@[simp] theorem State.abortLit_power (s : State) (c : Nat) : (s.abortLit c).power = s.power := by
  unfold State.abortLit
  split
  · exact abortAll_power s c
  · rfl

@[simp] theorem State.turnOff_sysclk (s : State) (c : Nat) : (s.turnOff c).power.sysclk = s.power.sysclk := rfl

@[simp] theorem State.abrupt_sysclk (s : State) (c : Nat) : (s.abrupt c).power.sysclk = s.power.sysclk := by
  simp [State.abrupt]

theorem State.trip_offWith (s : State) : s.trip.OffWith 4 := State.turnOff_offWith _ 4

/-- LAST_OFF_CAUSE of what starts an orderly shutdown (R36). -/
def OffBy.cause : OffBy → Nat
  | .en => 1
  | .overvoltage => 3
  | .holdup => 6

/-- LAST_OFF_CAUSE of an orderly shutdown for `c`: an undervoltage or a trip that cuts it short gives its own (R33). -/
def offCause (env : ShutdownEnv) (c : Nat) : Nat :=
  match env.cutBefore with
  | none => c
  | some (_, false) => 2
  | some (_, true) => 4

/-- Whatever steps of an orderly shutdown ran, its last one is a trip, an undervoltage, or step 6. -/
theorem State.orderly_ends (s : State) (by_ : OffBy) (env : ShutdownEnv) : ∃ u : State, s.orderly by_ env =
    match env.cutBefore with
    | some (_, true) => u.trip
    | some (_, false) => (u.abrupt 2).modPower (fun p => { p with vinOk := false })
    | none => u.offStep by_ env :=
  ⟨_, rfl⟩

/-- Step 6 turns off, unless a hold-up warning has ended by then (R33). -/
theorem State.offStep_offWith {by_ : OffBy} {env : ShutdownEnv} (s : State) (h : by_ = .holdup → env.warnHigh = false) :
    (s.offStep by_ env).OffWith by_.cause := by
  cases by_ with
  | en => exact s.turnOff_offWith 1
  | overvoltage => exact s.turnOff_offWith 3
  | holdup =>
    have hstays : s.offStep .holdup env = s.turnOff 6 := by simp [State.offStep, h rfl]
    rw [hstays]
    exact s.turnOff_offWith 6

theorem State.orderly_offWith {by_ : OffBy} {env : ShutdownEnv} (s : State) (h : by_ = .holdup → env.warnHigh = false) :
    (s.orderly by_ env).OffWith (offCause env by_.cause) := by
  obtain ⟨u, hu⟩ := s.orderly_ends by_ env
  rw [hu]
  unfold offCause
  rcases env.cutBefore with _ | ⟨_, _ | _⟩
  · exact u.offStep_offWith h
  · exact (u.abortLit 2).turnOff_offWith 2
  · exact u.trip_offWith

/-! ### Events of the input and of EN -/

/-- The power stage once EN has been sensed low (R32). -/
def Power.enLow (p : Power) (now : Nat) : Power := { p with en := false, enLowAt := some now, enAgain := false, ilimitOffs := [] }

theorem exec_enFall_unpowered {s : State} (env : ShutdownEnv) (he : s.power.en = true) (hp : s.powered = false) :
    exec (.enFall env) s = .next (s.modPower (·.enLow s.now)) := by
  change execEnFall env s = _
  have hq : (s.modPower (·.enLow s.now)).powered = false := hp
  unfold Power.enLow at hq ⊢
  simp [execEnFall, he, hq]

/-- After a VIO_1V8 overload the rails go off as EN falls, with no shutdown sequence (R27). -/
theorem exec_enFall_locked {s : State} (env : ShutdownEnv) (he : s.power.en = true) (hp : s.powered = true)
    (hv : s.power.vioLock = true) : exec (.enFall env) s = .next (s.modPower (·.enLow s.now)).railsOff := by
  change execEnFall env s = _
  have hq : (s.modPower (·.enLow s.now)).powered = true := hp
  unfold Power.enLow at hq ⊢
  simp [execEnFall, he, hq, hv]

theorem exec_enFall_orderly {s : State} (env : ShutdownEnv) (he : s.power.en = true) (hp : s.powered = true)
    (hv : s.power.vioLock = false) : exec (.enFall env) s = .next ((s.modPower (·.enLow s.now)).orderly .en env) := by
  change execEnFall env s = _
  have hq : (s.modPower (·.enLow s.now)).powered = true := hp
  unfold Power.enLow at hq ⊢
  simp [execEnFall, he, hq, hv]

theorem exec_vinOvervoltage (s : State) (env : ShutdownEnv) : exec (.vinOvervoltage env) s =
    .next (if s.powered then (s.modPower (fun p => { p with vinOk := false })).orderly .overvoltage env
      else s.modPower (fun p => { p with vinOk := false })) := rfl

theorem exec_holdupWarnAssert (s : State) (env : ShutdownEnv) : exec (.holdupWarnAssert env) s =
    .next (if s.powered then (s.modPower (fun p => { p with holdupWarn := true })).orderly .holdup env
      else s.modPower (fun p => { p with holdupWarn := true })) := rfl

theorem exec_vinUndervoltage (s : State) : exec .vinUndervoltage s =
    .next (if s.powered then (s.modPower (fun p => { p with vinOk := false })).abrupt 2
      else s.modPower (fun p => { p with vinOk := false })) := rfl

theorem State.pwrFlag_on {s : State} (b : Nat) (h : s.boot.phase ≠ .off) : s.pwrFlag b = s.setFlag 0x6200 b := by
  simp [State.pwrFlag, State.setFlagIf, h]

theorem exec_inputCurrentLimit_on {s : State} (hp : s.powered = true) (hb : s.boot.phase ≠ .off) :
    exec .inputCurrentLimit s = .next ((s.modPower (fun p => { p with limiting := true })).setFlag 0x6200 4) := by
  change execInputCurrentLimit s = _
  have hon : (s.modPower (fun p => { p with limiting := true })).boot.phase ≠ .off := hb
  rw [execInputCurrentLimit, if_pos hp, State.pwrFlag_on 4 hon]

/-- The instants of current limit shutdowns of the last 60 s, this one included (R29). -/
def State.limitOffs (s : State) : List Nat := s.power.ilimitOffs.filter (fun x => s.now < x + 60 * 10 ^ 12) ++ [s.now]

theorem exec_ilimitTimeout_limiting {s : State} (h : s.power.limiting = true) : exec .ilimitTimeout s =
    .next ((s.abrupt 7).modPower (fun p => { p with ilimitOffs := s.limitOffs, ilimitLock := 3 ≤ s.limitOffs.length })) := by
  change execIlimitTimeout s = _
  simp [execIlimitTimeout, h, State.limitOffs]

theorem exec_sensorTrip_powered {s : State} (x : Sensor) (h : s.powered = true) :
    exec (.sensorTrip x) s = .next (s.setHeat x 3).trip := by
  change execSensorTrip x s = _
  exact if_pos h

/-! ### The start of the rails -/

theorem State.railsStart_allowed {s : State} (h : s.startAllowed = true) :
    s.railsStart = (s.modPower (fun p => { p with ramping := true })).modBoot (fun b => { b with phase := .rails }) :=
  if_pos h

/-- A start waits for the rails to be off. -/
theorem State.unpowered_of_startAllowed {s : State} (h : s.startAllowed = true) : s.powered = false := by
  cases hp : s.powered with
  | false => rfl
  | true => simp [State.startAllowed, hp] at h

/-- Of the module a start of the rails changes the ramp and the phase alone. -/
theorem State.railsStart_rest (s : State) : ∃ r ph, s.railsStart =
    (s.modPower (fun p => { p with ramping := r })).modBoot (fun b => { b with phase := ph }) := by
  unfold State.railsStart
  split
  · exact ⟨_, _, rfl⟩
  · exact ⟨s.power.ramping, s.boot.phase, rfl⟩

theorem State.reviewEnAgain_rest (s : State) : ∃ e r ph, s.reviewEnAgain =
    (s.modPower (fun p => { p with enAgain := e, ramping := r })).modBoot (fun b => { b with phase := ph }) := by
  unfold State.reviewEnAgain
  split
  · obtain ⟨r, ph, h⟩ := (s.modPower (fun p => { p with enAgain := false })).railsStart_rest
    exact ⟨false, r, ph, h⟩
  · exact ⟨s.power.enAgain, s.power.ramping, s.boot.phase, rfl⟩

/-- Release of the latches is a change of the power stage alone. -/
theorem State.reviewEnLow_rest (s : State) : ∃ g, s.reviewEnLow = s.modPower g := by
  unfold State.reviewEnLow
  split
  · split
    · exact ⟨_, rfl⟩
    · exact ⟨id, rfl⟩
  · exact ⟨id, rfl⟩

theorem exec_enRise_low {s : State} (h : s.power.en = false) : exec .enRise s =
    .next (s.reviewEnLow.modPower (fun p => { p with en := true, enLowAt := none, vioLock := false, enAgain := true })).reviewEnAgain := by
  change execEnRise s = _
  simp [execEnRise, h]

theorem exec_autoRestart_own {s : State} (h : s.power.lastOff = 2 ∨ s.power.lastOff = 3 ∨ s.power.lastOff = 7)
    (hp : s.powered = false) : exec .autoRestart s = .next (s.modPower (fun p => { p with vinOk := true })).railsStart := by
  change execAutoRestart s = _
  exact if_pos (by simpa [hp, or_assoc] using h)

theorem exec_holdupRestart_own {s : State} (h : s.power.lastOff = 6) (hp : s.powered = false) : exec .holdupRestart s =
    .next (s.modPower (fun p => { p with vinOk := true, holdupWarn := false })).railsStart := by
  change execHoldupRestart s = _
  exact if_pos (by simp [h, hp])

theorem exec_railRetry_pending {s : State} (h : s.power.railRetry = true) : exec .railRetry s = .next s.railsStart := by
  change execRailRetry s = _
  exact if_pos h

/-! ### The clock and the low-voltage supply -/

theorem exec_vio1v8Overload_on {s : State} (h : s.power.vio18 = true) : exec .vio1v8Overload s =
    .next (s.holdCore.modPower (fun p => { p with vioLock := true, vio18 := false, lastOff := 8 })) := by
  change execVio1v8Overload s = _
  exact if_pos h

theorem exec_sysclkLoss_running {s : State} (h : s.running = true) : exec .sysclkLoss s =
    .next (((s.modPower (fun p => { p with sysclk := false })).abrupt 5).modPower (fun p =>
      { p with coreHeld := true, clockHold := true })) := by
  change execSysclkLoss s = _
  exact congrArg Host.Outcome.next (if_pos h)

theorem exec_sysclkAbsent_held {s : State} (hp : s.power.pwrOk = true) (hb : s.boot.phase = .cold 4) : exec .sysclkAbsent s =
    .next (s.modPower (fun p => { p with sysclk := false, clockHold := true })).holdCore := by
  change execSysclkAbsent s = _
  exact if_pos (by simp [hp, hb])

/-- The rails as a core that is held for want of SYSCLK leaves them when the clock returns: off (R37). -/
def State.clockReturns (s : State) : State :=
  (if s.powered then (s.modPower (fun p => { p with sysclk := true })).railsOff else s.modPower (fun p => { p with sysclk := true })).modPower
    (fun p => { p with coreHeld := false, clockHold := false })

theorem exec_sysclkReturn_held {s : State} (hs : s.power.sysclk = false) (hc : s.power.clockHold = true) (hv : s.power.vioLock = false) :
    exec .sysclkReturn s = .next s.clockReturns.railsStart := by
  change execSysclkReturn s = _
  have hq : (s.modPower (fun p => { p with sysclk := true })).powered = s.powered := rfl
  simp [execSysclkReturn, State.clockReturns, hs, hc, hv, hq]

theorem State.clockReturns_unpowered (s : State) : s.clockReturns.powered = false ∧ s.clockReturns.power.groups = 0 := by
  unfold State.clockReturns
  cases hp : s.powered with
  | true => exact ⟨rfl, rfl⟩
  | false =>
    have hg : s.power.groups = 0 := by
      simp only [State.powered, Bool.or_eq_false_iff, decide_eq_false_iff_not] at hp
      omega
    exact ⟨hp, hg⟩

@[simp] theorem State.clockReturns_sysclk (s : State) : s.clockReturns.power.sysclk = true := by
  unfold State.clockReturns
  split <;> rfl

@[simp] theorem State.clockReturns_flash (s : State) : s.clockReturns.flash = s.flash := by
  unfold State.clockReturns
  split <;> rfl

/-- Once the clock has returned the rails may start, where no latch holds (R37). -/
theorem State.clockReturns_startAllowed {s : State} (hv : s.power.vioLock = false) (he : s.power.en = true) (hi : s.power.vinOk = true)
    (ht : s.power.tripped = false) (hl : s.power.railLock = false) (hm : s.power.ilimitLock = false) (hs : s.power.secHold = false)
    (hb : s.boot.phase = .off) : s.clockReturns.startAllowed = true := by
  obtain ⟨hp, _⟩ := s.clockReturns_unpowered
  unfold State.startAllowed
  rw [hp]
  unfold State.clockReturns
  cases s.powered with
  | true => simp [State.railsOff, State.coreLost, State.modPower, hv, he, hi, ht, hl, hm, hs]
  | false => simp [hv, he, hi, ht, hl, hm, hs, hb]

/-! ### The rail sequence -/

theorem exec_railGroupRegulated_next {s : State} (hr : s.power.ramping = true) (hg : s.power.groups < 3) :
    exec .railGroupRegulated s = .next (s.modPower (fun p => { p with groups := p.groups + 1 })) := by
  change execRailGroupRegulated s = _
  simp [execRailGroupRegulated, hr, hg]

theorem exec_railGroupRegulated_last {s : State} (hr : s.power.ramping = true) (hg : 3 ≤ s.power.groups) :
    exec .railGroupRegulated s = .next ((s.modPower (fun p =>
      { p with groups := 4, ramping := false, pwrOk := true, vio18 := true, railRetry := false })).modBoot
      (fun b => { b with phase := .cold 4 })) := by
  change execRailGroupRegulated s = _
  simp [execRailGroupRegulated, hr, Nat.not_lt.2 hg]

theorem exec_railFault_ramping {s : State} (hr : s.power.ramping = true) : exec .railFault s =
    .next (s.railsOff.modPower (fun p => { p with railFaults := p.railFaults + 1, railLock := p.railRetry, railRetry := true })) := by
  change execRailFault s = _
  simp [execRailFault, hr]

end Sys2Proof.Machine

open Sys2Proof Sys2Proof.Machine

/-- Settles O15, from what the last step of an orderly shutdown leaves. -/
theorem orderlyShutdownCauses : Obligations.OrderlyShutdownCauses := by
  unfold Obligations.OrderlyShutdownCauses
  refine ⟨?en, ?overvoltage, ?holdup⟩
  case en =>
    intro s env he hp hv
    obtain ⟨hg, hk, hb, hl⟩ := (s.modPower (·.enLow s.now)).orderly_offWith (by_ := .en) (env := env) (by simp)
    exact ⟨_, exec_enFall_orderly env he hp hv, hg, hk, hb, hl⟩
  case overvoltage =>
    intro s env hp
    obtain ⟨hg, hk, hb, hl⟩ := (s.modPower (fun p => { p with vinOk := false })).orderly_offWith (by_ := .overvoltage) (env := env) (by simp)
    exact ⟨_, (exec_vinOvervoltage s env).trans (by rw [if_pos hp]), hg, hk, hb, hl⟩
  case holdup =>
    intro s env hp hw
    obtain ⟨hg, hk, hb, hl⟩ := (s.modPower (fun p => { p with holdupWarn := true })).orderly_offWith (by_ := .holdup) (fun _ => hw)
    exact ⟨_, (exec_holdupWarnAssert s env).trans (by rw [if_pos hp]), hg, hk, hb, hl⟩

/-- Settles O14, from one rule for each event's branch. -/
theorem powerInputEvents : Obligations.PowerInputEvents := by
  unfold Obligations.PowerInputEvents
  refine ⟨?enRise, ?enFallOff, ?enFallLocked, ?holdupOff, ?undervoltage, ?overvoltageOff, ?below30, ?above40, ?limit, ?limitTimeout, ?trip⟩
  case enRise =>
    intro s he
    obtain ⟨g, hlow⟩ := s.reviewEnLow_rest
    obtain ⟨e, r, ph, hagain⟩ :=
      (s.reviewEnLow.modPower (fun p => { p with en := true, enLowAt := none, vioLock := false, enAgain := true })).reviewEnAgain_rest
    refine ⟨_, exec_enRise_low he, ?_⟩
    rw [hagain, hlow]
    exact ⟨rfl, rfl, rfl, rfl, rfl⟩
  case enFallOff => exact fun s env he hp => exec_enFall_unpowered env he hp
  case enFallLocked => exact fun s env he hp hv => ⟨_, exec_enFall_locked env he hp hv, rfl, rfl, rfl, rfl⟩
  case holdupOff => exact fun s env hp => (exec_holdupWarnAssert s env).trans (by simp [hp])
  case undervoltage =>
    exact fun s hp => ⟨_, (exec_vinUndervoltage s).trans (by rw [if_pos hp]), rfl, rfl, rfl, rfl, rfl, rfl, rfl, rfl⟩
  case overvoltageOff => exact fun s env hp => (exec_vinOvervoltage s env).trans (by simp [hp])
  case below30 => exact fun s hb => congrArg Host.Outcome.next (s.pwrFlag_on 2 hb)
  case above40 => exact fun s hb => congrArg Host.Outcome.next (s.pwrFlag_on 3 hb)
  case limit => exact fun s hp hb => exec_inputCurrentLimit_on hp hb
  case limitTimeout => exact fun s hl => ⟨_, exec_ilimitTimeout_limiting hl, rfl, rfl, rfl, rfl, rfl⟩
  case trip =>
    intro s x hp
    obtain ⟨hg, _, hb, hl⟩ := (s.setHeat x 3).trip_offWith
    exact ⟨_, exec_sensorTrip_powered x hp, hl, hg, hb⟩

/-- Settles O16, from one rule for each command's branch. -/
theorem powerRestartsAndRails : Obligations.PowerRestartsAndRails := by
  unfold Obligations.PowerRestartsAndRails
  refine ⟨?auto, ?holdup, ?overload, ?lost, ?absent, ?returns, ?nextGroup, ?lastGroup, ?fault, ?retry⟩
  case auto =>
    intro s hl ha
    rw [exec_autoRestart_own hl (State.unpowered_of_startAllowed ha :), State.railsStart_allowed ha]
    rfl
  case holdup =>
    intro s hl ha
    rw [exec_holdupRestart_own hl (State.unpowered_of_startAllowed ha :), State.railsStart_allowed ha]
    rfl
  case overload => exact fun s hv => ⟨_, exec_vio1v8Overload_on hv, rfl, rfl, rfl, rfl, rfl, rfl, rfl, rfl⟩
  case lost =>
    intro s hr
    exact ⟨_, exec_sysclkLoss_running hr, rfl, rfl, rfl, rfl, State.abrupt_sysclk _ 5, rfl, rfl⟩
  case absent => exact fun s hp hb => ⟨_, exec_sysclkAbsent_held hp hb, rfl, rfl, hp, rfl, rfl, rfl, rfl⟩
  case returns =>
    intro s hs hc hv he hi ht hl hm hh hb
    obtain ⟨_, hg⟩ := s.clockReturns_unpowered
    refine ⟨_, exec_sysclkReturn_held hs hc hv, ?_⟩
    rw [State.railsStart_allowed (State.clockReturns_startAllowed hv he hi ht hl hm hh hb)]
    exact ⟨s.clockReturns_sysclk, rfl, rfl, rfl, hg, rfl, s.clockReturns_flash⟩
  case nextGroup => exact fun s hr hg => exec_railGroupRegulated_next hr hg
  case lastGroup =>
    exact fun s hr hg => ⟨_, exec_railGroupRegulated_last hr hg, rfl, rfl, rfl, rfl, rfl, rfl, rfl, rfl, rfl, rfl, rfl⟩
  case fault => exact fun s hr => ⟨_, exec_railFault_ramping hr, rfl, rfl, rfl, rfl, rfl⟩
  case retry => exact fun s hr ha => (exec_railRetry_pending hr).trans (by rw [State.railsStart_allowed ha])

end

section
/-!
PROOFS. The throttle demands and the sensors' warnings (R35, R43, R95, R122).
-/

namespace Sys2Proof.Machine

/-- The test that a command makes of a bit which must be set fails when it is. -/
theorem not_bnot_of_true {b : Bool} (h : b = true) : ¬ (!b) = true := by simp [h]

/-! ### The limit of input power -/

@[simp] theorem State.reviewFloor_power (s : State) : s.reviewFloor.power = s.power := by
  unfold State.reviewFloor State.setFlagIf
  split <;> rfl

/-- A report of input power is judged by the limit in force, which it leaves. -/
@[simp] theorem Power.overLimit_watts (p : Power) (w : Nat) : ({ p with watts := w } : Power).overLimit = decide (p.limitNow < w) := rfl

/-- PLIMIT_FLOOR stands for power above the limit alone (R35). -/
theorem State.reviewFloor_within {s : State} (h : s.power.overLimit = false) : s.reviewFloor = s := by
  simp [State.reviewFloor, State.setFlagIf, h]

/-! ### Demands -/

theorem exec_throttleDemandRise_power {s : State} (w : Nat) (hd : s.boot.done.getLsbD 2 = true) :
    exec (.throttleDemandRise (.power w)) s =
      .next (if s.power.limitNow < w then (s.modPower (fun p => { p with watts := w })).reviewFloor.throttleUp (.power w)
        else (s.modPower (fun p => { p with watts := w })).reviewFloor) := by
  change execThrottleDemandRise (.power w) s = _
  unfold execThrottleDemandRise
  rw [if_neg (not_bnot_of_true hd)]
  simp

theorem exec_throttleDemandFall_power {s : State} (w : Nat) (hd : s.boot.done.getLsbD 2 = true) :
    exec (.throttleDemandFall (.power w)) s =
      .next (if w * 100 < s.power.limitNow * 95 then (s.modPower (fun p => { p with watts := w })).modPower (·.fall (.power w))
        else (s.modPower (fun p => { p with watts := w })).reviewFloor) := by
  change execThrottleDemandFall (.power w) s = _
  exact if_neg (not_bnot_of_true hd)

/-- A thermal demand rises while a sensor of its kind is hot; the power demand has no sensors. -/
theorem exec_throttleDemandRise_hot {s : State} {c : ThrottleCause} (hd : s.boot.done.getLsbD 2 = true)
    (hh : (causeKeys c).any (fun k => 2 ≤ s.heatOf k) = true) :
    exec (.throttleDemandRise c) s = .next (s.throttleUp c).reviewFloor := by
  change execThrottleDemandRise c s = _
  unfold execThrottleDemandRise
  rw [if_neg (not_bnot_of_true hd)]
  cases c with
  | power w => simp [causeKeys] at hh
  | core | inkwell | lpddr => exact if_pos hh

/-- A thermal demand falls while no sensor of its kind is hot. -/
theorem exec_throttleDemandFall_cool {s : State} {c : ThrottleCause} (hd : s.boot.done.getLsbD 2 = true) (hc : ∀ w, c ≠ .power w)
    (hh : (causeKeys c).any (fun k => 2 ≤ s.heatOf k) = false) :
    exec (.throttleDemandFall c) s = .next (s.modPower (·.fall c)).reviewFloor := by
  change execThrottleDemandFall c s = _
  unfold execThrottleDemandFall
  rw [if_neg (not_bnot_of_true hd)]
  cases c with
  | power w => exact absurd rfl (hc w)
  | core | inkwell | lpddr => exact if_neg (ne_true_of_eq_false hh)

/-! ### Sensors -/

/-- Below its warning temperature again a sensor changes its level alone; a photonic engine's its engine too. -/
theorem exec_sensorWarning_cool {s : State} {x : Sensor} (hb : s.boot.phase ≠ .off) (hx : ∀ e, x ≠ .photonic e) :
    exec (.sensorWarning x false) s = .next (s.setHeat x 0) := by
  change execSensorWarning x false s = _
  unfold execSensorWarning
  rw [if_neg hb, if_pos (by rfl)]
  cases x with
  | photonic e => exact absurd rfl (hx e)
  | core | hatch | inkwell _ | lpddr _ | powerStage => rfl

theorem exec_sensorWarning_hatch {s : State} (hb : s.boot.phase ≠ .off) : exec (.sensorWarning .hatch true) s =
    .next (((s.setHeat .hatch 1).setFlag 0x6200 5).setFlag 0x63A1 6) := by
  change execSensorWarning .hatch true s = _
  exact if_neg hb

theorem exec_sensorWarning_photonic {s : State} (e : Fin 16) (hb : s.boot.phase ≠ .off) :
    exec (.sensorWarning (.photonic e) true) s = .next
      (((((s.setHeat (.photonic e) 1).setFlag 0x6200 5).updEngine e (fun y => { y with hot := true })).setFlag (0x6390 + e) 8).forEach
        ((List.range 4).map (4 * e.val + ·)) abandonTrial) := by
  change execSensorWarning (.photonic e) true s = _
  exact if_neg hb

theorem exec_sensorThrottle_cool {s : State} (x : Sensor) (hb : s.boot.phase ≠ .off) :
    exec (.sensorThrottle x false) s = .next (s.setHeat x 1) := by
  change execSensorThrottle x false s = _
  exact if_neg hb

/-- The first sensor of a kind at its throttle temperature takes the demand's first step; a further one does not (R35). -/
theorem exec_sensorThrottle_cause {s : State} {x : Sensor} {c : ThrottleCause} (hb : s.boot.phase ≠ .off) (hx : sensorCause x = some c) :
    exec (.sensorThrottle x true) s =
      if s.boot.done.getLsbD 2 && !((causeKeys c).any (fun k => 2 ≤ s.heatOf k)) then
        .next ((s.setHeat x 2).throttleUp c).reviewFloor else .next (s.setHeat x 2) := by
  change execSensorThrottle x true s = _
  unfold execSensorThrottle
  rw [if_neg hb, hx]
  rfl

theorem exec_sensorThrottle_powerStage {s : State} (hb : s.boot.phase ≠ .off) (hd : s.boot.done.getLsbD 2 = true) :
    exec (.sensorThrottle .powerStage true) s = .next (s.setHeat .powerStage 2).reviewFloor := by
  change execSensorThrottle .powerStage true s = _
  have hd' : (s.setHeat .powerStage 2).boot.done.getLsbD 2 = true := hd
  exact (if_neg hb).trans (congrArg Host.Outcome.next (if_pos hd'))

end Sys2Proof.Machine

open Sys2Proof Sys2Proof.Machine

/-- Settles O17, from one rule for each branch of a demand and of a sensor. -/
theorem throttleAndSensors : Obligations.ThrottleAndSensors := by
  unfold Obligations.ThrottleAndSensors
  refine ⟨?rises, ?within, ?riseHot, ?falls, ?fallCool, ?hatch, ?photonic, ?cool, ?belowThrottle, ?first, ?further, ?powerStage⟩
  case rises =>
    intro s w hd hw
    rw [exec_throttleDemandRise_power w hd, if_pos hw]
  case within =>
    intro s w hd hw
    rw [exec_throttleDemandRise_power w hd, if_neg (Nat.not_lt.2 hw), State.reviewFloor_within (by simpa using hw)]
  case riseHot => exact fun s c hd hh => exec_throttleDemandRise_hot hd hh
  case falls =>
    intro s w hd hw
    rw [exec_throttleDemandFall_power w hd, if_pos hw]
    rfl
  case fallCool => exact fun s c hd hc hh => exec_throttleDemandFall_cool hd hc hh
  case hatch => exact fun s hb => exec_sensorWarning_hatch hb
  case photonic => exact fun s e hb => exec_sensorWarning_photonic e hb
  case cool => exact fun s x hb hx => exec_sensorWarning_cool hb hx
  case belowThrottle => exact fun s x hb => exec_sensorThrottle_cool x hb
  case first =>
    intro s x c hb hd hx hh
    rw [exec_sensorThrottle_cause hb hx, if_pos (by simp only [hd, hh]; rfl)]
  case further =>
    intro s x c hb hx hh
    rw [exec_sensorThrottle_cause hb hx, if_neg (by simp only [hh]; simp)]
  case powerStage => exact fun s hb hd => exec_sensorThrottle_powerStage hb hd

end

section
/-!
PROOFS. The pulse input and its messages, the pulse output (R39, R370, R371), and software triggers (R372).
-/

namespace Sys2Proof.Machine

/-! ### The pulse input -/

theorem exec_ppsInEdge_width {s : State} {w : Nat} (ht : s.timeRuns = true) (hw : w < 100 ∨ 500000000 < w) :
    exec (.ppsInEdge w) s = .next (s.countMisc .ppsWidth 1).ppsDiscard := by
  change execPpsInEdge w s = _
  exact (if_neg (not_bnot_of_true ht)).trans (if_pos (by simpa using hw))

/-- A message that ended less than 10 ms or more than 990 ms before the edge names none (R370). -/
theorem exec_ppsInEdge_outside {s : State} {w sec st utc at_ : Nat} (ht : s.timeRuns = true) (h1 : 100 ≤ w) (h2 : w ≤ 500000000)
    (hm : s.time.ppsTod = some (sec, st, utc, at_)) (hd : s.now - at_ < 10 ^ 10 ∨ 99 * 10 ^ 10 < s.now - at_) :
    exec (.ppsInEdge w) s = .next s.todBad.ppsDiscard := by
  change execPpsInEdge w s = _
  unfold execPpsInEdge
  rw [if_neg (not_bnot_of_true ht), if_neg (by simp; omega), hm]
  exact if_pos (by simpa using hd)

/-- Within that window the first edge is taken, for no edge before it can clash (R370). -/
theorem exec_ppsInEdge_first {s : State} {w sec st utc at_ : Nat} (ht : s.timeRuns = true) (h1 : 100 ≤ w) (h2 : w ≤ 500000000)
    (hm : s.time.ppsTod = some (sec, st, utc, at_)) (hl : s.time.ppsLast = none) (ha : 10 ^ 10 ≤ s.now - at_)
    (hb : s.now - at_ ≤ 99 * 10 ^ 10) : exec (.ppsInEdge w) s = .next (s.ppsAccept sec st utc) := by
  change execPpsInEdge w s = _
  unfold execPpsInEdge
  rw [if_neg (not_bnot_of_true ht), if_neg (by simp; omega), hm, hl]
  have hin : ¬ (decide (s.now - at_ < 10 ^ 10) || decide (99 * 10 ^ 10 < s.now - at_)) = true := by
    simp only [Bool.or_eq_true, decide_eq_true_eq, not_or, Nat.not_lt]
    exact ⟨ha, hb⟩
  exact (if_neg hin).trans (if_neg Bool.false_ne_true)

/-- A message that passes every check of R370. -/
def TodGood (b : List Byte) : Prop :=
  b.length = 20 ∧ beAt b 0 2 = 0x5654 ∧ byteAt b 2 = 1 ∧ byteAt b 3 < 3 ∧ beAt b 14 4 = 0 ∧ beAt b 18 2 = todCheck (b.take 18)

theorem exec_todInMessage_good {s : State} {b : List Byte} (ht : s.timeRuns = true) (hb : TodGood b) : exec (.todInMessage b) s =
    .next (s.modTime (fun t => { t with ppsTod := some (beAt b 4 8, byteAt b 3, beAt b 12 2, s.now) })) := by
  obtain ⟨hl, hm, hv, hs, hz, hc⟩ := hb
  change execTodInMessage b s = _
  exact (if_neg (not_bnot_of_true ht)).trans (if_neg (by simp [hl, hm, hv, hs, hz, hc]))

theorem exec_todInMessage_bad {s : State} {b : List Byte} (ht : s.timeRuns = true) (hb : ¬ TodGood b) :
    exec (.todInMessage b) s = .next s.todBad := by
  change execTodInMessage b s = _
  refine (if_neg (not_bnot_of_true ht)).trans (if_pos ?_)
  by_contra hgood
  simp only [Bool.or_eq_true, decide_eq_true_eq, not_or, ne_eq, not_not, not_le] at hgood
  obtain ⟨⟨⟨⟨⟨hl, hm⟩, hv⟩, hs⟩, hz⟩, hc⟩ := hgood
  exact hb ⟨hl, hm, hv, hs, hz, hc⟩

theorem exec_ppsMissing_usable {s : State} (h : s.time.ppsUsable = true) : exec .ppsMissing s = .next s.ppsLost := by
  change execPpsMissing s = _
  exact if_pos (by simp [h])

/-! ### The pulse output -/

theorem exec_ppsOutEdge_due {s : State} (ht : s.timeSet = true) (hp : s.ppsPhase < s.time.inc) :
    exec .ppsOutEdge s = .next (s.modTime (fun t => { t with ppsOutAt := some s.now })) := by
  change execPpsOutEdge s = _
  exact if_pos (by simp [ht, hp])

theorem exec_ppsOutEdge_unset {s : State} (ht : s.timeSet = false) : exec .ppsOutEdge s = .next s := by
  change execPpsOutEdge s = _
  exact if_neg (by simp [ht])

theorem exec_todOutSend_unset {s : State} (ht : s.timeSet = false) : exec .todOutSend s = .next s := by
  change execTodOutSend s = _
  exact if_pos (by simp [ht])

theorem beAt_field {a b : List Byte} (c : List Byte) {off n : Nat} (ha : a.length = off) (hb : b.length = n) :
    beAt (a ++ (b ++ c)) off n = beNat b := by
  unfold beAt slice
  rw [List.drop_left' ha, List.take_left' hb]

theorem todCheck_lt (b : List Byte) : todCheck b < 2 ^ 16 := BitVec.isLt _

/-- The 18 bytes of a ToD message that CHECK covers (R370). -/
def todBody (st sec utc : Nat) : List Byte :=
  beBytes 2 0x5654 ++ [1#8] ++ beBytes 1 st ++ beBytes 8 sec ++ beBytes 2 utc ++ zeros 4

/-- A ToD message with its CHECK. -/
def todMessage (st sec utc : Nat) : List Byte := todBody st sec utc ++ beBytes 2 (todCheck (todBody st sec utc))

theorem todBody_length (st sec utc : Nat) : (todBody st sec utc).length = 18 := by simp [todBody, zeros]

theorem todMessage_length (st sec utc : Nat) : (todMessage st sec utc).length = 20 := by simp [todMessage, todBody_length]

theorem todMessage_take (st sec utc : Nat) : (todMessage st sec utc).take 18 = todBody st sec utc :=
  List.take_left' (todBody_length st sec utc)

theorem todMessage_mark (st sec utc : Nat) : beAt (todMessage st sec utc) 0 2 = 0x5654 := by
  have h := beAt_field (a := []) (b := beBytes 2 0x5654) ([1#8] ++ (beBytes 1 st ++ (beBytes 8 sec ++ (beBytes 2 utc ++ (zeros 4 ++
    beBytes 2 (todCheck (todBody st sec utc))))))) (n := 2) rfl (beBytes_length 2 _)
  simpa [todMessage, todBody, beNat_beBytes] using h

theorem todMessage_second (st sec utc : Nat) : beAt (todMessage st sec utc) 4 8 = sec % 2 ^ 64 := by
  have h := beAt_field (a := beBytes 2 0x5654 ++ [1#8] ++ beBytes 1 st) (b := beBytes 8 sec) (beBytes 2 utc ++ (zeros 4 ++
    beBytes 2 (todCheck (todBody st sec utc)))) (off := 4) (n := 8) (by simp) (beBytes_length 8 _)
  simpa [todMessage, todBody, beNat_beBytes] using h

theorem todMessage_reserved (st sec utc : Nat) : beAt (todMessage st sec utc) 14 4 = 0 := by
  have h := beAt_field (a := beBytes 2 0x5654 ++ [1#8] ++ beBytes 1 st ++ beBytes 8 sec ++ beBytes 2 utc) (b := zeros 4)
    (beBytes 2 (todCheck (todBody st sec utc))) (off := 14) (n := 4) (by simp) (by simp [zeros])
  have hz : beNat (zeros 4) = 0 := by decide
  simpa [todMessage, todBody, hz] using h

theorem todMessage_check (st sec utc : Nat) :
    beAt (todMessage st sec utc) 18 2 = todCheck ((todMessage st sec utc).take 18) := by
  have h := beAt_field (a := todBody st sec utc) (b := beBytes 2 (todCheck (todBody st sec utc))) [] (off := 18) (n := 2)
    (todBody_length st sec utc) (beBytes_length 2 _)
  rw [List.append_nil, beNat_beBytes, Nat.mod_eq_of_lt (b := 256 ^ 2) (todCheck_lt _)] at h
  rw [todMessage_take]
  exact h

/-- In its window a ToD message goes out, and names the second of the next PPS_OUT edge (R371). -/
theorem exec_todOutSend_due {s : State} (ht : s.timeSet = true) (h1 : 490000000 * 2 ^ 32 ≤ s.ppsPhase)
    (h2 : s.ppsPhase ≤ 510000000 * 2 ^ 32) : ∃ st, exec .todOutSend s =
      .next (s.emit (.tod (todMessage st ((addNs (s.time.sec, s.time.ns) (s.param 0x2440 10)).1 + 1) s.time.utcOffset))) := by
  change ∃ st, execTodOutSend s = _
  unfold execTodOutSend
  rw [if_neg (by simp only [ht, Bool.or_eq_true, decide_eq_true_eq, not_or]; exact ⟨⟨by decide, Nat.not_lt.2 h1⟩, Nat.not_lt.2 h2⟩)]
  exact ⟨_, rfl⟩

/-! ### Triggers -/

/-- A trigger whose cell time has come: disarmed, its firing flagged and counted (R372). -/
def State.triggerFired (s : State) (t : Fin 16) : State :=
  ((s.updTrigger t (fun x => { x with armed := false })).setFlag 0x6641 8).countUnit 0x11 0 9

theorem State.triggerFired_armed (s : State) (t : Fin 16) : ((s.triggerFired t).trigger t).armed = false := by
  have h : (s.triggerFired t).trigger t = { s.trigger t with armed := false } :=
    Tab.get_upd_same s.time.triggers (fun x => { x with armed := false })
  rw [h]

@[simp] theorem State.trigger_modFolio (s : State) (g : FolioSt → FolioSt) (t : Nat) : (s.modFolio g).trigger t = s.trigger t := rfl

@[simp] theorem State.triggerFired_mem (s : State) (t : Fin 16) : (s.triggerFired t).mem = s.mem := rfl

theorem State.triggerFired_flag (s : State) (t : Fin 16) : (s.triggerFired t).flag 0x6641 8 = true :=
  State.flag_setFlag_same _ 0x6641 8 (by decide)

theorem exec_triggerFire_due {s : State} {t : Fin 16} (ha : (s.trigger t).armed = true) (hc : (s.trigger t).cell ≤ s.cellNow) :
    exec (.triggerFire t) s = .next (if (s.trigger t).action = 2 then (s.triggerFired t).modFolio (fun f => { f with stopped := false })
      else if (s.trigger t).action = 3 then (s.triggerFired t).modFolio (fun f => { f with stopped := true }) else s.triggerFired t) := by
  change execTriggerFire t s = _
  exact if_pos (by simp [ha, hc])

theorem exec_triggerFire_start {s : State} {t : Fin 16} (ha : (s.trigger t).armed = true) (hc : (s.trigger t).cell ≤ s.cellNow)
    (hx : (s.trigger t).action = 2) :
    exec (.triggerFire t) s = .next ((s.triggerFired t).modFolio (fun f => { f with stopped := false })) := by
  rw [exec_triggerFire_due ha hc, if_pos hx]

theorem exec_triggerFire_stop {s : State} {t : Fin 16} (ha : (s.trigger t).armed = true) (hc : (s.trigger t).cell ≤ s.cellNow)
    (hx : (s.trigger t).action = 3) :
    exec (.triggerFire t) s = .next ((s.triggerFired t).modFolio (fun f => { f with stopped := true })) := by
  rw [exec_triggerFire_due ha hc, if_neg (by simp [hx]), if_pos hx]

theorem exec_triggerFire_early {s : State} {t : Fin 16} (hc : s.cellNow < (s.trigger t).cell) : exec (.triggerFire t) s = .next s := by
  change execTriggerFire t s = _
  exact if_neg (by simp [hc])

end Sys2Proof.Machine

open Sys2Proof Sys2Proof.Machine

/-- Settles O51, from one rule for each command's branch and the fields of a ToD message. -/
theorem pulsesAndTriggers : Obligations.PulsesAndTriggers := by
  unfold Obligations.PulsesAndTriggers
  refine ⟨?width, ?accepted, ?early, ?good, ?length, ?check, ?missing, ?edge, ?unset, ?send, ?stop, ?start, ?waits⟩
  case width => exact fun s w ht hw => exec_ppsInEdge_width ht hw
  case accepted => exact fun s w sec st utc at_ ht h1 h2 hm hl ha hb => exec_ppsInEdge_first ht h1 h2 hm hl ha hb
  case early => exact fun s w sec st utc at_ ht h1 h2 hm ha => exec_ppsInEdge_outside ht h1 h2 hm (.inl ha)
  case good => exact fun s b ht hl hm hv hs hz hc => exec_todInMessage_good ht ⟨hl, hm, hv, hs, hz, hc⟩
  case length => exact fun s b ht hl => exec_todInMessage_bad ht (fun ⟨h, _⟩ => hl h)
  case check => exact fun s b ht hc => exec_todInMessage_bad ht (fun ⟨_, _, _, _, _, h⟩ => hc h)
  case missing => exact fun s h => exec_ppsMissing_usable h
  case edge => exact fun s ht hp => exec_ppsOutEdge_due ht hp
  case unset => exact fun s ht => ⟨exec_ppsOutEdge_unset ht, exec_todOutSend_unset ht⟩
  case send =>
    intro s ht h1 h2
    obtain ⟨st, h⟩ := exec_todOutSend_due ht h1 h2
    exact ⟨_, h, todMessage_length _ _ _, todMessage_mark _ _ _, todMessage_reserved _ _ _, todMessage_check _ _ _,
      todMessage_second _ _ _⟩
  case stop =>
    intro s t ha hc hx
    refine ⟨_, exec_triggerFire_stop ha hc hx, ?_⟩
    simp [s.triggerFired_armed t, s.triggerFired_flag t]
  case start =>
    intro s t ha hc hx
    refine ⟨_, exec_triggerFire_start ha hc hx, ?_⟩
    simp [s.triggerFired_armed t, s.triggerFired_flag t]
  case waits => exact fun s t hc => exec_triggerFire_early hc

end

section
/-!
PROOFS. A partition's stores to its memory (R332 to R335), the start of the power stage (R29), and what Scribe stores in flash (R55).
-/

namespace Sys2Proof.Machine

/-! ### Stores of a partition -/

/-- A store of a partition whose L3 and memory read well. -/
def goodStore (p : Bool) (a : Nat) (l : List Byte) : QuillAccess := { p1 := p, addr := a, store := l, l3 := .good, dirty := false, ecc := .good }

theorem goodStore_bytes {l : List Byte} (p : Bool) (a : Nat) (hl : l ≠ []) : (goodStore p a l).bytes = l.length :=
  Nat.max_eq_right (List.length_pos_iff.2 hl)

theorem State.quillAccess_goodStore {l : List Byte} (s : State) (p : Bool) (a : Nat) (hl : l ≠ []) :
    s.quillAccess (goodStore p a l) = s.writeMem a l := by
  simp [State.quillAccess, goodStore, State.sramEcc, hl]

/-- A store within the partition's region, in pages in service, is performed where the fill has passed, and waits where not (R335). -/
theorem exec_quillMemoryAccess_goodStore {s : State} {p : Bool} {a : Nat} {l : List Byte} (hd : s.boot.done.getLsbD 7 = true) (hl : l ≠ [])
    (h1 : (s.quillRegion p).1 ≤ a) (h2 : a + l.length ≤ (s.quillRegion p).1 + (s.quillRegion p).2)
    (hp : s.lpdPresent a l.length = true) : exec (.quillMemoryAccess p a l .good false .good) s =
      if s.mem.fillPassed a l.length then .next (s.writeMem a l)
      else .next (s.fillWait.modMem (fun m => { m with quillWait := m.quillWait ++ [goodStore p a l] })) := by
  change execQuillMemoryAccess p a l .good false .good s = _
  have hb := goodStore_bytes p a hl
  have hw := s.quillAccess_goodStore p a hl
  unfold goodStore at hb hw ⊢
  unfold execQuillMemoryAccess
  simp only [hb, hw]
  rw [if_neg (by simp only [hd, hp, Bool.or_eq_true, decide_eq_true_eq]; simp; omega)]
  cases s.mem.fillPassed a l.length <;> rfl

theorem exec_quillMemoryAccess_below {s : State} {p : Bool} {a : Nat} (l : List Byte) (e d : Ecc) (x : Bool) (h : a < (s.quillRegion p).1) :
    exec (.quillMemoryAccess p a l e x d) s = .next s := by
  change execQuillMemoryAccess p a l e x d s = _
  exact if_pos (by simp [h])

/-! ### What Scribe stores -/

theorem exec_dataRecordWrite_down {s : State} (t : BitVec 16) (l : List Byte) (hd : s.boot.done.getLsbD 2 = false) :
    exec (.dataRecordWrite t l) s = .next s := by
  change execDataRecordWrite t l s = _
  exact congrArg Host.Outcome.next (if_pos (by rw [hd]; rfl))

theorem exec_dataRecordWrite_bootSet {s : State} (l : List Byte) (hd : s.boot.done.getLsbD 2 = true) :
    exec (.dataRecordWrite 1 l) s = .next (s.installBootSet l) := by
  change execDataRecordWrite 1 l s = _
  exact congrArg Host.Outcome.next (if_neg (not_bnot_of_true hd))

/-- A data record is stored; a calibration record is taken up as well (R97). -/
theorem exec_dataRecordWrite_data {s : State} {t : BitVec 16} (l : List Byte) (hd : s.boot.done.getLsbD 2 = true) (ht : t ≠ 1) :
    exec (.dataRecordWrite t l) s =
      .next (if t = 5 then reloadCalibration (s.storeData t.toNat l) else s.storeData t.toNat l) := by
  change execDataRecordWrite t l s = _
  exact congrArg Host.Outcome.next ((if_neg (not_bnot_of_true hd)).trans (if_neg ht))

theorem exec_vinStartThreshold (s : State) : exec .vinStartThreshold s =
    .next (if [2, 3, 6, 7].contains s.power.lastOff then s.modPower (fun p => { p with vinOk := true })
      else (s.modPower (fun p => { p with vinOk := true })).railsStart) := rfl

end Sys2Proof.Machine

open Sys2Proof Sys2Proof.Machine

/-- Settles O60, from one rule for each command's branch. -/
theorem storedData : Obligations.StoredData := by
  unfold Obligations.StoredData
  refine ⟨?passed, ?waits, ?below, ?data, ?calibration, ?bootSet, ?down, ?starts, ?ownRestart⟩
  case passed =>
    intro s p a l hd hl h1 h2 hp hz
    have hpassed : s.mem.fillPassed a l.length = true := by simp [MemSt.fillPassed, hz]
    rw [exec_quillMemoryAccess_goodStore hd hl h1 h2 hp, if_pos hpassed]
  case waits =>
    intro s p a l hd h1 hl h2 hp hf
    rw [exec_quillMemoryAccess_goodStore hd hl h1 h2 hp, if_neg (ne_true_of_eq_false hf)]
    rfl
  case below => exact fun s p a l e d x h => exec_quillMemoryAccess_below l e d x h
  case data =>
    intro s t l hd h1 h5
    have ht1 : t ≠ 1 := fun h => h1 (congrArg BitVec.toNat h)
    have ht5 : t ≠ 5 := fun h => h5 (congrArg BitVec.toNat h)
    rw [exec_dataRecordWrite_data l hd ht1, if_neg ht5]
  case calibration => exact fun s l hd => exec_dataRecordWrite_data l hd (by decide)
  case bootSet => exact fun s l hd => exec_dataRecordWrite_bootSet l hd
  case down => exact fun s t l hd => exec_dataRecordWrite_down t l hd
  case starts =>
    intro s h
    rw [exec_vinStartThreshold, if_neg (by simp; omega)]
  case ownRestart =>
    intro s h
    rw [exec_vinStartThreshold, if_pos (by simp; omega)]

end

section
/-!
PROOFS. The cold start up to the configuration stage (R47 to R54, R61, R64).
-/

namespace Sys2Proof.Machine

/-! ### What the marks of a start leave -/

/-- A mark changes its bit of BOOT_STATUS, and the host interface, the counters and the output by BOOT_CHANGE (R360). -/
theorem State.markDone_rest (s : State) (b : Nat) (v : Bool) : ∃ d h c o, s.markDone b v =
    { s with boot := { s.boot with done := d }, host := h, counters := c, out := o } := by
  rcases s.markDone_spec b v with ⟨h, c, o, e⟩ | ⟨_, e⟩
  · exact ⟨_, h, c, o, e⟩
  · exact ⟨s.boot.done, s.host, s.counters, s.out, e⟩

@[simp] theorem State.markDone_power (s : State) (b : Nat) (v : Bool) : (s.markDone b v).power = s.power := by
  obtain ⟨_, _, _, _, e⟩ := s.markDone_rest b v
  rw [e]

@[simp] theorem State.markDone_flash (s : State) (b : Nat) (v : Bool) : (s.markDone b v).flash = s.flash := by
  obtain ⟨_, _, _, _, e⟩ := s.markDone_rest b v
  rw [e]

@[simp] theorem State.markDone_mem (s : State) (b : Nat) (v : Bool) : (s.markDone b v).mem = s.mem := by
  obtain ⟨_, _, _, _, e⟩ := s.markDone_rest b v
  rw [e]

@[simp] theorem State.markDone_sec (s : State) (b : Nat) (v : Bool) : (s.markDone b v).sec = s.sec := by
  obtain ⟨_, _, _, _, e⟩ := s.markDone_rest b v
  rw [e]

@[simp] theorem State.markDone_faults (s : State) (b : Nat) (v : Bool) : (s.markDone b v).faults = s.faults := by
  obtain ⟨_, _, _, _, e⟩ := s.markDone_rest b v
  rw [e]

/-- A failure of the start is kept in FAIL_CODE where it is the first, and recorded in the fault history (R65). -/
theorem State.startFails_rest (s : State) (c : Nat) : ∃ x, s.startFails c =
    { s with boot := { s.boot with failCode := if s.boot.failCode = 0 then c else s.boot.failCode }, faults := x } := ⟨_, rfl⟩

/-- What a start has reached: its kind, its phase, light, and the end of the configuration stage. -/
def State.startMarks (s : State) : Bool × Phase × Bool × Bool := (s.boot.warm, s.boot.phase, s.boot.photonic, s.boot.done.getLsbD 3)

theorem State.startMarks_of_boot {s t : State} (h : t.boot = s.boot) : t.startMarks = s.startMarks := by
  unfold State.startMarks
  rw [h]

@[simp] theorem State.startFails_startMarks (s : State) (c : Nat) : (s.startFails c).startMarks = s.startMarks := by
  obtain ⟨_, h⟩ := s.startFails_rest c
  rw [h]
  rfl

@[simp] theorem State.logOpenEvent_boot (s : State) (u c d : Nat) : (s.logOpenEvent u c d).boot = s.boot := by
  simp [State.logOpenEvent]

/-! ### Scribe leaves reset -/

/-- A change of some host ports is a change of the host interface alone. -/
theorem State.forEach_updPort_rest (c : State → Bool → Bool) (g : Port → Port) : ∀ (l : List Bool) (s : State), ∃ h,
    s.forEach l (fun s b => if c s b then s.updPort b g else s) = { s with host := h }
  | [], s => ⟨s.host, rfl⟩
  | b :: l, s => by
    have hstep : ∃ h, (if c s b then s.updPort b g else s) = { s with host := h } := by
      split
      · exact ⟨_, rfl⟩
      · exact ⟨s.host, rfl⟩
    obtain ⟨_, hb⟩ := hstep
    obtain ⟨h, hl⟩ := State.forEach_updPort_rest c g l (if c s b then s.updPort b g else s)
    exact ⟨h, hl.trans (by rw [hb])⟩

theorem State.startTraining_rest (s : State) : ∃ h, s.startTraining = { s with host := h } :=
  State.forEach_updPort_rest (fun s b => s.attached b && !(s.port b).perst) (fun p => { p with training := true }) [false, true] s

/-- The ROM captures the PUF and marks its own bit; of the start it changes nothing else (R47 to R49). -/
theorem State.romRuns_rest (s : State) : ∃ d p n h c o k, s.romRuns =
    { s with boot := { s.boot with done := d, puf := some p }, sec := { s.sec with nonce := n }
             host := h, counters := c, out := o, freeCount := k } := by
  unfold State.romRuns
  obtain ⟨_, ht⟩ := State.startTraining_rest ((s.free64.2.modBoot (fun b => { b with puf := some (Config.pufArray s.free64.2.freeCount) })).modSec
    (fun x => { x with nonce := s.free64.1 }))
  dsimp only
  rw [ht]
  obtain ⟨d, h, c, o, hm⟩ := State.markDone_rest _ 0 true
  exact ⟨d, _, _, h, c, o, _, hm⟩

theorem State.romRuns_done (s : State) : s.romRuns.boot.done.getLsbD 0 = true := State.markDone_done _ 0 0 true (by decide)

theorem State.chopStart_rest (s : State) (o : Bool) : ∃ c : ChopSt, s.chopStart o = { s with chop := c } ∧ c.running = true := by
  unfold State.chopStart
  split
  next h => exact ⟨s.chop, rfl, h⟩
  · exact ⟨_, rfl, rfl⟩

/-- With power and the clock there, Scribe and Chop leave reset with the straps as sampled; TEST_MODE holds the core (R28). -/
theorem exec_scribeResetRelease_ready {s : State} (x : Straps) (hb : s.boot.phase = .cold 4) (hp : s.power.pwrOk = true)
    (hc : s.power.sysclk = true) : exec (.scribeResetRelease x) s =
      .next (if x.testMode then ((s.modBoot (fun b => { b with straps := x })).chopStart x.sealOpen).holdCore
        else (((s.modBoot (fun b => { b with straps := x })).chopStart x.sealOpen).phaseTo (.cold 6)).romRuns) := by
  change execScribeResetRelease x s = _
  exact congrArg Host.Outcome.next (if_neg (by simp [hb, hp, hc]))

/-! ### A bank is selected -/

/-- The end of Request Retry Status marks HOST at most (R59). -/
theorem State.fillSpaces_rest (s : State) : ∃ d h c o, s.fillSpaces =
    { s with boot := { s.boot with done := d }, host := h, counters := c, out := o } := by
  unfold State.fillSpaces
  obtain ⟨h, hf⟩ := State.forEach_updPort_rest (fun s b => s.attached b) (fun p => { p with filled := true }) [false, true] s
  dsimp only
  rw [hf]
  split
  · obtain ⟨d, h, c, o, hm⟩ := State.markDone_rest { s with host := h } 4 true
    exact ⟨d, h, c, o, hm⟩
  · exact ⟨s.boot.done, h, s.counters, s.out, rfl⟩

theorem State.enterRecovery_marks (s : State) : s.enterRecovery.boot.recovery = true ∧ s.enterRecovery.boot.activeBank = 2 := by
  unfold State.enterRecovery
  obtain ⟨_, _, _, _, h⟩ := State.fillSpaces_rest ((s.modBoot (fun b => { b with recovery := true, activeBank := 2 })).startFails 3)
  rw [h]
  exact ⟨rfl, rfl⟩

/-- A boot set that has become active. -/
def State.Serves (s : State) (bank : Nat) (b : BootSet) : Prop :=
  s.boot.activeBank = bank ∧ s.boot.done.getLsbD 1 = true ∧ s.sec.version = b.version ∧ s.sec.digests = b.digests

theorem State.takeBootSet_serves (s : State) (bank : Nat) (b : BootSet) : (s.takeBootSet bank b).Serves bank b := by
  unfold State.takeBootSet
  refine ⟨?_, State.markDone_done _ 1 1 true (by decide), ?_, ?_⟩
  · obtain ⟨_, _, _, _, h⟩ := State.markDone_rest _ 1 true
    rw [h]
    rfl
  · rw [State.markDone_sec]
    rfl
  · rw [State.markDone_sec]
    rfl

theorem State.Serves.startFails {s : State} {bank : Nat} {b : BootSet} (h : s.Serves bank b) (c : Nat) : (s.startFails c).Serves bank b := by
  obtain ⟨_, e⟩ := s.startFails_rest c
  rw [e]
  exact h

/-- A bank becomes active; that the other is rejected is a failure of the start (R65). -/
def State.bankTaken (s : State) (other : BankState) (bank : Nat) (b : BootSet) : State :=
  if other = .rejected then (s.takeBootSet bank b).startFails (if bank = 1 then 1 else 2) else s.takeBootSet bank b

theorem State.bankTaken_serves (s : State) (other : BankState) (bank : Nat) (b : BootSet) : (s.bankTaken other bank b).Serves bank b := by
  unfold State.bankTaken
  split
  · exact (s.takeBootSet_serves bank b).startFails _
  · exact s.takeBootSet_serves bank b

/-- A bank is selected by what flash holds, whatever the checks of the banks have recorded (R54, R57). -/
theorem exec_bankSelect_ready {s : State} (h0 : s.boot.done.getLsbD 0 = true) (h1 : s.boot.done.getLsbD 1 = false)
    (hr : s.boot.recovery = false) : ∃ u : State, exec .bankSelect s = .next (match activeSet s.flash with
      | none => u.enterRecovery
      | some (bank, b) =>
        u.bankTaken (if bank = 0 then (bankStates s.flash).2 else (bankStates s.flash).1) bank b) := by
  change ∃ u : State, execBankSelect s = _
  exact ⟨_, congrArg Host.Outcome.next (if_neg (by rw [h0, h1, hr]; decide))⟩

/-! ### Scribe firmware starts -/

/-- The history that is read back changes the fault history alone. -/
theorem State.readHistory_rest (s : State) : ∃ x, s.readHistory = { s with faults := x } := by
  unfold State.readHistory
  dsimp only
  split
  · split <;> exact ⟨_, rfl⟩
  · exact ⟨_, rfl⟩

theorem exec_scribeFirmwareStart_ready {s : State} (h1 : s.boot.done.getLsbD 1 = true) (h2 : s.boot.done.getLsbD 2 = false) :
    exec .scribeFirmwareStart s = .next (s.markDone 2 true).readHistory := by
  change execScribeFirmwareStart s = _
  exact congrArg Host.Outcome.next (if_pos (by rw [h1, h2]; decide))

/-! ### The configuration and identity stage -/

@[simp] theorem State.bootEvent_boot (s : State) (c d : Nat) : (s.bootEvent c d).boot = s.boot := by
  simp [State.bootEvent]

@[simp] theorem State.loadRejected_boot (s : State) (idx sub : Nat) : (s.loadRejected idx sub).boot = s.boot := by
  simp [State.loadRejected]

@[simp] theorem State.setShaper_boot (s : State) (i v : Nat) : (s.setShaper i v).boot = s.boot := rfl

@[simp] theorem State.setPolicer_boot (s : State) (i v : Nat) : (s.setPolicer i v).boot = s.boot := rfl

@[simp] theorem State.loadOne_boot (s : State) (idx sub v : Nat) : (s.loadOne idx sub v).boot = s.boot := by
  unfold State.loadOne
  split
  · rfl
  · split
    · rfl
    · split
      · simp
      · dsimp only
        split
        · simp
        · split <;> simp

@[simp] theorem State.loadGroup_boot (s : State) (l : List (Nat × Nat)) (idx : Nat) (subs : List Nat) (bad : Bool) :
    (s.loadGroup l idx subs bad).boot = s.boot := by
  unfold State.loadGroup
  split
  · refine State.forEach_keeps State.boot _ (fun s k => ?_) subs s
    split <;> simp
  · rfl

/-- Loaded values are parameters and buckets; the start goes on as it stands. -/
@[simp] theorem State.loadParams_boot (s : State) (l : List (Nat × Nat × Nat)) : (s.loadParams l).boot = s.boot := by
  unfold State.loadParams
  simp only [State.loadGroup_boot]
  exact State.forEach_keeps State.boot _ (fun s x => by rw [State.loadOne_boot]) l s

@[simp] theorem State.recordTies_boot (s : State) : s.recordTies.boot = s.boot := by
  unfold State.recordTies
  exact State.forEach_keeps State.boot _ (fun s typ => s.logOpenEvent_boot _ 5 typ) _ s

@[simp] theorem State.fixCold_boot (s : State) : s.fixCold.boot = s.boot := by
  unfold State.fixCold
  simp

@[simp] theorem State.divideQuill_startMarks (s : State) (c : Nat × Nat) : (s.divideQuill c).startMarks = s.startMarks := by
  unfold State.divideQuill
  dsimp only
  split
  · rfl
  · exact (State.startMarks_of_boot (State.bootEvent_boot _ 11 _)).trans rfl

/-- Before the end of the configuration stage a sensor that fires waits for its policy (R430). -/
theorem State.sensorFires_early {s : State} (h : s.boot.done.getLsbD 3 = false) (k : Nat) :
    s.sensorFires k = s.modSec (fun x => { x with deferred := x.deferred ++ [k] }) :=
  if_neg (ne_true_of_eq_false h)

theorem State.reconstruct_startMarks {s : State} (h : s.boot.done.getLsbD 3 = false) : s.reconstruct.startMarks = s.startMarks := by
  have hfails : ((s.startFails 8).sensorFires 7).startMarks = s.startMarks := by
    have hd : (s.startFails 8).boot.done.getLsbD 3 = false := h
    rw [State.sensorFires_early hd]
    exact s.startFails_startMarks 8
  unfold State.reconstruct
  split
  · split
    · rfl
    · exact hfails
  · exact hfails

/-- What the record's absence and its ties record of themselves (R52, R65). -/
def State.configSought (s : State) : State :=
  if (dataPayload s.flash 0x0004).isNone then s.recordTies.startFails 4 else s.recordTies

theorem State.configSought_startMarks (s : State) : s.configSought.startMarks = s.startMarks := by
  have hties : s.recordTies.startMarks = s.startMarks := State.startMarks_of_boot s.recordTies_boot
  unfold State.configSought
  split
  · exact (State.startFails_startMarks _ 4).trans hties
  · exact hties

/-- The module configuration record as read and judged (R479). -/
def State.configRead (s : State) : State :=
  let t := s.configSought.loadParams (((dataPayload s.flash 0x0004).map Config.configValues).getD [])
  t.modTime (fun x => { x with src := t.param 0x2440 1 })

@[simp] theorem State.configRead_boot (s : State) : s.configRead.boot = s.configSought.boot := by
  unfold State.configRead
  rw [State.modTime_boot, State.loadParams_boot]

theorem State.configRead_startMarks (s : State) : s.configRead.startMarks = s.startMarks :=
  (State.startMarks_of_boot s.configRead_boot).trans s.configSought_startMarks

/-- Quill's cores as a cold start divides them: as the record says, where there is one (R9). -/
def State.quillDivided (s : State) (cfg : Option (List Byte)) : State :=
  match cfg with
  | some b => s.divideQuill (Config.configCores b)
  | none => s

@[simp] theorem State.quillDivided_startMarks (s : State) (cfg : Option (List Byte)) : (s.quillDivided cfg).startMarks = s.startMarks := by
  cases cfg with
  | some b => exact s.divideQuill_startMarks _
  | none => rfl

/-- The configuration stage up to the identity: a warm start goes on to step 6 with its light; a cold one fixes what holds until the next
and has reached step 9. -/
def State.configStage (s : State) : State :=
  if s.configRead.boot.warm then (s.configRead.phaseTo (.warm 6)).modBoot (fun b => { b with photonic := true, comb := true })
  else (s.configRead.quillDivided (dataPayload s.flash 0x0004)).fixCold.phaseTo (.cold 9)

theorem exec_configLoad_ready {s : State} (h2 : s.boot.done.getLsbD 2 = true) (h3 : s.boot.done.getLsbD 3 = false) :
    exec .configLoad s = .next (s.configStage.reconstruct.fillSpaces.markDone 3 true).actDeferred := by
  change execConfigLoad s = _
  exact congrArg Host.Outcome.next (if_neg (by rw [h2, h3]; decide))

theorem State.phaseTo_startMarks (s : State) (p : Phase) : (s.phaseTo p).startMarks = (s.startMarks.1, p, s.startMarks.2.2) := rfl

theorem State.lit_startMarks (s : State) : (s.modBoot (fun b => { b with photonic := true, comb := true })).startMarks =
    (s.startMarks.1, s.startMarks.2.1, true, s.startMarks.2.2.2) := rfl

theorem State.configStage_warm {s : State} (h : s.boot.warm = true) :
    s.configStage.startMarks = (true, .warm 6, true, s.boot.done.getLsbD 3) := by
  have hread := s.configRead_startMarks
  have hwarm : s.configRead.boot.warm = true := (congrArg (·.1) hread).trans h
  unfold State.configStage
  rw [if_pos hwarm, State.lit_startMarks, State.phaseTo_startMarks, hread]
  exact congrArg (·, _) h

theorem State.configStage_cold {s : State} (h : s.boot.warm = false) :
    s.configStage.startMarks = (false, .cold 9, s.boot.photonic, s.boot.done.getLsbD 3) := by
  have hread := s.configRead_startMarks
  have hwarm : s.configRead.boot.warm = false := (congrArg (·.1) hread).trans h
  unfold State.configStage
  rw [if_neg (ne_true_of_eq_false hwarm), State.phaseTo_startMarks, State.startMarks_of_boot (State.fixCold_boot _),
    State.quillDivided_startMarks, hread]
  exact congrArg (·, _) h

/-- What the end of the stage shows of the start (R64). -/
theorem State.configEnds_spec (s : State) : ∃ d, (s.fillSpaces.markDone 3 true).boot = { s.boot with done := d } ∧ d.getLsbD 3 = true := by
  obtain ⟨_, _, _, _, hf⟩ := s.fillSpaces_rest
  obtain ⟨d, hm⟩ := s.fillSpaces.markDone_boot 3 true
  have hdone := s.fillSpaces.markDone_done 3 3 true (by decide)
  rw [hm] at hdone
  refine ⟨d, ?_, hdone⟩
  rw [hm, hf]

end Sys2Proof.Machine

open Sys2Proof Sys2Proof.Machine

/-- Settles O18, from what each step of the start marks and leaves. -/
theorem coldStartToConfiguration : Obligations.ColdStartToConfiguration := by
  unfold Obligations.ColdStartToConfiguration
  refine ⟨?release, ?testMode, ?bank, ?firmware, ?config⟩
  case release =>
    intro s x hb hp hc hx
    refine ⟨_, (exec_scribeResetRelease_ready x hb hp hc).trans (by rw [hx]), ?_⟩
    obtain ⟨c, hstart, hrun⟩ := (s.modBoot (fun b => { b with straps := x })).chopStart_rest x.sealOpen
    rw [hstart]
    obtain ⟨_, _, _, _, _, _, _, hrom⟩ := (State.phaseTo { s.modBoot (fun b => { b with straps := x }) with chop := c } (.cold 6)).romRuns_rest
    have hdone := (State.phaseTo { s.modBoot (fun b => { b with straps := x }) with chop := c } (.cold 6)).romRuns_done
    rw [hrom] at hdone ⊢
    exact ⟨rfl, rfl, rfl, hdone, rfl, rfl, hrun⟩
  case testMode =>
    intro s x hb hp hc hx
    refine ⟨_, (exec_scribeResetRelease_ready x hb hp hc).trans (by rw [hx]), ?_⟩
    obtain ⟨c, hstart, hrun⟩ := (s.modBoot (fun b => { b with straps := x })).chopStart_rest x.sealOpen
    rw [hstart]
    exact ⟨rfl, rfl, rfl, hrun⟩
  case bank =>
    intro s h0 h1 hr
    obtain ⟨u, h⟩ := exec_bankSelect_ready h0 h1 hr
    refine ⟨_, h, ?_⟩
    rcases activeSet s.flash with _ | ⟨bank, b⟩
    · exact u.enterRecovery_marks
    · exact u.bankTaken_serves _ bank b
  case firmware =>
    intro s h1 h2
    refine ⟨_, exec_scribeFirmwareStart_ready h1 h2, ?_⟩
    obtain ⟨_, hread⟩ := (s.markDone 2 true).readHistory_rest
    have hdone := s.markDone_done 2 2 true (by decide)
    rw [hread]
    exact ⟨hdone, by simp [State.scribeUp, hdone], s.markDone_power 2 true⟩
  case config =>
    intro s h2 h3
    obtain ⟨d, hboot, hd⟩ := s.configStage.reconstruct.configEnds_spec
    refine ⟨_, exec_configLoad_ready h2 h3, ?_⟩
    rw [hboot]
    cases hw : s.boot.warm with
    | true =>
      have hstage := State.configStage_warm hw
      have hmarks := (State.reconstruct_startMarks ((congrArg (·.2.2.2) hstage).trans h3)).trans hstage
      exact ⟨hd, congrArg (·.2.1) hmarks, by simp, fun _ => congrArg (·.2.2.1) hmarks⟩
    | false =>
      have hstage := State.configStage_cold hw
      have hmarks := (State.reconstruct_startMarks ((congrArg (·.2.2.2) hstage).trans h3)).trans hstage
      exact ⟨hd, congrArg (·.2.1) hmarks, fun _ => congrArg (·.2.2.1) hmarks, by simp⟩

end

section
/-!
PROOFS. The cold start from the memories to SERVICE (R61 to R64, R77, R97 to R99).
-/

namespace Sys2Proof.Machine

/-! ### What a change of lanes leaves -/

/-- A relation that every step of a `forEach` meets, the whole meets. -/
theorem State.forEach_rel {α : Type} {R : State → State → Prop} (refl : ∀ s, R s s) (trans : ∀ {s t u}, R s t → R t u → R s u)
    {g : State → α → State} (step : ∀ s x, R s (g s x)) : ∀ (l : List α) (s : State), R s (s.forEach l g)
  | [], s => refl s
  | x :: r, s => trans (step s x) (State.forEach_rel refl trans step r (g s x))

/-- States that differ in their fibres, the flags and the counters alone. -/
def SameButLanes (s t : State) : Prop := ∃ x fl c, t = { s with fibres := x, flags := fl, counters := c }

theorem SameButLanes.refl (s : State) : SameButLanes s s := ⟨s.fibres, s.flags, s.counters, rfl⟩

theorem SameButLanes.trans {s t u : State} (a : SameButLanes s t) (b : SameButLanes t u) : SameButLanes s u := by
  obtain ⟨_, _, _, rfl⟩ := a
  obtain ⟨_, _, _, rfl⟩ := b
  exact ⟨_, _, _, rfl⟩

theorem SameButLanes.forEach {α : Type} {g : State → α → State} (step : ∀ s x, SameButLanes s (g s x)) (l : List α) (s : State) :
    SameButLanes s (s.forEach l g) := State.forEach_rel .refl .trans step l s

theorem SameButLanes.flash {s t : State} (h : SameButLanes s t) : t.flash = s.flash := by
  obtain ⟨_, _, _, rfl⟩ := h
  rfl

theorem SameButLanes.boot {s t : State} (h : SameButLanes s t) : t.boot = s.boot := by
  obtain ⟨_, _, _, rfl⟩ := h
  rfl

theorem State.updLane_rest (s : State) (f w : Nat) (g : Lane → Lane) : SameButLanes s (s.updLane f w g) := ⟨_, _, _, rfl⟩

theorem abandonTrial_rest (s : State) (f : Nat) : SameButLanes s (abandonTrial s f) := by
  unfold abandonTrial
  split
  · exact ⟨_, _, _, rfl⟩
  · exact .refl s

theorem laneExit_rest (s : State) (f w : Nat) (g : Lane → Lane) : SameButLanes s (laneExit s f w g) := by
  unfold laneExit
  split
  · dsimp only
    have htrial : SameButLanes s (if (s.fibre f).trial.any (fun t => t.lane = w) then abandonTrial s f else s) := by
      split
      · exact abandonTrial_rest s f
      · exact .refl s
    exact htrial.trans ⟨_, _, _, rfl⟩
  · exact s.updLane_rest f w g

theorem laneHoldOwn_rest (s : State) (f w : Nat) (h : Hold) : SameButLanes s (laneHoldOwn s f w h) := by
  unfold laneHoldOwn
  dsimp only
  split
  · exact s.updLane_rest f w _
  · exact (s.updLane_rest f w _).trans (laneExit_rest _ f w _)

theorem releaseOwn_rest (s : State) (f w : Nat) (h : Hold) : SameButLanes s (releaseOwn s f w h) := by
  unfold releaseOwn
  dsimp only
  split
  · exact (s.updLane_rest f w _).trans (laneExit_rest _ f w _)
  · exact s.updLane_rest f w _

/-- Hold cause 8 comes and goes with a line's place in its range (R97). -/
theorem judgeLine_rest (s : State) (f w : Nat) : SameButLanes s
    (if 16 ≤ w then s
      else if s.lineFlagged f w then (if (s.lane f w).own.contains .launch then s else laneHoldOwn s f w .launch)
      else releaseOwn s f w .launch) := by
  split
  · exact .refl s
  · split
    · split
      · exact .refl s
      · exact laneHoldOwn_rest s f w .launch
    · exact releaseOwn_rest s f w .launch

/-- A calibration record is taken up by the lanes alone (R97). -/
theorem reloadCalibration_rest (s : State) : SameButLanes s (reloadCalibration s) := by
  unfold reloadCalibration
  split
  · exact .refl s
  · refine SameButLanes.forEach (fun s f => ?_) _ s
    refine SameButLanes.forEach (fun s w => ?_) _ s
    exact (s.updLane_rest f w _).trans (judgeLine_rest _ f w)

theorem State.swept_rest (s : State) : SameButLanes s s.swept := by
  unfold State.swept
  exact SameButLanes.forEach (fun s f => SameButLanes.forEach (fun s w => s.updLane_rest f w _) _ s) _ s

/-! ### The commissioning reference of a lane -/

/-- A change that leaves every lane's reference leaves those of the module. -/
theorem State.updLane_lineRef {g : Lane → Lane} (hg : ∀ y, (g y).lineRef = y.lineRef) (s : State) (f w k j : Nat) :
    ((s.updLane f w g).lane k j).lineRef = (s.lane k j).lineRef := by
  rw [State.lane_updLane]
  split
  next h =>
    obtain ⟨rfl, rfl⟩ := h
    exact hg _
  · rfl

@[simp] theorem Lane.updRing_lineRef (y : Lane) (r : Ring) (g : RingSt → RingSt) : (y.updRing r g).lineRef = y.lineRef := by cases r <;> rfl

@[simp] theorem Lane.restart_lineRef (y : Lane) (h : Hold) : (y.restart h).lineRef = y.lineRef := by
  unfold Lane.restart
  split
  · rfl
  · split <;> rfl

/-- A change of a fibre that leaves its lanes leaves every lane of the module. -/
theorem State.lane_updFibre_lanes {g : Fibre → Fibre} (hg : ∀ x, (g x).lanes = x.lanes) (s : State) (f k j : Nat) :
    (s.updFibre f g).lane k j = s.lane k j := by
  unfold State.lane
  rw [State.fibre_updFibre]
  split
  next h => rw [h, hg]
  · rfl

theorem abandonTrial_lineRef (s : State) (f k j : Nat) : ((abandonTrial s f).lane k j).lineRef = (s.lane k j).lineRef := by
  unfold abandonTrial
  split
  · rw [State.lane_updFibre_lanes (g := fun x => { x with trial := none }) (fun _ => rfl)]
    exact s.updLane_lineRef (fun y => y.updRing_lineRef _ _) f _ k j
  · rfl

theorem laneExit_lineRef {g : Lane → Lane} (hg : ∀ y, (g y).lineRef = y.lineRef) (s : State) (f w k j : Nat) :
    ((laneExit s f w g).lane k j).lineRef = (s.lane k j).lineRef := by
  unfold laneExit
  split
  · dsimp only
    refine (State.updLane_lineRef ?_ _ f w k j).trans ?_
    · exact fun y => hg _
    rw [State.lane_countFibre, State.lane_setFlag]
    split
    · exact abandonTrial_lineRef s f k j
    · rfl
  · exact s.updLane_lineRef hg f w k j

theorem laneHoldOwn_lineRef (s : State) (f w : Nat) (h : Hold) (k j : Nat) :
    ((laneHoldOwn s f w h).lane k j).lineRef = (s.lane k j).lineRef := by
  have hadd := s.updLane_lineRef (g := fun y => { y with own := h :: y.own.erase h }) (fun _ => rfl) f w k j
  unfold laneHoldOwn
  dsimp only
  split
  · exact hadd
  · exact (laneExit_lineRef (fun y => y.restart_lineRef _) _ f w k j).trans hadd

/-! ### Memories and Quill -/

theorem State.setFlagIf_rest (s : State) (c : Bool) (i b : Nat) : ∃ fl, s.setFlagIf c i b = { s with flags := fl } := by
  unfold State.setFlagIf
  split
  · exact ⟨_, rfl⟩
  · exact ⟨s.flags, rfl⟩

theorem State.flag_setFlagIf {c : Bool} (s : State) (i b : Nat) (hc : c = true) (hb : b < 32) : (s.setFlagIf c i b).flag i b = true := by
  rw [State.setFlagIf, if_pos hc]
  exact s.flag_setFlag_same i b hb

theorem exec_sramInitDone_ready {s : State} (h9 : s.coldFrom 9 = true) (hs : s.boot.sram = false) :
    exec .sramInitDone s = .next (s.modBoot (fun b => { b with phase := .cold 10, sram := true })) := by
  change execSramInitDone s = _
  exact congrArg Host.Outcome.next (if_pos (by rw [h9, hs]; rfl))

theorem exec_lpddr6Trained_ready {s : State} (failed : BitVec 16) (h9 : s.coldFrom 9 = true) (hd : s.boot.done.getLsbD 5 = false) :
    exec (.lpddr6Trained failed) s = .next (s.lpdEnds 0xFFFF failed) := by
  change execLpddr6Trained failed s = _
  exact congrArg Host.Outcome.next (if_pos (by rw [h9, hd]; rfl))

theorem exec_inkwellTrained_ready {s : State} (failed : BitVec 4) (h9 : s.coldFrom 9 = true) (hd : s.boot.done.getLsbD 6 = false) :
    exec (.inkwellTrained failed) s = .next (s.inkEnds failed) := by
  change execInkwellTrained failed s = _
  exact congrArg Host.Outcome.next (if_pos (by rw [h9, hd]; rfl))

theorem exec_quillRelease_ready {s : State} (h9 : s.coldFrom 9 = true) (h5 : s.boot.done.getLsbD 5 = true)
    (h7 : s.boot.done.getLsbD 7 = false) : exec .quillRelease s = .next s.releaseQuill := by
  change execQuillRelease s = _
  exact congrArg Host.Outcome.next (if_pos (by rw [h9, h5, h7]; rfl))

/-- The LPDDR6 stage with its packages in service marked, before a failure is recorded (R62, R332). -/
def State.lpdMarked (s : State) (lpd : BitVec 16) : State :=
  ((s.modMem (fun m => { m with lpd := lpd })).markDone 5 true).setFlagIf (lpd ≠ 0xFFFF) 0x6601 7

theorem State.lpdEnds_eq (s : State) (kept failed : BitVec 16) : s.lpdEnds kept failed =
    if failed = 0 then s.lpdMarked (kept &&& ~~~(failed ||| s.outOfService 0x0F 16 16))
    else (s.lpdMarked (kept &&& ~~~(failed ||| s.outOfService 0x0F 16 16))).startFails 5 := by
  unfold State.lpdEnds State.lpdMarked
  simp only [State.markDone_mem, State.modMem_mem]

theorem State.lpdMarked_spec (s : State) (lpd : BitVec 16) : ∃ d, (s.lpdMarked lpd).boot = { s.boot with done := d } ∧
    d.getLsbD 5 = true ∧ (s.lpdMarked lpd).mem = { s.mem with lpd := lpd } ∧ (lpd ≠ 0xFFFF → (s.lpdMarked lpd).flag 0x6601 7 = true) := by
  have hdone := (s.modMem (fun m => { m with lpd := lpd })).markDone_done 5 5 true (by decide)
  obtain ⟨d, _, _, _, hm⟩ := (s.modMem (fun m => { m with lpd := lpd })).markDone_rest 5 true
  rw [hm] at hdone
  unfold State.lpdMarked
  rw [hm]
  obtain ⟨_, hf⟩ := State.setFlagIf_rest _ (lpd ≠ 0xFFFF) 0x6601 7
  refine ⟨d, ?_, hdone, ?_, fun hl => State.flag_setFlagIf _ 0x6601 7 (decide_eq_true hl) (by decide)⟩
  · rw [hf]
    rfl
  · rw [hf]
    rfl

theorem State.lpdEnds_spec (s : State) (kept failed : BitVec 16) : (s.lpdEnds kept failed).boot.done.getLsbD 5 = true ∧
    (s.lpdEnds kept failed).mem = { s.mem with lpd := kept &&& ~~~(failed ||| s.outOfService 0x0F 16 16) } ∧
    ((s.lpdEnds kept failed).mem.lpd ≠ 0xFFFF → (s.lpdEnds kept failed).flag 0x6601 7 = true) ∧
    (s.lpdEnds kept failed).boot.failCode = if failed = 0 ∨ s.boot.failCode ≠ 0 then s.boot.failCode else 5 := by
  obtain ⟨d, hboot, hdone, hmem, hflag⟩ := s.lpdMarked_spec (kept &&& ~~~(failed ||| s.outOfService 0x0F 16 16))
  rw [State.lpdEnds_eq]
  generalize s.lpdMarked _ = u at hboot hmem hflag ⊢
  have hlow : u.mem.lpd ≠ 0xFFFF → u.flag 0x6601 7 = true := fun h => hflag (by rwa [hmem] at h)
  by_cases hf : failed = 0
  · rw [if_pos hf, hboot]
    exact ⟨hdone, hmem, hlow, by simp [hf]⟩
  · obtain ⟨_, hu⟩ := u.startFails_rest 5
    rw [if_neg hf, hu, hboot]
    refine ⟨hdone, hmem, hlow, ?_⟩
    by_cases hc : s.boot.failCode = 0
    · rw [if_neg (not_or.2 ⟨hf, not_not.2 hc⟩)]
      exact if_pos hc
    · exact (if_neg hc).trans (if_pos (.inr hc)).symm

theorem fullMask_and (x : BitVec 16) : 0xFFFF &&& ~~~x = ~~~x := by
  have hones : (0xFFFF : BitVec 16) = BitVec.allOnes 16 := by decide
  rw [hones, BitVec.allOnes_and]

/-- A boot schedule is a change of Ductus alone. -/
theorem State.loadBootSchedule_rest (s : State) : ∃ d, s.loadBootSchedule = { s with ductus := d } := by
  unfold State.loadBootSchedule
  split
  · split
    · exact ⟨s.ductus, rfl⟩
    · exact ⟨_, rfl⟩
  · exact ⟨s.ductus, rfl⟩

/-- States whose memories and bits of BOOT_STATUS agree. -/
def SameStore (s t : State) : Prop := t.mem = s.mem ∧ t.boot.done = s.boot.done

theorem SameStore.trans {s t u : State} (a : SameStore s t) (b : SameStore t u) : SameStore s u :=
  ⟨b.1.trans a.1, b.2.trans a.2⟩

theorem SameStore.startFails (s : State) (c : Nat) : SameStore s (s.startFails c) := by
  obtain ⟨_, h⟩ := s.startFails_rest c
  rw [h]
  exact ⟨rfl, rfl⟩

theorem SameStore.bootSchedule (s : State) (g : DuctusSt → DuctusSt) : SameStore s (s.loadBootSchedule.modDuctus g) := by
  obtain ⟨_, h⟩ := s.loadBootSchedule_rest
  rw [h]
  exact ⟨rfl, rfl⟩

/-- The Inkwell stage's failures and its boot schedule leave the memories and the marks of the start (R62, R63, R65). -/
theorem State.inkEnds_rest (s : State) (failed : BitVec 4) : SameStore
    ((s.modMem (fun m => { m with ink := ~~~(failed ||| s.outOfService 9 4 4) })).markDone 6 true) (s.inkEnds failed) := by
  have hfails (u : State) : SameStore u ((u.startFails 6).setFlag 0x6601 8) := (SameStore.startFails u 6).trans ⟨rfl, rfl⟩
  unfold State.inkEnds
  dsimp only
  generalize (s.modMem _).markDone 6 true = u
  have hstage : SameStore u (if failed ||| s.outOfService 9 4 4 = 0 then u else (u.startFails 6).setFlag 0x6601 8) :=
    ite_of (SameStore u) ⟨rfl, rfl⟩ (hfails u)
  generalize (if failed ||| s.outOfService 9 4 4 = 0 then u else (u.startFails 6).setFlag 0x6601 8) = v at hstage ⊢
  have hloaded := hstage.trans (SameStore.bootSchedule v (fun d => { d with bootJoin := d.shadowValid }))
  exact ite_of (SameStore u) (hloaded.trans (SameStore.startFails _ 9)) hloaded

/-- What leaves the module leaves the rest of it. -/
theorem State.forEach_emit {α : Type} (g : α → Output) : ∀ (l : List α) (s : State),
    s.forEach l (fun s x => s.emit (g x)) = { s with out := (l.map g).reverse ++ s.out }
  | [], s => rfl
  | x :: r, s => by
    refine (State.forEach_emit g r (s.emit (g x))).trans ?_
    simp [State.emit]

/-- States that differ in what has left the module alone. -/
def SameButOut (s t : State) : Prop := ∃ o, t = { s with out := o }

theorem SameButOut.trans {s t u : State} (a : SameButOut s t) (b : SameButOut t u) : SameButOut s u := by
  obtain ⟨_, rfl⟩ := a
  obtain ⟨_, rfl⟩ := b
  exact ⟨_, rfl⟩

theorem SameButOut.forEach_emit {α : Type} (g : State → α → Output) (l : List α) (s : State) :
    SameButOut s (s.forEach l (fun s x => s.emit (g s x))) :=
  State.forEach_rel (fun s => ⟨s.out, rfl⟩) .trans (fun _ _ => ⟨_, rfl⟩) l s

@[simp] theorem State.countPages_mem (s : State) (a sub n : Nat) : (s.countPages a sub n).mem = s.mem :=
  State.forEach_keeps State.mem _ (fun _ _ => by rfl) _ s

@[simp] theorem State.countPages_flash (s : State) (a sub n : Nat) : (s.countPages a sub n).flash = s.flash :=
  State.forEach_keeps State.flash _ (fun _ _ => by rfl) _ s

@[simp] theorem State.writeMem_flash (s : State) (a : Nat) (b : List Byte) : (s.writeMem a b).flash = s.flash := by
  simp [State.writeMem]

@[simp] theorem State.writeMem_lpd (s : State) (a : Nat) (b : List Byte) : (s.writeMem a b).mem.lpd = s.mem.lpd := by
  simp [State.writeMem, MemSt.writeLpd]

/-- A store reads back, whatever was poisoned or at rest there. -/
theorem State.byte_writeMem {a k : Nat} {b : List Byte} (s : State) (h : k < b.length) : (s.writeMem a b).mem.byte (a + k) = b[k] := by
  rw [State.writeMem, State.modMem_mem, State.countPages_mem]
  exact MemSt.byte_writeLpd_inside h

@[simp] theorem State.copyQuillFirmware_flash (s : State) : s.copyQuillFirmware.flash = s.flash := by
  unfold State.copyQuillFirmware
  split
  · simp
  · rfl

@[simp] theorem State.copyQuillFirmware_lpd (s : State) : s.copyQuillFirmware.mem.lpd = s.mem.lpd := by
  unfold State.copyQuillFirmware
  split
  · simp
  · rfl

/-- The active bank's Quill firmware stands at the start of the Module region (R61). -/
theorem State.copyQuillFirmware_byte {s : State} {b : List Byte} (hb : bootImage s.activeDev 3 = some b) {i : Nat} (h : i < b.length) :
    s.copyQuillFirmware.mem.byte (4 * gib + i) = b[i] := by
  unfold State.copyQuillFirmware
  rw [hb]
  exact s.byte_writeMem h

/-- A mark takes nothing back that has left the module. -/
theorem State.mem_out_markDone {s : State} {x : Output} (h : x ∈ s.out) (b : Nat) (v : Bool) : x ∈ (s.markDone b v).out := by
  obtain ⟨_, ⟨l, hl⟩, _⟩ := State.markDone_kept (a1 := b) (a2 := v) (Kept.self s)
  rw [hl]
  exact List.mem_append_right l h

/-- Quill is released over a module that differs from this one in its output alone: its firmware is copied, and its 24 cores leave
reset. -/
theorem State.releaseQuill_eq (s : State) : ∃ o, s.releaseQuill =
    ((State.copyQuillFirmware { s with out := o }).forEach (List.range 24) (fun s i => s.emit (.quillReset i true))).markDone 7 true := by
  obtain ⟨o, h⟩ := SameButOut.forEach_emit (fun s p1 => .quillMemory p1 (s.quillRegion p1).1 (s.quillRegion p1).2 s.mem.lpd) [false, true] s
  exact ⟨o, by rw [State.releaseQuill, h]⟩

theorem State.releaseQuill_flash (s : State) : s.releaseQuill.flash = s.flash := by
  obtain ⟨_, h⟩ := s.releaseQuill_eq
  rw [h, State.forEach_emit, State.markDone_flash, State.copyQuillFirmware_flash]

theorem State.releaseQuill_lpd (s : State) : s.releaseQuill.mem.lpd = s.mem.lpd := by
  obtain ⟨_, h⟩ := s.releaseQuill_eq
  rw [h, State.forEach_emit, State.markDone_mem, State.copyQuillFirmware_lpd]

theorem State.releaseQuill_resets (s : State) {i : Nat} (hi : i < 24) : Output.quillReset i true ∈ s.releaseQuill.out := by
  obtain ⟨_, h⟩ := s.releaseQuill_eq
  rw [h, State.forEach_emit]
  refine State.mem_out_markDone (List.mem_append_left _ ?_) 7 true
  exact List.mem_reverse.2 (List.mem_map_of_mem (List.mem_range.2 hi))

theorem State.releaseQuill_byte {s : State} {b : List Byte} (hb : bootImage s.activeDev 3 = some b) {i : Nat} (h : i < b.length) :
    s.releaseQuill.mem.byte (4 * gib + i) = b[i] := by
  obtain ⟨o, hr⟩ := s.releaseQuill_eq
  have hdev : bootImage (State.activeDev { s with out := o }) 3 = some b := hb
  have hcopy := State.copyQuillFirmware_byte hdev h
  rw [hr, State.forEach_emit, State.markDone_mem]
  exact hcopy

/-! ### Light -/

/-- States that differ in their engines alone. -/
def SameButEngines (s t : State) : Prop := ∃ x, t = { s with engines := x }

theorem SameButEngines.refl (s : State) : SameButEngines s s := ⟨s.engines, rfl⟩

theorem SameButEngines.trans {s t u : State} (a : SameButEngines s t) (b : SameButEngines t u) : SameButEngines s u := by
  obtain ⟨_, rfl⟩ := a
  obtain ⟨_, rfl⟩ := b
  exact ⟨_, rfl⟩

theorem SameButEngines.forEach {α : Type} {g : State → α → State} (step : ∀ s x, SameButEngines s (g s x)) (l : List α) (s : State) :
    SameButEngines s (s.forEach l g) := State.forEach_rel .refl .trans step l s

/-- Laser bias is on: every source of a fibre starts. -/
def State.lightUp (s : State) : State :=
  (s.modBoot (fun b => { b with photonic := true })).forEach (List.range 16) (fun s e =>
    s.forEach (List.range 4) (fun s i => s.updSource e i (fun x => { x with state := .starting })))

theorem State.lightUp_rest (s : State) : SameButEngines (s.modBoot (fun b => { b with photonic := true })) s.lightUp :=
  SameButEngines.forEach (fun s _ => SameButEngines.forEach (fun _ _ => ⟨_, rfl⟩) _ s) _ _

/-- A lane as the calibration record sets it: its reference and its heaters, and hold cause 8 where its line is flagged (R97). -/
def State.calibrateLane (b : List Byte) (s : State) (f w : Nat) : State :=
  let heat (k : Nat) (r : RingSt) : RingSt := { r with heater := min 30000 (Config.calibrationHeater b k f w), line := w }
  let t := s.updLane f w (fun y =>
    { y with lineRef := s.calRef f w, modulator := heat 0 y.modulator, drop := heat 1 y.drop, addDrop := heat 2 y.addDrop })
  if w < 16 && t.lineFlagged f w then laneHoldOwn t f w .launch else t

theorem exec_photonicLoad_ready {s : State} (h9 : s.coldFrom 9 = true) (hp : s.boot.photonic = false) : exec .photonicLoad s =
    .next (match dataPayload s.lightUp.flash 0x0005 with
      | none => s.lightUp.startFails 7
      | some b => s.lightUp.forEach (List.range 64) (fun s f => s.forEach (List.range 17) (fun s w => s.calibrateLane b f w))) := by
  change execPhotonicLoad s = _
  exact congrArg Host.Outcome.next (if_neg (by rw [h9, hp]; decide))

theorem State.lightUp_flash (s : State) : s.lightUp.flash = s.flash := by
  obtain ⟨_, h⟩ := s.lightUp_rest
  rw [h]
  rfl

theorem State.calibrateLane_rest (b : List Byte) (s : State) (f w : Nat) : SameButLanes s (s.calibrateLane b f w) := by
  unfold State.calibrateLane
  refine SameButLanes.trans (s.updLane_rest f w _) (ite_of (SameButLanes _) (laneHoldOwn_rest _ f w .launch) (.refl _))

/-- Calibration of a lane sets its reference and no other lane's. -/
theorem State.calibrateLane_lineRef (b : List Byte) (s : State) (f w k j : Nat) :
    ((s.calibrateLane b f w).lane k j).lineRef = if k = f ∧ j = w then s.calRef f w else (s.lane k j).lineRef := by
  unfold State.calibrateLane
  dsimp only
  generalize ht : s.updLane f w _ = t
  have hset : (t.lane k j).lineRef = if k = f ∧ j = w then s.calRef f w else (s.lane k j).lineRef := by
    rw [← ht, State.lane_updLane]
    split <;> rfl
  rw [← hset]
  split
  · exact laneHoldOwn_lineRef t f w .launch k j
  · rfl

theorem State.calibrateLane_flash (b : List Byte) (s : State) (f w : Nat) : (s.calibrateLane b f w).flash = s.flash :=
  (s.calibrateLane_rest b f w).flash

/-- What every step of a `forEach` keeps true, the whole keeps true. -/
theorem State.forEach_inv {α : Type} {I : State → Prop} {g : State → α → State} (keeps : ∀ s x, I s → I (g s x)) :
    ∀ (l : List α) {s : State}, I s → I (s.forEach l g)
  | [], _, h => h
  | x :: r, s, h => State.forEach_inv keeps r (keeps s x h)

/-- What each step of a `forEach` brings about for its own element, and no other step undoes, holds of them all in the end. -/
theorem State.forEach_reaches {α : Type} {I : State → Prop} {P : α → State → Prop} {g : State → α → State} (keeps : ∀ s x, I s → I (g s x))
    (brings : ∀ s x, I s → P x (g s x)) (stays : ∀ s x y, I s → P y s → P y (g s x)) {y : α} {l : List α} {s : State} (hI : I s)
    (hy : y ∈ l) : P y (s.forEach l g) := by
  induction l generalizing s with
  | nil => cases hy
  | cons x r ih =>
    rcases List.mem_cons.1 hy with rfl | hr
    · have hboth (u z) (h : I u ∧ P y u) : I (g u z) ∧ P y (g u z) := ⟨keeps u z h.1, stays u z y h.1 h.2⟩
      exact (State.forEach_inv hboth r ⟨keeps s y hI, brings s y hI⟩).2
    · exact ih (keeps s x hI) hr

/-- A state over the flash of `r` in which lane `w` of fibre `f` stands at its reference there. -/
def AtRef (r : State) (f w : Nat) (s : State) : Prop := s.flash = r.flash ∧ (s.lane f w).lineRef = r.calRef f w

theorem State.calRef_of_flash {s r : State} (h : s.flash = r.flash) (f w : Nat) : s.calRef f w = r.calRef f w := by
  unfold State.calRef
  rw [h]

theorem State.calibrateLane_atRef (b : List Byte) {s r : State} (h : s.flash = r.flash) (f w : Nat) : AtRef r f w (s.calibrateLane b f w) := by
  refine ⟨(s.calibrateLane_flash b f w).trans h, ?_⟩
  rw [State.calibrateLane_lineRef, if_pos ⟨rfl, rfl⟩, State.calRef_of_flash h]

theorem AtRef.calibrateLane {s r : State} {k j : Nat} (h : AtRef r k j s) (b : List Byte) (f w : Nat) : AtRef r k j (s.calibrateLane b f w) := by
  obtain ⟨hr, hl⟩ := h
  refine ⟨(s.calibrateLane_flash b f w).trans hr, ?_⟩
  rw [State.calibrateLane_lineRef]
  split
  next e => rw [e.1, e.2, State.calRef_of_flash hr]
  · exact hl

/-- After calibration every lane stands at its reference in the record (R97). -/
theorem State.calibrated_atRef (b : List Byte) (r : State) {f w : Nat} (hf : f < 64) (hw : w < 17) {s : State} (hs : s.flash = r.flash) :
    AtRef r f w (s.forEach (List.range 64) (fun s f => s.forEach (List.range 17) (fun s w => s.calibrateLane b f w))) := by
  have hflash (u : State) (k : Nat) (h : u.flash = r.flash) :
      (u.forEach (List.range 17) (fun s w => s.calibrateLane b k w)).flash = r.flash :=
    State.forEach_inv (I := fun u => u.flash = r.flash) (fun u j h => (u.calibrateLane_flash b k j).trans h) _ h
  refine State.forEach_reaches (I := fun u => u.flash = r.flash) (P := fun f => AtRef r f w) hflash (fun u k hu => ?_)
    (fun u k y _ h => State.forEach_inv (fun v j hv => hv.calibrateLane b k j) _ h) hs (List.mem_range.2 hf)
  exact State.forEach_reaches (I := fun u => u.flash = r.flash) (P := fun w => AtRef r k w)
    (fun v j hv => (v.calibrateLane_flash b k j).trans hv) (fun v j hv => v.calibrateLane_atRef b hv k j)
    (fun v j y _ h => h.calibrateLane b k j) hu (List.mem_range.2 hw)

/-- Calibration of every lane is a change of lanes. -/
theorem State.calibrated_rest (b : List Byte) (s : State) : SameButLanes s
    (s.forEach (List.range 64) (fun s f => s.forEach (List.range 17) (fun s w => s.calibrateLane b f w))) :=
  SameButLanes.forEach (fun s f => SameButLanes.forEach (fun s w => s.calibrateLane_rest b f w) _ s) _ s

/-- A source that has reached stable power feeds its fibre; with SPARE_POLICY 1 the spare starts (R99). -/
def State.feedEngine (s : State) (e : Nat) : State :=
  let s := s.forEach (List.range 4) (fun s i => s.updSource e i (fun x =>
    if x.state = .starting then { x with state := .active, feeds := i, fade := some 0 } else x))
  if s.param 0x2190 6 = 1 then startSpare s e else s

theorem State.feedEngine_rest (s : State) (e : Nat) : SameButEngines s (s.feedEngine e) := by
  have hfeed : SameButEngines s (s.forEach (List.range 4) (fun s i => s.updSource e i (fun x =>
      if x.state = .starting then { x with state := .active, feeds := i, fade := some 0 } else x))) :=
    SameButEngines.forEach (fun _ _ => ⟨_, rfl⟩) _ s
  exact hfeed.trans (ite_of (SameButEngines _) ⟨_, rfl⟩ (.refl _))

theorem exec_combStable_ready {s : State} (h9 : s.coldFrom 9 = true) (hp : s.boot.photonic = true) (hc : s.boot.comb = false) :
    exec .combStable s = .next ((s.modBoot (fun b => { b with comb := true })).forEach (List.range 16) State.feedEngine) := by
  change execCombStable s = _
  exact congrArg Host.Outcome.next (if_neg (by rw [h9, hp, hc]; decide))

/-! ### The optical stages and SERVICE -/

@[simp] theorem State.markDone_warm (s : State) (b : Nat) (v : Bool) : (s.markDone b v).boot.warm = s.boot.warm := by
  obtain ⟨_, h⟩ := s.markDone_boot b v
  rw [h]

@[simp] theorem State.storeData_boot (s : State) (typ : Nat) (l : List Byte) : (s.storeData typ l).boot = s.boot := by
  unfold State.storeData
  split <;> rfl

/-- The values of a full sweep become the new calibration record (R65). -/
def State.keepSweep (s : State) : State :=
  reloadCalibration (s.swept.free64.2.storeData 0x0005 (Config.calibrationRecord [s.swept.free64.1]))

theorem State.keepSweep_boot (s : State) : s.keepSweep.boot = s.boot := by
  unfold State.keepSweep
  rw [(reloadCalibration_rest _).boot, State.storeData_boot, State.free64_boot, s.swept_rest.boot]

theorem exec_ringsLocked_ready {s : State} (hc : s.boot.comb = true) (h8 : s.boot.done.getLsbD 8 = false) : exec .ringsLocked s =
    .next (if s.boot.warm || (dataPayload s.flash 5).isSome then s.markDone 8 true else (s.markDone 8 true).keepSweep) := by
  change execRingsLocked s = _
  unfold execRingsLocked
  rw [if_neg (by rw [hc, h8]; decide)]
  dsimp only
  rw [State.markDone_warm, State.markDone_flash]
  rfl

theorem exec_linksStageEnd_ready {s : State} (h8 : s.boot.done.getLsbD 8 = true) (h9 : s.boot.done.getLsbD 9 = false) :
    exec .linksStageEnd s = .next (s.markDone 9 true) := by
  change execLinksStageEnd s = _
  exact congrArg Host.Outcome.next (if_pos (by rw [h8, h9]; decide))

/-- SERVICE is marked, a module fault ends (R459), and quarantines are counted from now (R443). -/
def State.serviceBegins (s : State) : State :=
  let s := ((s.modPower (fun p => { p with faultLow := false })).modFaults (fun x => { x with moduleFault := false })).markDone 11 true
  s.forEach s.slots.keys (fun s j => s.updSlot j (fun x => if x.state = .quarantine then { x with quarantineAt := s.cellNow } else x))

/-- Of the module the quarantines change its slots alone. -/
theorem State.serviceBegins_rest (s : State) : ∃ x, s.serviceBegins =
    { ((s.modPower (fun p => { p with faultLow := false })).modFaults (fun x => { x with moduleFault := false })).markDone 11 true with
      slots := x } := by
  unfold State.serviceBegins
  dsimp only
  generalize State.markDone _ 11 true = u
  refine State.forEach_rel (R := fun s t => ∃ x, t = { s with slots := x }) (fun s => ⟨s.slots, rfl⟩) ?_ (fun _ _ => ⟨_, rfl⟩) _ u
  rintro _ _ _ ⟨_, rfl⟩ ⟨_, rfl⟩
  exact ⟨_, rfl⟩

/-- What SERVICE shows of the module (R64, R459). -/
theorem State.serviceBegins_spec (s : State) : s.serviceBegins.service = true ∧ s.serviceBegins.power.faultLow = false ∧
    s.serviceBegins.faults.moduleFault = false ∧ s.serviceBegins.boot.warm = s.boot.warm := by
  obtain ⟨_, h⟩ := s.serviceBegins_rest
  rw [h]
  refine ⟨State.markDone_done _ 11 11 true (by decide), ?_, ?_, ?_⟩
  · exact congrArg Power.faultLow (State.markDone_power _ 11 true)
  · exact congrArg FaultSt.moduleFault (State.markDone_faults _ 11 true)
  · exact State.markDone_warm _ 11 true

theorem exec_serviceSet_ready {s : State} (hr : s.serviceReady = true) (hs : s.service = false) : exec .serviceSet s =
    .next (s.serviceBegins.phaseTo (if s.serviceBegins.boot.warm then .warm 12 else .cold 19)) := by
  change execServiceSet s = _
  exact congrArg Host.Outcome.next (if_neg (by rw [hr, hs]; decide))

end Sys2Proof.Machine

open Sys2Proof Sys2Proof.Machine

/-- Settles O19, from what each stage of the start marks and leaves. -/
theorem coldStartToService : Obligations.ColdStartToService := by
  unfold Obligations.ColdStartToService
  refine ⟨?sram, ?lpddr6, ?inkwell, ?quill, ?noRecord, ?record, ?comb, ?ringsWarm, ?ringsCold, ?links, ?service⟩
  case sram => exact fun s h9 hs => exec_sramInitDone_ready h9 hs
  case lpddr6 =>
    intro s failed h9 h5
    have hends := s.lpdEnds_spec 0xFFFF failed
    rw [fullMask_and] at hends
    exact ⟨_, exec_lpddr6Trained_ready failed h9 h5, hends⟩
  case inkwell =>
    intro s failed h9 h6
    obtain ⟨hmem, hdone⟩ := s.inkEnds_rest failed
    refine ⟨_, exec_inkwellTrained_ready failed h9 h6, ?_⟩
    rw [hmem, hdone, State.markDone_mem]
    exact ⟨State.markDone_done _ 6 6 true (by decide), rfl, rfl⟩
  case quill =>
    intro s h9 h5 h7
    exact ⟨_, exec_quillRelease_ready h9 h5 h7, State.markDone_done _ 7 7 true (by decide), s.releaseQuill_lpd, s.releaseQuill_flash,
      fun i hi => s.releaseQuill_resets hi, fun b hb i hi => State.releaseQuill_byte hb hi⟩
  case noRecord =>
    intro s h9 hp hn
    rw [exec_photonicLoad_ready h9 hp, s.lightUp_flash, hn]
    rfl
  case record =>
    intro s b h9 hp hb
    have hlit : exec .photonicLoad s = .next (s.lightUp.forEach (List.range 64) (fun s f =>
        s.forEach (List.range 17) (fun s w => s.calibrateLane b f w))) := by
      rw [exec_photonicLoad_ready h9 hp, s.lightUp_flash, hb]
    have href (f w) (hf : f < 64) (hw : w < 17) := (State.calibrated_atRef b s hf hw s.lightUp_flash).2
    obtain ⟨_, hlight⟩ := s.lightUp_rest
    obtain ⟨_, _, _, hlanes⟩ := s.lightUp.calibrated_rest b
    refine ⟨_, hlit, ?_⟩
    rw [hlanes, hlight] at href ⊢
    exact ⟨rfl, rfl, rfl, rfl, rfl, href⟩
  case comb =>
    intro s h9 hp hc
    obtain ⟨_, h⟩ := SameButEngines.forEach State.feedEngine_rest (List.range 16) (s.modBoot (fun b => { b with comb := true }))
    refine ⟨_, exec_combStable_ready h9 hp hc, ?_⟩
    rw [h]
    exact ⟨rfl, rfl, rfl⟩
  case ringsWarm =>
    intro s hc h8 hw
    rw [exec_ringsLocked_ready hc h8, if_pos (by simp [hw])]
  case ringsCold =>
    intro s hc h8 hw
    refine ⟨_, exec_ringsLocked_ready hc h8, ?_⟩
    have hdone : (s.markDone 8 true).boot.done.getLsbD 8 = true := s.markDone_done 8 8 true (by decide)
    cases hr : (dataPayload s.flash 5).isSome with
    | true =>
      rw [if_pos (by simp)]
      exact ⟨hdone, fun _ => s.markDone_flash 8 true⟩
    | false =>
      rw [if_neg (by simp [hw]), State.keepSweep_boot]
      exact ⟨hdone, fun h => absurd h Bool.false_ne_true⟩
  case links => exact fun s h8 h9 => exec_linksStageEnd_ready h8 h9
  case service =>
    intro s h4 h5 h6 h9 h10 h11
    have hready : s.serviceReady = true := by
      simp only [State.serviceReady, Bool.and_eq_true, Bool.or_eq_true, decide_eq_true_eq]
      exact ⟨⟨⟨⟨h4, h5⟩, h6⟩, h9⟩, h10⟩
    obtain ⟨hs, hl, hm, hw⟩ := s.serviceBegins_spec
    refine ⟨_, exec_serviceSet_ready hready h11, hs, hl, hm, ?_⟩
    rw [hw]
    rfl

end

section
/-!
PROOFS. Host readiness (R58, R59) and the warm sequence (R66, R67).
-/

namespace Sys2Proof.Machine

/-! ### Host ports -/

@[simp] theorem State.port_updPort_same (s : State) (b : Bool) (g : Port → Port) : (s.updPort b g).port b = g (s.port b) := by
  cases b <;> rfl

@[simp] theorem State.port_updPort_not (s : State) (b : Bool) (g : Port → Port) : (s.updPort b g).port (!b) = s.port (!b) := by
  cases b <;> rfl

@[simp] theorem State.updPort_boot (s : State) (b : Bool) (g : Port → Port) : (s.updPort b g).boot = s.boot := rfl

@[simp] theorem State.updPort_mem (s : State) (b : Bool) (g : Port → Port) : (s.updPort b g).mem = s.mem := rfl

/-- The first request over a link that trains brings the port up (R58). -/
theorem exec_pcieConfigRequest_first {s : State} {b : Bool} (speed : Fin 7) (width : Fin 17) (ha : s.attached b = true)
    (hp : (s.port b).perst = false) (hh : (s.port b).held = false) (ht : (s.port b).training = true) (hu : (s.port b).up = false) :
    exec (.pcieConfigRequest b speed width none) s = .next
      ((s.updPort b (fun p => { p with up := true, training := false, speed := speed, width := width })).emit
        (.pcieConfig b (s.port b).filled)) := by
  change execPcieConfigRequest b speed width none s = _
  simp [execPcieConfigRequest, ha, hp, hh, ht, hu]

/-- With its space filled and VF Enable clear a port takes what is written to its SR-IOV capability. -/
theorem exec_pcieConfigRequest_enable {s : State} {b : Bool} (speed : Fin 7) (width : Fin 17) (en : Bool) (n : Fin 64)
    (ha : s.attached b = true) (hp : (s.port b).perst = false) (hh : (s.port b).held = false) (hu : (s.port b).up = true)
    (hf : (s.port b).filled = true) (hv : (s.port b).vfEnable = false) :
    exec (.pcieConfigRequest b speed width (some (en, n))) s = .next
      ((s.emit (.pcieConfig b true)).updPort b (fun p => { p with vfEnable := en, vfs := n })) := by
  change execPcieConfigRequest b speed width (some (en, n)) s = _
  simp [execPcieConfigRequest, ha, hp, hh, hu, hf, hv]

/-- A port out of PERST_N, and out of a unit fault's hold (R458). -/
def State.perstHigh (s : State) (b : Bool) : State := s.updPort b (fun p => { p with perst := false, held := false })

/-- An attached port trains once the ROM has enabled it (R58). -/
theorem exec_perstDeassert (s : State) (b : Bool) : exec (.perstDeassert b) s =
    .next (if s.attached b && s.boot.done.getLsbD 0 then (s.perstHigh b).updPort b (fun p => { p with training := !p.up })
      else s.perstHigh b) := rfl

/-- What a reset of functions leaves: the ports, the start and the memories. -/
def State.resetView (s : State) : (Bool → Port) × Boot × MemSt := (s.port, s.boot, s.mem)

theorem State.resetFunction_resetView (s : State) (fn : Nat) : (s.resetFunction fn).resetView = s.resetView :=
  State.forEach_keeps State.resetView State.resetRing (fun _ _ => rfl) _ s

/-- Function Level Reset of a PF takes its port's VFs, and resets its functions (R362). -/
theorem State.resetPf_eq (s : State) (b : Bool) : ∃ u : State, u.resetView = s.resetView ∧
    s.resetPf b = u.updPort b (fun p => { p with vfEnable := false, vfs := 0 }) :=
  ⟨_, State.forEach_keeps State.resetView State.resetFunction State.resetFunction_resetView (s.portFunctions b) s, rfl⟩

/-- A link that goes down resets its PF, and takes the port's speed and width (R362). -/
theorem State.portLinkDown_eq (s : State) (b : Bool) : ∃ u : State, u.resetView = s.resetView ∧ s.portLinkDown b =
    (u.updPort b (fun p => { p with vfEnable := false, vfs := 0 })).updPort b (fun p =>
      { p with up := false, training := false, speed := 0, width := 0 }) := by
  unfold State.portLinkDown
  dsimp only
  generalize hc : s.modHost _ = c
  have hview : c.resetView = s.resetView := by rw [← hc]; rfl
  obtain ⟨u, hu, hpf⟩ := c.resetPf_eq b
  exact ⟨u, hu.trans hview, by rw [hpf]⟩

theorem exec_perstAssert (s : State) (b : Bool) :
    exec (.perstAssert b) s = .next ((s.portLinkDown b).updPort b (fun p => { p with perst := true })) := rfl

/-! ### What the steps before a warm reset leave -/

/-- What ABORT, the windows that end and the account feed leave: the start, flash and the memories. -/
def State.warmView (s : State) : Boot × Flash × MemSt := (s.boot, s.flash, s.mem)

@[simp] theorem State.modChop_warmView (s : State) (g : ChopSt → ChopSt) : (s.modChop g).warmView = s.warmView := rfl
@[simp] theorem State.updFibre_warmView (s : State) (f : Nat) (g : Fibre → Fibre) : (s.updFibre f g).warmView = s.warmView := rfl
@[simp] theorem State.updEngine_warmView (s : State) (e : Nat) (g : Engine → Engine) : (s.updEngine e g).warmView = s.warmView := rfl
@[simp] theorem State.updSource_warmView (s : State) (e i : Nat) (g : Source → Source) : (s.updSource e i g).warmView = s.warmView := rfl
@[simp] theorem State.setFlag_warmView (s : State) (i b : Nat) : (s.setFlag i b).warmView = s.warmView := rfl
@[simp] theorem State.countUnit_warmView (s : State) (t i k : Nat) : (s.countUnit t i k).warmView = s.warmView := rfl
@[simp] theorem State.countFibre_warmView (s : State) (f k : Nat) : (s.countFibre f k).warmView = s.warmView := rfl

theorem State.abortLit_warmView (s : State) (c : Nat) : (s.abortLit c).warmView = s.warmView := by
  unfold State.abortLit
  split
  · exact State.forEach_keeps State.warmView (fun s f => sendAbort s c f) (fun _ _ => rfl) _ s
  · rfl

theorem payBack_warmView (s : State) (x : MarginFrame) : (payBack s x).warmView = s.warmView := by
  unfold payBack
  split <;> rfl

theorem transmitMargin_warmView (s : State) (f : Nat) (x : MarginFrame) : (transmitMargin s f x).warmView = s.warmView :=
  payBack_warmView s x

theorem pumpList_warmView (f : Nat) (l : List MarginFrame) (s : State) (kept : List MarginFrame) :
    (pumpList f l s kept).1.warmView = s.warmView := by
  induction l generalizing s kept with
  | nil => rfl
  | cons x r ih =>
    unfold pumpList
    split
    · exact (ih _ _).trans (transmitMargin_warmView s f x)
    · exact ih _ _

theorem pumpMargin_warmView (s : State) (f : Nat) : (pumpMargin s f).warmView = s.warmView := by
  unfold pumpMargin
  dsimp only
  split
  · rfl
  · rw [State.updFibre_warmView]
    exact pumpList_warmView f _ s []

theorem closeWindow_warmView (s : State) (f : Nat) : (closeWindow s f).warmView = s.warmView :=
  (pumpMargin_warmView _ f).trans (s.updFibre_warmView f _)

theorem newReference_warmView (s : State) (f k : Nat) : (newReference s f k).warmView = s.warmView := by
  unfold newReference
  exact State.forEach_keeps State.warmView _ (fun s _ => s.updFibre_warmView f _) _ s

theorem changeoverDone_warmView (s : State) (e : Nat) (c : Changeover) : (changeoverDone s e c).warmView = s.warmView := by
  unfold changeoverDone
  dsimp only
  simp only [closeWindow_warmView, State.countFibre_warmView, State.countUnit_warmView, State.setFlag_warmView, State.updEngine_warmView]
  split
  · simp only [newReference_warmView, State.setFlag_warmView, State.updSource_warmView]
    split
    · exact s.updSource_warmView _ _ _
    · rfl
  · simp only [newReference_warmView, State.updSource_warmView]

theorem State.finishOpen_warmView (s : State) : s.finishOpen.warmView = s.warmView := by
  unfold State.finishOpen
  refine State.forEach_keeps State.warmView _ (fun s e => ?_) _ s
  split
  · split
    · exact changeoverDone_warmView s e _
    · rfl
  · rfl

theorem State.feedAccounts_warmView (s : State) (lost : Bool) : (s.feedAccounts lost).warmView = s.warmView := by
  unfold State.feedAccounts
  dsimp only
  split
  · rfl
  · split
    · exact s.modChop_warmView _
    · rw [State.modChop_warmView]
      split
      · simp [State.chopFlag]
      · exact s.modChop_warmView _

/-! ### The reset of a warm start -/

theorem State.memWarm_ink (s : State) : s.memWarm.ink = 0 := by
  unfold State.memWarm
  split
  · rfl
  · split <;> rfl

/-- In service the contents of LPDDR6 stand through a warm start (R337). -/
theorem State.memWarm_byte {s : State} (hs : s.service = true) (hz : s.mem.zeroDone = true) (a : Nat) :
    s.memWarm.byte a = s.mem.byte a := by
  unfold State.memWarm
  rw [if_neg (not_bnot_of_true hz), if_pos (by rw [hs]; rfl)]
  rfl

/-- A warm start resets a module whose start, flash and memories still stand; it keeps the straps and flash, and the memories as R337
and R68 have them. -/
theorem State.warmStart_stores (s : State) : ∃ u : State, u.warmView = s.warmView ∧ s.warmStart.mem = u.memWarm ∧
    s.warmStart.flash = u.flash ∧ s.warmStart.boot.straps = u.boot.straps ∧ s.warmStart.boot.warmLow = u.boot.warmLow := by
  have hview : ((s.abortLit 3).finishOpen.feedAccounts false).warmView = s.warmView :=
    (State.feedAccounts_warmView _ false).trans ((State.finishOpen_warmView _).trans (s.abortLit_warmView 3))
  unfold State.warmStart
  generalize (s.abortLit 3).finishOpen.feedAccounts false = u at hview
  exact ⟨u, hview, rfl, rfl, rfl, rfl⟩

theorem exec_warmRstAssert (s : State) :
    exec .warmRstAssert s = .next (s.modBoot (fun b => { b with warmLow := true })).warmRequest := rfl

theorem State.warmRequest_off {s : State} (h : s.boot.phase = .off) : s.warmRequest = s := by
  unfold State.warmRequest
  rw [h]

/-- Once the core's SRAM is initialised a request in a cold start runs, unless a commit has sent its notices (R66, R68). -/
theorem State.warmRequest_cold {s : State} {k : Nat} (h : s.boot.phase = .cold k) (hs : s.boot.sram = true)
    (hc : s.commitNoticed = false) : s.warmRequest = s.warmStart := by
  unfold State.warmRequest
  rw [h]
  exact (if_pos hs).trans (if_neg (ne_true_of_eq_false hc))

/-! ### The warm steps -/

theorem exec_warmPufRelease_ready {s : State} (h4 : s.boot.phase = .warm 4) (hl : s.boot.warmLow = false) :
    exec .warmPufRelease s = .next (s.phaseTo (.warm 5)).romRuns := by
  change execWarmPufRelease s = _
  exact congrArg Host.Outcome.next (if_pos (by simp [h4, hl]))

/-- Warm step 7 with the core's SRAM initialised, before the memories. -/
def State.warmSram (s : State) : State := (s.phaseTo (.warm 7)).modBoot (fun b => { b with sram := true })

/-- The packages that warm step 7 trains: those in service, or all where no cold start has trained them. -/
def State.lpdToTrain (s : State) : BitVec 16 := if s.mem.lpd = 0 then 0xFFFF else s.mem.lpd

theorem exec_warmMemoryReady_ready {s : State} (l : BitVec 16) (k : BitVec 4) (h6 : s.warmFrom 6 = true) (hs : s.boot.sram = false) :
    exec (.warmMemoryReady l k) s = .next ((s.warmSram.lpdEnds s.lpdToTrain l).inkEnds k) := by
  change execWarmMemoryReady l k s = _
  exact congrArg Host.Outcome.next (if_neg (by rw [h6, hs]; decide))

/-- The step that a start has reached, and whether the core's SRAM is initialised. -/
def State.stepView (s : State) : Phase × Bool := (s.boot.phase, s.boot.sram)

theorem State.startFails_stepView (s : State) (c : Nat) : (s.startFails c).stepView = s.stepView := rfl

theorem State.markDone_stepView (s : State) (b : Nat) (v : Bool) : (s.markDone b v).stepView = s.stepView := by
  obtain ⟨_, _, _, _, h⟩ := s.markDone_rest b v
  rw [h]
  rfl

theorem State.lpdEnds_stepView (s : State) (kept failed : BitVec 16) : (s.lpdEnds kept failed).stepView = s.stepView := by
  obtain ⟨_, hboot, _⟩ := s.lpdMarked_spec (kept &&& ~~~(failed ||| s.outOfService 0x0F 16 16))
  have hmarked : (s.lpdMarked (kept &&& ~~~(failed ||| s.outOfService 0x0F 16 16))).stepView = s.stepView := by
    unfold State.stepView
    rw [hboot]
  rw [State.lpdEnds_eq]
  exact ite_of (fun t : State => t.stepView = s.stepView) hmarked hmarked

theorem State.inkEnds_stepView (s : State) (failed : BitVec 4) : (s.inkEnds failed).stepView = s.stepView := by
  unfold State.inkEnds
  dsimp only
  have hmark := State.markDone_stepView (s.modMem (fun m => { m with ink := ~~~(failed ||| s.outOfService 9 4 4) })) 6 true
  generalize (s.modMem _).markDone 6 true = u at hmark ⊢
  have hstage : (if failed ||| s.outOfService 9 4 4 = 0 then u else (u.startFails 6).setFlag 0x6601 8).stepView = u.stepView :=
    ite_of (fun t : State => t.stepView = u.stepView) rfl rfl
  generalize (if failed ||| s.outOfService 9 4 4 = 0 then u else (u.startFails 6).setFlag 0x6601 8) = v at hstage ⊢
  obtain ⟨_, hload⟩ := v.loadBootSchedule_rest
  rw [hload]
  refine Eq.trans (b := v.stepView) ?_ (hstage.trans hmark)
  exact ite_of (fun t : State => t.stepView = v.stepView) (State.startFails_stepView _ 9) rfl

theorem exec_warmQuillRestart_ready {s : State} (h7 : s.warmFrom 7 = true) (hd : s.boot.done.getLsbD 7 = false) :
    exec .warmQuillRestart s = .next s.releaseQuill := by
  change execWarmQuillRestart s = _
  exact congrArg Host.Outcome.next (if_pos (by rw [h7, hd]; rfl))

end Sys2Proof.Machine

open Sys2Proof Sys2Proof.Machine

/-- Settles O20, from one rule for each command's branch and what a reset of functions and the steps of a warm start leave. That a first
configuration request finds the link up, and where the Quill firmware stands, are the model's choices (logs 89 and 152). -/
theorem hostReadinessAndWarmReset : Obligations.HostReadinessAndWarmReset := by
  unfold Obligations.HostReadinessAndWarmReset
  refine ⟨?first, ?sriov, ?trains, ?waits, ?perst, ?off, ?reset, ?released, ?puf, ?memory, ?quill⟩
  case first => exact fun s b speed width ha hp hh ht hu => exec_pcieConfigRequest_first speed width ha hp hh ht hu
  case sriov => exact fun s b speed width en n ha hp hh hu hf hv => exec_pcieConfigRequest_enable speed width en n ha hp hh hu hf hv
  case trains =>
    intro s b ha h0
    refine ⟨_, (exec_perstDeassert s b).trans (by rw [if_pos (by rw [ha, h0]; rfl)]), ?_⟩
    simp [State.perstHigh]
  case waits =>
    intro s b h
    rw [exec_perstDeassert, if_neg (by rcases h with h | h <;> rw [h] <;> simp)]
    rfl
  case perst =>
    intro s b
    refine ⟨_, exec_perstAssert s b, ?_⟩
    obtain ⟨u, hu, hdown⟩ := s.portLinkDown_eq b
    obtain ⟨hport, hboot, hmem⟩ : u.port = s.port ∧ u.boot = s.boot ∧ u.mem = s.mem := by simpa [State.resetView] using hu
    rw [hdown, ← hport, ← hboot, ← hmem]
    simp
  case off => exact fun s h => (exec_warmRstAssert s).trans (congrArg Host.Outcome.next (State.warmRequest_off h))
  case reset =>
    intro s k hk hs hc
    refine ⟨_, (exec_warmRstAssert s).trans (congrArg Host.Outcome.next (State.warmRequest_cold hk hs hc)), ?_⟩
    obtain ⟨u, hu, hmem, hflash, hstraps, hlow⟩ := (s.modBoot (fun b => { b with warmLow := true })).warmStart_stores
    have hb : u.boot = { s.boot with warmLow := true } := congrArg (·.1) hu
    have hm : u.mem = s.mem := congrArg (·.2.2) hu
    rw [hmem, hflash, hstraps, hlow, hb]
    refine ⟨rfl, rfl, rfl, rfl, congrArg (·.2.1) hu, rfl, rfl, rfl, u.memWarm_ink, fun hs hz a => ?_⟩
    rw [← hm]
    exact State.memWarm_byte (s := u) (by rw [State.service, hb]; exact hs) (by rw [hm]; exact hz) a
  case released => exact fun s => rfl
  case puf =>
    intro s h4 hl
    refine ⟨_, exec_warmPufRelease_ready h4 hl, ?_⟩
    obtain ⟨_, _, _, _, _, _, _, hrom⟩ := (s.phaseTo (.warm 5)).romRuns_rest
    have hdone := (s.phaseTo (.warm 5)).romRuns_done
    rw [hrom] at hdone ⊢
    exact ⟨rfl, rfl, hdone, rfl, rfl⟩
  case memory =>
    intro s l k h6 hs
    refine ⟨_, exec_warmMemoryReady_ready l k h6 hs, ?_⟩
    obtain ⟨hlpd, hmem, _⟩ := s.warmSram.lpdEnds_spec s.lpdToTrain l
    have hstep := (State.inkEnds_stepView _ k).trans (s.warmSram.lpdEnds_stepView s.lpdToTrain l)
    generalize s.warmSram.lpdEnds s.lpdToTrain l = u at hlpd hmem hstep ⊢
    obtain ⟨hink, hdone⟩ := u.inkEnds_rest k
    rw [hink, hdone, State.markDone_mem, State.markDone_done _ 6 5 true (by decide), State.markDone_done _ 6 6 true (by decide)]
    refine ⟨congrArg (·.1) hstep, congrArg (·.2) hstep, hlpd, rfl, ?_, ?_⟩
    · rw [State.modMem_mem, hmem]
      rfl
    · rw [State.modMem_mem, hmem]
      rfl
  case quill =>
    exact fun s h7 hd => ⟨_, exec_warmQuillRestart_ready h7 hd, State.markDone_done _ 7 7 true (by decide), s.releaseQuill_lpd,
      s.releaseQuill_flash, fun i hi => s.releaseQuill_resets hi, fun b hb i hi => State.releaseQuill_byte hb hi⟩

end

section
/-!
PROOFS. Accepted writes of the recovery, fibre, source and Hatch objects (R72, R109, R115, R412).
-/

namespace Sys2Proof.Machine

/-! ### An admitted write -/

/-- An admitted write to an object that takes the value is served with OK. -/
theorem WriteAdmitted.serve {s a u : State} {r : Req} {idx sub v : Nat} {row : ObjRow} {act : State → Nat → Except DopStatus State}
    (h : WriteAdmitted s r idx sub v a) (hrow : objRow idx sub = some row) (hsub : sub ≠ 0) (hacc : row.acc ≠ .ro ∧ row.acc ≠ .const)
    (htyp : ∀ n, row.typ ≠ .domain n) (hv : v < 256 ^ row.typ.size) (hact : act a v = .ok u) :
    serveWrite s r idx sub v act = writeOk u r idx sub v := by
  obtain ⟨rfl, up, reach, new, role, adm, hrole⟩ := h
  exact serveWrite_ok up reach new adm hrole hrow hsub hacc htyp hv hact

theorem WriteAdmitted.serveCommand {s a u : State} {r : Req} {idx v : Nat} {act : State → Nat → Except DopStatus State}
    (h : WriteAdmitted s r idx 1 v a) (hrow : objRow idx 1 = some (commandRow idx)) (hv : v < 2 ^ 32) (hact : act a v = .ok u) :
    serveWrite s r idx 1 v act = writeOk u r idx 1 v :=
  h.serve hrow (by decide) (by simp [commandRow]) (by simp [commandRow]) hv hact

theorem objRow_recoveryCmd : objRow 0x1F00 1 = some (commandRow 0x1F00) := by decide +kernel
theorem objRow_sourceCmd : objRow 0x2191 1 = some (commandRow 0x2191) := by decide +kernel
theorem objRow_hatchCmd : objRow 0x21A1 1 = some (commandRow 0x21A1) := by decide +kernel

theorem objRow_fibreCfg (f : Fin 64) : objRow (0x2140 + f.val) 1 =
    some { idx := 0x2140, n := 64, typ := .fields64, acc := .rw, reset := 0x0010FFFF0000FFFF, hi := 2 ^ 64 - 1 } := by
  revert f
  decide +kernel

/-! ### RECOVERY_CMD -/

theorem recoveryCommand_load {a : State} (h : a.boot.recovery = true) : recoveryCommand a (command32 1 0) =
    .ok (a.modCodex (fun c => { c with loads := c.loads.put {} 0x1F01 { active := true }, recoveryStatus := 0 })) := by
  simp [recoveryCommand, command32, bits, h]

theorem recoveryCommand_install {a : State} (h : a.boot.recovery = true) : recoveryCommand a (command32 2 0) =
    .ok (a.modCodex (fun c => { c with installDue := true, recoveryStatus := 1 })) := by
  simp [recoveryCommand, command32, bits, h]

theorem exec_recoveryBeginLoad_accepted {s a : State} {r : Req} (h : WriteAdmitted s r 0x1F00 1 (command32 1 0) a)
    (hr : a.boot.recovery = true) : exec (.recoveryBeginLoad r 0) s = .next (writeOk (a.modCodex (fun c =>
      { c with loads := c.loads.put {} 0x1F01 { active := true }, recoveryStatus := 0 })) r 0x1F00 1 (command32 1 0)) :=
  congrArg Host.Outcome.next (h.serveCommand objRow_recoveryCmd (by decide) (recoveryCommand_load hr))

theorem exec_recoveryInstall_accepted {s a : State} {r : Req} (h : WriteAdmitted s r 0x1F00 1 (command32 2 0) a)
    (hr : a.boot.recovery = true) : exec (.recoveryInstall r 0) s = .next (writeOk (a.modCodex (fun c =>
      { c with installDue := true, recoveryStatus := 1 })) r 0x1F00 1 (command32 2 0)).afterServe :=
  congrArg (fun t => Host.Outcome.next (State.afterServe t))
    (h.serveCommand objRow_recoveryCmd (by decide) (recoveryCommand_install hr))

/-! ### FIBRE_CFG -/

/-- A sound configuration is taken, where a fibre that leaves circuit mode has no slot in circuit use (R72). -/
theorem fibreCfgWrite_accepted {a : State} {f v : Nat} (hv : fibreCfgValid (fibreCfgMask v) = true)
    (hm : cfgMode (a.fibreCfg f) = false ∨ cfgMode (fibreCfgMask v) = true ∨ ∀ w < 16, a.inCircuit f w = false) :
    fibreCfgWrite f a v = .ok (applyFibreCfg a f (a.fibreCfg f) (fibreCfgMask v)) := by
  have hkept : ¬ (cfgMode (a.fibreCfg f) && !(cfgMode (fibreCfgMask v)) && (List.range 16).any (fun w => a.inCircuit f w)) = true := by
    rcases hm with h | h | h
    · simp [h]
    · simp [h]
    · simpa using fun _ _ => h
  unfold fibreCfgWrite
  exact (if_neg (not_bnot_of_true hv)).trans (if_neg hkept)

theorem exec_fibreCfgWrite_accepted {s a : State} {r : Req} {f : Fin 64} {v : BitVec 64}
    (h : WriteAdmitted s r (0x2140 + f.val) 1 v.toNat a) (hv : fibreCfgValid (fibreCfgMask v.toNat) = true)
    (hm : cfgMode (a.fibreCfg f) = false ∨ cfgMode (fibreCfgMask v.toNat) = true ∨ ∀ w < 16, a.inCircuit f w = false) :
    exec (.fibreCfgWrite r f v) s =
      .next (writeOk (applyFibreCfg a f (a.fibreCfg f) (fibreCfgMask v.toNat)) r (0x2140 + f.val) 1 v.toNat).runPendingWarm :=
  congrArg (fun t => Host.Outcome.next (State.runPendingWarm t))
    (h.serve (objRow_fibreCfg f) (by decide) (by simp) (by simp) v.isLt (fibreCfgWrite_accepted hv hm))

/-! ### SOURCE_CMD -/

/-- What SOURCE_CMD's value spells (R109). -/
theorem sourceCmd_fields {cmd e src : Nat} (hc : cmd < 256) (he : e < 16) (hs : src < 16) : bits (sourceCmd cmd e src) 31 16 = 0 ∧
    bits (sourceCmd cmd e src) 15 8 = cmd ∧ bits (sourceCmd cmd e src) 7 4 = e ∧ bits (sourceCmd cmd e src) 3 0 = src := by
  simp only [bits, sourceCmd, Nat.reducePow, Nat.reduceSub, Nat.reduceAdd]
  omega

theorem sourceCommand_reinstate {a : State} {e src : Fin 16} (hs : src.val ≤ 3) (hr : (a.source e src).state = .retired)
    (h4 : (a.source e 4).state = .active) (hf : (a.source e 4).feeds = src) (hl : -100 < (a.source e src).lastFade)
    (hc : (a.engine e).change = none) : sourceCommand a (sourceCmd 1 e src) =
      .ok ((abandonTrial a (4 * e + src)).updEngine e (fun x =>
        { x with change := some { fibre := src, target := src, requested := true } })) := by
  obtain ⟨hz, hcmd, he, hsrc⟩ := sourceCmd_fields (cmd := 1) (by decide) e.isLt src.isLt
  have h3 : ¬ 3 < src.val := Nat.not_lt.2 hs
  simp [sourceCommand, hz, hcmd, he, hsrc, h3, hr, h4, hf, hl, hc]

theorem sourceCommand_changeover {a : State} {e src : Fin 16} (hs : src.val ≤ 3) (ha : (a.source e src).state = .active)
    (h4 : (a.source e 4).state = .ready) (hc : (a.engine e).change = none) (hf : (a.engine e).failedFibre = none) :
    sourceCommand a (sourceCmd 2 e src) = .ok (requestChange a (4 * e + src)) := by
  obtain ⟨hz, hcmd, he, hsrc⟩ := sourceCmd_fields (cmd := 2) (by decide) e.isLt src.isLt
  have h3 : ¬ 3 < src.val := Nat.not_lt.2 hs
  simp [sourceCommand, hz, hcmd, he, hsrc, h3, ha, h4, hc, hf]

theorem sourceCmd_lt {cmd : Nat} (e src : Fin 16) (hc : cmd < 256) : sourceCmd cmd e src < 2 ^ 32 := by
  unfold sourceCmd
  omega

/-! ### HATCH_CMD -/

/-- HATCH_CMD's word with a count and a tag that fit their fields. -/
theorem hatchWord_eq {cmd count tag : Nat} (hn : count ≤ 32) (ht : tag < 65536) :
    hatchWord cmd count tag = cmd * 2 ^ 24 + count * 2 ^ 16 + tag := by
  unfold hatchWord
  omega

/-- What HATCH_CMD's word spells (R115). -/
theorem hatchWord_fields {cmd count tag : Nat} (hc : cmd ≤ 3) (hn : count ≤ 32) (ht : tag < 65536) :
    bits (hatchWord cmd count tag) 31 24 = cmd ∧ bits (hatchWord cmd count tag) 23 22 = 0 ∧
    bits (hatchWord cmd count tag) 21 16 = count ∧ bits (hatchWord cmd count tag) 15 0 = tag := by
  rw [hatchWord_eq hn ht]
  simp only [bits, Nat.reducePow, Nat.reduceSub, Nat.reduceAdd]
  omega

theorem hatchWord_lt {cmd count tag : Nat} (hc : cmd ≤ 3) : hatchWord cmd count tag < 2 ^ 32 := by
  unfold hatchWord
  omega

theorem hatchCommand_commit {a : State} {n tag : Nat} (h1 : 1 ≤ n) (hn : n ≤ 32) (ht : tag < 65536) (hc : a.hatch.commit = none) :
    hatchCommand a (hatchWord 1 n tag) = .ok (acceptCommit a n tag) := by
  obtain ⟨hcmd, hz, hcount, htag⟩ := hatchWord_fields (cmd := 1) (by decide) hn ht
  have h0 : n ≠ 0 := by omega
  have h32 : ¬ 32 < n := Nat.not_lt.2 hn
  simp [hatchCommand, hcmd, hz, hcount, htag, h0, h32, hc]

theorem hatchCommand_clear {a : State} {tag : Nat} (ht : tag < 65536) (hc : a.hatch.commit = none) : hatchCommand a (hatchWord 2 0 tag) =
    .ok (a.forEach (List.range 32) (fun s k => s.setParam 0x21A2 (1 + k) 0)) := by
  obtain ⟨hcmd, hz, hcount, _⟩ := hatchWord_fields (cmd := 2) (by decide) (Nat.zero_le 32) ht
  simp [hatchCommand, hcmd, hz, hcount, hc]

/-- A commit that has sent no notices is cancelled (R115). -/
theorem hatchCommand_cancel {a : State} {tag : Nat} {c : Commit} (ht : tag < 65536) (hc : a.hatch.commit = some c) (hs : c.sent = false)
    (h2 : c.stage ≤ 2) : hatchCommand a (hatchWord 3 0 tag) = .ok (a.commitEnds 10) := by
  obtain ⟨hcmd, hz, hcount, _⟩ := hatchWord_fields (cmd := 3) (by decide) (Nat.zero_le 32) ht
  simp [hatchCommand, hcmd, hz, hcount, hc, hs, h2]

/-- A command that Hatch accepts is served with OK. -/
theorem WriteAdmitted.serveHatch {s a u : State} {r : Req} {cmd count tag : Nat} (h : WriteAdmitted s r 0x21A1 1 (hatchWord cmd count tag) a)
    (hc : cmd ≤ 3) (hact : hatchCommand a (hatchWord cmd count tag) = .ok u) :
    serveWrite s r 0x21A1 1 (hatchWord cmd count tag) hatchCommand = writeOk u r 0x21A1 1 (hatchWord cmd count tag) :=
  h.serveCommand objRow_hatchCmd (hatchWord_lt hc) hact

end Sys2Proof.Machine

open Sys2Proof Sys2Proof.Machine

/-- Settles O31, from what each object's command accepts and what serving an admitted write answers. -/
theorem opticsWritesAccepted : Obligations.OpticsWritesAccepted := by
  unfold Obligations.OpticsWritesAccepted
  refine ⟨?load, ?install, ?fibre, ?reinstate, ?changeover, ?commit, ?clear, ?cancel⟩
  case load => exact fun s a r h hr => exec_recoveryBeginLoad_accepted h hr
  case install => exact fun s a r h hr => exec_recoveryInstall_accepted h hr
  case fibre => exact fun s a r f v h hv hm => exec_fibreCfgWrite_accepted h hv hm
  case reinstate =>
    intro s a r e src h hs hr h4 hf hl hc
    exact congrArg Host.Outcome.next
      (h.serveCommand objRow_sourceCmd (sourceCmd_lt e src (cmd := 1) (by decide)) (sourceCommand_reinstate hs hr h4 hf hl hc))
  case changeover =>
    intro s a r e src h hs ha h4 hc hf
    exact congrArg Host.Outcome.next
      (h.serveCommand objRow_sourceCmd (sourceCmd_lt e src (cmd := 2) (by decide)) (sourceCommand_changeover hs ha h4 hc hf))
  case commit =>
    intro s a r n tag h h1 hn ht hc
    have hw : 2 ^ 24 + n * 2 ^ 16 + tag = hatchWord 1 n tag := by rw [hatchWord_eq hn ht, one_mul]
    rw [hw] at h ⊢
    exact congrArg Host.Outcome.next (h.serveHatch (by decide) (hatchCommand_commit h1 hn ht hc))
  case clear =>
    intro s a r tag h ht hc
    have hw : 2 * 2 ^ 24 + tag = hatchWord 2 0 tag := by rw [hatchWord_eq (Nat.zero_le 32) ht, zero_mul, add_zero]
    rw [hw] at h ⊢
    exact congrArg Host.Outcome.next (h.serveHatch (by decide) (hatchCommand_clear ht hc))
  case cancel =>
    intro s a r tag c h ht hc hs h2
    have hw : 3 * 2 ^ 24 + tag = hatchWord 3 0 tag := by rw [hatchWord_eq (Nat.zero_le 32) ht, zero_mul, add_zero]
    rw [hw] at h ⊢
    exact congrArg Host.Outcome.next (h.serveHatch (by decide) (hatchCommand_cancel ht hc hs h2))

end

section
/-!
PROOFS. Lane and link training (R75, R77, R80, R81).
-/

namespace Sys2Proof.Machine

/-! ### A lane moves -/

/-- A lane that is not IN moves, and nothing else is said of it. -/
theorem laneExit_notIn {s : State} {f w : Nat} (g : Lane → Lane) (h : (s.lane f w).state ≠ .inn) :
    laneExit s f w g = s.updLane f w g := by
  simp [laneExit, h]

theorem laneRestart_notIn {s : State} {f w : Nat} (hw : w < 16) (h : (s.lane f w).state ≠ .inn) :
    laneRestart s f w = s.updLane f w (Lane.restart (s.fibre f).holdAll) := by
  unfold laneRestart
  rw [laneExit_notIn _ h, if_neg (Nat.ne_of_lt hw)]

theorem State.lane_updLane_other {f w k j : Nat} (s : State) (g : Lane → Lane) (h : (k, j) ≠ (f, w)) :
    (s.updLane f w g).lane k j = s.lane k j := by
  rw [State.lane_updLane, if_neg (fun e => h (Prod.ext e.1 e.2))]

/-- A lane at LOCK with no hold. -/
def Lane.Locks (y : Lane) : Prop := y.state = .lock ∧ y.hold = .none

theorem Lane.restart_locks {y : Lane} (h : y.own = []) : (y.restart .none).Locks := by
  simp [Lane.Locks, Lane.restart, h]

/-! ### Lanes that start -/

/-- A lane that may start: light on its fibre, electrical service, and use at both ends (R75). -/
def State.Startable (s : State) (f w : Nat) : Prop :=
  (s.fibre f).rxLos = false ∧ s.offElectrical f w = false ∧ s.laneUsed f w = true

theorem laneStart_startable {s : State} {f w : Nat} (hw : w < 16) (ho : (s.lane f w).state = .out) (h : s.Startable f w) :
    laneStart s f w = s.updLane f w (Lane.restart (s.fibre f).holdAll) := by
  obtain ⟨hlos, hoff, hused⟩ := h
  have hrestart := laneRestart_notIn (s := s) (f := f) hw (by rw [ho]; decide)
  simp [laneStart, ho, hlos, hoff, hused, hrestart]

theorem laneStart_notOut {s : State} {f w : Nat} (h : (s.lane f w).state ≠ .out) : laneStart s f w = s := by
  simp [laneStart, h]

/-- A start is a change of the lane that starts, or none. -/
theorem laneStart_cases (s : State) (f w : Nat) : laneStart s f w = s ∨ ∃ g, laneStart s f w = s.updLane f w g := by
  by_cases ho : (s.lane f w).state = .out
  · unfold laneStart
    dsimp only
    split
    · exact .inl rfl
    · split
      · exact .inr ⟨_, laneExit_notIn _ (by rw [ho]; decide)⟩
      · split
        · exact .inr ⟨_, rfl⟩
        · exact .inl rfl
  · exact .inl (laneStart_notOut ho)

theorem laneStart_lane_other {w x : Nat} (s : State) (f : Nat) (h : w ≠ x) : (laneStart s f x).lane f w = s.lane f w := by
  rcases laneStart_cases s f x with e | ⟨g, e⟩
  · rw [e]
  · rw [e, State.lane_updLane_other _ _ (fun e => h (congrArg Prod.snd e))]

/-- A fibre but for its lanes. -/
def Fibre.laneless (x : Fibre) : Fibre := { x with lanes := [] }

/-- What decides whether a lane starts, and at what: the parameters, Hatch, and the fibre but for its lanes. -/
def State.startView (s : State) (f : Nat) : Tab Nat × HatchSt × Fibre := (s.params, s.hatch, (s.fibre f).laneless)

theorem State.updLane_startView (s : State) (f w : Nat) (g : Lane → Lane) : (s.updLane f w g).startView f = s.startView f := by
  unfold State.startView
  rw [State.fibre_updLane_same]
  rfl

theorem laneStart_startView (s : State) (f w : Nat) : (laneStart s f w).startView f = s.startView f := by
  rcases laneStart_cases s f w with e | ⟨g, e⟩
  · rw [e]
  · rw [e, State.updLane_startView]

/-- A field of a fibre other than its lanes. -/
theorem State.fibre_of_startView {s u : State} {f : Nat} {α : Type} (p : Fibre → α) (hp : ∀ x, p x.laneless = p x)
    (h : u.startView f = s.startView f) : p (u.fibre f) = p (s.fibre f) := by
  rw [← hp, ← hp (s.fibre f)]
  exact congrArg (fun v => p v.2.2) h

theorem State.Startable.of_startView {s u : State} {f w : Nat} (hs : s.Startable f w) (h : u.startView f = s.startView f) :
    u.Startable f w := by
  have hparam : u.params = s.params := congrArg (·.1) h
  have hhatch : u.hatch = s.hatch := congrArg (·.2.1) h
  have hfar : (u.fibre f).far = (s.fibre f).far := State.fibre_of_startView (·.far) (fun _ => rfl) h
  have hlos : (u.fibre f).rxLos = (s.fibre f).rxLos := State.fibre_of_startView (·.rxLos) (fun _ => rfl) h
  unfold State.Startable State.laneUsed State.offElectrical State.inCircuit State.drainedSlot State.fibreCfg State.param at hs ⊢
  rw [hparam, hhatch, hfar, hlos]
  exact hs

/-- Lane `w` of a fibre that is in the view `v` stands OUT with no cause of its own, or has locked. -/
def LocksIn (v : Tab Nat × HatchSt × Fibre) (f w : Nat) (s : State) : Prop :=
  s.startView f = v ∧ ((s.lane f w).state = .out ∧ (s.lane f w).own = [] ∨ (s.lane f w).Locks)

/-- A lane that may start locks when it is asked to, with no hold of its fibre or of its own (R75). -/
theorem LocksIn.laneStart_locks {r s : State} {f w : Nat} (hs : LocksIn (r.startView f) f w s) (hw : w < 16) (hr : r.Startable f w)
    (hall : (r.fibre f).holdAll = .none) : ((laneStart s f w).lane f w).Locks := by
  obtain ⟨hview, ⟨hout, hown⟩ | hlock⟩ := hs
  · have hhold := State.fibre_of_startView (·.holdAll) (fun _ => rfl) hview
    rw [laneStart_startable hw hout (hr.of_startView hview), State.lane_updLane_same, hhold, hall]
    exact Lane.restart_locks hown
  · rw [laneStart_notOut (by rw [hlock.1]; decide)]
    exact hlock

theorem LocksIn.laneStart {r s : State} {f w : Nat} (hs : LocksIn (r.startView f) f w s) (hw : w < 16) (hr : r.Startable f w)
    (hall : (r.fibre f).holdAll = .none) (x : Nat) : LocksIn (r.startView f) f w (laneStart s f x) := by
  refine ⟨(laneStart_startView s f x).trans hs.1, ?_⟩
  by_cases hx : w = x
  · exact .inr (hx ▸ hs.laneStart_locks hw hr hall)
  · rw [laneStart_lane_other s f hx]
    exact hs.2

/-- When the lanes of a fibre start, one that is OUT and may start locks. -/
theorem lanesStart_locks {s : State} {f w : Nat} (hw : w < 16) (hs : s.Startable f w) (hall : (s.fibre f).holdAll = .none)
    (ho : (s.lane f w).state = .out) (hown : (s.lane f w).own = []) :
    ((s.forEach (List.range 16) (fun s w => laneStart s f w)).lane f w).Locks := by
  refine State.forEach_reaches (I := LocksIn (s.startView f) f w) (P := fun x u => x = w → (u.lane f w).Locks)
    (fun u x hu => hu.laneStart hw hs hall x) (fun u x hu hx => hx ▸ hu.laneStart_locks hw hs hall) (fun u x y hu hy hyw => ?_)
    ⟨rfl, .inl ⟨ho, hown⟩⟩ (List.mem_range.2 hw) rfl
  by_cases hx : w = x
  · exact hx ▸ hu.laneStart_locks hw hs hall
  · rw [laneStart_lane_other u f hx]
    exact hy hyw

/-! ### Light on the margin channel -/

/-- The margin channel in ACQUIRE, with a new start value (R81). -/
def State.acquires (s : State) (f : Nat) : State :=
  s.free64.2.updFibre f (fun x =>
    { x with marginState := .acquire, rxLos := false, startValue := s.free64.1, goodHellos := 0, lastHello := none })

/-- The lanes of a fibre start, and then the ring of its margin channel. -/
def State.lanesStart (s : State) (f : Nat) : State :=
  let t := s.forEach (List.range 16) (fun s w => laneStart s f w)
  if (t.lane f 16).state = .out then laneRestart t f 16 else t

/-- A fibre's disabled links go to their idle state (R76). -/
def State.linksWait (s : State) (f : Nat) : State :=
  s.forEach (s.fibreLinks f) (fun s p =>
    if (s.link p).state = .disabled then s.updLink p (fun l => { l with state := linkIdleState s p }) else s)

theorem exec_marginLightDetect_dark {s : State} {f : Fin 64} (hp : s.boot.photonic = true) (hd : (s.fibre f).marginState = .dark)
    (hh : (s.fibre f).holdAll ≠ .unit) : exec (.marginLightDetect f) s = .next (((s.acquires f).lanesStart f).linksWait f) := by
  change execMarginLightDetect f s = _
  exact if_pos (by simp [hp, hd, hh])

theorem State.linksWait_fibres (s : State) (f : Nat) : (s.linksWait f).fibres = s.fibres :=
  State.forEach_keeps State.fibres _ (fun s p => by split <;> rfl) _ s

theorem State.linksWait_fibre (s : State) (f k : Nat) : (s.linksWait f).fibre k = s.fibre k := by
  unfold State.fibre
  rw [State.linksWait_fibres]

theorem State.linksWait_lane (s : State) (f k j : Nat) : (s.linksWait f).lane k j = s.lane k j := by
  unfold State.lane
  rw [State.linksWait_fibre]

/-- The ring of the margin channel starts as a change of its own lane. -/
theorem State.lanesStart_cases (s : State) (f : Nat) : s.lanesStart f = s.forEach (List.range 16) (fun s w => laneStart s f w) ∨
    ∃ g, s.lanesStart f = (s.forEach (List.range 16) (fun s w => laneStart s f w)).updLane f 16 g := by
  unfold State.lanesStart
  dsimp only
  split
  next ho => exact .inr ⟨_, laneExit_notIn _ (by rw [ho]; decide)⟩
  · exact .inl rfl

theorem State.lanesStart_startView (s : State) (f : Nat) : (s.lanesStart f).startView f = s.startView f := by
  have hlanes := State.forEach_keeps (fun u => u.startView f) _ (fun u w => laneStart_startView u f w) (List.range 16) s
  rcases s.lanesStart_cases f with e | ⟨g, e⟩
  · rw [e, hlanes]
  · rw [e, State.updLane_startView, hlanes]

theorem State.lanesStart_lane {w : Nat} (s : State) (f : Nat) (hw : w < 16) :
    (s.lanesStart f).lane f w = (s.forEach (List.range 16) (fun s w => laneStart s f w)).lane f w := by
  rcases s.lanesStart_cases f with e | ⟨g, e⟩
  · rw [e]
  · rw [e, State.lane_updLane_other _ _ (fun e => Nat.ne_of_lt hw (congrArg Prod.snd e))]

@[simp] theorem State.acquires_fibre (s : State) (f : Nat) : (s.acquires f).fibre f =
    { s.fibre f with marginState := .acquire, rxLos := false, startValue := s.free64.1, goodHellos := 0, lastHello := none } :=
  State.fibre_updFibre_same _ f _

theorem State.acquires_lane (s : State) (f w : Nat) : (s.acquires f).lane f w = s.lane f w := State.lane_updFibre _ f w _ rfl

theorem State.acquires_startable {s : State} {f w : Nat} (hu : s.laneUsed f w = true) (ho : s.offElectrical f w = false) :
    (s.acquires f).Startable f w := by
  have hused : (s.acquires f).laneUsed f w = s.laneUsed f w := by
    unfold State.laneUsed
    rw [State.acquires_fibre]
    rfl
  exact ⟨by simp, ho, hused.trans hu⟩

/-- What light on the margin channel leaves of its fibre but for the lanes (R81): the channel acquires. -/
theorem State.lit_fibre (s : State) (f : Nat) : ((((s.acquires f).lanesStart f).linksWait f).fibre f).laneless =
    { s.fibre f with lanes := [], marginState := .acquire, rxLos := false, startValue := s.free64.1, goodHellos := 0, lastHello := none } := by
  have hview : (((s.acquires f).lanesStart f).fibre f).laneless = ((s.acquires f).fibre f).laneless :=
    congrArg (·.2.2) ((s.acquires f).lanesStart_startView f)
  rw [State.linksWait_fibre, hview, State.acquires_fibre]
  rfl

theorem State.lit_lane_locks {s : State} {f w : Nat} (hw : w < 16) (hout : (s.lane f w).state = .out) (hu : s.laneUsed f w = true)
    (ho : s.offElectrical f w = false) (hown : (s.lane f w).own = []) (hall : (s.fibre f).holdAll = .none) :
    ((((s.acquires f).lanesStart f).linksWait f).lane f w).Locks := by
  rw [← s.acquires_lane] at hout hown
  rw [State.linksWait_lane, State.lanesStart_lane _ f hw]
  exact lanesStart_locks hw (State.acquires_startable hu ho) (by simpa using hall) hout hown

/-! ### Training of a lane and of a link -/

theorem exec_helloSend_lit {s : State} {f : Fin 64} (h : (s.fibre f).marginState ≠ .dark) :
    exec (.helloSend f) s = .next (sendPlain s f 0x02 (helloPayload s f)) := by
  change execHelloSend f s = _
  exact if_neg h

theorem exec_laneAligned_align {s : State} {f : Fin 64} {w : Fin 16} (h : (s.lane f w).state = .align) :
    exec (.laneAligned f w) s = .next (s.updLane f w (fun y => { y with state := .soak, soaked := false, addSeq := none })) := by
  change execLaneAligned f w s = _
  exact if_pos h

theorem exec_alignTimeout_align {s : State} {f : Fin 64} {w : Fin 16} (h : (s.lane f w).state = .align) : exec (.alignTimeout f w) s =
    .next ((s.updLane f w (Lane.restart (s.fibre f).holdAll)).countMisc .alignTimeouts 1) := by
  change execAlignTimeout f w s = _
  unfold execAlignTimeout
  rw [if_pos h, laneRestart_notIn w.isLt (by rw [h]; decide)]

theorem State.misc_countMisc_same (s : State) (m : Misc) (n : Nat) :
    (s.countMisc m n).misc.get 0 m.key = s.misc.get 0 m.key + n := Tab.get_upd_same s.misc (· + n)

theorem exec_soakEnd_fails {s : State} {f : Fin 64} {w : Fin 16} (second : Bool) (h : (s.lane f w).state = .soak) :
    exec (.soakEnd f w false second) s = .next (s.updLane f w (fun y => { y with state := .align, soaked := false, addSeq := none })) := by
  change execSoakEnd f w false second s = _
  simp [execSoakEnd, h]

/-- The end that finishes second, with the channel up, names the SEQ from which the lane carries frames (R80). -/
theorem exec_soakEnd_second {s : State} {f : Fin 64} {w : Fin 16} (h : (s.lane f w).state = .soak) (hm : (s.fibre f).marginState = .up) :
    exec (.soakEnd f w true true) s = .next (sendSeq (s.updLane f w (fun y =>
      { y with soaked := true, addSeq := some (s.link (s.linkOfLane f w)).txSeq })) f 0x04
        (beBytes 1 w ++ zeros 3 ++ beBytes 4 (s.link (s.linkOfLane f w)).txSeq)) := by
  change execSoakEnd f w true true s = _
  simp [execSoakEnd, h, hm]

theorem exec_soakEnd_first {s : State} {f : Fin 64} {w : Fin 16} (h : (s.lane f w).state = .soak) :
    exec (.soakEnd f w true false) s = .next (s.updLane f w (fun y => { y with soaked := true })) := by
  change execSoakEnd f w true false s = _
  simp [execSoakEnd, h]

/-- A lane that shows the cause that clears starts again (R75). -/
theorem releaseOwn_shown {s : State} {f w : Nat} {h : Hold} (hw : w < 16) (hs : (s.lane f w).state = .held) (hh : (s.lane f w).hold = h) :
    releaseOwn s f w h =
      (s.updLane f w (fun y => { y with own := y.own.erase h })).updLane f w (Lane.restart (s.fibre f).holdAll) := by
  have hrestart := laneRestart_notIn (s := s.updLane f w (fun y => { y with own := y.own.erase h })) (f := f) hw (by simp [hs])
  simp [releaseOwn, hs, hh, hrestart]

theorem exec_holddownExpiry (s : State) (f : Fin 64) (w : Fin 16) : exec (.holddownExpiry f w) s = .next (releaseOwn s f w .flap) := rfl

theorem exec_trainingAttemptTimeout_training {s : State} {p : Fin 1024} (h : (s.link p).state = .training) :
    exec (.trainingAttemptTimeout p) s = .next ((((s.updLink p (fun x => { x with attempts := x.attempts + 1 })).forEach
      ((s.updLink p (fun x => { x with attempts := x.attempts + 1 })).linkSlots p) (fun s w => laneStart s (p / 16) w))).countMisc
        .trainingAttempts 1) := by
  change execTrainingAttemptTimeout p s = _
  exact if_pos h

theorem exec_marginLossTimeout_lost {s : State} {f : Fin 64} (hm : (s.fibre f).marginState ≠ .up) (hf : s.faultsHeld f = false) :
    exec (.marginLossTimeout f) s = .next (fibreLinksDown s f .waitMargin) := by
  change execMarginLossTimeout f s = _
  exact if_neg (by simp [hm, hf])

end Sys2Proof.Machine

open Sys2Proof Sys2Proof.Machine

/-- Settles O21, from one rule for each command's branch and what the start of a fibre's lanes leaves. That SOAK ends at both ends, and
that a fibre's hold is shown over a lane's own cause, are the model's choices (logs 50 and 155). -/
theorem laneTraining : Obligations.LaneTraining := by
  unfold Obligations.LaneTraining
  refine ⟨?light, ?hello, ?aligned, ?timeout, ?fails, ?second, ?first, ?holddown, ?attempt, ?los, ?loss⟩
  case light =>
    intro s f hp hd hh
    have hfibre := s.lit_fibre f
    exact ⟨_, exec_marginLightDetect_dark hp hd hh, congrArg (·.marginState) hfibre, congrArg (·.rxLos) hfibre,
      congrArg (·.startValue) hfibre, congrArg (·.goodHellos) hfibre, congrArg (·.lastHello) hfibre,
      fun w hw hout hu ho hown hall => State.lit_lane_locks hw hout hu ho hown hall⟩
  case hello => exact fun s f h => exec_helloSend_lit h
  case aligned =>
    exact fun s f w h => ⟨_, exec_laneAligned_align h, by simp, fun g v hne => s.lane_updLane_other _ hne⟩
  case timeout =>
    exact fun s f w h => ⟨_, exec_alignTimeout_align h, by simp, State.misc_countMisc_same _ .alignTimeouts 1,
      fun g v hne => s.lane_updLane_other _ hne⟩
  case fails => exact fun s f w second h => ⟨_, exec_soakEnd_fails second h, by simp, rfl⟩
  case second => exact fun s f w h hm => exec_soakEnd_second h hm
  case first => exact fun s f w h => exec_soakEnd_first h
  case holddown =>
    intro s f w hs hh hown hall
    refine ⟨_, exec_holddownExpiry s f w, ?_⟩
    rw [releaseOwn_shown w.isLt hs hh, State.lane_updLane_same, hall]
    exact Lane.restart_locks (by simp [hown])
  case attempt => exact fun s p h => exec_trainingAttemptTimeout_training h
  case los => exact fun s f => rfl
  case loss => exact fun s f hm hf => exec_marginLossTimeout_lost hm hf

end

section
/-!
PROOFS. A lane fault that the module detects, and the bit error rate windows (R78, R80).
-/

namespace Sys2Proof.Machine

/-! ### Faults of a lane -/

theorem exec_laneFault (s : State) (f : Fin 64) (w : Fin 16) (c : LaneFault) :
    exec (.laneFault f w c) s = .next (if s.faultCounts c then laneFault s f w c else s) := rfl

/-- Every event of R78's table counts, uncorrectable codewords from UCW_LIMIT on. -/
theorem State.faultCounts_iff (s : State) (c : LaneFault) : s.faultCounts c = true ↔ ∀ n, c = .ucw n → s.param 0x2180 3 ≤ n := by
  cases c <;> simp [State.faultCounts]

/-- In an idle window no fault is declared. -/
theorem laneFault_held {s : State} {f : Nat} (w : Nat) (c : LaneFault) (h : s.faultsHeld f = true) : laneFault s f w c = s := by
  unfold laneFault
  exact if_pos h

theorem State.faultsHeld_updLane (s : State) (f w k : Nat) (g : Lane → Lane) : (s.updLane f w g).faultsHeld k = s.faultsHeld k := by
  unfold State.faultsHeld State.inFarWindow
  rw [State.fibre_updLane]
  split
  next h => rw [h]; rfl
  · rfl

/-! ### A window of the bit error rate -/

/-- A window's FEC counts and BER_EST (R88, R374). -/
def State.berMeasured (s : State) (f w ber e c l : Nat) : State :=
  (s.countFec (16 * f + w) e c l).updLane f w (fun y => { y with ber := berValue ber })

/-- FEC counts are counters alone. -/
theorem State.countFec_rest (s : State) (p e c l : Nat) : ∃ k, s.countFec p e c l = { s with counters := k } := by
  unfold State.countFec State.count
  exact ⟨_, rfl⟩

theorem State.berMeasured_lane (s : State) (f w ber e c l : Nat) :
    (s.berMeasured f w ber e c l).lane f w = { s.lane f w with ber := berValue ber } := by
  obtain ⟨_, h⟩ := s.countFec_rest (16 * f + w) e c l
  rw [State.berMeasured, State.lane_updLane_same, h]
  rfl

theorem State.berMeasured_trial (s : State) (f w ber e c l : Nat) :
    ((s.berMeasured f w ber e c l).fibre f).trial = (s.fibre f).trial := by
  obtain ⟨_, h⟩ := s.countFec_rest (16 * f + w) e c l
  rw [State.berMeasured, State.fibre_updLane_same, h]
  rfl

theorem State.berMeasured_faultsHeld (s : State) (f w ber e c l k : Nat) :
    (s.berMeasured f w ber e c l).faultsHeld k = s.faultsHeld k := by
  obtain ⟨_, h⟩ := s.countFec_rest (16 * f + w) e c l
  rw [State.berMeasured, State.faultsHeld_updLane, h]
  rfl

theorem State.berMeasured_param (s : State) (f w ber e c l i k : Nat) : (s.berMeasured f w ber e c l).param i k = s.param i k := by
  obtain ⟨_, h⟩ := s.countFec_rest (16 * f + w) e c l
  rw [State.berMeasured, State.param_updLane, h]
  rfl

theorem State.berMeasured_flags (s : State) (f w ber e c l : Nat) : (s.berMeasured f w ber e c l).flags = s.flags := by
  obtain ⟨_, h⟩ := s.countFec_rest (16 * f + w) e c l
  rw [State.berMeasured, State.updLane_flags, h]

theorem State.berMeasured_counters (s : State) (f w ber e c l : Nat) :
    (s.berMeasured f w ber e c l).counters = (s.countFec (16 * f + w) e c l).counters := State.updLane_counters _ f w _

/-- A window that judges nothing: of a lane not IN, of the lane under trial, or where faults are not declared (R91, R100, R101). -/
def State.berSpared (s : State) (f w : Nat) : Bool :=
  (s.lane f w).state ≠ .inn || (s.fibre f).trial.any (fun t => t.lane = w) || s.faultsHeld f

theorem State.berSpared_notIn {s : State} {f w : Nat} (h : (s.lane f w).state ≠ .inn) : s.berSpared f w = true := by
  simp [State.berSpared, h]

theorem State.berSpared_inn {s : State} {f w : Nat} (h : (s.lane f w).state = .inn) (ht : (s.fibre f).trial = none)
    (hf : s.faultsHeld f = false) : s.berSpared f w = false := by
  simp [State.berSpared, h, ht, hf]

/-- BER_WARN, where the window is worse than WARN_BER. -/
def State.berWarned (s : State) (f ber : Nat) : State := s.setFlagIf (berValue ber < s.param 0x2180 2) (0x6340 + f) 3

theorem State.berWarned_param (s : State) (f ber i k : Nat) : (s.berWarned f ber).param i k = s.param i k := by
  obtain ⟨_, h⟩ := s.setFlagIf_rest (berValue ber < s.param 0x2180 2) (0x6340 + f) 3
  unfold State.berWarned
  rw [h]
  rfl

theorem State.berWarned_good {s : State} {ber : Nat} (f : Nat) (h : s.param 0x2180 2 ≤ berValue ber) : s.berWarned f ber = s := by
  unfold State.berWarned State.setFlagIf
  exact if_neg (by simpa using h)

theorem State.berWarned_bad {s : State} {ber : Nat} (f : Nat) (h : berValue ber < s.param 0x2180 2) :
    s.berWarned f ber = s.setFlag (0x6340 + f) 3 := by
  unfold State.berWarned State.setFlagIf
  exact if_pos (decide_eq_true h)

/-- A window that judges sets BER_WARN, and worse than DEGRADE_BER is a lane fault (R78). -/
theorem exec_berWindowEnd (s : State) (f : Fin 64) (w : Fin 16) (ber e c l : Nat) : exec (.berWindowEnd f w ber e c l) s =
    .next (if (s.berMeasured f w ber e c l).berSpared f w then s.berMeasured f w ber e c l
      else if berValue ber < s.param 0x2180 1 then laneFault ((s.berMeasured f w ber e c l).berWarned f ber) f w .ber
      else (s.berMeasured f w ber e c l).berWarned f ber) := by
  have hdef : exec (.berWindowEnd f w ber e c l) s = if (s.berMeasured f w ber e c l).berSpared f w then .next (s.berMeasured f w ber e c l)
      else if berValue ber < ((s.berMeasured f w ber e c l).berWarned f ber).param 0x2180 1 then
        .next (laneFault ((s.berMeasured f w ber e c l).berWarned f ber) f w .ber)
      else .next ((s.berMeasured f w ber e c l).berWarned f ber) := rfl
  rw [hdef, State.berWarned_param, State.berMeasured_param, ← apply_ite, ← apply_ite]

theorem exec_berWindowEnd_notIn {s : State} {f : Fin 64} {w : Fin 16} (ber e c l : Nat) (h : (s.lane f w).state ≠ .inn) :
    exec (.berWindowEnd f w ber e c l) s = .next (s.berMeasured f w ber e c l) := by
  rw [exec_berWindowEnd, if_pos (State.berSpared_notIn (by rwa [State.berMeasured_lane]))]

/-- A lane IN is judged, with no trial on its fibre, where faults are declared. -/
theorem exec_berWindowEnd_judged {s : State} {f : Fin 64} {w : Fin 16} (ber e c l : Nat) (h : (s.lane f w).state = .inn)
    (ht : (s.fibre f).trial = none) (hf : s.faultsHeld f = false) : exec (.berWindowEnd f w ber e c l) s =
      .next (if berValue ber < s.param 0x2180 1 then laneFault ((s.berMeasured f w ber e c l).berWarned f ber) f w .ber
        else (s.berMeasured f w ber e c l).berWarned f ber) := by
  have hspared : (s.berMeasured f w ber e c l).berSpared f w = false := State.berSpared_inn (by rwa [State.berMeasured_lane])
    (by rwa [State.berMeasured_trial]) (by rwa [State.berMeasured_faultsHeld])
  rw [exec_berWindowEnd, if_neg (ne_true_of_eq_false hspared)]

end Sys2Proof.Machine

open Sys2Proof Sys2Proof.Machine

/-- Settles O22, from what counts as a fault and how a window is judged. That a fault detected in an idle window is dropped is the model's
choice (log 52). -/
theorem laneFaultsAndWindows : Obligations.LaneFaultsAndWindows := by
  unfold Obligations.LaneFaultsAndWindows
  refine ⟨?fault, ?few, ?held, ?out, ?good, ?warned, ?degraded⟩
  case fault => exact fun s f w c _ hc => (exec_laneFault s f w c).trans (by rw [if_pos ((s.faultCounts_iff c).2 hc)])
  case few => exact fun s f w n hn => (exec_laneFault s f w _).trans (by rw [if_neg (by simpa [State.faultCounts_iff] using hn)])
  case held => exact fun s f w c hf => (exec_laneFault s f w c).trans (by rw [laneFault_held w c hf, ite_self])
  case out => exact fun s f w ber e c l h => exec_berWindowEnd_notIn ber e c l h
  case good =>
    intro s f w ber e c l h ht hf h1 h2
    refine ⟨_, exec_berWindowEnd_judged ber e c l h ht hf, ?_⟩
    rw [if_neg (Nat.not_lt.2 h1), State.berWarned_good f (by rwa [State.berMeasured_param]), State.berMeasured_lane]
    exact ⟨rfl, h, s.berMeasured_flags f w ber e c l, s.berMeasured_counters f w ber e c l⟩
  case warned =>
    intro s f w ber e c l h ht hf h1 h2
    refine ⟨_, exec_berWindowEnd_judged ber e c l h ht hf, ?_⟩
    rw [if_neg (Nat.not_lt.2 h1), State.berWarned_bad f (by rwa [State.berMeasured_param]), State.lane_setFlag, State.berMeasured_lane]
    exact ⟨h, State.flag_setFlag_same _ _ 3 (by decide)⟩
  case degraded =>
    intro s f w ber e c l h ht hf h1
    rw [exec_berWindowEnd_judged ber e c l h ht hf, if_pos h1, State.berWarned, State.berMeasured_param, State.berMeasured]

end

section
/-!
PROOFS. The ring loops and the trials of their set-points (R89 to R91, R95, R101).
-/

namespace Sys2Proof.Machine

/-! ### Heaters, capture and unlock -/

/-- The heater power, in µW, that a demand brings: within 0 to 30 mW (R89). -/
def heaterPower (d : Int) : Nat := if d < 0 then 0 else min d.toNat 30000

theorem heaterPower_inside {d : Int} (h0 : 0 ≤ d) (h : d ≤ 30000) : heaterPower d = d.toNat := by
  rw [heaterPower, if_neg (Int.not_lt.2 h0)]
  omega

theorem heaterPower_above {d : Int} (h : 30000 < d) : heaterPower d = 30000 := by
  rw [heaterPower, if_neg (by omega)]
  omega

theorem heaterPower_below {d : Int} (h : d < 0) : heaterPower d = 0 := if_pos h

/-- A ring's heater stands at the power that a demand brings. -/
def State.heats (s : State) (f w : Nat) (ring : Ring) (d : Int) : State :=
  s.updLane f w (fun y => y.updRing ring (fun r => { r with heater := heaterPower d }))

theorem State.heats_heater (s : State) (f w : Nat) (ring : Ring) (d : Int) :
    (((s.heats f w ring d).lane f w).ring ring).heater = heaterPower d := by
  simp [State.heats]

/-- The loop drives a ring that there is, under laser bias, outside a window that holds it; a demand out of range sets HEATER_LIMIT. -/
theorem exec_heaterUpdate_driven {s : State} {f : Fin 64} {w : Fin 17} {ring : Ring} (d : Int) (hp : s.boot.photonic = true)
    (hr : hasRing w ring = true) (hh : s.ringHeld f ring = false) : exec (.heaterUpdate f w ring d) s =
      .next (if d < 0 ∨ 30000 < d then ((s.heats f w ring d).setFlag (0x6390 + f / 4) 2).countUnit 1 (f / 4) 1
        else s.heats f w ring d) := by
  change execHeaterUpdate f w ring d s = _
  simp only [execHeaterUpdate, hp, hr, hh, Bool.or_eq_true, decide_eq_true_eq]
  exact (apply_ite Host.Outcome.next _ _ _).symm

theorem exec_heaterUpdate_beyond {s : State} {f : Fin 64} {w : Fin 17} {ring : Ring} {d : Int} (hp : s.boot.photonic = true)
    (hr : hasRing w ring = true) (hh : s.ringHeld f ring = false) (hd : d < 0 ∨ 30000 < d) :
    ∃ t, exec (.heaterUpdate f w ring d) s = .next t ∧ ((t.lane f w).ring ring).heater = heaterPower d ∧
      t.flag (0x6390 + f / 4) 2 = true := by
  refine ⟨_, exec_heaterUpdate_driven d hp hr hh, ?_⟩
  rw [if_pos hd]
  exact ⟨s.heats_heater f w ring d, State.flag_setFlag_same _ _ 2 (by decide)⟩

/-- A captured ring of a lane; the receive ring of a lane in LOCK starts its pilot check (R90). -/
def Lane.captured (ring : Ring) (y : Lane) : Lane :=
  let y := y.updRing ring (fun r => { r with locked := true })
  if ring = .drop && y.state = .lock then { y with pilotGood := 0 } else y

theorem Lane.captured_locked (ring : Ring) (y : Lane) : ((y.captured ring).ring ring).locked = true := by
  unfold Lane.captured
  dsimp only
  split
  · cases ring <;> rfl
  · simp

theorem Lane.captured_state (ring : Ring) (y : Lane) : (y.captured ring).state = y.state := by
  unfold Lane.captured
  dsimp only
  split <;> exact y.updRing_state ring _

theorem exec_ringCapture_ring {s : State} {f : Fin 64} {w : Fin 17} {ring : Ring} (hr : hasRing w ring = true) :
    exec (.ringCapture f w ring) s = .next (s.updLane f w (Lane.captured ring)) := by
  change execRingCapture f w ring s = _
  simp only [execRingCapture, hr]
  rfl

/-- A ring of a lane unlocked. -/
def State.ringUnlocks (s : State) (f w : Nat) (ring : Ring) : State :=
  s.updLane f w (fun y => y.updRing ring (fun r => { r with locked := false }))

/-- An unlocked ring is a lane fault, but for the add-drop ring's (R90). -/
theorem exec_ringUnlock_ring {s : State} {f : Fin 64} {w : Fin 17} {ring : Ring} (hr : hasRing w ring = true) :
    exec (.ringUnlock f w ring) s =
      .next (if ring ≠ .addDrop then laneFault (s.ringUnlocks f w ring) f w .ring else s.ringUnlocks f w ring) := by
  change execRingUnlock f w ring s = _
  simp only [execRingUnlock, hr]
  exact (apply_ite Host.Outcome.next _ _ _).symm

theorem hasRing_of_ne_addDrop {w : Nat} {ring : Ring} (h : ring ≠ .addDrop) : hasRing w ring = true := by
  cases ring
  case addDrop => exact absurd rfl h
  all_goals rfl

/-! ### Trials -/

/-- A ring's set-point. -/
def State.putSetPoint (s : State) (f w : Nat) (ring : Ring) (p : Int) : State :=
  s.updLane f w (fun y => y.updRing ring (fun r => { r with setPoint := p }))

/-- A fibre's trial. -/
def State.putTrial (s : State) (f : Nat) (x : Option Trial) : State := s.updFibre f (fun y => { y with trial := x })

@[simp] theorem State.putSetPoint_setPoint (s : State) (f w : Nat) (ring : Ring) (p : Int) :
    (((s.putSetPoint f w ring p).lane f w).ring ring).setPoint = p := by
  simp [State.putSetPoint]

@[simp] theorem State.putSetPoint_trial (s : State) (f w : Nat) (ring : Ring) (p : Int) :
    ((s.putSetPoint f w ring p).fibre f).trial = (s.fibre f).trial := by
  simp [State.putSetPoint]

@[simp] theorem State.putTrial_trial (s : State) (f : Nat) (x : Option Trial) : ((s.putTrial f x).fibre f).trial = x := by
  simp [State.putTrial]

@[simp] theorem State.putTrial_lane (s : State) (f w : Nat) (x : Option Trial) : (s.putTrial f x).lane f w = s.lane f w :=
  s.lane_updFibre f w _ rfl

/-- An abandoned trial leaves its ring at the set-point before it (R91). -/
theorem abandonTrial_some {s : State} {f : Nat} {x : Trial} (h : (s.fibre f).trial = some x) :
    abandonTrial s f = (s.putSetPoint f x.lane x.ring x.saved).putTrial f none := by
  unfold abandonTrial
  rw [h]
  rfl

/-- A fibre and a lane of it on which a trial may start (R91, R95). -/
structure State.TrialReady (s : State) (f w : Nat) (ring : Ring) : Prop where
  period : s.param 0x2190 1 ≠ 0
  inn : (s.lane f w).state = .inn
  guard : s.param 0x2180 1 + s.param 0x2190 3 ≤ (s.lane f w).ber
  alone : (s.fibre f).trial = none
  cool : (s.engine (f / 4)).hot = false
  notAddDrop : ring ≠ .addDrop
  running : (s.fibre f).suspended = false
  free : s.ringHeld f ring = false

theorem exec_trialStart_ready {s : State} {f : Fin 64} {w : Fin 16} {ring : Ring} (h : s.TrialReady f w ring) :
    exec (.trialStart f w ring) s =
      .next ((s.putTrial f (some { lane := w, ring := ring, saved := ((s.lane f w).ring ring).setPoint })).putSetPoint f w ring
        (((s.lane f w).ring ring).setPoint + 2 * (s.param 0x2190 2 : Int))) := by
  obtain ⟨hperiod, hinn, hguard, halone, hcool, hring, hrunning, hfree⟩ := h
  change execTrialStart f w ring s = _
  simp [execTrialStart, hperiod, hinn, hguard, halone, hcool, hring, hrunning, hfree, State.putTrial, State.putSetPoint]

/-- A sub-window whose rate is worse than WARN_BER abandons the trial; another adds to the count of the window that runs (R91). -/
theorem exec_trialSubwindowRead_trial {s : State} {f : Fin 64} {x : Trial} (n : Nat) (worse : Bool) (ht : (s.fibre f).trial = some x)
    (hh : s.trialHeld f = false) : exec (.trialSubwindowRead f n worse) s = .next (if worse then abandonTrial s f
      else s.putTrial f (some (if x.second then { x with minus := x.minus + n } else { x with plus := x.plus + n }))) := by
  change execTrialSubwindowRead f n worse s = _
  simp only [execTrialSubwindowRead, hh, trialCounts, ht]
  rfl

/-- Where the end of a trial's window puts the set-point: below the one before the trial after the first window, and half a step towards
the better window after the second (R91). -/
def Trial.setPointAfter (x : Trial) (step : Int) : Int :=
  if !x.second then x.saved - 2 * step
  else if x.plus < x.minus then x.saved + step
  else if x.minus < x.plus then x.saved - step
  else x.saved

theorem exec_trialWindowEnd_trial {s : State} {f : Fin 64} {x : Trial} (ht : (s.fibre f).trial = some x) (hh : s.trialHeld f = false) :
    exec (.trialWindowEnd f) s = .next ((s.putSetPoint f x.lane x.ring (x.setPointAfter (s.param 0x2190 2))).putTrial f
      (if x.second then none else some { x with second := true })) := by
  change execTrialWindowEnd f s = _
  simp only [execTrialWindowEnd, ht, hh]
  rfl

end Sys2Proof.Machine

open Sys2Proof Sys2Proof.Machine

/-- Settles O23, from one rule for each command's branch. That a demand below 0 mW sets HEATER_LIMIT is the model's choice (log 157). -/
theorem ringControl : Obligations.RingControl := by
  unfold Obligations.RingControl
  refine ⟨?heated, ?above, ?below, ?capture, ?unlock, ?fault, ?start, ?counted, ?worse, ?second, ?first⟩
  case heated =>
    intro s f w ring d hp hr hh h0 h
    refine ⟨_, exec_heaterUpdate_driven d hp hr hh, ?_⟩
    rw [if_neg (by omega), ← heaterPower_inside h0 h]
    exact ⟨s.heats_heater f w ring d, s.updLane_flags f w _⟩
  case above =>
    intro s f w ring d hp hr hh h
    rw [← heaterPower_above h]
    exact exec_heaterUpdate_beyond hp hr hh (.inr h)
  case below =>
    intro s f w ring d hp hr hh h
    rw [← heaterPower_below h]
    exact exec_heaterUpdate_beyond hp hr hh (.inl h)
  case capture =>
    intro s f w ring hr
    refine ⟨_, exec_ringCapture_ring hr, ?_⟩
    rw [State.lane_updLane_same]
    exact ⟨Lane.captured_locked ring _, Lane.captured_state ring _⟩
  case unlock =>
    intro s f w hr
    refine ⟨_, exec_ringUnlock_ring hr, ?_⟩
    simp [State.ringUnlocks, Lane.updRing]
  case fault =>
    intro s f w ring hne _
    rw [exec_ringUnlock_ring (hasRing_of_ne_addDrop hne), if_pos hne, State.ringUnlocks]
  case start =>
    intro s f w ring hperiod hinn hguard halone hcool hring hrunning hfree
    exact ⟨_, exec_trialStart_ready ⟨hperiod, hinn, hguard, halone, hcool, hring, hrunning, hfree⟩, by simp, by simp⟩
  case counted => exact fun s f n x ht hh => exec_trialSubwindowRead_trial n false ht hh
  case worse =>
    intro s f n x ht hh
    refine ⟨_, exec_trialSubwindowRead_trial n true ht hh, ?_⟩
    simp [abandonTrial_some ht]
  case second =>
    intro s f x ht hh hs
    refine ⟨_, exec_trialWindowEnd_trial ht hh, ?_⟩
    simp [hs, Trial.setPointAfter]
  case first =>
    intro s f x ht hh hs
    refine ⟨_, exec_trialWindowEnd_trial ht hh, ?_⟩
    simp [hs, Trial.setPointAfter]

end

section
/-!
PROOFS. Pilot words: the module's own, those received, their retries and their loss (R92 to R94).
-/

namespace Sys2Proof.Machine

/-! ### The module's own word -/

/-- The word of a channel as 16 bits. -/
def pilotBits (w : Fin 17) : BitVec 16 := BitVec.ofNat 16 (pilotWord w)

/-! Each of the 17 channels has its own word; the fields are read off word by word. -/

theorem pilotBits_toNat (w : Fin 17) : (pilotBits w).toNat = pilotWord w := by
  revert w
  decide

/-- The fields of R92: SYNC, INDEX, two reserved zeros and CHECK. -/
theorem pilotBits_fields (w : Fin 17) : (pilotBits w).extractLsb' 12 4 = 0b1101#4 ∧
    (pilotBits w).extractLsb' 7 5 = BitVec.ofNat 5 w ∧ (pilotBits w).extractLsb' 5 2 = 0#2 ∧
    (pilotBits w).extractLsb' 0 5 = ~~~(BitVec.ofNat 5 w) := by
  revert w
  decide

theorem pilotIndex_pilotBits (w : Fin 17) : pilotIndex (pilotBits w) = some w.val := by
  revert w
  decide

/-- A fibre that an active source feeds. -/
theorem State.fed_of_source {s : State} {f : Nat} (i : Fin 5) (ha : (s.source (f / 4) i).state = .active)
    (hf : (s.source (f / 4) i).feeds = f % 4) :
    (List.range 5).any (fun i => (s.source (f / 4) i).state = .active && (s.source (f / 4) i).feeds = f % 4) = true :=
  List.any_eq_true.2 ⟨i, List.mem_range.2 i.isLt, by simp [ha, hf]⟩

/-- Under laser bias, a fibre that a source feeds carries on each wavelength that Hatch leaves alone that channel's word. -/
theorem State.pilotOut_own {s : State} {f w : Nat} (i : Fin 5) (hp : s.boot.photonic = true) (ha : (s.source (f / 4) i).state = .active)
    (hf : (s.source (f / 4) i).feeds = f % 4) (hh : ∀ c ∈ s.hatch.conns, hatchPort f w ∉ c.outs ∨ w < 12 ∨ 16 ≤ w) :
    s.pilotOut f w = some (pilotWord w) := by
  have hleaf : s.hatch.conns.any (fun c => c.outs.contains (hatchPort f w) && 12 ≤ w && w < 16) = false := by
    refine List.any_eq_false.2 (fun c hc h => ?_)
    obtain ⟨⟨hout, h12⟩, h16⟩ : (hatchPort f w ∈ c.outs ∧ 12 ≤ w) ∧ w < 16 := by simpa using h
    rcases hh c hc with hn | hlt | hge
    · exact hn hout
    · exact Nat.not_lt.2 h12 hlt
    · exact Nat.not_lt.2 hge h16
  rw [State.pilotOut, hp, State.fed_of_source i ha hf, hleaf]
  rfl

/-! ### Words received -/

/-- A lane whose pilot check has passed: a data lane aligns, the margin channel's ring is IN (R93). -/
def Lane.piloted (w : Nat) (y : Lane) : Lane :=
  { y with state := if w = 16 then .inn else .align, pilotGood := 0, pilotBad := 0, pilotLines := 0, drop := { y.drop with line := w } }

/-- In LOCK another line's word moves the ring on, and the third word of the lane's own INDEX ends the check (R93). -/
theorem exec_pilotWordReceive_lock {s : State} {f : Fin 64} {w : Fin 17} {word : BitVec 16} {i : Nat} (hs : (s.lane f w).state = .lock)
    (hl : (s.lane f w).drop.locked = true) (hi : pilotIndex word = some i) : exec (.pilotWordReceive f w word) s =
      .next (if i ≠ w.val then nextLine s f w
        else if 2 ≤ (s.lane f w).pilotGood then s.updLane f w (Lane.piloted w)
        else s.updLane f w (fun y => { y with pilotGood := y.pilotGood + 1 })) := by
  change execPilotWordReceive f w word s = _
  simp only [execPilotWordReceive, hs, hl, hi, apply_ite Host.Outcome.next]
  rfl

/-- On a lane IN the second consecutive word of another INDEX is a lane fault, flagged and counted (R94). -/
theorem exec_pilotWordReceive_inn {s : State} {f : Fin 64} {w : Fin 17} {word : BitVec 16} {i : Nat} (hs : (s.lane f w).state = .inn)
    (hi : pilotIndex word = some i) (hne : i ≠ w.val) : exec (.pilotWordReceive f w word) s =
      .next (if 1 ≤ (s.lane f w).pilotBad then
          laneFault (((s.setFlag (0x6390 + f / 4) 0).countUnit 1 (f / 4) 2).updLane f w (fun y => { y with pilotBad := 0 })) f w .ring
        else s.updLane f w (fun y => { y with pilotBad := 1 })) := by
  change execPilotWordReceive f w word s = _
  simp only [execPilotWordReceive, hs, hi, if_neg hne, apply_ite Host.Outcome.next]

/-! ### Timeouts, retries and losses -/

theorem exec_pilotTimeout_lock {s : State} {f : Fin 64} {w : Fin 17} (h : (s.lane f w).state = .lock) :
    exec (.pilotTimeout f w) s = .next (nextLine s f w) := if_pos h

/-- The hold of its fibre that a wavelength follows: the margin channel follows none. -/
def State.holdOver (s : State) (f w : Nat) : Hold := if w = 16 then .none else (s.fibre f).holdAll

/-- A wavelength that shows the cause that clears starts again, the margin channel as a lane (R75). -/
theorem releaseOwn_restarts {s : State} {f w : Nat} {h : Hold} (hs : (s.lane f w).state = .held) (hh : (s.lane f w).hold = h) :
    releaseOwn s f w h = (s.updLane f w (fun y => { y with own := y.own.erase h })).updLane f w (Lane.restart (s.holdOver f w)) := by
  have hheld : ((s.updLane f w (fun y => { y with own := y.own.erase h })).lane f w).state ≠ .inn := by simp [hs]
  have hrestart := laneExit_notIn (Lane.restart (s.holdOver f w)) hheld
  simpa [releaseOwn, hs, hh, laneRestart, State.holdOver] using hrestart

/-- With no other cause it stands in LOCK. -/
theorem releaseOwn_locks {s : State} {f w : Nat} {h : Hold} (hs : (s.lane f w).state = .held) (hh : (s.lane f w).hold = h)
    (hown : (s.lane f w).own = [h]) (hall : s.holdOver f w = .none) : ((releaseOwn s f w h).lane f w).Locks := by
  rw [releaseOwn_restarts hs hh, State.lane_updLane_same, hall]
  exact Lane.restart_locks (by simp [hown])

theorem exec_pilotRetryExpiry (s : State) (f : Fin 64) (w : Fin 17) :
    exec (.pilotRetryExpiry f w) s = .next (releaseOwn s f w .pilot) := rfl

theorem exec_pilotWordsLost_inn {s : State} {f : Fin 64} {w : Fin 17} (h : (s.lane f w).state = .inn) :
    exec (.pilotWordsLost f w) s = .next (sendSeq (((s.setFlag (0x6390 + f / 4) 1).countUnit 1 (f / 4) 3).updLane f w
      (fun y => { y with pilotLost := y.pilotLost + 1 })) f 0x07 (pilotFaultPayload w 2)) := if_pos h

end Sys2Proof.Machine

open Sys2Proof Sys2Proof.Machine

/-- Settles O24, from one rule for each lane state in which a word, a retry or a loss counts. -/
theorem pilotWords : Obligations.PilotWords := by
  unfold Obligations.PilotWords
  refine ⟨?passed, ?good, ?moves, ?bad, ?fault, ?timeout, ?retry, ?lost⟩
  case passed =>
    intro s f w word hs hl hi hg
    refine ⟨_, exec_pilotWordReceive_lock hs hl hi, ?_⟩
    simp [hg, Lane.piloted]
  case good =>
    intro s f w word hs hl hi hg
    refine ⟨_, exec_pilotWordReceive_lock hs hl hi, ?_⟩
    simp [Nat.not_le.2 hg, hs]
  case moves =>
    intro s f w word i hs hl hi hne
    rw [exec_pilotWordReceive_lock hs hl hi, if_pos hne]
  case bad =>
    intro s f w word i hs hi hne hb
    refine ⟨_, exec_pilotWordReceive_inn hs hi hne, ?_⟩
    simp [hb, hs]
  case fault =>
    intro s f w word i hs hi hne hb
    rw [exec_pilotWordReceive_inn hs hi hne, if_pos hb]
  case timeout => exact fun s f w h => exec_pilotTimeout_lock h
  case retry =>
    intro s f w hs hh hown hall
    refine ⟨_, exec_pilotRetryExpiry s f w, releaseOwn_locks hs hh hown ?_⟩
    unfold State.holdOver
    split
    · rfl
    next hw => exact hall.resolve_left hw
  case lost => exact fun s f w h => exec_pilotWordsLost_inn h

/-- Settles O25, from the word that the module sends and what its fields are. -/
theorem ownPilot : Obligations.OwnPilot := by
  unfold Obligations.OwnPilot
  intro s f w i hp ha hf hh
  obtain ⟨hsync, hindex, hzero, hcheck⟩ := pilotBits_fields w
  refine ⟨pilotBits w, ?_, hsync, hindex, hzero, hcheck, pilotIndex_pilotBits w⟩
  rw [pilotBits_toNat]
  exact State.pilotOut_own i hp ha hf (fun c hc => (hh c hc).imp_right (Or.imp_right Eq.ge))

end

section
/-!
PROOFS. Comb laser sources: fades, spares, changeovers and failures (R98 to R105).
-/

namespace Sys2Proof.Machine

/-! ### What an idle window's end leaves -/

/-- States that differ in their fibres, the counters and the output alone. -/
def SameButMargin (s t : State) : Prop := ∃ x c o, t = { s with fibres := x, counters := c, out := o }

theorem SameButMargin.refl (s : State) : SameButMargin s s := ⟨s.fibres, s.counters, s.out, rfl⟩

theorem SameButMargin.trans {s t u : State} (a : SameButMargin s t) (b : SameButMargin t u) : SameButMargin s u := by
  obtain ⟨_, _, _, rfl⟩ := a
  obtain ⟨_, _, _, rfl⟩ := b
  exact ⟨_, _, _, rfl⟩

theorem SameButMargin.source {s t : State} (h : SameButMargin s t) (e i : Nat) : t.source e i = s.source e i := by
  obtain ⟨_, _, _, rfl⟩ := h
  rfl

theorem SameButMargin.flag {s t : State} (h : SameButMargin s t) (i b : Nat) : t.flag i b = s.flag i b := by
  obtain ⟨_, _, _, rfl⟩ := h
  rfl

theorem payBack_onlyMargin (s : State) (x : MarginFrame) : SameButMargin s (payBack s x) := by
  unfold payBack
  split
  · exact .refl s
  · exact ⟨_, _, _, rfl⟩

theorem transmitMargin_onlyMargin (s : State) (f : Nat) (x : MarginFrame) : SameButMargin s (transmitMargin s f x) :=
  (payBack_onlyMargin s x).trans ⟨_, _, _, rfl⟩

theorem pumpList_onlyMargin (f : Nat) (l : List MarginFrame) (s : State) (kept : List MarginFrame) :
    SameButMargin s (pumpList f l s kept).1 := by
  induction l generalizing s kept with
  | nil => exact .refl s
  | cons x r ih =>
    unfold pumpList
    split
    · exact (transmitMargin_onlyMargin s f x).trans (ih _ _)
    · exact ih _ _

theorem pumpMargin_onlyMargin (s : State) (f : Nat) : SameButMargin s (pumpMargin s f) := by
  unfold pumpMargin
  dsimp only
  split
  · exact .refl s
  · exact (pumpList_onlyMargin f _ s []).trans ⟨_, _, _, rfl⟩

theorem closeWindow_onlyMargin (s : State) (f : Nat) : SameButMargin s (closeWindow s f) :=
  SameButMargin.trans ⟨_, _, _, rfl⟩ (pumpMargin_onlyMargin _ f)

/-! ### Changes of an engine -/

theorem State.engine_updSource_change (s : State) (e i : Nat) (g : Source → Source) :
    ((s.updSource e i g).engine e).change = (s.engine e).change := by
  simp [State.updSource]

theorem State.source_updSource_other {e i j : Nat} (s : State) (g : Source → Source) (h : j ≠ i) :
    (s.updSource e i g).source e j = s.source e j := by
  rw [State.source_updSource, if_neg (fun hij => h hij.2)]

/-- A change of an engine that leaves its sources. -/
theorem State.source_updEngine_same {s : State} {e : Nat} {g : Engine → Engine} (i : Nat)
    (h : (g (s.engine e)).sources = (s.engine e).sources) : (s.updEngine e g).source e i = s.source e i := by
  unfold State.source
  rw [State.engine_updEngine_same, h]

/-- An abandoned changeover leaves every source and flag. -/
theorem dropChange_cases (s : State) (e : Nat) :
    dropChange s e = s ∨ SameButMargin (s.updEngine e (fun x => { x with change := none })) (dropChange s e) := by
  unfold dropChange
  split
  · exact .inl rfl
  · dsimp only
    split
    · exact .inr (closeWindow_onlyMargin _ _)
    · exact .inr (.refl _)

theorem dropChange_source (s : State) (e i : Nat) : (dropChange s e).source e i = s.source e i := by
  rcases dropChange_cases s e with h | h
  · rw [h]
  · rw [h.source, State.source_updEngine_same i rfl]

theorem dropChange_flag (s : State) (e i b : Nat) : (dropChange s e).flag i b = s.flag i b := by
  rcases dropChange_cases s e with h | h
  · rw [h]
  · exact h.flag i b

/-! ### Fades -/

theorem exec_linePowerSample_unfed {s : State} {f : Fin 64} (w : Fin 17) (x : LineSample) (h : s.feeder f = none) :
    exec (.linePowerSample f w x) s = .next s := by
  change execLinePowerSample f w x s = _
  rw [execLinePowerSample, h]

/-- A line's fade as R107 shows it. -/
def State.sampledFade (s : State) (f w : Nat) (x : LineSample) : Int := max (-3000) (min 1000 (x.power - (s.lane f w).lineRef))

/-- A line's fade is taken, and the worst line of the source that feeds its fibre (R98, R107). -/
def State.fadeTaken (s : State) (f w src : Nat) (fade : Int) : State :=
  let t := s.updLane f w (fun y => { y with fade := fade })
  t.updSource (f / 4) src (fun z => { z with fade := some (worstLine t f).2, lastFade := (worstLine t f).2, worstLine := (worstLine t f).1 })

/-- A fade above −1.0 dB is taken and nothing more. -/
theorem exec_linePowerSample_slight {s : State} {f : Fin 64} {w : Fin 17} {x : LineSample} {src : Nat} (hf : s.feeder f = some src)
    (hx : -100 < x.power - (s.lane f w).lineRef) :
    exec (.linePowerSample f w x) s = .next (s.fadeTaken f w src (s.sampledFade f w x)) := by
  have hslight : -100 < s.sampledFade f w x := by
    unfold State.sampledFade
    omega
  have hwarn : ¬ s.sampledFade f w x ≤ -100 := by omega
  have hdrop : ¬ s.sampledFade f w x ≤ -200 := by omega
  change execLinePowerSample f w x s = _
  unfold execLinePowerSample
  rw [hf]
  dsimp only
  rw [← State.sampledFade, decide_eq_false hwarn, decide_eq_false hdrop]
  rfl

/-- A lane dropped for a fade that has passed restarts, and its source's DROPPED_COUNT falls by one (R103). -/
theorem exec_fadeDropRelease_passed {s : State} {f : Fin 64} {w : Fin 16} (hown : Hold.fade ∈ (s.lane f w).own)
    (hf : -150 < (s.lane f w).fade) : exec (.fadeDropRelease f w) s =
      .next ((releaseOwn s f w .fade).updSource (f / 4) (s.lane f w).droppedBy (fun x => { x with dropped := x.dropped - 1 })) := by
  change execFadeDropRelease f w s = _
  exact if_pos (by simp [hown, hf])

/-! ### Spares -/

theorem exec_spareReady_starting {s : State} {e : Fin 16} (h : (s.source e 4).state = .starting) : exec (.spareReady e) s =
    .next ((s.updSource e 4 (fun x => { x with state := .ready })).updChange e (fun c => { c with requested := true })) := by
  change execSpareReady e s = _
  exact if_pos h

theorem exec_spareOff_spared {s : State} {e : Fin 16} (hp : s.param 0x2190 6 = 0) (hr : (s.source e 4).state = .ready)
    (hc : (s.engine e).change = none) (hf : (s.engine e).failedFibre = none) (hl : s.linesFresh e = true) :
    exec (.spareOff e) s = .next (s.updSource e 4 (fun x => { x with state := .off, fade := none })) := by
  change execSpareOff e s = _
  simp [execSpareOff, spareOff, hp, hr, hc, hf, hl]

/-! ### Changeovers -/

theorem exec_changeoverNoticeSend_due {s : State} {e : Fin 16} {c : Changeover} {t : Nat × Nat} (hc : (s.engine e).change = some c)
    (ht : c.t = some t) (hn : c.noticed = false) : exec (.changeoverNoticeSend e) s =
      .next (sendSeq (s.updChange e (fun c => { c with noticed := true })) (4 * e.val + c.fibre) 0x08
        (changeoverPayload (4 * e.val + c.fibre) t)) := by
  change execChangeoverNoticeSend e s = _
  simp [execChangeoverNoticeSend, hc, ht, hn]

theorem exec_changeoverAckTimeout_unanswered {s : State} {e : Fin 16} {c : Changeover} (hc : (s.engine e).change = some c)
    (hn : c.noticed = true) (ha : c.acked = false) (ho : c.open_ = false) (h3 : c.abandoned < 3) : exec (.changeoverAckTimeout e) s =
      .next (s.updChange e (fun c => { c with t := none, noticed := false, requested := true, abandoned := c.abandoned + 1 })) := by
  change execChangeoverAckTimeout e s = _
  simp [execChangeoverAckTimeout, hc, hn, ha, ho, h3]

/-- At T of an acknowledged notice, the trial is abandoned and the fibre falls idle (R100, R157). -/
theorem exec_changeoverWindowOpen_acked {s : State} {e : Fin 16} {c : Changeover} {t : Nat × Nat} (hc : (s.engine e).change = some c)
    (ht : c.t = some t) (hr : s.reached t = true) (hn : c.noticed = true) (ha : c.acked = true) (ho : c.open_ = false) :
    exec (.changeoverWindowOpen e) s =
      .next ((abandonTrial (s.updChange e (fun c => { c with open_ := true })) (4 * e.val + c.fibre)).updFibre (4 * e.val + c.fibre)
        (fun x => { x with suspended := true, margin := { x.margin with stopped := true } })) := by
  change execChangeoverWindowOpen e s = _
  simp [execChangeoverWindowOpen, hc, ht, hr, hn, ha, ho]

theorem exec_changeoverWindowEnd_open {s : State} {e : Fin 16} {c : Changeover} (hc : (s.engine e).change = some c)
    (ho : c.open_ = true) : exec (.changeoverWindowEnd e) s = .next (changeoverDone s e c) := by
  change execChangeoverWindowEnd e s = _
  simp [execChangeoverWindowEnd, hc, ho]

/-! ### Failures -/

/-- A source has FAILED, flagged and counted (R104, R108). -/
def State.sourceFails (s : State) (e src : Nat) : State :=
  ((s.updSource e src (fun x => { x with state := .failed, feeds := 4, fade := none })).setFlag (0x6390 + e) 7).countUnit 1 e 7

theorem State.sourceFails_source (s : State) (e src : Nat) : ((s.sourceFails e src).source e src).state = .failed := by
  simp [State.sourceFails]

theorem State.sourceFails_spare {e src : Nat} (s : State) (h : src ≠ 4) : (s.sourceFails e src).source e 4 = s.source e 4 := by
  simp [State.sourceFails, State.source_updSource_other s _ h.symm]

theorem State.sourceFails_flag (s : State) (e src : Nat) : (s.sourceFails e src).flag (0x6390 + e) 7 = true :=
  State.flag_setFlag_same _ _ 7 (by decide)

/-- A source other than the spare that feeds no fibre fails: a changeover towards it is abandoned (R104). -/
theorem exec_sourceFailure_ready {s : State} {e : Fin 16} {src : Fin 5} (hr : (s.source e src).state = .ready) (hs : src.val ≠ 4) :
    exec (.sourceFailure e src) s =
      .next (if (s.engine e).change.any (fun c => failureEndsChange c src 4) then dropChange (s.sourceFails e src) e
        else s.sourceFails e src) := by
  change execSourceFailure e src s = _
  simp [execSourceFailure, hr, hs, State.setFlagIf, State.sourceFails, State.engine_updSource_change]

/-- A spare that serves, has FAILED or is RETIRED is no spare to give (R103, R105). -/
theorem State.noSpare_of_spare {s : State} {e i : Nat} (hi : i < 4) (h : (s.source e 4).state = .active ∨
    (s.source e 4).state = .failed ∨ (s.source e 4).state = .retired) : s.noSpare (4 * e + i) = true := by
  have he : (4 * e + i) / 4 = e := by omega
  unfold State.noSpare
  rw [he]
  rcases h with h | h | h <;> simp [h]

/-- The source of a fibre fails with no spare to give: the fibre has no source (R104). -/
theorem exec_sourceFailure_unspared {s : State} {e : Fin 16} {src : Fin 5} {i : Nat} (ha : (s.source e src).state = .active)
    (hf : (s.source e src).feeds = i) (hi : i < 4) (hs : src.val ≠ 4) (hc : (s.engine e).change = none)
    (h4 : (s.source e 4).state = .active ∨ (s.source e 4).state = .failed ∨ (s.source e 4).state = .retired) :
    exec (.sourceFailure e src) s = .next (fibreSourceless (s.sourceFails e src) (4 * e.val + i)) := by
  have hspare : (s.sourceFails e src).noSpare (4 * e.val + i) = true :=
    State.noSpare_of_spare hi (by rwa [State.sourceFails_spare s hs])
  unfold State.sourceFails at hspare ⊢
  change execSourceFailure e src s = _
  simp [execSourceFailure, ha, hf, hs, Nat.not_le.2 hi, State.setFlagIf, State.engine_updSource_change, hc, hspare]

theorem exec_spareRouted_ready {s : State} {e : Fin 16} {i : Nat} (hf : (s.engine e).failedFibre = some i)
    (hr : (s.source e 4).state = .ready) : exec (.spareRouted e) s =
      .next (newReference (((s.updSource e 4 (fun x => { x with state := .active, feeds := i, fade := some 0 })).setFlag
        (0x6390 + e) 6).updEngine e (fun y => { y with failedFibre := none })) (4 * e.val + i) (64 + e)) := by
  change execSpareRouted e s = _
  simp [execSpareRouted, hf, hr]

end Sys2Proof.Machine

open Sys2Proof Sys2Proof.Machine

/-- Settles O26, from one rule for each command's branch. -/
theorem laserSources : Obligations.LaserSources := by
  unfold Obligations.LaserSources
  refine ⟨?unfed, ?slight, ?release, ?ready, ?off, ?notice, ?ack, ?opens, ?ends, ?idle, ?unspared, ?routed⟩
  case unfed => exact fun s f w x h => exec_linePowerSample_unfed w x h
  case slight =>
    intro s f w x src hf hx
    exact ⟨_, exec_linePowerSample_slight hf hx, by simp [State.fadeTaken, State.sampledFade], rfl⟩
  case release =>
    intro s f w hs hh hown hall hf
    have hover : s.holdOver f w = .none := (if_neg (Nat.ne_of_lt w.isLt)).trans hall
    obtain ⟨hlock, hhold⟩ := releaseOwn_locks hs hh hown hover
    refine ⟨_, exec_fadeDropRelease_passed (by simp [hown]) hf, hlock, hhold, ?_⟩
    rw [State.source_updSource_same, releaseOwn_restarts hs hh]
    rfl
  case ready =>
    intro s e h
    refine ⟨_, exec_spareReady_starting h, ?_, fun c hc => ⟨{ c with requested := true }, ?_, rfl⟩⟩
    · rw [State.updChange, State.source_updEngine_same 4 rfl, State.source_updSource_same]
    · rw [State.engine_updChange_same, State.engine_updSource_change, hc]
      rfl
  case off =>
    intro s e hp hr hc hf hl
    exact ⟨_, exec_spareOff_spared hp hr hc hf hl, by simp, by simp⟩
  case notice => exact fun s e c t hc ht hn => exec_changeoverNoticeSend_due hc ht hn
  case ack =>
    intro s e c hc hn ha ho h3
    refine ⟨_, exec_changeoverAckTimeout_unanswered hc hn ha ho h3, ?_⟩
    rw [State.engine_updChange_same, hc]
    rfl
  case opens =>
    intro s e c t hc ht hr hn ha ho
    exact ⟨_, exec_changeoverWindowOpen_acked hc ht hr hn ha ho, by simp, by simp⟩
  case ends => exact fun s e c hc ho => exec_changeoverWindowEnd_open hc ho
  case idle =>
    intro s e src hr hs
    refine ⟨_, exec_sourceFailure_ready hr hs, ?_⟩
    split
    · rw [dropChange_source, dropChange_flag]
      exact ⟨s.sourceFails_source e src, s.sourceFails_flag e src⟩
    · exact ⟨s.sourceFails_source e src, s.sourceFails_flag e src⟩
  case unspared => exact fun s e src i ha hf hi hs hc h4 => exec_sourceFailure_unspared ha hf hi hs hc h4
  case routed => exact fun s e i hf hr => exec_spareRouted_ready hf hr

end

section
/-!
PROOFS. What a link that goes down, and the jobs that it ends, leave: Hatch (R194, R452, R455).
-/

namespace Sys2Proof.Machine

/-! ### Frames, descriptors and memories leave Hatch -/

theorem SameButMargin.hatch {s t : State} (h : SameButMargin s t) : t.hatch = s.hatch := by
  obtain ⟨_, _, _, rfl⟩ := h
  rfl

theorem SameButHost.hatch {s t : State} (h : SameButHost s t) : t.hatch = s.hatch := by
  obtain ⟨_, _, _, rfl⟩ := h
  rfl

/-- Hatch stands after a `forEach` whose every step leaves it. -/
theorem State.forEach_hatch {α : Type} {g : State → α → State} (h : ∀ s x, (g s x).hatch = s.hatch) (l : List α) (s : State) :
    (s.forEach l g).hatch = s.hatch :=
  State.forEach_keeps State.hatch g h l s

@[simp] theorem State.setFlagIf_hatch (s : State) (c : Bool) (i b : Nat) : (s.setFlagIf c i b).hatch = s.hatch := by
  obtain ⟨_, h⟩ := s.setFlagIf_rest c i b
  rw [h]

@[simp] theorem sendSeq_hatch (s : State) (f typ : Nat) (b : List Byte) : (sendSeq s f typ b).hatch = s.hatch := by
  unfold sendSeq sendMarginFrame relayLost
  dsimp only
  split
  · exact (pumpMargin_onlyMargin _ f).hatch
  · split
    · exact (transmitMargin_onlyMargin s f _).hatch
    · split <;> exact (payBack_onlyMargin _ _).hatch

@[simp] theorem State.countHost_hatch (s : State) (d : Domain) (k : Nat) : (s.countHost d k).hatch = s.hatch := by
  cases d <;> rfl

@[simp] theorem State.reviewRing_hatch (s : State) (g : Nat) : (s.reviewRing g).hatch = s.hatch := by
  unfold State.reviewRing
  dsimp only
  split
  · rfl
  · exact (s.reviewVector_rest _ _).hatch

@[simp] theorem State.dmaError_hatch (s : State) (g : Nat) : (s.dmaError g).hatch = s.hatch := by
  unfold State.dmaError
  rw [State.countHost_hatch]
  exact (s.hostEvent_rest _ 0).hatch

@[simp] theorem State.countPages_hatch (s : State) (a sub n : Nat) : (s.countPages a sub n).hatch = s.hatch :=
  State.forEach_keeps State.hatch _ (fun _ _ => by rfl) _ s

@[simp] theorem State.writeMem_hatch (s : State) (a : Nat) (b : List Byte) : (s.writeMem a b).hatch = s.hatch := by
  simp [State.writeMem]

theorem State.dmaWrite_hatch {s t : State} {d : Domain} {a : Nat} {b : List Byte} (h : s.dmaWrite d a b = some t) :
    t.hatch = s.hatch := by
  unfold State.dmaWrite at h
  split at h
  · cases h
  · split at h <;> cases h
    · rfl
    · rfl
    · exact s.writeMem_hatch a b

@[simp] theorem State.completeDesc_hatch (s : State) (g no status hdr detail : Nat) :
    (s.completeDesc g no status hdr detail).hatch = s.hatch := by
  unfold State.completeDesc
  split
  · rfl
  · dsimp only
    split
    · rfl
    · simp only [State.reviewRing_hatch, State.countHost_hatch, State.countCp, State.countUnit_hatch, State.updRing_hatch]
      split
      next h => exact (State.dmaWrite_hatch h).trans rfl
      · exact State.dmaError_hatch _ g

@[simp] theorem State.completeAny_hatch (s : State) (no status detail : Nat) : (s.completeAny no status detail).hatch = s.hatch := by
  unfold State.completeAny
  split
  · exact s.completeDesc_hatch _ no status 0 detail
  · rfl

/-! ### The end of a job leaves Hatch -/

@[simp] theorem State.jobToSet_hatch (s : State) (j kind reason cell deadline : Nat) (excl : List Nat) :
    (s.jobToSet j kind reason cell deadline excl).hatch = s.hatch :=
  State.forEach_hatch (fun s p => sendSeq_hatch s (p / 16) 0x12 _) _ s

@[simp] theorem State.jobToMac_hatch (s : State) (j kind reason mac cell count : Nat) :
    (s.jobToMac j kind reason mac cell count).hatch = s.hatch := by
  unfold State.jobToMac
  dsimp only
  split
  · rfl
  · exact sendSeq_hatch _ _ 0x12 _

@[simp] theorem State.endJobContexts_hatch (s : State) (job : Nat) : (s.endJobContexts job).hatch = s.hatch := by
  refine State.forEach_hatch (fun s n => ?_) _ s
  refine State.forEach_keeps State.hatch _ (fun s e => ?_) _ s
  split
  · split <;> rfl
  · rfl

@[simp] theorem State.doneFrame_hatch (s : State) (src th : Nat) (r : Range) (k status cause detail : Nat) (org : Origin) :
    (s.doneFrame src th r k status cause detail org).hatch = s.hatch := by
  unfold State.doneFrame State.sendToSet
  dsimp only
  split <;> rfl

theorem State.dropChunkOffers_hatch (s : State) (n th : Nat) (l : List Nat) : (s.dropChunkOffers n th l).hatch = s.hatch := rfl

theorem State.endContexts_hatch (s : State) (n th : Nat) : (s.endContexts n th).hatch = s.hatch := rfl

@[simp] theorem State.failChunkRecord_hatch (s : State) (th cause detail : Nat) :
    (s.failChunkRecord th cause detail).hatch = s.hatch := by
  unfold State.failChunkRecord
  split
  · rfl
  next r _ =>
    extract_lets n freed recorded counted missed sent
    have hcounted : counted.hatch = s.hatch := by
      simp [counted, recorded, freed, State.countCp, State.endContexts_hatch, State.freeRows, State.dropChunkOffers_hatch]
    have hmissed : missed.hatch = s.hatch := by
      simp only [missed]
      split <;> exact hcounted
    change sent.hatch = s.hatch
    simp only [sent]
    split
    · exact hmissed
    · exact (State.forEach_hatch (fun s k => s.doneFrame_hatch _ th r k 1 cause detail .none) _ missed).trans hmissed

@[simp] theorem State.teardownRanges_hatch (s : State) (j : Nat) : (s.teardownRanges j).hatch = s.hatch := by
  refine State.forEach_hatch (fun s x => ?_) _ s
  rw [State.completeDesc_hatch, State.modColl_hatch, State.forEach_hatch (fun s n => s.updNib_hatch n _)]
  split <;> exact State.forEach_hatch (fun s th => s.failChunkRecord_hatch th 10 0) _ s

@[simp] theorem State.cancelWaits_hatch (s : State) (job : Nat) : (s.cancelWaits job).hatch = s.hatch := by
  unfold State.cancelWaits
  dsimp only
  rw [State.forEach_hatch (fun s r => by simp [State.countCp]), State.modColl_hatch, State.forEach_hatch (fun s w => by simp)]
  rfl

/-! ### Held requests of memory leave Hatch -/

@[simp] theorem State.responseFrame_hatch (s : State) (r : LigReq) (typ op : Nat) (b : List Byte) :
    (s.responseFrame r typ op b).2.hatch = s.hatch := by
  unfold State.responseFrame
  dsimp only
  split <;> rfl

@[simp] theorem State.respond_hatch (s : State) (r : LigReq) (typ op : Nat) (b : List Byte) :
    (s.respond r typ op b).hatch = s.hatch := by
  unfold State.respond
  split
  · exact s.responseFrame_hatch r typ op b
  · rfl

@[simp] theorem State.ligStatus_hatch (s : State) (j st : Nat) : (s.ligStatus j st).hatch = s.hatch := by
  unfold State.ligStatus State.ligFlag
  dsimp only
  split_ifs <;> rfl

@[simp] theorem State.reviewCopy_hatch (s : State) (no : Nat) : (s.reviewCopy no).hatch = s.hatch := by
  unfold State.reviewCopy
  split
  · split
    · simp
    · rfl
  · rfl

@[simp] theorem State.copyLine_hatch (s : State) (no line st : Nat) (b : List Byte) : (s.copyLine no line st b).hatch = s.hatch := by
  unfold State.copyLine
  split
  · rfl
  next c _ =>
    extract_lets d mine
    split
    next u e hp =>
      have hu : u.hatch = s.hatch := by
        split at hp
        · split at hp <;> cases hp
          · exact State.dmaWrite_hatch ‹_›
          · exact s.dmaError_hatch c.ring
        · cases hp
          rfl
      rw [State.reviewCopy_hatch]
      split <;> exact hu

@[simp] theorem State.answer_hatch (s : State) (r : LigReq) (st : Nat) (b : List Byte) : (s.answer r st b).hatch = s.hatch := by
  unfold State.answer
  split <;> simp

@[simp] theorem State.answerAll_hatch (s : State) (l : List (LigReq × List Byte)) (st : Nat) : (s.answerAll l st).hatch = s.hatch := by
  refine State.forEach_hatch (fun s x => ?_) _ s
  split
  · rfl
  · exact s.answer_hatch x.1 st x.2

theorem State.sendPart_hatch (s : State) (a : LigAccess) (p : HomePart) : (s.sendPart a p).hatch = s.hatch := by
  unfold State.sendPart
  dsimp only
  split <;> rfl

theorem State.issueAcc_hatch {s t : State} {a : LigAccess} (h : s.issueAcc a = some t) : t.hatch = s.hatch := by
  unfold State.issueAcc at h
  split at h
  · cases h
    rfl
  · dsimp only at h
    split at h
    · cases h
    · cases h
      exact (State.forEach_hatch (g := fun s p => (s.countLig 18).sendPart a p) (fun s p => State.sendPart_hatch _ a p) _ _).trans rfl

theorem State.issueAll_hatch (n : Nat) (s : State) : (s.issueAll n).hatch = s.hatch := by
  induction n generalizing s with
  | zero => rfl
  | succ n ih =>
    unfold State.issueAll
    split
    next t h =>
      obtain ⟨a, _, ha⟩ := List.exists_of_findSome?_eq_some h
      split at ha
      · exact (ih t).trans (State.issueAcc_hatch ha)
      · cases ha
    · rfl

@[simp] theorem State.ligRun_hatch (s : State) : s.ligRun.hatch = s.hatch := by
  simp [State.ligRun, State.reviewData, State.issueAll_hatch]

@[simp] theorem State.teardownLig_hatch (s : State) (j : Nat) : (s.teardownLig j).hatch = s.hatch := by
  simp [State.teardownLig]

/-! ### Links that go down leave Hatch -/

theorem State.startDrain_hatch (s : State) (j reason : Nat) : (s.startDrain j reason).hatch = s.hatch := by
  simp [State.startDrain, State.drainJob, State.cancelCopies]

theorem State.endPrepare_hatch (s : State) (j status detail : Nat) : (s.endPrepare j status detail).hatch = s.hatch := by
  unfold State.endPrepare
  split
  · exact State.completeAny_hatch _ _ status detail
  · rfl

theorem State.abortJob_hatch (s : State) (j reason : Nat) (l : List Nat) : (s.abortJob j reason l).hatch = s.hatch := by
  unfold State.abortJob
  extract_lets x flagged toSet told marked drained
  have hshares (s : State) : (s.forEach x.shares (fun s e => s.jobToMac j 7 reason e.1 s.cellNow 0)).hatch = s.hatch :=
    State.forEach_hatch (fun s e => State.jobToMac_hatch s j 7 reason _ _ 0) _ s
  have htoSet : toSet.hatch = s.hatch := flagged.jobToSet_hatch j 7 reason _ 0 l
  have htold : told.hatch = s.hatch := by
    simp only [told]
    split
    · rw [hshares, htoSet]
    · rw [State.jobToMac_hatch, htoSet]
  have hmarked : marked.hatch = s.hatch := by
    simp only [marked]
    split
    · rfl
    · rw [State.updSlot_hatch, htold]
  have hdrained : drained.hatch = s.hatch := (marked.startDrain_hatch j reason).trans hmarked
  split
  · rfl
  · split
    · exact (drained.endPrepare_hatch j 23 0).trans hdrained
    · exact hdrained

theorem dropLinkQueues_hatch (s : State) (p : Nat) : (dropLinkQueues s p).hatch = s.hatch := by
  unfold dropLinkQueues
  extract_lets qs unqueued es left
  have hunqueued : unqueued.hatch = s.hatch :=
    State.forEach_keeps State.hatch (fun s v => (s.dropVoq v).destDown) (fun _ _ => rfl) qs s
  have hleft : left.hatch = s.hatch := hunqueued
  rw [← hleft]
  exact State.forEach_keeps State.hatch (fun s e => (s.endCopy e.frame (1000 + p)).destDown) (fun _ _ => rfl) es left

theorem abortJobsOnLink_hatch (s : State) (p reason : Nat) : (abortJobsOnLink s p reason).hatch = s.hatch := by
  refine State.forEach_hatch (fun s j => ?_) _ s
  split
  · exact s.abortJob_hatch j reason [p]
  · rfl

theorem linkDown_hatch (s : State) (p : Nat) (d : LinkState) : (linkDown s p d).hatch = s.hatch := by
  unfold linkDown
  dsimp only
  split
  · rw [abortJobsOnLink_hatch, dropLinkQueues_hatch]
    rfl
  · rfl

end Sys2Proof.Machine
end

section
/-!
PROOFS. The steps of a Hatch commit, and the mesh between commits (R113, R117 to R122, R128).
-/

namespace Sys2Proof.Machine

/-! ### Slots that return to electrical service leave Hatch -/

@[simp] theorem linkRestart_hatch (s : State) (p : Nat) : (linkRestart s p).hatch = s.hatch := linkDown_hatch s p .waitMargin

@[simp] theorem laneStart_hatch (s : State) (f w : Nat) : (laneStart s f w).hatch = s.hatch :=
  congrArg (fun v => v.2.1) (laneStart_startView s f w)

@[simp] theorem slotReturns_hatch (s : State) (f w : Nat) : (slotReturns s f w).hatch = s.hatch := by
  simp [slotReturns]

/-! ### The commit in progress -/

theorem State.updCommit_commit {s : State} {c : Commit} (g : Commit → Commit) (h : s.hatch.commit = some c) :
    (s.updCommit g).hatch.commit = some (g c) := by
  simp [State.updCommit, h]

@[simp] theorem recordCommitEnd_hatch (s : State) (status tag : Nat) :
    (recordCommitEnd s status tag).hatch = { s.hatch with commit := none, lastStatus := status, lastTag := tag } := by
  simp [recordCommitEnd]

/-! ### Route search and drain (R113, R117) -/

theorem exec_hatchRouteDone_plain {s : State} {c : Commit} (x : List (List (Nat × Nat × Nat))) (hc : s.hatch.commit = some c)
    (h1 : c.stage = 1) (hr : c.route = none) (hp : s.hatch.plain (connsAfter s.hatch c) = true) :
    exec (.hatchRouteDone x) s = .next (s.routeFound c (routeUnicast s.hatch (connsAfter s.hatch c))) := by
  change execHatchRouteDone x s = _
  simp [execHatchRouteDone, hc, h1, hr, hp]

/-- A set that is not plain takes the best of the routes that the search found, or ends with NO_ROUTE (R113). -/
theorem exec_hatchRouteDone_searched {s : State} {c : Commit} (x : List (List (Nat × Nat × Nat))) (hc : s.hatch.commit = some c)
    (h1 : c.stage = 1) (hr : c.route = none) (hp : s.hatch.plain (connsAfter s.hatch c) = false) :
    exec (.hatchRouteDone x) s = .next ((s.hatch.bestRoute c ((x.map (searchRoute s.hatch (connsAfter s.hatch c))).filter
      (s.hatch.routeOk c (connsAfter s.hatch c)))).elim (s.commitEnds 2) (s.routeFound c)) := by
  change execHatchRouteDone x s = _
  simp only [execHatchRouteDone, hc, h1, hr, hp]
  generalize s.hatch.bestRoute c _ = b
  cases b <;> rfl

theorem exec_hatchDrainEnd_draining {s : State} {c : Commit} (hc : s.hatch.commit = some c) (h1 : c.stage = 1) :
    exec .hatchDrainEnd s = .next (if c.route.isSome then endDrain (s.updCommit (fun c => { c with drainDue := true }))
      else s.updCommit (fun c => { c with drainDue := true })) := by
  change execHatchDrainEnd s = _
  simp [execHatchDrainEnd, hc, h1]

/-! ### CIRCUIT notices (R117, R120) -/

theorem exec_circuitNoticeSend_due {s : State} {c : Commit} {t : Nat × Nat} (hc : s.hatch.commit = some c) (ht : c.t = some t)
    (hn : c.noticed = false) (h2 : c.stage = 2) : exec .circuitNoticeSend s =
      .next ((s.forEach (noticeSlots s c) (fun s x => sendSeq s x.1 0x0A (circuitPayload s c t x.1 x.2))).updCommit
        (fun d => { d with noticed := true, sent := true, awaiting := (noticeSlots s c).map (fun x => 16 * x.1 + x.2) })) := by
  change execCircuitNoticeSend s = _
  simp [execCircuitNoticeSend, hc, ht, hn, h2]

/-- A window with an acknowledgement missing is abandoned, and the third ends the commit (R120). -/
theorem exec_circuitAckTimeout_missing {s : State} {c : Commit} (hc : s.hatch.commit = some c) (hn : c.noticed = true)
    (ha : c.awaiting ≠ []) (h2 : c.stage = 2) : exec .circuitAckTimeout s =
      .next (if 2 ≤ c.abandoned then s.commitEnds 7 else s.updCommit (fun c =>
        { c with abandoned := c.abandoned + 1, t := none, noticed := false, awaiting := [], requested := true })) := by
  change execCircuitAckTimeout s = _
  unfold execCircuitAckTimeout
  rw [hc]
  dsimp only
  rw [if_neg (by simp [hn, ha, h2])]
  exact (apply_ite Host.Outcome.next _ _ _).symm

/-! ### T of a commit, and what follows (R117, R121) -/

/-- At T: the route's settings are written, and the rings of the slots that leave and enter circuit use follow (R117 step 7). -/
def State.routeApplied (s : State) (c : Commit) : State :=
  ((s.modHatch (fun h => h.withRoute (c.route.getD []))).forEach (leavingSlots s c) (fun s x => s.updLane x.1 x.2 (fun y =>
    { y.updRing .addDrop (fun r => { r with parked := true }) with toHatch := false }))).forEach (enteringSlots s c) (fun s x =>
      s.updLane x.1 x.2 (fun y =>
        { y.updRing .modulator (fun r => { r with parked := true, locked := false }) with toHatch := true }))

theorem State.routeApplied_hatch (s : State) (c : Commit) : (s.routeApplied c).hatch = s.hatch.withRoute (c.route.getD []) := by
  unfold State.routeApplied
  refine (State.forEach_hatch ?_ _ _).trans ((State.forEach_hatch ?_ _ _).trans (State.modHatch_hatch s _)) <;>
    exact fun s x => s.updLane_hatch x.1 x.2 _

/-- REROUTE is set and counted where a commit disturbed a standing connection (R113, R126). -/
def State.flagReroute (s : State) (c : Commit) : State := if c.disturbed = [] then s else (s.setFlag 0x63A1 2).countUnit 3 0 14

theorem State.flagReroute_hatch (s : State) (c : Commit) : (s.flagReroute c).hatch = s.hatch := by
  unfold State.flagReroute
  split <;> rfl

theorem State.flagReroute_flag {c : Commit} (s : State) (h : c.disturbed ≠ []) : (s.flagReroute c).flag 0x63A1 2 = true := by
  rw [State.flagReroute, if_neg h, State.flag_countUnit]
  exact s.flag_setFlag_same 0x63A1 2 (by decide)

theorem exec_hatchApply_reached {s : State} {c : Commit} {t : Nat × Nat} (hc : s.hatch.commit = some c) (ht : c.t = some t)
    (hn : c.noticed = true) (ha : c.awaiting = []) (h2 : c.stage = 2) (hr : s.reached t = true) : exec .hatchApply s =
      .next (((s.routeApplied c).flagReroute c).updCommit (fun c => { c with stage := 3 })) := by
  change execHatchApply s = _
  unfold execHatchApply
  rw [hc]
  dsimp only
  rw [ht]
  dsimp only
  rw [if_neg (by simp [hn, ha, h2, hr])]
  rfl

theorem exec_hatchSettled_applied {s : State} {c : Commit} (hc : s.hatch.commit = some c) (h3 : c.stage = 3) : exec .hatchSettled s =
    .next (s.updCommit (fun c => { c with settled := true })) := by
  change execHatchSettled s = _
  simp [execHatchSettled, hc, h3]

/-- Gains are free values: nothing else of the connections or of Hatch changes (R121). -/
theorem State.setGains_conns (l : List Conn) (s : State) :
    (s.setGains l).1.map (fun x => (x.input, x.outs)) = l.map (fun x => (x.input, x.outs)) := by
  induction l generalizing s with
  | nil => rfl
  | cons c r ih =>
    simp only [State.setGains, List.map_cons]
    rw [ih]

theorem State.setGains_hatch (l : List Conn) (s : State) : (s.setGains l).2.hatch = s.hatch := by
  induction l generalizing s with
  | nil => rfl
  | cons c r ih => exact ih _

/-- Step 9: from a state whose connection table has followed, the commit's end is recorded and the released slots return (R117). -/
theorem exec_hatchCommitDone_settled {s : State} {c : Commit} (failed : List (Fin 256)) (hc : s.hatch.commit = some c) (h3 : c.stage = 3)
    (hs : c.settled = true) : ∃ t : State,
      t.hatch.conns = connsAfter s.hatch { c with connects := (s.setGains c.connects).1 } ∧
      exec (.hatchCommitDone failed) s = .next ((recordCommitEnd t 0 c.tag).forEach (leavingSlots s c) (fun s x =>
        slotReturns (s.updLane x.1 x.2 (fun y => y.updRing .modulator (fun r => { r with parked := false }))) x.1 x.2)).runPendingWarm := by
  change ∃ t : State, _ ∧ execHatchCommitDone failed s = _
  unfold execHatchCommitDone
  rw [hc]
  dsimp only
  rw [if_neg (by simp [h3, hs])]
  refine ⟨_, ?_, rfl⟩
  rw [State.setFlagIf_hatch, State.forEach_hatch (fun s o => s.updLane_hatch (o / 4) (12 + o % 4) _), State.modHatch_hatch,
    State.setGains_hatch]

/-! ### The mesh between commits (R121, R122) -/

theorem exec_hatchTrimTick_lit {s : State} (k : Fin 1920) (x : HatchTrim) (hp : s.boot.photonic = true) : exec (.hatchTrimTick k x) s =
    .next ((s.modHatch (fun h => { h with elems := h.elems.upd {} k (fun e => { e with heater := min x.power 40000 }) })).setFlagIf
      (x.dark.any (fun o => s.hatch.conns.any (fun c => c.outs.contains o.val))) 0x63A1 3) := by
  change execHatchTrimTick k x s = _
  simp [execHatchTrimTick, hp]

@[simp] theorem State.logOpenEvent_hatch (s : State) (u c d : Nat) : (s.logOpenEvent u c d).hatch = s.hatch := by
  simp [State.logOpenEvent]

@[simp] theorem State.flag_logOpenEvent (s : State) (u c d x y : Nat) : (s.logOpenEvent u c d).flag x y = s.flag x y := by
  simp [State.logOpenEvent, State.logEvent, State.flag, State.flagObj]

/-- Element `k` has FAILED in its measured state, and a commit in progress knows it (R122, R128). -/
def State.elementFails (s : State) (k ratio : Nat) : State :=
  ((s.modHatch (fun h =>
    { h with elems := h.elems.upd {} k (fun x => { x with failed := true, ratio := min ratio 63 })
             commit := h.commit.map (fun c => { c with failedNow := k :: c.failedNow }) })).setFlag 0x63A1 5).countUnit 3 0 12

theorem State.elementFails_elem (s : State) (k ratio : Nat) : (s.elementFails k ratio).hatch.elems.get {} k =
    { s.hatch.elems.get {} k with failed := true, ratio := min ratio 63 } := by
  simp [State.elementFails]

theorem State.elementFails_flag (s : State) (k ratio : Nat) : (s.elementFails k ratio).flag 0x63A1 5 = true := by
  rw [State.elementFails, State.flag_countUnit]
  exact State.flag_setFlag_same _ 0x63A1 5 (by decide)

/-- The event of a failure takes a free class (R122). -/
theorem exec_elementFailure_railed {s : State} {k : Fin 1920} (x : Nat) (hp : s.boot.photonic = true)
    (hf : (s.hatch.elems.get {} k.val).failed = false)
    (hh : (s.hatch.elems.get {} k.val).heater = 0 ∨ (s.hatch.elems.get {} k.val).heater = 40000) : ∃ cls, exec (.elementFailure k x) s =
      .next (((s.elementFails k x).freeBelow 5).2.logOpenEvent (unitId 3 0) cls k) := by
  refine ⟨1 + ((s.elementFails k x).freeBelow 5).1, ?_⟩
  change execElementFailure k x s = _
  unfold execElementFailure
  dsimp only
  rw [if_neg (by simpa [hp, hf] using hh.resolve_left)]
  rfl

theorem exec_darkInput_dark {s : State} {k : Fin 256} {c : Conn} (hc : s.hatch.conns.find? (fun c => c.input = k.val) = some c)
    (hm : c.muted = false) : exec (.darkInput k false) s =
      .next (((s.modHatch (fun h => { h with conns := h.conns.map (fun x => if x.input = k.val then { x with muted := true } else x) })).setFlag
        0x63A1 4).countUnit 3 0 13) := by
  change execDarkInput k false s = _
  simp [execDarkInput, hc, hm]

end Sys2Proof.Machine

open Sys2Proof Sys2Proof.Machine

/-- Settles O36, from one rule for each command's branch. -/
theorem hatchCommitSteps : Obligations.HatchCommitSteps := by
  unfold Obligations.HatchCommitSteps
  refine ⟨?window, ?plain, ?noRoute, ?routed, ?draining, ?drained, ?notice, ?retry, ?abandoned, ?apply, ?settled, ?done, ?trim, ?element,
    ?dark⟩
  case window => exact fun s w => rfl
  case plain => exact fun s c x hc h1 hr hp => exec_hatchRouteDone_plain x hc h1 hr hp
  case noRoute => exact fun s c hc h1 hr hp => exec_hatchRouteDone_searched [] hc h1 hr hp
  case routed =>
    intro s c x r hc h1 hr hp hb
    rw [exec_hatchRouteDone_searched x hc h1 hr hp, hb]
    rfl
  case draining =>
    intro s c hc h1 hr
    rw [exec_hatchDrainEnd_draining hc h1, hr]
    rfl
  case drained =>
    intro s c hc h1 hr
    rw [exec_hatchDrainEnd_draining hc h1, if_pos hr]
  case notice => exact fun s c t hc ht hn h2 => exec_circuitNoticeSend_due hc ht hn h2
  case retry =>
    intro s c hc hn ha h2 hlt
    refine ⟨_, exec_circuitAckTimeout_missing hc hn ha h2, ?_⟩
    rw [if_neg (by omega)]
    exact State.updCommit_commit _ hc
  case abandoned =>
    intro s c hc hn ha h2 hle
    rw [exec_circuitAckTimeout_missing hc hn ha h2, if_pos hle]
  case apply =>
    intro s c t hc ht hn ha h2 hr
    have hhatch : ((s.routeApplied c).flagReroute c).hatch = s.hatch.withRoute (c.route.getD []) := by
      rw [State.flagReroute_hatch, State.routeApplied_hatch]
    refine ⟨_, exec_hatchApply_reached hc ht hn ha h2 hr, State.updCommit_commit _ (by rw [hhatch]; exact hc), ?_, ?_, ?_⟩
    · exact (congrArg HatchSt.elems hhatch :)
    · exact (congrArg HatchSt.conns hhatch :)
    · exact fun hd => State.flagReroute_flag _ hd
  case settled => exact fun s c hc h3 => ⟨_, exec_hatchSettled_applied hc h3, State.updCommit_commit _ hc⟩
  case done =>
    intro s c failed hc h3 hs
    obtain ⟨t, ht, he⟩ := exec_hatchCommitDone_settled failed hc h3 hs
    refine ⟨_, he, ?_⟩
    rw [State.forEach_hatch (fun s x => by rw [slotReturns_hatch, State.updLane_hatch]), recordCommitEnd_hatch, ht]
    refine ⟨rfl, rfl, rfl, ?_⟩
    simp only [connsAfter, List.map_append, State.setGains_conns]
  case trim =>
    intro s k x hp
    refine ⟨_, exec_hatchTrimTick_lit k x hp, ?_, ?_, ?_⟩
    · rw [State.setFlagIf_hatch, State.modHatch_hatch, Tab.get_upd_same]
    · rw [State.setFlagIf_hatch, State.modHatch_hatch]
    · intro o ho c hc hout
      refine State.flag_setFlagIf _ 0x63A1 3 ?_ (by decide)
      exact List.any_eq_true.2 ⟨o, ho, List.any_eq_true.2 ⟨c, hc, hout⟩⟩
  case element =>
    intro s k x hp hf hh
    obtain ⟨cls, he⟩ := exec_elementFailure_railed x hp hf hh
    refine ⟨_, he, ?_, ?_, ?_⟩
    · rw [State.logOpenEvent_hatch, State.freeBelow_hatch, State.elementFails_elem]
    · rw [State.logOpenEvent_hatch, State.freeBelow_hatch, State.elementFails_elem]
    · rw [State.flag_logOpenEvent]
      exact s.elementFails_flag k x
  case dark =>
    intro s k c hc hm
    refine ⟨_, exec_darkInput_dark hc hm, ?_, rfl⟩
    rw [State.flag_countUnit]
    exact State.flag_setFlag_same _ 0x63A1 4 (by decide)

end

section
/-!
PROOFS. Frames received on the margin channel, and what its timers send (R145 to R157, R369, R447).
-/

namespace Sys2Proof.Machine

/-! ### A frame is taken by the row of its TYPE -/

/-- A frame of the row's TYPE brings what the hop carries, then its own effect; then what has become free to go is sent. -/
theorem State.marginTake_frame {s : State} {f typ : Nat} {b pl : List Byte} (h : s.marginKind f b = .frame typ pl)
    (effect : State → List Byte → State) : s.marginTake f typ b effect = pumpMargin (effect (s.marginHop f b) pl) f := by
  unfold State.marginTake
  rw [h]
  exact if_pos rfl

theorem next_marginTake_frame {s : State} {f typ : Nat} {b pl : List Byte} (h : s.marginKind f b = .frame typ pl)
    (effect : State → List Byte → State) :
    (.next (s.marginTake f typ b effect) : Out) = .next (pumpMargin (effect (s.marginHop f b) pl) f) :=
  congrArg Host.Outcome.next (State.marginTake_frame h effect)

/-- A row leaves a frame of another TYPE to its own row. -/
theorem State.marginTake_otherType {s : State} {f typ t : Nat} {b pl : List Byte} (h : s.marginKind f b = .frame t pl) (hne : t ≠ typ)
    (effect : State → List Byte → State) : s.marginTake f typ b effect = s := by
  unfold State.marginTake
  rw [h]
  exact if_neg hne

/-- CIRCUIT_ACK_RECEIVE looks for a CIRCUIT frame first, and a CIRCUIT_ACK is none. -/
theorem exec_circuitAckReceive_ack {s : State} {f : Fin 64} {b pl : List Byte} (h : s.marginKind f b = .frame 0x0B pl) :
    exec (.circuitAckReceive f b) s = .next (pumpMargin (onCircuitAck (s.marginHop f b) f pl) f) := by
  change Host.Outcome.next ((s.marginTake f 0x0A b (onCircuit · f)).marginTake f 0x0B b (onCircuitAck · f)) = _
  rw [State.marginTake_otherType h (by decide), State.marginTake_frame h]

/-! ### Frames that are discarded or handed on -/

/-- A fibre's count rises by 1 modulo 2^64 (R373). -/
theorem State.counter_countFibre_same (s : State) (f : Nat) {sub : Nat} (h : sub < 256) :
    (s.countFibre f sub).counter (0x7800 + f) sub = (s.counter (0x7800 + f) sub + 1) % 2 ^ 64 := by
  rw [State.countFibre, State.counter_count s _ _ _ _ _ h h, if_pos ⟨rfl, rfl⟩]

theorem exec_marginFrameDiscard_badCheck {s : State} {f : Fin 64} {b : List Byte} (h : s.marginKind f b = .badCheck) :
    exec (.marginFrameDiscard f b) s = .next ((s.countFibre f 3).setFlag (0x6440 + f.val) 0) := by
  change execMarginFrameDiscard f b s = _
  simp only [execMarginFrameDiscard, h]

theorem exec_marginFrameDiscard_badHeader {s : State} {f : Fin 64} {b : List Byte} (h : s.marginKind f b = .badHeader) :
    exec (.marginFrameDiscard f b) s = .next (s.countFibre f 4) := by
  change execMarginFrameDiscard f b s = _
  simp only [execMarginFrameDiscard, h]

theorem exec_marginFrameDiscard_badType {s : State} {f : Fin 64} {b : List Byte} (h : s.marginKind f b = .badType) :
    exec (.marginFrameDiscard f b) s = .next ((s.countFibre f 4).setFlag (0x6440 + f.val) 1) := by
  change execMarginFrameDiscard f b s = _
  simp only [execMarginFrameDiscard, h]

theorem exec_marginFrameDiscard_badSeq {s : State} {f : Fin 64} {b : List Byte} (h : s.marginKind f b = .badSeq) :
    exec (.marginFrameDiscard f b) s = .next (s.countMisc .marginUnaccepted 1) := by
  change execMarginFrameDiscard f b s = _
  simp only [execMarginFrameDiscard, h]

theorem exec_relayFrameReceive_relay {s : State} {f : Fin 64} {b : List Byte} {w : Nat} (h : s.marginKind f b = .relay w) :
    exec (.relayFrameReceive f b) s = .next (relayFrame (s.countFibre f 1) f w b) := by
  change execRelayFrameReceive f b s = _
  simp only [execRelayFrameReceive, h]

/-! ### The channel's own timers -/

theorem exec_keepaliveSend_up {s : State} {f : Fin 64} (hup : (s.fibre f).marginState = .up) (hgo : (s.fibre f).margin.stopped = false) :
    exec (.keepaliveSend f) s = .next (sendPlain s f 0x01 []) := by
  change execKeepaliveSend f s = _
  simp [execKeepaliveSend, hup, hgo]

/-- While the timers pause, or where the channel is not UP, no held frame is sent again (R148, R157). -/
theorem exec_marginResendTimeout (s : State) (f : Fin 64) : exec (.marginResendTimeout f) s =
    .next (if (s.fibre f).marginState = .up ∧ s.timersPaused f = false
      then s.forEach (s.fibre f).margin.heldFrames (fun s h => s.resendHeld f h) else s) := by
  change execMarginResendTimeout f s = _
  simp [execMarginResendTimeout, apply_ite Host.Outcome.next]

theorem exec_marginLossDetect_lit {s : State} {f : Fin 64} (hlit : (s.fibre f).marginState ≠ .dark) (hp : s.timersPaused f = false) :
    exec (.marginLossDetect f) s = .next ((marginLost s f).dropPtp f) := by
  change execMarginLossDetect f s = _
  simp [execMarginLossDetect, hlit, hp]

theorem exec_errorReportSend_up {s : State} {f : Fin 64} (counts : List Nat) (hup : (s.fibre f).marginState = .up) :
    exec (.errorReportSend f counts) s = .next (sendPlain (s.updFibre f (fun x =>
      { x with margin := { x.margin with window := x.margin.window + 1 } })) f 0x06 (errorReportPayload s f counts)) := by
  change execErrorReportSend f counts s = _
  exact if_pos hup

end Sys2Proof.Machine

open Sys2Proof Sys2Proof.Machine

/-- Settles O27, from what a row does with a frame of its own TYPE and with one of another. -/
theorem marginFramesTaken : Obligations.MarginFramesTaken := by
  unfold Obligations.MarginFramesTaken
  refine ⟨?keepalive, ?hello, ?laneDrop, ?laneAdd, ?laneAddConfirm, ?errorReport, ?pilotFault, ?changeover, ?changeoverAck, ?circuitAck,
    ?abort, ?carry, ?digest, ?sched⟩
  case keepalive => exact fun s f b pl h => next_marginTake_frame h (fun s _ => s)
  case hello => exact fun s f b pl h => next_marginTake_frame h (onHello · f)
  case laneDrop => exact fun s f b pl h => next_marginTake_frame h (onLaneDrop · f)
  case laneAdd => exact fun s f b pl h => next_marginTake_frame h (onLaneAdd · f)
  case laneAddConfirm => exact fun s f b pl h => next_marginTake_frame h (onLaneAddConfirm · f)
  case errorReport => exact fun s f b pl h => next_marginTake_frame h (onErrorReport · f)
  case pilotFault => exact fun s f b pl h => next_marginTake_frame h (onPilotFault · f)
  case changeover => exact fun s f b pl h => next_marginTake_frame h (onChangeover · f)
  case changeoverAck => exact fun s f b pl h => next_marginTake_frame h (onChangeoverAck · f)
  case circuitAck => exact fun s f b pl h => exec_circuitAckReceive_ack h
  case abort => exact fun s f b pl h => next_marginTake_frame h (onAbort · f)
  case carry => exact fun s f b pl h => next_marginTake_frame h (onCarry · f)
  case digest => exact fun s f b pl h => next_marginTake_frame h (onDigest · f)
  case sched => exact fun s f b pl h => next_marginTake_frame h (onSched · f)

/-- Settles O29, from one rule for each check that a frame fails. -/
theorem marginFramesDiscarded : Obligations.MarginFramesDiscarded := by
  unfold Obligations.MarginFramesDiscarded
  refine ⟨?check, ?header, ?type, ?seq, ?relay⟩
  case check =>
    intro s f b h
    refine ⟨_, exec_marginFrameDiscard_badCheck h, State.flag_setFlag_same _ _ 0 (by decide), rfl, rfl, ?_⟩
    rw [State.counter_setFlag]
    exact s.counter_countFibre_same f (by decide)
  case header => exact fun s f b h => ⟨_, exec_marginFrameDiscard_badHeader h, rfl, rfl, s.counter_countFibre_same f (by decide)⟩
  case type =>
    intro s f b h
    refine ⟨_, exec_marginFrameDiscard_badType h, State.flag_setFlag_same _ _ 1 (by decide), rfl, ?_⟩
    rw [State.counter_setFlag]
    exact s.counter_countFibre_same f (by decide)
  case seq => exact fun s f b h => exec_marginFrameDiscard_badSeq h
  case relay => exact fun s f b w h => exec_relayFrameReceive_relay h

/-- Settles O30, from one rule for each timer. That a timer asserted expired while the timers pause does nothing is the model's choice
(log 52). -/
theorem marginChannelTimers : Obligations.MarginChannelTimers := by
  unfold Obligations.MarginChannelTimers
  refine ⟨?keepalive, ?resend, ?paused, ?lost, ?report⟩
  case keepalive => exact fun s f hup hgo => exec_keepaliveSend_up hup hgo
  case resend => exact fun s f hup hp => by rw [exec_marginResendTimeout, if_pos ⟨hup, hp⟩]
  case paused => exact fun s f hp => by rw [exec_marginResendTimeout, if_neg (by simp [hp])]
  case lost => exact fun s f hlit hp => exec_marginLossDetect_lit hlit hp
  case report => exact fun s f counts hup => exec_errorReportSend_up counts hup

end

section
/-!
PROOFS. Frames and control blocks of the data links: reception, retry, and the choice of the next frame (R130 to R138, R207).
-/

namespace Sys2Proof.Machine

/-! ### Reception -/

/-- A lane that is not IN, of a link that is down, or within a window of the far end takes no frame (R79, R101). -/
theorem exec_dataFrameReceive_closed {s : State} {p : Fin 1024} (w : BitVec 48) (b : List Byte)
    (h : s.linkUp (s.linkOfLane (p / 16) (p % 16)) = false ∨ (s.lane (p / 16) (p % 16)).state ≠ .inn ∨ s.inFarWindow (p / 16) = true) :
    exec (.dataFrameReceive p w b) s = .next (s.countMisc .dataBadLink 1) := by
  change execDataFrameReceive p w b s = _
  exact if_pos (by simpa [or_assoc] using h)

/-- A data frame on an open lane: its FCS decides between the receiver and the counts of R129 and R130. -/
theorem exec_dataFrameReceive_open {s : State} {p : Fin 1024} {w : BitVec 48} {tc seq : Nat} (b : List Byte)
    (hup : s.linkUp (s.linkOfLane (p / 16) (p % 16)) = true) (hin : (s.lane (p / 16) (p % 16)).state = .inn)
    (hfar : s.inFarWindow (p / 16) = false) (hw : linkWordFields w.toNat = some (0, tc, seq)) :
    exec (.dataFrameReceive p w b) s = .next (if fcsOk b then s.sequenceRx (s.linkOfLane (p / 16) (p % 16))
        { seq := seq, tc := tc, lane := p % 16, bytes := b, maxFrame := s.param 0x21C0 2, udp := s.param 0x21C0 1 }
      else if b.length < 64 ∨ s.param 0x21C0 2 < b.length then
        (s.countPort (s.linkOfLane (p / 16) (p % 16)) 6).setFlag (0x6440 + p / 16) 6
      else s.countPort (s.linkOfLane (p / 16) (p % 16)) 5) := by
  change execDataFrameReceive p w b s = _
  unfold execDataFrameReceive
  dsimp only
  rw [if_neg (by simp [hup, hin, hfar]), hw]
  cases fcsOk b <;> simp

/-- What a control block does on a link that is up, whole or not (R133). -/
theorem exec_controlBlockReceive_up {s : State} {p : Fin 1024} (b : List Byte) (ecc : Ecc) (hup : s.linkUp p = true) :
    exec (.controlBlockReceive p b ecc) s =
      .next (if controlOk b then onControlBlock s p b ecc else s.countMisc .controlBad 1) := by
  change Host.Outcome.next (controlArrives s p b ecc) = _
  cases hb : controlOk b <;> simp [controlArrives, hup, hb]

/-! ### Retry -/

theorem exec_reorderHoldExpiry_held {s : State} {p : Fin 1024} (h : (s.link p).rxHeld ≠ []) : exec (.reorderHoldExpiry p) s =
    .next (sendControl (((s.updLink p (fun x => { x with rxHeld := [], gap := true })).setFlag (0x6440 + p / 16) 3).countFibre
      (p / 16) 8) p) := by
  change execReorderHoldExpiry p s = _
  exact if_neg h

theorem exec_replayTimeout_held {s : State} {p : Fin 1024} {h : HeldFrame} {r : List HeldFrame} (ecc : Ecc)
    (hr : (s.link p).replay = h :: r) (hp : s.timersPaused (p.val / 16) = false) (hn : (s.link p).replaying s.now = false) :
    exec (.replayTimeout p ecc) s = .next (readReplay s p ecc h.seq true) := by
  change execReplayTimeout p ecc s = _
  simp [execReplayTimeout, hr, hp, hn]

/-! ### The next frame of a link -/

theorem selectStart_none {u : State} {p : Nat} (h : egressPick u p = none) (n : Nat) : selectStart u p n = u := by
  cases n with
  | zero => rfl
  | succ n => simp only [selectStart, h]

/-- The frame picked starts at once where the replay storage has room and the frame is not aged (R136, R188). -/
theorem selectStart_picked {u : State} {p c id turn : Nat} {f : Stored} {d : Tab Nat} (h : egressPick u p = some (c, id, f, turn, d))
    (hroom : u.replayRoom p f.bytes.length = true) (hage : u.aged c f.arrival = false) (n : Nat) : selectStart u p (n + 1) =
      startFrame (u.updLink p (fun x => { x with turn := turn, deficit := d })) p c id f := by
  simp [selectStart, h, hroom, hage]

/-- A link that is down, has no lane IN or is in an idle window starts nothing (R100, R117); the refresh of buckets comes first (R219). -/
theorem exec_egressSelect (s : State) (p : Fin 1024) : exec (.egressSelect p) s =
    .next (if s.refreshDue.linkUp p = false ∨ s.refreshDue.lanesIn p = [] ∨ (s.refreshDue.fibre (p.val / 16)).suspended = true
      then s.refreshDue else selectStart s.refreshDue p (s.refreshDue.core.egress.length + 1)) := by
  change execEgressSelect p s = _
  simp [execEgressSelect, apply_ite Host.Outcome.next, or_assoc]

end Sys2Proof.Machine

open Sys2Proof Sys2Proof.Machine

/-- Settles O37, from one rule for each command. That a control block with a reserved field other than 0 is discarded whole is the model's
choice (log 21). -/
theorem dataLinks : Obligations.DataLinks := by
  unfold Obligations.DataLinks
  refine ⟨?sound, ?badFcs, ?closed, ?control, ?controlBad, ?controlSend, ?gap, ?replay, ?starts, ?nothing, ?idle⟩
  case sound =>
    rintro s p w b _ tc seq rfl hup hin hfar hw hb
    rw [exec_dataFrameReceive_open b hup hin hfar hw, if_pos hb]
  case badFcs =>
    rintro s p w b _ tc seq rfl hup hin hfar hw hb hmin hmax
    rw [exec_dataFrameReceive_open b hup hin hfar hw, if_neg (by simp [hb]), if_neg (by omega)]
  case closed => exact fun s p w b h => exec_dataFrameReceive_closed w b h
  case control => exact fun s p b ecc hup hb => by rw [exec_controlBlockReceive_up b ecc hup, if_pos hb]
  case controlBad => exact fun s p b ecc hup hb => by rw [exec_controlBlockReceive_up b ecc hup, if_neg (by simp [hb])]
  case controlSend => exact fun s p => rfl
  case gap => exact fun s p h => exec_reorderHoldExpiry_held h
  case replay => exact fun s p ecc h r hr hp hn => exec_replayTimeout_held ecc hr hp hn
  case starts =>
    rintro s _ p c id turn f d rfl hup hin hs hpick hroom hage
    rw [exec_egressSelect, if_neg (by simp [hup, hin, hs]), selectStart_picked hpick hroom hage]
  case nothing =>
    rintro s _ p rfl hpick
    rw [exec_egressSelect, selectStart_none hpick, ite_self]
  case idle =>
    intro s p h
    rw [exec_egressSelect, if_pos h]

end

section
/-!
PROOFS. The lookup pipelines, the learning engine and the operations of the table engine (R160 to R175).
-/

namespace Sys2Proof.Machine

/-! ### The lookup pipelines -/

theorem State.upset_nil (s : State) (copy : Nat) : s.upset copy [] = s := by
  simp [State.upset, State.modTables]

theorem State.badAt_of_bad_nil {s : State} (h : s.tables.bad = []) (copy table loc : Nat) : s.badAt copy table loc = false := by
  rw [State.badAt, h]
  rfl

theorem exec_frameLookup_idle {s : State} {k : Fin 8} (u : List (Nat × Nat)) (h : s.tables.waiting.get [] k = []) :
    exec (.frameLookup k u) s = .next s := by
  change execFrameLookup k u s = _
  simp only [execFrameLookup, h]

/-- Where no location's check bits fail, a lookup passes none to the engine: the frame goes straight on into the pipeline (R172). -/
theorem exec_frameLookup_sound {s : State} {k : Fin 8} {x : RxFrame} {r : List RxFrame} (h : s.tables.waiting.get [] k = x :: r)
    (hb : s.tables.bad = []) : exec (.frameLookup k []) s =
      .next (((((s.modTables (fun t => { t with waiting := t.waiting.put [] k r })).freeBelow (2 ^ 32)).2.count
        (0x7000 + 0x40 * 5 + k) 2 (s.freeBelow (2 ^ 32)).1)).pipeline (InPipe.of k x)) := by
  have hgood : ∀ w table loc, ((((s.modTables (fun t => { t with waiting := t.waiting.put [] k r })).freeBelow (2 ^ 32)).2.count
      (0x7000 + 0x40 * 5 + k) 2 w)).badAt k table loc = false :=
    fun w => State.badAt_of_bad_nil (by simpa using hb) k
  change execFrameLookup k [] s = _
  simp only [execFrameLookup, h, State.upset_nil, hgood, List.filter_false]
  rfl

/-! ### The learning engine -/

/-- The engine's oldest request leaves its queue; an overrun drops it, counted and flagged (R168). -/
theorem exec_learnApply_request {s : State} {q : LearnReq} {r : List LearnReq} (overrun : Bool) (h : s.tables.learn = q :: r) :
    exec (.learnApply overrun) s = .next (if overrun then ((s.modTables (fun t => { t with learn := r })).countPipe (q.link / 128) 10).tableFlag 4
      else (s.modTables (fun t => { t with learn := r })).applyLearn q) := by
  change execLearnApply overrun s = _
  simp only [execLearnApply, h, apply_ite Host.Outcome.next]

/-! ### The operations of a batch -/

/-- What the commands of the table engine share: the batch's next operation is carried out when it has the command's OP, and ends as R175
and R176 say; otherwise nothing changes. -/
def State.batchStep (s : State) (op : Nat) (run : Nat → Except TableErr State × State) : Out :=
  match s.nextOp op with
  | some v => .next (State.opEnded (run v))
  | none => .next s

theorem State.batchStep_some {s : State} {op v : Nat} (run : Nat → Except TableErr State × State) (h : s.nextOp op = some v) :
    s.batchStep op run = .next (State.opEnded (run v)) := by
  rw [State.batchStep, h]

theorem exec_tableInsertExact (s : State) : exec .tableInsertExact s = s.batchStep 1 s.opInsert := rfl

theorem exec_tableDeleteExact (s : State) : exec .tableDeleteExact s = s.batchStep 2 s.opDelete := rfl

theorem exec_tableModifyResult (s : State) : exec .tableModifyResult s = s.batchStep 3 s.opModify := rfl

theorem exec_tableAddPrefix (s : State) : exec .tableAddPrefix s = s.batchStep 4 (fun v => (s.addPrefix (opPrefix v), s)) := rfl

theorem exec_tableDeletePrefix (s : State) : exec .tableDeletePrefix s =
    s.batchStep 5 (fun v => (s.deletePrefix (opPrefix v).v6 (opPrefix v).len (opPrefix v).addr, s)) := rfl

theorem exec_tableWriteNextHop (s : State) : exec .tableWriteNextHop s = s.batchStep 6 s.opNextHop := rfl

theorem exec_tableWriteVlanQuarter (s : State) : exec .tableWriteVlanQuarter s = s.batchStep 7 s.opVlan := rfl

end Sys2Proof.Machine

open Sys2Proof Sys2Proof.Machine

/-- Settles O38, from one rule for each queue that a command serves and one for a batch's next operation. That the cycles a lookup waited are
a free value is the model's choice (log 146). -/
theorem tablesAndLookup : Obligations.TablesAndLookup := by
  unfold Obligations.TablesAndLookup
  refine ⟨?lookup, ?noFrame, ?learn, ?overrun, ?scan, ?repair, ?insert, ?delete, ?modify, ?addPrefix, ?deletePrefix, ?nextHop, ?vlan⟩
  case lookup => exact fun s k x r h hb => exec_frameLookup_sound h hb
  case noFrame => exact fun s k u h => exec_frameLookup_idle u h
  case learn => exact fun s q r h => exec_learnApply_request false h
  case overrun => exact fun s q r h => exec_learnApply_request true h
  case scan => exact fun s => rfl
  case repair => exact fun s o => rfl
  case insert => exact fun s v h => by rw [exec_tableInsertExact, State.batchStep_some _ h]
  case delete => exact fun s v h => by rw [exec_tableDeleteExact, State.batchStep_some _ h]
  case modify => exact fun s v h => by rw [exec_tableModifyResult, State.batchStep_some _ h]
  case addPrefix => exact fun s v h => by rw [exec_tableAddPrefix, State.batchStep_some _ h]
  case deletePrefix => exact fun s v h => by rw [exec_tableDeletePrefix, State.batchStep_some _ h]
  case nextHop => exact fun s v h => by rw [exec_tableWriteNextHop, State.batchStep_some _ h]
  case vlan => exact fun s v h => by rw [exec_tableWriteVlanQuarter, State.batchStep_some _ h]

end

section
/-!
PROOFS. SCHED_CMD's commands accepted (R209 to R211), and what the schedule does at its own instants (R212 to R216, R219).
-/

namespace Sys2Proof.Machine

/-! ### SCHED_CMD -/

theorem objRow_schedCmd : objRow 0x21F1 1 = some (commandRow 0x21F1) := by decide +kernel

/-- The word `v` spells a command of SCHED_CMD with its tag, and its reserved bits are 0 (R210). -/
def SchedWord (v cmd tag : Nat) : Prop := bits v 31 24 = cmd ∧ bits v 23 16 = 0 ∧ bits v 15 0 = tag

theorem schedWord_of_lt {cmd tag : Nat} (hc : cmd < 256) (ht : tag < 65536) : SchedWord (cmd * 2 ^ 24 + tag) cmd tag := by
  simp only [SchedWord, bits, Nat.reducePow, Nat.reduceSub, Nat.reduceAdd]
  omega

/-- A command that Ductus accepts is served with OK. -/
theorem WriteAdmitted.next_schedWrite {s a u : State} {r : Req} {cmd : Nat} {arg : BitVec 24}
    (h : WriteAdmitted s r 0x21F1 1 (cmd * 2 ^ 24 + arg.toNat) a) (hc : cmd < 256) (ht : arg.toNat < 65536)
    (hact : ∀ v, SchedWord v cmd arg.toNat → schedCommand a v = .ok u) :
    (.next (schedWrite s r cmd arg) : Out) = .next (writeOk u r 0x21F1 1 (cmd * 2 ^ 24 + arg.toNat)) := by
  have hword : command32 cmd arg.toNat = cmd * 2 ^ 24 + arg.toNat := congrArg _ (Nat.mod_eq_of_lt arg.isLt)
  rw [schedWrite, hword, h.serveCommand objRow_schedCmd (by omega) (hact _ (schedWord_of_lt hc ht))]

section
variable {a : State} {v tag : Nat}

theorem schedCommand_beginLoad (hw : SchedWord v 1 tag) (hi : a.mem.ink ≠ 0) (hd : a.ductus.armed = false) : schedCommand a v =
    .ok (((a.modDuctus (fun d => { d with shadow := [], shadowValid := false, bootJoin := false, validating := false })).modCodex (fun c =>
      { c with loads := c.loads.put {} 0x21F2 { active := true } })).modDuctus (fun d => { d with lastTag := tag })) := by
  obtain ⟨hcmd, hz, rfl⟩ := hw
  simpa [schedCommand, hcmd, hz, hd] using hi

theorem schedCommand_validate (hw : SchedWord v 2 tag) (hi : a.mem.ink ≠ 0) (hd : a.ductus.armed = false) : schedCommand a v =
    .ok (a.modDuctus (fun d => { d with validating := true, lastTag := tag })) := by
  obtain ⟨hcmd, hz, rfl⟩ := hw
  simpa [schedCommand, hcmd, hz, hd, State.modDuctus] using hi

/-- A valid shadow image is armed for a SWAP_AT that qualifies (R211). -/
theorem schedCommand_arm (hw : SchedWord v 3 tag) (hi : a.mem.ink ≠ 0) (hv : a.ductus.shadowValid = true) (hd : a.ductus.armed = false)
    (hset : a.timeSet = true) (hat : a.swapAtOk (a.param 0x21F3 1) = true) : schedCommand a v =
      .ok ((a.modDuctus (fun d => { d with armed := true, armedAt := a.param 0x21F3 1, check := none, lastTag := tag })).sendSched 1 0
        a.ductus.shadowId (a.param 0x21F3 1)) := by
  obtain ⟨hcmd, hz, rfl⟩ := hw
  simpa [schedCommand, hcmd, hz, hv, hd, hset, hat, State.modDuctus, DuctusSt.shadowId] using hi

theorem schedCommand_disarm (hw : SchedWord v 4 tag) (hd : a.ductus.armed = true) : schedCommand a v =
    .ok (a.modDuctus (fun d => { d with armed := false, check := none, lastTag := tag })) := by
  obtain ⟨hcmd, hz, rfl⟩ := hw
  simp [schedCommand, hcmd, hz, hd, State.modDuctus]

/-- Deactivation is noted with the cell time of the write, and takes effect at the next one (R210). -/
theorem schedCommand_deactivate (hw : SchedWord v 5 tag) : schedCommand a v =
    .ok (a.modDuctus (fun d => { d with lastTag := tag, deactivating := some a.cellNow })) := by
  obtain ⟨hcmd, hz, rfl⟩ := hw
  simp [schedCommand, hcmd, hz, State.modDuctus]

theorem schedCommand_loadBoot (hw : SchedWord v 6 tag) (hi : a.mem.ink ≠ 0) (hd : a.ductus.armed = false)
    (hp : (dataPayload a.flash 7).isSome = true) :
    schedCommand a v = .ok (a.loadBootSchedule.modDuctus (fun d => { d with lastTag := tag })) := by
  obtain ⟨hcmd, hz, rfl⟩ := hw
  have hn : dataPayload a.flash 7 ≠ none := Option.isSome_iff_ne_none.1 hp
  simpa [schedCommand, hcmd, hz, hd, hn] using hi

theorem schedCommand_storeBoot (hw : SchedWord v 7 tag) (hv : a.ductus.shadowValid = true) : schedCommand a v =
    .ok ((a.storeData 7 a.ductus.shadow).modDuctus (fun d => { d with lastTag := tag })) := by
  obtain ⟨hcmd, hz, rfl⟩ := hw
  simp [schedCommand, hcmd, hz, hv]

end

/-! ### A swap -/

/-- The check at step 3 is made once, within the last 100 µs before T (R212). -/
theorem exec_swapReadinessCheck_due {s : State} (hd : s.ductus.armed = true) (hn : s.ductus.check = none)
    (hb : s.cellNow < s.ductus.armedAt) (h100 : s.ductus.armedAt * 1024 ≤ s.instant100 + 10 ^ 7) :
    exec .swapReadinessCheck s = .next (s.modDuctus (fun d => { d with check := some s.readiness })) := by
  change execSwapReadinessCheck s = _
  exact if_pos (by simp only [hd, hn, hb, h100, Option.isNone_none, decide_true, Bool.and_self])

/-- At T the banks exchange where the check has passed and readiness still holds; otherwise the swap is missed, for the cause that the check
found, or else for the one that stands now (R212, R213). -/
theorem exec_schedSwap_due {s : State} {c : Nat} (hc : s.ductus.check = some c) (hd : s.ductus.armed = true)
    (hT : s.ductus.armedAt ≤ s.cellNow) (hn : s.ductus.deactivating = none) : exec .schedSwap s =
      .next (if c = 0 ∧ s.readiness = 0 then ((s.activate true s.ductus.armedAt).ductusFlag 0).countDuctus 1
        else s.missSwap (if c ≠ 0 then c else s.readiness)) := by
  change execSchedSwap s = _
  simp [execSchedSwap, hc, hd, hT, hn, apply_ite Host.Outcome.next]

/-! ### Joins and losses of synchronisation -/

/-- A module that has a join image joins where time holds, the image starts a cycle at this cell time and the lead has passed (R214). -/
theorem exec_schedJoin_ready {s : State} {img : List Byte} {ex : Bool} {t : Nat} (hl : s.param 0x21F0 2 ≠ 0) (hst : s.ductus.state ≠ 1)
    (hn : s.ductus.deactivating = none) (hj : s.joinImage = some (ex, img)) (hs : s.ductus.settled = some t) (hset : s.timeSet = true)
    (htol : s.inTolerance = true) (ho : imgOffset img s.cellNow = some 0) (hlead : s.leadPassed t = true) :
    exec .schedJoin s = .next ((((s.activate ex s.cellNow).ductusFlag 0).ductusFlag 3).countDuctus 3) := by
  change execSchedJoin s = _
  simp [execSchedJoin, hl, hst, hn, hj, hs, hset, htol, ho, hlead]

/-- Loss of TIME while ACTIVE suspends the schedule (R215). -/
theorem exec_syncLoss_unset {s t : State} (hst : s.ductus.state = 1) (hset : s.timeSet = false)
    (ht : t = ((s.ductusState 2).ductusFlag 2).countDuctus 4) : exec .syncLoss s =
      .next ((t.sendSched 3 4 t.ductus.activeId (t.param 0x21F3 1)).modDuctus (fun d => { d with lostSync := true })) := by
  subst ht
  change execSyncLoss s = _
  exact if_pos (by simp [hst, hset])

/-! ### The refresh of the buckets -/

/-- At a cell time whose number is a multiple of 1,024 every bucket is refreshed, once in it (R219). -/
theorem State.refreshDue_due {s : State} (hm : s.cellNow % 1024 = 0) (hr : s.ductus.refreshedAt ≠ some s.cellNow) :
    s.refreshDue = s.refreshBuckets.modDuctus (fun d => { d with refreshedAt := some s.cellNow }) :=
  if_pos (by simp [hm, hr])

theorem State.refreshDue_notDue {s : State} (h : s.cellNow % 1024 ≠ 0 ∨ s.ductus.refreshedAt = some s.cellNow) : s.refreshDue = s :=
  if_neg (by simpa [or_iff_not_imp_left] using h)

end Sys2Proof.Machine

open Sys2Proof Sys2Proof.Machine

/-- Settles O33, from one rule for each command of SCHED_CMD and what serving an admitted write answers. -/
theorem scheduleCommandsAccepted : Obligations.ScheduleCommandsAccepted := by
  unfold Obligations.ScheduleCommandsAccepted
  refine ⟨?beginLoad, ?validate, ?validated, ?arm, ?disarm, ?deactivate, ?loadBoot, ?storeBoot⟩
  case beginLoad =>
    intro s a r arg h ht hi hd
    rw [← one_mul (2 ^ 24)] at h ⊢
    exact h.next_schedWrite (by decide) ht (fun _ hw => schedCommand_beginLoad hw hi hd)
  case validate => exact fun s a r arg h ht hi hd => h.next_schedWrite (by decide) ht (fun _ hw => schedCommand_validate hw hi hd)
  case validated => exact fun s h => congrArg Host.Outcome.next (if_pos h)
  case arm =>
    exact fun s a r arg h ht hi hv hd hset hat => h.next_schedWrite (by decide) ht (fun _ hw => schedCommand_arm hw hi hv hd hset hat)
  case disarm => exact fun s a r arg h ht hd => h.next_schedWrite (by decide) ht (fun _ hw => schedCommand_disarm hw hd)
  case deactivate => exact fun s a r arg h ht => h.next_schedWrite (by decide) ht (fun _ hw => schedCommand_deactivate hw)
  case loadBoot =>
    exact fun s a r arg h ht hi hd hp => h.next_schedWrite (by decide) ht (fun _ hw => schedCommand_loadBoot hw hi hd hp)
  case storeBoot => exact fun s a r arg h ht hv => h.next_schedWrite (by decide) ht (fun _ hw => schedCommand_storeBoot hw hv)

/-- Settles O40, from one rule for each command's branch. -/
theorem scheduleInstants : Obligations.ScheduleInstants := by
  unfold Obligations.ScheduleInstants
  refine ⟨?check, ?swap, ?failedCheck, ?failedSince, ?join, ?loss, ?again, ?refresh, ?noRefresh⟩
  case check => exact fun s hd hn hb h100 => exec_swapReadinessCheck_due hd hn hb h100
  case swap =>
    intro s hc hready hd hT hn
    rw [exec_schedSwap_due hc hd hT hn, if_pos ⟨rfl, hready⟩]
  case failedCheck =>
    intro s c hc h0 hd hT hn
    rw [exec_schedSwap_due hc hd hT hn, if_neg (fun h => h0 h.1), if_pos h0]
  case failedSince =>
    intro s hc hready hd hT hn
    rw [exec_schedSwap_due hc hd hT hn, if_neg (fun h => hready h.2), if_neg (not_not.2 rfl)]
  case join => exact fun s img ex t hl hst hn hj hs hset htol ho hlead => exec_schedJoin_ready hl hst hn hj hs hset htol ho hlead
  case loss => exact fun s hst hset => exec_syncLoss_unset hst hset rfl
  case again => exact fun s h => if_pos h
  case refresh => exact fun s hm hr => congrArg Host.Outcome.next (State.refreshDue_due hm hr)
  case noRefresh => exact fun s h => congrArg Host.Outcome.next (State.refreshDue_notDue h)

end

section
/-!
PROOFS. Frames into a Nib, passes of its array, and the chunks they complete (R241 to R244, R285 to R289); invocations, waits, completions and
samples of its contexts (R254 to R274).
-/

namespace Sys2Proof.Machine

theorem State.nibEcc_good (s : State) (n : Nat) : s.nibEcc n .good = s := rfl

theorem State.inkEcc_good (s : State) (x : InkItem) (n : Nat) : s.inkEcc .good x n = s := rfl

/-! ### Frames and chunks -/

/-- Outside a window a Nib takes its oldest frame; where the read of the chunk's rows is good, no chunk fails for it (R285, R289). -/
theorem exec_nibFrameIntake_good {s : State} {n : Fin 32} {f : Stored} {r : List Stored} (hf : s.core.intake.get [] (128 + n.val) = f :: r)
    (hw : (s.nib n).window = false) : exec (.nibFrameIntake n .good) s =
      .next ((s.modCore (fun c => { c with intake := c.intake.put [] (128 + n.val) r })).intakeFrame n f) := by
  change execNibFrameIntake n .good s = _
  simp only [execNibFrameIntake, hf, hw, State.nibEcc_good, Bool.false_eq_true, if_false]
  split <;> rfl

theorem exec_chunkDoneAdmit_admitted {s : State} {r : Nat} {o : Fin 4194304} (hr : (s.rangeOf (threadNo r o)).isSome = true)
    (ht : (s.thread (threadNo r o)).state = .emitting) (hw : (s.thread (threadNo r o)).waiting = 0)
    (hd : (s.thread (threadNo r o)).doneSent = true) : exec (.chunkDoneAdmit r o) s = .next (s.finishChunk (threadNo r o)) := by
  change execChunkDoneAdmit r o s = _
  exact if_pos (by simp [hr, ht, hw, hd])

theorem exec_chunkTimeout_reached {s : State} {r : Nat} {o : Fin 4194304} (ht : (s.thread (threadNo r o)).state = .opened)
    (hw : (s.nib (s.nibOfThread (threadNo r o))).window = false)
    (hl : s.limitReached (s.nibOfThread (threadNo r o))
      (((s.rangeOf (threadNo r o)).map (fun r => recTimeout (s.slot (jobSlot r.job)).record.coll)).getD 0)
      (s.thread (threadNo r o)).opened (s.thread (threadNo r o)).base = true) :
    exec (.chunkTimeout r o) s = .next (s.failChunk (threadNo r o) 1 0) := by
  change execChunkTimeout r o s = _
  exact if_pos (by simp [ht, hw, hl])

/-! ### Passes -/

theorem exec_passStart_startable {s : State} {n : Fin 32} {b : List PassReq} (h : s.startable n = some b) :
    exec (.passStart n) s = .next (s.runBatch n b) := by
  change execPassStart n s = _
  simp only [execPassStart, h]

theorem exec_passComplete_good {s : State} {n : Fin 32} {p : PassReq} (h : (s.nib n).leaving = some p) :
    exec (.passComplete n .good) s = .next (s.passDone n p) := by
  change execPassComplete n .good s = _
  simp only [execPassComplete, h, State.nibEcc_good]
  rfl

/-- The oldest thin request is marked expired, and then the batch that the array and its weights allow runs (R243, R244). -/
theorem exec_batchTimeout_startable {s u : State} {n : Fin 32} {p : PassReq} {b : List PassReq}
    (hp : (s.nib n).passes.find? (fun p => !p.started && p.thin) = some p)
    (hu : u = s.updNib n (fun x => { x with passes := x.passes.map (fun q => if q = p then { q with expired := true } else q) }))
    (hb : u.startable n = some b) : exec (.batchTimeout n) s = .next (u.runBatch n b) := by
  subst hu
  change execBatchTimeout n s = _
  simp only [execBatchTimeout, hp, hb]

/-! ### Invocations -/

/-- A chunk-thread that has not invoked its program does so once; where no check fails, the invocation joins the Nib's queue with the limits
that stand now (R254, R269). -/
theorem exec_programInvoke_checked {s u : State} {r : Nat} {o : Fin 4194304} {x : Range} (hx : s.rangeOf (threadNo r o) = some x)
    (hp : x.isProgram = true) (hi : (s.thread (threadNo r o)).invoked = false) (ht : (s.thread (threadNo r o)).state = .reserved)
    (ho : o.val < x.count) (hu : u = s.updThread (threadNo r o) (fun t => { t with invoked := true })) (hc : u.invokeCheck x = none) :
    exec (.programInvoke r o) s = .next (u.updNib (x.nibOf o) (fun y =>
      { y with waiting := y.waiting ++ [{ thread := threadNo r o, program := x.program, arrived := s.now
                                          base := (u.nib (u.nibOfThread (threadNo r o))).windowTime s.now, scratchMax := s.param 0x2301 1
                                          stepLimit := s.param 0x2301 3 }] })) := by
  subst hu
  have hmay : (!x.isProgram || (s.thread (threadNo r o)).invoked || decide ((s.thread (threadNo r o)).state ≠ .reserved) ||
      decide (x.count ≤ o.val)) = false := by simp [hp, hi, ht, ho]
  change execProgramInvoke r o s = _
  simp only [execProgramInvoke, hx, hmay, hc]
  rfl

/-- The program at the head of the queue, installed and not yet resident, is fetched (R261); a good read uninstalls nothing (R329). -/
theorem exec_programFetch_good {s u : State} {n : Fin 32} {x : Invocation} {r : List Invocation} (hx : (s.nib n).waiting = x :: r)
    (hres : (s.nib n).resident x.program = false) (hlib : (s.program x.program).isSome = true)
    (hu : s.fetchProgram n x.program 70 = some u) : exec (.programFetch n .good) s = .next u := by
  have hmay : ((s.nib n).resident x.program || (s.program x.program).isNone) = false := by
    simp [hres, Option.isNone_eq_false_iff.2 hlib]
  change execProgramFetch n .good s = _
  simp only [execProgramFetch, hx, hmay, State.inkEcc_good, hu]
  rfl

/-! ### Limits of waits -/

theorem exec_waitLimitExpiry_swait {s : State} {n : Fin 32} {c : Fin 64} {k : Ctx} {x : SwaitSt} (hw : (s.nib n).window = false)
    (hk : s.ctx n c = some k) (hx : k.swait = some x) (hl : s.limitReached n (s.param 0x2301 2) x.issued x.base = true) :
    exec (.waitLimitExpiry n (.context c)) s = .next (s.progFault n c 35) := by
  change execWaitLimitExpiry n (.context c) s = _
  simp only [execWaitLimitExpiry, hw, hk, hx, hl]
  rfl

/-- The fault of a RECV shows the PC that the RECV was issued at (R269). -/
theorem exec_waitLimitExpiry_recv {s : State} {n : Fin 32} {c : Fin 64} {k : Ctx} {a : Async} (hw : (s.nib n).window = false)
    (hk : s.ctx n c = some k) (hx : k.swait = none) (ha : k.async.find? (fun a => a.op = .recv) = some a)
    (hl : s.limitReached n (s.param 0x2301 2) a.issued a.base = true) :
    exec (.waitLimitExpiry n (.context c)) s = .next ((s.updCtx n c (fun y => { y with pc := a.pc })).progFault n c 35) := by
  change execWaitLimitExpiry n (.context c) s = _
  simp only [execWaitLimitExpiry, hw, hk, hx, ha, hl]
  rfl

/-- An invocation that reaches its limit while every context is taken fails with code 21 (R269). -/
theorem exec_waitLimitExpiry_noContext {s : State} {n : Fin 32} {r : Nat} {o : Fin 4194304} {i : Invocation}
    (hw : (s.nib n).window = false) (hi : (s.nib n).waiting.find? (fun i => i.thread = threadNo r o) = some i)
    (hl : s.limitReached n (s.param 0x2301 2) i.arrived i.base = true) (hc : ∀ c, c < 64 → (s.ctx n c).isSome = true) :
    exec (.waitLimitExpiry n (.invocation r o)) s = .next ((s.updNib n (fun x =>
      { x with waiting := x.waiting.filter (fun j => j.thread ≠ threadNo r o) })).invokeFails n (threadNo r o) i.program 21) := by
  have hnone : (List.range 64).all (fun c => ((s.nib n).ctxs.get none c).isSome) = true :=
    List.all_eq_true.2 (fun c hmem => hc c (List.mem_range.1 hmem))
  change execWaitLimitExpiry n (.invocation r o) s = _
  simp only [execWaitLimitExpiry, hw, hi, hl, hnone]
  rfl

/-! ### Completions -/

theorem exec_recvComplete_waiting {s : State} {n : Fin 32} {c : Fin 64} {k : Ctx} {a : Async} (hk : s.ctx n c = some k)
    (ha : k.async.find? (fun a => a.op = .recv) = some a) :
    exec (.recvComplete n c) s = .next (((s.recvDone n c a).endHalt n c).endFault n c) := by
  change execRecvComplete n c s = _
  simp only [execRecvComplete, hk, ha]

/-- A COPY, an ACC, a ROUND, or an EMIT with no frame left to admit is dropped from its context (R266). -/
theorem exec_asyncInstrComplete_done {s : State} {n : Fin 32} {c : Fin 64} {k : Ctx} {a : Async} {q : Nat} (hk : s.ctx n c = some k)
    (ha : k.async.find? (fun a => a.seq = q) = some a)
    (hop : a.op = .copy ∨ a.op = .acc ∨ a.op = .round ∨ (a.op = .emit ∧ a.frames = 0)) : exec (.asyncInstrComplete n c q) s =
      .next (((s.updCtx n c (fun y => { y with async := y.async.filter (fun b => b.seq ≠ q) })).endHalt n c).endFault n c) := by
  have hdone : (decide (a.op = .recv) || decide (a.op = .pass) || (decide (a.op = .emit) && decide (a.frames ≠ 0))) = false := by
    rcases hop with h | h | h | ⟨h, h0⟩ <;> simp [*]
  change execAsyncInstrComplete n c q s = _
  simp only [execAsyncInstrComplete, hk, ha, hdone]
  rfl

theorem exec_swaitMet_met {s : State} {n : Fin 32} {c : Fin 64} {k : Ctx} {x : SwaitSt} (hk : s.ctx n c = some k) (hx : k.swait = some x)
    (hm : x.met = true) (hw : (s.nib n).window = false) : exec (.swaitMet n c) s =
      .next ((s.goNext n c (fun y => { y with swait := none })).sampleEvent n c k.pc 7 ((s.now - x.issued) / 640)) := by
  change execSwaitMet n c s = _
  simp only [execSwaitMet, hk, hx, hm, hw]
  rfl

/-! ### Samples -/

theorem exec_skiddingSample_idle {s : State} {n : Fin 32} (k : Fin 17) (h : s.folio.skidding.get 0 n = 0) :
    exec (.skiddingSample n k) s = .next s := by
  change execSkiddingSample n k s = _
  exact if_pos h

/-- The record of the instruction issued since the trigger is stored with the skid in its byte 22 (R274). -/
theorem exec_skiddingSample_issued {s : State} {n : Fin 32} (k : Fin 17) {r : List Byte} (ht : s.folio.skidding.get 0 n ≠ 0)
    (hr : (s.nib n).lastIssue = some r) : exec (.skiddingSample n k) s =
      .next (((s.storeSample n (r.take 22 ++ leBytes 1 k ++ r.drop 23)).modFolio (fun f =>
        { f with skidding := f.skidding.put 0 n 0 })).updNib n (fun x => { x with lastIssue := none })) := by
  change execSkiddingSample n k s = _
  simp only [execSkiddingSample, ht, hr, if_false]

end Sys2Proof.Machine

open Sys2Proof Sys2Proof.Machine

/-- Settles O43, from one rule for each command's branch. -/
theorem nibWork : Obligations.NibWork := by
  unfold Obligations.NibWork
  refine ⟨?intake, ?doneAdmit, ?timeout, ?passStart, ?passComplete, ?batchTimeout, ?invoke, ?contextStart, ?fetch, ?swaitLimit, ?recvLimit,
    ?invocationLimit, ?recv, ?async, ?swaitMet, ?noTrigger, ?sample⟩
  case intake => exact fun s n f r hf hw => exec_nibFrameIntake_good hf hw
  case doneAdmit => exact fun s r o hr ht hw hd => exec_chunkDoneAdmit_admitted hr ht hw hd
  case timeout => exact fun s r o ht hw hl => exec_chunkTimeout_reached ht hw hl
  case passStart => exact fun s n b h => exec_passStart_startable h
  case passComplete => exact fun s n p h => exec_passComplete_good h
  case batchTimeout => exact fun s u n p b hp hu hb => exec_batchTimeout_startable hp hu hb
  case invoke => exact fun s u r o x hx hp hi ht ho hu hc => exec_programInvoke_checked hx hp hi ht ho hu hc
  case contextStart => exact fun s n => rfl
  case fetch => exact fun s u n x r hx hres hlib hu => exec_programFetch_good hx hres hlib hu
  case swaitLimit => exact fun s n c k x hw hk hx hl => exec_waitLimitExpiry_swait hw hk hx hl
  case recvLimit => exact fun s n c k a hw hk hx ha hl => exec_waitLimitExpiry_recv hw hk hx ha hl
  case invocationLimit => exact fun s n r o i hw hi hl hc => exec_waitLimitExpiry_noContext hw hi hl hc
  case recv => exact fun s n c k a hk ha => exec_recvComplete_waiting hk ha
  case async => exact fun s n c k a q hk ha hop => exec_asyncInstrComplete_done hk ha hop
  case swaitMet => exact fun s n c k x hk hx hm hw => exec_swaitMet_met hk hx hm hw
  case noTrigger => exact fun s n k h => exec_skiddingSample_idle k h
  case sample => exact fun s n k r ht hr => exec_skiddingSample_issued k ht hr

end

section
/-!
PROOFS. What holds of every command and of a run: each command answers a next state, keeps the queue, the outputs and the
well-formedness, so a step does, and no run stops.
-/

namespace Sys2Proof.Machine

/-! ### Every command answers a next state -/

/-- The outcome is a next state. -/
def Completes (o : Out) : Prop := ∃ t, o = .next t

theorem Completes.next (s : State) : Completes (.next s) := ⟨s, rfl⟩

theorem Completes.ite {c : Prop} [Decidable c] {a b : Out} (ha : Completes a) (hb : Completes b) : Completes (if c then a else b) :=
  ite_of Completes ha hb

/-! ### Commands with a test under a match, or the other way round -/

theorem execSensorWarning_completes (x : Sensor) (up : Bool) (s : State) : Completes (execSensorWarning x up s) := by
  refine .ite (.next _) (.ite ?down ?up)
  case down => cases x <;> exact .next _
  case up => cases x <;> exact .next _

theorem execSensorThrottle_completes (x : Sensor) (up : Bool) (s : State) : Completes (execSensorThrottle x up s) := by
  refine .ite (.next _) (.ite (.next _) ?_)
  cases sensorCause x with
  | none => exact .next _
  | some c => exact .ite (.next _) (.next _)

theorem execPilotWordReceive_completes (f : Fin 64) (w : Fin 17) (word : BitVec 16) (s : State) :
    Completes (execPilotWordReceive f w word s) := by
  unfold execPilotWordReceive
  extract_lets y
  cases y.state with
  | lock =>
    refine .ite (.next _) ?_
    cases pilotIndex word with
    | none => exact .next _
    | some i => exact .ite (.next _) (.ite (.next _) (.next _))
  | inn =>
    cases pilotIndex word with
    | none => exact .next _
    | some i => exact .ite (.next _) (.ite (.next _) (.next _))
  | _ => exact .next _

theorem execChangeoverNoticeSend_completes (e : Fin 16) (s : State) : Completes (execChangeoverNoticeSend e s) := by
  unfold execChangeoverNoticeSend
  cases (s.engine e).change with
  | none => exact .next _
  | some c =>
    dsimp only
    cases c.t with
    | none => exact .next _
    | some t => exact .ite (.next _) (.next _)

theorem execChangeoverWindowOpen_completes (e : Fin 16) (s : State) : Completes (execChangeoverWindowOpen e s) := by
  unfold execChangeoverWindowOpen
  cases (s.engine e).change with
  | none => exact .next _
  | some c =>
    dsimp only
    cases c.t with
    | none => exact .next _
    | some t => exact .ite (.next _) (.next _)

theorem execHatchRouteDone_completes (found : List (List (Nat × Nat × Nat))) (s : State) : Completes (execHatchRouteDone found s) := by
  unfold execHatchRouteDone
  cases s.hatch.commit with
  | none => exact .next _
  | some c =>
    refine .ite (.next _) (.ite (.next _) ?_)
    cases s.hatch.bestRoute c ((found.map (searchRoute s.hatch (connsAfter s.hatch c))).filter
        (s.hatch.routeOk c (connsAfter s.hatch c))) with
    | none => exact .next _
    | some r => exact .next _

theorem execCircuitNoticeSend_completes (s : State) : Completes (execCircuitNoticeSend s) := by
  unfold execCircuitNoticeSend
  cases s.hatch.commit with
  | none => exact .next _
  | some c =>
    dsimp only
    cases c.t with
    | none => exact .next _
    | some t => exact .ite (.next _) (.next _)

theorem execHatchApply_completes (s : State) : Completes (execHatchApply s) := by
  unfold execHatchApply
  cases s.hatch.commit with
  | none => exact .next _
  | some c =>
    dsimp only
    cases c.t with
    | none => exact .next _
    | some t => exact .ite (.next _) (.next _)

theorem execNibFrameIntake_completes (n : Fin 32) (ecc : Ecc) (s : State) : Completes (execNibFrameIntake n ecc s) := by
  unfold execNibFrameIntake
  cases s.core.intake.get [] (128 + n.val) with
  | nil => exact .next _
  | cons f rest =>
    refine .ite (.next _) ?_
    extract_lets u v
    cases v.intakeThread f with
    | none => exact .next _
    | some th => exact .ite (.next _) (.next _)

theorem execBatchTimeout_completes (n : Fin 32) (s : State) : Completes (execBatchTimeout n s) := by
  unfold execBatchTimeout
  cases (s.nib n).passes.find? (fun p => !p.started && p.thin) with
  | none => exact .next _
  | some p =>
    dsimp only
    cases (s.updNib n (fun x =>
      { x with passes := x.passes.map (fun q => if q = p then { q with expired := true } else q) })).startable n with
    | none => exact .next _
    | some b => exact .next _

theorem execProgramInvoke_completes (range : Nat) (ordinal : Fin 4194304) (s : State) : Completes (execProgramInvoke range ordinal s) := by
  unfold execProgramInvoke
  extract_lets th
  cases s.rangeOf th with
  | none => exact .next _
  | some r =>
    refine .ite (.next _) ?_
    dsimp only
    cases (s.updThread th (fun t => { t with invoked := true })).invokeCheck r with
    | none => exact .next _
    | some c => exact .next _

theorem execProgramFetch_completes (n : Fin 32) (ecc : Ecc) (s : State) : Completes (execProgramFetch n ecc s) := by
  unfold execProgramFetch
  cases (s.nib n).waiting with
  | nil => exact .next _
  | cons i r =>
    refine .ite (.next _) (.ite (.next _) ?_)
    cases (s.inkEcc ecc (.program i.program) n).fetchProgram n i.program 70 with
    | none => exact .next _
    | some u => exact .next _

theorem execWaitLimitExpiry_completes (n : Fin 32) (what : NibWait) (s : State) : Completes (execWaitLimitExpiry n what s) := by
  refine .ite (.next _) ?_
  cases what with
  | invocation range ordinal =>
    dsimp only
    cases (s.nib n).waiting.find? (fun i => i.thread = threadNo range ordinal) with
    | none => exact .next _
    | some i => exact .ite (.next _) (.next _)
  | context c =>
    dsimp only
    cases s.ctx n c with
    | none => exact .next _
    | some k =>
      dsimp only
      cases k.swait with
      | some x => exact .ite (.next _) (.next _)
      | none =>
        dsimp only
        cases k.async.find? (fun a => a.op = .recv) with
        | none => exact .next _
        | some a => exact .ite (.next _) (.next _)

theorem execRecvComplete_completes (n : Fin 32) (c : Fin 64) (s : State) : Completes (execRecvComplete n c s) := by
  unfold execRecvComplete
  cases s.ctx n c with
  | none => exact .next _
  | some k =>
    dsimp only
    cases k.async.find? (fun a => a.op = .recv) with
    | none => exact .next _
    | some a => exact .next _

theorem execAsyncInstrComplete_completes (n : Fin 32) (c : Fin 64) (seq : Nat) (s : State) :
    Completes (execAsyncInstrComplete n c seq s) := by
  unfold execAsyncInstrComplete
  cases s.ctx n c with
  | none => exact .next _
  | some k =>
    dsimp only
    cases k.async.find? (fun a => a.seq = seq) with
    | none => exact .next _
    | some a => exact .ite (.next _) (.next _)

theorem execSwaitMet_completes (n : Fin 32) (c : Fin 64) (s : State) : Completes (execSwaitMet n c s) := by
  unfold execSwaitMet
  cases s.ctx n c with
  | none => exact .next _
  | some k =>
    dsimp only
    cases k.swait with
    | none => exact .next _
    | some x => exact .ite (.next _) (.next _)

theorem execSkiddingSample_completes (n : Fin 32) (skid : Fin 17) (s : State) : Completes (execSkiddingSample n skid s) := by
  refine .ite (.next _) ?_
  dsimp only
  cases (s.nib n).lastIssue with
  | some r => exact .next _
  | none =>
    dsimp only
    cases s.oldestWaiting n with
    | none => exact .next _
    | some x => exact .next _

theorem execHomeRetryResend_completes (id : Fin 65536) (s : State) : Completes (execHomeRetryResend id s) := by
  unfold execHomeRetryResend
  cases s.lig.partOf id with
  | none => exact .next _
  | some x =>
    dsimp only
    cases x.2.retryAt with
    | none => exact .next _
    | some t => exact .ite (.next _) (.next _)

theorem execPoolAccessDone_completes (no : Nat) (inks : List (Nat × Bool × Ecc)) (ecc : Ecc) (s : State) :
    Completes (execPoolAccessDone no inks ecc s) := by
  unfold execPoolAccessDone
  cases s.lig.accs.find? (fun a => a.no = no && a.issued && a.home.isNone) with
  | none => exact .next _
  | some a =>
    refine .ite (.next _) ?_
    extract_lets u
    cases u.lig.accs.find? (fun a => a.no = no) with
    | none => exact .next _
    | some b => exact .next _

theorem execPatrolRead_completes (x : PatrolLine) (ecc : Ecc) (s : State) : Completes (execPatrolRead x ecc s) := by
  cases x with
  | lpddr line =>
    refine .ite (.next _) ?_
    cases if (s.countLpd (64 * line) 5 1).mem.poisoned.get false line then Ecc.uncorrected else ecc <;> exact .next _
  | inkwell a item => exact .ite (.next _) (.ite (.next _) (.next _))

theorem execPpsInEdge_completes (width : Nat) (s : State) : Completes (execPpsInEdge width s) := by
  refine .ite (.next _) (.ite (.next _) ?_)
  cases s.time.ppsTod with
  | none => exact .next _
  | some x => exact .ite (.next _) (.ite (.next _) (.next _))

/-- Of the management frames that pass the checks, three EtherTypes are served and the rest ignored (R345). -/
theorem execMgmtFrameReceive_completes (bytes : List Byte) (queueFull : Bool) (s : State) :
    Completes (execMgmtFrameReceive bytes queueFull s) := by
  refine .ite (.next _) (.ite (.next _) ?_)
  split
  all_goals exact .next _

/-! The commands stand by what their arm tests before it answers: nothing, one test, tests under tests, and a match with tests under it. -/

theorem exec_completes (c : Instr) (s : State) : Completes (exec c s) := by
  cases c
  case holdupWarnAssert | vinUndervoltage | vinOvervoltage | vinBelow30v | vinAbove40v | inputCurrentLimit | sysclkLoss |
      scribeResetRelease | bankSelect | scribeFirmwareStart | configLoad | sramInitDone | lpddr6Trained | inkwellTrained | quillRelease |
      photonicLoad | combStable | ringsLocked | linksStageEnd | serviceSet | pcieConfigRequest | perstDeassert | perstAssert |
      warmRstAssert | warmRstRelease | warmPufRelease | warmMemoryReady | warmQuillRestart | recoveryBeginLoad | recoveryInstall |
      dataRecordWrite | fibreCfgWrite | helloReceive | laneAddReceive | laneAddConfirmReceive | laneFault | holddownExpiry |
      laneDropReceive | rxLos | trialSubwindowRead | pilotRetryExpiry | spareOff | changeoverAckReceive | changeoverNoticeReceive |
      sourceReinstate | changeoverNow | windowRequest | hatchCommit | hatchClearStaging | hatchCancel | circuitAckReceive |
      controlBlockReceive | controlBlockSend | keepaliveReceive | errorReportReceive | pilotFaultReceive | abortReceive | carryReceive |
      ageScan | checkBitRepair | tableApply | tableClearStaging | planeWithdraw | planeRestore | schedBeginLoad | schedValidate |
      schedValidateDone | schedArm | schedDisarm | schedDeactivate | schedLoadBoot | schedStoreBoot | schedFrameReceive | bucketRefresh |
      shaperCfgWrite | policerCfgWrite | contextStart | halt | jump | bz | bnz | loop | movi | add | sub | mul | shift | ldx | stx |
      recv | emit | nibCopy | acc | round | pass | swait | sadd | ssub | progBeginLoad | progInstall | progUninstall | progPin |
      progUnpin | reduce | program | counts | semOpWait | semOpAdd | semOpSub | semSave | semRestore | memRead | memWrite | memAtomic |
      memResponse | memRetryAfter | poolSizeWrite | descriptorIssue | nop | installProgram | copy | ptpSyncReceive | ptpDelayReqReceive |
      ptpDelayRespReceive | ptpAnnounceReceive | trigArm | trigDisarm | snapArm | snapDisarm | snapHold | snapRelease | histCfgWrite |
      sampleDataRead | dopRead | dopSegRead | dopSegWrite | dopOccurrence | dopDescribe | dopSubscribe | warmResetCommand | sessionOpen |
      sessionAuth | sessionClose | sessionTimeout | mctpPacket | getVersion | getCapabilities | negotiateAlgorithms | getDigests |
      getCertificate | challenge | getMeasurements | debugUnlock | credWrite | tapExtest | tapReset | tamperSensorFire | sealChange |
      chopStartupData | accountFeed | recordBoundary | recordStoreConfirm | intervalMinWrite | calWrite | accountMapWrite | jobPrepare |
      jobTeardown | jobAbort | jobAckReceive | jobShareReceive | jobCommitReceive | jobCancelReceive | jobTeardownReceive |
      jobAbortReceive | blotterDumpNow | blotterSelect | proofTestNow | digestReceive | vinStartThreshold =>
    exact .next _
  case enRise | ilimitTimeout | autoRestart | holdupRestart | vio1v8Overload | sysclkAbsent | railFault | railRetry | sensorTrip |
      marginLightDetect | helloSend | laneAligned | alignTimeout | trainingAttemptTimeout | marginLossTimeout | ringCapture |
      trialStart | pilotTimeout | pilotWordsLost | fadeDropRelease | spareReady | hatchTrimTick | elementFailure | reorderHoldExpiry |
      egressSelect | keepaliveSend | marginResendTimeout | marginLossDetect | errorReportSend | reseqGapTimeout | planeDrained |
      coordTableCommit | swapReadinessCheck | syncLoss | schedActiveRepeat | chunkDoneAdmit | chunkTimeout | progLoadAbandon |
      zeroFillDone | intAck | msixUnmask | mboxGo | pcieLinkDown | heartbeatTick | estimateLoss | sourceUnusable | holdoverExpiry |
      announceReceiptTimeout | ptpSyncSend | ptpAnnounceSend | ptpDelayReqSend | ppsMissing | ppsOutEdge | todOutSend | triggerFire |
      notifySend | subscriptionExpiry | commitDecision | jobGoLive | prepareTimeout | drainEnd | quarantineEnd | unitFault |
      proofPeriodStart | faultHistoryWrite | healthDecay | jobShareSend =>
    exact .ite (.next _) (.next _)
  case enFall | sysclkReturn | railGroupRegulated | soakEnd | berWindowEnd | heaterUpdate | ringUnlock | sourceFailure | vfAssignWrite |
      functionLevelReset | recoverWrite | todInMessage | snapStrobe | lowWordRead | quillMemoryAccess =>
    repeat' refine .ite ?_ ?_
    all_goals exact .next _
  case throttleDemandRise | throttleDemandFall | trialWindowEnd | linePowerSample | changeoverAckTimeout | changeoverWindowEnd |
      spareRouted | hatchDrainEnd | circuitAckTimeout | hatchSettled | hatchCommitDone | darkInput | relayFrameReceive |
      dataFrameReceive | replayTimeout | frameLookup | learnApply | tableInsertExact | tableDeleteExact | tableModifyResult |
      tableAddPrefix | tableDeletePrefix | tableWriteNextHop | tableWriteVlanQuarter | frameAdmit | cellTimeMatch | cellArrive |
      coordCommitApply | schedSwap | schedJoin | passStart | passComplete | rangeRegister | registerTimeout | semWaitMet |
      semWaitTimeout | homeTimeout | sqTailDoorbell | cqHeadDoorbell | ringEnable | ringDisable | claimWindowExpiry | offsetSample |
      sampleDrain | registerWrite | flagClear | scrubRangeDone | blotterDumpEnd | proofResult | digestTimeout | marginFrameDiscard |
      proofWindowOpen | proofWindowEnd =>
    conv => arg 1; whnf
    split
    all_goals repeat' refine .ite ?_ ?_
    all_goals exact .next _
  case sensorWarning => exact execSensorWarning_completes _ _ s
  case sensorThrottle => exact execSensorThrottle_completes _ _ s
  case pilotWordReceive => exact execPilotWordReceive_completes _ _ _ s
  case changeoverNoticeSend => exact execChangeoverNoticeSend_completes _ s
  case changeoverWindowOpen => exact execChangeoverWindowOpen_completes _ s
  case hatchRouteDone => exact execHatchRouteDone_completes _ s
  case circuitNoticeSend => exact execCircuitNoticeSend_completes s
  case hatchApply => exact execHatchApply_completes s
  case nibFrameIntake => exact execNibFrameIntake_completes _ _ s
  case batchTimeout => exact execBatchTimeout_completes _ s
  case programInvoke => exact execProgramInvoke_completes _ _ s
  case programFetch => exact execProgramFetch_completes _ _ s
  case waitLimitExpiry => exact execWaitLimitExpiry_completes _ _ s
  case recvComplete => exact execRecvComplete_completes _ _ s
  case asyncInstrComplete => exact execAsyncInstrComplete_completes _ _ _ s
  case swaitMet => exact execSwaitMet_completes _ _ s
  case skiddingSample => exact execSkiddingSample_completes _ _ s
  case homeRetryResend => exact execHomeRetryResend_completes _ s
  case poolAccessDone => exact execPoolAccessDone_completes _ _ _ s
  case patrolRead => exact execPatrolRead_completes _ _ s
  case ppsInEdge => exact execPpsInEdge_completes _ s
  case mgmtFrameReceive => exact execMgmtFrameReceive_completes _ _ s

/-! ### Every command keeps the queue, the outputs and the well-formedness -/

theorem exec_kept (c : Instr) (s : State) : KeptT s (exec c s) := by
  cases c with
  | enRise => exact execEnRise_kept (.self s)
  | enFall _ => exact execEnFall_kept (.self s)
  | holdupWarnAssert _ => exact execHoldupWarnAssert_kept (.self s)
  | vinUndervoltage => exact execVinUndervoltage_kept (.self s)
  | vinOvervoltage _ => exact execVinOvervoltage_kept (.self s)
  | vinBelow30v => exact execVinBelow30v_kept (.self s)
  | vinAbove40v => exact execVinAbove40v_kept (.self s)
  | inputCurrentLimit => exact execInputCurrentLimit_kept (.self s)
  | ilimitTimeout => exact execIlimitTimeout_kept (.self s)
  | autoRestart => exact execAutoRestart_kept (.self s)
  | holdupRestart => exact execHoldupRestart_kept (.self s)
  | vio1v8Overload => exact execVio1v8Overload_kept (.self s)
  | sysclkLoss => exact execSysclkLoss_kept (.self s)
  | sysclkAbsent => exact execSysclkAbsent_kept (.self s)
  | sysclkReturn => exact execSysclkReturn_kept (.self s)
  | railGroupRegulated => exact execRailGroupRegulated_kept (.self s)
  | railFault => exact execRailFault_kept (.self s)
  | railRetry => exact execRailRetry_kept (.self s)
  | throttleDemandRise _ => exact execThrottleDemandRise_kept (.self s)
  | throttleDemandFall _ => exact execThrottleDemandFall_kept (.self s)
  | sensorWarning _ _ => exact execSensorWarning_kept (.self s)
  | sensorThrottle _ _ => exact execSensorThrottle_kept (.self s)
  | sensorTrip _ => exact execSensorTrip_kept (.self s)
  | scribeResetRelease _ => exact execScribeResetRelease_kept (.self s)
  | bankSelect => exact execBankSelect_kept (.self s)
  | scribeFirmwareStart => exact execScribeFirmwareStart_kept (.self s)
  | configLoad => exact execConfigLoad_kept (.self s)
  | sramInitDone => exact execSramInitDone_kept (.self s)
  | lpddr6Trained _ => exact execLpddr6Trained_kept (.self s)
  | inkwellTrained _ => exact execInkwellTrained_kept (.self s)
  | quillRelease => exact execQuillRelease_kept (.self s)
  | photonicLoad => exact execPhotonicLoad_kept (.self s)
  | combStable => exact execCombStable_kept (.self s)
  | ringsLocked => exact execRingsLocked_kept (.self s)
  | linksStageEnd => exact execLinksStageEnd_kept (.self s)
  | serviceSet => exact execServiceSet_kept (.self s)
  | pcieConfigRequest _ _ _ _ => exact execPcieConfigRequest_kept (.self s)
  | perstDeassert _ => exact execPerstDeassert_kept (.self s)
  | perstAssert _ => exact execPerstAssert_kept (.self s)
  | warmRstAssert => exact execWarmRstAssert_kept (.self s)
  | warmRstRelease => exact execWarmRstRelease_kept (.self s)
  | warmPufRelease => exact execWarmPufRelease_kept (.self s)
  | warmMemoryReady _ _ => exact execWarmMemoryReady_kept (.self s)
  | warmQuillRestart => exact execWarmQuillRestart_kept (.self s)
  | recoveryBeginLoad _ _ => exact execRecoveryBeginLoad_kept (.self s)
  | recoveryInstall _ _ => exact execRecoveryInstall_kept (.self s)
  | dataRecordWrite _ _ => exact execDataRecordWrite_kept (.self s)
  | fibreCfgWrite _ _ _ => exact execFibreCfgWrite_kept (.self s)
  | marginLightDetect _ => exact execMarginLightDetect_kept (.self s)
  | helloSend _ => exact execHelloSend_kept (.self s)
  | helloReceive _ _ => exact execHelloReceive_kept (.self s)
  | laneAligned _ _ => exact execLaneAligned_kept (.self s)
  | alignTimeout _ _ => exact execAlignTimeout_kept (.self s)
  | soakEnd _ _ _ _ => exact execSoakEnd_kept (.self s)
  | laneAddReceive _ _ => exact execLaneAddReceive_kept (.self s)
  | laneAddConfirmReceive _ _ => exact execLaneAddConfirmReceive_kept (.self s)
  | laneFault _ _ _ => exact execLaneFault_kept (.self s)
  | holddownExpiry _ _ => exact execHolddownExpiry_kept (.self s)
  | laneDropReceive _ _ => exact execLaneDropReceive_kept (.self s)
  | trainingAttemptTimeout _ => exact execTrainingAttemptTimeout_kept (.self s)
  | rxLos _ => exact execRxLos_kept (.self s)
  | marginLossTimeout _ => exact execMarginLossTimeout_kept (.self s)
  | berWindowEnd _ _ _ _ _ _ => exact execBerWindowEnd_kept (.self s)
  | heaterUpdate _ _ _ _ => exact execHeaterUpdate_kept (.self s)
  | ringCapture _ _ _ => exact execRingCapture_kept (.self s)
  | ringUnlock _ _ _ => exact execRingUnlock_kept (.self s)
  | trialStart _ _ _ => exact execTrialStart_kept (.self s)
  | trialSubwindowRead _ _ _ => exact execTrialSubwindowRead_kept (.self s)
  | trialWindowEnd _ => exact execTrialWindowEnd_kept (.self s)
  | pilotWordReceive _ _ _ => exact execPilotWordReceive_kept (.self s)
  | pilotTimeout _ _ => exact execPilotTimeout_kept (.self s)
  | pilotRetryExpiry _ _ => exact execPilotRetryExpiry_kept (.self s)
  | pilotWordsLost _ _ => exact execPilotWordsLost_kept (.self s)
  | linePowerSample _ _ _ => exact execLinePowerSample_kept (.self s)
  | fadeDropRelease _ _ => exact execFadeDropRelease_kept (.self s)
  | spareReady _ => exact execSpareReady_kept (.self s)
  | spareOff _ => exact execSpareOff_kept (.self s)
  | changeoverNoticeSend _ => exact execChangeoverNoticeSend_kept (.self s)
  | changeoverAckReceive _ _ => exact execChangeoverAckReceive_kept (.self s)
  | changeoverAckTimeout _ => exact execChangeoverAckTimeout_kept (.self s)
  | changeoverWindowOpen _ => exact execChangeoverWindowOpen_kept (.self s)
  | changeoverWindowEnd _ => exact execChangeoverWindowEnd_kept (.self s)
  | changeoverNoticeReceive _ _ => exact execChangeoverNoticeReceive_kept (.self s)
  | sourceFailure _ _ => exact execSourceFailure_kept (.self s)
  | spareRouted _ => exact execSpareRouted_kept (.self s)
  | sourceReinstate _ _ _ => exact execSourceReinstate_kept (.self s)
  | changeoverNow _ _ _ => exact execChangeoverNow_kept (.self s)
  | windowRequest _ => exact execWindowRequest_kept (.self s)
  | hatchCommit _ _ _ => exact execHatchCommit_kept (.self s)
  | hatchClearStaging _ _ => exact execHatchClearStaging_kept (.self s)
  | hatchCancel _ _ => exact execHatchCancel_kept (.self s)
  | hatchRouteDone _ => exact execHatchRouteDone_kept (.self s)
  | hatchDrainEnd => exact execHatchDrainEnd_kept (.self s)
  | circuitNoticeSend => exact execCircuitNoticeSend_kept (.self s)
  | circuitAckReceive _ _ => exact execCircuitAckReceive_kept (.self s)
  | circuitAckTimeout => exact execCircuitAckTimeout_kept (.self s)
  | hatchApply => exact execHatchApply_kept (.self s)
  | hatchSettled => exact execHatchSettled_kept (.self s)
  | hatchCommitDone _ => exact execHatchCommitDone_kept (.self s)
  | hatchTrimTick _ _ => exact execHatchTrimTick_kept (.self s)
  | elementFailure _ _ => exact execElementFailure_kept (.self s)
  | darkInput _ _ => exact execDarkInput_kept (.self s)
  | relayFrameReceive _ _ => exact execRelayFrameReceive_kept (.self s)
  | dataFrameReceive _ _ _ => exact execDataFrameReceive_kept (.self s)
  | controlBlockReceive _ _ _ => exact execControlBlockReceive_kept (.self s)
  | controlBlockSend _ => exact execControlBlockSend_kept (.self s)
  | reorderHoldExpiry _ => exact execReorderHoldExpiry_kept (.self s)
  | replayTimeout _ _ => exact execReplayTimeout_kept (.self s)
  | egressSelect _ => exact execEgressSelect_kept (.self s)
  | keepaliveReceive _ _ => exact execKeepaliveReceive_kept (.self s)
  | keepaliveSend _ => exact execKeepaliveSend_kept (.self s)
  | marginResendTimeout _ => exact execMarginResendTimeout_kept (.self s)
  | marginLossDetect _ => exact execMarginLossDetect_kept (.self s)
  | errorReportSend _ _ => exact execErrorReportSend_kept (.self s)
  | errorReportReceive _ _ => exact execErrorReportReceive_kept (.self s)
  | pilotFaultReceive _ _ => exact execPilotFaultReceive_kept (.self s)
  | abortReceive _ _ => exact execAbortReceive_kept (.self s)
  | carryReceive _ _ => exact execCarryReceive_kept (.self s)
  | frameLookup _ _ => exact execFrameLookup_kept (.self s)
  | learnApply _ => exact execLearnApply_kept (.self s)
  | ageScan => exact execAgeScan_kept (.self s)
  | checkBitRepair _ => exact execCheckBitRepair_kept (.self s)
  | tableApply _ _ => exact execTableApply_kept (.self s)
  | tableClearStaging _ _ => exact execTableClearStaging_kept (.self s)
  | tableInsertExact => exact execTableInsertExact_kept (.self s)
  | tableDeleteExact => exact execTableDeleteExact_kept (.self s)
  | tableModifyResult => exact execTableModifyResult_kept (.self s)
  | tableAddPrefix => exact execTableAddPrefix_kept (.self s)
  | tableDeletePrefix => exact execTableDeletePrefix_kept (.self s)
  | tableWriteNextHop => exact execTableWriteNextHop_kept (.self s)
  | tableWriteVlanQuarter => exact execTableWriteVlanQuarter_kept (.self s)
  | frameAdmit _ _ _ => exact execFrameAdmit_kept (.self s)
  | cellTimeMatch => exact execCellTimeMatch_kept (.self s)
  | cellArrive _ _ _ _ => exact execCellArrive_kept (.self s)
  | reseqGapTimeout _ _ => exact execReseqGapTimeout_kept (.self s)
  | planeWithdraw _ _ => exact execPlaneWithdraw_kept (.self s)
  | planeRestore _ _ => exact execPlaneRestore_kept (.self s)
  | planeDrained _ => exact execPlaneDrained_kept (.self s)
  | coordTableCommit _ => exact execCoordTableCommit_kept (.self s)
  | coordCommitApply => exact execCoordCommitApply_kept (.self s)
  | schedBeginLoad _ _ => exact execSchedBeginLoad_kept (.self s)
  | schedValidate _ _ => exact execSchedValidate_kept (.self s)
  | schedValidateDone => exact execSchedValidateDone_kept (.self s)
  | schedArm _ _ => exact execSchedArm_kept (.self s)
  | schedDisarm _ _ => exact execSchedDisarm_kept (.self s)
  | schedDeactivate _ _ => exact execSchedDeactivate_kept (.self s)
  | schedLoadBoot _ _ => exact execSchedLoadBoot_kept (.self s)
  | schedStoreBoot _ _ => exact execSchedStoreBoot_kept (.self s)
  | swapReadinessCheck => exact execSwapReadinessCheck_kept (.self s)
  | schedSwap => exact execSchedSwap_kept (.self s)
  | schedJoin => exact execSchedJoin_kept (.self s)
  | syncLoss => exact execSyncLoss_kept (.self s)
  | schedActiveRepeat => exact execSchedActiveRepeat_kept (.self s)
  | schedFrameReceive _ _ => exact execSchedFrameReceive_kept (.self s)
  | bucketRefresh => exact execBucketRefresh_kept (.self s)
  | shaperCfgWrite _ _ _ => exact execShaperCfgWrite_kept (.self s)
  | policerCfgWrite _ _ _ => exact execPolicerCfgWrite_kept (.self s)
  | nibFrameIntake _ _ => exact execNibFrameIntake_kept (.self s)
  | chunkDoneAdmit _ _ => exact execChunkDoneAdmit_kept (.self s)
  | chunkTimeout _ _ => exact execChunkTimeout_kept (.self s)
  | passStart _ => exact execPassStart_kept (.self s)
  | passComplete _ _ => exact execPassComplete_kept (.self s)
  | batchTimeout _ => exact execBatchTimeout_kept (.self s)
  | programInvoke _ _ => exact execProgramInvoke_kept (.self s)
  | contextStart _ => exact execContextStart_kept (.self s)
  | programFetch _ _ => exact execProgramFetch_kept (.self s)
  | waitLimitExpiry _ _ => exact execWaitLimitExpiry_kept (.self s)
  | halt _ _ => exact execHalt_kept (.self s)
  | jump _ _ => exact execJump_kept (.self s)
  | bz _ _ => exact execBz_kept (.self s)
  | bnz _ _ => exact execBnz_kept (.self s)
  | loop _ _ => exact execLoop_kept (.self s)
  | movi _ _ => exact execMovi_kept (.self s)
  | add _ _ => exact execAdd_kept (.self s)
  | sub _ _ => exact execSub_kept (.self s)
  | mul _ _ => exact execMul_kept (.self s)
  | shift _ _ => exact execShift_kept (.self s)
  | ldx _ _ _ => exact execLdx_kept (.self s)
  | stx _ _ => exact execStx_kept (.self s)
  | recv _ _ => exact execRecv_kept (.self s)
  | recvComplete _ _ => exact execRecvComplete_kept (.self s)
  | emit _ _ _ => exact execEmit_kept (.self s)
  | nibCopy _ _ _ => exact execNibCopy_kept (.self s)
  | acc _ _ _ => exact execAcc_kept (.self s)
  | round _ _ _ => exact execRound_kept (.self s)
  | pass _ _ => exact execPass_kept (.self s)
  | asyncInstrComplete _ _ _ => exact execAsyncInstrComplete_kept (.self s)
  | swait _ _ => exact execSwait_kept (.self s)
  | swaitMet _ _ => exact execSwaitMet_kept (.self s)
  | sadd _ _ => exact execSadd_kept (.self s)
  | ssub _ _ => exact execSsub_kept (.self s)
  | skiddingSample _ _ => exact execSkiddingSample_kept (.self s)
  | progBeginLoad _ _ => exact execProgBeginLoad_kept (.self s)
  | progInstall _ _ => exact execProgInstall_kept (.self s)
  | progUninstall _ _ => exact execProgUninstall_kept (.self s)
  | progPin _ _ => exact execProgPin_kept (.self s)
  | progUnpin _ _ => exact execProgUnpin_kept (.self s)
  | progLoadAbandon => exact execProgLoadAbandon_kept (.self s)
  | reduce _ => exact execReduce_kept (.self s)
  | program _ => exact execProgram_kept (.self s)
  | counts _ => exact execCounts_kept (.self s)
  | rangeRegister _ => exact execRangeRegister_kept (.self s)
  | registerTimeout _ => exact execRegisterTimeout_kept (.self s)
  | semOpWait _ => exact execSemOpWait_kept (.self s)
  | semWaitMet _ => exact execSemWaitMet_kept (.self s)
  | semWaitTimeout _ => exact execSemWaitTimeout_kept (.self s)
  | semOpAdd _ => exact execSemOpAdd_kept (.self s)
  | semOpSub _ => exact execSemOpSub_kept (.self s)
  | semSave _ => exact execSemSave_kept (.self s)
  | semRestore _ => exact execSemRestore_kept (.self s)
  | memRead => exact execMemRead_kept (.self s)
  | memWrite => exact execMemWrite_kept (.self s)
  | memAtomic => exact execMemAtomic_kept (.self s)
  | memResponse => exact execMemResponse_kept (.self s)
  | memRetryAfter => exact execMemRetryAfter_kept (.self s)
  | homeRetryResend _ => exact execHomeRetryResend_kept (.self s)
  | homeTimeout _ => exact execHomeTimeout_kept (.self s)
  | poolAccessDone _ _ _ => exact execPoolAccessDone_kept (.self s)
  | zeroFillDone => exact execZeroFillDone_kept (.self s)
  | patrolRead _ _ => exact execPatrolRead_kept (.self s)
  | poolSizeWrite _ _ => exact execPoolSizeWrite_kept (.self s)
  | sqTailDoorbell _ _ _ _ _ => exact execSqTailDoorbell_kept (.self s)
  | cqHeadDoorbell _ _ _ => exact execCqHeadDoorbell_kept (.self s)
  | ringEnable _ _ _ => exact execRingEnable_kept (.self s)
  | ringDisable _ _ _ => exact execRingDisable_kept (.self s)
  | vfAssignWrite _ _ _ => exact execVfAssignWrite_kept (.self s)
  | descriptorIssue _ => exact execDescriptorIssue_kept (.self s)
  | nop _ => exact execNop_kept (.self s)
  | installProgram _ => exact execInstallProgram_kept (.self s)
  | copy _ => exact execCopy_kept (.self s)
  | intAck _ _ => exact execIntAck_kept (.self s)
  | msixUnmask _ _ => exact execMsixUnmask_kept (.self s)
  | mboxGo _ _ _ _ => exact execMboxGo_kept (.self s)
  | functionLevelReset _ => exact execFunctionLevelReset_kept (.self s)
  | pcieLinkDown _ => exact execPcieLinkDown_kept (.self s)
  | heartbeatTick => exact execHeartbeatTick_kept (.self s)
  | recoverWrite _ _ => exact execRecoverWrite_kept (.self s)
  | claimWindowExpiry => exact execClaimWindowExpiry_kept (.self s)
  | offsetSample => exact execOffsetSample_kept (.self s)
  | estimateLoss => exact execEstimateLoss_kept (.self s)
  | sourceUnusable => exact execSourceUnusable_kept (.self s)
  | holdoverExpiry => exact execHoldoverExpiry_kept (.self s)
  | ptpSyncReceive _ _ => exact execPtpSyncReceive_kept (.self s)
  | ptpDelayReqReceive _ _ => exact execPtpDelayReqReceive_kept (.self s)
  | ptpDelayRespReceive _ _ => exact execPtpDelayRespReceive_kept (.self s)
  | ptpAnnounceReceive _ _ => exact execPtpAnnounceReceive_kept (.self s)
  | announceReceiptTimeout _ => exact execAnnounceReceiptTimeout_kept (.self s)
  | ptpSyncSend _ => exact execPtpSyncSend_kept (.self s)
  | ptpAnnounceSend _ => exact execPtpAnnounceSend_kept (.self s)
  | ptpDelayReqSend _ => exact execPtpDelayReqSend_kept (.self s)
  | ppsInEdge _ => exact execPpsInEdge_kept (.self s)
  | todInMessage _ => exact execTodInMessage_kept (.self s)
  | ppsMissing => exact execPpsMissing_kept (.self s)
  | ppsOutEdge => exact execPpsOutEdge_kept (.self s)
  | todOutSend => exact execTodOutSend_kept (.self s)
  | triggerFire _ => exact execTriggerFire_kept (.self s)
  | trigArm _ _ _ => exact execTrigArm_kept (.self s)
  | trigDisarm _ _ _ => exact execTrigDisarm_kept (.self s)
  | snapArm _ _ => exact execSnapArm_kept (.self s)
  | snapDisarm _ _ => exact execSnapDisarm_kept (.self s)
  | snapHold _ _ => exact execSnapHold_kept (.self s)
  | snapRelease _ _ => exact execSnapRelease_kept (.self s)
  | snapStrobe => exact execSnapStrobe_kept (.self s)
  | histCfgWrite _ _ _ => exact execHistCfgWrite_kept (.self s)
  | sampleDataRead _ => exact execSampleDataRead_kept (.self s)
  | sampleDrain _ => exact execSampleDrain_kept (.self s)
  | dopRead _ _ _ => exact execDopRead_kept (.self s)
  | registerWrite _ => exact execRegisterWrite_kept (.self s)
  | flagClear _ => exact execFlagClear_kept (.self s)
  | lowWordRead _ _ _ => exact execLowWordRead_kept (.self s)
  | dopSegRead _ _ _ _ => exact execDopSegRead_kept (.self s)
  | dopSegWrite _ _ _ _ _ _ => exact execDopSegWrite_kept (.self s)
  | dopOccurrence _ _ _ _ => exact execDopOccurrence_kept (.self s)
  | dopDescribe _ _ _ => exact execDopDescribe_kept (.self s)
  | dopSubscribe _ _ => exact execDopSubscribe_kept (.self s)
  | notifySend _ => exact execNotifySend_kept (.self s)
  | subscriptionExpiry _ => exact execSubscriptionExpiry_kept (.self s)
  | mgmtFrameReceive _ _ => exact execMgmtFrameReceive_kept (.self s)
  | warmResetCommand _ _ => exact execWarmResetCommand_kept (.self s)
  | sessionOpen _ _ _ => exact execSessionOpen_kept (.self s)
  | sessionAuth _ _ => exact execSessionAuth_kept (.self s)
  | sessionClose _ => exact execSessionClose_kept (.self s)
  | sessionTimeout _ _ => exact execSessionTimeout_kept (.self s)
  | mctpPacket _ _ => exact execMctpPacket_kept (.self s)
  | getVersion _ => exact execGetVersion_kept (.self s)
  | getCapabilities _ _ => exact execGetCapabilities_kept (.self s)
  | negotiateAlgorithms _ _ _ => exact execNegotiateAlgorithms_kept (.self s)
  | getDigests _ => exact execGetDigests_kept (.self s)
  | getCertificate _ _ _ _ => exact execGetCertificate_kept (.self s)
  | challenge _ _ _ => exact execChallenge_kept (.self s)
  | getMeasurements _ _ _ => exact execGetMeasurements_kept (.self s)
  | debugUnlock _ _ => exact execDebugUnlock_kept (.self s)
  | credWrite _ _ _ => exact execCredWrite_kept (.self s)
  | tapExtest => exact execTapExtest_kept (.self s)
  | tapReset => exact execTapReset_kept (.self s)
  | tamperSensorFire _ => exact execTamperSensorFire_kept (.self s)
  | sealChange _ _ => exact execSealChange_kept (.self s)
  | chopStartupData => exact execChopStartupData_kept (.self s)
  | accountFeed _ => exact execAccountFeed_kept (.self s)
  | recordBoundary _ => exact execRecordBoundary_kept (.self s)
  | recordStoreConfirm _ => exact execRecordStoreConfirm_kept (.self s)
  | intervalMinWrite _ _ => exact execIntervalMinWrite_kept (.self s)
  | calWrite _ _ => exact execCalWrite_kept (.self s)
  | accountMapWrite _ _ _ => exact execAccountMapWrite_kept (.self s)
  | jobPrepare _ => exact execJobPrepare_kept (.self s)
  | jobTeardown _ => exact execJobTeardown_kept (.self s)
  | jobAbort _ => exact execJobAbort_kept (.self s)
  | jobAckReceive _ _ => exact execJobAckReceive_kept (.self s)
  | jobShareReceive _ _ => exact execJobShareReceive_kept (.self s)
  | jobCommitReceive _ _ => exact execJobCommitReceive_kept (.self s)
  | jobCancelReceive _ _ => exact execJobCancelReceive_kept (.self s)
  | jobTeardownReceive _ _ => exact execJobTeardownReceive_kept (.self s)
  | jobAbortReceive _ _ => exact execJobAbortReceive_kept (.self s)
  | commitDecision _ => exact execCommitDecision_kept (.self s)
  | jobGoLive _ => exact execJobGoLive_kept (.self s)
  | prepareTimeout _ => exact execPrepareTimeout_kept (.self s)
  | drainEnd _ => exact execDrainEnd_kept (.self s)
  | quarantineEnd _ => exact execQuarantineEnd_kept (.self s)
  | scrubRangeDone => exact execScrubRangeDone_kept (.self s)
  | unitFault _ _ _ => exact execUnitFault_kept (.self s)
  | blotterDumpNow _ _ => exact execBlotterDumpNow_kept (.self s)
  | blotterDumpEnd _ _ _ => exact execBlotterDumpEnd_kept (.self s)
  | blotterSelect _ _ => exact execBlotterSelect_kept (.self s)
  | proofPeriodStart => exact execProofPeriodStart_kept (.self s)
  | proofTestNow _ _ => exact execProofTestNow_kept (.self s)
  | proofResult _ => exact execProofResult_kept (.self s)
  | faultHistoryWrite => exact execFaultHistoryWrite_kept (.self s)
  | healthDecay => exact execHealthDecay_kept (.self s)
  | digestReceive _ _ => exact execDigestReceive_kept (.self s)
  | digestTimeout _ _ _ => exact execDigestTimeout_kept (.self s)
  | vinStartThreshold => exact execVinStartThreshold_kept (.self s)
  | marginFrameDiscard _ _ => exact execMarginFrameDiscard_kept (.self s)
  | jobShareSend _ => exact execJobShareSend_kept (.self s)
  | proofWindowOpen => exact execProofWindowOpen_kept (.self s)
  | proofWindowEnd => exact execProofWindowEnd_kept (.self s)
  | quillMemoryAccess _ _ _ _ _ _ => exact execQuillMemoryAccess_kept (.self s)

/-! ### A step -/

theorem State.Good.withPending {s : State} (h : s.Good) (l : List Instr) : ({ s with pending := l } : State).Good := h

theorem step_cons {s : State} {c : Instr} {l : List Instr} (h : s.pending = c :: l) : step s = exec c { s with pending := l } := by
  simp [step, h]

theorem step_nil {s : State} (h : s.pending = []) : step s = .next s.idle := by
  simp [step, h]

theorem step_completes (s : State) : Completes (step s) := by
  cases h : s.pending with
  | nil => exact ⟨s.idle, step_nil h⟩
  | cons c l => rw [step_cons h]; exact exec_completes c _

theorem step_good {s t : State} (hs : s.Good) (h : step s = .next t) : t.Good := by
  cases hq : s.pending with
  | nil =>
    rw [step_nil hq] at h
    cases h
    obtain ⟨_, _, hgood⟩ := State.idle_kept (.self s)
    exact hgood hs
  | cons c l =>
    rw [step_cons hq] at h
    obtain ⟨_, _, hgood⟩ := exec_kept c _ t h
    exact hgood (hs.withPending l)

end Sys2Proof.Machine

open Sys2Proof Sys2Proof.Machine

/-- Settles O1, as a step is defined. -/
theorem stepRunsFrontCommand : Obligations.StepRunsFrontCommand := by
  unfold Obligations.StepRunsFrontCommand
  exact fun s c l => step_cons (s := { s with pending := c :: l }) rfl

/-- Settles O3: reset is the state whose tables are empty. -/
theorem resetState : Obligations.ResetState := by
  unfold Obligations.ResetState
  have hgood : State.reset.Good := ⟨rfl, by decide, by simp [State.reset], by simp [State.reset], by decide⟩
  refine ⟨hgood, rfl, rfl, rfl, fun i b => ?_, fun i k => rfl, fun i => rfl, fun g => rfl, fun j => rfl⟩
  exact BitVec.getLsbD_zero

/-- Settles O4, from what a step keeps. -/
theorem everyStepKeepsGood : Obligations.EveryStepKeepsGood := by
  unfold Obligations.EveryStepKeepsGood
  exact fun s t hs h => step_good hs h

/-- Settles O5, from what every command keeps. -/
theorem commandsKeepQueueAndOutputs : Obligations.CommandsKeepQueueAndOutputs := by
  unfold Obligations.CommandsKeepQueueAndOutputs
  intro c s t h
  obtain ⟨hqueue, hout, _⟩ := exec_kept c s t h
  exact ⟨hqueue, hout⟩

/-- Settles O6, command by command. -/
theorem everyCommandCompletes : Obligations.EveryCommandCompletes := by
  unfold Obligations.EveryCommandCompletes
  exact exec_completes

/-- Settles O7, by induction on the length of the run. -/
theorem everyRunIsSafe : Obligations.EveryRunIsSafe := by
  unfold Obligations.EveryRunIsSafe
  intro s k
  induction k generalizing s with
  | zero => exact ⟨s, rfl⟩
  | succ k ih =>
    obtain ⟨u, hu⟩ := step_completes s
    obtain ⟨t, ht⟩ := ih u
    exact ⟨t, u, hu, ht⟩

end

section
/-!
PROOFS. The instructions of a Nib program: the frame of the register and branch instructions, and what each instruction leaves
(R254, R263 to R269, R287).
-/

namespace Sys2Proof.Machine

/-! ### Nibs and contexts -/

theorem State.nib_updNib (s : State) (n m : Nat) (g : Nib → Nib) : (s.updNib n g).nib m = if m = n then g (s.nib n) else s.nib m :=
  Tab.get_upd s.nibs g

@[simp] theorem State.nib_updNib_same (s : State) (n : Nat) (g : Nib → Nib) : (s.updNib n g).nib n = g (s.nib n) :=
  Tab.get_upd_same s.nibs g

theorem State.ctx_updCtx (s : State) (n c d : Nat) (g : Ctx → Ctx) :
    (s.updCtx n c g).ctx n d = if d = c then (s.ctx n c).map g else s.ctx n d := by
  unfold State.ctx State.updCtx
  rw [State.nib_updNib_same]
  exact Tab.get_upd _ _

theorem State.ctx_updCtx_some {s : State} {n c : Nat} {k : Ctx} (g : Ctx → Ctx) (h : s.ctx n c = some k) :
    (s.updCtx n c g).ctx n c = some (g k) := by
  rw [State.ctx_updCtx, if_pos rfl, h]
  rfl

/-- A change of a Nib that leaves its contexts. -/
theorem State.ctx_updNib {s : State} {n : Nat} {g : Nib → Nib} (c : Nat) (h : (g (s.nib n)).ctxs = (s.nib n).ctxs) :
    (s.updNib n g).ctx n c = s.ctx n c := by
  unfold State.ctx
  rw [State.nib_updNib_same, h]

/-! ### Issue -/

/-- The instruction that issues runs on the state in which its issue has been counted. -/
theorem NibIssues.issueInstr {s t : State} {n c op w : Nat} {k : Ctx} (h : NibIssues s n c op w t k) (act : State → Ctx → Nat → State) :
    s.issueInstr n c op act = act t k w := by
  obtain ⟨k0, hk0, rfl, hop, hturn, hsteps, ht, hk⟩ := h
  have hno : (((s.countNib n 17 1).updNib n (fun x => { x with issues := x.issues + 1, turn := c })).nib n).issues =
      (s.nib n).issues + 1 := by rw [State.nib_updNib_same]; rfl
  unfold State.issueInstr
  simp only [hk0, hop, hturn, ne_eq, not_true_eq_false, decide_false, Bool.or_self, Bool.false_eq_true, if_false, Nat.not_le.2 hsteps, hno,
    ← ht, hk]

theorem NibIssues.ctx {s t : State} {n c op w : Nat} {k : Ctx} (h : NibIssues s n c op w t k) : t.ctx n c = some k := by
  obtain ⟨_, _, _, _, _, _, _, hk⟩ := h
  exact hk

/-- States that differ in Folio and in one context of one Nib, with that Nib's bookkeeping, alone. -/
def SameButCtx (n c : Nat) (s t : State) : Prop :=
  (∃ x f, t = { s with nibs := x, folio := f }) ∧ (∀ m, m ≠ n → t.nib m = s.nib m) ∧ ∀ d, d ≠ c → t.ctx n d = s.ctx n d

section
variable {n c : Nat} {s t u : State}

theorem SameButCtx.refl (s : State) : SameButCtx n c s s := ⟨⟨s.nibs, s.folio, rfl⟩, fun _ _ => rfl, fun _ _ => rfl⟩

theorem SameButCtx.trans (a : SameButCtx n c s t) (b : SameButCtx n c t u) : SameButCtx n c s u := by
  obtain ⟨⟨_, _, rfl⟩, hn, hc⟩ := a
  obtain ⟨⟨_, _, rfl⟩, hn', hc'⟩ := b
  exact ⟨⟨_, _, rfl⟩, fun m hm => (hn' m hm).trans (hn m hm), fun d hd => (hc' d hd).trans (hc d hd)⟩

theorem State.modFolio_sameButCtx (s : State) (g : FolioSt → FolioSt) : SameButCtx n c s (s.modFolio g) :=
  ⟨⟨_, _, rfl⟩, fun _ _ => rfl, fun _ _ => rfl⟩

theorem State.updNib_sameButCtx {g : Nib → Nib} (h : (g (s.nib n)).ctxs = (s.nib n).ctxs) : SameButCtx n c s (s.updNib n g) :=
  ⟨⟨_, _, rfl⟩, fun m hm => by rw [State.nib_updNib, if_neg hm], fun d _ => State.ctx_updNib d h⟩

theorem State.updCtx_sameButCtx (s : State) (g : Ctx → Ctx) : SameButCtx n c s (s.updCtx n c g) :=
  ⟨⟨_, _, rfl⟩, fun m hm => by unfold State.updCtx; rw [State.nib_updNib, if_neg hm],
    fun d hd => by rw [State.ctx_updCtx, if_neg hd]⟩

theorem State.skidIssue_sameButCtx (s : State) : SameButCtx n c s (s.skidIssue n c) := by
  unfold State.skidIssue
  dsimp only
  split
  · split
    · exact .refl s
    · exact State.updNib_sameButCtx rfl
  · exact .refl s

theorem State.samplePeriod_sameButCtx (s : State) : SameButCtx n c s (s.samplePeriod n) := by
  unfold State.samplePeriod
  dsimp only
  split
  · exact .refl s
  · split
    · exact (s.modFolio_sameButCtx _).trans (State.updNib_sameButCtx rfl)
    · exact s.modFolio_sameButCtx _

end

/-- Issue counts the instruction, and leaves every other context and Nib. -/
theorem NibIssues.sameButCtx {s t : State} {n c op w : Nat} {k : Ctx} (h : NibIssues s n c op w t k) :
    SameButCtx n c (s.countNib n 17 1) t := by
  obtain ⟨k0, _, _, _, _, _, rfl, _⟩ := h
  refine .trans ?_ (State.samplePeriod_sameButCtx _)
  refine .trans ?_ (State.skidIssue_sameButCtx _)
  refine .trans ?_ (State.updCtx_sameButCtx _ _)
  exact State.updNib_sameButCtx rfl

/-! ### The register and branch instructions -/

theorem State.branchIf_eq (s : State) (n c w : Nat) (taken : Bool) (g : Ctx → Ctx) : s.branchIf n c w taken g =
    s.updCtx n c (fun k => { g k with pc := if taken then iA w else k.pc + 1 }) := by
  unfold State.branchIf State.goNext
  cases taken <;> rfl

section
variable {s t : State} {n : Fin 32} {c : Fin 64} {w : Nat} {k : Ctx}

theorem exec_jump_issues (h : NibIssues s n c 0x02 w t k) :
    exec (.jump n c) s = .next (t.updCtx n c (fun y => { y with pc := iA w })) :=
  congrArg Host.Outcome.next (h.issueInstr _)

theorem exec_bz_issues (h : NibIssues s n c 0x03 w t k) :
    exec (.bz n c) s = .next (t.updCtx n c (fun y => { y with pc := if k.reg (iB w) = 0 then iA w else y.pc + 1 })) := by
  refine congrArg Host.Outcome.next ((h.issueInstr _).trans ?_)
  simp only [State.branchIf_eq, decide_eq_true_eq]
  rfl

theorem exec_bnz_issues (h : NibIssues s n c 0x04 w t k) :
    exec (.bnz n c) s = .next (t.updCtx n c (fun y => { y with pc := if k.reg (iB w) ≠ 0 then iA w else y.pc + 1 })) := by
  refine congrArg Host.Outcome.next ((h.issueInstr _).trans ?_)
  simp only [State.branchIf_eq, decide_eq_true_eq]
  rfl

theorem exec_loop_issues (h : NibIssues s n c 0x05 w t k) : exec (.loop n c) s = .next (t.updCtx n c (fun y =>
    { y.setReg (iB w) (k.reg (iB w) - 1) with pc := if k.reg (iB w) - 1 ≠ 0 then iA w else y.pc + 1 })) := by
  refine congrArg Host.Outcome.next ((h.issueInstr _).trans ?_)
  simp only [State.branchIf_eq, decide_eq_true_eq]

theorem exec_movi_issues (h : NibIssues s n c 0x08 w t k) : exec (.movi n c) s = .next (t.updCtx n c (fun y => { y.setReg (iA w)
    (if bit (iD w) 0 then iImm w * 2 ^ 32 + k.reg (iA w) % 2 ^ 32 else iImm w) with pc := y.pc + 1 })) :=
  congrArg Host.Outcome.next (h.issueInstr _)

theorem exec_add_issues (h : NibIssues s n c 0x09 w t k) : exec (.add n c) s = .next (t.updCtx n c (fun y => { y.setReg (iA w)
    (k.reg (iB w) + k.reg (iC w) + signedImm (iImm w)) with pc := y.pc + 1 })) :=
  congrArg Host.Outcome.next (h.issueInstr _)

theorem exec_sub_issues (h : NibIssues s n c 0x0A w t k) : exec (.sub n c) s = .next (t.updCtx n c (fun y => { y.setReg (iA w)
    (k.reg (iB w) + (2 ^ 64 - k.reg (iC w))) with pc := y.pc + 1 })) :=
  congrArg Host.Outcome.next (h.issueInstr _)

theorem exec_mul_issues (h : NibIssues s n c 0x0B w t k) : exec (.mul n c) s = .next (t.updCtx n c (fun y => { y.setReg (iA w)
    (k.reg (iB w) * k.reg (iC w)) with pc := y.pc + 1 })) :=
  congrArg Host.Outcome.next (h.issueInstr _)

theorem exec_shift_issues (h : NibIssues s n c 0x0C w t k) : exec (.shift n c) s = .next (t.updCtx n c (fun y => { y.setReg (iA w)
    (if bit (iD w) 0 then k.reg (iB w) * 2 ^ iImm w else k.reg (iB w) / 2 ^ iImm w) with pc := y.pc + 1 })) :=
  congrArg Host.Outcome.next (h.issueInstr _)

/-- A register or branch instruction that issues changes its own context alone. -/
theorem exec_scalar_issues {op : Nat} {i : Instr} (h : NibIssues s n c op w t k) (hi : (i, op) ∈ [(.jump n c, 0x02), (.bz n c, 0x03),
    (.bnz n c, 0x04), (.loop n c, 0x05), (.movi n c, 0x08), (.add n c, 0x09), (.sub n c, 0x0A), (.mul n c, 0x0B), (.shift n c, 0x0C)]) :
    ∃ g, exec i s = .next (t.updCtx n c g) := by
  simp only [List.mem_cons, Prod.mk.injEq, List.not_mem_nil, or_false] at hi
  obtain ⟨rfl, rfl⟩ | ⟨rfl, rfl⟩ | ⟨rfl, rfl⟩ | ⟨rfl, rfl⟩ | ⟨rfl, rfl⟩ | ⟨rfl, rfl⟩ | ⟨rfl, rfl⟩ | ⟨rfl, rfl⟩ | ⟨rfl, rfl⟩ := hi
  · exact ⟨_, exec_jump_issues h⟩
  · exact ⟨_, exec_bz_issues h⟩
  · exact ⟨_, exec_bnz_issues h⟩
  · exact ⟨_, exec_loop_issues h⟩
  · exact ⟨_, exec_movi_issues h⟩
  · exact ⟨_, exec_add_issues h⟩
  · exact ⟨_, exec_sub_issues h⟩
  · exact ⟨_, exec_mul_issues h⟩
  · exact ⟨_, exec_shift_issues h⟩

/-! ### Accesses of scratch -/

/-- The address of an LDX or STX, and its width (R263). -/
def Ctx.accessAddr (k : Ctx) (w : Nat) : Nat := (k.reg (iB w) + signedImm (iImm w)) % 2 ^ 64
def accessWidth (w : Nat) : Nat := 4 + 4 * (iD w % 4)

theorem State.doLdx_aligned {w : Nat} {k : Ctx} (t : State) (n c : Nat) (ecc : Ecc)
    (hin : k.inScratch (k.accessAddr w) (accessWidth w) = true) (ha : k.accessAddr w % accessWidth w = 0) : t.doLdx n c ecc k w =
      t.eccGuard n c ecc (fun s => s.goNext n c (fun y => y.setReg (iA w) (if bit (iD w) 2 then
        beNat (k.read (k.accessAddr w) (accessWidth w)) else leNat (k.read (k.accessAddr w) (accessWidth w))))) := by
  unfold Ctx.accessAddr accessWidth at hin ha
  simp only [State.doLdx, hin, ha, Bool.not_true, Bool.false_eq_true, if_false, ne_eq, not_true_eq_false]
  rfl

theorem State.eccGuard_good (t : State) (n c : Nat) (go : State → State) : t.eccGuard n c .good go = go t := rfl

theorem exec_ldx_issues (ecc : Ecc) (h : NibIssues s n c 0x0E w t k) (hin : k.inScratch (k.accessAddr w) (accessWidth w) = true)
    (ha : k.accessAddr w % accessWidth w = 0) : exec (.ldx n c ecc) s =
      .next (t.eccGuard n c ecc (fun s => s.goNext n c (fun y => y.setReg (iA w) (if bit (iD w) 2 then
        beNat (k.read (k.accessAddr w) (accessWidth w)) else leNat (k.read (k.accessAddr w) (accessWidth w)))))) :=
  congrArg Host.Outcome.next ((h.issueInstr _).trans (t.doLdx_aligned n c ecc hin ha))

theorem exec_stx_issues (h : NibIssues s n c 0x0F w t k) (hin : k.inScratch (k.accessAddr w) (accessWidth w) = true)
    (ha : k.accessAddr w % accessWidth w = 0) : exec (.stx n c) s =
      .next ((t.goNext n c id).writeScratch n c (k.accessAddr w) (if bit (iD w) 2 then
        beBytes (accessWidth w) (k.reg (iA w) % 2 ^ (8 * accessWidth w))
        else leBytes (accessWidth w) (k.reg (iA w) % 2 ^ (8 * accessWidth w)))) := by
  refine congrArg Host.Outcome.next ((h.issueInstr _).trans ?_)
  unfold Ctx.accessAddr accessWidth at hin ha
  simp only [State.doStx, hin, ha, Bool.not_true, Bool.false_eq_true, if_false, ne_eq, not_true_eq_false]
  rfl

theorem State.ctx_writeScratch {u : State} {m d : Nat} {y : Ctx} (a : Nat) (b : List Byte) (h : u.ctx m d = some y) :
    (u.writeScratch m d a b).ctx m d = some (y.write a b) := by
  unfold State.writeScratch
  rw [State.ctx_updNib d rfl, State.ctx_updCtx_some _ h]

/-! ### The instructions that run on, those of the semaphores, and HALT -/

/-- The checks that ACC and ROUND make pass for what an EMIT names as well (R269). -/
theorem Ctx.elemCheck_none {fmt first cnt addr : Nat} (h : k.elemCheck fmt first cnt addr = none) :
    cnt ≠ 0 ∧ ¬ ((isMx fmt && (first % 32 ≠ 0 || cnt % 32 ≠ 0)) = true) ∧ ¬ k.elems < first + cnt ∧
      ¬ (!(k.inScratch addr (fmtBytes fmt cnt))) = true := by
  unfold Ctx.elemCheck at h
  split at h
  · exact nomatch h
  · split at h
    · exact nomatch h
    · split at h
      · exact nomatch h
      · split at h
        · exact nomatch h
        · exact ⟨‹_›, ‹_›, ‹_›, ‹_›⟩

theorem exec_emit_issues {r : Range} (h : NibIssues s n c 0x11 w t k) (hr : t.rangeOf k.thread = some r) (hset : r.setIdx (iD w % 4) ≠ 15)
    (hcheck : k.elemCheck (iFout w) (k.reg (iC w)) (k.reg (iB w)) (k.reg (iA w)) = none) :
    exec (.emit n c .good) s = .next (((t.goAsync n c k w .emit id).updCtx n c (fun y =>
      { y with emitted := y.emitted + ceilDiv (k.reg (iB w)) (fmtMaxN (iFout w)) })).emitFrames n c k.seq k.thread r (iD w % 4)
        (if bit (iD w) 2 then 5 else 2) (iFout w) (bit (iD w) 3) k.emitted (k.reg (iB w))
        (k.read (k.reg (iA w)) (fmtBytes (iFout w) (k.reg (iB w)))) (ceilDiv (k.reg (iB w)) (fmtMaxN (iFout w)) + 1)) := by
  refine congrArg Host.Outcome.next ((h.issueInstr _).trans ?_)
  obtain ⟨hcnt, hmx, helems, hin⟩ := Ctx.elemCheck_none hcheck
  unfold State.doEmit
  simp only [hr, if_neg hset, if_neg hcnt, if_neg hmx, if_neg helems, if_neg hin, State.eccGuard_good]

theorem exec_nibCopy_issues (h : NibIssues s n c 0x12 w t k) (hlen : k.reg (iC w) ≠ 0)
    (hsrc : k.inScratch (k.reg (iB w)) (k.reg (iC w)) = true) (hdst : k.inScratch (k.reg (iA w)) (k.reg (iC w)) = true) :
    exec (.nibCopy n c .good) s =
      .next ((t.goAsync n c k w .copy id).writeScratch n c (k.reg (iA w)) (k.read (k.reg (iB w)) (k.reg (iC w)))) := by
  refine congrArg Host.Outcome.next ((h.issueInstr _).trans ?_)
  simp [State.doCopy, hlen, hsrc, hdst, State.eccGuard_good]

theorem exec_acc_issues {u : State} (h : NibIssues s n c 0x18 w t k)
    (hcheck : k.elemCheck (iFin w) (k.reg (iC w)) (k.reg (iB w)) (k.reg (iA w)) = none)
    (hkind : t.rowsKindOk n k.thread (k.reg (iC w)) (k.reg (iB w)) (fastRows (iMode w) (iFin w)) = true)
    (hadd : t.addTerms n k.thread (k.reg (iC w))
      (decodeElems (iFin w) (k.reg (iB w)) (k.read (k.reg (iA w)) (fmtBytes (iFin w) (k.reg (iB w))))) (fastRows (iMode w) (iFin w))
      (modeRound (iMode w) = 2 && isIntFmt (iFin w)) (.instr c k.pc) = .ok u) :
    exec (.acc n c .good) s = .next (u.goAsync n c k w .acc id) := by
  refine congrArg Host.Outcome.next ((h.issueInstr _).trans ?_)
  simp [State.doAcc, hcheck, hkind, State.eccGuard_good, hadd]

theorem exec_swait_issues (h : NibIssues s n c 0x28 w t k) (hv : (t.semOperand k w).2 ≤ (t.countCp 14).sem (t.semOperand k w).1) :
    exec (.swait n c) s = .next (((t.countCp 14).goNext n c id).sampleEvent n c k.pc 7 0) :=
  congrArg Host.Outcome.next ((h.issueInstr _).trans (if_pos hv))

theorem exec_sadd_issues {u : State} (h : NibIssues s n c 0x29 w t k) (hu : t.semAdd (t.semOperand k w).1 (t.semOperand k w).2 = some u) :
    exec (.sadd n c) s = .next (u.goNext n c id) := by
  refine congrArg Host.Outcome.next ((h.issueInstr _).trans ?_)
  simp [hu]

theorem exec_ssub_issues {u : State} (h : NibIssues s n c 0x2A w t k) (hu : t.semSub (t.semOperand k w).1 (t.semOperand k w).2 = some u) :
    exec (.ssub n c) s = .next (u.goNext n c id) := by
  refine congrArg Host.Outcome.next ((h.issueInstr _).trans ?_)
  simp [hu]

end

end Sys2Proof.Machine

open Sys2Proof Sys2Proof.Machine

/-- Settles O11, as a register or branch instruction is a change of its own context once its issue has been counted. -/
theorem nibScalarFrame : Obligations.NibScalarFrame := by
  unfold Obligations.NibScalarFrame
  intro s t u n c op w k i h hi hu
  obtain ⟨g, hg⟩ := exec_scalar_issues h hi
  cases hg.symm.trans hu
  obtain ⟨⟨x, f, heq⟩, hnibs, hctxs⟩ := h.sameButCtx.trans (State.updCtx_sameButCtx t g)
  have hcounter (i k : Nat) (hk : k < 256) : (t.updCtx n c g).counter i k =
      if i = 0x7280 + n ∧ k = 17 then (s.counter (0x7280 + n) 17 + 1) % 2 ^ 64 else s.counter i k := by
    rw [heq]
    exact s.counter_count (0x7280 + n) 17 1 i k hk (by decide)
  refine ⟨?_, hnibs, hctxs, ?_, fun i k hne hk => ?_⟩
  · rw [heq]; rfl
  · rw [hcounter _ _ (by decide), if_pos ⟨rfl, rfl⟩]
  · rw [hcounter i k hk, if_neg (fun e => hne (Prod.ext e.1 e.2))]

/-- Settles O41, from one rule for each instruction. -/
theorem nibScalarInstructions : Obligations.NibScalarInstructions := by
  unfold Obligations.NibScalarInstructions
  refine ⟨?jump, ?bz, ?bnz, ?loop, ?movi, ?add, ?sub, ?mul, ?shift, ?ldx, ?stx⟩
  case jump => exact fun s t n c w k h => ⟨_, exec_jump_issues h, State.ctx_updCtx_some _ h.ctx⟩
  case bz => exact fun s t n c w k h => ⟨_, exec_bz_issues h, State.ctx_updCtx_some _ h.ctx⟩
  case bnz => exact fun s t n c w k h => ⟨_, exec_bnz_issues h, State.ctx_updCtx_some _ h.ctx⟩
  case loop => exact fun s t n c w k h => ⟨_, exec_loop_issues h, State.ctx_updCtx_some _ h.ctx⟩
  case movi => exact fun s t n c w k h => ⟨_, exec_movi_issues h, State.ctx_updCtx_some _ h.ctx⟩
  case add => exact fun s t n c w k h => ⟨_, exec_add_issues h, State.ctx_updCtx_some _ h.ctx⟩
  case sub => exact fun s t n c w k h => ⟨_, exec_sub_issues h, State.ctx_updCtx_some _ h.ctx⟩
  case mul => exact fun s t n c w k h => ⟨_, exec_mul_issues h, State.ctx_updCtx_some _ h.ctx⟩
  case shift => exact fun s t n c w k h => ⟨_, exec_shift_issues h, State.ctx_updCtx_some _ h.ctx⟩
  case ldx => exact fun s t n c w k h hin ha => ⟨_, exec_ldx_issues .good h hin ha, State.ctx_updCtx_some _ h.ctx⟩
  case stx =>
    exact fun s t n c w k h hin ha => ⟨_, exec_stx_issues h hin ha, State.ctx_writeScratch _ _ (State.ctx_updCtx_some _ h.ctx)⟩

/-- Settles O42, from one rule for each instruction. -/
theorem nibEngineInstructions : Obligations.NibEngineInstructions := by
  unfold Obligations.NibEngineInstructions
  refine ⟨?halt, ?recv, ?emit, ?copy, ?acc, ?round, ?pass, ?swait, ?sadd, ?ssub, ?ldx⟩
  case halt => exact fun s t n c w k h => congrArg Host.Outcome.next (h.issueInstr _)
  case recv => exact fun s t n c w k h => congrArg Host.Outcome.next (h.issueInstr _)
  case emit => exact fun s t n c w k r h hr hset hcheck => exec_emit_issues h hr hset hcheck
  case copy => exact fun s t n c w k h hlen hsrc hdst => exec_nibCopy_issues h hlen hsrc hdst
  case acc => exact fun s t u n c w k h hcheck hkind hadd => exec_acc_issues h hcheck hkind hadd
  case round => exact fun s t n c w k h => congrArg Host.Outcome.next (h.issueInstr _)
  case pass => exact fun s t n c w k h => congrArg Host.Outcome.next (h.issueInstr _)
  case swait => exact fun s t n c w k h hv => exec_swait_issues h hv
  case sadd => exact fun s t t' n c w k h hu => exec_sadd_issues h hu
  case ssub => exact fun s t t' n c w k h hu => exec_ssub_issues h hu
  case ldx => exact fun s t n c w k h hin ha => exec_ldx_issues .uncorrected h hin ha

end

section
/-!
PROOFS. A period of TIME_CLK on an empty queue: the running time goes on, and but for the zero fill no memory changes (R335, R365).
-/

namespace Sys2Proof.Machine

/-- What the parts of a period that come before the fill leave: the running time, the DONE bits and the memories. -/
def State.clockView (s : State) : Nat × BitVec 12 × MemSt := (s.now, s.boot.done, s.mem)

@[simp] theorem State.modPower_clockView (s : State) (g : Power → Power) : (s.modPower g).clockView = s.clockView := rfl
@[simp] theorem State.modCore_clockView (s : State) (g : CoreSt → CoreSt) : (s.modCore g).clockView = s.clockView := rfl
@[simp] theorem State.modDuctus_clockView (s : State) (g : DuctusSt → DuctusSt) : (s.modDuctus g).clockView = s.clockView := rfl
@[simp] theorem State.updNib_clockView (s : State) (n : Nat) (g : Nib → Nib) : (s.updNib n g).clockView = s.clockView := rfl
@[simp] theorem State.setFlag_clockView (s : State) (i b : Nat) : (s.setFlag i b).clockView = s.clockView := rfl
@[simp] theorem State.count_clockView (s : State) (i k n : Nat) : (s.count i k n).clockView = s.clockView := rfl

theorem SameButMargin.clockView {s t : State} (h : SameButMargin s t) : t.clockView = s.clockView := by
  obtain ⟨_, _, _, rfl⟩ := h
  rfl

/-! ### Ductus -/

theorem sendSeq_clockView (s : State) (f typ : Nat) (b : List Byte) : (sendSeq s f typ b).clockView = s.clockView := by
  unfold sendSeq sendMarginFrame
  dsimp only
  split
  · exact (pumpMargin_onlyMargin _ f).clockView
  · split
    · exact (transmitMargin_onlyMargin s f _).clockView
    · unfold relayLost
      split
      · exact (payBack_onlyMargin _ _).clockView
      · exact (payBack_onlyMargin _ _).clockView

theorem State.sendSched_clockView (s : State) (kind cause id cell : Nat) : (s.sendSched kind cause id cell).clockView = s.clockView :=
  State.forEach_keeps State.clockView _ (fun t f => sendSeq_clockView t f _ _) _ s

theorem dropTc0_clockView (s : State) (all : Bool) : (dropTc0 s all).clockView = s.clockView :=
  State.forEach_keeps State.clockView (fun t v => ((t.dropVoq v).countUnit 7 0 5).setFlag 0x6501 4)
    (fun t v => by rw [State.setFlag_clockView]; exact State.count_clockView _ _ _ _) _ s

theorem State.deactivate_clockView (s : State) : s.deactivate.clockView = s.clockView := by
  unfold State.deactivate
  exact (State.sendSched_clockView _ _ _ _ _).trans (dropTc0_clockView _ _)

theorem State.reviewDeactivate_clockView (s : State) : s.reviewDeactivate.clockView = s.clockView := by
  unfold State.reviewDeactivate
  split
  · split
    · exact State.deactivate_clockView _
    · rfl
  · rfl

/-! ### The arrays, the power stage and network time -/

theorem State.loadWeights_clockView (s : State) (n : Nat) : (s.loadWeights n).clockView = s.clockView := by
  unfold State.loadWeights
  dsimp only
  split
  · rfl
  · rfl

theorem State.arrayTick_clockView (s : State) (n : Nat) : (s.arrayTick n).clockView = s.clockView := by
  unfold State.arrayTick
  extract_lets x d busy slow all low done t u
  split
  · rfl
  · rw [State.loadWeights_clockView]
    have hu : u.clockView = s.clockView := by
      unfold u State.countNib
      rw [State.count_clockView, State.count_clockView]
      exact State.updNib_clockView s n _
    split
    · exact (State.setFlag_clockView _ _ _).trans hu
    · exact hu

theorem State.arraysTick_clockView (s : State) : s.arraysTick.clockView = s.clockView := by
  unfold State.arraysTick
  exact State.forEach_keeps State.clockView _ State.arrayTick_clockView _ s

theorem State.setTimeUnits_clockView (s : State) (x : Int) : (s.setTimeUnits x).clockView = s.clockView := rfl

theorem State.timeTick_clockView (s : State) : s.timeTick.clockView = s.clockView := by
  unfold State.timeTick
  split
  · exact s.setTimeUnits_clockView _
  · rfl

theorem State.reviewEnLow_clockView (s : State) : s.reviewEnLow.clockView = s.clockView := by
  obtain ⟨g, h⟩ := s.reviewEnLow_rest
  rw [h, State.modPower_clockView]

theorem State.reviewEnAgain_clockView (s : State) : s.reviewEnAgain.clockView = s.clockView := by
  obtain ⟨e, r, ph, h⟩ := s.reviewEnAgain_rest
  rw [h]
  rfl

/-- The state of a period before the fill and the scrub go on. -/
def State.idleToFill (s : State) : State :=
  (((({ s with now := s.now + 1250 } : State).timeTick).reviewEnLow).reviewEnAgain).reviewSettled.reviewDeactivate.arraysTick

theorem State.idleToFill_clockView (s : State) : s.idleToFill.clockView = (s.now + 1250, s.boot.done, s.mem) := by
  unfold State.idleToFill
  rw [State.arraysTick_clockView, State.reviewDeactivate_clockView]
  unfold State.reviewSettled
  rw [State.modDuctus_clockView, State.reviewEnAgain_clockView, State.reviewEnLow_clockView, State.timeTick_clockView]
  rfl

/-! ### The fill and the scrub -/

theorem State.sramEcc_now (s : State) (e : Ecc) (u : Nat) : (s.sramEcc e u).now = s.now := by
  cases e <;> simp [State.sramEcc, State.countMem]

theorem State.countPages_rest (s : State) (a sub n : Nat) : ∃ c, s.countPages a sub n = { s with counters := c } := by
  unfold State.countPages
  generalize List.range (ceilDiv (a % 4096 + n) 4096) = l
  induction l generalizing s with
  | nil => exact ⟨s.counters, rfl⟩
  | cons k l ih => exact ih _

theorem State.countPages_now (s : State) (a sub n : Nat) : (s.countPages a sub n).now = s.now := by
  obtain ⟨c, h⟩ := s.countPages_rest a sub n
  rw [h]

theorem State.lpdUncorrected_now (s : State) (a : Nat) : (s.lpdUncorrected a).now = s.now := by
  simp [State.lpdUncorrected, State.countLpd]

theorem State.lpdCorrected_now (s : State) (a : Nat) : (s.lpdCorrected a).now = s.now := by
  simp [State.lpdCorrected, State.countLpd]

theorem State.readMem_now (s : State) (a n : Nat) : (s.readMem a n).2.now = s.now := by
  unfold State.readMem
  split
  · rfl
  · dsimp only
    split
    · exact (State.lpdUncorrected_now _ _).trans (s.countPages_now a 1 n)
    · exact s.countPages_now a 1 n

theorem State.quillAccess_now (s : State) (x : QuillAccess) : (s.quillAccess x).now = s.now := by
  unfold State.quillAccess
  extract_lets u v
  have hu : u.now = s.now := s.sramEcc_now _ _
  have hv : v.now = s.now := by
    unfold v
    split
    · exact (u.lpdCorrected_now _).trans hu
    · exact hu
  have hread := State.readMem_now v (x.addr - x.addr % 64) 64
  split
  · exact hu
  · split
    · rw [State.writeMem, State.modMem_now, State.countPages_now, hu]
    · split
      · rw [State.emit_now, State.lpdUncorrected_now, hu]
      · split
        next h => rw [h] at hread; exact hread.trans hv
        next h => rw [h] at hread; exact hread.trans hv

theorem State.quillWaited_now (s : State) : s.quillWaited.now = s.now :=
  State.forEach_keeps State.now _ State.quillAccess_now _ _

theorem State.fillTick_now (s : State) : s.fillTick.now = s.now := by
  unfold State.fillTick
  split
  · exact State.quillWaited_now _
  · rfl

/-- Where the fill has ended, or LPDDR6 is not in service yet, it does not go on (R335). -/
theorem State.fillTick_ended {s : State} (h : s.mem.zeroDone = true ∨ s.boot.done.getLsbD 5 = false) : s.fillTick = s :=
  if_neg (by rcases h with h | h <;> simp only [h, Bool.not_true, Bool.and_false, Bool.false_and, Bool.false_eq_true, not_false_eq_true])

theorem State.scrubTick_rest (s : State) : ∃ g, s.scrubTick = s.modFaults g := by
  unfold State.scrubTick
  split
  · exact ⟨_, rfl⟩
  · exact ⟨id, rfl⟩

theorem State.idle_eq (s : State) : s.idle = s.idleToFill.fillTick.scrubTick := rfl

theorem State.idle_now (s : State) : s.idle.now = s.now + 1250 := by
  obtain ⟨g, h⟩ := s.idleToFill.fillTick.scrubTick_rest
  rw [State.idle_eq, h, State.modFaults_now, State.fillTick_now]
  exact congrArg Prod.fst s.idleToFill_clockView

theorem State.idle_mem {s : State} (h : s.mem.zeroDone = true ∨ s.boot.done.getLsbD 5 = false) : s.idle.mem = s.mem := by
  have hview := s.idleToFill_clockView
  have hdone : s.idleToFill.boot.done = s.boot.done := congrArg (·.2.1) hview
  have hmem : s.idleToFill.mem = s.mem := congrArg (·.2.2) hview
  obtain ⟨g, hscrub⟩ := s.idleToFill.fillTick.scrubTick_rest
  rw [State.idle_eq, hscrub, State.modFaults_mem, State.fillTick_ended (by rwa [hdone, hmem]), hmem]

end Sys2Proof.Machine

open Sys2Proof Sys2Proof.Machine

/-- Settles O2, from what each part of a period leaves. -/
theorem emptyQueueTicks : Obligations.EmptyQueueTicks := by
  unfold Obligations.EmptyQueueTicks
  intro s hq
  obtain ⟨hpending, _, _⟩ := State.idle_kept (.self s)
  exact ⟨s.idle, step_nil hq, s.idle_now, hpending.trans hq, State.idle_mem⟩

end

section
/-!
PROOFS. The strobe of the snapshot banks and the drain of a precise buffer (R275, R376, R381), the windows of Ligature (R307), and what a
store of a partition leaves alone (R323, R336, R342).
-/

namespace Sys2Proof.Machine

/-! ### Strobes -/

theorem exec_snapStrobe_waits {s : State} (h : s.folio.armed = false ∨ s.cellNow < s.param 0x2452 1) : exec .snapStrobe s = .next s := by
  change execSnapStrobe s = _
  exact if_pos (by rcases h with h | h <;> simp [h])

theorem State.strobe_due {s : State} (ha : s.folio.armed = true) (hc : s.param 0x2452 1 ≤ s.cellNow) (hr : s.boot.recovery = false) :
    ¬ (!s.folio.armed || s.cellNow < s.param 0x2452 1 || s.boot.recovery) = true := by
  simp [ha, hr, hc]

/-- A single strobe disarms. -/
theorem exec_snapStrobe_single {s : State} (ha : s.folio.armed = true) (hc : s.param 0x2452 1 ≤ s.cellNow) (hr : s.boot.recovery = false)
    (hp : s.param 0x2452 3 = 0) :
    exec .snapStrobe s = .next ((s.latchBank (s.param 0x2452 2 % 2)).modFolio (fun f => { f with armed := false })) := by
  change execSnapStrobe s = _
  exact (if_neg (State.strobe_due ha hc hr)).trans (if_pos hp)

/-- A strobe of a series: the next cell time and the next epoch are written to their objects. -/
def State.strobeOn (t : State) (period epoch : Nat) : State :=
  ((t.modFolio (fun f => { f with strobe := t.folio.strobe + 1 })).setParam 0x2452 1
    (strobeCell t.folio.snapAt0 (t.folio.strobe + 1) period % 2 ^ 64)).setParam 0x2452 2 ((epoch + 1) % 2 ^ 32)

theorem exec_snapStrobe_series {s : State} (ha : s.folio.armed = true) (hc : s.param 0x2452 1 ≤ s.cellNow) (hr : s.boot.recovery = false)
    (hp : 0 < s.param 0x2452 3) : exec .snapStrobe s =
      .next ((s.latchBank (s.param 0x2452 2 % 2)).strobeOn (s.param 0x2452 3) (s.param 0x2452 2)) := by
  change execSnapStrobe s = _
  exact (if_neg (State.strobe_due ha hc hr)).trans (if_neg (Nat.pos_iff_ne_zero.1 hp))

theorem exec_sampleDrain_record {s : State} {n : Fin 32} {x : List Byte} {r : List (List Byte)} (h : (s.nib n).precise = x :: r) :
    exec (.sampleDrain n) s = .next ((s.updNib n (fun y => { y with precise := r })).storeSample n x) := by
  change execSampleDrain n s = _
  rw [execSampleDrain, h]

theorem exec_sampleDrain_empty {s : State} {n : Fin 32} (h : (s.nib n).precise = []) : exec (.sampleDrain n) s = .next s := by
  change execSampleDrain n s = _
  rw [execSampleDrain, h]

/-! ### Windows -/

theorem State.hitWindow_some {s : State} {j a k : Nat} {w : Window} (h : s.hitWindow j a = some (k, w)) :
    (k, w) ∈ s.jobWindows j ∧ w.base ≤ a ∧ a < w.base + 4096 * w.pages := by
  have hin := List.find?_some h
  simp only [Bool.and_eq_true, decide_eq_true_eq] at hin
  exact ⟨List.mem_of_find?_eq_some h, hin⟩

theorem State.hitWindow_isSome {s : State} {j a : Nat} {x : Nat × Window} (hx : x ∈ s.jobWindows j) (h1 : x.2.base ≤ a)
    (h2 : a < x.2.base + 4096 * x.2.pages) : (s.hitWindow j a).isSome = true := by
  refine List.find?_isSome.2 ⟨x, hx, ?_⟩
  have h3 : a < x.2.base + x.2.len := h2
  simp [h1, h3]

theorem State.translate_target {s : State} {r : LigReq} {k : Nat} {w : Window} (h : s.hitWindow r.job r.addr = some (k, w)) :
    (s.translate r).target = (if w.kind = 1 then s.poolBase else 0) + (w.target + (r.addr - w.base)) := by
  simp only [State.translate, h]
  split
  · rfl
  · exact (Nat.zero_add _).symm

/-- A request that passes the checks has a size of 4,096 bytes at most and is aligned to it (R306). -/
theorem State.ligCheck_ok {s : State} {j typ a size op k : Nat} {w : Window} (hw : s.hitWindow j a = some (k, w))
    (h : s.ligCheck j typ a size op = 0) : size ≤ 12 ∧ a % 2 ^ size = 0 := by
  have hsize : size ≤ 12 := by
    by_contra hs
    rw [State.ligCheck, if_pos (by omega)] at h
    omega
  refine ⟨hsize, ?_⟩
  by_contra ha
  rw [State.ligCheck, if_neg (by omega), hw] at h
  dsimp only at h
  rw [if_pos ha] at h
  generalize (!bit w.rights _) = right at h
  cases right <;> simp at h

/-- An aligned range that starts below an end which its size divides ends there at the latest. -/
theorem aligned_range_le {a e m : Nat} (ha : a % m = 0) (he : e % m = 0) (h : a < e) : a + m ≤ e := by
  obtain ⟨x, rfl⟩ := Nat.dvd_of_mod_eq_zero ha
  obtain ⟨y, rfl⟩ := Nat.dvd_of_mod_eq_zero he
  have hxy : x < y := lt_of_mul_lt_mul_left h (Nat.zero_le m)
  calc m * x + m = m * (x + 1) := rfl
    _ ≤ m * y := Nat.mul_le_mul_left m hxy

theorem window_end_aligned {b p size : Nat} (hb : b % 4096 = 0) (hs : size ≤ 12) : (b + 4096 * p) % 2 ^ size = 0 := by
  have hdvd : 2 ^ size ∣ 4096 := pow_dvd_pow 2 hs
  exact Nat.mod_eq_zero_of_dvd (dvd_add (hdvd.trans (Nat.dvd_of_mod_eq_zero hb)) (hdvd.mul_right p))

/-! ### Stores -/

/-- A store changes the bytes and the poison of memory, and counts. -/
theorem State.writeMem_rest (s : State) (a : Nat) (b : List Byte) :
    ({ s.writeMem a b with mem := { (s.writeMem a b).mem with bytes := s.mem.bytes, poisoned := s.mem.poisoned }, counters := s.counters } :
      State) = s := by
  obtain ⟨c, h⟩ := s.countPages_rest a 2 b.length
  unfold State.writeMem
  rw [h]
  rfl

theorem State.byte_writeMem_other {s : State} {a j : Nat} {b : List Byte} (h : j < a ∨ a + b.length ≤ j) :
    (s.writeMem a b).mem.byte j = s.mem.byte j := by
  rw [State.writeMem, State.modMem_mem, State.countPages_mem]
  exact MemSt.byte_writeLpd_other h

/-- A filter by key leaves every entry that it keeps. -/
theorem Tab.get_filter_kept {α : Type} {d : α} (p : Nat → Bool) {k : Nat} (h : p k = true) (t : Tab α) :
    Tab.get d (t.filter (fun e => p e.1)) k = t.get d k := by
  induction t with
  | nil => rfl
  | cons x r ih =>
    by_cases hx : p x.1
    · simp only [List.filter, hx, Tab.get, ih]
    · have hne : x.1 ≠ k := fun e => hx (e ▸ h)
      simp only [List.filter, hx, Tab.get, hne, if_false, ih]

/-- A store leaves the poison of every line that it does not write whole (R336, R342). -/
theorem State.poisoned_writeMem {s : State} {a x : Nat} {b : List Byte} (h : ¬ (a ≤ 64 * x ∧ 64 * x + 64 ≤ a + b.length)) :
    (s.writeMem a b).mem.poisoned.get false x = s.mem.poisoned.get false x := by
  have hkept : (!(decide (a ≤ 64 * x) && decide (64 * x + 64 ≤ a + b.length))) = true := by
    rw [← Bool.decide_and, decide_eq_false h, Bool.not_false]
  rw [State.writeMem, State.modMem_mem, State.countPages_mem]
  exact Tab.get_filter_kept (fun y => !(a ≤ 64 * y && 64 * y + 64 ≤ a + b.length)) hkept s.mem.poisoned

end Sys2Proof.Machine

open Sys2Proof Sys2Proof.Machine

/-- Settles O52, from one rule for each case of a strobe and of a drain. -/
theorem folioStrobes : Obligations.FolioStrobes := by
  unfold Obligations.FolioStrobes
  refine ⟨?single, ?series, ?disarmed, ?early, ?drain, ?empty⟩
  case single => exact fun s ha hc hr hp => exec_snapStrobe_single ha hc hr hp
  case series =>
    refine fun s ha hc hr hp => ⟨_, _, rfl, exec_snapStrobe_series ha hc hr hp, rfl, rfl, ?_, ?_⟩
    · simp [State.strobeOn, State.param_setParam]
    · simp [State.strobeOn, State.param_setParam]
  case disarmed => exact fun s h => exec_snapStrobe_waits (.inl h)
  case early => exact fun s h => exec_snapStrobe_waits (.inr h)
  case drain => exact fun s n x r h => exec_sampleDrain_record h
  case empty => exact fun s n h => exec_sampleDrain_empty h

/-- Settles O9, from what a hit says, and as a request's size divides a window's end. -/
theorem windowTranslation : Obligations.WindowTranslation := by
  unfold Obligations.WindowTranslation
  refine ⟨fun s j a k w h => State.hitWindow_some h, fun s j a x hx h1 h2 => State.hitWindow_isSome hx h1 h2,
    fun s r k w h => State.translate_target h, fun s j typ a size op k w hw h hb => ?_⟩
  obtain ⟨_, _, hlt⟩ := State.hitWindow_some hw
  obtain ⟨hs, ha⟩ := State.ligCheck_ok hw h
  exact ⟨hs, ha, aligned_range_le ha (window_end_aligned hb hs) hlt⟩

/-- Settles O12, from what a store writes and what it leaves. -/
theorem quillStores : Obligations.QuillStores := by
  unfold Obligations.QuillStores
  intro s p a l hd hl h1 h2 hp hz
  have hfill : s.mem.fillPassed a l.length = true := by simp [MemSt.fillPassed, hz]
  refine ⟨s.writeMem a l, ?_, fun i h => s.byte_writeMem h, fun b hb => State.byte_writeMem_other hb, fun x hx => State.poisoned_writeMem hx,
    s.writeMem_rest a l⟩
  rw [exec_quillMemoryAccess_goodStore hd hl h1 h2 hp, if_pos hfill]

end

section
/-!
PROOFS. NIB_PROG_CMD's commands accepted, and a load abandoned (R259, R260, R262).
-/

namespace Sys2Proof.Machine

theorem objRow_progCmd : objRow 0x2302 1 = some (commandRow 0x2302) := by decide +kernel

/-- The word `v` spells a command of NIB_PROG_CMD with the number and the tag that `arg` holds (R260). -/
def ProgWord (v cmd arg : Nat) : Prop := bits v 31 24 = cmd ∧ bits v 23 16 = bits arg 23 16 ∧ bits v 15 0 = bits arg 15 0

theorem progWord_of_lt {cmd arg : Nat} (hc : cmd < 256) (ha : arg < 2 ^ 24) : ProgWord (cmd * 2 ^ 24 + arg) cmd arg := by
  simp only [ProgWord, bits, Nat.reducePow, Nat.reduceSub, Nat.reduceAdd]
  omega

/-- An argument that is a tag alone names program 0. -/
theorem ProgWord.tag {v cmd arg : Nat} (h : ProgWord v cmd arg) (ha : arg < 65536) :
    bits v 31 24 = cmd ∧ bits v 23 16 = 0 ∧ bits v 15 0 = arg := by
  obtain ⟨hcmd, hp, ht⟩ := h
  refine ⟨hcmd, hp.trans ?_, ht.trans ?_⟩
  · simp only [bits, Nat.reducePow, Nat.reduceSub, Nat.reduceAdd]
    omega
  · simp only [bits, Nat.reducePow, Nat.reduceSub, Nat.reduceAdd]
    omega

/-- What an accepted command leaves of itself: its tag, and when it was taken (R260). -/
def State.progTouch (s : State) (tag : Nat) : State := s.modProgs (fun x => { x with lastTag := tag, lastTouch := s.now })

/-- A command that the control plane of the Nibs accepts is served with OK. -/
theorem WriteAdmitted.next_progWrite {s a u : State} {r : Req} {cmd : Nat} {arg : BitVec 24}
    (h : WriteAdmitted s r 0x2302 1 (cmd * 2 ^ 24 + arg.toNat) a) (hc : cmd < 256)
    (hact : ∀ v, ProgWord v cmd arg.toNat → progCommand a v = .ok u) :
    (.next (progWrite s r cmd arg) : Out) = .next (writeOk u r 0x2302 1 (cmd * 2 ^ 24 + arg.toNat)) := by
  have hword : command32 cmd arg.toNat = cmd * 2 ^ 24 + arg.toNat := congrArg _ (Nat.mod_eq_of_lt arg.isLt)
  rw [progWrite, hword, h.serveCommand objRow_progCmd (by omega) (hact _ (progWord_of_lt hc arg.isLt))]

section
variable {a : State} {v arg : Nat}

theorem progCommand_beginLoad (hw : ProgWord v 1 arg) (ha : arg < 65536) (h2 : a.progs.state ≠ 2) : progCommand a v =
    .ok (((a.modProgs (fun x => { x with state := 1, buffer := [] })).modCodex (fun c =>
      { c with loads := c.loads.put {} 0x2303 { active := true } })).progTouch arg) := by
  obtain ⟨hcmd, hp, ht⟩ := hw.tag ha
  simp [progCommand, hcmd, hp, ht, h2, State.progTouch]

theorem progCommand_install (hw : ProgWord v 2 arg) (ha : arg < 65536) (h2 : a.progs.state ≠ 2) (hs : a.stacks ≠ 0) : progCommand a v =
    .ok ((((a.installImage a.progs.buffer).modProgs (fun x => { x with state := 0 })).resumeInstalls).progTouch arg) := by
  obtain ⟨hcmd, hp, ht⟩ := hw.tag ha
  simp [progCommand, hcmd, hp, ht, h2, hs, State.progTouch]

theorem progCommand_uninstall (hw : ProgWord v 3 arg) (h0 : a.progs.state = 0) (hb : a.programBusy (bits arg 23 16) = false) :
    progCommand a v = .ok ((a.uninstall (bits arg 23 16)).progTouch (bits arg 15 0)) := by
  obtain ⟨hcmd, hp, ht⟩ := hw
  simp [progCommand, hcmd, hp, ht, h0, hb, State.progTouch]

/-- Pinning a program that is pinned changes nothing but the tag (R260). -/
theorem progCommand_pin (hw : ProgWord v 4 arg) (h0 : a.progs.state = 0) (hs : (a.program (bits arg 23 16)).isSome = true)
    (hc : a.progs.pinned.contains (bits arg 23 16) = true) : progCommand a v = .ok (a.progTouch (bits arg 15 0)) := by
  obtain ⟨hcmd, hp, ht⟩ := hw
  have hn : (a.program (bits arg 23 16)).isNone = false := by simpa using hs
  unfold progCommand
  simp only [hcmd, hp, ht, h0, hn, hc]
  rfl

theorem progCommand_unpin (hw : ProgWord v 5 arg) (h0 : a.progs.state = 0) : progCommand a v =
    .ok ((a.modProgs (fun x => { x with pinned := x.pinned.filter (· ≠ bits arg 23 16) })).progTouch (bits arg 15 0)) := by
  obtain ⟨hcmd, hp, ht⟩ := hw
  simp [progCommand, hcmd, hp, ht, h0, State.progTouch]

end

theorem exec_progLoadAbandon_due {s : State} (h1 : s.progs.state = 1) (ht : s.progs.lastTouch + 60 * 10 ^ 12 ≤ s.now) :
    exec .progLoadAbandon s = .next (((s.modProgs (fun x => { x with state := 0, buffer := [] })).modCodex (fun c =>
      { c with loads := c.loads.put {} 0x2303 {} })).resumeInstalls) := by
  change execProgLoadAbandon s = _
  exact if_pos (by simp only [h1, ht, decide_true, Bool.and_self])

end Sys2Proof.Machine

open Sys2Proof Sys2Proof.Machine

/-- Settles O34, from what each command does and what serving an admitted write answers. -/
theorem programCommandsAccepted : Obligations.ProgramCommandsAccepted := by
  unfold Obligations.ProgramCommandsAccepted
  refine ⟨?load, ?install, ?uninstall, ?pin, ?unpin, ?abandon⟩
  case load =>
    intro s a r arg h ha h2
    rw [← Nat.one_mul (2 ^ 24)] at h ⊢
    exact h.next_progWrite (by decide) (fun v hw => progCommand_beginLoad hw ha h2)
  case install => exact fun s a r arg h ha h2 hs => h.next_progWrite (by decide) (fun v hw => progCommand_install hw ha h2 hs)
  case uninstall => exact fun s a r arg h h0 hb => h.next_progWrite (by decide) (fun v hw => progCommand_uninstall hw h0 hb)
  case pin => exact fun s a r arg h h0 hs hc => h.next_progWrite (by decide) (fun v hw => progCommand_pin hw h0 hs hc)
  case unpin => exact fun s a r arg h h0 => h.next_progWrite (by decide) (fun v hw => progCommand_unpin hw h0)
  case abandon => exact fun s h1 ht => exec_progLoadAbandon_due h1 ht

end

section
/-!
PROOFS. What serving an admitted request answers (R400, R404), and accepted writes of the snapshot, reset, credential, Chop, Blotter and
Proof objects (R376, R411, R426, R434, R435, R438, R464, R473).
-/

namespace Sys2Proof.Machine

/-! ### Serving an admitted request -/

/-- The response to a request that passed the first checks: its answer, or its error and nothing else (R404). -/
def dopAnswered (a : State) (q : DopReq) : Except DopStatus DopAnswer → State
  | .error e => dopRespond a q e false []
  | .ok x => dopRespond x.st q x.status x.last x.data

/-- A request that is not resent finds no kept response. -/
theorem ReqAdmitted.find_none {s a : State} {q : DopReq} {role : Nat} (h : ReqAdmitted s q role a) :
    a.codex.responses.find? (fun x => x.src = q.src && x.key = q.key) = none := by
  obtain ⟨_, _, _, _, _, new, _⟩ := h
  exact List.find?_eq_none.2 fun x hx hm => new x hx (by simpa using hm)

theorem ReqAdmitted.dopServe {s a : State} {q : DopReq} {role : Nat} (h : ReqAdmitted s q role a)
    (act : Nat → Except DopStatus DopAnswer) : dopServe a q act = dopAnswered a q (act role) := by
  have hfind := h.find_none
  obtain ⟨_, up, reach, flags, op, _, adm⟩ := h
  unfold Machine.dopServe
  rw [up, reach, flags, hfind, ite_self, adm]
  simp only [Bool.not_true, Bool.or_self, Bool.false_eq_true, if_false, Bool.false_or, decide_eq_true_eq, op]
  cases act role <;> rfl

theorem WriteAdmitted.req {s a : State} {r : Req} {idx sub v : Nat} (h : WriteAdmitted s r idx sub v a) :
    ∃ role, ReqAdmitted s (writeReq r idx sub v) role a ∧ writeRole idx ≤ role := by
  obtain ⟨ha, up, reach, new, role, adm, hrole⟩ := h
  have hflags : bit (writeReq r idx sub v).flags 0 = false := by simp [writeReq, bit]
  exact ⟨role, ⟨ha, up, reach, hflags, by simp [writeReq], new, adm⟩, hrole⟩

/-- A written value that spells the object's type, by a role that may write it, passes the checks of the object (R400). -/
theorem dopWriteAllowed_writeReq {r : Req} {idx sub v role : Nat} {row : ObjRow} (hrole : writeRole idx ≤ role)
    (hrow : objRow idx sub = some row) (hsub : sub ≠ 0) (hacc : row.acc ≠ .ro ∧ row.acc ≠ .const) (htyp : ∀ n, row.typ ≠ .domain n)
    (hv : v < 256 ^ row.typ.size) : dopWriteAllowed (writeReq r idx sub v) role = .ok row := by
  obtain ⟨hro, hconst⟩ := hacc
  obtain ⟨hlen, _⟩ := writtenValue_writeReq r idx sub v row hrow htyp hv
  have hidx : (writeReq r idx sub v).idx = idx := rfl
  have hsub' : (writeReq r idx sub v).sub = sub := rfl
  unfold dopWriteAllowed
  simp only [hidx, hsub', hrow, hsub, decide_false, Bool.false_and, Bool.false_eq_true, if_false, hlen, if_true, Nat.not_lt.2 hrole]
  cases ha : row.acc <;> simp_all

/-- An admitted write of an object is served with OK and its effect, or with the object's own error and nothing else (R404). -/
theorem WriteAdmitted.serveBoth {s a : State} {r : Req} {idx sub v : Nat} {row : ObjRow} {act : State → Nat → Except DopStatus State}
    (h : WriteAdmitted s r idx sub v a) (hrow : objRow idx sub = some row) (hsub : sub ≠ 0) (hacc : row.acc ≠ .ro ∧ row.acc ≠ .const)
    (htyp : ∀ n, row.typ ≠ .domain n) (hv : v < 256 ^ row.typ.size) :
    serveWrite s r idx sub v act = match act a v with
      | .ok u => writeOk u r idx sub v
      | .error e => dopRespond a (writeReq r idx sub v) e false [] := by
  obtain ⟨role, hreq, hrole⟩ := h.req
  obtain ⟨ha, _⟩ := h
  obtain ⟨_, hval⟩ := writtenValue_writeReq r idx sub v row hrow htyp hv
  have hserve : serveWrite s r idx sub v act = dopServe a (writeReq r idx sub v) (dopWriteAct (writeReq r idx sub v) (act a)) := by
    rw [serveWrite, ← ha]
  rw [hserve, hreq.dopServe, dopWriteAct, dopWriteAllowed_writeReq hrole hrow hsub hacc htyp hv]
  dsimp only
  rw [hval]
  cases act a v <;> rfl

/-! ### The objects -/

theorem objRow_snapCmd : objRow 0x2451 1 = some (commandRow 0x2451) := by decide +kernel
theorem objRow_resetCmd : objRow 0x1E00 1 = some (commandRow 0x1E00) := by decide +kernel
theorem objRow_blotterCmd : objRow 0xA502 1 = some (commandRow 0xA502) := by decide +kernel
theorem objRow_proofCmd : objRow 0x2483 1 = some (commandRow 0x2483) := by decide +kernel

theorem objRow_cred (k : Fin 8) : objRow 0x1020 (1 + k.val) =
    some { idx := 0x1020, sub := 1, subs := 8, typ := .bytes 40, acc := .rw, hi := 2 ^ 320 - 1 } := by
  revert k
  decide +kernel

theorem objRow_intervalMin : objRow 0x1102 1 = some { idx := 0x1102, sub := 1, typ := .u8, acc := .rw, reset := 15, lo := 1, hi := 60 } := by
  decide +kernel

theorem objRow_cal : objRow 0x1102 2 = some { idx := 0x1102, sub := 2, typ := .bytes 16, acc := .wo } := by decide +kernel

/-- The rows at an index, and of these the one that holds the subindex. -/
theorem objRows_find (idx sub : Nat) : objRows.find? (fun r => r.covers idx sub) =
    (objRows.filter (fun r => r.idx ≤ idx && idx < r.idx + r.n)).find? (fun r => r.sub ≤ sub && sub < r.sub + r.subs) := by
  simp only [List.find?_filter, ObjRow.covers, Bool.and_assoc, Bool.decide_and, Bool.decide_eq_true]

/-- ACCOUNT_MAP has its indices to itself (R434). -/
theorem objRows_accountMap (i : Fin 16) : counterHighest (0x1110 + i.val) = none ∧
    objRows.filter (fun r => r.idx ≤ 0x1110 + i.val && 0x1110 + i.val < r.idx + r.n) =
      [{ idx := 0x1110, n := 16, sub := 1, subs := 64, typ := .u16, acc := .rw, hi := 65535 }] := by
  revert i
  decide +kernel

theorem objRow_accountMap (i : Fin 16) (j : Fin 64) : objRow (0x1110 + i.val) (1 + j.val) =
    some { idx := 0x1110, n := 16, sub := 1, subs := 64, typ := .u16, acc := .rw, hi := 65535 } := by
  obtain ⟨hcount, hrows⟩ := objRows_accountMap i
  have hsub : 1 + j.val < 1 + 64 := by omega
  rw [objRow, hcount]
  dsimp only
  rw [objRows_find, hrows]
  exact List.find?_cons_of_pos (by simp only [Nat.le_add_right, hsub, decide_true, Bool.and_self])

/-! ### SNAP_CMD -/

/-- A command of Folio that is accepted is served with OK. -/
theorem WriteAdmitted.next_snapWrite {s a u : State} {r : Req} {cmd : Nat} {arg : BitVec 24}
    (h : WriteAdmitted s r 0x2451 1 (cmd * 2 ^ 24 + arg.toNat) a) (hc : cmd < 256)
    (hact : snapCommand a (cmd * 2 ^ 24 + arg.toNat) = .ok u) :
    (.next (snapWrite s r cmd arg) : Out) = .next (writeOk u r 0x2451 1 (cmd * 2 ^ 24 + arg.toNat)) := by
  have hword : command32 cmd arg.toNat = cmd * 2 ^ 24 + arg.toNat := congrArg _ (Nat.mod_eq_of_lt arg.isLt)
  rw [snapWrite, hword, h.serveCommand objRow_snapCmd (by omega) hact]

/-- A snapshot is armed for an instant from 0.1 s to 6,000 s ahead (R376). -/
theorem snapCommand_arm {a : State} (hd : a.folio.armed = false) (hlo : a.cellNow + 97657 ≤ a.param 0x2452 1)
    (hhi : a.param 0x2452 1 ≤ a.cellNow + 5859375000) : snapCommand a (1 * 2 ^ 24 + 0) =
      .ok (a.modFolio (fun f => { f with armed := true, snapAt0 := a.param 0x2452 1, strobe := 0 })) := by
  have hlo' : ¬ a.param 0x2452 1 < a.cellNow + 97657 := Nat.not_lt.2 hlo
  have hhi' : ¬ a.cellNow + 5859375000 < a.param 0x2452 1 := Nat.not_lt.2 hhi
  simp [snapCommand, bits, hd, hlo', hhi']

theorem snapCommand_disarm {a : State} (hd : a.folio.armed = true) :
    snapCommand a (2 * 2 ^ 24 + 0) = .ok (a.modFolio (fun f => { f with armed := false })) := by
  simp [snapCommand, bits, hd]

/-- What the word of HOLD or RELEASE spells. -/
theorem snapWord_fields {cmd bank : Nat} (hc : cmd < 256) (hb : bank ≤ 1) : bits (cmd * 2 ^ 24 + bank) 31 24 = cmd ∧
    bits (cmd * 2 ^ 24 + bank) 23 1 = 0 ∧ bits (cmd * 2 ^ 24 + bank) 0 0 = bank := by
  simp only [bits, Nat.reducePow, Nat.reduceSub, Nat.reduceAdd]
  omega

theorem snapCommand_hold {a : State} {bank : Nat} (hb : bank ≤ 1) :
    snapCommand a (3 * 2 ^ 24 + bank) = .ok (a.updBank bank (fun b => { b with held := true })) := by
  obtain ⟨hcmd, hz, hbank⟩ := snapWord_fields (cmd := 3) (by decide) hb
  generalize 3 * 2 ^ 24 + bank = v at hcmd hz hbank ⊢
  simp [snapCommand, hcmd, hz, hbank]

theorem snapCommand_release {a : State} {bank : Nat} (hb : bank ≤ 1) :
    snapCommand a (4 * 2 ^ 24 + bank) = .ok (a.updBank bank (fun b => { b with held := false })) := by
  obtain ⟨hcmd, hz, hbank⟩ := snapWord_fields (cmd := 4) (by decide) hb
  generalize 4 * 2 ^ 24 + bank = v at hcmd hz hbank ⊢
  simp [snapCommand, hcmd, hz, hbank]

/-! ### RESET_CMD and CRED -/

theorem exec_warmResetCommand_accepted {s a : State} {r : Req} (h : WriteAdmitted s r 0x1E00 1 (2 ^ 24) a) : exec (.warmResetCommand r 0) s =
    .next (writeOk (a.modCodex (fun c => { c with resetDue := true })) r 0x1E00 1 (2 ^ 24)).afterServe :=
  congrArg (fun t => Host.Outcome.next (State.afterServe t)) (h.serveCommand objRow_resetCmd (by decide) rfl)

/-- A credential whose role, enable and reserved bytes are in range is kept, where its configuration record has a place (R426). -/
theorem credWrite_inRange {a : State} {v : Nat} (k : Fin 8) (hlt : v < 2 ^ 320) (hrole : v / 2 ^ 256 % 256 ≤ 3)
    (hen : v / 2 ^ 264 % 256 ≤ 1) (hz : v / 2 ^ 272 = 0) : credWrite (1 + k.val) a v =
      (a.storeConfig 0x1020 (1 + k.val) v).elim (.error .range) (fun u => .ok (u.setParam 0x1020 (1 + k.val) v)) := by
  have hhi : ¬ 2 ^ 320 - 1 < v := Nat.not_lt.2 (Nat.le_sub_one_of_lt hlt)
  rw [credWrite, if_neg (by simp only [Nat.not_lt.2 hrole, Nat.not_lt.2 hen, hz]; decide), configWrite, objRow_cred k]
  dsimp only
  rw [decide_eq_false hhi, decide_eq_false (Nat.not_lt_zero v), if_neg (by decide)]
  cases a.storeConfig 0x1020 (1 + k.val) v <;> rfl

theorem exec_credWrite_inRange {s a : State} {r : Req} {k : Fin 8} {v : BitVec 320} (h : WriteAdmitted s r 0x1020 (1 + k) v.toNat a)
    (hrole : v.toNat / 2 ^ 256 % 256 ≤ 3) (hen : v.toNat / 2 ^ 264 % 256 ≤ 1) (hz : v.toNat / 2 ^ 272 = 0) :
    exec (.credWrite r k v) s = .next (match a.storeConfig 0x1020 (1 + k) v.toNat with
      | some u => writeOk (u.setParam 0x1020 (1 + k) v.toNat) r 0x1020 (1 + k) v.toNat
      | none => dopRespond a (writeReq r 0x1020 (1 + k) v.toNat) .range false []) := by
  change Host.Outcome.next (serveWrite s r 0x1020 (1 + k.val) v.toNat (credWrite (1 + k.val))) = _
  rw [h.serveBoth (objRow_cred k) (by omega) ⟨nofun, nofun⟩ nofun (v.isLt.trans_eq (pow_mul 2 8 40)),
    credWrite_inRange k v.isLt hrole hen hz]
  cases a.storeConfig 0x1020 (1 + k.val) v.toNat <;> rfl

/-! ### Chop -/

theorem exec_intervalMinWrite_accepted {s a : State} {r : Req} {v : BitVec 8} (h : WriteAdmitted s r 0x1102 1 v.toNat a)
    (h1 : 1 ≤ v.toNat) (h60 : v.toNat ≤ 60) (hu : a.chop.unsealed = true) : exec (.intervalMinWrite r v) s =
      .next (writeOk (a.modChop (fun c => { c with newInterval := some v.toNat, audit := min (c.audit + 1) 0xFFFFFFFF })) r 0x1102 1 v.toNat) := by
  have hact : intervalWrite a v.toNat = .ok (a.modChop (fun c => { c.auditUp with newInterval := some v.toNat })) := by
    rw [intervalWrite, if_neg (by simp only [Nat.not_lt.2 h1, Nat.not_lt.2 h60]; decide), if_neg (by simp [hu])]
  exact congrArg Host.Outcome.next (h.serve objRow_intervalMin (by decide) (by simp) (by simp) v.isLt hact)

/-- CAL, where the seal is open and the key stands, is signed and stored (R440). -/
theorem exec_calWrite_accepted {s a : State} {r : Req} {v : BitVec 128} {k : Nat × Nat × Int × Int}
    (h : WriteAdmitted s r 0x1102 2 v.toNat a) (hk : calOf (leBytes 16 v.toNat) = some k) (hu : a.chop.unsealed = true)
    (hkey : a.chop.keyReady = true) : exec (.calWrite r v) s =
      .next (writeOk ((a.modChop (fun c => { c.auditUp with cal := some k })).storeData 0x0012
        (leBytes 16 v.toNat ++ a.chop.pubKey ++ (Config.ed25519Sign 2 (leBytes 16 v.toNat ++ a.chop.pubKey)).toList)) r 0x1102 2 v.toNat) := by
  refine congrArg Host.Outcome.next (h.serve objRow_cal (by decide) (by simp) (by simp) v.isLt ?_)
  unfold calWrite
  dsimp only
  rw [hk]
  exact if_neg (by rw [hu, hkey]; decide)

theorem exec_accountMapWrite_accepted {s a : State} {r : Req} {p : Fin 1024} {v : BitVec 16}
    (h : WriteAdmitted s r (0x1110 + p.val / 64) (1 + p.val % 64) v.toNat a) (hz : bits v.toNat 14 10 = 0) :
    exec (.accountMapWrite r p v) s = .next (writeOk (a.setParam (0x1110 + p.val / 64) (1 + p.val % 64) v.toNat) r (0x1110 + p.val / 64)
      (1 + p.val % 64) v.toNat) := by
  have hrow := objRow_accountMap ⟨p.val / 64, by omega⟩ ⟨p.val % 64, Nat.mod_lt _ (by decide)⟩
  exact congrArg Host.Outcome.next (h.serve hrow (by omega) (by simp) (by simp) v.isLt (if_neg (not_not.2 hz)))

/-! ### The Blotter and Proof -/

/-- What the word of a command with a 16-bit argument spells. -/
theorem commandWord_fields {cmd arg : Nat} (hc : cmd < 256) (ha : arg < 65536) : bits (cmd * 2 ^ 24 + arg) 31 24 = cmd ∧
    bits (cmd * 2 ^ 24 + arg) 23 16 = 0 ∧ bits (cmd * 2 ^ 24 + arg) 15 0 = arg := schedWord_of_lt hc ha

theorem blotterCommand_select {a : State} {v k : Nat} (hw : bits v 31 24 = 2 ∧ bits v 23 4 = 0 ∧ bits v 3 0 = k) :
    blotterCommand a v = .ok (a.modFaults (fun x => { x with selected := k })) := by
  obtain ⟨hcmd, hz, hsel⟩ := hw
  simp [blotterCommand, hcmd, hz, hsel]

/-- A test of a Nib is asked for by any source that may write PROOF_CMD (R464). -/
theorem proofCommand_nib {a : State} {src : DopSrc} {v u : Nat} (hw : bits v 31 24 = 1 ∧ bits v 23 16 = 0 ∧ bits v 15 0 = u)
    (hu : isUnit u = true) (hn : u / 256 = 0x0A) : proofCommand src a v = .ok (a.askProof u) := by
  obtain ⟨hcmd, hz, harg⟩ := hw
  simp [proofCommand, hcmd, hz, harg, hu, hn]

theorem exec_blotterDumpNow_accepted {s a : State} {r : Req} (h : WriteAdmitted s r 0xA502 1 (2 ^ 24) a) :
    exec (.blotterDumpNow r 0) s = .next (writeOk (a.startDump 3) r 0xA502 1 (2 ^ 24)) :=
  congrArg Host.Outcome.next (h.serveCommand objRow_blotterCmd (by decide) rfl)

theorem exec_blotterSelect_accepted {s a : State} {r : Req} {arg : BitVec 24} (h : WriteAdmitted s r 0xA502 1 (2 * 2 ^ 24 + arg.toNat) a)
    (ha : arg.toNat < 16) : exec (.blotterSelect r arg) s =
      .next (writeOk (a.modFaults (fun x => { x with selected := arg.toNat })) r 0xA502 1 (2 * 2 ^ 24 + arg.toNat)) := by
  have hword : command32 2 arg.toNat = 2 * 2 ^ 24 + arg.toNat := congrArg _ (Nat.mod_eq_of_lt arg.isLt)
  have hact : blotterCommand a (2 * 2 ^ 24 + arg.toNat) = .ok (a.modFaults (fun x => { x with selected := arg.toNat })) := by
    refine blotterCommand_select ?_
    simp only [bits, Nat.reducePow, Nat.reduceSub, Nat.reduceAdd]
    omega
  change Host.Outcome.next (serveWrite s r 0xA502 1 (command32 2 arg.toNat) blotterCommand) = _
  rw [hword, h.serveCommand objRow_blotterCmd (by omega) hact]

theorem exec_proofTestNow_nib {s a : State} {r : Req} {arg : BitVec 24} (h : WriteAdmitted s r 0x2483 1 (2 ^ 24 + arg.toNat) a)
    (hu : isUnit arg.toNat = true) (hn : arg.toNat / 256 = 0x0A) :
    exec (.proofTestNow r arg) s = .next (writeOk (a.askProof arg.toNat) r 0x2483 1 (2 ^ 24 + arg.toNat)) := by
  have hword : command32 1 arg.toNat = 2 ^ 24 + arg.toNat := by rw [command32, Nat.mod_eq_of_lt arg.isLt, Nat.one_mul]
  have hfields := commandWord_fields (cmd := 1) (arg := arg.toNat) (by decide) (by omega)
  rw [Nat.one_mul] at hfields
  have hact : proofCommand r.src a (2 ^ 24 + arg.toNat) = .ok (a.askProof arg.toNat) := proofCommand_nib hfields hu hn
  change Host.Outcome.next (serveWrite s r 0x2483 1 (command32 1 arg.toNat) (proofCommand r.src)) = _
  rw [hword, h.serveCommand objRow_proofCmd (by omega) hact]

end Sys2Proof.Machine

open Sys2Proof Sys2Proof.Machine

/-- Settles O35, from what each object's command accepts and what serving an admitted write answers. -/
theorem serviceWritesAccepted : Obligations.ServiceWritesAccepted := by
  unfold Obligations.ServiceWritesAccepted
  refine ⟨?arm, ?disarm, ?hold, ?release, ?reset, ?cred, ?interval, ?cal, ?map, ?dump, ?select, ?proof⟩
  case arm => exact fun s a r h hd hlo hhi => h.next_snapWrite (cmd := 1) (arg := 0) (by decide) (snapCommand_arm hd hlo hhi)
  case disarm => exact fun s a r h hd => h.next_snapWrite (cmd := 2) (arg := 0) (by decide) (snapCommand_disarm hd)
  case hold => exact fun s a r arg h hb => h.next_snapWrite (by decide) (snapCommand_hold hb)
  case release => exact fun s a r arg h hb => h.next_snapWrite (by decide) (snapCommand_release hb)
  case reset => exact fun s a r h => exec_warmResetCommand_accepted h
  case cred => exact fun s a r k v h hrole hen hz => exec_credWrite_inRange h hrole hen hz
  case interval => exact fun s a r v h h1 h60 hu => exec_intervalMinWrite_accepted h h1 h60 hu
  case cal => exact fun s a r v k h hk hu hkey => exec_calWrite_accepted h hk hu hkey
  case map => exact fun s a r p v h hz => exec_accountMapWrite_accepted h hz
  case dump => exact fun s a r h => exec_blotterDumpNow_accepted h
  case select => exact fun s a r arg h ha => exec_blotterSelect_accepted h ha
  case proof => exact fun s a r arg h hu hn => exec_proofTestNow_nib h hu hn

end

section
/-!
PROOFS. The command rings: what a descriptor does at issue (R351 to R358), the fence (R356), what holds a ring (R290, R296), and the ring
registers (R346 to R351).
-/

namespace Sys2Proof.Machine

/-! ### Issue -/

/-- A descriptor whose conditions of issue hold does its own work, in the state in which it was read and counted (R351). -/
theorem RingIssues.issueHead {s t : State} {g op : Nat} {b : List Byte} {d : Desc} (h : RingIssues s g op b d t) {only : List Nat}
    {what : List Byte → Bool} (hok : only = [] ∨ (only.contains op = true ∧ what b = true)) :
    s.issueHead g only what = t.issueBody g d 1 b [] := by
  obtain ⟨u, hmay, hread, hop, hfence, hcont, hservice, hd, ht, hcheck⟩ := h
  have hcont' : (decide (op = 0x21) && decide (1 ≤ byteAt b 52) && decide (byteAt b 52 ≤ 8)) = false := by
    by_cases h21 : op = 0x21
    · rw [hcont h21, h21]
      rfl
    · rw [decide_eq_false h21]
      rfl
  have honly : (decide (only ≠ []) && !(only.contains op && what b)) = false := by
    rcases hok with rfl | ⟨hc, hw⟩
    · rfl
    · rw [hc, hw, Bool.and_self, Bool.not_true, Bool.and_false]
  have hfence' : (bit (byteAt b 1) 0 && decide ((s.ring g).out_ ≠ [])) = false := by
    rcases hfence with hf | ho
    · rw [hf, Bool.false_and]
    · simp [ho]
  have hservice' : (!s.service && needsService op) = false := by
    rcases hservice with hs | hn
    · rw [hs, Bool.not_true, Bool.false_and]
    · rw [hn, Bool.and_false]
  unfold State.issueHead
  simp only [hmay, hread, Bool.not_true, Bool.false_eq_true, if_false, hop, hcont']
  rw [honly, hfence', hservice', Bool.false_and, Bool.or_self, Bool.or_self, Bool.or_self, if_neg Bool.false_ne_true]
  simp only [← hd, ← ht, hcheck]
  rfl

/-- The row of an opcode runs the descriptor at the head when that has the opcode: it leaves what the opcode's work does. -/
theorem RingIssues.next_row {s t u : State} {g op : Nat} {b : List Byte} {d : Desc} (h : RingIssues s g op b d t)
    {what : List Byte → Bool} (hw : what b = true) (hu : t.issueBody g d 1 b [] = u) :
    (.next (s.issueHead g [op] what) : Out) = .next u :=
  congrArg Host.Outcome.next ((h.issueHead (.inr ⟨by simp, hw⟩)).trans hu)

theorem RingIssues.opcode {s t : State} {g op : Nat} {b : List Byte} {d : Desc} (h : RingIssues s g op b d t) : byteAt b 0 = op := by
  obtain ⟨_, _, _, hop, _⟩ := h
  exact hop

/-- A descriptor with FENCE issues only from a ring with none outstanding (R356). -/
theorem RingIssues.fence {s t : State} {g op : Nat} {b : List Byte} {d : Desc} (h : RingIssues s g op b d t)
    (hf : bit (byteAt b 1) 0 = true) : (s.ring g).out_ = [] := by
  obtain ⟨_, _, _, _, hfence, _⟩ := h
  exact hfence.resolve_left (by rw [hf]; decide)

theorem State.issueHead_mayNot {s : State} {g : Nat} {only : List Nat} {what : List Byte → Bool} (h : (s.ring g).mayIssue = false) :
    s.issueHead g only what = s := by
  simp [State.issueHead, h]

/-- A descriptor that cannot be read halts its ring (R351). -/
theorem State.issueHead_unread {s u : State} {g : Nat} (hm : (s.ring g).mayIssue = true)
    (hr : s.dmaRead (s.ringDomain g) ((s.ring g).descBase + 64 * (s.ring g).sqHead) 64 = (none, u)) :
    s.issueHead g [] anyBody = u.haltRing g 1 := by
  simp [State.issueHead, hm, hr]

/-- A descriptor with FENCE waits while its ring has an outstanding one (R356). -/
theorem State.issueHead_fenced {s u : State} {g : Nat} {b : List Byte} (hm : (s.ring g).mayIssue = true)
    (hr : s.dmaRead (s.ringDomain g) ((s.ring g).descBase + 64 * (s.ring g).sqHead) 64 = (some b, u)) (hf : bit (byteAt b 1) 0 = true)
    (ho : (s.ring g).out_ ≠ []) : s.issueHead g [] anyBody = s := by
  simp [State.issueHead, hm, hr, hf, ho]

theorem CmdRing.mayIssue_held {r : CmdRing} (h : r.hold ≠ .none) : r.mayIssue = false := by
  simp [CmdRing.mayIssue, h]

theorem CmdRing.mayIssue_disabled {r : CmdRing} (h : r.enable = false) : r.mayIssue = false := by
  simp [CmdRing.mayIssue, h]

/-! ### What each opcode does -/

section
variable {t : State} {g entries : Nat} {d : Desc} {b : List Byte} {params : List Nat}

theorem State.issueBody_nop (h : byteAt b 0 = 1) : t.issueBody g d entries b params =
    (t.takeDesc g d 1).completeDesc g d.no (if leAt b 16 48 = 0 then 0 else 1) 0 0 := by
  simp only [State.issueBody, h]

theorem State.issueBody_installProgram (h : byteAt b 0 = 2) : t.issueBody g d entries b params = t.issueInstall g d b := by
  simp only [State.issueBody, h]

theorem State.issueBody_copy (h : byteAt b 0 = 3) : t.issueBody g d entries b params = t.issueCopy g d b := by
  simp only [State.issueBody, h]

theorem State.issueBody_semOp (h : byteAt b 0 = 0x23) : t.issueBody g d entries b params = t.issueSemOp g d b := by
  simp only [State.issueBody, h]

theorem State.issueBody_semSave (h : byteAt b 0 = 0x24) : t.issueBody g d entries b params = t.issueSemSave g d b := by
  simp only [State.issueBody, h]

theorem State.issueBody_semRestore (h : byteAt b 0 = 0x25) : t.issueBody g d entries b params = t.issueSemRestore g d b := by
  simp only [State.issueBody, h]

theorem State.issueBody_jobPrepare (h : byteAt b 0 = 0x40) : t.issueBody g d entries b params =
    (t.takeDesc g d 1).jobPrepare g d.no (leAt b 2 2) (byteAt b 4) b := by
  simp only [State.issueBody, h]

theorem State.issueBody_jobTeardown (h : byteAt b 0 = 0x41) (h4 : byteAt b 16 < 4) (hz : leAt b 17 47 = 0) :
    t.issueBody g d entries b params = (t.takeDesc g d 1).jobTeardown d.no (leAt b 2 2) (byteAt b 16) := by
  simp only [State.issueBody, h, Nat.not_le.2 h4, hz]
  rfl

theorem State.issueBody_jobAbort (h : byteAt b 0 = 0x42) (hz : leAt b 16 48 = 0) :
    t.issueBody g d entries b params = (t.takeDesc g d 1).jobAbortOp d.no (leAt b 2 2) := by
  simp only [State.issueBody, h, hz]
  rfl

/-- REDUCE, PROGRAM and COUNTS register a range (R281). -/
theorem State.issueBody_range (h : byteAt b 0 = 0x20 ∨ byteAt b 0 = 0x21 ∨ byteAt b 0 = 0x22) :
    t.issueBody g d entries b params = t.issueRange g d entries b params := by
  rcases h with h | h | h <;> simp only [State.issueBody, h]

end

/-! ### What holds a ring -/

section
variable {s : State} {g : Fin 4096} {q : Register} {w : SemWait}

theorem exec_rangeRegister_fits (h : s.heldRegister g = some q) (ho : s.rangeOverlaps q.range = false) (hf : s.fitsNow q.range = true) :
    exec (.rangeRegister g) s = .next (s.rangeIssued q) := by
  change execRangeRegister g s = _
  simp [execRangeRegister, h, ho, hf]

theorem exec_rangeRegister_waits (h : s.heldRegister g = some q) (ho : s.rangeOverlaps q.range = false) (hf : s.fitsNow q.range = false) :
    exec (.rangeRegister g) s = .next s := by
  change execRangeRegister g s = _
  simp [execRangeRegister, h, ho, hf]

/-- A registration that is held is looked at against TIMEOUT_US (R290). -/
theorem exec_registerTimeout_held (h : s.heldRegister g = some q) : exec (.registerTimeout g) s =
    .next (if s.now < q.since + recTimeout (s.slot (jobSlot q.range.job)).record.coll * 1000000 then s else s.rangeRefused q 7) := by
  change execRegisterTimeout g s = _
  simp only [execRegisterTimeout, h]

theorem exec_semWaitMet_reached (h : s.ringWait g = some w) (hv : w.value ≤ s.sem w.index) :
    exec (.semWaitMet g) s = .next (s.endWait w 0) := by
  change execSemWaitMet g s = _
  simp [execSemWaitMet, h, State.waitMet, hv]

/-- A wait whose value was never reached ends with SEM_TIMEOUT once WAIT_US has passed (R296). -/
theorem exec_semWaitTimeout_due (h : s.ringWait g = some w) (hm : w.met = false) (hv : s.sem w.index < w.value)
    (ht : w.since + w.limit * 1000000 ≤ s.now) : exec (.semWaitTimeout g) s = .next (s.endWait w 12) := by
  change execSemWaitTimeout g s = _
  simp [execSemWaitTimeout, h, State.waitMet, hm, hv, ht]

theorem exec_descriptorIssue_mayNot (h : (s.ring g).mayIssue = false) : exec (.descriptorIssue g) s = .next s :=
  congrArg Host.Outcome.next (State.issueHead_mayNot h)

end

/-! ### The ring registers -/

theorem State.ring_updRing_same (s : State) (g : Nat) (f : CmdRing → CmdRing) : (s.updRing g f).ring g = f (s.ring g) :=
  Tab.get_upd_same _ _

theorem State.ring_updRing_other {g h : Nat} (hne : g ≠ h) (s : State) (f : CmdRing → CmdRing) : (s.updRing h f).ring g = s.ring g :=
  Tab.get_upd_other hne _ _

/-- The pointer that a doorbell's low half holds. -/
theorem bits_low16 (v : Nat) : bits v 15 0 = v % 65536 := by
  simp [bits]

section
variable {s t : State} {f : Fin 130} {r g n : Nat} {v : BitVec 32} {w : List (Nat × List Byte)} {p : List Nat}

theorem exec_sqTailDoorbell_enabled (ht : t = s.ownerWrites f w p) (hr : t.reachRing f r = some g) (he : (t.ring g).enable = true) :
    exec (.sqTailDoorbell f r v w p) s = .next (if (t.ring g).size ≤ v.toNat % 65536 then t.haltRing g 2
      else t.updRing g (fun x => { x with sqTail := v.toNat % 65536 })) := by
  change execSqTailDoorbell f r v w p s = _
  subst ht
  simp only [execSqTailDoorbell, hr, he, bits_low16]
  exact (apply_ite Host.Outcome.next _ _ _).symm

/-- CQ_HEAD of an enabled ring: beyond the ring, or beyond the entries written, it halts the ring (R350, R351). -/
theorem exec_cqHeadDoorbell_enabled (hr : s.reachRing f r = some g) (he : (s.ring g).enable = true)
    (hn : n = (v.toNat % 65536 + (s.ring g).size - (s.ring g).cqHead) % (s.ring g).size) :
    exec (.cqHeadDoorbell f r v) s = .next (if (s.ring g).size ≤ v.toNat % 65536 ∨ (s.ring g).entries.length < n then s.haltRing g 3
      else (s.updRing g (fun x => { x with cqHead := v.toNat % 65536, entries := x.entries.drop n })).reviewRing g) := by
  change execCqHeadDoorbell f r v s = _
  subst hn
  simp only [execCqHeadDoorbell, hr, he, bits_low16, apply_ite Host.Outcome.next, Bool.or_eq_true, decide_eq_true_eq]
  rfl

/-- ENABLE written 1 on a disabled ring: the fields are stored, and then checked (R349, R350). -/
theorem exec_ringEnable_disabled (hr : s.reachRing f r = some g) (he : (s.ring g).enable = false) :
    exec (.ringEnable f r v) s =
      if ctlSize v.toNat < 4 ∨ 16 < ctlSize v.toNat ∨ fnVectors f ≤ ctlVector v.toNat then
        .next ((s.updRing g (fun x => { x with sizeLog2 := ctlSize v.toNat, vector := ctlVector v.toNat })).hostEvent f 4)
      else .next ((s.updRing g (fun x => { x with sizeLog2 := ctlSize v.toNat, vector := ctlVector v.toNat })).updRing g (fun x =>
        { x with
          enable := true, sqHead := 0, sqTail := 0, cqTail := 0, cqHead := 0, phase := true, halted := false, haltCause := 0
          entries := [] })) := by
  change execRingEnable f r v s = _
  simp only [execRingEnable, hr, he, Bool.or_eq_true, decide_eq_true_eq, or_assoc]
  rfl

theorem exec_ringDisable_enabled (hr : s.reachRing f r = some g) (he : (s.ring g).enable = true)
    (hs : ctlSize v.toNat = (s.ring g).sizeLog2) (hv : ctlVector v.toNat = (s.ring g).vector) : exec (.ringDisable f r v) s =
      if (s.ring g).out_ ≠ [] then .next (s.hostEvent f 4)
      else .next ((s.dropHold g).updRing g (fun x => { x with enable := false, sqTail := x.sqHead })) := by
  change execRingDisable f r v s = _
  simp only [execRingDisable, hr, he, hs, hv, decide_true, Bool.and_self, if_true]
  rfl

end

theorem exec_vfAssignWrite_reached {s : State} {b : Bool} {x : Fin 64} {v : BitVec 64} (hx : x.val ≠ 0)
    (hr : s.fnReaches (if b then 64 else 0) = true) : exec (.vfAssignWrite b x v) s =
      if s.assignOk (if b then .hostB else .hostA) (s.port b) x v.toNat = true then
        .next (s.updPort b (fun p => { p with assign := p.assign.put 0 x v.toNat }))
      else .next (s.hostEvent (if b then 64 else 0) 4) := by
  change execVfAssignWrite b x v s = _
  simp only [execVfAssignWrite, hx, hr]
  rfl

end Sys2Proof.Machine

open Sys2Proof Sys2Proof.Machine

/-- Settles O44, from what an issue runs and what each opcode does. -/
theorem descriptorsIssue : Obligations.DescriptorsIssue := by
  unfold Obligations.DescriptorsIssue
  refine ⟨?nop, ?install, ?copy, ?reduce, ?program, ?counts, ?wait, ?add, ?sub, ?save, ?restore, ?prepare, ?teardown, ?abort, ?any⟩
  case nop => exact fun s t g b d h => h.next_row rfl (State.issueBody_nop h.opcode)
  case install => exact fun s t g b d h => h.next_row rfl (State.issueBody_installProgram h.opcode)
  case copy => exact fun s t g b d h => h.next_row rfl (State.issueBody_copy h.opcode)
  case reduce => exact fun s t g b d h => h.next_row rfl (State.issueBody_range (.inl h.opcode))
  case program => exact fun s t g b d h => h.next_row rfl (State.issueBody_range (.inr (.inl h.opcode)))
  case counts => exact fun s t g b d h => h.next_row rfl (State.issueBody_range (.inr (.inr h.opcode)))
  case wait => exact fun s t g b d h ha => h.next_row (decide_eq_true ha) (State.issueBody_semOp h.opcode)
  case add => exact fun s t g b d h ha => h.next_row (decide_eq_true ha) (State.issueBody_semOp h.opcode)
  case sub => exact fun s t g b d h ha => h.next_row (decide_eq_true ha) (State.issueBody_semOp h.opcode)
  case save => exact fun s t g b d h => h.next_row rfl (State.issueBody_semSave h.opcode)
  case restore => exact fun s t g b d h => h.next_row rfl (State.issueBody_semRestore h.opcode)
  case prepare => exact fun s t g b d h => h.next_row rfl (State.issueBody_jobPrepare h.opcode)
  case teardown =>
    exact fun s t g b d h h4 hz => h.next_row rfl (State.issueBody_jobTeardown h.opcode h4 hz)
  case abort => exact fun s t g b d h hz => h.next_row rfl (State.issueBody_jobAbort h.opcode hz)
  case any => exact fun s t g b d op h => congrArg Host.Outcome.next (h.issueHead (.inl rfl))

/-- Settles O10, from the fence's gate at issue, and as a ring's outstanding descriptors are its own. -/
theorem fencedDescriptors : Obligations.FencedDescriptors := by
  unfold Obligations.FencedDescriptors
  refine ⟨?waits, ?issues, ?own⟩
  case waits => exact fun s u g b hm hr hf ho => congrArg Host.Outcome.next (State.issueHead_fenced hm hr hf ho)
  case issues => exact fun s t g b d op h hf => ⟨h.fence hf, congrArg Host.Outcome.next (h.issueHead (.inl rfl))⟩
  case own => exact fun s g h l hne => State.ring_updRing_other hne.symm s _

/-- Settles O45, from one rule for each case of what holds a ring. -/
theorem ringsHeld : Obligations.RingsHeld := by
  unfold Obligations.RingsHeld
  refine ⟨?fits, ?waits, ?refused, ?early, ?met, ?timeout, ?held, ?disabled, ?unread⟩
  case fits => exact fun s g q h ho hf => exec_rangeRegister_fits h ho hf
  case waits => exact fun s g q h ho hf => exec_rangeRegister_waits h ho hf
  case refused => exact fun s g q h ht => (exec_registerTimeout_held h).trans (by rw [if_neg (Nat.not_lt.2 ht)])
  case early => exact fun s g q h ht => (exec_registerTimeout_held h).trans (by rw [if_pos ht])
  case met => exact fun s g w h hv => exec_semWaitMet_reached h hv
  case timeout => exact fun s g w h hm hv ht => exec_semWaitTimeout_due h hm hv ht
  case held => exact fun s g h => exec_descriptorIssue_mayNot (CmdRing.mayIssue_held h)
  case disabled => exact fun s g h => exec_descriptorIssue_mayNot (CmdRing.mayIssue_disabled h)
  case unread => exact fun s u g hm hr => congrArg Host.Outcome.next (State.issueHead_unread hm hr)

/-- Settles O47, from what each ring register does on an enabled and on a disabled ring. -/
theorem ringRegisters : Obligations.RingRegisters := by
  unfold Obligations.RingRegisters
  refine ⟨?tail, ?tailBeyond, ?head, ?headBeyond, ?enable, ?badFields, ?disable, ?busy, ?assign, ?refused⟩
  case tail => exact fun s t f r v w p g ht hr he hv => (exec_sqTailDoorbell_enabled ht hr he).trans (by rw [if_neg (Nat.not_le.2 hv)])
  case tailBeyond => exact fun s t f r v w p g ht hr he hv => (exec_sqTailDoorbell_enabled ht hr he).trans (by rw [if_pos hv])
  case head =>
    exact fun s f r v g n hr he hv hn hl =>
      (exec_cqHeadDoorbell_enabled hr he hn).trans (by rw [if_neg (not_or.2 ⟨Nat.not_le.2 hv, Nat.not_lt.2 hl⟩)])
  case headBeyond => exact fun s f r v g hr he hv => (exec_cqHeadDoorbell_enabled hr he rfl).trans (by rw [if_pos (.inl hv)])
  case enable =>
    intro s f r v g hr he h4 h16 hvec
    refine ⟨_, (exec_ringEnable_disabled hr he).trans
      (if_neg (not_or.2 ⟨Nat.not_lt.2 h4, not_or.2 ⟨Nat.not_lt.2 h16, Nat.not_le.2 hvec⟩⟩)), ?_⟩
    simp only [State.ring_updRing_same, true_and]
    exact ⟨rfl, rfl⟩
  case badFields => exact fun s f r v g hr he hbad => (exec_ringEnable_disabled hr he).trans (if_pos hbad)
  case disable => exact fun s f r v g hr he ho hs hv => (exec_ringDisable_enabled hr he hs hv).trans (if_neg (not_not.2 ho))
  case busy => exact fun s f r v g hr he ho hs hv => (exec_ringDisable_enabled hr he hs hv).trans (if_pos ho)
  case assign => exact fun s b x v hx hr ha => (exec_vfAssignWrite_reached hx hr).trans (if_pos ha)
  case refused => exact fun s b x v hx hr ha => (exec_vfAssignWrite_reached hx hr).trans (if_neg (by rw [ha]; decide))

end

section
/-!
PROOFS. Requests and responses at Ligature, and accesses of the pool (R303 to R336).
-/

namespace Sys2Proof.Machine

/-! ### Ligature's intake -/

/-- The frame at the head of Ligature's intake is taken by the row of its TYPE (R303). -/
theorem State.takeLig_head {s : State} {f : Stored} {r : List Stored} {o typ : Nat} {act : State → Stored → Nat → State}
    (hi : s.core.intake.get [] 160 = f :: r) (ho : vftOffset f.bytes = some o) (ht : vftType f.bytes o = typ) :
    s.takeLig typ act = act (s.modCore (fun c => { c with intake := c.intake.put [] 160 r })) f o := by
  simp only [State.takeLig, hi, ho, ht, if_true]

/-! ### A home's silence -/

section
variable {s : State} {i : Fin 65536} {a : LigAccess} {p : HomePart}

/-- An access is sent again once WAIT_NS has passed (R320). -/
theorem exec_homeRetryResend_due {r : Nat} (hp : s.lig.partOf i = some (a, p)) (hr : p.retryAt = some r) (ht : r ≤ s.now) :
    exec (.homeRetryResend i) s = .next ((s.updAcc a.no (fun x => { x with parts := x.parts.map (fun q =>
      if q.id = p.id then { q with retryAt := none } else q) })).sendPart a p) := by
  change execHomeRetryResend i s = _
  simp only [execHomeRetryResend, hp, hr, Nat.not_lt.2 ht, if_false]

theorem exec_homeTimeout_due (hp : s.lig.partOf i = some (a, p)) (ht : a.dueAt p ≤ s.now) :
    exec (.homeTimeout i) s = .next (((s.dropAcc a.no).answerAll (a.members.map (fun r => (r, []))) 7).ligRun) := by
  change execHomeTimeout i s = _
  simp only [execHomeTimeout, hp, Nat.not_lt.2 ht, if_false]

theorem exec_homeTimeout_none (hp : s.lig.partOf i = none) : exec (.homeTimeout i) s = .next s := by
  change execHomeTimeout i s = _
  simp only [execHomeTimeout, hp]

end

/-! ### Accesses of the pool -/

section
variable {s : State} {n : Nat} {a : LigAccess}

/-- An issued access that the fill has passed is performed (R316). -/
theorem exec_poolAccessDone_good (hf : s.lig.accs.find? (fun a => a.no = n && a.issued && a.home.isNone) = some a)
    (hn : s.lig.accs.find? (fun a => a.no = n) = some a) (hz : s.mem.zeroDone = true) :
    exec (.poolAccessDone n [] .good) s = .next (s.performPool a false) := by
  have hpassed : s.mem.fillPassed a.addr a.bytes = true := by rw [MemSt.fillPassed, hz, Bool.true_or]
  change execPoolAccessDone n [] .good s = _
  simp [execPoolAccessDone, hf, hn, hpassed, State.forEach]

/-- An access that the fill has not passed waits for it, and is counted once (R335). -/
theorem exec_poolAccessDone_waits (hf : s.lig.accs.find? (fun a => a.no = n && a.issued && a.home.isNone) = some a)
    (hp : s.mem.fillPassed a.addr a.bytes = false) (hw : a.waited = false) :
    exec (.poolAccessDone n [] .good) s = .next (s.fillWait.updAcc n (fun x => { x with waited := true })) := by
  change execPoolAccessDone n [] .good s = _
  simp [execPoolAccessDone, hf, hp, hw]

end

theorem exec_zeroFillDone_runs {s : State} (h5 : s.boot.done.getLsbD 5 = true) (hz : s.mem.zeroDone = false) :
    exec .zeroFillDone s = .next (s.modMem (fun m => { m with zeroDone := true })).quillWaited := by
  change execZeroFillDone s = _
  simp [execZeroFillDone, h5, hz]

theorem exec_patrolRead_good {s : State} {l : Nat} (hp : s.lpdPresent (64 * l) 64 = true) (hl : 64 * l < 2 ^ 39)
    (h5 : s.boot.done.getLsbD 5 = true) (hpoison : s.mem.poisoned.get false l = false) :
    exec (.patrolRead (.lpddr l) .good) s = .next (s.countLpd (64 * l) 5 1) := by
  have hkept : ((s.countLpd (64 * l) 5 1).mem.poisoned.get false l) = false := hpoison
  change execPatrolRead (.lpddr l) .good s = _
  simp only [execPatrolRead, hp, hl, h5, hkept, decide_true, Bool.not_true, Bool.or_self, Bool.false_eq_true, if_false]

end Sys2Proof.Machine

open Sys2Proof Sys2Proof.Machine

/-- Settles O46, from what takes a frame at Ligature's intake and one rule for each case of an access. -/
theorem ligatureCommands : Obligations.LigatureCommands := by
  unfold Obligations.LigatureCommands
  refine ⟨?read, ?write, ?atomic, ?response, ?retryAfter, ?resend, ?timeout, ?unmatched, ?done, ?waits, ?fill, ?patrol⟩
  case read => exact fun s f r o hi ho ht => congrArg Host.Outcome.next (State.takeLig_head hi ho ht)
  case write => exact fun s f r o hi ho ht => congrArg Host.Outcome.next (State.takeLig_head hi ho ht)
  case atomic => exact fun s f r o hi ho ht => congrArg Host.Outcome.next (State.takeLig_head hi ho ht)
  case response => exact fun s f r o hi ho ht => congrArg Host.Outcome.next (State.takeLig_head hi ho ht)
  case retryAfter => exact fun s f r o hi ho ht => congrArg Host.Outcome.next (State.takeLig_head hi ho ht)
  case resend => exact fun s i a p r hp hr ht => exec_homeRetryResend_due hp hr ht
  case timeout => exact fun s i a p hp ht => exec_homeTimeout_due hp ht
  case unmatched => exact fun s i hp => exec_homeTimeout_none hp
  case done => exact fun s n a hf hn hz => exec_poolAccessDone_good hf hn hz
  case waits => exact fun s n a hf hp hw => exec_poolAccessDone_waits hf hp hw
  case fill => exact fun s h5 hz => exec_zeroFillDone_runs h5 hz
  case patrol => exact fun s l hp hl h5 hpoison => exec_patrolRead_good hp hl h5 hpoison

end

section
/-!
PROOFS. The functions of the host ports and the partitions: interrupts, mailboxes, resets and claims (R359 to R363, R460, R461). The servo
(R364 to R367), and what a port of PTP sends (R368).
-/

namespace Sys2Proof.Machine

/-! ### Interrupts, mailboxes and resets -/

section
variable {s : State}

/-- The vector that INT_ACK's low bits name. -/
theorem bits_vector (v : Nat) : bits v 9 0 = v % 1024 := by
  simp [bits]

theorem exec_intAck_reached {f : Fin 130} {v : BitVec 32} (hr : s.fnReaches f = true) (hv : v.toNat % 1024 < fnVectors f) :
    exec (.intAck f v) s = .next ((s.updFunc f (fun x =>
      { x with inService := x.inService.filter (· ≠ v.toNat % 1024) })).reviewVector f (v.toNat % 1024)) := by
  change execIntAck f v s = _
  simp only [execIntAck, hr, bits_vector, Nat.not_le.2 hv]
  rfl

theorem exec_msixUnmask_reached {f : Fin 130} {v : Fin 513} (hr : s.fnReaches f = true) (hv : v.val < fnVectors f) :
    exec (.msixUnmask f v) s = .next ((s.updFunc f (fun x =>
      { x with unmasked := if x.unmasked.contains v.val then x.unmasked else x.unmasked ++ [v.val] })).reviewVector f v) := by
  change execMsixUnmask f v s = _
  simp only [execMsixUnmask, hr, Nat.not_le.2 hv]
  rfl

theorem exec_mboxGo_present {f : Fin 130} {v : BitVec 32} {b : List Byte} {full : Bool} (hp : s.fnPresent f = true) :
    exec (.mboxGo f v b full) s =
      .next ((s.updFunc f (fun x => { x with req := writeBytes x.req 0 (b.take 2048) })).mailbox f v.toNat full) := by
  change execMboxGo f v b full s = _
  exact if_pos hp

theorem exec_functionLevelReset_pf {f : Fin 128} (h : fnVf f = 0) :
    exec (.functionLevelReset f) s = .next (s.resetPf (64 ≤ f.val)) := by
  change execFunctionLevelReset f s = _
  exact if_pos h

/-- A reset of a VF reaches it where it is enabled (R362). -/
theorem exec_functionLevelReset_vf {f : Fin 128} (h : fnVf f ≠ 0) : exec (.functionLevelReset f) s =
    if (s.port (64 ≤ f.val)).enabled.contains (fnVf f) then .next (s.resetFunction f) else .next s := by
  change execFunctionLevelReset f s = _
  exact if_neg h

theorem exec_pcieLinkDown_up {b : Bool} (h : (s.port b).up = true) : exec (.pcieLinkDown b) s =
    .next ((s.portLinkDown b).updPort b (fun p => { p with training := !p.perst && !p.held })) := by
  change execPcieLinkDown b s = _
  exact if_pos h

theorem exec_heartbeatTick_runs (h : s.boot.done.getLsbD 2 = true) :
    exec .heartbeatTick s = .next (s.modFaults (fun x => { x with heartbeat := (x.heartbeat + 1) % 2 ^ 32 })) := by
  change execHeartbeatTick s = _
  exact if_pos h

/-! ### Claims -/

/-- What a claim's word spells: the key, and SKIP_DUMP in bit 0 (R460). -/
theorem claimWord_fields {v : Nat} (h : v = 0x52560000 ∨ v = 0x52560001) :
    bits v 31 16 = 0x5256 ∧ bits v 15 1 = 0 ∧ bit v 0 = decide (v = 0x52560001) := by
  rcases h with rfl | rfl
  · decide
  · decide

section
variable {f : Fin 130} {v : BitVec 32} (hf : fnVf f = 0) (hr : s.fnReaches f = true)
include hf hr

/-- The owner's claim acts at once, and takes over those that wait (R461). -/
theorem exec_recoverWrite_owner (hv : v.toNat = 0x52560000 ∨ v.toNat = 0x52560001) (ho : domNo (fnDomain f) = s.param 0x2480 3) :
    exec (.recoverWrite f v) s = .next (((s.setFlag 0x6121 7).modFaults (fun x =>
      { x with claimMerged := x.claimMerged + x.claims.length, claims := [] })).claimActs (v.toNat = 0x52560001)) := by
  obtain ⟨hkey, hz, hskip⟩ := claimWord_fields hv
  change execRecoverWrite f v s = _
  simp only [execRecoverWrite, hf, hr, hkey, hz, hskip, State.param_setFlag, ho]
  rfl

/-- Any other claim waits for the owner's, but for a warm start that is under way (R68, R461). -/
theorem exec_recoverWrite_waits (hv : v.toNat = 0x52560000 ∨ v.toNat = 0x52560001) (ho : domNo (fnDomain f) ≠ s.param 0x2480 3)
    (hw : s.inWarm = false) : exec (.recoverWrite f v) s = .next ((s.setFlag 0x6121 7).modFaults (fun x =>
      { x with claims := x.claims ++ [(fnDomain f, decide (v.toNat = 0x52560001), s.now + s.param 0x2480 4 * 10 ^ 9)] })) := by
  obtain ⟨hkey, hz, hskip⟩ := claimWord_fields hv
  have hwarm : (s.setFlag 0x6121 7).inWarm = false := hw
  change execRecoverWrite f v s = _
  simp only [execRecoverWrite, hf, hr, hkey, hz, hskip, State.param_setFlag, ho, hwarm]
  rfl

theorem exec_recoverWrite_ignored (hv : v.toNat / 65536 ≠ 0x5256) :
    exec (.recoverWrite f v) s = .next (s.modFaults (fun x => { x with recoverIgnored := x.recoverIgnored + 1 })) := by
  have hkey : bits v.toNat 31 16 ≠ 0x5256 := by
    have hlt := v.isLt
    simp only [bits, Nat.reducePow, Nat.reduceSub, Nat.reduceAdd]
    omega
  change execRecoverWrite f v s = _
  simp [execRecoverWrite, hf, hr, hkey]

end

theorem exec_claimWindowExpiry_claim {c : Domain × Bool × Nat} {r : List (Domain × Bool × Nat)} (h : s.faults.claims = c :: r) :
    exec .claimWindowExpiry s =
      .next (if c.2.2 ≤ s.now then (s.modFaults (fun x => { x with claims := r })).claimActs c.2.1 else s) := by
  change execClaimWindowExpiry s = _
  simp only [execClaimWindowExpiry, h]

/-! ### The servo -/

theorem exec_offsetSample_taken {o : Int} {r : List Int} (h : s.time.offsets = o :: r) :
    exec .offsetSample s = .next ((s.modTime (fun t => { t with offsets := r })).offsetSample o).reviewSettled := by
  change execOffsetSample s = _
  simp only [execOffsetSample, h]

theorem exec_estimateLoss_due (ht : s.time.servo = .track) (hset : s.timeSet = true) (he : s.param 0x2440 6 < s.timeErr) :
    exec .estimateLoss s = .next ((((s.timeLocked false).setFlag 0x6641 1).countUnit 0x11 0 4).modTime (fun t =>
      { t with servo := .acquire, samples := [], lockCount := 0 })).reviewSettled := by
  change execEstimateLoss s = _
  simp only [execEstimateLoss, ht, hset, he]
  rfl

/-- With no usable source the servo holds over (R366). -/
theorem exec_sourceUnusable_holdover (h0 : s.reselect.time.source = 255)
    (hs : s.reselect.time.servo = .track ∨ s.reselect.time.servo = .acquire) {t : State}
    (ht : t = (s.reselect.modTime (fun t => { t with servo := .holdover, samples := [], lockCount := 0 })).setFlag 0x6641 2) :
    exec .sourceUnusable s = .next (if (t.timeSet && t.param 0x2440 7 = 0) = true then t.timeLocked false else t).reviewSettled := by
  subst ht
  have hgate : (decide (s.reselect.time.source = 255) && (decide (s.reselect.time.servo = .track) ||
      decide (s.reselect.time.servo = .acquire))) = true := by simpa [h0] using hs
  change execSourceUnusable s = _
  exact if_pos hgate

theorem exec_holdoverExpiry_due (h : s.time.servo = .holdover) (hset : s.timeSet = true) :
    exec .holdoverExpiry s = .next (s.timeLocked false).reviewSettled := by
  change execHoldoverExpiry s = _
  exact if_pos (by rw [h, hset]; rfl)

theorem exec_holdoverExpiry_none (h : s.time.servo ≠ .holdover) : exec .holdoverExpiry s = .next s := by
  change execHoldoverExpiry s = _
  exact if_neg (by simp [h])

end

/-! ### What a port of PTP sends -/

section
variable {s : State} {f : Fin 64}

theorem exec_announceReceiptTimeout_master (h : (s.ptp f).master.isSome = true) : exec (.announceReceiptTimeout f) s =
    .next (s.updPtp f (fun p => { p with master := none, announces := 0, syncDiff := none, delayT3 := none })).reselect := by
  have hnone : (s.ptp f).master.isNone = false := by simpa using h
  change execAnnounceReceiptTimeout f s = _
  simp only [execAnnounceReceiptTimeout, hnone]
  rfl

theorem exec_ptpSyncSend_master (ht : s.timeRuns = true) (hm : s.ptpMaster f = true) : exec (.ptpSyncSend f) s =
    .next (sendPlain (s.updPtp f (fun p => { p with txSync := (p.txSync + 1) % 65536 })) f 0x11
      (s.ptpHeader f 0 44 (s.ptp f).txSync s.stampNow.2 0 (-10) ++ s.stampNow.1)) := by
  change execPtpSyncSend f s = _
  simp only [execPtpSyncSend, ht, hm]
  rfl

theorem exec_ptpSyncSend_slave (hm : s.ptpMaster f = false) : exec (.ptpSyncSend f) s = .next s := by
  change execPtpSyncSend f s = _
  exact if_pos (by rw [hm, Bool.and_false]; rfl)

theorem State.ptpHeader_length (s : State) (f typ len seq : Nat) (corr : Int) (flags : Nat) (interval : Int) :
    (s.ptpHeader f typ len seq corr flags interval).length = 34 := by
  simp [State.ptpHeader, zeros]

theorem State.stampNow_length (s : State) : s.stampNow.1.length = 10 := by
  simp [State.stampNow]

/-- An originTimestamp takes 10 bytes, whether 0 or a stamp (R368). -/
theorem origin_length (s : State) (z : Nat) : (if z = 0 then zeros 10 else s.stampNow.1).length = 10 := by
  split
  · rfl
  · exact s.stampNow_length

/-- The Announce of a port: `u` is the state in which its free values have been drawn, `flags` and `source` its time properties, and `z` says
whether its originTimestamp is 0. -/
def State.announceMsg (s u : State) (f : Fin 64) (flags source z : Nat) : List Byte :=
  u.ptpHeader f 11 64 (u.ptp f).txAnnounce 0 flags (-3) ++ ((if z = 0 then zeros 10 else u.stampNow.1) ++ beBytes 2 s.advertised.utc ++
    zeros 1 ++ beBytes 1 s.advertised.priority1 ++ beBytes 1 s.advertised.clockClass ++ beBytes 1 s.advertised.accuracy ++
    beBytes 2 s.advertised.variance ++ beBytes 1 s.advertised.priority2 ++ beBytes 8 s.advertised.identity ++
    beBytes 2 s.advertised.steps ++ beBytes 1 source)

theorem State.announceMsg_length (s u : State) (f : Fin 64) (flags source z : Nat) : (s.announceMsg u f flags source z).length = 64 := by
  simp only [State.announceMsg, List.length_append, State.ptpHeader_length, origin_length, beBytes_length]
  rfl

/-- A master port sends Announce, once the free values of the message are drawn (R368). -/
theorem exec_ptpAnnounceSend_master (ht : s.timeRuns = true) (hm : s.ptpMaster f = true) : exec (.ptpAnnounceSend f) s =
    .next (sendPlain (((s.announceProps.2.freeBelow 2).2).updPtp f (fun p => { p with txAnnounce := (p.txAnnounce + 1) % 65536 })) f 0x11
      (s.announceMsg (s.announceProps.2.freeBelow 2).2 f s.announceProps.1.1 s.announceProps.1.2 (s.announceProps.2.freeBelow 2).1)) :=
  if_neg (by rw [ht, hm]; decide)

/-- Drawing free values moves nothing but their count. -/
theorem State.announceProps_rest (s : State) : ∃ n, s.announceProps.2 = { s with freeCount := n } := by
  unfold State.announceProps
  split
  · exact ⟨_, rfl⟩
  · exact ⟨_, rfl⟩

end

end Sys2Proof.Machine

open Sys2Proof Sys2Proof.Machine

/-- Settles O48, from one rule for each case. -/
theorem hostFunctions : Obligations.HostFunctions := by
  unfold Obligations.HostFunctions
  refine ⟨?ack, ?unmask, ?mailbox, ?pf, ?vf, ?noVf, ?linkDown, ?heartbeat, ?owner, ?other, ?ignored, ?expired, ?early⟩
  case ack => exact fun s f v hr hv => exec_intAck_reached hr hv
  case unmask => exact fun s f v hr hv _ => exec_msixUnmask_reached hr hv
  case mailbox => exact fun s f v b hp => exec_mboxGo_present hp
  case pf => exact fun s f h => exec_functionLevelReset_pf h
  case vf => exact fun s f h he => (exec_functionLevelReset_vf h).trans (if_pos he)
  case noVf => exact fun s f h he => (exec_functionLevelReset_vf h).trans (if_neg (by rw [he]; decide))
  case linkDown => exact fun s b h => exec_pcieLinkDown_up h
  case heartbeat => exact fun s h => exec_heartbeatTick_runs h
  case owner => exact fun s f v hf hr hv ho => exec_recoverWrite_owner hf hr hv ho
  case other => exact fun s f v hf hr hv ho hw => exec_recoverWrite_waits hf hr hv ho hw
  case ignored => exact fun s f v hf hr hv => exec_recoverWrite_ignored hf hr hv
  case expired => exact fun s c r h ht => (exec_claimWindowExpiry_claim h).trans (by rw [if_pos ht])
  case early => exact fun s c r h ht => (exec_claimWindowExpiry_claim h).trans (by rw [if_neg (Nat.not_le.2 ht)])

/-- Settles O49, from one rule for each case of the servo. -/
theorem servoStates : Obligations.ServoStates := by
  unfold Obligations.ServoStates
  refine ⟨?sample, ?loss, ?noSource, ?expired, ?none⟩
  case sample => exact fun s o r h => exec_offsetSample_taken h
  case loss => exact fun s ht hset he => exec_estimateLoss_due ht hset he
  case noSource => exact fun s t h0 hs ht => exec_sourceUnusable_holdover h0 hs ht
  case expired => exact fun s h hset => exec_holdoverExpiry_due h hset
  case none => exact fun s h => exec_holdoverExpiry_none h

/-- Settles O50, from one rule for each case, and the lengths of a message's parts. -/
theorem ptpSends : Obligations.PtpSends := by
  unfold Obligations.PtpSends
  refine ⟨?lost, ?sync, ?slave, ?announce, ?delay⟩
  case lost => exact fun s f h => exec_announceReceiptTimeout_master h
  case sync => exact fun s f ht hm => exec_ptpSyncSend_master ht hm
  case slave => exact fun s f hm => exec_ptpSyncSend_slave hm
  case announce =>
    intro s f ht hm
    refine ⟨_, _, exec_ptpAnnounceSend_master ht hm, s.announceMsg_length _ _ _ _ _, ?_⟩
    obtain ⟨n, h⟩ := s.announceProps_rest
    rw [h]
    exact ⟨rfl, rfl, rfl⟩
  case delay =>
    intro s f hs hu
    refine ⟨_, _, if_neg (by simp [hs, hu]), ?_, rfl, rfl, rfl⟩
    simp [State.ptpHeader_length, origin_length]

end

section
/-!
PROOFS. The operations of the Codex server (R397 to R408), the registers of BAR0 (R345), and the management Ethernet (R401).
-/

namespace Sys2Proof.Machine

/-- An admitted request is served with its answer, and then with what an accepted command does after its response (R404). -/
theorem ReqAdmitted.serve {s a : State} {q : DopReq} {role : Nat} (h : ReqAdmitted s q role a) :
    s.serve q = (dopAnswered a q (codexAct q a role)).afterServe := by
  have hserve := h.dopServe (codexAct q a)
  obtain ⟨ha, _⟩ := h
  rw [← hserve, State.serve, ← ha]

/-- The command of an admitted request that is accepted sends its answer. -/
theorem ReqAdmitted.next_serve_ok {s a u : State} {q : DopReq} {role : Nat} {c : DopStatus} {d : List Byte} {l : Bool}
    (h : ReqAdmitted s q role a) (hx : codexAct q a role = .ok { status := c, data := d, last := l, st := u }) :
    (.next (s.serve q) : Out) = .next (dopRespond u q c l d).afterServe := by
  rw [h.serve, hx, dopAnswered]

/-- The command of an admitted request that fails sends its error, and has no other effect. -/
theorem ReqAdmitted.next_serve_error {s a : State} {q : DopReq} {role : Nat} {e : DopStatus} (h : ReqAdmitted s q role a)
    (hx : codexAct q a role = .error e) : (.next (s.serve q) : Out) = .next (dopRespond a q e false []).afterServe := by
  rw [h.serve, hx, dopAnswered]

/-! ### The operations -/

section
variable {q : DopReq} {a : State} {role : Nat}

theorem codexAct_read (h : q.op = 1) : codexAct q a role = codexRead q a role := by
  simp only [codexAct, h]

theorem codexAct_write (h : q.op = 2) : codexAct q a role = codexWrite q a role := by
  simp only [codexAct, h]

theorem codexAct_segRead (h : q.op = 3) : codexAct q a role = codexSegRead q a role := by
  simp only [codexAct, h]

theorem codexAct_segWrite (h : q.op = 4) : codexAct q a role = codexSegWrite q a role := by
  simp only [codexAct, h]

theorem codexAct_occurrence (h : q.op = 5) : codexAct q a role = codexOccurrence q a role := by
  simp only [codexAct, h]

theorem codexAct_describe (h : q.op = 6) : codexAct q a role = codexDescribe q a role := by
  simp only [codexAct, h]

theorem codexAct_subscribe (h : q.op = 7) : codexAct q a role = codexSubscribe q a := by
  simp only [codexAct, h]

end

/-! ### READ and DESCRIBE -/

section
variable {q : DopReq} {a : State} {role : Nat}

theorem codexRead_missing (he : objExists q.idx q.sub = false) : codexRead q a role = .error .noObject := by
  simp [codexRead, he]

theorem codexRead_denied (he : objExists q.idx q.sub = true) (hr : role < readRole q.idx) :
    codexRead q a role = .error .accessDenied := by
  simp [codexRead, he, hr]

/-- READ returns the object's value in its wire form, and the state after the read (R398). -/
theorem codexRead_taken {u : State} {v : Nat} (he : objExists q.idx q.sub = true) (hr : readRole q.idx ≤ role) (hd : q.data = [])
    (ht : ∀ n, objType q.idx q.sub ≠ .domain n) (hv : a.takeRead q.src q.idx q.sub = some (v, u)) :
    codexRead q a role = .ok { data := wireValue (objType q.idx q.sub) v, st := u } := by
  simp only [codexRead, he, Nat.not_lt.2 hr, hd]
  generalize objType q.idx q.sub = typ at ht
  cases typ with
  | domain n => exact absurd rfl (ht n)
  | _ => simp [hv]

theorem codexDescribe_found (he : objExists q.idx q.sub = true) (hr : readRole q.idx ≤ role) (hd : q.data = []) :
    codexDescribe q a role = .ok { data := describeBytes q.idx q.sub, st := a } := by
  simp [codexDescribe, he, Nat.not_lt.2 hr, hd]

/-! ### WRITE -/

/-- A WRITE of an object other than DEBUG_UNLOCK: the checks of R400, then the object's own. -/
theorem codexWrite_object (h : q.idx ≠ 0x1040) : codexWrite q a role = dopWriteAct q (writeObj q.src q.idx q.sub a) role := by
  simp [codexWrite, h]

theorem dopWriteAct_error {act : Nat → Except DopStatus State} {e : DopStatus} (h : dopWriteAllowed q role = .error e) :
    dopWriteAct q act role = .error e := by
  simp [dopWriteAct, h]

theorem dopWriteAct_ok {act : Nat → Except DopStatus State} {row : ObjRow} {u : State} (h : dopWriteAllowed q role = .ok row)
    (hact : act (writtenValue row.typ q.data) = .ok u) : dopWriteAct q act role = .ok { st := u } := by
  simp [dopWriteAct, h, hact]

/-- A write of a FLAGS32 object clears the flags whose bits are 1 (R406). -/
theorem writeObj_flags {src : DopSrc} {idx sub v : Nat} (h : objType idx sub = .flags32) :
    writeObj src idx sub a v = .ok (a.clearFlags idx (BitVec.ofNat 32 v)) := by
  unfold writeObj
  rw [h]

/-! ### SEG_READ, SEG_WRITE and OCCURRENCE -/

theorem codexSegRead_domain {n : Nat} (he : objExists q.idx q.sub = true) (hr : readRole q.idx ≤ role)
    (ht : objType q.idx q.sub = .domain n) (hd : q.data = []) (hs : q.idx ≠ 0xA110) : codexSegRead q a role =
      .ok { data := (a.domainSegment q.idx q.offset).2
            last := (a.domainSegment q.idx q.offset).1 ≤ q.offset + (a.domainSegment q.idx q.offset).2.length, st := a } := by
  simp [codexSegRead, he, Nat.not_lt.2 hr, ht, hd, hs]

theorem objExists_sampleData : objExists 0xA110 1 = true := by decide +kernel

theorem objType_sampleData : ∃ n, objType 0xA110 1 = .domain n := ⟨_, rfl⟩

/-- SAMPLE_DATA is consumed by its read (R381, R405). -/
theorem codexSegRead_samples (hi : q.idx = 0xA110) (hs : q.sub = 1) (hr : readRole 0xA110 ≤ role) (hd : q.data = []) :
    codexSegRead q a role = .ok { data := (a.folio.store.take 63).flatten, last := a.folio.store.length ≤ 63
                                  st := a.modFolio (fun f => { f with store := f.store.drop 63 }) } := by
  obtain ⟨n, ht⟩ := objType_sampleData
  simp [codexSegRead, hi, hs, objExists_sampleData, Nat.not_lt.2 hr, ht, hd, takeSamples]

/-- The next segment of an open load, from the source that began it, is stored (R405). -/
theorem codexSegWrite_next {row : ObjRow} {n : Nat} (hs : q.sub ≠ 0) (hrow : objRow q.idx q.sub = some row) (ht : row.typ = .domain n)
    (hacc : row.acc = .rw ∨ row.acc = .wo) (hw : writeRole q.idx ≤ role) (ho : a.loadOpen q.idx = true)
    (howner : (a.codex.loads.get {} q.idx).owner = none ∨ (a.codex.loads.get {} q.idx).owner = some q.src)
    (hoff : q.offset = (a.codex.loads.get {} q.idx).bytes.length) (hlen : q.offset + q.data.length ≤ n) :
    codexSegWrite q a role = .ok { st := a.storeSegment q.idx q.src q.data (bit q.flags 1) } := by
  have hgate : (!a.loadOpen q.idx || (a.codex.loads.get {} q.idx).owner.isSome &&
      decide ((a.codex.loads.get {} q.idx).owner ≠ some q.src)) = false := by
    rw [ho]
    rcases howner with h | h <;> simp [h]
  have hplace : (decide (q.offset ≠ (a.codex.loads.get {} q.idx).bytes.length) || decide (n < q.offset + q.data.length)) = false := by
    simp [hoff.symm, Nat.not_lt.2 hlen]
  unfold codexSegWrite
  simp only [if_neg hs, hrow, ht, hgate, hplace, Nat.not_lt.2 hw]
  rcases hacc with h | h <;> rw [h] <;> rfl

/-- OCCURRENCE without CLEAR returns the counters of a flag object and changes nothing (R407). -/
theorem codexOccurrence_read (hi : q.idx ≠ 0) (hc : bit q.flags 2 = false) (he : objExists q.idx q.sub = true)
    (ht : objType q.idx q.sub = .flags32) (hr : readRole q.idx ≤ role) (hd : q.data = []) :
    codexOccurrence q a role = .ok { data := occurrenceBytes (a.flagObj q.idx), st := a } := by
  simp [codexOccurrence, hi, hc, he, ht, Nat.not_lt.2 hr, hd]

/-! ### SUBSCRIBE -/

/-- SUBSCRIBE with a period from 10 ms to 10 s takes a place, where fewer than four others stand (R408). -/
theorem codexSubscribe_placed {ms : Nat} (hd : q.data = beBytes 2 ms) (hlo : 10 ≤ ms) (hhi : ms ≤ 10000) (hsrc : srcFunction q.src = none)
    (hl : (a.codex.subs.filter (fun x => x.src ≠ q.src)).length < 4) : codexSubscribe q a = .ok { st := a.modCodex (fun c =>
      { c with subs := a.codex.subs.filter (fun x => x.src ≠ q.src) ++ [{ src := q.src, notifyMs := ms }] }) } := by
  have hlen : q.data.length = 2 := by rw [hd, beBytes_length]
  have hms : beNat q.data = ms := by rw [hd, beNat_beBytes, Nat.mod_eq_of_lt (by omega)]
  have h0 : ms ≠ 0 := by omega
  unfold codexSubscribe
  simp only [hlen, hms, hsrc, h0, Nat.not_lt.2 hlo, Nat.not_lt.2 hhi, Nat.not_le.2 hl, decide_false, Bool.or_self, Bool.and_false]
  rfl

theorem codexSubscribe_ended (hd : q.data = beBytes 2 0) (hsrc : srcFunction q.src = none) : codexSubscribe q a =
    .ok { st := a.modCodex (fun c => { c with subs := a.codex.subs.filter (fun x => x.src ≠ q.src) }) } := by
  have hlen : q.data.length = 2 := by rw [hd, beBytes_length]
  have hms : beNat q.data = 0 := by rw [hd, beNat_beBytes]; rfl
  unfold codexSubscribe
  simp only [hlen, hms, hsrc]
  rfl

end

/-! ### Notification -/

section
variable {s : State} {src : DopSrc} {x : Subscription}

/-- A source with a subscription is among the subscribers. -/
theorem any_subscribed {l : List Subscription} (hx : x ∈ l) (hs : x.src = src) : (l.any (fun x => x.src = src)) = true :=
  List.any_eq_true.2 ⟨x, hx, decide_eq_true hs⟩

theorem exec_notifySend_flags (hup : s.scribeUp = true) (hx : x ∈ s.codex.subs) (hs : x.src = src) (hn : s.notifyEntries ≠ []) :
    exec (.notifySend src) s = .next (dopSend s src (notifyFrame s.notifyEntries)) := by
  change execNotifySend src s = _
  exact if_pos (by simp only [hup, any_subscribed hx hs, hn, ne_eq, not_false_eq_true, decide_true, Bool.and_self])

theorem exec_notifySend_quiet (hn : s.notifyEntries = []) : exec (.notifySend src) s = .next s := by
  change execNotifySend src s = _
  exact if_neg (by simp [hn])

theorem exec_subscriptionExpiry_subscribed (hx : x ∈ s.codex.subs) (hs : x.src = src) : exec (.subscriptionExpiry src) s =
    .next ((s.modCodex (fun c => { c with subs := c.subs.filter (fun x => x.src ≠ src) })).setFlag 0x6001 4) := by
  change execSubscriptionExpiry src s = _
  exact if_pos (any_subscribed hx hs)

end

/-! ### BAR0 -/

section
variable {s : State} {f : Fin 130}

theorem exec_flagClear_events {v : BitVec 32} (hp : s.fnPresent f = true) (hr : s.fnReaches f = true) :
    exec (.flagClear (.events f v)) s = .next ((s.updFunc f (fun x =>
      { x with events := { x.events with val := x.events.val &&& ~~~v } })).reviewVector f 0) := by
  change execFlagClear (.events f v) s = _
  simp only [execFlagClear, hp, State.barWriteReg32, hr, BitVec.ofNat_toNat, BitVec.setWidth_eq]
  rfl

/-- HOST_EVENT_EN is no half of a 64-bit register. -/
theorem State.barReg64_events (s : State) (fn : Nat) : s.barReg64 fn 0x24 = none ∧ s.barReg64 fn 0x20 = none := by
  simp [State.barReg64]

theorem exec_registerWrite_eventEn {v : BitVec 64} (hp : s.fnPresent f = true) (hr : s.fnReaches f = true) :
    exec (.registerWrite (.bar f 0x24 v false)) s =
      .next ((s.updFunc f (fun x => { x with eventEn := v.toNat % 32 })).reviewVector f 0) := by
  obtain ⟨h24, h20⟩ := s.barReg64_events f
  have hhas : barHas f 0x24 false = true := by simp [barHas]
  have hmod : v.toNat % 2 ^ 32 % 32 = v.toNat % 32 := by omega
  change Host.Outcome.next (s.barWrite f 0x24 v.toNat false) = _
  simp only [State.barWrite, hp, hhas, State.barWrite32, h24, h20, State.barWriteReg32, hr, hmod, ite_self]
  rfl

theorem exec_lowWordRead_absent {o : BitVec 20} {w : Bool} (hp : s.fnPresent f = false) : exec (.lowWordRead f o w) s = .next s := by
  change execLowWordRead f o w s = _
  exact if_pos (by rw [hp]; rfl)

end

/-! ### The management Ethernet -/

section
variable {s : State} {b : List Byte} {x : Bool}

theorem exec_mgmtFrameReceive_badFcs (h : fcsOk b = false) : exec (.mgmtFrameReceive b x) s = .next s := by
  change execMgmtFrameReceive b x s = _
  exact if_pos (by rw [h]; simp)

section
variable (hup : s.scribeUp = true) (h64 : 64 ≤ b.length) (hl : b.length ≤ 2200) (hf : fcsOk b = true)
  (hd : s.mgmtTakes (macDst b) = true) (ht : (parseFrame b).tags ≤ 1)
include hup h64 hl hf hd ht

/-- An ARP frame that the station takes is answered (R401). -/
theorem exec_mgmtFrameReceive_arp (he : etherType (b.take (b.length - 4)) = 0x0806) :
    exec (.mgmtFrameReceive b x) s = .next (s.onArp (b.take (b.length - 4)) ((parseFrame b).off + 2)) := by
  change execMgmtFrameReceive b x s = _
  simp [execMgmtFrameReceive, hup, Nat.not_lt.2 h64, Nat.not_lt.2 hl, hf, hd, Nat.not_lt.2 ht, he]

theorem exec_mgmtFrameReceive_ipv4 (he : etherType (b.take (b.length - 4)) = 0x0800) :
    exec (.mgmtFrameReceive b x) s = .next (s.onIpv4 (b.take (b.length - 4)) ((parseFrame b).off + 2) x) := by
  change execMgmtFrameReceive b x s = _
  simp [execMgmtFrameReceive, hup, Nat.not_lt.2 h64, Nat.not_lt.2 hl, hf, hd, Nat.not_lt.2 ht, he]

end

end

end Sys2Proof.Machine

open Sys2Proof Sys2Proof.Machine

/-- Settles O53, from what each operation answers and what serving an admitted request leaves. -/
theorem dopRequests : Obligations.DopRequests := by
  unfold Obligations.DopRequests
  refine ⟨?read, ?denied, ?missing, ?write, ?refused, ?flags, ?samples, ?segRead, ?segWrite, ?occurrence, ?describe⟩
  case read => exact fun s a u r i k role v h he hr ht hv => h.next_serve_ok ((codexAct_read rfl).trans (codexRead_taken he hr rfl ht hv))
  case denied => exact fun s a r i k role h he hr => h.next_serve_error ((codexAct_read rfl).trans (codexRead_denied he hr))
  case missing => exact fun s a r i k role h he => h.next_serve_error ((codexAct_read rfl).trans (codexRead_missing he))
  case write =>
    rintro s a u r i k d q role row rfl h hi hrow hact
    exact h.next_serve_ok ((codexAct_write rfl).trans ((codexWrite_object hi).trans (dopWriteAct_ok hrow hact)))
  case refused =>
    rintro s a r i k d q role e rfl h hi he
    exact h.next_serve_error ((codexAct_write rfl).trans ((codexWrite_object hi).trans (dopWriteAct_error he)))
  case flags =>
    rintro s a r i v q role row rfl h hi hrow ht htyp
    have hv : writtenValue row.typ (beBytes 4 v.toNat) = v.toNat := by
      rw [htyp]
      exact (beNat_beBytes 4 v.toNat).trans (Nat.mod_eq_of_lt v.isLt)
    have hact : writeObj r.src i.toNat 1 a (writtenValue row.typ (beBytes 4 v.toNat)) = .ok (a.clearFlags i.toNat v) := by
      rw [writeObj_flags ht, hv, BitVec.ofNat_toNat, BitVec.setWidth_eq]
    exact h.next_serve_ok ((codexAct_write rfl).trans ((codexWrite_object hi).trans (dopWriteAct_ok hrow hact)))
  case samples => exact fun s a r role h hr => h.next_serve_ok ((codexAct_segRead rfl).trans (codexSegRead_samples rfl rfl hr rfl))
  case segRead =>
    rintro s a r i k o q role n rfl h he hr ht hi
    exact h.next_serve_ok ((codexAct_segRead rfl).trans (codexSegRead_domain he hr ht rfl hi))
  case segWrite =>
    rintro s a r i o x d q role n row rfl h hrow ht hacc hw ho howner hoff hlen
    have hlast : bit (2 * ofBool x) 1 = x := by cases x <;> rfl
    have hact := codexSegWrite_next (q := { dopReq r 4 i.toNat 1 with offset := o.toNat, flags := 2 * ofBool x, data := d }) (role := role)
      Nat.one_ne_zero hrow ht hacc hw ho howner hoff hlen
    rw [hlast] at hact
    exact h.next_serve_ok ((codexAct_segWrite rfl).trans hact)
  case occurrence =>
    rintro s a r i q role rfl hi h he ht hr
    exact h.next_serve_ok ((codexAct_occurrence rfl).trans (codexOccurrence_read hi (show bit 0 2 = false by decide) he ht hr rfl))
  case describe => exact fun s a r i k role h he hr => h.next_serve_ok ((codexAct_describe rfl).trans (codexDescribe_found he hr rfl))

/-- Settles O54, from what each path to an object does. -/
theorem dopOtherPaths : Obligations.DopOtherPaths := by
  unfold Obligations.DopOtherPaths
  refine ⟨?subscribe, ?ends, ?notify, ?quiet, ?expiry, ?events, ?enable, ?wide, ?narrow, ?absent, ?arp, ?ipv4, ?fcs⟩
  case subscribe =>
    rintro s a r ms q role rfl h hlo hhi hsrc hl
    have hact := codexSubscribe_placed (q := { dopReq r 7 0 0 with data := beBytes 2 ms.toNat }) rfl hlo hhi hsrc hl
    exact h.next_serve_ok ((codexAct_subscribe rfl).trans hact)
  case ends =>
    rintro s a r q role rfl h hsrc
    have hact := codexSubscribe_ended (q := { dopReq r 7 0 0 with data := beBytes 2 0 }) (a := a) rfl hsrc
    exact h.next_serve_ok ((codexAct_subscribe rfl).trans hact)
  case notify => exact fun s src x hup hx hs hn => exec_notifySend_flags hup hx hs hn
  case quiet => exact fun s src hn => exec_notifySend_quiet hn
  case expiry => exact fun s src x hx hs => exec_subscriptionExpiry_subscribed hx hs
  case events => exact fun s f v hp hr => exec_flagClear_events hp hr
  case enable => exact fun s f v hp hr => exec_registerWrite_eventEn hp hr
  case wide => exact fun s f o hp hb => exec_lowWordRead_wide hp hb
  case narrow => exact fun s f o v hp hb hv => exec_lowWordRead_narrow hp hb (State.barRead32_low hv)
  case absent => exact fun s f o w hp => exec_lowWordRead_absent hp
  case arp => exact fun s b x hup h64 hl hf hd ht he => exec_mgmtFrameReceive_arp hup h64 hl hf hd ht he
  case ipv4 => exact fun s b x hup h64 hl hf hd ht he => exec_mgmtFrameReceive_ipv4 hup h64 hl hf hd ht he
  case fcs => exact fun s b x h => exec_mgmtFrameReceive_badFcs h

end

section
/-!
PROOFS. Sessions, MCTP packets and a debug unlock (R422 to R428), and the SPDM exchanges of a connection (R421, R423).
-/

namespace Sys2Proof.Machine

section
variable {s a : State} {q : DopReq} {role : Nat} {act : State → Nat → Except DopStatus DopAnswer}

/-- A command with an operation of its own that is accepted sends its answer (R404). -/
theorem ReqAdmitted.next_dopServe_ok {u : State} {c : DopStatus} {d : List Byte} {l : Bool} (h : ReqAdmitted s q role a)
    (hx : act a role = .ok { status := c, data := d, last := l, st := u }) :
    (.next (Machine.dopServe (s.dopArrives q.src) q (act (s.dopArrives q.src))) : Out) = .next (dopRespond u q c l d) := by
  have hserve := h.dopServe (act a)
  obtain ⟨ha, _⟩ := h
  rw [← ha, hserve, hx, dopAnswered]

/-- One that fails sends its error, and has no other effect. -/
theorem ReqAdmitted.next_dopServe_error {e : DopStatus} (h : ReqAdmitted s q role a) (hx : act a role = .error e) :
    (.next (Machine.dopServe (s.dopArrives q.src) q (act (s.dopArrives q.src))) : Out) = .next (dopRespond a q e false []) := by
  have hserve := h.dopServe (act a)
  obtain ⟨ha, _⟩ := h
  rw [← ha, hserve, hx, dopAnswered]

end

/-! ### SESSION_OPEN -/

/-- The data of SESSION_OPEN: the credential, three reserved bytes and the requester's nonce (R424). -/
def sessionData (c n : Nat) : List Byte := beBytes 1 c ++ zeros 3 ++ leBytes 32 n

theorem sessionData_length (c n : Nat) : (sessionData c n).length = 36 := by
  simp [sessionData, zeros]

theorem sessionData_cred {c n : Nat} (hc : c ≤ 8) : byteAt (sessionData c n) 0 = c := by
  simp only [sessionData, byteAt, beBytes, leBytes]
  simp
  omega

theorem sessionData_reserved (c n : Nat) : leAt (sessionData c n) 1 3 = 0 := by
  have hlen : (beBytes 1 c).length = 1 := beBytes_length 1 c
  have hslice : slice (sessionData c n) 1 3 = zeros 3 := by
    rw [slice, sessionData, List.append_assoc, List.drop_left' hlen]
    rfl
  rw [leAt, hslice]
  rfl

section
variable {a : State} {q : DopReq} {c n : Nat}

/-- A session opens for an enabled credential, with a free identifier and a nonce of the module's (R424). -/
theorem sessionOpen_opened {t u : State} {x : Nat} {m : List Byte} (hd : q.data = sessionData c n) (hs : q.session = 0)
    (hk : a.aliasKey = true) (h1 : 1 ≤ c) (h8 : c ≤ 8) (hen : a.credEnabled c = true) (hl : a.codex.sessions.length < 8)
    (hx : a.freeBelow 65535 = (x, t)) (hm : t.drawNonce = (m, u)) : sessionOpen q a =
      .ok { data := beBytes 2 (x + 1) ++ zeros 2 ++ m ++ (Config.ed25519Sign 1 (u.sessionMessage (slice q.data 4 32) m (x + 1))).toList
            st := u.modCodex (fun y => { y with sessions := y.sessions ++
              [{ id := x + 1, src := q.src, cred := c, reqNonce := slice q.data 4 32, modNonce := m }] }) } := by
  have h0 : c ≠ 0 := by omega
  simp only [sessionOpen, hs, hk, hd, sessionData_length, sessionData_cred h8, sessionData_reserved, hen, h0, Nat.not_lt.2 h8,
    Nat.not_le.2 hl, hx, hm]
  rfl

theorem sessionOpen_disabled (hd : q.data = sessionData c n) (hs : q.session = 0) (hk : a.aliasKey = true) (h1 : 1 ≤ c) (h8 : c ≤ 8)
    (hen : a.credEnabled c = false) : sessionOpen q a = .error .accessDenied := by
  have h0 : c ≠ 0 := by omega
  simp only [sessionOpen, hs, hk, hd, sessionData_length, sessionData_cred h8, sessionData_reserved, hen, h0, Nat.not_lt.2 h8]
  rfl

/-! ### SESSION_AUTH, SESSION_CLOSE and MCTP -/

theorem sessionAuth_verified {x : Session} (hp : pendingSession q a = some x) (hl : q.data.length = 64)
    (hv : Config.ed25519Verify (a.credKey x.cred) (a.sessionMessage x.modNonce x.reqNonce x.id) q.data = true) : sessionAuth q a =
      .ok { data := beBytes 1 (a.credRole x.cred)
            st := a.modCodex (fun y => { y with
              sessions := y.sessions.map (fun z => if z = x then { z with isOpen := true, role := a.credRole x.cred } else z) }) } := by
  simp only [sessionAuth, hp, hl, hv]
  rfl

/-- A signature that does not verify ends the session and counts as a failure (R424). -/
theorem sessionAuth_failed {x : Session} (hp : pendingSession q a = some x) (hl : q.data.length = 64)
    (hv : Config.ed25519Verify (a.credKey x.cred) (a.sessionMessage x.modNonce x.reqNonce x.id) q.data = false) :
    sessionAuth q a = .ok { status := .accessDenied, st := (a.dropSession x.id x.src).authFailed } := by
  simp only [sessionAuth, hp, hl, hv]
  rfl

theorem sessionClose_open {x : Session} (ho : sessionOf a q = some x) (hd : q.data = []) :
    sessionClose q a = .ok { st := a.dropSession x.id x.src } := by
  simp [sessionClose, ho, hd]

/-- The module's next packet, or none, is sent with OK and whole (R422). -/
theorem State.nextPacket_eq (s : State) : s.nextPacket = { data := s.nextPacket.data, st := s.nextPacket.st } := by
  unfold State.nextPacket
  split
  · rfl
  · rfl

/-- A packet with no body asks for the module's next packet (R422). -/
theorem mctpPacket_empty (hl : q.data.length = 4) : mctpPacket q a = .ok { data := a.nextPacket.data, st := a.nextPacket.st } := by
  have hbody : q.data.drop 4 = [] := List.drop_eq_nil_of_le (Nat.le_of_eq hl)
  rw [← a.nextPacket_eq]
  simp [mctpPacket, hl, hbody]

theorem mctpPacket_long (hl : 68 < q.data.length) : mctpPacket q a = .error .size := by
  simp [mctpPacket, hl]

end

/-! ### DEBUG_UNLOCK -/

theorem objRow_debugUnlock : objRow 0x1040 2 = some { idx := 0x1040, sub := 2, typ := .bytes 64, acc := .wo } := by decide +kernel

/-- A write of DEBUG_UNLOCK:02 reaches the check of its signature (R428). -/
theorem debugUnlockAct_written {a : State} {r : Req} {g : BitVec 512} {role : Nat} (hrole : writeRole 0x1040 ≤ role) :
    debugUnlockAct (writeReq r 0x1040 2 g.toNat) a role = .ok (debugUnlock a g.toNat) := by
  have hlt : g.toNat < 256 ^ 64 := g.isLt.trans_eq (pow_mul 2 8 64)
  obtain ⟨_, hval⟩ := writtenValue_writeReq r 0x1040 2 g.toNat _ objRow_debugUnlock nofun hlt
  rw [debugUnlockAct, dopWriteAllowed_writeReq hrole objRow_debugUnlock (by decide) ⟨nofun, nofun⟩ nofun hlt]
  dsimp only
  rw [hval]

/-- A signature of a release key over the module's key and nonce unlocks, while the seal is open (R428). -/
def State.unlocks (a : State) (g : Nat) : Bool :=
  (List.range 4).any (fun k => Config.ed25519Verify (Config.releaseKey k).toList
    ((Config.publicKey 0 a.helperData).toList ++ leBytes 8 a.sec.nonce) (leBytes 64 g))

theorem debugUnlock_unlocks {a : State} {g : Nat} (hu : a.chop.unsealed = true) (hg : a.unlocks g = true) :
    debugUnlock a g = { st := a.eraseKeys.modSec (fun x => { x with unlocked := true }) } :=
  if_pos (Bool.and_eq_true_iff.2 ⟨hu, hg⟩)

theorem debugUnlock_refused {a : State} {g : Nat} (h : a.chop.unsealed = false ∨ a.unlocks g = false) :
    debugUnlock a g = { status := .range, st := a.authFailed } :=
  if_neg (Bool.eq_false_iff.1 (Bool.and_eq_false_iff.2 h))

/-! ### SPDM -/

/-- Scribe firmware answers a request that arrived whole (R421). -/
theorem State.spdmServe_answered {s t : State} {c : Nat} {q : SpdmReq} {x : SpdmAnswer} (h2 : s.boot.done.getLsbD 2 = true)
    (ha : s.spdmAnswer c q = (x, t)) : s.spdmServe c q = t.emit (.spdm c x) := by
  simp [State.spdmServe, h2, ha]

theorem State.spdmServe_down {s : State} {c : Nat} {q : SpdmReq} (h2 : s.boot.done.getLsbD 2 = false) : s.spdmServe c q = s := by
  rw [State.spdmServe, h2]
  rfl

/-- What a connection's stage says of the exchanges that came before (R421). -/
def State.spdmStage (s : State) (c : Nat) : Nat := (s.sec.spdm.get {} c).stage

section
variable {s : State} {c : Nat}

theorem State.spdmAnswer_capabilities {v : Nat} (hs : s.spdmStage c ≠ 0) (hv : v = 0x12 ∨ v = 0x13) :
    s.spdmAnswer c (.getCapabilities v) = (.capabilities, s.updSpdm c (fun _ => { stage := 2, version := v })) :=
  (if_neg hs).trans (if_pos (by simpa using hv))

theorem State.spdmAnswer_early {v : Nat} (hs : s.spdmStage c = 0) : s.spdmAnswer c (.getCapabilities v) = (.unexpected, s) :=
  if_pos hs

theorem State.spdmAnswer_algorithms {e h : Bool} (hs : 2 ≤ s.spdmStage c) (heh : (e || h) = true) :
    s.spdmAnswer c (.negotiate e h) = (.algorithms, s.updSpdm c (fun x => { x with stage := 3 })) :=
  (if_neg (Nat.not_lt.2 hs)).trans (if_pos heh)

section
variable (hs : 3 ≤ s.spdmStage c)
include hs

theorem State.spdmAnswer_digests {x : List Byte} (hx : s.slotChain = some x) : s.spdmAnswer c .getDigests = (.digests [sha x], s) := by
  refine (if_neg (Nat.not_lt.2 hs)).trans ?_
  rw [hx]

theorem State.spdmAnswer_certificate {o n : Nat} {x : List Byte} (hx : s.slotChain = some x) (ho : o < x.length) :
    s.spdmAnswer c (.getCertificate 0 o n) =
      (.certificate (slice x o (min n 1024)) (x.length - o - (slice x o (min n 1024)).length), s) := by
  refine (if_neg (Nat.not_lt.2 hs)).trans ?_
  rw [hx]
  exact if_neg (by simp [Nat.not_le.2 ho])

theorem State.spdmAnswer_challenge {n : List Byte} (hx : s.slotChain.isSome = true) : s.spdmAnswer c (.challenge 0 n) =
    (.challengeAuth (Config.ed25519Sign 1 (Config.spdmTranscript s.freeCount n)).toList, { s with freeCount := s.freeCount + 1 }) := by
  have hnone : s.slotChain.isNone = false := by simpa using hx
  refine (if_neg (Nat.not_lt.2 hs)).trans ?_
  rw [hnone]
  rfl

/-- The blocks of measurements that an unsigned request names (R423). -/
theorem State.spdmAnswer_count : s.spdmAnswer c (.getMeasurements 0 none) = (.measurements 7 [] none, s) :=
  if_neg (Nat.not_lt.2 hs)

theorem State.spdmAnswer_block {o : Nat} (h1 : 1 ≤ o) (h7 : o ≤ 7) :
    s.spdmAnswer c (.getMeasurements o none) = (.measurements 7 [(o, s.measurement o)] none, s) := by
  have h0 : o ≠ 0 := by omega
  have h255 : o ≠ 255 := by omega
  refine (if_neg (Nat.not_lt.2 hs)).trans ?_
  rw [if_neg h0, if_neg h255, if_pos h7]
  rfl

end

end

end Sys2Proof.Machine

open Sys2Proof Sys2Proof.Machine

/-- Settles O55, from what each operation answers and what serving an admitted request leaves. The nonces and the session's number are free
values of the model (log 103), and the order of the checks is the model's choice (log 102). -/
theorem sessionsAndUnlock : Obligations.SessionsAndUnlock := by
  unfold Obligations.SessionsAndUnlock
  refine ⟨?opened, ?disabled, ?auth, ?close, ?timeout, ?next, ?long, ?unsealed, ?closed⟩
  case opened =>
    rintro s a t u r c n q role x m rfl h hs hk h1 h8 hen hl hx hm
    exact h.next_dopServe_ok (act := fun s _ => sessionOpen (opReq r 0x10 (sessionData c.toNat n.toNat)) s)
      (sessionOpen_opened (n := n.toNat) rfl hs hk h1 h8 hen hl hx hm)
  case disabled =>
    rintro s a r c n q role rfl h hs hk h1 h8 hen
    exact h.next_dopServe_error (act := fun s _ => sessionOpen (opReq r 0x10 (sessionData c.toNat n.toNat)) s)
      (sessionOpen_disabled (n := n.toNat) rfl hs hk h1 h8 hen)
  case auth =>
    rintro s a r g q role x rfl h hp
    have hl : (opReq r 0x11 (leBytes 64 g.toNat)).data.length = 64 := leBytes_length 64 g.toNat
    by_cases hv : Config.ed25519Verify (a.credKey x.cred) (a.sessionMessage x.modNonce x.reqNonce x.id)
        (opReq r 0x11 (leBytes 64 g.toNat)).data = true
    · rw [if_pos hv]
      exact h.next_dopServe_ok (act := fun s _ => sessionAuth (opReq r 0x11 (leBytes 64 g.toNat)) s) (sessionAuth_verified hp hl hv)
    · rw [if_neg hv]
      exact h.next_dopServe_ok (act := fun s _ => sessionAuth (opReq r 0x11 (leBytes 64 g.toNat)) s)
        (sessionAuth_failed hp hl (Bool.eq_false_iff.2 hv))
  case close =>
    exact fun s a r role x h ho => h.next_dopServe_ok (act := fun s _ => sessionClose (opReq r 0x12 []) s) (sessionClose_open ho rfl)
  case timeout => exact fun s src i => rfl
  case next => exact fun s a r p role h hl => h.next_dopServe_ok (act := fun s _ => mctpPacket (opReq r 0x18 p) s) (mctpPacket_empty hl)
  case long => exact fun s a r p role h hl => h.next_dopServe_error (act := fun s _ => mctpPacket (opReq r 0x18 p) s) (mctpPacket_long hl)
  case unsealed =>
    intro s a r g role h hrole hu
    change _ = Host.Outcome.next (if a.unlocks g.toNat = true then _ else _)
    by_cases hg : a.unlocks g.toNat = true
    · have hact := (debugUnlockAct_written (r := r) hrole).trans (congrArg Except.ok (debugUnlock_unlocks hu hg))
      rw [if_pos hg]
      exact h.next_dopServe_ok (act := debugUnlockAct (writeReq r 0x1040 2 g.toNat)) hact
    · have hact := (debugUnlockAct_written (r := r) hrole).trans
        (congrArg Except.ok (debugUnlock_refused (a := a) (.inr (Bool.eq_false_iff.2 hg))))
      rw [if_neg hg]
      exact h.next_dopServe_ok (act := debugUnlockAct (writeReq r 0x1040 2 g.toNat)) hact
  case closed =>
    intro s a r g role h hrole hu
    have hact := (debugUnlockAct_written (r := r) (g := g) hrole).trans (congrArg Except.ok (debugUnlock_refused (.inl hu)))
    exact h.next_dopServe_ok (act := debugUnlockAct (writeReq r 0x1040 2 g.toNat)) hact

/-- Settles O56, from what each request answers at its stage. -/
theorem spdmExchanges : Obligations.SpdmExchanges := by
  unfold Obligations.SpdmExchanges
  refine ⟨?version, ?capabilities, ?early, ?algorithms, ?digests, ?certificate, ?challenge, ?count, ?block, ?down⟩
  case version => exact fun s c h2 => congrArg Host.Outcome.next (State.spdmServe_answered h2 rfl)
  case capabilities =>
    exact fun s c v h2 hs hv => congrArg Host.Outcome.next (State.spdmServe_answered h2 (State.spdmAnswer_capabilities hs hv))
  case early => exact fun s c v h2 hs => congrArg Host.Outcome.next (State.spdmServe_answered h2 (State.spdmAnswer_early hs))
  case algorithms =>
    exact fun s c e h h2 hs heh => congrArg Host.Outcome.next (State.spdmServe_answered h2 (State.spdmAnswer_algorithms hs heh))
  case digests => exact fun s c x h2 hs hx => congrArg Host.Outcome.next (State.spdmServe_answered h2 (State.spdmAnswer_digests hs hx))
  case certificate =>
    rintro s c o n x p h2 hs hx ho rfl
    exact congrArg Host.Outcome.next (State.spdmServe_answered h2 (State.spdmAnswer_certificate hs hx ho))
  case challenge => exact fun s c n h2 hs hx => congrArg Host.Outcome.next (State.spdmServe_answered h2 (State.spdmAnswer_challenge hs hx))
  case count => exact fun s c h2 hs => congrArg Host.Outcome.next (State.spdmServe_answered h2 (State.spdmAnswer_count hs))
  case block => exact fun s c o h2 hs h1 h7 => congrArg Host.Outcome.next (State.spdmServe_answered h2 (State.spdmAnswer_block hs h1 h7))
  case down =>
    exact fun s c h2 => ⟨congrArg Host.Outcome.next (State.spdmServe_down h2), congrArg Host.Outcome.next (State.spdmServe_down h2)⟩

end

section
/-!
PROOFS. The messages that TIME and JOB frames carry, by the row that takes each (R368, R369, R447).
-/

namespace Sys2Proof.Machine

section
variable {s : State} {f : Nat} {b pl : List Byte} {p : List Byte → Bool}

/-- A TIME frame is taken by the row of its message (R368). -/
theorem next_timeTake (h : s.marginKind f b = .frame 0x11 pl) (hp : p pl = true) :
    (.next (s.timeTake f b p) : Out) = .next (pumpMargin (onTime (s.marginHop f b) f pl) f) := by
  have htake : s.timeTake f b p = s.marginTake f 0x11 b (fun s pl => onTime s f pl) := by
    simp only [State.timeTake, h, hp, if_true]
  rw [htake]
  exact next_marginTake_frame h (onTime · f)

/-- A JOB frame is taken by the row of its KIND (R447). -/
theorem next_jobTake (h : s.marginKind f b = .frame 0x12 pl) (hp : p pl = true) :
    (.next (s.jobTake f b p) : Out) = .next (pumpMargin (onJob (s.marginHop f b) f pl) f) := by
  have htake : s.jobTake f b p = s.marginTake f 0x12 b (fun s pl => onJob s f pl) := by
    simp only [State.jobTake, h, hp, if_true]
  rw [htake]
  exact next_marginTake_frame h (onJob · f)

end

end Sys2Proof.Machine

open Sys2Proof Sys2Proof.Machine

/-- Settles O28: each row takes the frame whose message it names. -/
theorem timeAndJobFramesTaken : Obligations.TimeAndJobFramesTaken := by
  unfold Obligations.TimeAndJobFramesTaken
  refine ⟨?sync, ?delayReq, ?delayResp, ?announce, ?ack, ?share, ?commit, ?cancel, ?teardown, ?abort⟩
  case sync => exact fun s f b pl h ht => next_timeTake h (decide_eq_true ht)
  case delayReq => exact fun s f b pl h ht => next_timeTake h (decide_eq_true ht)
  case delayResp => exact fun s f b pl h ht => next_timeTake h (decide_eq_true ht)
  case announce => exact fun s f b pl h ht => next_timeTake h (by rw [ht]; rfl)
  case ack => exact fun s f b pl h hk => next_jobTake h (by rw [hk]; rfl)
  case share => exact fun s f b pl h hk => next_jobTake h (decide_eq_true hk)
  case commit => exact fun s f b pl h hk => next_jobTake h (decide_eq_true hk)
  case cancel => exact fun s f b pl h hk => next_jobTake h (decide_eq_true hk)
  case teardown => exact fun s f b pl h hk => next_jobTake h (decide_eq_true hk)
  case abort => exact fun s f b pl h hk => next_jobTake h (decide_eq_true hk)

end

section
/-!
PROOFS. The boundary scan, the tamper sensors, the seal, and the records of Chop (R427 to R440).
-/

namespace Sys2Proof.Machine

/-! ### Sensors -/

/-- What every firing of a sensor leaves, before its policy: a record, its flag and its count (R430). -/
def State.sensorNoted (s : State) (k : Nat) : State :=
  ((s.logEvent (unitId 0x12 0) 9 4 k).setFlag 0x6181 (k - 1)).modSec (fun x => { x with sensorCount := x.sensorCount.upd 0 k (· + 1) })

section
variable (s : State) {k : Nat}

theorem State.sensorNoted_param (k x y : Nat) : (s.sensorNoted k).param x y = s.param x y := by
  simp only [State.sensorNoted, State.param_modSec, State.param_setFlag]
  rw [State.param, State.logEvent_params]
  rfl

theorem State.sensorNoted_codex (k : Nat) : (s.sensorNoted k).codex = s.codex := by
  simp only [State.sensorNoted, State.modSec_codex, State.setFlag_codex, State.logEvent_codex]

theorem State.sensorNoted_boot (k : Nat) : (s.sensorNoted k).boot = s.boot := by
  simp only [State.sensorNoted, State.modSec_boot, State.setFlag_boot, State.logEvent_boot]

theorem State.sensorNoted_mem (k : Nat) : (s.sensorNoted k).mem = s.mem := by
  simp only [State.sensorNoted, State.modSec_mem, State.setFlag_mem, State.logEvent_mem]

theorem State.sensorNoted_flag (k : Fin 7) : (s.sensorNoted (1 + k.val)).flag 0x6181 k = true := by
  rw [State.sensorNoted, Nat.add_sub_cancel_left, State.flag_modSec]
  exact State.flag_setFlag_same _ _ _ (by omega)

theorem State.sensorNoted_count (k : Nat) : (s.sensorNoted k).sec.sensorCount.get 0 k = s.sec.sensorCount.get 0 k + 1 := by
  rw [State.sensorNoted, State.modSec_sec, State.setFlag_sec, State.logEvent_sec]
  exact Tab.get_upd_same s.sec.sensorCount (· + 1)

theorem State.sensorActs_record (h : s.param 0x1030 k = 0) : s.sensorActs k = s.sensorNoted k := by
  have hp := (s.sensorNoted_param k 0x1030 k).trans h
  rw [State.sensorNoted] at hp ⊢
  simp only [State.sensorActs, hp]

theorem State.sensorActs_erase (h : s.param 0x1030 k = 1) : s.sensorActs k = (s.sensorNoted k).eraseKeys := by
  have hp := (s.sensorNoted_param k 0x1030 k).trans h
  rw [State.sensorNoted] at hp ⊢
  simp only [State.sensorActs, hp]

/-- An erasure ends the sessions, the identity and any debug unlock, and nothing else of the state (R430). -/
theorem State.eraseKeys_spec : s.eraseKeys.codex.sessions = [] ∧ s.eraseKeys.boot.identity = false ∧ s.eraseKeys.sec.erased = true ∧
    s.eraseKeys.sec.unlocked = false ∧ s.eraseKeys.mem = s.mem ∧ s.eraseKeys.flags = s.flags ∧
    s.eraseKeys.sec.sensorCount = s.sec.sensorCount := ⟨rfl, rfl, rfl, rfl, rfl, rfl, rfl⟩

end

theorem exec_tamperSensorFire_powered {s : State} {k : Fin 7} (hp : s.powered = true) :
    exec (.tamperSensorFire k) s = .next (s.sensorFires (1 + k.val)) := by
  change execTamperSensorFire k s = _
  simp only [execTamperSensorFire, hp, if_true]

/-- Once its policies are loaded a sensor acts at once (R430). -/
theorem exec_tamperSensorFire_acts {s : State} {k : Fin 7} (hp : s.powered = true) (h3 : s.boot.done.getLsbD 3 = true) :
    exec (.tamperSensorFire k) s = .next (s.sensorActs (1 + k.val)) := by
  rw [exec_tamperSensorFire_powered hp, State.sensorFires, if_pos h3]

/-! ### The seal -/

section
variable (s : State)

@[simp] theorem State.setFlagIf_sec (c : Bool) (i b : Nat) : (s.setFlagIf c i b).sec = s.sec := by
  obtain ⟨_, h⟩ := s.setFlagIf_rest c i b
  rw [h]

@[simp] theorem State.setFlagIf_chop (c : Bool) (i b : Nat) : (s.setFlagIf c i b).chop = s.chop := by
  obtain ⟨_, h⟩ := s.setFlagIf_rest c i b
  rw [h]

/-- A record that closes leaves the security state. -/
theorem State.closeRecord_sec (short : Bool) (m : Metered) : (s.closeRecord short m).sec = s.sec := by
  unfold State.closeRecord
  dsimp only
  split
  · rfl
  · simp only [State.modChop_sec, State.setFlagIf_sec]

/-- A record that closes leaves the state of the seal. -/
theorem State.closeRecord_unsealed (short : Bool) (m : Metered) : (s.closeRecord short m).chop.unsealed = s.chop.unsealed := by
  unfold State.closeRecord
  dsimp only
  split
  · rfl
  · simp only [State.modChop_chop, State.setFlagIf_chop]

/-- The state after the seal has changed and its record has closed, with its flag set (R439). -/
def State.sealMoved (x : Bool) (m : Metered) : State :=
  (((s.modChop (fun c => { c with unsealed := x })).closeRecord true m).modChop (fun c =>
    { c.auditUp with openPart := c.openPart || x })).chopFlag 5

variable {s} {x : Bool} {m : Metered}

theorem exec_sealChange_moved (hr : s.chop.running = true) (hu : s.chop.unsealed ≠ x) : exec (.sealChange x m) s =
    .next (if x then s.sealMoved x m else (s.sealMoved x m).modSec (fun x => { x with unlocked := false })) := by
  change execSealChange x m s = _
  refine congrArg Host.Outcome.next (if_neg ?_)
  simp [hr, hu]

theorem exec_sealChange_same (h : s.chop.unsealed = x) : exec (.sealChange x m) s = .next s := by
  change execSealChange x m s = _
  exact congrArg Host.Outcome.next (if_pos (by simp [h]))

theorem State.sealMoved_sec : (s.sealMoved x m).sec = s.sec := by
  rw [State.sealMoved, State.chopFlag, State.setFlag_sec, State.modChop_sec, State.closeRecord_sec, State.modChop_sec]

theorem State.sealMoved_unsealed : (s.sealMoved x m).chop.unsealed = x := by
  rw [State.sealMoved, State.chopFlag, State.setFlag_chop, State.modChop_chop]
  dsimp only [ChopSt.auditUp]
  rw [State.closeRecord_unsealed, State.modChop_chop]

theorem State.sealMoved_flag : (s.sealMoved x m).flag 0x1103 5 = true := State.flag_setFlag_same _ _ _ (by decide)

theorem State.sealMoved_openPart : (s.sealMoved true m).chop.openPart = true := Bool.or_true _

end

/-! ### Records -/

/-- The key's helper data start Chop where it reconstructs from them (R432). -/
theorem exec_chopStartupData_helper {s : State} {h : List Byte} (hr : s.chop.running = true) (h2 : s.boot.done.getLsbD 2 = true)
    (hn : s.chop.ready = false) (hd : dataPayload s.flash 0x0013 = some h) :
    exec .chopStartupData s = .next (if Config.chopReconstructs h = true then
      ((s.modChop (fun c => { c with keyReady := true, helper := h })).modChop (fun c =>
        { c with cal := c.cal <|> (dataPayload s.flash 0x0012).bind (calRecord c.pubKey) })).judgeRecord else s) := by
  change execChopStartupData s = _
  simp only [execChopStartupData, hr, h2, hn, hd]
  cases Config.chopReconstructs h <;> rfl

/-- A record that Scribe confirms is stored, and no longer held (R440). -/
theorem exec_recordStoreConfirm_held {s : State} {n : BitVec 32} {x : ChopRecord}
    (hx : s.chop.held.find? (fun y => y.no = n.toNat) = some x) (h2 : s.boot.done.getLsbD 2 = true) :
    exec (.recordStoreConfirm n) s = .next ((s.storeChop x).confirmRecord x.no) := by
  change execRecordStoreConfirm n s = _
  simp only [execRecordStoreConfirm, hx, h2, if_true]

end Sys2Proof.Machine

open Sys2Proof Sys2Proof.Machine

/-- Settles O57, from what a sensor's policy does and what a record that closes leaves. -/
theorem sensorsAndChop : Obligations.SensorsAndChop := by
  unfold Obligations.SensorsAndChop
  refine ⟨?extest, ?tapReset, ?recorded, ?erases, ?deferred, ?closes, ?opens, ?same, ?startup, ?feed, ?boundary, ?within, ?confirm⟩
  case extest => exact fun s hp => congrArg Host.Outcome.next (if_pos hp)
  case tapReset => exact fun s hb => congrArg Host.Outcome.next (if_pos hb)
  case recorded =>
    intro s k hp h3 h0
    refine ⟨s.sensorNoted (1 + k.val), ?_, s.sensorNoted_flag k, s.sensorNoted_count _, ?_, ?_, s.sensorNoted_mem _⟩
    · rw [exec_tamperSensorFire_acts hp h3, s.sensorActs_record h0]
    · rw [s.sensorNoted_codex]
    · rw [s.sensorNoted_boot]
  case erases =>
    intro s k hp h3 h1
    obtain ⟨hsessions, hid, herased, hunlocked, hmem, hflags, hcount⟩ := (s.sensorNoted (1 + k.val)).eraseKeys_spec
    refine ⟨(s.sensorNoted (1 + k.val)).eraseKeys, ?_, ?_, ?_, hsessions, hid, herased, hunlocked, hmem.trans (s.sensorNoted_mem _)⟩
    · rw [exec_tamperSensorFire_acts hp h3, s.sensorActs_erase h1]
    · rw [State.flag, State.flagObj, hflags]
      exact s.sensorNoted_flag k
    · rw [hcount]
      exact s.sensorNoted_count _
  case deferred =>
    intro s k hp h3
    rw [exec_tamperSensorFire_powered hp, State.sensorFires_early h3]
  case closes =>
    intro s m hr hu
    exact ⟨_, exec_sealChange_moved hr (by rw [hu]; decide), rfl, State.sealMoved_unsealed, State.sealMoved_flag⟩
  case opens =>
    intro s m hr hu
    exact ⟨_, exec_sealChange_moved hr (by rw [hu]; decide), congrArg SecSt.unlocked State.sealMoved_sec, State.sealMoved_unsealed,
      State.sealMoved_openPart, State.sealMoved_flag⟩
  case same => exact fun s x m h => exec_sealChange_same h
  case startup => exact fun s h hr h2 hn hd => exec_chopStartupData_helper hr h2 hn hd
  case feed => exact fun s x h => congrArg Host.Outcome.next (if_pos h)
  case boundary => exact fun s m h => congrArg Host.Outcome.next (if_pos h)
  case within => exact fun s m h => congrArg Host.Outcome.next (if_neg (by rw [h]; decide))
  case confirm => exact fun s n x hx h2 => ⟨_, exec_recordStoreConfirm_held hx h2, rfl, rfl⟩

end

section
/-!
PROOFS. What the instants of a job slot do, and the scrub of a torn down job's memory (R445 to R456).
-/

namespace Sys2Proof.Machine

section
variable {s : State} {j : Fin 4096}

theorem exec_commitDecision_due (hs : (s.slot j).state = .prepared) (hc : (s.slot j).coordinator = true)
    (hh : (s.slot j).commitHeld = false) (hd : (s.slot j).ackDeadline ≤ s.cellNow) :
    exec (.commitDecision j) s = .next (s.decideCommit j) := by
  change execCommitDecision j s = _
  exact if_pos (by simp only [hs, hc, hh, hd, Bool.not_false, decide_true, Bool.and_self])

theorem exec_jobGoLive_due (hs : (s.slot j).state = .prepared) (hh : (s.slot j).commitHeld = true)
    (hd : (s.slot j).startCell ≤ s.cellNow) : exec (.jobGoLive j) s = .next (s.goLive j) := by
  change execJobGoLive j s = _
  exact if_pos (by simp only [hs, hh, hd, decide_true, Bool.and_self])

/-- Only a prepared slot goes live or times out (R449, R450). -/
theorem exec_jobGoLive_notPrepared (hs : (s.slot j).state ≠ .prepared) : exec (.jobGoLive j) s = .next s := by
  change execJobGoLive j s = _
  exact if_neg (by simp [hs])

theorem exec_prepareTimeout_notPrepared (hs : (s.slot j).state ≠ .prepared) : exec (.prepareTimeout j) s = .next s := by
  change execPrepareTimeout j s = _
  exact if_neg (by simp [hs])

/-- A participant without COMMIT tells its set and its coordinator, and its preparation ends (R450). -/
theorem exec_prepareTimeout_participant (hs : (s.slot j).state = .prepared) (hh : (s.slot j).commitHeld = false)
    (hd : (s.slot j).startCell ≤ s.cellNow + s.guardCells) (hc : (s.slot j).coordinator = false) : exec (.prepareTimeout j) s =
      .next (((s.jobToSet j 7 7 s.cellNow 0 []).jobToMac j 7 7 (s.slot j).coordMac (s.jobToSet j 7 7 s.cellNow 0 []).cellNow 0
        ).prepareEnds j 7 2) := by
  change execPrepareTimeout j s = _
  unfold execPrepareTimeout
  dsimp only
  rw [if_pos (by simp only [hs, hh, hd, Bool.not_false, decide_true, Bool.and_self]), hc, if_neg Bool.false_ne_true]

theorem exec_drainEnd_drained (hs : (s.slot j).state = .draining) (hd : s.drained j = true) :
    exec (.drainEnd j) s = .next (s.endDrainJob j) := by
  change execDrainEnd j s = _
  exact if_pos (by simp only [hs, hd, decide_true, Bool.and_self])

theorem exec_drainEnd_busy (hd : s.drained j = false) : exec (.drainEnd j) s = .next s := by
  change execDrainEnd j s = _
  exact if_neg (by simp [hd])

theorem exec_quarantineEnd_due (hs : (s.slot j).state = .quarantine) (hv : s.service = true)
    (hd : (s.slot j).quarantineAt + s.quarantineCells ≤ s.cellNow) : exec (.quarantineEnd j) s =
      .next (s.updSlot j (fun y => { generation := y.generation, shadow := y.shadow, endReason := y.endReason })) := by
  change execQuarantineEnd j s = _
  exact if_pos (by simp only [hs, hv, hd, decide_true, Bool.and_self])

theorem exec_quarantineEnd_early (hd : s.cellNow < (s.slot j).quarantineAt + s.quarantineCells) :
    exec (.quarantineEnd j) s = .next s := by
  change execQuarantineEnd j s = _
  exact if_neg (by simp [Nat.not_le.2 hd])

theorem exec_jobShareSend_due (hs : (s.slot j).state = .prepared) (ho : (s.slot j).shareOwed = true)
    (hc : (s.slot j).coordinator = false) (hsp : (s.slot j).shareSpaced s.now = true) :
    exec (.jobShareSend j) s = .next (s.sendShare j) := by
  change execJobShareSend j s = _
  exact if_pos (by simp only [hs, ho, hc, hsp, Bool.not_false, decide_true, Bool.and_self])

/-- The range at the head of the scrub list becomes 0 and leaves the list (R454). -/
theorem exec_scrubRangeDone_due {r : Nat × Nat × Nat} {l : List (Nat × Nat × Nat)} (hl : s.faults.scrubList = r :: l)
    (h5 : s.boot.done.getLsbD 5 = true) (hd : r.2.2 * 1000 ≤ s.faults.scrubbed) : exec .scrubRangeDone s =
      .next ((s.modMem (fun m => m.zeroLpd (s.poolBase + r.2.1) r.2.2)).modFaults (fun x => { x with scrubList := l, scrubbed := 0 })) := by
  change execScrubRangeDone s = _
  simp only [execScrubRangeDone, hl, h5, Nat.not_lt.2 hd]
  rfl

theorem exec_scrubRangeDone_none (hl : s.faults.scrubList = []) : exec .scrubRangeDone s = .next s := by
  change execScrubRangeDone s = _
  simp only [execScrubRangeDone, hl]

end

end Sys2Proof.Machine

open Sys2Proof Sys2Proof.Machine

/-- Settles O58, from one rule for each instant, and what a scrub leaves of memory. -/
theorem jobInstants : Obligations.JobInstants := by
  unfold Obligations.JobInstants
  refine ⟨?commit, ?live, ?notPrepared, ?timeout, ?drained, ?busy, ?quarantine, ?early, ?scrub, ?clean, ?share⟩
  case commit => exact fun s j hs hc hh hd => exec_commitDecision_due hs hc hh hd
  case live => exact fun s j hs hh hd => exec_jobGoLive_due hs hh hd
  case notPrepared => exact fun s j hs => ⟨exec_jobGoLive_notPrepared hs, exec_prepareTimeout_notPrepared hs⟩
  case timeout => exact fun s j hs hh hd hc => exec_prepareTimeout_participant hs hh hd hc
  case drained => exact fun s j hs hd => exec_drainEnd_drained hs hd
  case busy => exact fun s j hd => exec_drainEnd_busy hd
  case quarantine =>
    intro s j hs hv hd
    refine ⟨_, exec_quarantineEnd_due hs hv hd, ?_⟩
    rw [State.slot_updSlot_same]
    exact ⟨rfl, rfl, rfl, rfl, rfl⟩
  case early => exact fun s j hd => exec_quarantineEnd_early hd
  case scrub =>
    exact fun s r l hl h5 hd => ⟨_, exec_scrubRangeDone_due hl h5 hd, rfl, fun a h1 h2 => MemSt.byte_zeroLpd_inside h1 h2,
      fun a ha => MemSt.byte_zeroLpd_other ha⟩
  case clean => exact fun s hl => exec_scrubRangeDone_none hl
  case share => exact fun s j hs ho hc hsp => exec_jobShareSend_due hs ho hc hsp

end

section
/-!
PROOFS. Unit faults, dumps, Proof tests, the fault history, and digests that time out (R457 to R473).
-/

namespace Sys2Proof.Machine

/-! ### Unit faults -/

theorem exec_unitFault_unit {s : State} {u : BitVec 16} {c : Fin 12} {d : BitVec 64} (hu : isUnit u.toNat = true)
    (hp : s.boot.phase ≠ .off) : exec (.unitFault u c d) s = .next (s.unitFault u.toNat c d.toNat false) := by
  change execUnitFault u c d s = _
  exact if_pos (by simp [hu, hp])

theorem exec_unitFault_noUnit {s : State} {u : BitVec 16} {c : Fin 12} {d : BitVec 64} (hu : isUnit u.toNat = false) :
    exec (.unitFault u c d) s = .next s := by
  change execUnitFault u c d s = _
  exact if_neg (by simp [hu])

/-! ### Dumps -/

theorem State.writeMem_faults (s : State) (a : Nat) (b : List Byte) : (s.writeMem a b).faults = s.faults := by
  obtain ⟨c, h⟩ := s.countPages_rest a 2 b.length
  rw [State.writeMem, State.modMem_faults, h]

/-- A dump's bytes go to memory, and nothing of the fault handling changes with them. -/
theorem State.writeDump_faults (s : State) (slot : Nat) (b : List Byte) : (s.writeDump slot b).faults = s.faults := by
  unfold State.writeDump
  split
  · rfl
  · exact State.forEach_keeps State.faults _ (fun t k => t.writeMem_faults _ _) _ s

/-- A dump begins with its magic number (R465). -/
theorem dumpBytes_magic (free cell no : Nat) (r : DumpRun) (result : Nat → Nat) :
    leAt (dumpBytes free cell no r result) 0 4 = 0x54544C42 := by
  have hlen : (leBytes 4 0x54544C42).length = 4 := leBytes_length 4 _
  have hslice : slice (dumpBytes free cell no r result) 0 4 = leBytes 4 0x54544C42 := by
    simp only [dumpBytes, slice, List.drop_zero, List.append_assoc]
    exact List.take_left' hlen
  rw [leAt, hslice, leNat_leBytes]
  rfl

/-- The bytes of a dump that every unit answers whole. -/
def State.wholeDump (s : State) (r : DumpRun) : List Byte := dumpBytes s.freeCount s.cellNow s.faults.dumpNo r (fun _ => 0)

/-- What the end of dump `no` leaves of the fault handling (R464, R465). -/
def FaultSt.dumpEnded (x : FaultSt) (r : DumpRun) (no size : Nat) : FaultSt :=
  { x with
    dumping := none, warmAfterDump := false, dumpNo := (no + 1) % 2 ^ 32
    dumps := x.dumps.put none r.slot (some { number := no, ended := true, size := size }), selected := r.slot }

/-- The state after a dump that every unit answers: its bytes stand in its slot (R464). -/
def State.dumpWritten (s : State) (r : DumpRun) : State := ({ s with freeCount := s.freeCount + 1 } : State).writeDump r.slot (s.wholeDump r)

theorem State.dumpWritten_faults (s : State) (r : DumpRun) : (s.dumpWritten r).faults = s.faults := State.writeDump_faults _ _ _

/-- A dump that every unit answers ends with no unit fault; where no warm start waits for it, none follows (R464). -/
theorem exec_blotterDumpEnd_whole {s : State} {r : DumpRun} (hd : s.faults.dumping = some r) (hw : s.faults.warmAfterDump = false) :
    exec (.blotterDumpEnd [] [] []) s =
      .next ((s.dumpWritten r).modFaults (fun x => x.dumpEnded r s.faults.dumpNo (s.wholeDump r).length)) := by
  have hwarm := (congrArg FaultSt.warmAfterDump (s.dumpWritten_faults r)).trans hw
  change execBlotterDumpEnd [] [] [] s = _
  simp only [State.dumpWritten, State.wholeDump] at hwarm ⊢
  simp [execBlotterDumpEnd, hd, hwarm, State.forEach, FaultSt.dumpEnded]

theorem exec_blotterDumpEnd_none {s : State} (hd : s.faults.dumping = none) : exec (.blotterDumpEnd [] [] []) s = .next s := by
  change execBlotterDumpEnd [] [] [] s = _
  simp only [execBlotterDumpEnd, hd]

/-! ### Proof -/

theorem exec_proofPeriodStart_due {s : State} (hp : s.param 0x2481 1 ≠ 0) (h2 : s.boot.done.getLsbD 2 = true) :
    exec .proofPeriodStart s = .next ((s.modFaults (fun x => { x with proofNext := (x.proofNext + 1) % 42 })).askProof
      ((proofUnits[s.faults.proofNext % 42]?).getD 0)) := by
  change execProofPeriodStart s = _
  exact if_neg (by simp only [hp, h2]; decide)

theorem exec_proofPeriodStart_off {s : State} (hp : s.param 0x2481 1 = 0) : exec .proofPeriodStart s = .next s := by
  change execProofPeriodStart s = _
  exact if_pos (by simp [hp])

/-- The unit number of a Nib spells its kind and its place (R15). -/
theorem nibUnit_fields (k : Fin 32) : (0x0A00 + k.val) / 256 = 0x0A ∧ (0x0A00 + k.val) % 256 = k.val := by omega

/-- A Nib's test that passes, once its array is empty, ends the open window's test alone (R467). -/
theorem exec_proofResult_nibPassed {s : State} {k : Fin 32} (hu : s.faults.proofUnit = some (0x0A00 + k.val))
    (ho : s.faults.proofOpen = true) (hp : (s.nib k).passes.any (·.started) = false) : exec (.proofResult true) s =
      .next ((s.proofPassed (0x0A00 + k.val)).modFaults (fun x => { x with proofOpen := false })).proofNext := by
  obtain ⟨hkind, hplace⟩ := nibUnit_fields k
  change execProofResult true s = _
  simp only [execProofResult, hu, ho, hkind, hplace, hp]
  rfl

theorem exec_proofResult_none {s : State} {pass : Bool} (hu : s.faults.proofUnit = none) : exec (.proofResult pass) s = .next s := by
  change execProofResult pass s = _
  simp only [execProofResult, hu]

/-- T of a unit that is not a Nib, and is out of service: it is withdrawn from the planes' matching (R192, R466). -/
theorem exec_proofWindowOpen_out {s : State} {u : Nat} {t : Nat × Nat} (hu : s.faults.proofUnit = some u) (hT : s.faults.proofT = some t)
    (ho : s.faults.proofOpen = false) (ht : toNs t ≤ toNs (s.time.sec, s.time.ns)) (h3 : (s.unit u).state = 3) (hn : u / 256 ≠ 0x0A) :
    exec .proofWindowOpen s = .next ((s.modFaults (fun x => { x with proofOpen := true })).modCore (fun c =>
      { c with noMatch := c.noMatch ||| BitVec.ofNat 10 (2 ^ (u % 256)),
               restoring := c.restoring &&& ~~~(BitVec.ofNat 10 (2 ^ (u % 256))) })) := by
  have hstate : ((s.modFaults (fun x => { x with proofOpen := true })).unit u).state = 3 := h3
  change execProofWindowOpen s = _
  simp [execProofWindowOpen, hu, hT, ho, Nat.not_lt.2 ht, hstate, hn]

theorem exec_proofWindowOpen_early {s : State} {t : Nat × Nat} (hT : s.faults.proofT = some t)
    (ht : toNs (s.time.sec, s.time.ns) < toNs t) : exec .proofWindowOpen s = .next s := by
  change execProofWindowOpen s = _
  cases hu : s.faults.proofUnit with
  | none => simp only [execProofWindowOpen, hu]
  | some u => simp [execProofWindowOpen, hu, hT, ht]

/-- A Nib's window ends: it takes work again, and the next test is taken in hand (R277). -/
theorem exec_proofWindowEnd_nib {s : State} {k : Fin 32} (hu : s.faults.proofUnit = some (0x0A00 + k.val))
    (hw : (s.nib k).window = true) : exec .proofWindowEnd s =
      .next (((s.updNib k (fun x => { x with window := false, windowed := x.windowTime s.now })).updUnit (0x0A00 + k.val) (fun x =>
        { x with state := if x.state = 2 then 0 else x.state })).modFaults (fun x =>
        { x with proofUnit := none, proofT := none, proofOpen := false })).proofNext := by
  obtain ⟨hkind, hplace⟩ := nibUnit_fields k
  change execProofWindowEnd s = _
  unfold execProofWindowEnd
  rw [hu]
  dsimp only
  rw [hkind, hplace, if_neg (by simp [hw])]

/-! ### History, health and digests -/

/-- The changed history is written where none was, or the last write is 60 s old (R468). -/
theorem exec_faultHistoryWrite_due {s : State} (h2 : s.boot.done.getLsbD 2 = true) (hd : s.faults.historyDirty = true)
    (ht : s.faults.historyAt = none ∨ ∃ t, s.faults.historyAt = some t ∧ t + 60 * 10 ^ 12 ≤ s.now) :
    exec .faultHistoryWrite s = .next (s.writeHistory.modFaults (fun x => { x with historyAt := some s.now })) := by
  have hall : s.faults.historyAt.all (fun t => t + 60 * 10 ^ 12 ≤ s.now) = true := by
    rcases ht with h | ⟨t, h, hle⟩
    · rw [h]
      rfl
    · rw [h, Option.all_some, decide_eq_true hle]
  change execFaultHistoryWrite s = _
  exact if_pos (by rw [h2, hd, hall]; rfl)

theorem exec_faultHistoryWrite_early {s : State} {t : Nat} (h : s.faults.historyAt = some t) (ht : s.now < t + 60 * 10 ^ 12) :
    exec .faultHistoryWrite s = .next s := by
  have hall : s.faults.historyAt.all (fun t => t + 60 * 10 ^ 12 ≤ s.now) = false := by
    rw [h, Option.all_some, decide_eq_false (Nat.not_le.2 ht)]
  change execFaultHistoryWrite s = _
  exact if_neg (by rw [hall, Bool.and_false]; decide)

theorem exec_faultHistoryWrite_clean {s : State} (hd : s.faults.historyDirty = false) : exec .faultHistoryWrite s = .next s := by
  change execFaultHistoryWrite s = _
  exact if_neg (by rw [hd, Bool.and_false, Bool.false_and]; decide)

/-- At the end of a whole day that has not been counted every weight decays (R469). -/
theorem exec_healthDecay_day {s t : State} (h0 : s.faultSeconds % 86400 = 0) (hday : s.faultSeconds / 86400 ≠ s.faults.decayedDay)
    (ht : t = s.modFaults (fun x => { x with decayedDay := s.faultSeconds / 86400 })) :
    exec .healthDecay s = .next (t.forEach t.faults.units.keys (fun s u => (s.updUnit u (fun x =>
      { x with wT := decayed x.wT, wP := decayed x.wP, wF := decayed x.wF, wC := decayed x.wC })).reviewHealth u)) := by
  subst ht
  change execHealthDecay s = _
  exact if_neg (by simp [h0, hday])

theorem exec_digestTimeout_own {s : State} {h : BitVec 24} {c : BitVec 32} {x : Nat × Nat × Nat}
    (hx : s.faults.ownDigests.find? (fun x => x.1 = h.toNat * 2 ^ 32 + c.toNat) = some x)
    (ht : x.2.2 + recTimeout (s.slot (jobSlot h.toNat)).record.coll * 1000000 ≤ s.now) :
    exec (.digestTimeout true h c) s = .next (s.modFaults (fun y => { y with ownDigests := y.ownDigests.erase x })).digestMissed := by
  change execDigestTimeout true h c s = _
  unfold execDigestTimeout
  dsimp only
  rw [if_pos rfl, hx]
  dsimp only
  rw [if_neg (Nat.not_lt.2 ht)]
  rfl

end Sys2Proof.Machine

open Sys2Proof Sys2Proof.Machine

/-- Settles O59, from one rule for each case, and what a dump's end leaves of the fault handling. -/
theorem faultHandling : Obligations.FaultHandling := by
  unfold Obligations.FaultHandling
  refine ⟨?fault, ?noUnit, ?dump, ?noDump, ?period, ?periodOff, ?passed, ?noTest, ?history, ?historyEarly, ?historyClean, ?decay, ?digest,
    ?windowOpen, ?windowEarly, ?windowEnd⟩
  case fault => exact fun s u c d hu hp => exec_unitFault_unit hu hp
  case noUnit => exact fun s u c d hu => exec_unitFault_noUnit hu
  case dump =>
    intro s r hd hw
    refine ⟨_, exec_blotterDumpEnd_whole hd hw, rfl, rfl, rfl, s.wholeDump r, ?_, dumpBytes_magic _ _ _ _ _⟩
    rw [State.modFaults_faults, FaultSt.dumpEnded, Tab.get_put_same]
  case noDump => exact fun s hd => exec_blotterDumpEnd_none hd
  case period => exact fun s hp h2 => exec_proofPeriodStart_due hp h2
  case periodOff => exact fun s hp => exec_proofPeriodStart_off hp
  case passed => exact fun s k hu ho hp => exec_proofResult_nibPassed hu ho hp
  case noTest => exact fun s hu => ⟨exec_proofResult_none hu, exec_proofResult_none hu⟩
  case history => exact fun s h2 hd ht => exec_faultHistoryWrite_due h2 hd ht
  case historyEarly => exact fun s t h ht => exec_faultHistoryWrite_early h ht
  case historyClean => exact fun s hd => exec_faultHistoryWrite_clean hd
  case decay => exact fun s t h0 hday ht => exec_healthDecay_day h0 hday ht
  case digest => exact fun s h c x hx ht => exec_digestTimeout_own hx ht
  case windowOpen => exact fun s u t k _ hu hT ho ht h3 hn => exec_proofWindowOpen_out hu hT ho ht h3 hn
  case windowEarly => exact fun s t hT ht => exec_proofWindowOpen_early hT ht
  case windowEnd => exact fun s k hu hw => exec_proofWindowEnd_nib hu hw

end
